-- ==== Sys2Proof/Word.lean ====
section
/-! DEFINITION. The machine's words: 32-bit register and message words (R5, R17), 64-bit engine
registers (R139) and single bytes of memory (R18). -/

namespace Sys2Proof

/-- A 32-bit word: every register, every word of a message, a record or a slot. -/
abbrev Word := BitVec 32

/-- A 64-bit word: a general register of a block engine (R139), a station time (R9). -/
abbrev Word64 := BitVec 64

/-- One byte of memory. -/
abbrev Byte := BitVec 8

end Sys2Proof
end

