-- ==== Sys2Proof/Machine/SMap.lean ====
section
/-! DEFINITION. A sparse table: a list of (key, value) pairs in one canonical form. Keys rise
strictly, and no entry holds the table's default, so that equal tables are equal data. Memory, the
register store and every indexed set of objects use it. -/

namespace Sys2Proof.Machine

/-- What table `m` holds at `k`: the entry, or the default `d` where none is listed. -/
def SMap.get {α : Type} (d : α) (k : Nat) : List (Nat × α) → α
  | [] => d
  | (j, v) :: m => if k < j then d else if k = j then v else SMap.get d k m

/-- What is left of a table above key `k`. -/
def SMap.above {α : Type} (k : Nat) : List (Nat × α) → List (Nat × α)
  | [] => []
  | (j, w) :: m => if j ≤ k then SMap.above k m else (j, w) :: m

/-- Table `m` with `v` at `k`. Writing the default removes the entry. -/
def SMap.set {α : Type} [DecidableEq α] (d : α) (k : Nat) (v : α) :
    List (Nat × α) → List (Nat × α)
  | [] => if v = d then [] else [(k, v)]
  | (j, w) :: m =>
    if k < j then (if v = d then (j, w) :: m else (k, v) :: (j, w) :: m)
    else if k = j then (if v = d then SMap.above k m else (k, v) :: m)
    else (j, w) :: SMap.set d k v m

/-- The canonical form, for the keys above `lo`. -/
def SMap.wfFrom {α : Type} [DecidableEq α] (d : α) : Option Nat → List (Nat × α) → Bool
  | _, [] => true
  | lo, (j, v) :: m =>
    (match lo with | none => true | some l => decide (l < j)) &&
      decide (v ≠ d) && SMap.wfFrom d (some j) m

/-- The canonical form: keys strictly rising, no entry equal to the default. -/
def SMap.wf {α : Type} [DecidableEq α] (d : α) (m : List (Nat × α)) : Bool :=
  SMap.wfFrom d none m

/-- The table changed at `k` by `f`. -/
def SMap.upd {α : Type} [DecidableEq α] (d : α) (k : Nat) (f : α → α) (m : List (Nat × α)) :
    List (Nat × α) :=
  SMap.set d k (f (SMap.get d k m)) m

end Sys2Proof.Machine
end

