-- ==== Sys2Proof/Machine/Parts.lean ====
section
/-! DEFINITION. The parts of the state that chapters 01 to 09 and 19 name outside the register
tables: modes and start-up, persistent state, station firmware and its mailboxes, partitions and
tasks, lanes, redundancy, queues, records and alarms. Every part is plain data. -/

namespace Sys2Proof.Machine

/-- What a module waiting in BOOT waits for, as the panel shows it (R47, R49, R235). -/
inductive StartWait where
  | none | booting | odd | partnerSafe | partnerCommission | partnerStandby | asking | claimHeard
  | notOfPair | witnessAbsent | removed | stepFailed (step : Nat)
  deriving DecidableEq, Repr

/-- A node of the vessel-system map (R1 to R3): its number, what it is (0 station module; 1 remote I/O unit; 2 witness), and
the station (by its node number), segment and zone in which it stands. -/
structure VesselNode where
  node : Nat
  kind : Nat := 0
  station : Nat := 0
  segment : Nat := 0
  zone : Nat := 0
  deriving DecidableEq, Repr

/-- Contacts and supplies of the module (R61, R234, R600). -/
structure Pins where
  slot : Nat := 0
  even : Bool := true
  pair : Bool := false
  presS : Bool := true
  /-- PRES_S has been closed for 100 ms since it last opened (R236). -/
  seated : Bool := true
  partnerIn : Bool := false
  /-- CAN ports that are not fitted (R19, R541). -/
  canAbsent : List Nat := []
  in0 : Bool := true
  in1 : Bool := true
  deriving DecidableEq, Repr

/-- A request whose answer waits: its mailbox and its number among the requests taken from that
mailbox (R81). -/
structure Deferred where
  mbx : Nat
  id : Nat
  deriving DecidableEq, Repr

/-- A register access that waits for its slow domain (R68): its master and partition, the register, and for a write
its value. A lane's load names the register it fills and its type code. -/
structure SlowAcc where
  master : Nat
  part : Nat
  key : Nat
  write : Bool
  val : Word := 0
  lane : Option Nat := none
  dest : Option (Nat × Nat) := none
  deriving DecidableEq, Repr

/-- Modes, start-up, the trade cycle and the event matrix (R23, R33 to R37, R42 to R48). -/
structure Sys where
  pins : Pins := {}
  /-- Event count of each sink's divider (R37). -/
  divs : List (Nat × Nat) := []
  /-- Fabric clock of the last trade-cycle start, and the 250 µs ticks since it. -/
  tc0 : Nat := 0
  tick : Nat := 0
  /-- Trade cycles since reset (R199, R231). -/
  cycles : Nat := 0
  /-- Mode scheduled for the next trade-cycle boundary, with the mailbox that asked (255: none). -/
  modeAt : Option (Nat × Nat) := none
  /-- A COMMISSION request from ACTIVE that waits for the Enter key (R43). -/
  confirm : Option Deferred := none
  wait : StartWait := .booting
  /-- Seconds of partner and witness polls in this wait (R47). -/
  polls : Nat := 0
  /-- The commissioning request of R48, and START MODE shown on the panel. -/
  commReq : Bool := false
  startShown : Bool := false
  /-- An IMG_SELECT was accepted in this stay in SERVICE (R54, cause 7). -/
  imgSel : Bool := false
  /-- In COMMISSION, whether Pliuz has started block code (R38). -/
  started : Bool := true
  /-- PREPARE REMOVAL was chosen on the panel (R552). -/
  removal : Bool := false
  holdup : Bool := false
  /-- Placement in force leaves a criticality-A task unplaced (R42). -/
  placeBad : Bool := false
  cfgValid : Bool := false
  node : Nat := 0
  peer : Nat := 0
  /-- The vessel-system map of the configuration in force (R3). -/
  vessel : List VesselNode := []
  /-- Ethernet ports on which the configuration enables mailbox 64 (R96). -/
  pliuz : List Nat := []
  appValid : Bool := false
  /-- Firmware alarms standing, each named by rule × 65 536 + object. -/
  alerts : List Nat := []
  /-- What the last register read returned to its master, and the accesses that wait for a slow domain: the model's
  own fields. -/
  rdata : Word := 0
  slow : List SlowAcc := []
  /-- Medium of the pair as boot loaded it (R195). -/
  medium : Bool := false
  deriving DecidableEq, Repr

/-- One notification held for a mailbox (R89): opcode and payload. -/
structure Ntf where
  op : Nat
  payload : List Word
  deriving DecidableEq, Repr

/-- An answer: status, flags beside those of delivery, and payload (R83, R87). -/
structure Answer where
  status : Nat
  flags : Nat := 0
  payload : List Word
  deriving DecidableEq, Repr

/-- A request taken whose response has not been placed: its number, tag, opcode, and its answer
once it is known. Each reserves one slot of the response ring (R82). -/
structure Taken where
  id : Nat
  tag : Nat
  op : Nat
  ans : Option Answer := none
  deriving DecidableEq, Repr

/-- Mailbox bookkeeping of station firmware (R81, R82, R86, R89). -/
structure Mbox where
  seqBase : Option Nat := none
  rspSeq : Nat := 0
  /-- Requests taken and not yet answered, in the order taken. -/
  line : List Taken := []
  nextId : Nat := 0
  held : List Ntf := []
  lost : Bool := false
  deriving DecidableEq, Repr

/-- One stage of a configuration session (R91, R95). -/
inductive Stage where
  /-- A configuration record: type × 2^24 + index, and its words. -/
  | record (key : Nat) (ws : List Word)
  | route (sink : Nat) (w : Word)
  | declare (task : Nat) (ws : List Word)
  | pin (task pair window : Nat)
  /-- A placement run: its cause, whether halted tasks return, its report, and the operating point it is made for (R108,
  R127, R574). -/
  | place (cause : Nat) (full : Bool) (report point : Nat)
  | budget (part task us quota : Nat)
  | safety (set off : Nat) (ws : List Word)
  | force (addr : Nat) (val : Word) (on : Bool)
  | timeStep (ns : Int)
  | online (ses : Nat)
  | archive (ws : List Word)
  | confirm (set : Nat) (val : Word)
  deriving DecidableEq, Repr

/-- An open configuration session (R91): scope 0–63 or 0xFF, its mailbox and its stages, and the project key with which its
sender was authenticated (R95). -/
structure Session where
  scope : Nat
  mbx : Nat
  stages : List Stage := []
  key : List Word := []
  deriving DecidableEq, Repr

/-- A commit on its way (R91, R92): its session and the session's scope, what it applies, when, and who waits for the
answer; mailbox 255 on the leeward module. -/
structure Commit where
  ses : Nat
  scope : Option Nat := none
  stages : List Stage
  /-- The boundary's earliest station time; none until the leeward module acknowledged. -/
  at_ : Option Nat := none
  /-- The leeward module has acknowledged, and an online change still loads its shadow bank (R169). -/
  acked : Bool := false
  who : Deferred
  deriving DecidableEq, Repr

/-- One slot of a task's point list or output list: a point with its address and width (R164, R165),
or a queue with its record count and record size (R249, R251). -/
inductive Slot where
  | point (addr : Nat) (wide : Bool)
  | queue (queue count size : Nat)
  deriving DecidableEq, Repr

/-- What an application image says of one task (R160, R163 to R166). -/
structure AppTask where
  task : Nat
  decl : List Word := []
  inputs : List Slot := []
  outputs : List Slot := []
  initial : List (Nat × Byte) := []
  retain : List (Nat × Nat) := []
  /-- Migration of an online change: old offset, new offset, size (R169). -/
  migrate : List (Nat × Nat × Nat) := []
  deriving DecidableEq, Repr

/-- What the configuration says of one alarm (R485 to R495): the manual gives the fields and not
their encoding in a record (log entry 109). -/
structure AlarmCfg where
  en : Bool := false
  /-- Source: none for the ALARM item, else the point. -/
  point : Option Nat := none
  cond : Nat := 0
  limit : Int := 0
  deadband : Int := 0
  onDelay : Nat := 0
  offDelay : Nat := 0
  suppress : Option Nat := none
  /-- 0 emergency alarm; 1 alarm; 2 warning; 3 caution. -/
  priority : Nat := 1
  /-- 0, 1, 2 for category A, B, C. -/
  category : Nat := 1
  escalate : Nat := 5
  ident : Word := 0
  inst : Nat := 0
  owner : Nat := 0
  deriving DecidableEq, Repr

/-- The squall record (R494, R495): window in s, threshold, chattering count, identifier. -/
structure SquallCfg where
  window : Nat := 10
  threshold : Nat := 10
  chatter : Nat := 5
  ident : Word := 0
  deriving DecidableEq, Repr

/-- What a checked image holds: tasks and code words of an application image, records of a
configuration image, and nothing a model can read for the other types (R51). -/
structure ImageBody where
  version : Nat := 0
  tasks : List AppTask := []
  /-- Code of each changed partition: partition, words from the bank start; the header's 64 are station firmware's (R166). -/
  code : List (Nat × List Word) := []
  records : List (Nat × List Word) := []
  startCommission : Bool := false
  /-- Node numbers of this module and its partner, and the vessel-system map (R2, R3): the manual gives the map and no
  record of it. -/
  node : Nat := 0
  peer : Nat := 0
  vessel : List VesselNode := []
  alarms : List (Nat × AlarmCfg) := []
  squall : SquallCfg := {}
  /-- Split mask of the engine pairs (R52). -/
  split : Nat := 0
  /-- Pairs for which this module serves as witness: the nodes of the even-slot and the odd-slot module (R208). -/
  served : List (Nat × Nat) := []
  /-- Ethernet ports on which Pliuz reaches mailbox 64 (R96): the manual gives the choice and no record of it. -/
  pliuz : List Nat := []
  /-- Partitions for which the configuration asks for the first page of SYS (R101). -/
  sysPage : List Nat := []
  deriving DecidableEq, Repr

/-- One slot of the image store: bytes written, the result of its check, and the project key that it was checked against
(R51). -/
structure ImgSlot where
  size : Nat := 0
  bytes : List (Nat × Byte) := []
  ok : Bool := false
  key : List Word := []
  body : ImageBody := {}
  deriving DecidableEq, Repr

/-- An image session: type, slot, size, closed, check done (R95). -/
structure ImgSes where
  type : Nat
  slot : Nat
  closed : Bool := false
  checked : Bool := false
  who : Nat := 0
  deriving DecidableEq, Repr

/-- A force in force or waiting for its boundary (R172, R175). -/
structure Force where
  addr : Nat
  val : Word
  output : Bool
  since : Word
  deriving DecidableEq, Repr

/-- An online change in progress (R168 to R171): its image and the slot that holds it, its changed partitions, whether
their shadow banks are loaded. -/
structure Online where
  body : ImageBody
  slot : Nat
  parts : List Nat
  loaded : Bool := false
  deriving DecidableEq, Repr

/-- Station firmware outside the registers (R76 to R97, R172). -/
structure Fw where
  mboxes : List (Nat × Mbox) := []
  roundNext : Nat := 0
  sessions : List (Nat × Option Session) := []
  commits : List Commit := []
  images : List (Nat × Option ImgSes) := []
  /-- The image store, by type × 2 + slot, and the slot in use of each type. -/
  store : List (Nat × ImgSlot) := []
  used : List (Nat × Nat) := []
  online : Option Online := none
  /-- Code bank in force of each partition (R170). -/
  banks : List (Nat × Nat) := []
  /-- Address of the connection that holds mailbox 64; whether it came over the service port. -/
  conn : Option Nat := none
  connService : Bool := false
  /-- The key with which the client of that connection was authenticated; empty for one without that chain (R95, R96). -/
  connKey : List Word := []
  /-- Requests of Pliuz left in the stream while the ring is full: opcode, tag, payload (R97). -/
  stream : List (Nat × Nat × List Word) := []
  /-- Slot images delivered to the receivers of mailboxes 64 to 67, newest first (R77, R97): the model's own field. -/
  delivered : List (Nat × List Word) := []
  /-- At the leeward module: requests of mailboxes 64 to 67 that the windward module has taken and not answered (R94):
  mailbox, tag, opcode. -/
  peerTaken : List (Nat × Nat × Nat) := []
  forces : List Force := []
  deriving DecidableEq, Repr

/-- A record on its way to EVR: kind, source and values, with its station time (R496, R501). -/
structure EvMsg where
  kind : Nat
  source : Nat
  time : Nat
  vals : List Word
  deriving DecidableEq, Repr

/-- Station firmware's persistent state in MRAM outside its laid-out regions (R14, R53, R73, R186,
R213): it survives every reset. -/
structure Nv where
  claim : Word := 0
  boots : Nat := 0
  service : Bool := false
  splitReq : Option Nat := none
  key : List Word := []
  rstIdx : Nat := 0
  /-- Records of what a reset won over (R46), which step 7 of boot makes. -/
  dropped : List EvMsg := []
  /-- Staged records that a supply loss left unwritten (R503). -/
  evLost : Nat := 0
  /-- Words 0 to 6 of the reset record that step 7 of boot writes (R54). -/
  rstRec : Option (List Word) := none
  pairMarks : Nat := 0
  bankMarks : Nat := 0
  pinMarks : Nat := 0
  pairFails : List (Nat × Nat) := []
  veers : Word := 0
  lull : Nat := 0
  resyncs : Nat := 0
  /-- Confirmed check value of each safety set, and the sets loaded (R53, R478). -/
  confirmed : List (Nat × Option Word) := []
  setWords : List (Nat × List Word) := []
  /-- Class L role password of each set as enrolled (R481). -/
  passwords : List (Nat × List Word) := []
  logSeq : Nat := 0
  logArchived : Nat := 0
  evrRead : Nat := 0
  evrReadSeq : Word := 0
  /-- Last eight valid closing times of each breaker, newest first (R360). -/
  closing : List (Nat × List Nat) := []
  ageingPoint : Nat := 0
  ageingMoves : Nat := 0
  esrBase : Nat := 0
  scapBase : Nat := 0
  wearHist : List (Nat × Nat) := []
  stageCycles : List (Nat × Nat) := []
  /-- Retained checkpoints: task and committed bytes by offset (R160). -/
  retain : List (Nat × List (Nat × Byte)) := []
  /-- Checkpoints of cold tasks with the persist flag (R231). -/
  ckpts : List (Nat × List Word) := []
  /-- The self-test plan in force, the last four reports, newest first, the identifier last given, and the head of a
  test that a reset cut short (R558, R568, R570). -/
  plan : Word := 0
  reports : List (List Word) := []
  reportId : Nat := 0
  cut : Option (List Word) := none
  /-- Worst path delay of the first measurement, ps (R571, R578). -/
  pathBase : Nat := 0
  /-- Contacts that failed a pin test: connector × 256 + contact; their channels are disabled (R567). -/
  badPins : List Nat := []
  /-- Reference closing time of each breaker, µs (R571). -/
  closeRef : List (Nat × Nat) := []
  /-- Days of ageing history by source: day and life consumed, newest first (R578); the sources that have raised their
  warning and their end of life. -/
  history : List (Nat × List (Nat × Nat)) := []
  warned : List Nat := []
  ended : List Nat := []
  day : Nat := 0
  /-- The remaining-life report in force (R578). -/
  life : List Word := []
  deriving DecidableEq, Repr

/-- A trigger waiting to start an activation: event source, 255 for the period, and the domain
angle at the trigger (R163). `order` is its place among the triggers of the station (R25). -/
structure Trig where
  src : Nat
  angle : Word := 0
  order : Nat := 0
  /-- The action slot it came from; 4 096 where none (R332). -/
  slot : Nat := 4096
  deriving DecidableEq, Repr

/-- Registers of one lane (R139). -/
structure Engine where
  g : List (Nat × Word64) := []
  ib : Word64 := 0
  cb : BitVec 40 := 0
  sb : BitVec 40 := 0
  pc : BitVec 40 := 0
  deriving DecidableEq, Repr

/-- Room reserved for an output queue slot: the queue, and for each record granted its descriptor
and small buffers (R251). -/
structure Resv where
  queue : Nat
  recs : List (Nat × List Nat)
  deriving DecidableEq, Repr

/-- An activation in progress (R26 to R28). -/
structure Act where
  task : Nat
  part : Nat
  trig : Trig
  /-- Instruction count and instructions since the last compare point (R177, R180). -/
  count : Nat := 0
  since : Nat := 0
  /-- Budget it started with, in fabric clocks (R114, R118). -/
  budget : Nat := 0
  bank : Nat := 0
  halted : Bool := false
  /-- Messages taken by each input queue slot (R249), and room reserved (R251). -/
  taken : List (Nat × List Nat) := []
  resv : List Resv := []
  /-- Completion asked, and waiting for the publish gate (R203) or for the marker (R204). -/
  gate : Bool := false
  /-- Forward sequence whose acknowledgement opens the gate. -/
  gateSeq : Nat := 0
  /-- Budget count at its suspension, and whether the budget ran out during a stall (R70, R111). -/
  used : Nat := 0
  exhausted : Bool := false
  /-- In a commanded veer (R226): 1 it began before the boundary at the former windward module, which goes on forwarding it;
  2 it goes on here with what that module forwards; 0 the module's mode decides. -/
  role : Nat := 0
  deriving DecidableEq, Repr

/-- One entry of an agreement buffer: instruction count, kind, value (R180). -/
structure AgrEntry where
  count : Nat
  kind : Nat
  val : Word64
  deriving DecidableEq, Repr

/-- One lane (R109): its registers, the window open on it, the activation on it, its agreement
buffer. -/
structure Lane where
  eng : Engine := {}
  window : Option Nat := none
  act : Option Act := none
  agr : List AgrEntry := []
  stalled : Bool := false
  /-- Fabric clock at which the slot overhead of its window ends (R110). -/
  openAt : Nat := 0
  deriving DecidableEq, Repr

/-- One declared task (R26, R117, R124, R131, R153, R159). -/
structure Task where
  decl : List Word := []
  app : Option AppTask := none
  pin : Option (Nat × Nat) := none
  /-- Budget set by BUDGET_SET, µs at 1 000 MHz; none: the declaration's (R118). -/
  budget : Option Nat := none
  halted : Bool := false
  traps : Nat := 0
  pending : Option Trig := none
  /-- A suspended activation with its registers (R111). -/
  susp : Option (Act × Engine) := none
  copying : Bool := false
  /-- Old base of an instance pair that is being moved (R129). -/
  oldBase : Option Nat := none
  /-- Commit count and time, and committed copy, of a pair whose place a new plan gave away (R117, R129). -/
  saved : Option (List Word × List Byte) := none
  skippedNow : Nat := 0
  /-- Code bank the task runs, and what the swaps that wait for its next step 1 give it, in their order (R170). -/
  bank : Nat := 0
  newApps : List AppTask := []
  /-- The pair of the old layout: its base and its bytes, kept until the first commit on the new code; and whether the new
  pair has been built beside it (R170). -/
  oldPair : Option (Nat × Nat) := none
  migrated : Bool := false
  /-- Whether its instance pair has been built since boot (R160). -/
  built : Bool := false
  deriving DecidableEq, Repr

/-- A placement request waiting for its run to end: cause, mailbox, and whether halted tasks return. -/
structure Placing where
  cause : Nat
  halted : Bool
  /-- Apply time of the plan, 0 for the first boundary. -/
  apply : Nat := 0
  deriving DecidableEq, Repr

/-- Partitions, plans and tasks (R99 to R136). -/
structure Prt where
  tasks : List (Nat × Task) := []
  lanes : List (Nat × Lane) := []
  /-- A plan that passed its check: its area (R108). -/
  planNext : Option Nat := none
  /-- Station point that takes effect with the next plan (R574). -/
  opNext : Option Nat := none
  /-- Station point that waits for the placement run made for it (R574). -/
  opWant : Option Nat := none
  /-- Report of the plan in the inactive area, and the tasks a PLACE_RUN returns to service with it
  (R127, R135). -/
  planReport : Option Nat := none
  restore : List Nat := []
  placing : List Placing := []
  /-- The last eight reports, newest first, and the identifier last given (R135). -/
  reports : List (Nat × List Word) := []
  reportId : Nat := 0
  /-- Partition budgets set by BUDGET_SET: window time in 50 µs units, descriptor quota (R118). -/
  partBudget : List (Nat × Option (Nat × Nat)) := []
  /-- DRAM credits used in this window, and partitions that wait (R119). -/
  dram : List (Nat × Nat) := []
  waiting : List Nat := []
  /-- Fallback plans by lost pair: the words of the plan area that are not 0 (R133). -/
  fallback : List (Nat × List (Nat × Word)) := []
  /-- PRT_PFINFO holds a first fault (R136). -/
  pfHeld : Bool := false
  /-- Bytes of the stacks of R155 that an activation has stored since it started: all others are undefined. -/
  stack : List (Nat × Nat) := []
  /-- Bank-15 share and DRAM instance area of each partition since reset, in bytes (R101, R125). -/
  room : List (Nat × (Nat × Nat)) := []
  deriving DecidableEq, Repr

/-- Lockstep and the debugger (R182 to R193). -/
structure Lks where
  /-- Armed injection of each pair: its kind (R193). -/
  armed : List (Nat × Nat) := []
  /-- Lane the debugger holds. -/
  attached : Option Nat := none
  /-- A halt command that waits for an instruction boundary, and the instructions left of a step command (R190, R191). -/
  haltReq : Bool := false
  steps : Nat := 0
  /-- Task of the activation that steps. -/
  stepTask : Option Nat := none
  deriving DecidableEq, Repr

/-- An ask under way at this module (R47, R211). -/
structure Ask where
  cause : Nat
  second : Bool := false
  deriving DecidableEq, Repr

/-- A commanded veer pending (R226): acknowledged or not, boundary B, and who waits. -/
structure VeerReq where
  acked : Bool
  at_ : Nat
  who : Deferred
  deriving DecidableEq, Repr

/-- A probe outstanding at a witness: its requester, the claim and the tag of the ask, and the probe number (R210). -/
structure Probe where
  requester : Nat
  claim : Nat
  tag : Nat
  number : Nat
  deriving DecidableEq, Repr

/-- What this module, as a witness, holds of one station (R210). -/
structure WitRec where
  claim : Nat := 0
  nodeE : Nat := 0
  nodeO : Nat := 0
  /-- Station time at which a claim of either module was last heard. -/
  heard : Option Nat := none
  probe : Option Probe := none
  /-- Times of the claim resets heard from the two modules (R210, R216). -/
  resetE : Option Nat := none
  resetO : Option Nat := none
  deriving DecidableEq, Repr

/-- One output stage of an integral unit (R215, R216): the highest claim seen, the claims its own claim
line, its barrier frames and the other module's claim line carry, and its mode: 0 off; 1 drives; 2 holds
its last value without a link; 3 silence state; 4 without supply. -/
structure OutStage where
  h : Word := 0
  own : Word := 0
  frame : Word := 0
  other : Word := 0
  /-- The claim that its barrier frames last carried, claim-reset frames among them. -/
  seen : Word := 0
  mode : Nat := 0
  /-- Its own claim has won and the 5 µs of the hand-over run. -/
  winning : Bool := false
  /-- A claim reset has held its two conditions since it began (R216). -/
  resetOk : Bool := false
  deriving DecidableEq, Repr

/-- A forwarded item: its forward sequence, its kind, its words, and the station time of its arrival (R202, R204,
R205). -/
structure FwdItem where
  seq : Nat
  kind : Nat
  ws : List Word
  at_ : Nat := 0
  deriving DecidableEq, Repr

/-- A checkpoint copy under way: task and the commit count it copies (R231). -/
structure CkptCopy where
  task : Nat
  commits : Nat
  deriving DecidableEq, Repr

/-- A set received by PAIR_PREPARE and not yet acknowledged (R92): tag, kind and stages, and whether the leeward module
could not take it up. -/
structure Prepared where
  tag : Nat
  kind : Nat
  stages : List Stage
  deriving DecidableEq, Repr

/-- Redundancy: link, heartbeats, witness, claims, veers, resynchronisation (R195 to R236). -/
structure Red where
  hbOff : Bool := false
  hbTx : Nat := 0
  hbRx : Option Nat := none
  lost : Bool := false
  peerMode : Nat := 0
  peerClaimed : Bool := false
  peerNode : Nat := 0
  fwdTx : Nat := 0
  fwdAck : Nat := 0
  fwdRx : Nat := 0
  queue : List FwdItem := []
  ask : Option Ask := none
  veer : Option VeerReq := none
  /-- Commits in a pair that wait for PAIR_ACK, by request tag. -/
  lullFrom : Option Nat := none
  wits : List (Nat × WitRec) := []
  probeNo : Nat := 0
  stages : List (Nat × OutStage) := []
  resetting : Bool := false
  joined : Bool := false
  copies : List CkptCopy := []
  /-- Checkpoints in DRAM and MRAM: task, commit count, station time, committed lines (R231). -/
  ckpts : List (Nat × List Word) := []
  /-- Cold tasks whose abandoned copy is owed at the next commit; the trade cycle plus 1 of each task's last commit. -/
  retake : List Nat := []
  ckptCycle : List (Nat × Nat) := []
  /-- Round trips of the last 64 heartbeats, newest first, ns (R197). -/
  trips : List Nat := []
  /-- Station times of frames rejected for CRC within 1 ms, newest first (R207). -/
  crcAt : List Nat := []
  /-- This module has taken the station in a commanded veer: activations that began before the boundary complete on what the
  former windward module forwards (R226). -/
  crossing : Bool := false
  /-- Resynchronisation (R228): the instant phase 1 began at this module, and at the windward module the in-step tasks that have
  yet to commit in phase 5. -/
  resyncAt : Nat := 0
  mirror : List Nat := []
  /-- Leeward: the least data word of the PAIR_RESYNC that named a differing image (R228, phase 2). -/
  imagesDiffer : Bool := false
  /-- Pairs the partner has reported failed, as bits (R185). -/
  peerBad : Nat := 0
  /-- Discrepancy runs: task × 2^32 + point, activations differing (R206). -/
  disc : List (Nat × Nat) := []
  /-- Tasks whose activation was abandoned at the loss of the partner (R222). -/
  abandoned : List Nat := []
  /-- Sets received by PAIR_PREPARE that the module could not acknowledge at once (R92). -/
  prepared : List Prepared := []
  /-- Station time of the last heartbeat received, and the trade-cycle count that it carried (R201). -/
  hbAt : Nat := 0
  hbCycles : Option Nat := none
  /-- In-step tasks that have committed in phase 4 of the partner's resynchronisation (R228). -/
  dirty : List Nat := []
  deriving DecidableEq, Repr

/-- One queue (R240, R241): descriptors oldest first, those of them taken, and its counts. -/
structure Queue where
  msgs : List Nat := []
  taken : List Nat := []
  seq : Nat := 0
  drops : Nat := 0
  dropsSeen : Nat := 0
  reserved : Nat := 0
  /-- Fabric clock plus 1 in which its depth last changed, and whether the clock before that ended with depth 0 and no watch has
  fired since (R248). -/
  changedAt : Nat := 0
  wasEmpty : Bool := true
  deriving DecidableEq, Repr

/-- One member of a group: point, value, and the parameters of R448. -/
structure Member where
  point : Nat
  val : Word
  pulse : Bool
  ms : Nat
  deriving DecidableEq, Repr

/-- One part of a group transaction (R254 to R257): its unit, 0 to 15 integral, 65 536 and above a node no
unit has, and its members. `phase`: 0 waiting for PREPARE, 1 asked, 2 prepared, 3 refused, 4 commit held,
5 applied, 6 failed, 7 preparation dropped. -/
structure GrpPart where
  unit : Nat
  members : List Member
  phase : Nat := 0
  reason : Nat := 0
  /-- Whether its report has been taken. -/
  reported : Bool := false
  deriving DecidableEq, Repr

/-- A pulse under way (R448): the unit, the point, the value to restore, and its end. -/
structure Pulse where
  unit : Nat
  point : Nat
  back : Word64
  until_ : Nat
  deriving DecidableEq, Repr

/-- A group in flight (R254). -/
structure Group where
  parts : List GrpPart
  taken : Nat
  deadline : Nat
  /-- Apply time asked as a low word of station time; then the full apply time. -/
  asked : Word
  apply : Nat := 0
  reply : Nat
  /-- 1: preparing; 2: decided, COMMIT in the next ring cycle; 3: committed. -/
  phase : Nat := 1
  partition : Nat := 0
  /-- The producing task plus 1, 0 for a request that no task published (R255). -/
  maker : Nat := 0
  deriving DecidableEq, Repr

/-- The queue engine (R238 to R258). Allocation tables hold the charged partition plus 1. -/
structure Qe where
  queues : List (Nat × Queue) := []
  desc : List (Nat × Nat) := []
  small : List (Nat × Nat) := []
  large : List (Nat × Nat) := []
  /-- Task plus 1 that published the message of a descriptor (R255): the model's own field. -/
  makers : List (Nat × Nat) := []
  groups : List (Nat × Option Group) := []
  nextGroup : Nat := 0
  pulses : List Pulse := []
  /-- Outcomes waiting for room, oldest first: reply queue and payload (R257). -/
  outcomes : List (Nat × List Word) := []
  deriving DecidableEq, Repr

/-- A capture in progress (R500): its time, what its entries held, none for a register entry, and the station time of its snapshot
clock. -/
structure EvCap where
  time : Nat
  vals : List (Option Word)
  snap : Nat := 0
  deriving DecidableEq, Repr

/-- Trigger definition bookkeeping (R499, R500, R508). -/
structure EvDef where
  capture : Option EvCap := none
  missedFlag : Bool := false
  missed : Nat := 0
  merged : Nat := 0
  last : Option Nat := none
  deriving DecidableEq, Repr

/-- The event recorder (R496 to R506). -/
structure Evr where
  inbox : List EvMsg := []
  /-- Staged records, oldest first, each of words 0 to 30. -/
  staging : List (List Word) := []
  defs : List (Nat × EvDef) := []
  lost : Nat := 0
  frozenAt : Nat := 0
  hwSent : Bool := false
  /-- Fabric clocks of the last freeze and of the last slot written (R501, R504). -/
  freezeAt : Nat := 0
  drainAt : Nat := 0
  /-- Sequence last given to a record, in staging or in the ring. -/
  seq : Word := 0
  readSeq : Word := 0
  deriving DecidableEq, Repr

/-- One enabled performance counter (R581 to R583): words 0 and 1 of its record, its count, the fabric clock plus 1
of its last event, the events counted in that clock, and whether its condition held. -/
structure PfcCnt where
  ev : Word := 0
  filt : Word := 0
  count : Nat := 0
  last : Nat := 0
  inClk : Nat := 0
  held : Bool := false
  /-- What the counter stood at when its record restarted it, and the fabric clock plus 1 of that (R585). -/
  was : Nat := 0
  wasAt : Nat := 0
  deriving DecidableEq, Repr

/-- An alarm command waiting for the next evaluation: alarm, command, cause (R489, R490). -/
structure AlmCmd where
  alarm : Nat
  /-- 0 acknowledge; 1 silence; 2 shelve for `arg` minutes; 3 unshelve. -/
  cmd : Nat
  /-- 1 panel; 2 Pliuz; 3 bridge (R497). -/
  origin : Nat
  arg : Nat := 0
  deriving DecidableEq, Repr

/-- One alarm (R485 to R495). -/
structure Alarm where
  state : Nat := 0
  /-- The condition after its delays, and the evaluations counted toward a change. -/
  cond : Bool := false
  count : Nat := 0
  /-- The ALARM item. -/
  item : Bool := false
  /-- Station time at which the silence, the shelve or the escalation time ends. -/
  silenceEnd : Option Nat := none
  shelveEnd : Option Nat := none
  escalateEnd : Option Nat := none
  chattering : Bool := false
  /-- Times of its activations in the last 60 s, newest first, and when its condition went absent. -/
  acts : List Nat := []
  absentSince : Option Nat := none
  held : Bool := false
  sourceBad : Bool := false
  deriving DecidableEq, Repr

/-- The alarm manager and the squall filter (R485 to R495). -/
structure Alm where
  cfg : List (Nat × AlarmCfg) := []
  squall : SquallCfg := {}
  alarms : List (Nat × Alarm) := []
  cmds : List AlmCmd := []
  flood : Bool := false
  /-- Activation times in the window, newest first. -/
  window : List Nat := []
  belowSince : Option Nat := none
  /-- Alarms held, in order of activation; and those whose ALF is owed after the flood. -/
  held : List Nat := []
  owed : List Nat := []
  /-- Grid point of the last evaluation, in 10 ms of station time; fabric clocks of the last ALC and HBT. -/
  evalAt : Option Nat := none
  alcAt : Nat := 0
  hbtAt : Nat := 0
  deriving DecidableEq, Repr

/-- A channel by which the module sends something to the outside. -/
inductive Chan where
  | link | witness (node : Nat) | eth (port : Nat) | can (port : Nat) | ser (port : Nat)
  | fio (unit : Nat) | rio (ring : Nat) | pliuz | panel | usb | pps
  deriving DecidableEq, Repr

/-- Something the module sent: the channel, what it is, and its words. -/
structure Sent where
  chan : Chan
  what : Nat
  ws : List Word
  deriving DecidableEq, Repr

/-- The Belsora link as this module sends on it (R198): frames that wait, the next first, each with its bytes; the fabric clock
at which the frame under way ends; and the frames as the line carried them, newest first. -/
structure LinkTx where
  waiting : List (Nat × Sent) := []
  free : Nat := 0
  line : List Sent := []
  deriving DecidableEq, Repr

/-- A point of the live image: value, quality (0 good, 1 held, 2 bad, 3 not available), SETTLE, and
the station time of the value (R164). -/
structure Point where
  val : Word64 := 0
  q : Nat := 3
  settle : Bool := false
  time : Nat := 0
  deriving DecidableEq, Repr

end Sys2Proof.Machine
end

