-- ==== Sys2Proof/Machine/PlantParts.lean ====
section
/-! DEFINITION. The parts of the state that chapters 10 to 13 name outside the register tables: loop
slots and injection jobs, profile generators, angle domains and actions, phasors, synchronisers and the
gust guard. -/

namespace Sys2Proof.Machine

/-! ### Control engine (R260 to R290) -/

/-- What a trigger latched: the sources in signal words or raw, whether one is bad, the trigger's times,
the records the run uses, and the mode, limits and manual output in force (R270, R275, R282). `init`: the
run is the first in AUTO or MANUAL after OFF (R274). -/
structure Latch where
  pv : Int
  sp : Int
  ff : Int
  bad : Bool
  clk : Nat
  time : Nat
  recs : List Word
  secs : List (List Word)
  mode : Nat := 1
  lo : Int := 0
  hi : Int := 0
  manual : Int := 0
  init : Bool := false
  /-- Fabric clock of the dispatch (R278). -/
  start : Nat := 0
  deriving DecidableEq, Repr

/-- One loop slot outside its section states (R267, R274, R277). -/
structure LoopSlot where
  mode : Nat := 0
  /-- Mode of the last trigger: OFF, or the mode of the run it latched. -/
  runMode : Nat := 0
  lo : Int := 0
  hi : Int := 0
  manual : Int := 0
  u : Int := 0
  e : Int := 0
  /-- Flags of CE_SLOTSTAT [12:5] of the last run. -/
  flags : Nat := 0
  runs : Nat := 0
  skipped : Nat := 0
  dly : Nat := 0
  dlyMax : Nat := 0
  pending : Option Latch := none
  running : Option Latch := none
  /-- Whether the slot has run since its owner task's previous activation (R275). -/
  fresh : Bool := false
  deriving DecidableEq, Repr

/-- An injection job on a capture buffer (R284 to R290). -/
structure CeJob where
  words : List Word
  num : Nat
  part : Nat
  active : Bool := true
  /-- Job runs so far, consecutive saturated runs, chirp phase, PRBS register, bit and hold count. -/
  m : Nat := 0
  sat : Nat := 0
  phase : Nat := 0
  prbs : Nat := 0
  bitNow : Bool := false
  held : Nat := 0
  skips : Nat := 0
  records : Nat := 0
  first : Nat := 0
  value : Int := 0
  reason : Nat := 0
  status : Nat := 0
  /-- Delivery in progress: bytes sent so far, and its station time of start. -/
  deliver : Option (Nat × Nat) := none
  deriving DecidableEq, Repr

/-- The control engine. -/
structure Ce where
  slots : List (Nat × LoopSlot) := []
  /-- Slot + 1 that occupies each of the four lanes. -/
  lanes : List (Nat × Nat) := []
  jobs : List (Nat × Option CeJob) := []
  nextJob : Nat := 0
  /-- Lane occupancy of the present 250 µs tick, ns. -/
  occ : Nat := 0
  deriving DecidableEq, Repr

/-! ### Profile generators (R292 to R311) -/

/-- One phase of a profile: its updates left, and its jerk with 64 fractional bits. -/
structure Phase where
  n : Nat
  j : Int
  deriving DecidableEq, Repr

/-- A switch as a generator debounces it (R305, R306): its debounced level, the level and length of the
run in progress, P at the run's first sample, and the hold-off after a latched edge. -/
structure Switch where
  level : Bool := false
  run : Bool := false
  count : Nat := 0
  runP : Int := 0
  hold : Bool := false
  deriving DecidableEq, Repr

/-- One generator. P, V, A and positions have 64 fractional bits (R292). -/
structure Gen where
  p : Int := 0
  v : Int := 0
  a : Int := 0
  target : Int := 0
  vtarget : Int := 0
  state : Nat := 0
  /-- Last sequence taken. -/
  seq : Nat := 0
  seqTaken : Bool := false
  plan : List Phase := []
  /-- What the plan ends at: a position, or a velocity. -/
  endPos : Option Int := none
  endVel : Int := 0
  /-- After a reversal the target is planned afresh from standstill (R297). -/
  replan : Bool := false
  vmax : Int := 0
  amax : Int := 0
  dmax : Int := 0
  jmax : Int := 0
  ovs : Int := 0
  rev : Int := 0
  latch : Int := 0
  /-- GSTAT bits: reverse, slowing, homed, tgterr, cmderr, softlim, limpos, limneg. -/
  reverse : Bool := false
  slowing : Bool := false
  homed : Bool := false
  tgterr : Bool := false
  cmderr : Bool := false
  softlim : Bool := false
  limpos : Bool := false
  limneg : Bool := false
  swPos : Switch := {}
  swNeg : Switch := {}
  swHome : Switch := {}
  /-- Homing: state, cause, reversed, mode, search direction inverted, P where SEARCH and INDEX began,
  the reference event L. -/
  hState : Nat := 0
  hCause : Nat := 0
  hRev : Bool := false
  hMode : Nat := 0
  hFrom : Int := 0
  hRef : Int := 0
  /-- Whether this homing has set the reference, and whether it moves on to the final position (R308). -/
  hSet : Bool := false
  hFinal : Bool := false
  /-- The velocity that VELOCITY asked for, which vmax may hold back (R299). -/
  vask : Int := 0
  /-- Publications of VLIM, ALIM, DLIM and JLIM taken last (R300). -/
  limAt : List (Option Nat) := [none, none, none, none]
  chatLimit : Nat := 0
  chatHome : Nat := 0
  deriving DecidableEq, Repr

structure Pg where
  gens : List (Nat × Gen) := []
  deriving DecidableEq, Repr

/-! ### Angle domains (R313 to R339) -/

/-- One domain. The angle and its increment per fabric clock have 32 fractional bits. -/
structure Dom where
  state : Nat := 0
  ang : Int := 0
  inc : Int := 0
  /-- Reduced increment up to the next edge, after COAST or REACQUIRE (R317). -/
  adj : Option Int := none
  /-- Fabric clock for which `ang` stands. -/
  asOf : Nat := 0
  valid : Bool := false
  back : Bool := false
  ref : Bool := false
  /-- Number of the last accepted edge, its nominal or delivered angle, its time, its interval. -/
  edge : Int := 0
  nominal : Nat := 0
  last : Option Nat := none
  interval : Nat := 0
  /-- Accepted intervals, newest first (R322). -/
  spans : List Nat := []
  slewRun : Nat := 0
  /-- Consecutive deliveries counted toward acquisition or toward the return from COAST. -/
  run : Nat := 0
  refSeen : Bool := false
  /-- Encoder count that stands for count 0, and an encoder fault that stands (R315, R320). -/
  zero : Int := 0
  fault : Bool := false
  /-- Time of the last REV boundary and whether it was backward. -/
  revAt : Option (Nat × Bool) := none
  /-- Station time of the entry to COAST or REACQUIRE, and the angle covered since then (R326). -/
  coastAt : Nat := 0
  moved : Nat := 0
  /-- Revolution count to take at the next REV boundary, at a module that joins (R341). -/
  revJoin : Option Word := none
  started : Bool := false
  deriving DecidableEq, Repr

/-- One action slot (R334, R339, R343). -/
structure Act7 where
  live : Bool := false
  /-- Armed for the REV boundary at which the count reaches `rev`. -/
  armed : Bool := false
  /-- An arm held until the entry to LOCKED: whether for the next crossing. -/
  held : Option Bool := none
  /-- Live from the next REV boundary (R335, R339). -/
  atRev : Bool := false
  /-- The on-edge of a one-shot pulse has fired. -/
  half : Bool := false
  suspended : Bool := false
  passed : Bool := false
  rev : Nat := 0
  seq : Nat := 0
  seqTaken : Bool := false
  /-- Angles in force where an item replaced the record's. -/
  ang : Option Word := none
  ang2 : Option Word := none
  late : Bool := false
  dropped : Bool := false
  coast : Bool := false
  jumped : Bool := false
  fires : Nat := 0
  last : Word := 0
  comp : Word := 0
  deriving DecidableEq, Repr

structure Ad where
  doms : List (Nat × Dom) := []
  acts : List (Nat × Act7) := []
  /-- Targets reached last by an event: event line l under l, event-matrix sink k from 96 up under k; the fabric clock plus 1, and
  the action slot, 4 096 where none (R332). -/
  reached : List (Nat × (Nat × Nat)) := []
  deriving DecidableEq, Repr

/-! ### Phasors, synchronisers, gust guard (R346 to R369) -/

/-- One voltage triple outside its points: the station time at which its last cycle ended. -/
structure Triple where
  ended : Option Nat := none
  deriving DecidableEq, Repr

/-- One synchroniser channel outside its registers (R353 to R362). -/
structure Sync where
  seqTaken : Bool := false
  deadOk : Bool := false
  /-- Station time of the arming in force (R353, R362). -/
  armedAt : Nat := 0
  /-- Station time of the close edge, and the closure instant. -/
  closeAt : Nat := 0
  closedAt : Option Nat := none
  deriving DecidableEq, Repr

/-- One request slot of the gust guard (R365): its state, grant count, last sequence, the order in which
its request was taken, and the end and the demand of its reservation. -/
structure GustSlot where
  state : Nat := 0
  count : Nat := 0
  seq : Nat := 0
  seqTaken : Bool := false
  order : Nat := 0
  resv : Option (Nat × Nat) := none
  deriving DecidableEq, Repr

structure Ph where
  triples : List (Nat × Triple) := []
  syncs : List (Nat × Sync) := []
  slots : List (Nat × GustSlot) := []
  nextOrder : Nat := 0
  lastGrant : Option Nat := none
  /-- The restart step's delay has run out (R368). -/
  stepReady : Bool := false
  /-- Station time from which the restart step's delay runs (R368). -/
  stepFrom : Nat := 0
  /-- Station times since which the bus triple has stood below the blackout threshold, and at the live threshold or above it
  (R367). -/
  lowSince : Option Nat := none
  liveSince : Option Nat := none
  /-- Last good P of each generator, W (R364). -/
  lastP : List (Nat × Int) := []
  deriving DecidableEq, Repr

/-! ### Network time (R372 to R392) -/

/-- An announced clock: the fields that the best master clock algorithm compares. -/
structure Announce where
  priority1 : Nat
  clockClass : Nat
  accuracy : Nat
  variance : Nat
  priority2 : Nat
  identity : Nat
  steps : Nat
  utcOffset : Nat := 0
  utcValid : Bool := false
  deriving DecidableEq, Repr

/-- One compare outside its registers: the full target, the last grid point fired, the last sequence. -/
structure Cmp where
  target : Nat := 0
  lastGrid : Option Nat := none
  seqTaken : Bool := false
  deriving DecidableEq, Repr

structure Tu where
  /-- Last measurement of each reference: station time, and offset. -/
  seen : List (Nat × Option (Nat × Int)) := []
  announces : List (Nat × Option Announce) := []
  /-- Last offsets in FREERUN, newest first; consecutive outliers of the reference in force. -/
  firsts : List Int := []
  outRun : Nat := 0
  /-- Since when the offset has stayed below 1 µs, and the last accepted measurement. -/
  okSince : Option Nat := none
  lastAcc : Nat := 0
  /-- Since when the reference in force has been selected (R374). -/
  refFrom : Nat := 0
  warmAtEntry : Bool := false
  holdFrom : Nat := 0
  /-- The return bound while ACQUIRE follows HOLDOVER, ns. -/
  bound : Option Nat := none
  /-- Learned frequency correction in units of 10^-12. -/
  learned : Int := 0
  /-- The reference whose step is refused. -/
  barred : Option Nat := none
  ppsLast : Option Nat := none
  ppsOut : Option Nat := none
  /-- Last ZDA second and the station time at which it came. -/
  zda : Option (Nat × Nat) := none
  cmps : List (Nat × Cmp) := []
  deriving DecidableEq, Repr

/-! ### Field I/O (R394 to R434) -/

/-- One barrier link: what the logic side and the field side know of it (R394, R395). -/
structure Barrier where
  up : Bool := false
  /-- Whether the link has been up since reset, and when the logic side declared it down. -/
  ever : Bool := false
  downAt : Nat := 0
  tx : Nat := 0
  /-- Consecutive valid frames at the logic side and at the field side. -/
  okLogic : Nat := 0
  okField : Nat := 0
  fieldUp : Bool := false
  fieldSeq : Option Nat := none
  /-- Station time of the last valid frame at the field side (R397). -/
  fieldAt : Nat := 0
  deriving DecidableEq, Repr

/-- One channel of units 0 to 6. `st` is its status word less the bits of supply, link, stage and
enable; `cfg` its record as the field side holds it. What the other fields mean depends on the type. -/
structure FChan where
  cfg : List Word := []
  st : Word := 0
  /-- Station time of the last sample, change or pulse. -/
  ts : Nat := 0
  /-- DI: debounced state, state of the last sample, samples of the run, its first sample, edges, and
  consecutive samples with and without a wire break and a short. -/
  level : Bool := false
  raw : Bool := false
  run : Nat := 0
  runT : Nat := 0
  count : Int := 0
  brk : Nat := 0
  shrt : Nat := 0
  /-- Outputs: the value at the stage, the value in force, since when, the last fault-reset sequence. -/
  rx : Int := 0
  force : Int := 0
  since : Nat := 0
  seq : Option Nat := none
  waits : Bool := false
  delayed : Bool := false
  readback : Int := 0
  aux : Int := 0
  /-- Station time at which shoot latched, and from which the channel's staggered start runs (R407, R411, R426). -/
  latchAt : Nat := 0
  holdFrom : Nat := 0
  /-- H-bridge: duty of the next period in 10^-9, its integral part, cut periods in a row, dither phase. -/
  duty : Int := 0
  integ : Int := 0
  cuts : Nat := 0
  dither : Nat := 0
  /-- Encoder: levels A and B, quadrature count, reference offset, count latched at Z. -/
  a : Bool := false
  b : Bool := false
  quad : Int := 0
  refOff : Int := 0
  latch : Int := 0
  /-- AI: samples taken since enable, invalid outputs left, since when each condition holds. -/
  taken : Bool := false
  invalid : Nat := 0
  lowSince : Option Nat := none
  highSince : Option Nat := none
  limSince : Option Nat := none
  /-- AO: since when mismatch, open and compliance hold or have gone. -/
  misSince : Option Nat := none
  openSince : Option Nat := none
  compSince : Option Nat := none
  temp : Int := 0
  deriving DecidableEq, Repr

/-- One AI converter: a pass in progress, its channel, the filter outputs of the dwell, the range of the
channel converted before, the settings the pass runs on. -/
structure Conv where
  busy : Bool := false
  chan : Nat := 0
  outs : Nat := 0
  range : Nat := 0
  cfgs : List (List Word) := []
  deriving DecidableEq, Repr

/-- A time-tagged edge on its way to a DO stage (R331, R394). -/
structure TagEdge where
  addr : Nat
  level : Bool
  time : Nat
  deriving DecidableEq, Repr

structure Fio where
  sending : Bool := false
  /-- Station time of the last kick (R396). -/
  kickAt : Nat := 0
  /-- When each field supply became OK, by its number; none since it was missing (R411, R426). -/
  okAt : List (Nat × Option Nat) := []
  links : List (Nat × Barrier) := []
  chans : List (Nat × FChan) := []
  convs : List (Nat × Conv) := []
  edges : List TagEdge := []
  /-- Times of the switch-ons of each DO bank, newest first, and its waiting channels in order (R406). -/
  ons : List (Nat × List Nat) := []
  queue : List (Nat × List Nat) := []
  /-- Silence timeout records of the banks, as the field side holds them. -/
  banks : List (Nat × List Word) := []
  deriving DecidableEq, Repr

/-! ### Remote I/O (R435 to R451) -/

/-- A value on its way to a remote output: the point within its node, the value, and the number of the
publication it comes from (R449). -/
structure RVal where
  point : Nat
  val : Word64
  publ : Nat
  deriving DecidableEq, Repr

/-- What a frame carries for one unit, as the unit takes it: claim and slot parity of the header, the
values of its section (none for an empty section), and whether it is a claim-reset frame (R216, R437). -/
structure RFrame where
  claim : Word
  even : Bool
  vals : Option (List RVal)
  reset : Bool := false
  /-- Node numbers of the two modules of the station, which a claim-reset frame carries: the even slot's first. -/
  nodes : Nat × Nat := (0, 0)
  /-- Station time of t_k in its header (R437). -/
  tk : Nat := 0
  deriving DecidableEq, Repr

/-- One remote unit. The first group is the master's view, the second the unit's own. -/
structure RUnit where
  state : Nat := 0
  type : Nat := 0
  fw : Nat := 0
  serial : Nat := 0
  node : Nat := 0
  everOp : Bool := false
  copyb : Bool := false
  turn : Bool := false
  silence : Bool := false
  missRun : Nat := 0
  okRun : Nat := 0
  missed : Nat := 0
  low : Nat := 0
  /-- Lower claims that the unit has counted itself, and the points that it marked bad in its last section (R444, R447). -/
  lowSeen : Nat := 0
  bads : List Nat := []
  /-- Station time of t_k to which its timebase is aligned, by the header of the last frame (R437). -/
  tk : Nat := 0
  /-- Highest claim and the parity it was taken with, the claim of the last frame, whether a claim reset has run unbroken, and
  the station time of its last frame. -/
  h : Word := 0
  hEven : Bool := false
  last : Word := 0
  resetOk : Bool := false
  resetAt : Nat := 0
  /-- Values taken from the frame of this cycle, outputs with the publication last applied, and whether the
  outputs stand in their silence states. -/
  took : List RVal := []
  outs : List (Nat × RVal) := []
  driving : Bool := false
  /-- Its safety outputs stand at their safety values (R472). -/
  safeOut : Bool := true
  /-- Counter of the last safety telegram it took, the fabric clock of the last one with the next counter, and the targets that it
  holds safe (R472). -/
  tele : Option Nat := none
  teleAt : Nat := 0
  teleHeld : List Nat := []
  /-- Station time of the last valid frame with a claim equal to H, and of any valid frame. -/
  heard : Nat := 0
  framed : Nat := 0
  downA : Bool := false
  downB : Bool := false
  deriving DecidableEq, Repr

/-- One ring at the module: the clock of its last cycle start, the frame of the present cycle, and the sum
of the hop delays measured at discovery, ns. -/
structure Ring where
  start : Option Nat := none
  /-- Station time of the cycle start. -/
  tk : Nat := 0
  sent : Bool := false
  frame : List (Nat × RFrame) := []
  hopNs : Nat := 0
  barred : Bool := false
  deriving DecidableEq, Repr

structure Rio where
  units : List (Nat × RUnit) := []
  rings : List (Nat × Ring) := []
  deriving DecidableEq, Repr

/-! ### Safety functions (R453 to R484) -/

/-- One safety or EDM input of unit 7 (R456, R457): what each channel last showed, its run of samples at the
demand and at the run level, the input's decision with the one before it, and when they were taken. -/
structure SafeIn where
  rawA : Bool := false
  rawB : Bool := false
  demA : Bool := true
  demB : Bool := true
  nA : Nat := 0
  nB : Nat := 0
  dem : Bool := true
  was : Bool := true
  /-- Fabric clock of the last change of decision, and of the one before. -/
  at_ : Nat := 0
  prevAt : Nat := 0
  diffSince : Option Nat := none
  /-- Both channels have shown demand together since a fault latched. -/
  seenDem : Bool := false
  deriving DecidableEq, Repr

/-- One channel group of remote safety telegrams (R472): last counter, and whether the watchdog has run out. -/
structure SafeGroup where
  counter : Option Nat := none
  expired : Bool := true
  /-- Fabric clock of the last valid telegram with the next counter. -/
  heardAt : Nat := 0
  deriving DecidableEq, Repr

/-- A remote safety input: run value, channel fault, and the telegram group that carries it. -/
structure SafeRemote where
  run : Bool := false
  fault : Bool := false
  group : Nat := 0
  deriving DecidableEq, Repr

/-- One safety-function instance outside its record (R463 to R470). -/
structure SafeInst where
  state : Nat := 0
  cause : Nat := 0
  demand : Bool := false
  /-- Last RESET sequence taken, and whether one has been. -/
  rseq : Nat := 0
  seqTaken : Bool := false
  /-- Targets at their safe states. -/
  safe : Nat := 15
  tripTime : Word := 0
  /-- Trip speed, fabric clock of the trip, envelope and speed in 0.01 %. -/
  vt : Nat := 0
  tripClk : Nat := 0
  env : Nat := 0xFFFF
  speed : Nat := 0
  disSince : Option Nat := none
  /-- Reset input in demand at the last evaluation. -/
  button : Bool := true
  /-- EDM: targets energised, the clock of the last change of that command, and whether the reading agreed. -/
  edmOn : Bool := false
  edmAt : Option Nat := none
  edmOk : Bool := false
  /-- Fabric clock at which its EDM was last exercised (R483). -/
  edmLast : Nat := 0
  /-- State last forwarded by the windward module (R476). -/
  fwd : Option Nat := none
  deriving DecidableEq, Repr

/-- The safety block. `params` is parameter memory, `held` the target addresses held safe, `sto` the switches
commanded on, `speeds` the counts of the encoders at the last evaluations, newest first. -/
structure Saf where
  ins : List (Nat × SafeIn) := []
  insts : List (Nat × SafeInst) := []
  params : List (Nat × List Word) := []
  groups : List (Nat × SafeGroup) := []
  remotes : List (Nat × SafeRemote) := []
  held : List Nat := []
  sto : Nat := 0
  speeds : List (Nat × List Int) := []
  flip : Bool := false
  /-- Sets locked out by the background check (R474). -/
  bad : List Nat := []
  /-- Confirmations waiting for the boundary, wrong entries of each set, sets whose entries are refused. -/
  confirmNext : List (Nat × Word) := []
  wrong : List (Nat × Nat) := []
  barred : List Nat := []
  /-- Sessions that hold SAFE_AUTH, wrong passwords in a row, and whether SAFE_AUTH is refused (R481). -/
  auth : List Nat := []
  authWrong : Nat := 0
  authBarred : Bool := false
  /-- Fabric clock from which SAFE_AUTH, and the entries of a set, are refused (R480, R481). -/
  authAt : Nat := 0
  barredAt : List (Nat × Nat) := []
  edmDue : List Nat := []
  /-- Last evaluation, and the telegram counter of each unit. -/
  evalAt : Option Nat := none
  counters : List (Nat × Nat) := []
  deriving DecidableEq, Repr

/-! ### Ethernet and serial (R509 to R526) -/

/-- What a network service or a serial port keeps between frames: the newest block payload and its sequence, the
last sequence accepted, whether the lapse of a subscription has been told, and the unit and station time of an
open transaction. -/
structure Svc where
  newest : Option (List Byte) := none
  sent : Nat := 0
  got : Option Nat := none
  lapsed : Bool := false
  opened : Option (Nat × Nat) := none
  sentAt : Option Nat := none
  gotAt : Option Nat := none
  deriving DecidableEq, Repr

/-- Ethernet and serial ports outside their registers. Serial port s stands at index 64 + s of `svcs`. `seen`:
duplicates window of the PRP pair: source, sequence and station time. -/
structure Eth where
  svcs : List (Nat × Svc) := []
  conns : List Nat := []
  seen : List (Nat × Nat × Nat) := []
  lanA : Option Nat := none
  lanB : Option Nat := none
  lines : Nat := 0
  rct : Nat := 0
  grants : Nat := 0
  deriving DecidableEq, Repr

/-! ### CAN (R527 to R541) -/

/-- A frame in a transmit buffer: its user words, data, the descriptor it came from (none for a reference message),
its sequence in its queue, the station time and the order of its loading, and 1 loaded, 2 transmitting, 3 waiting. -/
structure CanFrame where
  user0 : Word
  user1 : Word
  data : List Byte
  desc : Option Nat
  seq : Nat
  loaded : Nat
  order : Nat
  phase : Nat := 1
  deriving DecidableEq, Repr

/-- One port outside its registers. `offs` are the station times of entries to bus-off; `sof` is the start of frame of the last
reference message; `run` counts valid frames at a candidate rate. -/
structure CanPort where
  bufs : List (Nat × Option CanFrame) := []
  next : Nat := 0
  offs : List Nat := []
  recovering : Bool := false
  restart : Bool := true
  sof : Nat := 0
  run : Nat := 0
  dwellAt : Option Nat := none
  refAt : Option Nat := none
  deriving DecidableEq, Repr

/-! ### The panel (R542 to R556) -/

/-- The panel outside its registers. Pixels are row × 256 + column; `acc` is Σ of pulse width × segment current. -/
structure Pnl where
  image : List (Nat × Nat) := []
  acc : List (Nat × Nat) := []
  /-- Wear gains, and those that wait for the next frame. -/
  gains : List (Nat × Nat) := []
  gainPend : List (Nat × Nat) := []
  /-- The key taken that is still held, and the chord it is part of. -/
  first : Option Nat := none
  chord : Option Nat := none
  /-- A touch that a key ended, until the finger leaves; a contact counted as wet, until it leaves. -/
  blocked : Bool := false
  wet : Bool := false
  /-- Levels of the row that the last frame scanned last (R544). -/
  lastRow : List (Nat × Nat) := []
  shift : Nat := 0
  /-- Segment current of full level while dimmed. -/
  base : Option Nat := none
  faultAt : Option Nat := none
  barred : Bool := false
  /-- The value of PNL_LED [11:0] that station firmware last worked out. -/
  lamps : Nat := 5
  /-- Fabric clocks: the start of the frame, of the pump's ramp, of the chord held, of the release of reset; the last key or touch;
  the next repeat of a held key. -/
  frameAt : Nat := 0
  rampAt : Option Nat := none
  chordAt : Nat := 0
  litFrom : Nat := 0
  usedAt : Nat := 0
  keyNext : Nat := 0
  deriving DecidableEq, Repr

/-! ### Self-test and ageing (R558 to R578) -/

/-- A self-test in progress: words 1 to 4 of its report, the items left, the entries so far, and whether the
secrets are still to be cleared. -/
structure Bst where
  head : List Word := []
  todo : List (Nat × Nat × Bool) := []
  entries : List Word := []
  deriving DecidableEq, Repr

/-- Ageing measurements of a running module: the last 60 worst readings, newest first, and the station time
since which the air has stood 3 °C below the threshold of the thermal point. -/
structure Age where
  worst : List Nat := []
  coolSince : Option Nat := none
  deriving DecidableEq, Repr

/-- One SFP+ cage (R598): module in place, transmitter enabled, diagnostics last read. -/
structure Sfp where
  present : Bool := false
  tx : Bool := false
  diag : List Word := []
  /-- Fabric clock of its last read. -/
  readAt : Nat := 0
  deriving DecidableEq, Repr

end Sys2Proof.Machine
end

