-- ==== Sys2Proof/Machine/Inputs.lean ====
section
/-! DEFINITION. What commands bring with them from outside the module: measurements, frames and reports. -/

namespace Sys2Proof.Machine

/-- Results of one triple as PH measured them over the cycle: the points from 0, and the harmonic points
when a harmonic window ended (R347). `exceeds`: a sample exceeded the range; `bad`: the front end reports a
fault. -/
structure TripleMeas where
  points : List Int
  harmonics : Option (List Int) := none
  exceeds : Bool := false
  bad : Bool := false
  deriving DecidableEq, Repr

/-- One reading that a frame of the field side carries: channel, kind and value. Kind 0: readback of a DO
or current of an H-bridge; 1: load current in mA, or motion supply in mV. -/
structure Reading where
  chan : Nat
  kind : Nat
  val : Int
  deriving DecidableEq, Repr

/-- A frame on the bus: user word 0 as received, FDF, BRS, ESI, data, and the time since its start of frame. `err`: 0
none, 1 CRC, 2 bit, stuff or form, 3 in the data phase. -/
structure CanRx where
  user0 : Word
  fdf : Bool
  brs : Bool
  esi : Bool
  data : List Byte
  age : Nat
  err : Nat
  deriving DecidableEq, Repr

/-- What a unit reports at discovery: position, type, serial number, firmware, stored node, CRC-32C of its
parameter image. -/
structure RReport where
  pos : Nat
  type : Nat
  serial : Nat
  fw : Nat
  node : Nat
  crc : Word
  deriving DecidableEq, Repr

/-- One input of a section: point within the node, value, and the unit's bad mark. -/
structure RInput where
  point : Nat
  val : Int
  bad : Bool
  deriving DecidableEq, Repr

/-- A unit's section of a copy: its octets, the CRC-16 last (R438), and what they say. -/
structure RSection where
  unit : Nat
  copyB : Bool
  octets : List Byte
  inputs : List RInput
  turn : Bool
  silence : Bool
  low : Nat
  deriving DecidableEq, Repr

/-- What returned in a cycle: the sections of both copies, the last position each copy reached, whether each
returned, and on the opposite port, and the return time of the later copy in 10 ns. -/
structure RingReport where
  sections : List RSection
  aLast : Nat
  bLast : Nat
  aBack : Bool
  bBack : Bool
  aAcross : Bool
  bAcross : Bool
  late : Nat
  deriving DecidableEq, Repr

/-- One channel of a telegram: its channel number, its value and its fault. -/
structure SafeValue where
  chan : Nat
  run : Bool
  fault : Bool
  deriving DecidableEq, Repr

/-- A frame at a PRP port (R510): its LAN, its source and its sequence. Discarded with the wrong LAN identifier, or
as a duplicate within 400 ms. -/
structure PrpTag where
  lanB : Bool
  source : Nat
  seq : Nat
  deriving DecidableEq, Repr

/-- Where a Modbus request came from: a TCP connection on a port, or a serial port; and its unit identifier. -/
structure ModbusFrom where
  ser : Bool
  port : Nat
  conn : Nat
  unit : Nat
  deriving DecidableEq, Repr

/-- What reaches an angle domain (R315, R316): a tooth pulse; a reference pulse; a phase value with its speed in signed
16.16 revolutions per second; an encoder count. -/
inductive Delivery where
  | pulse
  | reference
  | value (angle speed : Word)
  | count (n : Word)
  deriving DecidableEq, Repr

/-- What a phase of resynchronisation brings to the leeward module (R228). Phase 2: images and the slots selected. Phase 3:
configuration, routes, declarations, the plan in force (area number, operating point, offsets and words) and the one pending, forces,
safety sets and their confirmed values, sessions, alarms, claim. Phases 4 and 5: bytes of memory (committed instance data
and queue contents with their buffers), and the state of the loop slots, profile generators, angle domains, gust guard
and queues. -/
structure ResyncData where
  /-- Images by their types, and whether each passes this module's check (R51). -/
  images : List (Nat × ImgSlot) := []
  imagesOk : Bool := true
  records : List (Nat × List Word) := []
  routes : List (Nat × Word) := []
  tasks : List (Nat × List Word) := []
  active : Nat := 0
  point : Nat := 0
  plan : List (Nat × Word) := []
  pendingPlan : List (Nat × Word) := []
  forces : List Force := []
  sets : List (Nat × List Word) := []
  confirmed : List (Nat × Option Word) := []
  sessions : List (Nat × Option Session) := []
  alm : Option Alm := none
  claim : Word := 0
  cells : List (Nat × Byte) := []
  ce : Option Ce := none
  pg : Option Pg := none
  ad : Option Ad := none
  /-- The gust guard's state, in the words it is forwarded in (R369). -/
  gust : List Word := []
  qe : Option Qe := none
  deriving DecidableEq, Repr

/-- Thermal cycles that one output stage has counted: by swings of 20–40 K, 40–60 K, and 60 K and more. -/
structure StageCycles where
  stage : Nat
  low : Nat
  mid : Nat
  high : Nat
  deriving DecidableEq, Repr

/-- What a TLS client of mailbox 64 comes with (R96): the cipher suite: 0 TLS_AES_128_GCM_SHA256, 1 TLS_AES_256_GCM_SHA384,
2 another; whether TLS 1.3 with ECDHE on P-256 was agreed; whether its certificate is chained to the enrolled project key. -/
structure PliuzHello where
  suite : Fin 3
  p256 : Bool
  chained : Bool
  deriving DecidableEq, Repr

/-- What an ask carries after its claim and cause (R209): the time of the loss, and the tag of w1. -/
structure AskStamp where
  time : BitVec 64
  tag : BitVec 16
  deriving DecidableEq, Repr

/-- What an optical module declares: its power in mW, and its type: 0 10GBASE-SR, 1 10GBASE-LR, 2 1000BASE-SX, 3 1000BASE-LX,
others none of these. -/
structure SfpIdent where
  power : Nat
  type : Nat
  deriving DecidableEq, Repr

end Sys2Proof.Machine
end

