-- ==== Sys2Proof/Syntax.lean ====
section
/-! DEFINITION. The commands of the station module: one constructor for each row of the opcode table, in its order. -/

namespace Sys2Proof

open Sys2Proof.Machine

/-- A command: a read or write of a register, a request in a mailbox, an instruction on a lane, a frame or a measurement
that reaches the module, or an instant at which one of its units acts. -/
inductive Instr where
  /-- TRADE_CYCLE_BOUNDARY (R71). -/
  | tradeCycleBoundary
  /-- TICK_250US (R33). -/
  | tick250us
  /-- WINDOW_START (R110). -/
  | windowStart (lane : Fin 8) (entry : Fin 256)
  /-- ACTIVATION_START (R25). -/
  | activationStart (lane : Fin 8)
  /-- WINDOW_END (R111). -/
  | windowEnd (lane : Fin 8)
  /-- ACTIVATION_RESUME (R111). -/
  | activationResume (lane : Fin 8)
  /-- BUDGET_EXHAUSTED (R116). -/
  | budgetExhausted (lane : Fin 8)
  /-- MAP_COPY_COMPLETE (R159). -/
  | mapCopyComplete (task : Fin 512)
  /-- ADDI (R145). -/
  | addi (lane : Fin 8) (d a : Fin 32) (imm : BitVec 16)
  /-- ANDI (R145). -/
  | andi (lane : Fin 8) (d a : Fin 32) (imm : BitVec 16)
  /-- ORI (R145). -/
  | ori (lane : Fin 8) (d a : Fin 32) (imm : BitVec 16)
  /-- XORI (R145). -/
  | xori (lane : Fin 8) (d a : Fin 32) (imm : BitVec 16)
  /-- LIT (R145). -/
  | lit (lane : Fin 8) (d : Fin 32) (literal : BitVec 32)
  /-- LD (R149). -/
  | ld (lane : Fin 8) (d : Fin 32) (base : Fin 8) (a : Fin 32) (t : Fin 8) (off : BitVec 10)
  /-- ST (R149). -/
  | st (lane : Fin 8) (d : Fin 32) (base : Fin 8) (a : Fin 32) (t : Fin 8) (off : BitVec 10)
  /-- LEA (R145). -/
  | lea (lane : Fin 8) (d : Fin 32) (base : Fin 8) (a : Fin 32) (t : Fin 8) (off : BitVec 10)
  /-- CHK (R145). -/
  | chk (lane : Fin 8) (a b : Fin 32)
  /-- TIME (R150). -/
  | time (lane : Fin 8) (d : Fin 32)
  /-- BR (R145). -/
  | br (lane : Fin 8) (disp : BitVec 26)
  /-- BZ (R145). -/
  | bz (lane : Fin 8) (a : Fin 32) (disp : BitVec 21)
  /-- BNZ (R145). -/
  | bnz (lane : Fin 8) (a : Fin 32) (disp : BitVec 21)
  /-- JT (R145). -/
  | jt (lane : Fin 8) (a : Fin 32) (n : BitVec 21)
  /-- CALL (R154). -/
  | call (lane : Fin 8) (disp : BitVec 26)
  /-- CALLFB (R154). -/
  | callfb (lane : Fin 8) (a : Fin 32) (disp : BitVec 21)
  /-- RET (R154). -/
  | ret (lane : Fin 8)
  /-- ENTER (R154). -/
  | enter (lane : Fin 8) (imm : BitVec 16)
  /-- TRAP (R151). -/
  | trap (lane : Fin 8) (imm : BitVec 16)
  /-- BRK (R152). -/
  | brk (lane : Fin 8)
  /-- NOP (R145). -/
  | nop (lane : Fin 8)
  /-- ADD (R146). -/
  | add (lane : Fin 8) (d a b : Fin 32) (t : Fin 8)
  /-- SUB (R146). -/
  | sub (lane : Fin 8) (d a b : Fin 32) (t : Fin 8)
  /-- MUL (R146). -/
  | mul (lane : Fin 8) (d a b : Fin 32) (t : Fin 8)
  /-- DIV (R147). -/
  | div (lane : Fin 8) (d a b : Fin 32) (t : Fin 8)
  /-- MOD (R147). -/
  | mod (lane : Fin 8) (d a b : Fin 32) (t : Fin 8)
  /-- ADDS (R146). -/
  | adds (lane : Fin 8) (d a b : Fin 32) (t : Fin 8)
  /-- SUBS (R146). -/
  | subs (lane : Fin 8) (d a b : Fin 32) (t : Fin 8)
  /-- MULS (R146). -/
  | muls (lane : Fin 8) (d a b : Fin 32) (t : Fin 8)
  /-- AND (R146). -/
  | and (lane : Fin 8) (d a b : Fin 32) (t : Fin 8)
  /-- OR (R146). -/
  | or (lane : Fin 8) (d a b : Fin 32) (t : Fin 8)
  /-- XOR (R146). -/
  | xor (lane : Fin 8) (d a b : Fin 32) (t : Fin 8)
  /-- NOT (R146). -/
  | not (lane : Fin 8) (d a : Fin 32) (t : Fin 8)
  /-- SHL (R146). -/
  | shl (lane : Fin 8) (d a b : Fin 32) (t : Fin 8)
  /-- SHR (R146). -/
  | shr (lane : Fin 8) (d a b : Fin 32) (t : Fin 8)
  /-- ROL (R146). -/
  | rol (lane : Fin 8) (d a b : Fin 32) (t : Fin 8)
  /-- ROR (R146). -/
  | ror (lane : Fin 8) (d a b : Fin 32) (t : Fin 8)
  /-- EQ (R146). -/
  | eq (lane : Fin 8) (d a b : Fin 32) (t : Fin 8)
  /-- NE (R146). -/
  | ne (lane : Fin 8) (d a b : Fin 32) (t : Fin 8)
  /-- LT (R146). -/
  | lt (lane : Fin 8) (d a b : Fin 32) (t : Fin 8)
  /-- LE (R146). -/
  | le (lane : Fin 8) (d a b : Fin 32) (t : Fin 8)
  /-- GT (R146). -/
  | gt (lane : Fin 8) (d a b : Fin 32) (t : Fin 8)
  /-- GE (R146). -/
  | ge (lane : Fin 8) (d a b : Fin 32) (t : Fin 8)
  /-- MIN (R146). -/
  | min (lane : Fin 8) (d a b : Fin 32) (t : Fin 8)
  /-- MAX (R146). -/
  | max (lane : Fin 8) (d a b : Fin 32) (t : Fin 8)
  /-- ABS (R146). -/
  | abs (lane : Fin 8) (d a : Fin 32) (t : Fin 8)
  /-- NEG (R146). -/
  | neg (lane : Fin 8) (d a : Fin 32) (t : Fin 8)
  /-- EXT (R146). -/
  | ext (lane : Fin 8) (d a : Fin 32) (t : Fin 8)
  /-- EXTS (R146). -/
  | exts (lane : Fin 8) (d a : Fin 32) (t : Fin 8)
  /-- SEL (R146). -/
  | sel (lane : Fin 8) (d a b : Fin 32) (t : Fin 8)
  /-- FADD (R148). -/
  | fadd (lane : Fin 8) (d a b : Fin 32) (t : Fin 8)
  /-- FSUB (R148). -/
  | fsub (lane : Fin 8) (d a b : Fin 32) (t : Fin 8)
  /-- FMUL (R148). -/
  | fmul (lane : Fin 8) (d a b : Fin 32) (t : Fin 8)
  /-- FDIV (R148). -/
  | fdiv (lane : Fin 8) (d a b : Fin 32) (t : Fin 8)
  /-- FSQRT (R148). -/
  | fsqrt (lane : Fin 8) (d a : Fin 32) (t : Fin 8)
  /-- FABS (R148). -/
  | fabs (lane : Fin 8) (d a : Fin 32) (t : Fin 8)
  /-- FNEG (R148). -/
  | fneg (lane : Fin 8) (d a : Fin 32) (t : Fin 8)
  /-- FMIN (R148). -/
  | fmin (lane : Fin 8) (d a b : Fin 32) (t : Fin 8)
  /-- FMAX (R148). -/
  | fmax (lane : Fin 8) (d a b : Fin 32) (t : Fin 8)
  /-- FMAC (R148). -/
  | fmac (lane : Fin 8) (d a b : Fin 32) (t : Fin 8)
  /-- FEQ (R148). -/
  | feq (lane : Fin 8) (d a b : Fin 32) (t : Fin 8)
  /-- FLT (R148). -/
  | flt (lane : Fin 8) (d a b : Fin 32) (t : Fin 8)
  /-- FLE (R148). -/
  | fle (lane : Fin 8) (d a b : Fin 32) (t : Fin 8)
  /-- FUN (R148). -/
  | fun (lane : Fin 8) (d a b : Fin 32) (t : Fin 8)
  /-- F2I (R148). -/
  | f2i (lane : Fin 8) (d a : Fin 32) (t : Fin 8)
  /-- F2IT (R148). -/
  | f2it (lane : Fin 8) (d a : Fin 32) (t : Fin 8)
  /-- I2F (R148). -/
  | i2f (lane : Fin 8) (d a : Fin 32) (t : Fin 8)
  /-- U2F (R148). -/
  | u2f (lane : Fin 8) (d a : Fin 32) (t : Fin 8)
  /-- FWID (R148). -/
  | fwid (lane : Fin 8) (d a : Fin 32) (t : Fin 8)
  /-- FCLASS (R148). -/
  | fclass (lane : Fin 8) (d a : Fin 32) (t : Fin 8)
  /-- REGISTER_WRITE (R71). -/
  | registerWrite (reg : BitVec 19) (value : BitVec 32)
  /-- RC_READ (R63). -/
  | rcRead (reg : BitVec 19)
  /-- SLOW_ACCESS_DONE (R68). -/
  | slowAccessDone (master : Fin 16)
  /-- SLOW_ACCESS_TIMEOUT (R69). -/
  | slowAccessTimeout (master : Fin 16)
  /-- SYS_RST (R54). -/
  | sysRst (word : BitVec 32)
  /-- SYS_MODE_SET (R42). -/
  | sysModeSet (word : BitVec 32)
  /-- PRT_LOCK_SET (R50). -/
  | prtLockSet
  /-- MBX_REQ_HEAD_WRITE (R78). -/
  | mbxReqHeadWrite (mbx : Fin 72) (writer : Option (Fin 8)) (head : BitVec 16)
  /-- MBX_RSP_TAIL_WRITE (R78). -/
  | mbxRspTailWrite (mbx : Fin 72) (writer : Option (Fin 8)) (tail : BitVec 16)
  /-- QE_ALLOCREQ (R244). -/
  | qeAllocreq (kind : Fin 3) (part : Fin 64)
  /-- QE_FREEBUF (R247). -/
  | qeFreebuf (handle : BitVec 16)
  /-- QE_ENQ (R246). -/
  | qeEnq (desc : BitVec 14)
  /-- QE_DEQREQ (R244). -/
  | qeDeqreq (queue : Fin 8192)
  /-- FIO_KICK (R396). -/
  | fioKick (word : BitVec 32)
  /-- RED_HBKICK (R199). -/
  | redHbkick (word : BitVec 32)
  /-- CLAIM_DROP (R216). -/
  | claimDrop (key : BitVec 16)
  /-- CLAIM_RAISE (R213). -/
  | claimRaise (key : BitVec 16)
  /-- LKS_INJECT (R193). -/
  | lksInject (pair : Fin 4) (word : BitVec 32)
  /-- DEBUG_ATTACH (R189). -/
  | debugAttach (lane : Fin 8)
  /-- DEBUG_DETACH (R192). -/
  | debugDetach
  /-- DEBUG_HALT (R190). -/
  | debugHalt
  /-- DEBUG_RESUME (R191). -/
  | debugResume
  /-- DEBUG_STEP (R191). -/
  | debugStep (steps : BitVec 16)
  /-- DEBUG_REG_WRITE (R190). -/
  | debugRegWrite (reg : Fin 36) (half : Bool) (value : BitVec 32)
  /-- DEBUG_MEM_ACCESS (R190). -/
  | debugMemAccess (addr : BitVec 38) (value : Option (BitVec 32))
  /-- SAF_PDATA_WRITE (R479). -/
  | safPdataWrite (value : BitVec 32)
  /-- SAF_TEST (R473). -/
  | safTest (word : BitVec 32)
  /-- AGE_OPSET (R574). -/
  | ageOpset (word : BitVec 32)
  /-- PNL_PUMP_TOGGLE (R545). -/
  | pnlPumpToggle
  /-- PNL_WEARDATA_READ (R547). -/
  | pnlWeardataRead
  /-- MAILBOX_ROUND (R80). -/
  | mailboxRound
  /-- SESSION_TIMEOUT (R91). -/
  | sessionTimeout (session : Fin 16)
  /-- MODE_REQ (R43). -/
  | modeReq (mbx : Fin 68) (tag : BitVec 16) (target : Word)
  /-- CFG_OPEN (R91). -/
  | cfgOpen (mbx : Fin 68) (tag : BitVec 16) (scope : Word)
  /-- CFG_WRITE (R91). -/
  | cfgWrite (mbx : Fin 68) (tag : BitVec 16) (session typeIndex : Word) (rec_ : List Word)
  /-- CFG_COMMIT (R91). -/
  | cfgCommit (mbx : Fin 68) (tag : BitVec 16) (session : Word)
  /-- CFG_ABORT (R91). -/
  | cfgAbort (mbx : Fin 68) (tag : BitVec 16) (session : Word)
  /-- CFG_READ (R614). -/
  | cfgRead (mbx : Fin 68) (tag : BitVec 16) (typeIndex offset : Word)
  /-- EVM_ROUTE (R36). -/
  | evmRoute (mbx : Fin 68) (tag : BitVec 16) (session route : Word)
  /-- FORCE (R172). -/
  | force (mbx : Fin 68) (tag : BitVec 16) (addr value : Word)
  /-- FORCE_RELEASE (R172). -/
  | forceRelease (mbx : Fin 68) (tag : BitVec 16) (addr value : Word)
  /-- KEY_ENROL (R96). -/
  | keyEnrol (mbx : Fin 68) (tag : BitVec 16) (key : List Word)
  /-- TASK_DECLARE (R124). -/
  | taskDeclare (mbx : Fin 68) (tag : BitVec 16) (session : Word) (decl : List Word)
  /-- TASK_PIN (R131). -/
  | taskPin (mbx : Fin 68) (tag : BitVec 16) (session task pin : Word)
  /-- PLACE_RUN (R127). -/
  | placeRun (mbx : Fin 68) (tag : BitVec 16) (session : Word)
  /-- PLACE_REPORT (R135). -/
  | placeReport (mbx : Fin 68) (tag : BitVec 16) (report offset : Word)
  /-- BUDGET_SET (R118). -/
  | budgetSet (mbx : Fin 68) (tag : BitVec 16) (session part task us quota : Word)
  /-- VEER_REQ (R226). -/
  | veerReq (mbx : Fin 68) (tag : BitVec 16)
  /-- RED_STATUS (R237). -/
  | redStatus (mbx : Fin 68) (tag : BitVec 16)
  /-- CHECKPOINT (R231). -/
  | checkpoint (mbx : Fin 68) (tag : BitVec 16) (task : Word)
  /-- SAFE_LOAD (R479). -/
  | safeLoad (mbx : Fin 68) (tag : BitVec 16) (session set offset : Word) (params : List Word)
  /-- SAFE_CHECK (R479). -/
  | safeCheck (mbx : Fin 68) (tag : BitVec 16) (set : Word)
  /-- SAFE_CONFIRM (R480). -/
  | safeConfirm (mbx : Fin 68) (tag : BitVec 16) (set value : Word)
  /-- SAFE_AUTH (R481). -/
  | safeAuth (mbx : Fin 68) (tag : BitVec 16) (set : Word) (password : List Word)
  /-- EVR_READ (R498). -/
  | evrRead (mbx : Fin 68) (tag : BitVec 16) (index : Word)
  /-- EVR_FREEZE (R504). -/
  | evrFreeze (mbx : Fin 68) (tag : BitVec 16)
  /-- EVR_RELEASE (R504). -/
  | evrRelease (mbx : Fin 68) (tag : BitVec 16)
  /-- TIME_STATUS (R95). -/
  | timeStatus (mbx : Fin 68) (tag : BitVec 16)
  /-- TIME_STEP (R384). -/
  | timeStep (mbx : Fin 68) (tag : BitVec 16) (hi lo : Word)
  /-- DIAG_STATUS (R95). -/
  | diagStatus (mbx : Fin 68) (tag : BitVec 16)
  /-- RESET (R615). -/
  | reset (mbx : Fin 68) (tag : BitVec 16) (key : Word)
  /-- COUNTER_READ (R588). -/
  | counterRead (mbx : Fin 68) (tag : BitVec 16) (first count : Word)
  /-- NOTIFY_SET (R89). -/
  | notifySet (mbx : Fin 68) (tag : BitVec 16) (mask : Word)
  /-- ECHO (R95). -/
  | echo (mbx : Fin 68) (tag : BitVec 16) (payload : List Word)
  /-- IMG_OPEN (R95). -/
  | imgOpen (mbx : Fin 68) (tag : BitVec 16) (type slot size : Word)
  /-- IMG_WRITE (R95). -/
  | imgWrite (mbx : Fin 68) (tag : BitVec 16) (session offset : Word) (data : List Word)
  /-- IMG_CLOSE (R51). -/
  | imgClose (mbx : Fin 68) (tag : BitVec 16) (session : Word)
  /-- IMG_SELECT (R95). -/
  | imgSelect (mbx : Fin 68) (tag : BitVec 16) (type slot : Word)
  /-- ONLINE_CHANGE (R169). -/
  | onlineChange (mbx : Fin 68) (tag : BitVec 16) (session : Word)
  /-- IMAGE_CHECK_DONE (R51). -/
  | imageCheckDone (session : Fin 5) (ok partnerOk : Bool) (body : ImageBody)
  /-- CHANGE_LOG_ARCHIVE (R482). -/
  | changeLogArchive (tag : BitVec 16) (session last : Word)
  /-- PREPARE_ACK_TIMEOUT (R92). -/
  | prepareAckTimeout (tag : Word)
  /-- PREPARE_DROP_TIMEOUT (R92). -/
  | prepareDropTimeout (tag : Word)
  /-- POWER_ON (R54). -/
  | powerOn
  /-- SUPPLY_LOSS (R54). -/
  | supplyLoss (more : BitVec 16)
  /-- HOLDUP_EXPIRY (R54). -/
  | holdupExpiry
  /-- LOGIC_INPUT_CHANGE (R600). -/
  | logicInputChange (input : Fin 2) (present : Bool)
  /-- MGMT_WATCHDOG_EXPIRY (R54). -/
  | mgmtWatchdogExpiry
  /-- MGMT_LOCKSTEP_FAIL (R187). -/
  | mgmtLockstepFail
  /-- OVER_TEMP_RESET (R54). -/
  | overTempReset (temp : BitVec 16)
  /-- FATAL_ECC_RESET (R54). -/
  | fatalEccReset (unit : BitVec 16)
  /-- RESET_RELEASE (R49). -/
  | resetRelease (failed : Fin 9) (bootB fwB : Bool)
  /-- BOOT_COMPLETE (R612). -/
  | bootComplete (answer : Option (Fin 8 × Word))
  /-- PARTNER_POLL (R47). -/
  | partnerPoll (answer : Option (Fin 8 × Word))
  /-- WITNESS_ABSENT_TIMEOUT (R47). -/
  | witnessAbsentTimeout
  /-- COMMISSION_CONFIRM_TIMEOUT (R43). -/
  | commissionConfirmTimeout
  /-- PLAN_READY_CHECK (R108). -/
  | planReadyCheck
  /-- PLACEMENT_DONE (R127). -/
  | placementDone
  /-- INSTANCE_MOVE_DONE (R129). -/
  | instanceMoveDone (task : Fin 512)
  /-- DRAM_CREDIT_WINDOW (R119). -/
  | dramCreditWindow
  /-- COMPARE_MISMATCH (R182). -/
  | compareMismatch (lane : Fin 8) (kind : Fin 10)
  /-- AGREEMENT_BUFFER_FREE (R180). -/
  | agreementBufferFree (lane : Fin 8)
  /-- HEARTBEAT_SEND (R199). -/
  | heartbeatSend
  /-- HEARTBEAT_RECEIVE (R200). -/
  | heartbeatReceive (seq : BitVec 16) (mode : Fin 8) (claim cycles ack timeLow : Word) (trip : BitVec 16)
  /-- HEARTBEAT_MISSED (R200). -/
  | heartbeatMissed
  /-- HEARTBEAT_WATCHDOG_EXPIRY (R199). -/
  | heartbeatWatchdogExpiry
  /-- LINK_LANE_CHANGE (R196). -/
  | linkLaneChange (lane : Fin 2) (up : Bool)
  /-- LINK_CRC_BURST (R207). -/
  | linkCrcBurst (n : BitVec 16)
  /-- FORWARD_ITEM_RECEIVE (R202). -/
  | forwardItemReceive (seq : Word) (kind : Fin 32) (ws : List Word)
  /-- FORWARD_ACK_RECEIVE (R203). -/
  | forwardAckReceive (seq : Word)
  /-- COMPLETION_MARKER (R204). -/
  | completionMarker (seq : Word) (lane : Fin 8) (task : Fin 512) (number sigLo sigHi : Word)
  /-- LEEWARD_LAG_EXCEEDED (R205). -/
  | leewardLagExceeded
  /-- WITNESS_ASK_RETRY (R211). -/
  | witnessAskRetry
  /-- WITNESS_GRANT_TIMEOUT (R211). -/
  | witnessGrantTimeout
  /-- WIT_ASK (R210). -/
  | witAsk (ok : Bool) (station requester : Fin 16384) (claim cause : Word) (stamp : AskStamp)
  /-- WIT_PROBE (R210). -/
  | witProbe (ok : Bool) (witness station : Fin 16384) (number : Word)
  /-- WIT_PROBE_REPLY (R210). -/
  | witProbeReply (ok : Bool) (station : Fin 16384) (number claim : Word) (mode : Fin 8)
  /-- PROBE_WINDOW_EXPIRY (R210). -/
  | probeWindowExpiry (station : Fin 16384)
  /-- WIT_GRANT (R213). -/
  | witGrant (ok : Bool) (station : Fin 16384) (claim : Word) (tag : BitVec 16)
  /-- WIT_REFUSE (R47). -/
  | witRefuse (ok : Bool) (witness station : Fin 16384) (reason highest : Word)
  /-- WIT_CLAIMED (R210). -/
  | witClaimed (ok : Bool) (node station : Fin 16384) (claim kind : Word)
  /-- WIT_STATUS (R210). -/
  | witStatus (ok : Bool) (node station : Fin 16384) (claim : Word) (mode : Fin 8)
  /-- WIT_STATUS_TIMER (R209). -/
  | witStatusTimer (primary secondary : Bool)
  /-- WIT_DEMOTE (R217). -/
  | witDemote (ok : Bool) (station : Fin 16384) (claim : Word)
  /-- PAIR_PREPARE (R92). -/
  | pairPrepare (tag : Word) (stages : List Stage)
  /-- PAIR_ACK (R92). -/
  | pairAck (tag : Word)
  /-- PAIR_NACK (R92). -/
  | pairNack (tag detail : Word)
  /-- PAIR_FALLBACK (R133). -/
  | pairFallback (index : Fin 4) (boundary : Word)
  /-- PAIR_FAILMARK (R185). -/
  | pairFailmark (lane : Fin 8) (count : Word)
  /-- PAIR_FAILREP (R185). -/
  | pairFailrep (pair : Fin 4)
  /-- PAIR_YIELD (R225). -/
  | pairYield (claim cause : Word)
  /-- PAIR_VEER (R226). -/
  | pairVeer (phase boundary : Word)
  /-- COMMANDED_VEER_TIMEOUT (R226). -/
  | commandedVeerTimeout
  /-- FORMER_WINDWARD_STANDBY (R226). -/
  | formerWindwardStandby
  /-- PAIR_RESYNC (R228). -/
  | pairResync (phase : Fin 8) (d1 d2 d3 : Word)
  /-- RESYNC_PHASE_COMPLETE (R228). -/
  | resyncPhaseComplete (bytes : BitVec 64) (data : ResyncData)
  /-- RESYNC_TIMEOUT (R229). -/
  | resyncTimeout
  /-- CLAIM_FRAME_RECEIVE (R215). -/
  | claimFrameReceive (unit : Fin 9) (mine : Bool) (frame : BitVec 40)
  /-- STAGE_TURN_ON (R215). -/
  | stageTurnOn (unit : Fin 9)
  /-- CLAIM_RESET_WINDOW_END (R216). -/
  | claimResetWindowEnd
  /-- CHECKPOINT_COPY_DONE (R231). -/
  | checkpointCopyDone (task : Fin 512)
  /-- PRES_S_OPEN (R235). -/
  | presSOpen
  /-- PRES_S_CLOSE (R235). -/
  | presSClose
  /-- INSERTION_DEBOUNCE (R236). -/
  | insertionDebounce
  /-- GROUP_REQUEST (R254). -/
  | groupRequest (queue : Fin 8192)
  /-- RING_CYCLE_START (R437). -/
  | ringCycleStart (ring : Fin 2)
  /-- GROUP_PART_ANSWER (R255). -/
  | groupPartAnswer (group : Fin 256) (part reason : Fin 16)
  /-- GROUP_PREPARE_DEADLINE (R255). -/
  | groupPrepareDeadline (group : Fin 256)
  /-- GROUP_PART_REPORT (R256). -/
  | groupPartReport (group : Fin 256) (part reason : Fin 16)
  /-- GROUP_REPORT_WINDOW_END (R257). -/
  | groupReportWindowEnd (group : Fin 256)
  /-- GROUP_OUTCOME_ENQUEUE (R257). -/
  | groupOutcomeEnqueue (queue : Fin 8192)
  /-- UNIT_PREPARATION_EXPIRY (R258). -/
  | unitPreparationExpiry (unit : Fin 256)
  /-- LOOP_TRIGGER (R277). -/
  | loopTrigger (slot : Fin 1024)
  /-- LOOP_RUN_DISPATCH (R278). -/
  | loopRunDispatch
  /-- LOOP_RUN_OUTPUT (R272). -/
  | loopRunOutput (lane : Fin 4)
  /-- INJECTION_JOB (R285). -/
  | injectionJob (queue : Fin 8192)
  /-- CAPTURE_DELIVERY_RETRY (R290). -/
  | captureDeliveryRetry (buffer : Fin 4)
  /-- CAPTURE_DELIVERY_ABANDON (R290). -/
  | captureDeliveryAbandon (buffer : Fin 4)
  /-- PG_UPDATE (R294). -/
  | pgUpdate (gen : Fin 64)
  /-- PG_MOVE (R297). -/
  | pgMove (gen : Fin 64) (seq : BitVec 8) (target : BitVec 64)
  /-- PG_VELOCITY (R299). -/
  | pgVelocity (gen : Fin 64) (seq : BitVec 8) (target : BitVec 64)
  /-- PG_STOP (R303). -/
  | pgStop (gen : Fin 64) (seq : BitVec 8)
  /-- PG_HOME (R307). -/
  | pgHome (gen : Fin 64) (seq : BitVec 8)
  /-- PG_CLEAR (R303). -/
  | pgClear (gen : Fin 64) (seq : BitVec 8)
  /-- LIMIT_SWITCH_EDGE (R305). -/
  | limitSwitchEdge (gen : Fin 64) (which : Fin 3) (level : Bool)
  /-- DOMAIN_DELIVERY (R317). -/
  | domainDelivery (domain : Fin 8) (age : BitVec 16) (delivery : Delivery)
  /-- MISSING_EDGE (R318). -/
  | missingEdge (domain : Fin 8)
  /-- ENCODER_IDLE_TIMEOUT (R320). -/
  | encoderIdleTimeout (domain : Fin 8)
  /-- COAST_LIMIT (R326). -/
  | coastLimit (domain : Fin 8)
  /-- ACTION_FIRE (R330). -/
  | actionFire (slot : Fin 4096) (off : Bool)
  /-- REV_BOUNDARY (R328). -/
  | revBoundary (domain : Fin 8)
  /-- ACTION_ARM (R334). -/
  | actionArm (slot : Fin 4096) (arm : BitVec 32)
  /-- PHASOR_CYCLE_END (R346). -/
  | phasorCycleEnd (triple : Fin 3) (age : BitVec 32) (volts : TripleMeas) (currents : List TripleMeas)
  /-- SYNC_ARM (R353). -/
  | syncArm (channel : Fin 2) (seq : BitVec 8) (breaker : Fin 8) (deadBus : Bool)
  /-- SYNC_DISARM (R362). -/
  | syncDisarm (channel : Fin 2) (seq : BitVec 8)
  /-- CLOSURE_DETECTED (R358). -/
  | closureDetected (channel : Fin 2) (age : BitVec 32)
  /-- CLOSURE_TIMEOUT (R358). -/
  | closureTimeout (channel : Fin 2)
  /-- CLOSE_PULSE_END (R359). -/
  | closePulseEnd (channel : Fin 2)
  /-- SYNC_ARM_TIMEOUT (R362). -/
  | syncArmTimeout (channel : Fin 2)
  /-- GUST_EVALUATION (R364). -/
  | gustEvaluation
  /-- GUST_REQUEST (R365). -/
  | gustRequest (slot : Fin 64) (seq : BitVec 8)
  /-- GUST_WITHDRAW (R365). -/
  | gustWithdraw (slot : Fin 64) (seq : BitVec 8)
  /-- BLACKOUT_ENTRY (R367). -/
  | blackoutEntry
  /-- LIVE_TIME_RESTART (R367). -/
  | liveTimeRestart
  /-- RESTART_STEP_DELAY (R368). -/
  | restartStepDelay
  /-- RESTART_STEP_TIMEOUT (R368). -/
  | restartStepTimeout
  /-- PTP_SYNC_MEASUREMENT (R378). -/
  | ptpSyncMeasurement (port : Fin 6) (offset : BitVec 64) (delay : BitVec 32)
  /-- PTP_ANNOUNCE (R374). -/
  | ptpAnnounce (port : Fin 6) (clock : Announce)
  /-- REFERENCE_LOSS (R381). -/
  | referenceLoss
  /-- LOCK_ACHIEVED (R373). -/
  | lockAchieved
  /-- PPS_OUTPUT_EDGE (R385). -/
  | ppsOutputEdge
  /-- PPS_INPUT_EDGE (R386). -/
  | ppsInputEdge (age : BitVec 16)
  /-- COMPARE_ARM (R387). -/
  | compareArm (compare : Fin 32) (target : BitVec 32) (seq : BitVec 8)
  /-- COMPARE_DISARM (R390). -/
  | compareDisarm (compare : Fin 32) (seq : BitVec 8)
  /-- COMPARE_FIRE (R387). -/
  | compareFire (compare : Fin 32)
  /-- PERIODIC_COMPARE_FIRE (R388). -/
  | periodicCompareFire (compare : Fin 32)
  /-- BARRIER_FRAME_SEND (R394). -/
  | barrierFrameSend
  /-- BARRIER_FRAME_RECEIVE (R394). -/
  | barrierFrameReceive (unit : Fin 9) (field : Bool) (octets : List Byte) (readings : List Reading)
  /-- LINK_DOWN (R395). -/
  | linkDown (unit : Fin 9) (field : Bool)
  /-- FIO_WATCHDOG_EXPIRY (R396). -/
  | fioWatchdogExpiry
  /-- SILENCE_TIMEOUT (R397). -/
  | silenceTimeout (unit : Fin 9)
  /-- FIELD_SUPPLY_CHANGE (R398). -/
  | fieldSupplyChange (supply : Fin 8) (mv : BitVec 16)
  /-- DI_SAMPLE (R403). -/
  | diSample (bank : Fin 2) (inputs : List (Nat × Nat))
  /-- DO_OVERLOAD_LATCH (R405). -/
  | doOverloadLatch (bank : Fin 2) (channel : Fin 8) (hot : Bool)
  /-- DO_MISMATCH (R405). -/
  | doMismatch (bank : Fin 2) (channel : Fin 8) (readback : Bool)
  /-- DO_OPEN_LOAD (R405). -/
  | doOpenLoad (bank : Fin 2) (channel : Fin 8) (open_ : Bool)
  /-- GUST_SWITCH_ON_RELEASE (R406). -/
  | gustSwitchOnRelease (bank : Fin 2)
  /-- FAULT_RESET_ITEM (R407). -/
  | faultResetItem (unit : Fin 3) (channel : Fin 8) (seq : BitVec 8) (cool : Bool)
  /-- PWM_PERIOD (R408). -/
  | pwmPeriod (channel : Fin 4) (current : BitVec 32) (cut early : Bool)
  /-- SHOOT_THROUGH (R409). -/
  | shootThrough (channel : Fin 4)
  /-- HBRIDGE_OPEN_COIL (R410). -/
  | hbridgeOpenCoil (channel : Fin 4)
  /-- STAGE_THERMAL_LATCH (R410). -/
  | stageThermalLatch (channel : Fin 4)
  /-- STAGGER_RELEASE (R411). -/
  | staggerRelease (channel : Fin 4)
  /-- ENCODER_COUNT (R412). -/
  | encoderCount (encoder : Fin 2) (a b : Bool) (age : BitVec 16)
  /-- ENCODER_INDEX (R412). -/
  | encoderIndex (encoder : Fin 2) (age : BitVec 16)
  /-- ENCODER_LINE_FAULT (R413). -/
  | encoderLineFault (encoder : Fin 2) (fault : Bool)
  /-- PICKUP_PULSE (R414). -/
  | pickupPulse (pickup : Fin 2) (age : BitVec 16)
  /-- COIL_CHECK (R414). -/
  | coilCheck (pickup : Fin 2) (ohm : BitVec 20)
  /-- CONVERTER_START (R421). -/
  | converterStart (converter : Fin 2)
  /-- FILTER_OUTPUT (R421). -/
  | filterOutput (converter : Fin 2) (current : BitVec 32) (supply : BitVec 16) (limited : Bool)
  /-- AO_STAGGER_RELEASE (R426). -/
  | aoStaggerRelease (channel : Fin 8)
  /-- COMPLIANCE_ADJUST (R427). -/
  | complianceAdjust (channel : Fin 8) (mv : BitVec 16)
  /-- AO_READBACK (R428). -/
  | aoReadback (channel : Fin 8) (current : BitVec 32)
  /-- AO_THERMAL (R430). -/
  | aoThermal (channel : Fin 8) (temp : BitVec 16)
  /-- RING_CYCLE_END (R440). -/
  | ringCycleEnd (ring : Fin 2) (report : RingReport)
  /-- UNIT_FRAME_PROCESS (R437). -/
  | unitFrameProcess (unit : Fin 256) (other : Option RFrame)
  /-- UNIT_APPLY_INSTANT (R437). -/
  | unitApplyInstant (unit : Fin 256)
  /-- UNIT_LINK_DOWN (R439). -/
  | unitLinkDown (unit : Fin 256) (sideB : Bool)
  /-- RING_RESTORE (R441). -/
  | ringRestore (ring : Fin 2) (position : Fin 128)
  /-- UNIT_MISSED_CYCLES (R442). -/
  | unitMissedCycles (unit : Fin 256)
  /-- DISCOVERY (R443). -/
  | discovery (ring : Fin 2) (reports : List RReport) (bytes hopNs : BitVec 16)
  /-- FOREIGN_FRAME (R445). -/
  | foreignFrame (ring : Fin 2) (claim : BitVec 32) (even : Bool)
  /-- UNIT_SILENCE_TIMEOUT (R446). -/
  | unitSilenceTimeout (unit : Fin 256)
  /-- RIO_SERVICE_MESSAGE (R438). -/
  | rioServiceMessage (queue : Fin 8192) (reply : Option (List Byte))
  /-- GROUP_PULSE_END (R448). -/
  | groupPulseEnd (point : Word)
  /-- SAFETY_EVALUATION (R453). -/
  | safetyEvaluation
  /-- SAFETY_INPUT_SAMPLE (R456). -/
  | safetyInputSample (a b : BitVec 12) (darkA darkB : Bool)
  /-- TEST_SOURCE_PULSE (R456). -/
  | testSourcePulse (closed never : BitVec 12)
  /-- DISCREPANCY_TIMEOUT (R457). -/
  | discrepancyTimeout (input : Fin 12)
  /-- STO_TEST_PULSE (R458). -/
  | stoTestPulse (output : Fin 4) (switchB inPulse outside : Bool)
  /-- SAFETY_DEMAND_ITEM (R464). -/
  | safetyDemandItem (inst : Fin 256) (demand : Bool)
  /-- SAFETY_RESET_ITEM (R465). -/
  | safetyResetItem (inst : Fin 256) (seq : BitVec 8)
  /-- SAFETY_TELEGRAM_RECEIVE (R472). -/
  | safetyTelegramReceive (unit : Fin 256) (group : Fin 16) (counter : BitVec 16) (crcOk : Bool) (values : List SafeValue)
  /-- SAFETY_WATCHDOG_EXPIRY (R472). -/
  | safetyWatchdogExpiry (unit : Fin 256) (group : Fin 16) (atUnit : Bool)
  /-- PARAMETER_CRC_CHECK (R474). -/
  | parameterCrcCheck
  /-- CONFIRM_LOCKOUT_END (R480). -/
  | confirmLockoutEnd (set : Fin 16)
  /-- AUTH_LOCKOUT_END (R481). -/
  | authLockoutEnd
  /-- EDM_EXERCISE_DUE (R483). -/
  | edmExerciseDue (inst : Fin 256)
  /-- ALARM_EVALUATION (R485). -/
  | alarmEvaluation
  /-- ALARM_ITEM (R485). -/
  | alarmItem (alarm : Fin 2048) (present : Bool)
  /-- ALARM_ACKNOWLEDGE (R490). -/
  | alarmAcknowledge (alarm : Fin 2048) (pliuz : Bool)
  /-- ALARM_SILENCE (R490). -/
  | alarmSilence (alarm : Fin 2048) (pliuz : Bool)
  /-- ALARM_SHELVE (R490). -/
  | alarmShelve (alarm : Fin 2048) (pliuz : Bool) (minutes : BitVec 16)
  /-- ALARM_UNSHELVE (R490). -/
  | alarmUnshelve (alarm : Fin 2048) (pliuz : Bool)
  /-- ACN_RECEIVE (R492). -/
  | acnReceive (ident : BitVec 32) (instance_ : BitVec 16) (command : Fin 5)
  /-- SILENCE_EXPIRY (R488). -/
  | silenceExpiry (alarm : Fin 2048)
  /-- SHELVE_EXPIRY (R488). -/
  | shelveExpiry (alarm : Fin 2048)
  /-- ESCALATION (R491). -/
  | escalation (alarm : Fin 2048)
  /-- ALC_TIMER (R492). -/
  | alcTimer
  /-- HBT_TIMER (R492). -/
  | hbtTimer
  /-- FLOOD_LEAVE (R494). -/
  | floodLeave
  /-- HELD_ALF_RELEASE (R494). -/
  | heldAlfRelease
  /-- CHATTER_END (R495). -/
  | chatterEnd (alarm : Fin 2048)
  /-- TRIGGER_CAPTURE (R500). -/
  | triggerCapture (definition : Fin 256)
  /-- RECORD_MESSAGE (R501). -/
  | recordMessage (queue : Option (Fin 8192))
  /-- STAGING_WRITE (R498). -/
  | stagingWrite
  /-- FREEZE_TIMEOUT (R504). -/
  | freezeTimeout
  /-- SERVICE_FRAME_RECEIVE (R513). -/
  | serviceFrameReceive (port : Fin 6) (service : Fin 64) (addr : BitVec 32) (bytes : List Byte) (ok : Bool) (tag : Option PrpTag)
  /-- SERVICE_FRAME_SEND (R513). -/
  | serviceFrameSend (serial : Bool) (service : Fin 64)
  /-- PRP_SUPERVISION (R510). -/
  | prpSupervision (heardA heardB : Bool)
  /-- SENTENCE_450_RECEIVE (R515). -/
  | sentence450Receive (port : Fin 6) (service : Fin 64) (addr : BitVec 32) (bytes : List Byte) (ok : Bool) (tag : Option PrpTag)
  /-- MODBUS_CONNECT (R516). -/
  | modbusConnect (port : Fin 6) (connection : BitVec 32) (opened : Bool)
  /-- MODBUS_READ_COILS (R517). -/
  | modbusReadCoils (from_ : ModbusFrom) (addr count : BitVec 16)
  /-- MODBUS_READ_DISCRETE_INPUTS (R517). -/
  | modbusReadDiscreteInputs (from_ : ModbusFrom) (addr count : BitVec 16)
  /-- MODBUS_READ_HOLDING_REGISTERS (R517). -/
  | modbusReadHoldingRegisters (from_ : ModbusFrom) (addr count : BitVec 16)
  /-- MODBUS_READ_INPUT_REGISTERS (R517). -/
  | modbusReadInputRegisters (from_ : ModbusFrom) (addr count : BitVec 16)
  /-- MODBUS_WRITE_SINGLE_COIL (R517). -/
  | modbusWriteSingleCoil (from_ : ModbusFrom) (addr : BitVec 16) (on : Bool)
  /-- MODBUS_WRITE_SINGLE_REGISTER (R517). -/
  | modbusWriteSingleRegister (from_ : ModbusFrom) (addr value : BitVec 16)
  /-- MODBUS_WRITE_MULTIPLE_COILS (R517). -/
  | modbusWriteMultipleCoils (from_ : ModbusFrom) (addr : BitVec 16) (values : List Bool)
  /-- MODBUS_WRITE_MULTIPLE_REGISTERS (R517). -/
  | modbusWriteMultipleRegisters (from_ : ModbusFrom) (addr : BitVec 16) (values : List (BitVec 16))
  /-- MODBUS_READ_WRITE_REGISTERS (R517). -/
  | modbusReadWriteRegisters (from_ : ModbusFrom) (readAddr readCount writeAddr : BitVec 16) (values : List (BitVec 16))
  /-- MODBUS_CLIENT_REQUEST (R518). -/
  | modbusClientRequest (serial : Bool) (service : Fin 64)
  /-- MODBUS_RESPONSE (R518). -/
  | modbusResponse (serial : Bool) (service : Fin 64) (port : Fin 6) (bytes : List Byte) (ok : Bool)
  /-- MODBUS_RESPONSE_TIMEOUT (R518). -/
  | modbusResponseTimeout (serial : Bool) (service : Fin 64)
  /-- CLASSIC_PUBLISH_PERIOD (R519). -/
  | classicPublishPeriod (service : Fin 64)
  /-- CLASSIC_BLOCK_RECEIVE (R519). -/
  | classicBlockReceive (port : Fin 6) (service : Fin 64) (addr : BitVec 32) (header : List (BitVec 32)) (bytes : List Byte)
  /-- CLASSIC_SUBSCRIBE_TIMEOUT (R519). -/
  | classicSubscribeTimeout (service : Fin 64)
  /-- GUST_NETWORK_REQUEST (R520). -/
  | gustNetworkRequest (port : Fin 6) (block : BitVec 32)
  /-- GRANT_BLOCK_SEND (R520). -/
  | grantBlockSend (slot : Fin 64)
  /-- SERIAL_SENTENCE_RECEIVE (R522). -/
  | serialSentenceReceive (port : Fin 4) (bytes : List Byte) (check : Fin 3) (zda : Option Nat)
  /-- PLIUZ_CONNECT (R96). -/
  | pliuzConnect (opened : Bool) (addr : BitVec 32) (port : Option (Fin 6)) (hello : PliuzHello)
  /-- PLIUZ_IDLE_TIMEOUT (R97). -/
  | pliuzIdleTimeout
  /-- CAN_FRAME_RECEIVE (R531). -/
  | canFrameReceive (port : Fin 4) (frame : CanRx)
  /-- CAN_BUFFER_LOAD (R532). -/
  | canBufferLoad (port : Fin 4) (buffer : Fin 3)
  /-- CAN_ARBITRATION_OFFER (R533). -/
  | canArbitrationOffer (port : Fin 4)
  /-- CAN_FRAME_OUTCOME (R534). -/
  | canFrameOutcome (port : Fin 4) (buffer : Fin 3) (result : Fin 3) (ack : Bool) (age : BitVec 32) (tdc : BitVec 8)
  /-- CAN_TRANSMIT_TIMEOUT (R534). -/
  | canTransmitTimeout (port : Fin 4) (buffer : Fin 3)
  /-- CAN_BUS_OFF (R535). -/
  | canBusOff (port : Fin 4)
  /-- CAN_RECOVERY_START (R535). -/
  | canRecoveryStart (port : Fin 4)
  /-- CAN_RECOVERY_COMPLETE (R535). -/
  | canRecoveryComplete (port : Fin 4)
  /-- CAN_PROTOCOL_EXCEPTION (R529). -/
  | canProtocolException (port : Fin 4)
  /-- CAN_DETECTION_DWELL (R536). -/
  | canDetectionDwell (port : Fin 4)
  /-- CAN_REFERENCE_INSTANT (R537). -/
  | canReferenceInstant (port : Fin 4)
  /-- CAN_REFERENCE_LATE (R537). -/
  | canReferenceLate (port : Fin 4)
  /-- FRAME_BOUNDARY (R546). -/
  | frameBoundary (image : List (Fin 16384 × Fin 16))
  /-- PUMP_FAULT (R545). -/
  | pumpFault
  /-- PUMP_RESTART (R545). -/
  | pumpRestart
  /-- KEY_PRESS (R549). -/
  | keyPress (keys : BitVec 6) (alarm : Fin 2048) (removal : Bool)
  /-- KEY_REPEAT (R549). -/
  | keyRepeat (up : Bool)
  /-- CHORD_PANEL_RESET (R550). -/
  | chordPanelReset
  /-- CHORD_WITNESS_OVERRIDE (R48). -/
  | chordWitnessOverride
  /-- START_MODE_OVERRIDE (R48). -/
  | startModeOverride
  /-- SLIDER_TOUCH (R551). -/
  | sliderTouch (touched : Bool) (pos width : Fin 1024)
  /-- DIM_TIMEOUT (R548). -/
  | dimTimeout
  /-- PIXEL_SHIFT (R548). -/
  | pixelShift
  /-- WEAR_HOURLY_READ (R547). -/
  | wearHourlyRead
  /-- WEAR_GAIN_UPDATE (R547). -/
  | wearGainUpdate (gains : List (Fin 16384 × Fin 128))
  /-- USB_ATTACH (R555). -/
  | usbAttach (flip : Bool)
  /-- USB_DETACH (R555). -/
  | usbDetach
  /-- SELFTEST_IMAGE_READY (R560). -/
  | selftestImageReady (ok : Bool)
  /-- SELFTEST_ITEM_DONE (R563). -/
  | selftestItemDone (pass : Bool) (sig : Word) (word : BitVec 17) (contacts : List (Fin 256))
  /-- SELFTEST_CONDITION_FAIL (R561). -/
  | selftestConditionFail (clock supply temp : BitVec 16)
  /-- PATH_MONITOR_READ (R572). -/
  | pathMonitorRead (delays : List (BitVec 16)) (partner : Fin 4)
  /-- THERMAL_POINT_STEP (R573). -/
  | thermalPointStep (temp : BitVec 16)
  /-- ESR_MEASURE (R575). -/
  | esrMeasure (esr : BitVec 16) (enough : Bool)
  /-- SCAP_TEST (R575). -/
  | scapTest (holdup : BitVec 16)
  /-- STAGE_CYCLE_READ (R576). -/
  | stageCycleRead (cycles : List StageCycles)
  /-- LIFE_REPORT_UPDATE (R578). -/
  | lifeReportUpdate
  /-- SFP_INSERT (R598). -/
  | sfpInsert (cage : Fin 2) (ident : SfpIdent) (diag : List Word)
  /-- SFP_DIAG_POLL (R598). -/
  | sfpDiagPoll (cage : Fin 2) (diag : List Word) (alarm : Bool)
  /-- WITNESS_LINE_DISAGREE (R593). -/
  | witnessLineDisagree
  /-- ILLEGAL_INSTRUCTION (R141). -/
  | illegalInstruction (lane : Fin 8) (instr : BitVec 32)
  /-- FETCH_PROTECTION_FAULT (R100). -/
  | fetchProtectionFault (lane : Fin 8)
  /-- ECC_SCRUB_ERROR (R20). -/
  | eccScrubError (bank : Fin 16)
  /-- OSCILLATOR_WARM (R53). -/
  | oscillatorWarm
  /-- SHADOW_BANK_LOADED (R169). -/
  | shadowBankLoaded
  /-- UNIT_SUPPLY_LOSS (R446). -/
  | unitSupplyLoss (unit : Fin 256)
  /-- PUMP_RAMP_END (R545). -/
  | pumpRampEnd
  /-- KEY_RELEASE (R549). -/
  | keyRelease (key : Fin 6)
  /-- PARTNER_PRESENCE_CHANGE (R593). -/
  | partnerPresenceChange (closed : Bool)
  /-- ETH_LINK_CHANGE (R376). -/
  | ethLinkChange (port : Fin 6) (up : Bool) (speed : Fin 8)
  deriving DecidableEq, Repr

end Sys2Proof
end

