-- ==== Sys2Proof/Config.lean ====
section
/-! DEFINITION. What an implementation fixes and the spec leaves open: fuse values, boot code's memory
layout, and the free values. Each is an opaque constant, so that nothing can be proved of its value. -/

namespace Sys2Proof

/-- A fresh free value, by number. The state counts them (log entry 3). -/
opaque Config.freeWord : Nat → Word64

/-- Fuse values of R61: die revision, module revision, interface revision of each block, pair
protocol version (R233). -/
opaque Config.dieRev : Nat
opaque Config.modRev : Nat
opaque Config.irev : Nat → Nat
opaque Config.pverMajor : Nat
opaque Config.pverMinor : Nat
opaque Config.firmwareVersion : Word

/-- Low byte of the event code of a station firmware record, by the rule that orders the record: R497
fixes the class byte only. -/
opaque Config.eventLow : Nat → Nat

/-- Where boot code puts the areas of the partitions in a region, given their sizes (R101): the manual gives
the regions and not the places. A choice in which areas meet or leave their region is not taken (Places). -/
opaque Config.areaBase : Nat → List Nat → Nat → Nat

/-- Pages that boot code gives a partition's code banks (kind 0), constant data (1), snapshots (2) and output images (3):
the manual does not size them. -/
opaque Config.areaSize : Nat → Nat → Nat

/-- Where a task's snapshot (kind 0) and output image (1) stand in its partition's area. -/
opaque Config.taskPlace : Nat → Nat → Nat

/-- Low word of the SHA-256 digest of a key (R95, KEY_ENROL). -/
opaque Config.keyDigest : List Word → Word

/-- Signature over an output image and committed lines (R204). -/
opaque Config.runSignature : List Byte → Word64

/-- Contents of the boot ROM (R18). -/
opaque Config.bootRom : Nat → Byte


/-- Error of the chirp's sine table at an angle, 40 fractional bits: R286 bounds it and does not give
it; its reader clamps it to the bound. -/
opaque Config.sineError : Nat → Int

/-- The servo of the time unit: slew demand and learned correction, in units of 10^-12, from an offset in
ns and the correction so far. R378 gives the limits of the rate and not the loop's gains. -/
opaque Config.servoSlew : Int → Int → Int
opaque Config.servoLearn : Int → Int → Int

/-- Identity and variance of this module's own clock as a PTP master (R375). -/
opaque Config.clockIdentity : Nat
opaque Config.clockVariance : Nat

/-- The frame type octet of a barrier frame that carries output values (R394): the manual gives no code for it. -/
opaque Config.frameType : Byte

/-- Payload octet `i` of a barrier frame to unit `u` that carries these output values (R394): its layout is internal to the module. -/
opaque Config.framePayload : Nat → List Int → Nat → Byte

/-- The frame type octet of a claim-reset barrier frame (R216): the manual names the type and not its code. -/
opaque Config.resetFrameType : Byte

/-- What a remote unit's section carries besides its CRC-16, from the unit's number and the values for its points (R438): the section of
a unit is laid out by the unit's type. -/
opaque Config.sectionOctets : Nat → List (Nat × Nat) → List Byte

/-- Bytes of one frame of a ring (R438): the manual bounds a unit's section and does not give its length. -/
opaque Config.ringBytes : Nat → Nat

/-- CRC-32C of the parameter image that the configuration image holds for a remote unit (R451). -/
opaque Config.imageCrc : Nat → Word

/-- Filter time and output time of a remote safety unit, µs, by node (R471): the manual names them and gives no value. -/
opaque Config.unitFilter : Nat → Nat
opaque Config.unitOutput : Nat → Nat

/-- Whether a remote unit's type code marks it safety-capable (R472): the manual does not list the codes. -/
opaque Config.safetyType : Nat → Bool

/-- Span of an analogue point to which the manual gives none, from its unit, channel and point (R206). -/
opaque Config.pointSpan : Nat → Nat → Nat → Nat

/-- CRC-8 of a claim on a claim line: the manual does not give the polynomial (R214). -/
opaque Config.claimCrc : Word → Byte

/-- SHA-256 digest of an image, its low word (R228). -/
opaque Config.imageDigest : List Byte → Word

/-- A byte of a classic publication in SAFE, from the service, the place, the byte that the task gave, and the values at the
output stages (R514): the manual does not say where in a payload the output points stand. -/
opaque Config.safeByte : Nat → Nat → Byte → List Int → Byte

/-- Boot values of the panel's precharge entries (R543): PNL_PRE resets to a configured value. -/
opaque Config.preEntry : Nat → Word

/-- Word 0 of DEGRADED for a bank marked unusable (R89): the manual codes pairs and the ageing mark alone. -/
opaque Config.degradedBank : Nat → Word

end Sys2Proof
end

