-- ==== Sys2Proof/Machine/Bits.lean ====
section
/-! DEFINITION. Bit fields of words, signed readings of fields, and a register's field as a value. -/

namespace Sys2Proof.Machine

/-- Bits [hi:lo] of a word, as a number. -/
def bits (w : Word) (hi lo : Nat) : Nat := (w.toNat >>> lo) % 2 ^ (hi + 1 - lo)

/-- Bit `n` of a word. -/
def bit (w : Word) (n : Nat) : Bool := w.getLsbD n

/-- A word with bits [hi:lo] replaced by the low bits of `v`. -/
def setBits (w : Word) (hi lo : Nat) (v : Nat) : Word :=
  let m : Word := BitVec.ofNat 32 ((2 ^ (hi + 1 - lo) - 1) <<< lo)
  (w &&& ~~~m) ||| (BitVec.ofNat 32 (v <<< lo) &&& m)

/-- A number of `n` bits read as a two's complement integer. -/
def signed (n : Nat) (v : Nat) : Int :=
  if v < 2 ^ (n - 1) then (v : Int) else (v : Int) - 2 ^ n

/-- An integer as a two's complement number of `n` bits. -/
def unsigned (n : Nat) (v : Int) : Nat := (v % 2 ^ n).toNat

/-- An integer as a 32-bit word. -/
def wordOf (v : Int) : Word := BitVec.ofInt 32 v

/-- A number as a 32-bit word. -/
def wd (n : Nat) : Word := BitVec.ofNat 32 n

/-- 1 for true. -/
def b1 (b : Bool) : Nat := if b then 1 else 0

/-- The low and the high word of a 64-bit number. -/
def lo32 (n : Nat) : Word := BitVec.ofNat 32 n
def hi32 (n : Nat) : Word := BitVec.ofNat 32 (n >>> 32)

/-- A saturating count: one more, at most all ones in `n` bits. -/
def satInc (n v : Nat) : Nat := if v + 1 < 2 ^ n then v + 1 else 2 ^ n - 1

/-- `v` clamped between two integers. -/
def clampI (lo hi v : Int) : Int := if v < lo then lo else if hi < v then hi else v

/-- A named field of a register: the register's key and its bits. -/
structure Fld where
  key : Nat
  hi : Nat
  lo : Nat
  deriving DecidableEq, Repr

/-- The width of a field. -/
def Fld.width (f : Fld) : Nat := f.hi + 1 - f.lo

/-- Word `i` of a message or a record; 0 past its end. -/
def wAt (p : List Word) (i : Nat) : Word := p.getD i 0

/-- Bits [hi:lo] of word `i` of a message or a record. -/
def wBits (p : List Word) (i hi lo : Nat) : Nat := bits (wAt p i) hi lo

/-- Bit `n` of word `i`. -/
def wBit (p : List Word) (i n : Nat) : Bool := bit (wAt p i) n

/-- Word `i` as a signed number. -/
def wInt (p : List Word) (i : Nat) : Int := (wAt p i).toInt

/-- Two words, high word first, as an unsigned 64-bit number. -/
def wPair (p : List Word) (i : Nat) : Nat := (wAt p i).toNat * 2 ^ 32 + (wAt p (i + 1)).toNat

/-- The numbers from `a`, `n` of them. -/
def upFrom (a : Nat) : Nat → List Nat
  | 0 => []
  | n + 1 => a :: upFrom (a + 1) n

end Sys2Proof.Machine
end

