-- ==== Sys2Proof/Machine/RegNames.lean ====
section
/-! DEFINITION. The registers and their fields by name, from the register tables of the chapters (R17 gives the
blocks). A register is named by block number × 0x1_0000 + offset; an indexed register takes its
indices. -/

namespace Sys2Proof.Machine

/-- SYS_EVM_SINKn, 01. -/
def Reg.SYS_EVM_SINK (n : Nat) : Nat := 0x1000 + 0x4 * n
def Fld.SYS_EVM_SINK_div (n : Nat) : Fld := ⟨Reg.SYS_EVM_SINK n, 23, 16⟩
def Fld.SYS_EVM_SINK_en (n : Nat) : Fld := ⟨Reg.SYS_EVM_SINK n, 8, 8⟩
def Fld.SYS_EVM_SINK_source (n : Nat) : Fld := ⟨Reg.SYS_EVM_SINK n, 7, 0⟩
/-- SYS_EVM_FIREDk, 01. -/
def Reg.SYS_EVM_FIRED (k : Nat) : Nat := 0x1400 + 0x4 * k
def Fld.SYS_EVM_FIRED_fired (k : Nat) : Fld := ⟨Reg.SYS_EVM_FIRED k, 31, 0⟩
/-- SYS_EVM_SINKHITk, 01. -/
def Reg.SYS_EVM_SINKHIT (k : Nat) : Nat := 0x1420 + 0x4 * k
def Fld.SYS_EVM_SINKHIT_hit (k : Nat) : Fld := ⟨Reg.SYS_EVM_SINKHIT k, 31, 0⟩
/-- SYS_ID, 02. -/
def Reg.SYS_ID : Nat := 0x0
def Fld.SYS_ID_part : Fld := ⟨Reg.SYS_ID, 31, 16⟩
def Fld.SYS_ID_die_rev : Fld := ⟨Reg.SYS_ID, 15, 8⟩
def Fld.SYS_ID_mod_rev : Fld := ⟨Reg.SYS_ID, 7, 0⟩
/-- SYS_MODE, 02. -/
def Reg.SYS_MODE : Nat := 0x4
def Fld.SYS_MODE_prev : Fld := ⟨Reg.SYS_MODE, 10, 8⟩
def Fld.SYS_MODE_mode : Fld := ⟨Reg.SYS_MODE, 2, 0⟩
/-- SYS_STAT, 02. -/
def Reg.SYS_STAT : Nat := 0x8
def Fld.SYS_STAT_osc_warm : Fld := ⟨Reg.SYS_STAT, 9, 9⟩
def Fld.SYS_STAT_step_down : Fld := ⟨Reg.SYS_STAT, 8, 8⟩
def Fld.SYS_STAT_witness : Fld := ⟨Reg.SYS_STAT, 7, 7⟩
def Fld.SYS_STAT_fsup_fault : Fld := ⟨Reg.SYS_STAT, 6, 6⟩
def Fld.SYS_STAT_holdover : Fld := ⟨Reg.SYS_STAT, 5, 5⟩
def Fld.SYS_STAT_claim : Fld := ⟨Reg.SYS_STAT, 4, 4⟩
def Fld.SYS_STAT_partner : Fld := ⟨Reg.SYS_STAT, 3, 3⟩
def Fld.SYS_STAT_unconfirmed : Fld := ⟨Reg.SYS_STAT, 2, 2⟩
def Fld.SYS_STAT_forcing : Fld := ⟨Reg.SYS_STAT, 1, 1⟩
def Fld.SYS_STAT_degraded : Fld := ⟨Reg.SYS_STAT, 0, 0⟩
/-- SYS_RSTCAUSE, 02. -/
def Reg.SYS_RSTCAUSE : Nat := 0xC
def Fld.SYS_RSTCAUSE_boots : Fld := ⟨Reg.SYS_RSTCAUSE, 31, 16⟩
def Fld.SYS_RSTCAUSE_cause : Fld := ⟨Reg.SYS_RSTCAUSE, 3, 0⟩
/-- SYS_BOOT, 02. -/
def Reg.SYS_BOOT : Nat := 0x10
def Fld.SYS_BOOT_step : Fld := ⟨Reg.SYS_BOOT, 11, 8⟩
def Fld.SYS_BOOT_fallback : Fld := ⟨Reg.SYS_BOOT, 2, 2⟩
def Fld.SYS_BOOT_slot : Fld := ⟨Reg.SYS_BOOT, 1, 1⟩
def Fld.SYS_BOOT_prt_lock : Fld := ⟨Reg.SYS_BOOT, 0, 0⟩
/-- SYS_CFG, 02. -/
def Reg.SYS_CFG : Nat := 0x14
def Fld.SYS_CFG_split : Fld := ⟨Reg.SYS_CFG, 7, 4⟩
def Fld.SYS_CFG_split_req : Fld := ⟨Reg.SYS_CFG, 3, 0⟩
/-- SYS_TCYC, 02. -/
def Reg.SYS_TCYC : Nat := 0x18
def Fld.SYS_TCYC_len : Fld := ⟨Reg.SYS_TCYC, 11, 0⟩
/-- SYS_SLOT, 02. -/
def Reg.SYS_SLOT : Nat := 0x1C
def Fld.SYS_SLOT_partner_in : Fld := ⟨Reg.SYS_SLOT, 7, 7⟩
def Fld.SYS_SLOT_pair : Fld := ⟨Reg.SYS_SLOT, 6, 6⟩
def Fld.SYS_SLOT_even : Fld := ⟨Reg.SYS_SLOT, 5, 5⟩
def Fld.SYS_SLOT_slot : Fld := ⟨Reg.SYS_SLOT, 4, 0⟩
/-- SYS_RST, 02. -/
def Reg.SYS_RST : Nat := 0x20
def Fld.SYS_RST_key : Fld := ⟨Reg.SYS_RST, 31, 16⟩
def Fld.SYS_RST_reset : Fld := ⟨Reg.SYS_RST, 0, 0⟩
/-- SYS_MODE_SET, 02. -/
def Reg.SYS_MODE_SET : Nat := 0x24
def Fld.SYS_MODE_SET_key : Fld := ⟨Reg.SYS_MODE_SET, 31, 16⟩
def Fld.SYS_MODE_SET_mode : Fld := ⟨Reg.SYS_MODE_SET, 2, 0⟩
/-- SYS_TEMP, 02. -/
def Reg.SYS_TEMP : Nat := 0x28
def Fld.SYS_TEMP_peak : Fld := ⟨Reg.SYS_TEMP, 31, 16⟩
def Fld.SYS_TEMP_now : Fld := ⟨Reg.SYS_TEMP, 15, 0⟩
/-- The common register xx_SHPEND, 03. -/
def Reg.BLK_SHPEND (b : Nat) : Nat := 0xFFF0 + 0x10000 * b
def Fld.BLK_SHPEND_rst (b : Nat) : Fld := ⟨Reg.BLK_SHPEND b, 7, 7⟩
def Fld.BLK_SHPEND_smp (b : Nat) : Fld := ⟨Reg.BLK_SHPEND b, 6, 6⟩
def Fld.BLK_SHPEND_rev (b : Nat) : Fld := ⟨Reg.BLK_SHPEND b, 5, 5⟩
def Fld.BLK_SHPEND_msg (b : Nat) : Fld := ⟨Reg.BLK_SHPEND b, 4, 4⟩
def Fld.BLK_SHPEND_frm (b : Nat) : Fld := ⟨Reg.BLK_SHPEND b, 3, 3⟩
def Fld.BLK_SHPEND_per (b : Nat) : Fld := ⟨Reg.BLK_SHPEND b, 2, 2⟩
def Fld.BLK_SHPEND_tsk (b : Nat) : Fld := ⟨Reg.BLK_SHPEND b, 1, 1⟩
def Fld.BLK_SHPEND_cyc (b : Nat) : Fld := ⟨Reg.BLK_SHPEND b, 0, 0⟩
/-- The common register xx_ACCERR, 03. -/
def Reg.BLK_ACCERR (b : Nat) : Nat := 0xFFF4 + 0x10000 * b
def Fld.BLK_ACCERR_more (b : Nat) : Fld := ⟨Reg.BLK_ACCERR b, 3, 3⟩
def Fld.BLK_ACCERR_timeout (b : Nat) : Fld := ⟨Reg.BLK_ACCERR b, 2, 2⟩
def Fld.BLK_ACCERR_range (b : Nat) : Fld := ⟨Reg.BLK_ACCERR b, 1, 1⟩
def Fld.BLK_ACCERR_decode (b : Nat) : Fld := ⟨Reg.BLK_ACCERR b, 0, 0⟩
/-- The common register xx_ACCINFO, 03. -/
def Reg.BLK_ACCINFO (b : Nat) : Nat := 0xFFF8 + 0x10000 * b
def Fld.BLK_ACCINFO_offset (b : Nat) : Fld := ⟨Reg.BLK_ACCINFO b, 31, 16⟩
def Fld.BLK_ACCINFO_part (b : Nat) : Fld := ⟨Reg.BLK_ACCINFO b, 13, 8⟩
def Fld.BLK_ACCINFO_write (b : Nat) : Fld := ⟨Reg.BLK_ACCINFO b, 7, 7⟩
def Fld.BLK_ACCINFO_kind (b : Nat) : Fld := ⟨Reg.BLK_ACCINFO b, 6, 4⟩
def Fld.BLK_ACCINFO_master (b : Nat) : Fld := ⟨Reg.BLK_ACCINFO b, 3, 0⟩
/-- The common register xx_BLKID, 03. -/
def Reg.BLK_BLKID (b : Nat) : Nat := 0xFFFC + 0x10000 * b
def Fld.BLK_BLKID_block (b : Nat) : Fld := ⟨Reg.BLK_BLKID b, 31, 24⟩
def Fld.BLK_BLKID_irev (b : Nat) : Fld := ⟨Reg.BLK_BLKID b, 23, 16⟩
/-- MBX_REQ_HEADm, 04. -/
def Reg.MBX_REQ_HEAD (m : Nat) : Nat := 0x20000 + 0x20 * m
def Fld.MBX_REQ_HEAD_head (m : Nat) : Fld := ⟨Reg.MBX_REQ_HEAD m, 15, 0⟩
/-- MBX_REQ_TAILm, 04. -/
def Reg.MBX_REQ_TAIL (m : Nat) : Nat := 0x20004 + 0x20 * m
def Fld.MBX_REQ_TAIL_tail (m : Nat) : Fld := ⟨Reg.MBX_REQ_TAIL m, 15, 0⟩
/-- MBX_RSP_HEADm, 04. -/
def Reg.MBX_RSP_HEAD (m : Nat) : Nat := 0x20008 + 0x20 * m
def Fld.MBX_RSP_HEAD_head (m : Nat) : Fld := ⟨Reg.MBX_RSP_HEAD m, 15, 0⟩
/-- MBX_RSP_TAILm, 04. -/
def Reg.MBX_RSP_TAIL (m : Nat) : Nat := 0x2000C + 0x20 * m
def Fld.MBX_RSP_TAIL_tail (m : Nat) : Fld := ⟨Reg.MBX_RSP_TAIL m, 15, 0⟩
/-- MBX_STATm, 04. -/
def Reg.MBX_STAT (m : Nat) : Nat := 0x20010 + 0x20 * m
def Fld.MBX_STAT_ntf_lost (m : Nat) : Fld := ⟨Reg.MBX_STAT m, 31, 16⟩
def Fld.MBX_STAT_part (m : Nat) : Fld := ⟨Reg.MBX_STAT m, 13, 8⟩
def Fld.MBX_STAT_rsp_full (m : Nat) : Fld := ⟨Reg.MBX_STAT m, 2, 2⟩
def Fld.MBX_STAT_req_full (m : Nat) : Fld := ⟨Reg.MBX_STAT m, 1, 1⟩
def Fld.MBX_STAT_served (m : Nat) : Fld := ⟨Reg.MBX_STAT m, 0, 0⟩
/-- MBX_NTFMASKm, 04. -/
def Reg.MBX_NTFMASK (m : Nat) : Nat := 0x20014 + 0x20 * m
def Fld.MBX_NTFMASK_classes (m : Nat) : Fld := ⟨Reg.MBX_NTFMASK m, 8, 1⟩
/-- MBX_OWNERm, 04. -/
def Reg.MBX_OWNER (m : Nat) : Nat := 0x20018 + 0x20 * m
def Fld.MBX_OWNER_en (m : Nat) : Fld := ⟨Reg.MBX_OWNER m, 8, 8⟩
def Fld.MBX_OWNER_part (m : Nat) : Fld := ⟨Reg.MBX_OWNER m, 5, 0⟩
/-- MBX_DOORBELLk, 04. -/
def Reg.MBX_DOORBELL (k : Nat) : Nat := 0x21000 + 0x4 * k
def Fld.MBX_DOORBELL_ring (k : Nat) : Fld := ⟨Reg.MBX_DOORBELL k, 31, 0⟩
/-- MBX_RING_BASE_HI, 04. -/
def Reg.MBX_RING_BASE_HI : Nat := 0x21010
def Fld.MBX_RING_BASE_HI_base : Fld := ⟨Reg.MBX_RING_BASE_HI, 7, 0⟩
/-- MBX_RING_BASE_LO, 04. -/
def Reg.MBX_RING_BASE_LO : Nat := 0x21014
def Fld.MBX_RING_BASE_LO_base : Fld := ⟨Reg.MBX_RING_BASE_LO, 31, 0⟩
/-- PRT_LOCK, 05. -/
def Reg.PRT_LOCK : Nat := 0x10000
def Fld.PRT_LOCK_lock : Fld := ⟨Reg.PRT_LOCK, 0, 0⟩
/-- PRT_PLANSTAT, 05. -/
def Reg.PRT_PLANSTAT : Nat := 0x10004
def Fld.PRT_PLANSTAT_seq : Fld := ⟨Reg.PRT_PLANSTAT, 31, 16⟩
def Fld.PRT_PLANSTAT_result : Fld := ⟨Reg.PRT_PLANSTAT, 15, 8⟩
def Fld.PRT_PLANSTAT_pending : Fld := ⟨Reg.PRT_PLANSTAT, 1, 1⟩
def Fld.PRT_PLANSTAT_active : Fld := ⟨Reg.PRT_PLANSTAT, 0, 0⟩
/-- PRT_LANES, 05. -/
def Reg.PRT_LANES : Nat := 0x10008
def Fld.PRT_LANES_split : Fld := ⟨Reg.PRT_LANES, 15, 8⟩
def Fld.PRT_LANES_usable : Fld := ⟨Reg.PRT_LANES, 7, 0⟩
/-- PRT_PFSTAT, 05. -/
def Reg.PRT_PFSTAT : Nat := 0x10010
def Fld.PRT_PFSTAT_count : Fld := ⟨Reg.PRT_PFSTAT, 31, 16⟩
def Fld.PRT_PFSTAT_more : Fld := ⟨Reg.PRT_PFSTAT, 0, 0⟩
/-- PRT_PFINFO, 05. -/
def Reg.PRT_PFINFO : Nat := 0x10014
def Fld.PRT_PFINFO_task : Fld := ⟨Reg.PRT_PFINFO, 31, 23⟩
def Fld.PRT_PFINFO_kind : Fld := ⟨Reg.PRT_PFINFO, 22, 20⟩
def Fld.PRT_PFINFO_master : Fld := ⟨Reg.PRT_PFINFO, 19, 16⟩
def Fld.PRT_PFINFO_part : Fld := ⟨Reg.PRT_PFINFO, 13, 8⟩
/-- PRT_PFADDR_HI, 05. -/
def Reg.PRT_PFADDR_HI : Nat := 0x10018
def Fld.PRT_PFADDR_HI_addr : Fld := ⟨Reg.PRT_PFADDR_HI, 7, 0⟩
/-- PRT_PFADDR_LO, 05. -/
def Reg.PRT_PFADDR_LO : Nat := 0x1001C
def Fld.PRT_PFADDR_LO_addr : Fld := ⟨Reg.PRT_PFADDR_LO, 31, 0⟩
/-- PRT_WINp_w_BASE, 05. -/
def Reg.PRT_WIN_BASE (p w : Nat) : Nat := 0x11000 + 0x80 * p + 0x8 * w
def Fld.PRT_WIN_BASE_en (p w : Nat) : Fld := ⟨Reg.PRT_WIN_BASE p w, 31, 31⟩
def Fld.PRT_WIN_BASE_x (p w : Nat) : Fld := ⟨Reg.PRT_WIN_BASE p w, 30, 30⟩
def Fld.PRT_WIN_BASE_w (p w : Nat) : Fld := ⟨Reg.PRT_WIN_BASE p w, 29, 29⟩
def Fld.PRT_WIN_BASE_r (p w : Nat) : Fld := ⟨Reg.PRT_WIN_BASE p w, 28, 28⟩
def Fld.PRT_WIN_BASE_base (p w : Nat) : Fld := ⟨Reg.PRT_WIN_BASE p w, 27, 0⟩
/-- PRT_WINp_w_SIZE, 05. -/
def Reg.PRT_WIN_SIZE (p w : Nat) : Nat := 0x11004 + 0x80 * p + 0x8 * w
def Fld.PRT_WIN_SIZE_size (p w : Nat) : Fld := ⟨Reg.PRT_WIN_SIZE p w, 27, 0⟩
/-- PRT_CEIL_TIMEp, 05. -/
def Reg.PRT_CEIL_TIME (p : Nat) : Nat := 0x13000 + 0x20 * p
def Fld.PRT_CEIL_TIME_time (p : Nat) : Fld := ⟨Reg.PRT_CEIL_TIME p, 17, 0⟩
/-- PRT_CEIL_DRAMp, 05. -/
def Reg.PRT_CEIL_DRAM (p : Nat) : Nat := 0x13004 + 0x20 * p
def Fld.PRT_CEIL_DRAM_credits (p : Nat) : Fld := ⟨Reg.PRT_CEIL_DRAM p, 11, 0⟩
/-- PRT_CEIL_Q0p, 05. -/
def Reg.PRT_CEIL_Q0 (p : Nat) : Nat := 0x13008 + 0x20 * p
def Fld.PRT_CEIL_Q0_desc (p : Nat) : Fld := ⟨Reg.PRT_CEIL_Q0 p, 30, 16⟩
def Fld.PRT_CEIL_Q0_queues (p : Nat) : Fld := ⟨Reg.PRT_CEIL_Q0 p, 13, 0⟩
/-- PRT_CEIL_Q1p, 05. -/
def Reg.PRT_CEIL_Q1 (p : Nat) : Nat := 0x1300C + 0x20 * p
def Fld.PRT_CEIL_Q1_large (p : Nat) : Fld := ⟨Reg.PRT_CEIL_Q1 p, 28, 16⟩
def Fld.PRT_CEIL_Q1_small (p : Nat) : Fld := ⟨Reg.PRT_CEIL_Q1 p, 15, 0⟩
/-- PRT_PFCRIGHTp, 05. -/
def Reg.PRT_PFCRIGHT (p : Nat) : Nat := 0x13010 + 0x20 * p
def Fld.PRT_PFCRIGHT_groups (p : Nat) : Fld := ⟨Reg.PRT_PFCRIGHT p, 31, 0⟩
/-- PRT_USE_DRAMp, 05. -/
def Reg.PRT_USE_DRAM (p : Nat) : Nat := 0x14000 + 0x20 * p
def Fld.PRT_USE_DRAM_stalls (p : Nat) : Fld := ⟨Reg.PRT_USE_DRAM p, 31, 16⟩
def Fld.PRT_USE_DRAM_last (p : Nat) : Fld := ⟨Reg.PRT_USE_DRAM p, 11, 0⟩
/-- PRT_USE_Q0p, 05. -/
def Reg.PRT_USE_Q0 (p : Nat) : Nat := 0x14004 + 0x20 * p
def Fld.PRT_USE_Q0_desc (p : Nat) : Fld := ⟨Reg.PRT_USE_Q0 p, 30, 16⟩
def Fld.PRT_USE_Q0_queues (p : Nat) : Fld := ⟨Reg.PRT_USE_Q0 p, 13, 0⟩
/-- PRT_USE_Q1p, 05. -/
def Reg.PRT_USE_Q1 (p : Nat) : Nat := 0x14008 + 0x20 * p
def Fld.PRT_USE_Q1_large (p : Nat) : Fld := ⟨Reg.PRT_USE_Q1 p, 28, 16⟩
def Fld.PRT_USE_Q1_small (p : Nat) : Fld := ⟨Reg.PRT_USE_Q1 p, 15, 0⟩
/-- PRT_REFUSEp, 05. -/
def Reg.PRT_REFUSE (p : Nat) : Nat := 0x1400C + 0x20 * p
def Fld.PRT_REFUSE_quota (p : Nat) : Fld := ⟨Reg.PRT_REFUSE p, 31, 16⟩
def Fld.PRT_REFUSE_overruns (p : Nat) : Fld := ⟨Reg.PRT_REFUSE p, 15, 0⟩
/-- PRT_RUNl, 05. -/
def Reg.PRT_RUN (l : Nat) : Nat := 0x15000 + 0x10 * l
def Fld.PRT_RUN_busy (l : Nat) : Fld := ⟨Reg.PRT_RUN l, 31, 31⟩
def Fld.PRT_RUN_task (l : Nat) : Fld := ⟨Reg.PRT_RUN l, 24, 16⟩
def Fld.PRT_RUN_part (l : Nat) : Fld := ⟨Reg.PRT_RUN l, 13, 8⟩
/-- PRT_RUNUSEDl, 05. -/
def Reg.PRT_RUNUSED (l : Nat) : Nat := 0x15004 + 0x10 * l
def Fld.PRT_RUNUSED_used (l : Nat) : Fld := ⟨Reg.PRT_RUNUSED l, 31, 0⟩
/-- PRT_TSTATt, 05. -/
def Reg.PRT_TSTAT (t : Nat) : Nat := 0x18000 + 0x10 * t
def Fld.PRT_TSTAT_state (t : Nat) : Fld := ⟨Reg.PRT_TSTAT t, 31, 28⟩
def Fld.PRT_TSTAT_lane (t : Nat) : Fld := ⟨Reg.PRT_TSTAT t, 27, 24⟩
def Fld.PRT_TSTAT_crit (t : Nat) : Fld := ⟨Reg.PRT_TSTAT t, 23, 22⟩
def Fld.PRT_TSTAT_consec (t : Nat) : Fld := ⟨Reg.PRT_TSTAT t, 21, 20⟩
def Fld.PRT_TSTAT_part (t : Nat) : Fld := ⟨Reg.PRT_TSTAT t, 5, 0⟩
/-- PRT_TBUDt, 05. -/
def Reg.PRT_TBUD (t : Nat) : Nat := 0x18004 + 0x10 * t
def Fld.PRT_TBUD_last (t : Nat) : Fld := ⟨Reg.PRT_TBUD t, 31, 16⟩
def Fld.PRT_TBUD_budget (t : Nat) : Fld := ⟨Reg.PRT_TBUD t, 15, 0⟩
/-- PRT_TOVRt, 05. -/
def Reg.PRT_TOVR (t : Nat) : Nat := 0x18008 + 0x10 * t
def Fld.PRT_TOVR_skipped (t : Nat) : Fld := ⟨Reg.PRT_TOVR t, 31, 16⟩
def Fld.PRT_TOVR_overruns (t : Nat) : Fld := ⟨Reg.PRT_TOVR t, 15, 0⟩
/-- PRT_TACTt, 05. -/
def Reg.PRT_TACT (t : Nat) : Nat := 0x1800C + 0x10 * t
def Fld.PRT_TACT_done (t : Nat) : Fld := ⟨Reg.PRT_TACT t, 31, 0⟩
/-- LKS_CFG, 07. -/
def Reg.LKS_CFG : Nat := 0xD0000
def Fld.LKS_CFG_split : Fld := ⟨Reg.LKS_CFG, 7, 4⟩
def Fld.LKS_CFG_usable : Fld := ⟨Reg.LKS_CFG, 3, 0⟩
/-- LKS_STAT, 07. -/
def Reg.LKS_STAT : Nat := 0xD0004
def Fld.LKS_STAT_fail : Fld := ⟨Reg.LKS_STAT, 11, 8⟩
def Fld.LKS_STAT_halted : Fld := ⟨Reg.LKS_STAT, 3, 0⟩
/-- LKS_AGRk_BASE, 07. -/
def Reg.LKS_AGR_BASE (k : Nat) : Nat := 0xD0040 + 0x8 * k
def Fld.LKS_AGR_BASE_en (k : Nat) : Fld := ⟨Reg.LKS_AGR_BASE k, 31, 31⟩
def Fld.LKS_AGR_BASE_base (k : Nat) : Fld := ⟨Reg.LKS_AGR_BASE k, 27, 0⟩
/-- LKS_AGRk_SIZE, 07. -/
def Reg.LKS_AGR_SIZE (k : Nat) : Nat := 0xD0044 + 0x8 * k
def Fld.LKS_AGR_SIZE_size (k : Nat) : Fld := ⟨Reg.LKS_AGR_SIZE k, 27, 0⟩
/-- LKS_PSTATp, 07. -/
def Reg.LKS_PSTAT (p : Nat) : Nat := 0xD0100 + 0x40 * p
def Fld.LKS_PSTAT_state (p : Nat) : Fld := ⟨Reg.LKS_PSTAT p, 31, 28⟩
def Fld.LKS_PSTAT_agr_max (p : Nat) : Fld := ⟨Reg.LKS_PSTAT p, 20, 16⟩
def Fld.LKS_PSTAT_fails (p : Nat) : Fld := ⟨Reg.LKS_PSTAT p, 15, 0⟩
/-- LKS_FAILINFOp, 07. -/
def Reg.LKS_FAILINFO (p : Nat) : Nat := 0xD0104 + 0x40 * p
def Fld.LKS_FAILINFO_kind (p : Nat) : Fld := ⟨Reg.LKS_FAILINFO p, 31, 28⟩
def Fld.LKS_FAILINFO_lat (p : Nat) : Fld := ⟨Reg.LKS_FAILINFO p, 27, 24⟩
def Fld.LKS_FAILINFO_task (p : Nat) : Fld := ⟨Reg.LKS_FAILINFO p, 23, 15⟩
def Fld.LKS_FAILINFO_idle (p : Nat) : Fld := ⟨Reg.LKS_FAILINFO p, 14, 14⟩
def Fld.LKS_FAILINFO_part (p : Nat) : Fld := ⟨Reg.LKS_FAILINFO p, 13, 8⟩
/-- LKS_FAILCNTp, 07. -/
def Reg.LKS_FAILCNT (p : Nat) : Nat := 0xD0108 + 0x40 * p
def Fld.LKS_FAILCNT_count (p : Nat) : Fld := ⟨Reg.LKS_FAILCNT p, 31, 0⟩
/-- LKS_FAILPC_HIp, 07. -/
def Reg.LKS_FAILPC_HI (p : Nat) : Nat := 0xD010C + 0x40 * p
def Fld.LKS_FAILPC_HI_pc (p : Nat) : Fld := ⟨Reg.LKS_FAILPC_HI p, 7, 0⟩
/-- LKS_FAILPC_LOp, 07. -/
def Reg.LKS_FAILPC_LO (p : Nat) : Nat := 0xD0110 + 0x40 * p
def Fld.LKS_FAILPC_LO_pc (p : Nat) : Fld := ⟨Reg.LKS_FAILPC_LO p, 31, 0⟩
/-- LKS_FAILCLKp, 07. -/
def Reg.LKS_FAILCLK (p : Nat) : Nat := 0xD0114 + 0x40 * p
def Fld.LKS_FAILCLK_clk (p : Nat) : Fld := ⟨Reg.LKS_FAILCLK p, 31, 0⟩
/-- LKS_AGRSTALLp, 07. -/
def Reg.LKS_AGRSTALL (p : Nat) : Nat := 0xD0118 + 0x40 * p
def Fld.LKS_AGRSTALL_cycles (p : Nat) : Fld := ⟨Reg.LKS_AGRSTALL p, 31, 0⟩
/-- LKS_INJECTp, 07. -/
def Reg.LKS_INJECT (p : Nat) : Nat := 0xD011C + 0x40 * p
def Fld.LKS_INJECT_key (p : Nat) : Fld := ⟨Reg.LKS_INJECT p, 31, 16⟩
def Fld.LKS_INJECT_arm (p : Nat) : Fld := ⟨Reg.LKS_INJECT p, 4, 4⟩
def Fld.LKS_INJECT_kind (p : Nat) : Fld := ⟨Reg.LKS_INJECT p, 3, 0⟩
/-- LKS_DBGCTL, 07. -/
def Reg.LKS_DBGCTL : Nat := 0xD0400
def Fld.LKS_DBGCTL_steps : Fld := ⟨Reg.LKS_DBGCTL, 31, 16⟩
def Fld.LKS_DBGCTL_cmd : Fld := ⟨Reg.LKS_DBGCTL, 10, 9⟩
def Fld.LKS_DBGCTL_attach : Fld := ⟨Reg.LKS_DBGCTL, 8, 8⟩
def Fld.LKS_DBGCTL_lane : Fld := ⟨Reg.LKS_DBGCTL, 3, 0⟩
/-- LKS_DBGSTAT, 07. -/
def Reg.LKS_DBGSTAT : Nat := 0xD0404
def Fld.LKS_DBGSTAT_cause : Fld := ⟨Reg.LKS_DBGSTAT, 7, 4⟩
def Fld.LKS_DBGSTAT_attached : Fld := ⟨Reg.LKS_DBGSTAT, 1, 1⟩
def Fld.LKS_DBGSTAT_halted : Fld := ⟨Reg.LKS_DBGSTAT, 0, 0⟩
/-- LKS_DBGSEL, 07. -/
def Reg.LKS_DBGSEL : Nat := 0xD0408
def Fld.LKS_DBGSEL_half : Fld := ⟨Reg.LKS_DBGSEL, 8, 8⟩
def Fld.LKS_DBGSEL_reg : Fld := ⟨Reg.LKS_DBGSEL, 5, 0⟩
/-- LKS_DBGDATA, 07. -/
def Reg.LKS_DBGDATA : Nat := 0xD040C
def Fld.LKS_DBGDATA_value : Fld := ⟨Reg.LKS_DBGDATA, 31, 0⟩
/-- LKS_DBGADDR_HI, 07. -/
def Reg.LKS_DBGADDR_HI : Nat := 0xD0410
def Fld.LKS_DBGADDR_HI_addr : Fld := ⟨Reg.LKS_DBGADDR_HI, 7, 0⟩
/-- LKS_DBGADDR_LO, 07. -/
def Reg.LKS_DBGADDR_LO : Nat := 0xD0414
def Fld.LKS_DBGADDR_LO_addr : Fld := ⟨Reg.LKS_DBGADDR_LO, 31, 2⟩
/-- LKS_DBGMEM, 07. -/
def Reg.LKS_DBGMEM : Nat := 0xD0418
def Fld.LKS_DBGMEM_word : Fld := ⟨Reg.LKS_DBGMEM, 31, 0⟩
/-- RED_STATE, 08. -/
def Reg.RED_STATE : Nat := 0xE0000
def Fld.RED_STATE_cause : Fld := ⟨Reg.RED_STATE, 31, 24⟩
def Fld.RED_STATE_witness : Fld := ⟨Reg.RED_STATE, 17, 16⟩
def Fld.RED_STATE_veer : Fld := ⟨Reg.RED_STATE, 15, 12⟩
def Fld.RED_STATE_state : Fld := ⟨Reg.RED_STATE, 11, 8⟩
def Fld.RED_STATE_medium : Fld := ⟨Reg.RED_STATE, 1, 1⟩
def Fld.RED_STATE_pair : Fld := ⟨Reg.RED_STATE, 0, 0⟩
/-- RED_CLAIM, 08. -/
def Reg.RED_CLAIM : Nat := 0xE0004
def Fld.RED_CLAIM_claim : Fld := ⟨Reg.RED_CLAIM, 31, 0⟩
/-- RED_CLAIM_PEER, 08. -/
def Reg.RED_CLAIM_PEER : Nat := 0xE0008
def Fld.RED_CLAIM_PEER_claim : Fld := ⟨Reg.RED_CLAIM_PEER, 31, 0⟩
/-- RED_CLAIMCTL, 08. -/
def Reg.RED_CLAIMCTL : Nat := 0xE000C
def Fld.RED_CLAIMCTL_key : Fld := ⟨Reg.RED_CLAIMCTL, 31, 16⟩
def Fld.RED_CLAIMCTL_drop : Fld := ⟨Reg.RED_CLAIMCTL, 1, 1⟩
def Fld.RED_CLAIMCTL_raise : Fld := ⟨Reg.RED_CLAIMCTL, 0, 0⟩
/-- RED_LINK, 08. -/
def Reg.RED_LINK : Nat := 0xE0010
def Fld.RED_LINK_crc_err : Fld := ⟨Reg.RED_LINK, 31, 16⟩
def Fld.RED_LINK_sfp1 : Fld := ⟨Reg.RED_LINK, 3, 3⟩
def Fld.RED_LINK_sfp0 : Fld := ⟨Reg.RED_LINK, 2, 2⟩
def Fld.RED_LINK_lane1 : Fld := ⟨Reg.RED_LINK, 1, 1⟩
def Fld.RED_LINK_lane0 : Fld := ⟨Reg.RED_LINK, 0, 0⟩
/-- RED_RTT, 08. -/
def Reg.RED_RTT : Nat := 0xE0014
def Fld.RED_RTT_max : Fld := ⟨Reg.RED_RTT, 31, 16⟩
def Fld.RED_RTT_now : Fld := ⟨Reg.RED_RTT, 15, 0⟩
/-- RED_HB, 08. -/
def Reg.RED_HB : Nat := 0xE0018
def Fld.RED_HB_missed : Fld := ⟨Reg.RED_HB, 31, 16⟩
def Fld.RED_HB_run : Fld := ⟨Reg.RED_HB, 2, 0⟩
/-- RED_HBKICK, 08. -/
def Reg.RED_HBKICK : Nat := 0xE001C
def Fld.RED_HBKICK_key : Fld := ⟨Reg.RED_HBKICK, 31, 16⟩
/-- RED_FWD, 08. -/
def Reg.RED_FWD : Nat := 0xE0020
def Fld.RED_FWD_max : Fld := ⟨Reg.RED_FWD, 31, 16⟩
def Fld.RED_FWD_now : Fld := ⟨Reg.RED_FWD, 15, 0⟩
/-- RED_LAG, 08. -/
def Reg.RED_LAG : Nat := 0xE0024
def Fld.RED_LAG_max : Fld := ⟨Reg.RED_LAG, 31, 16⟩
def Fld.RED_LAG_now : Fld := ⟨Reg.RED_LAG, 15, 0⟩
/-- RED_WIT, 08. -/
def Reg.RED_WIT : Nat := 0xE0028
def Fld.RED_WIT_second : Fld := ⟨Reg.RED_WIT, 29, 16⟩
def Fld.RED_WIT_second_en : Fld := ⟨Reg.RED_WIT, 15, 15⟩
def Fld.RED_WIT_primary : Fld := ⟨Reg.RED_WIT, 13, 0⟩
/-- RED_LULL, 08. -/
def Reg.RED_LULL : Nat := 0xE002C
def Fld.RED_LULL_late : Fld := ⟨Reg.RED_LULL, 31, 31⟩
def Fld.RED_LULL_last : Fld := ⟨Reg.RED_LULL, 23, 0⟩
/-- RED_VEERS, 08. -/
def Reg.RED_VEERS : Nat := 0xE0030
def Fld.RED_VEERS_fault : Fld := ⟨Reg.RED_VEERS, 31, 20⟩
def Fld.RED_VEERS_yield : Fld := ⟨Reg.RED_VEERS, 19, 8⟩
def Fld.RED_VEERS_cmd : Fld := ⟨Reg.RED_VEERS, 7, 0⟩
/-- RED_RESYNC, 08. -/
def Reg.RED_RESYNC : Nat := 0xE0034
def Fld.RED_RESYNC_count : Fld := ⟨Reg.RED_RESYNC, 31, 16⟩
def Fld.RED_RESYNC_phase : Fld := ⟨Reg.RED_RESYNC, 2, 0⟩
/-- RED_RSBYTES_HI, 08. -/
def Reg.RED_RSBYTES_HI : Nat := 0xE0038
def Fld.RED_RSBYTES_HI_bytes : Fld := ⟨Reg.RED_RSBYTES_HI, 31, 0⟩
/-- RED_RSBYTES_LO, 08. -/
def Reg.RED_RSBYTES_LO : Nat := 0xE003C
def Fld.RED_RSBYTES_LO_bytes : Fld := ⟨Reg.RED_RSBYTES_LO, 31, 0⟩
/-- RED_DISC, 08. -/
def Reg.RED_DISC : Nat := 0xE0040
def Fld.RED_DISC_count : Fld := ⟨Reg.RED_DISC, 31, 0⟩
/-- RED_ERR, 08. -/
def Reg.RED_ERR : Nat := 0xE0044
def Fld.RED_ERR_ckpt_lost : Fld := ⟨Reg.RED_ERR, 31, 16⟩
def Fld.RED_ERR_tag : Fld := ⟨Reg.RED_ERR, 4, 4⟩
def Fld.RED_ERR_overflow : Fld := ⟨Reg.RED_ERR, 3, 3⟩
def Fld.RED_ERR_signature : Fld := ⟨Reg.RED_ERR, 2, 2⟩
def Fld.RED_ERR_sequence : Fld := ⟨Reg.RED_ERR, 1, 1⟩
def Fld.RED_ERR_crc : Fld := ⟨Reg.RED_ERR, 0, 0⟩
/-- RED_PVER, 08. -/
def Reg.RED_PVER : Nat := 0xE0048
def Fld.RED_PVER_peer_major : Fld := ⟨Reg.RED_PVER, 31, 24⟩
def Fld.RED_PVER_peer_minor : Fld := ⟨Reg.RED_PVER, 23, 16⟩
def Fld.RED_PVER_major : Fld := ⟨Reg.RED_PVER, 15, 8⟩
def Fld.RED_PVER_minor : Fld := ⟨Reg.RED_PVER, 7, 0⟩
/-- QE_FREE0, 09. -/
def Reg.QE_FREE0 : Nat := 0x30000
def Fld.QE_FREE0_small : Fld := ⟨Reg.QE_FREE0, 31, 16⟩
def Fld.QE_FREE0_large : Fld := ⟨Reg.QE_FREE0, 12, 0⟩
/-- QE_FREE1, 09. -/
def Reg.QE_FREE1 : Nat := 0x30004
def Fld.QE_FREE1_queues : Fld := ⟨Reg.QE_FREE1, 29, 16⟩
def Fld.QE_FREE1_desc : Fld := ⟨Reg.QE_FREE1, 14, 0⟩
/-- QE_EMPTYCNT, 09. -/
def Reg.QE_EMPTYCNT : Nat := 0x30008
def Fld.QE_EMPTYCNT_pool : Fld := ⟨Reg.QE_EMPTYCNT, 31, 16⟩
def Fld.QE_EMPTYCNT_depth : Fld := ⟨Reg.QE_EMPTYCNT, 15, 0⟩
/-- QE_ALLOCREQ, 09. -/
def Reg.QE_ALLOCREQ : Nat := 0x30010
def Fld.QE_ALLOCREQ_part : Fld := ⟨Reg.QE_ALLOCREQ, 21, 16⟩
def Fld.QE_ALLOCREQ_kind : Fld := ⟨Reg.QE_ALLOCREQ, 1, 0⟩
/-- QE_ALLOCRES, 09. -/
def Reg.QE_ALLOCRES : Nat := 0x30014
def Fld.QE_ALLOCRES_empty : Fld := ⟨Reg.QE_ALLOCRES, 16, 16⟩
def Fld.QE_ALLOCRES_handle : Fld := ⟨Reg.QE_ALLOCRES, 15, 0⟩
/-- QE_FREEBUF, 09. -/
def Reg.QE_FREEBUF : Nat := 0x30018
def Fld.QE_FREEBUF_handle : Fld := ⟨Reg.QE_FREEBUF, 15, 0⟩
/-- QE_ENQ, 09. -/
def Reg.QE_ENQ : Nat := 0x3001C
def Fld.QE_ENQ_desc : Fld := ⟨Reg.QE_ENQ, 13, 0⟩
/-- QE_DEQREQ, 09. -/
def Reg.QE_DEQREQ : Nat := 0x30020
def Fld.QE_DEQREQ_queue : Fld := ⟨Reg.QE_DEQREQ, 12, 0⟩
/-- QE_DEQRES, 09. -/
def Reg.QE_DEQRES : Nat := 0x30024
def Fld.QE_DEQRES_empty : Fld := ⟨Reg.QE_DEQRES, 15, 15⟩
def Fld.QE_DEQRES_desc : Fld := ⟨Reg.QE_DEQRES, 13, 0⟩
/-- QE_WATCHw, 09. -/
def Reg.QE_WATCH (w : Nat) : Nat := 0x30100 + 0x4 * w
def Fld.QE_WATCH_en (w : Nat) : Fld := ⟨Reg.QE_WATCH w, 15, 15⟩
def Fld.QE_WATCH_queue (w : Nat) : Fld := ⟨Reg.QE_WATCH w, 12, 0⟩
/-- QE_WATCHFIRED, 09. -/
def Reg.QE_WATCHFIRED : Nat := 0x30180
def Fld.QE_WATCHFIRED_fired : Fld := ⟨Reg.QE_WATCHFIRED, 31, 0⟩
/-- QE_GRPSTAT, 09. -/
def Reg.QE_GRPSTAT : Nat := 0x30200
def Fld.QE_GRPSTAT_max : Fld := ⟨Reg.QE_GRPSTAT, 24, 16⟩
def Fld.QE_GRPSTAT_now : Fld := ⟨Reg.QE_GRPSTAT, 8, 0⟩
/-- QE_GRPOUT, 09. -/
def Reg.QE_GRPOUT : Nat := 0x30204
def Fld.QE_GRPOUT_aborted : Fld := ⟨Reg.QE_GRPOUT, 31, 16⟩
def Fld.QE_GRPOUT_partial : Fld := ⟨Reg.QE_GRPOUT, 15, 0⟩
/-- QE_QSEL, 09. -/
def Reg.QE_QSEL : Nat := 0x3F000
def Fld.QE_QSEL_queue : Fld := ⟨Reg.QE_QSEL, 12, 0⟩
/-- QE_QINFO, 09. -/
def Reg.QE_QINFO : Nat := 0x3F004
def Fld.QE_QINFO_drops : Fld := ⟨Reg.QE_QINFO, 31, 16⟩
def Fld.QE_QINFO_en : Fld := ⟨Reg.QE_QINFO, 15, 15⟩
def Fld.QE_QINFO_depth : Fld := ⟨Reg.QE_QINFO, 14, 0⟩
/-- QE_Pk_ID, 09. -/
def Reg.QE_P_ID (k : Nat) : Nat := 0x30000 + 0x1000 * k
def Fld.QE_P_ID_en (k : Nat) : Fld := ⟨Reg.QE_P_ID k, 8, 8⟩
def Fld.QE_P_ID_part (k : Nat) : Fld := ⟨Reg.QE_P_ID k, 5, 0⟩
/-- QE_Pk_USE0, 09. -/
def Reg.QE_P_USE0 (k : Nat) : Nat := 0x30004 + 0x1000 * k
def Fld.QE_P_USE0_use (k : Nat) : Fld := ⟨Reg.QE_P_USE0 k, 31, 0⟩
/-- QE_Pk_USE1, 09. -/
def Reg.QE_P_USE1 (k : Nat) : Nat := 0x30008 + 0x1000 * k
def Fld.QE_P_USE1_use (k : Nat) : Fld := ⟨Reg.QE_P_USE1 k, 31, 0⟩
/-- QE_Pk_REFUSE, 09. -/
def Reg.QE_P_REFUSE (k : Nat) : Nat := 0x3000C + 0x1000 * k
def Fld.QE_P_REFUSE_quota (k : Nat) : Fld := ⟨Reg.QE_P_REFUSE k, 31, 16⟩
def Fld.QE_P_REFUSE_depth (k : Nat) : Fld := ⟨Reg.QE_P_REFUSE k, 15, 0⟩
/-- QE_Pk_DEPTHi, 09. -/
def Reg.QE_P_DEPTH (k i : Nat) : Nat := 0x30100 + 0x1000 * k + 0x4 * i
def Fld.QE_P_DEPTH_queue (k i : Nat) : Fld := ⟨Reg.QE_P_DEPTH k i, 28, 16⟩
def Fld.QE_P_DEPTH_en (k i : Nat) : Fld := ⟨Reg.QE_P_DEPTH k i, 15, 15⟩
def Fld.QE_P_DEPTH_depth (k i : Nat) : Fld := ⟨Reg.QE_P_DEPTH k i, 14, 0⟩
/-- CE_STAT, 10. -/
def Reg.CE_STAT : Nat := 0x40000
def Fld.CE_STAT_pending : Fld := ⟨Reg.CE_STAT, 26, 16⟩
def Fld.CE_STAT_busy : Fld := ⟨Reg.CE_STAT, 3, 0⟩
/-- CE_SKIPCNT, 10. -/
def Reg.CE_SKIPCNT : Nat := 0x40004
def Fld.CE_SKIPCNT_skipped : Fld := ⟨Reg.CE_SKIPCNT, 31, 0⟩
/-- CE_SATCNT, 10. -/
def Reg.CE_SATCNT : Nat := 0x40008
def Fld.CE_SATCNT_acc : Fld := ⟨Reg.CE_SATCNT, 31, 16⟩
def Fld.CE_SATCNT_freeze : Fld := ⟨Reg.CE_SATCNT, 15, 0⟩
/-- CE_DLYMAX, 10. -/
def Reg.CE_DLYMAX : Nat := 0x4000C
def Fld.CE_DLYMAX_max : Fld := ⟨Reg.CE_DLYMAX, 31, 16⟩
def Fld.CE_DLYMAX_slot : Fld := ⟨Reg.CE_DLYMAX, 9, 0⟩
/-- CE_DONEFIRED, 10. -/
def Reg.CE_DONEFIRED : Nat := 0x40010
def Fld.CE_DONEFIRED_fired : Fld := ⟨Reg.CE_DONEFIRED, 15, 0⟩
/-- CE_LOAD, 10. -/
def Reg.CE_LOAD : Nat := 0x40014
def Fld.CE_LOAD_peak : Fld := ⟨Reg.CE_LOAD, 31, 16⟩
def Fld.CE_LOAD_last : Fld := ⟨Reg.CE_LOAD, 15, 0⟩
/-- CE_SLOTSEL, 10. -/
def Reg.CE_SLOTSEL : Nat := 0x40100
def Fld.CE_SLOTSEL_slot : Fld := ⟨Reg.CE_SLOTSEL, 9, 0⟩
/-- CE_SLOTSTAT, 10. -/
def Reg.CE_SLOTSTAT : Nat := 0x40104
def Fld.CE_SLOTSTAT_limerr : Fld := ⟨Reg.CE_SLOTSTAT, 12, 12⟩
def Fld.CE_SLOTSTAT_seclim : Fld := ⟨Reg.CE_SLOTSTAT, 11, 11⟩
def Fld.CE_SLOTSTAT_acc : Fld := ⟨Reg.CE_SLOTSTAT, 10, 10⟩
def Fld.CE_SLOTSTAT_freeze : Fld := ⟨Reg.CE_SLOTSTAT, 9, 9⟩
def Fld.CE_SLOTSTAT_rate : Fld := ⟨Reg.CE_SLOTSTAT, 8, 8⟩
def Fld.CE_SLOTSTAT_low : Fld := ⟨Reg.CE_SLOTSTAT, 7, 7⟩
def Fld.CE_SLOTSTAT_high : Fld := ⟨Reg.CE_SLOTSTAT, 6, 6⟩
def Fld.CE_SLOTSTAT_bad : Fld := ⟨Reg.CE_SLOTSTAT, 5, 5⟩
def Fld.CE_SLOTSTAT_running : Fld := ⟨Reg.CE_SLOTSTAT, 4, 4⟩
def Fld.CE_SLOTSTAT_pending : Fld := ⟨Reg.CE_SLOTSTAT, 3, 3⟩
def Fld.CE_SLOTSTAT_inject : Fld := ⟨Reg.CE_SLOTSTAT, 2, 2⟩
def Fld.CE_SLOTSTAT_mode : Fld := ⟨Reg.CE_SLOTSTAT, 1, 0⟩
/-- CE_SLOTOUT, 10. -/
def Reg.CE_SLOTOUT : Nat := 0x40108
def Fld.CE_SLOTOUT_u : Fld := ⟨Reg.CE_SLOTOUT, 31, 0⟩
/-- CE_SLOTERR, 10. -/
def Reg.CE_SLOTERR : Nat := 0x4010C
def Fld.CE_SLOTERR_e : Fld := ⟨Reg.CE_SLOTERR, 31, 0⟩
/-- CE_SLOTDLY, 10. -/
def Reg.CE_SLOTDLY : Nat := 0x40110
def Fld.CE_SLOTDLY_max : Fld := ⟨Reg.CE_SLOTDLY, 31, 16⟩
def Fld.CE_SLOTDLY_last : Fld := ⟨Reg.CE_SLOTDLY, 15, 0⟩
/-- CE_SLOTRUNS, 10. -/
def Reg.CE_SLOTRUNS : Nat := 0x40114
def Fld.CE_SLOTRUNS_runs : Fld := ⟨Reg.CE_SLOTRUNS, 31, 0⟩
/-- CE_SLOTSKIP, 10. -/
def Reg.CE_SLOTSKIP : Nat := 0x40118
def Fld.CE_SLOTSKIP_skipped : Fld := ⟨Reg.CE_SLOTSKIP, 15, 0⟩
/-- CE_JOBb, 10. -/
def Reg.CE_JOB (b : Nat) : Nat := 0x40200 + 0x10 * b
def Fld.CE_JOB_slot (b : Nat) : Fld := ⟨Reg.CE_JOB b, 25, 16⟩
def Fld.CE_JOB_reason (b : Nat) : Fld := ⟨Reg.CE_JOB b, 15, 8⟩
def Fld.CE_JOB_deliver (b : Nat) : Fld := ⟨Reg.CE_JOB b, 2, 2⟩
def Fld.CE_JOB_stage (b : Nat) : Fld := ⟨Reg.CE_JOB b, 1, 0⟩
/-- CE_JOBRECb, 10. -/
def Reg.CE_JOBREC (b : Nat) : Nat := 0x40204 + 0x10 * b
def Fld.CE_JOBREC_records (b : Nat) : Fld := ⟨Reg.CE_JOBREC b, 13, 0⟩
/-- CE_JOBNUMb, 10. -/
def Reg.CE_JOBNUM (b : Nat) : Nat := 0x40208 + 0x10 * b
def Fld.CE_JOBNUM_job (b : Nat) : Fld := ⟨Reg.CE_JOBNUM b, 15, 0⟩
/-- CE_INJb, 10. -/
def Reg.CE_INJ (b : Nat) : Nat := 0x4020C + 0x10 * b
def Fld.CE_INJ_value (b : Nat) : Fld := ⟨Reg.CE_INJ b, 31, 0⟩
/-- PG_ENABLED0, 11. -/
def Reg.PG_ENABLED0 : Nat := 0x50000
def Fld.PG_ENABLED0_en : Fld := ⟨Reg.PG_ENABLED0, 31, 0⟩
/-- PG_ENABLED1, 11. -/
def Reg.PG_ENABLED1 : Nat := 0x50004
def Fld.PG_ENABLED1_en : Fld := ⟨Reg.PG_ENABLED1, 31, 0⟩
/-- PG_MOVING0, 11. -/
def Reg.PG_MOVING0 : Nat := 0x50008
def Fld.PG_MOVING0_moving : Fld := ⟨Reg.PG_MOVING0, 31, 0⟩
/-- PG_MOVING1, 11. -/
def Reg.PG_MOVING1 : Nat := 0x5000C
def Fld.PG_MOVING1_moving : Fld := ⟨Reg.PG_MOVING1, 31, 0⟩
/-- PG_CMDERR, 11. -/
def Reg.PG_CMDERR : Nat := 0x50010
def Fld.PG_CMDERR_target : Fld := ⟨Reg.PG_CMDERR, 31, 16⟩
def Fld.PG_CMDERR_cmd : Fld := ⟨Reg.PG_CMDERR, 15, 0⟩
/-- PG_GENSEL, 11. -/
def Reg.PG_GENSEL : Nat := 0x50100
def Fld.PG_GENSEL_gen : Fld := ⟨Reg.PG_GENSEL, 5, 0⟩
/-- PG_GSTAT, 11. -/
def Reg.PG_GSTAT : Nat := 0x50104
def Fld.PG_GSTAT_seq : Fld := ⟨Reg.PG_GSTAT, 23, 16⟩
def Fld.PG_GSTAT_limneg : Fld := ⟨Reg.PG_GSTAT, 12, 12⟩
def Fld.PG_GSTAT_limpos : Fld := ⟨Reg.PG_GSTAT, 11, 11⟩
def Fld.PG_GSTAT_softlim : Fld := ⟨Reg.PG_GSTAT, 10, 10⟩
def Fld.PG_GSTAT_cmderr : Fld := ⟨Reg.PG_GSTAT, 9, 9⟩
def Fld.PG_GSTAT_tgterr : Fld := ⟨Reg.PG_GSTAT, 8, 8⟩
def Fld.PG_GSTAT_homed : Fld := ⟨Reg.PG_GSTAT, 7, 7⟩
def Fld.PG_GSTAT_slowing : Fld := ⟨Reg.PG_GSTAT, 6, 6⟩
def Fld.PG_GSTAT_reverse : Fld := ⟨Reg.PG_GSTAT, 5, 5⟩
def Fld.PG_GSTAT_inpos : Fld := ⟨Reg.PG_GSTAT, 4, 4⟩
def Fld.PG_GSTAT_state : Fld := ⟨Reg.PG_GSTAT, 2, 0⟩
/-- PG_POS_HI, 11. -/
def Reg.PG_POS_HI : Nat := 0x50108
def Fld.PG_POS_HI_pos : Fld := ⟨Reg.PG_POS_HI, 31, 0⟩
/-- PG_POS_LO, 11. -/
def Reg.PG_POS_LO : Nat := 0x5010C
def Fld.PG_POS_LO_pos : Fld := ⟨Reg.PG_POS_LO, 31, 0⟩
/-- PG_VEL_HI, 11. -/
def Reg.PG_VEL_HI : Nat := 0x50110
def Fld.PG_VEL_HI_vel : Fld := ⟨Reg.PG_VEL_HI, 31, 0⟩
/-- PG_VEL_LO, 11. -/
def Reg.PG_VEL_LO : Nat := 0x50114
def Fld.PG_VEL_LO_vel : Fld := ⟨Reg.PG_VEL_LO, 31, 0⟩
/-- PG_ACC_HI, 11. -/
def Reg.PG_ACC_HI : Nat := 0x50118
def Fld.PG_ACC_HI_acc : Fld := ⟨Reg.PG_ACC_HI, 31, 0⟩
/-- PG_ACC_LO, 11. -/
def Reg.PG_ACC_LO : Nat := 0x5011C
def Fld.PG_ACC_LO_acc : Fld := ⟨Reg.PG_ACC_LO, 31, 0⟩
/-- PG_TGT_HI, 11. -/
def Reg.PG_TGT_HI : Nat := 0x50120
def Fld.PG_TGT_HI_tgt : Fld := ⟨Reg.PG_TGT_HI, 31, 0⟩
/-- PG_TGT_LO, 11. -/
def Reg.PG_TGT_LO : Nat := 0x50124
def Fld.PG_TGT_LO_tgt : Fld := ⟨Reg.PG_TGT_LO, 31, 0⟩
/-- PG_OVSHOOT_HI, 11. -/
def Reg.PG_OVSHOOT_HI : Nat := 0x50128
def Fld.PG_OVSHOOT_HI_ovs : Fld := ⟨Reg.PG_OVSHOOT_HI, 31, 0⟩
/-- PG_OVSHOOT_LO, 11. -/
def Reg.PG_OVSHOOT_LO : Nat := 0x5012C
def Fld.PG_OVSHOOT_LO_ovs : Fld := ⟨Reg.PG_OVSHOOT_LO, 31, 0⟩
/-- PG_REVPOS_HI, 11. -/
def Reg.PG_REVPOS_HI : Nat := 0x50130
def Fld.PG_REVPOS_HI_pos : Fld := ⟨Reg.PG_REVPOS_HI, 31, 0⟩
/-- PG_REVPOS_LO, 11. -/
def Reg.PG_REVPOS_LO : Nat := 0x50134
def Fld.PG_REVPOS_LO_pos : Fld := ⟨Reg.PG_REVPOS_LO, 31, 0⟩
/-- PG_HOMESTAT, 11. -/
def Reg.PG_HOMESTAT : Nat := 0x50138
def Fld.PG_HOMESTAT_mode : Fld := ⟨Reg.PG_HOMESTAT, 11, 9⟩
def Fld.PG_HOMESTAT_reversed : Fld := ⟨Reg.PG_HOMESTAT, 8, 8⟩
def Fld.PG_HOMESTAT_cause : Fld := ⟨Reg.PG_HOMESTAT, 7, 4⟩
def Fld.PG_HOMESTAT_state : Fld := ⟨Reg.PG_HOMESTAT, 3, 0⟩
/-- PG_LATCH_HI, 11. -/
def Reg.PG_LATCH_HI : Nat := 0x5013C
def Fld.PG_LATCH_HI_pos : Fld := ⟨Reg.PG_LATCH_HI, 31, 0⟩
/-- PG_LATCH_LO, 11. -/
def Reg.PG_LATCH_LO : Nat := 0x50140
def Fld.PG_LATCH_LO_pos : Fld := ⟨Reg.PG_LATCH_LO, 31, 0⟩
/-- PG_CHATTER, 11. -/
def Reg.PG_CHATTER : Nat := 0x50144
def Fld.PG_CHATTER_limit : Fld := ⟨Reg.PG_CHATTER, 31, 16⟩
def Fld.PG_CHATTER_home : Fld := ⟨Reg.PG_CHATTER, 15, 0⟩
/-- AD_SUMMARY0, 12. -/
def Reg.AD_SUMMARY0 : Nat := 0x60000
def Fld.AD_SUMMARY0_stopped : Fld := ⟨Reg.AD_SUMMARY0, 31, 24⟩
def Fld.AD_SUMMARY0_coast : Fld := ⟨Reg.AD_SUMMARY0, 23, 16⟩
def Fld.AD_SUMMARY0_locked : Fld := ⟨Reg.AD_SUMMARY0, 15, 8⟩
def Fld.AD_SUMMARY0_enabled : Fld := ⟨Reg.AD_SUMMARY0, 7, 0⟩
/-- AD_SUMMARY1, 12. -/
def Reg.AD_SUMMARY1 : Nat := 0x60004
def Fld.AD_SUMMARY1_dropped : Fld := ⟨Reg.AD_SUMMARY1, 31, 16⟩
def Fld.AD_SUMMARY1_late : Fld := ⟨Reg.AD_SUMMARY1, 15, 0⟩
/-- AD_SUMMARY2, 12. -/
def Reg.AD_SUMMARY2 : Nat := 0x60008
def Fld.AD_SUMMARY2_origins : Fld := ⟨Reg.AD_SUMMARY2, 31, 16⟩
def Fld.AD_SUMMARY2_merged : Fld := ⟨Reg.AD_SUMMARY2, 15, 0⟩
/-- AD_LINEFIRED0, 12. -/
def Reg.AD_LINEFIRED0 : Nat := 0x60010
def Fld.AD_LINEFIRED0_fired : Fld := ⟨Reg.AD_LINEFIRED0, 31, 0⟩
/-- AD_LINEFIRED1, 12. -/
def Reg.AD_LINEFIRED1 : Nat := 0x60014
def Fld.AD_LINEFIRED1_fired : Fld := ⟨Reg.AD_LINEFIRED1, 31, 0⟩
/-- AD_DSTATd, 12. -/
def Reg.AD_DSTAT (d : Nat) : Nat := 0x60100 + 0x40 * d
def Fld.AD_DSTAT_kind (d : Nat) : Fld := ⟨Reg.AD_DSTAT d, 10, 8⟩
def Fld.AD_DSTAT_valid (d : Nat) : Fld := ⟨Reg.AD_DSTAT d, 5, 5⟩
def Fld.AD_DSTAT_back (d : Nat) : Fld := ⟨Reg.AD_DSTAT d, 4, 4⟩
def Fld.AD_DSTAT_ref (d : Nat) : Fld := ⟨Reg.AD_DSTAT d, 3, 3⟩
def Fld.AD_DSTAT_state (d : Nat) : Fld := ⟨Reg.AD_DSTAT d, 2, 0⟩
/-- AD_ANGLEd, 12. -/
def Reg.AD_ANGLE (d : Nat) : Nat := 0x60104 + 0x40 * d
def Fld.AD_ANGLE_angle (d : Nat) : Fld := ⟨Reg.AD_ANGLE d, 31, 0⟩
/-- AD_SPEEDd, 12. -/
def Reg.AD_SPEED (d : Nat) : Nat := 0x60108 + 0x40 * d
def Fld.AD_SPEED_speed (d : Nat) : Fld := ⟨Reg.AD_SPEED d, 31, 0⟩
/-- AD_REVd, 12. -/
def Reg.AD_REV (d : Nat) : Nat := 0x6010C + 0x40 * d
def Fld.AD_REV_revs (d : Nat) : Fld := ⟨Reg.AD_REV d, 31, 0⟩
/-- AD_REVTIMEd, 12. -/
def Reg.AD_REVTIME (d : Nat) : Nat := 0x60110 + 0x40 * d
def Fld.AD_REVTIME_ns (d : Nat) : Fld := ⟨Reg.AD_REVTIME d, 31, 0⟩
/-- AD_EDGESd, 12. -/
def Reg.AD_EDGES (d : Nat) : Nat := 0x60114 + 0x40 * d
def Fld.AD_EDGES_rejected (d : Nat) : Fld := ⟨Reg.AD_EDGES d, 31, 16⟩
def Fld.AD_EDGES_missing (d : Nat) : Fld := ⟨Reg.AD_EDGES d, 15, 0⟩
/-- AD_TRACKd, 12. -/
def Reg.AD_TRACK (d : Nat) : Nat := 0x60118 + 0x40 * d
def Fld.AD_TRACK_slew (d : Nat) : Fld := ⟨Reg.AD_TRACK d, 31, 16⟩
def Fld.AD_TRACK_reacq (d : Nat) : Fld := ⟨Reg.AD_TRACK d, 15, 8⟩
def Fld.AD_TRACK_referr (d : Nat) : Fld := ⟨Reg.AD_TRACK d, 7, 0⟩
/-- AD_CORRd, 12. -/
def Reg.AD_CORR (d : Nat) : Nat := 0x6011C + 0x40 * d
def Fld.AD_CORR_max (d : Nat) : Fld := ⟨Reg.AD_CORR d, 31, 0⟩
/-- AD_EDGETIME_HId, 12. -/
def Reg.AD_EDGETIME_HI (d : Nat) : Nat := 0x60120 + 0x40 * d
def Fld.AD_EDGETIME_HI_time (d : Nat) : Fld := ⟨Reg.AD_EDGETIME_HI d, 31, 0⟩
/-- AD_EDGETIME_LOd, 12. -/
def Reg.AD_EDGETIME_LO (d : Nat) : Nat := 0x60124 + 0x40 * d
def Fld.AD_EDGETIME_LO_time (d : Nat) : Fld := ⟨Reg.AD_EDGETIME_LO d, 31, 0⟩
/-- AD_ACTSEL, 12. -/
def Reg.AD_ACTSEL : Nat := 0x60800
def Fld.AD_ACTSEL_slot : Fld := ⟨Reg.AD_ACTSEL, 11, 0⟩
/-- AD_ACTSTAT, 12. -/
def Reg.AD_ACTSTAT : Nat := 0x60804
def Fld.AD_ACTSTAT_rev : Fld := ⟨Reg.AD_ACTSTAT, 31, 16⟩
def Fld.AD_ACTSTAT_seq : Fld := ⟨Reg.AD_ACTSTAT, 15, 8⟩
def Fld.AD_ACTSTAT_jumped : Fld := ⟨Reg.AD_ACTSTAT, 7, 7⟩
def Fld.AD_ACTSTAT_coast : Fld := ⟨Reg.AD_ACTSTAT, 6, 6⟩
def Fld.AD_ACTSTAT_dropped : Fld := ⟨Reg.AD_ACTSTAT, 5, 5⟩
def Fld.AD_ACTSTAT_late : Fld := ⟨Reg.AD_ACTSTAT, 4, 4⟩
def Fld.AD_ACTSTAT_passed : Fld := ⟨Reg.AD_ACTSTAT, 3, 3⟩
def Fld.AD_ACTSTAT_suspended : Fld := ⟨Reg.AD_ACTSTAT, 2, 2⟩
def Fld.AD_ACTSTAT_live : Fld := ⟨Reg.AD_ACTSTAT, 1, 1⟩
def Fld.AD_ACTSTAT_en : Fld := ⟨Reg.AD_ACTSTAT, 0, 0⟩
/-- AD_ACTANGLE, 12. -/
def Reg.AD_ACTANGLE : Nat := 0x60808
def Fld.AD_ACTANGLE_angle : Fld := ⟨Reg.AD_ACTANGLE, 31, 0⟩
/-- AD_ACTCOMP, 12. -/
def Reg.AD_ACTCOMP : Nat := 0x6080C
def Fld.AD_ACTCOMP_angle : Fld := ⟨Reg.AD_ACTCOMP, 31, 0⟩
/-- AD_ACTFIRES, 12. -/
def Reg.AD_ACTFIRES : Nat := 0x60810
def Fld.AD_ACTFIRES_fires : Fld := ⟨Reg.AD_ACTFIRES, 31, 0⟩
/-- AD_ACTLAST, 12. -/
def Reg.AD_ACTLAST : Nat := 0x60814
def Fld.AD_ACTLAST_time : Fld := ⟨Reg.AD_ACTLAST, 31, 0⟩
/-- PH_STAT, 13. -/
def Reg.PH_STAT : Nat := 0x70000
def Fld.PH_STAT_gust : Fld := ⟨Reg.PH_STAT, 17, 16⟩
def Fld.PH_STAT_closing : Fld := ⟨Reg.PH_STAT, 11, 10⟩
def Fld.PH_STAT_armed : Fld := ⟨Reg.PH_STAT, 9, 8⟩
def Fld.PH_STAT_good : Fld := ⟨Reg.PH_STAT, 4, 0⟩
/-- PH_OVR, 13. -/
def Reg.PH_OVR : Nat := 0x70004
def Fld.PH_OVR_ovr : Fld := ⟨Reg.PH_OVR, 4, 0⟩
/-- PH_CYCLES, 13. -/
def Reg.PH_CYCLES : Nat := 0x70008
def Fld.PH_CYCLES_cycles : Fld := ⟨Reg.PH_CYCLES, 31, 0⟩
/-- PH_SEL, 13. -/
def Reg.PH_SEL : Nat := 0x70100
def Fld.PH_SEL_triple : Fld := ⟨Reg.PH_SEL, 2, 0⟩
/-- PH_RMSk, 13. -/
def Reg.PH_RMS (k : Nat) : Nat := 0x70104 + 0x4 * k
def Fld.PH_RMS_rms (k : Nat) : Fld := ⟨Reg.PH_RMS k, 31, 0⟩
/-- PH_FREQ, 13. -/
def Reg.PH_FREQ : Nat := 0x70110
def Fld.PH_FREQ_freq : Fld := ⟨Reg.PH_FREQ, 31, 0⟩
/-- PH_PHASE, 13. -/
def Reg.PH_PHASE : Nat := 0x70114
def Fld.PH_PHASE_angle : Fld := ⟨Reg.PH_PHASE, 31, 0⟩
/-- PH_P, 13. -/
def Reg.PH_P : Nat := 0x70118
def Fld.PH_P_p : Fld := ⟨Reg.PH_P, 31, 0⟩
/-- PH_Q, 13. -/
def Reg.PH_Q : Nat := 0x7011C
def Fld.PH_Q_q : Fld := ⟨Reg.PH_Q, 31, 0⟩
/-- PH_RTIME_HI, 13. -/
def Reg.PH_RTIME_HI : Nat := 0x70120
def Fld.PH_RTIME_HI_time : Fld := ⟨Reg.PH_RTIME_HI, 31, 0⟩
/-- PH_RTIME_LO, 13. -/
def Reg.PH_RTIME_LO : Nat := 0x70124
def Fld.PH_RTIME_LO_time : Fld := ⟨Reg.PH_RTIME_LO, 31, 0⟩
/-- PH_SYNCSTATc, 13. -/
def Reg.PH_SYNCSTAT (c : Nat) : Nat := 0x70200 + 0x20 * c
def Fld.PH_SYNCSTAT_seq (c : Nat) : Fld := ⟨Reg.PH_SYNCSTAT c, 31, 24⟩
def Fld.PH_SYNCSTAT_cause (c : Nat) : Fld := ⟨Reg.PH_SYNCSTAT c, 19, 16⟩
def Fld.PH_SYNCSTAT_breaker (c : Nat) : Fld := ⟨Reg.PH_SYNCSTAT c, 10, 8⟩
def Fld.PH_SYNCSTAT_dead (c : Nat) : Fld := ⟨Reg.PH_SYNCSTAT c, 2, 2⟩
def Fld.PH_SYNCSTAT_state (c : Nat) : Fld := ⟨Reg.PH_SYNCSTAT c, 1, 0⟩
/-- PH_SLIPc, 13. -/
def Reg.PH_SLIP (c : Nat) : Nat := 0x70204 + 0x20 * c
def Fld.PH_SLIP_slip (c : Nat) : Fld := ⟨Reg.PH_SLIP c, 31, 0⟩
/-- PH_DVc, 13. -/
def Reg.PH_DV (c : Nat) : Nat := 0x70208 + 0x20 * c
def Fld.PH_DV_dv (c : Nat) : Fld := ⟨Reg.PH_DV c, 15, 0⟩
/-- PH_TCLc, 13. -/
def Reg.PH_TCL (c : Nat) : Nat := 0x7020C + 0x20 * c
def Fld.PH_TCL_learned (c : Nat) : Fld := ⟨Reg.PH_TCL c, 16, 0⟩
/-- PH_TCLLASTc, 13. -/
def Reg.PH_TCLLAST (c : Nat) : Nat := 0x70210 + 0x20 * c
def Fld.PH_TCLLAST_last (c : Nat) : Fld := ⟨Reg.PH_TCLLAST c, 16, 0⟩
/-- PH_CLERRc, 13. -/
def Reg.PH_CLERR (c : Nat) : Nat := 0x70214 + 0x20 * c
def Fld.PH_CLERR_err (c : Nat) : Fld := ⟨Reg.PH_CLERR c, 31, 0⟩
/-- PH_SYNCCNTc, 13. -/
def Reg.PH_SYNCCNT (c : Nat) : Nat := 0x70218 + 0x20 * c
def Fld.PH_SYNCCNT_refused (c : Nat) : Fld := ⟨Reg.PH_SYNCCNT c, 31, 16⟩
def Fld.PH_SYNCCNT_invalid (c : Nat) : Fld := ⟨Reg.PH_SYNCCNT c, 15, 8⟩
def Fld.PH_SYNCCNT_closes (c : Nat) : Fld := ⟨Reg.PH_SYNCCNT c, 7, 0⟩
/-- PH_GSPARE, 13. -/
def Reg.PH_GSPARE : Nat := 0x70300
def Fld.PH_GSPARE_spare : Fld := ⟨Reg.PH_GSPARE, 31, 0⟩
/-- PH_GCAP, 13. -/
def Reg.PH_GCAP : Nat := 0x70304
def Fld.PH_GCAP_reserved : Fld := ⟨Reg.PH_GCAP, 31, 16⟩
def Fld.PH_GCAP_online : Fld := ⟨Reg.PH_GCAP, 15, 0⟩
/-- PH_GSTEP, 13. -/
def Reg.PH_GSTEP : Nat := 0x70308
def Fld.PH_GSTEP_step : Fld := ⟨Reg.PH_GSTEP, 15, 8⟩
def Fld.PH_GSTEP_first : Fld := ⟨Reg.PH_GSTEP, 5, 0⟩
/-- PH_GCNT, 13. -/
def Reg.PH_GCNT : Nat := 0x7030C
def Fld.PH_GCNT_grants : Fld := ⟨Reg.PH_GCNT, 31, 16⟩
def Fld.PH_GCNT_timeouts : Fld := ⟨Reg.PH_GCNT, 15, 8⟩
def Fld.PH_GCNT_blackouts : Fld := ⟨Reg.PH_GCNT, 7, 0⟩
/-- TU_TIME_HI, 14. -/
def Reg.TU_TIME_HI : Nat := 0x80000
def Fld.TU_TIME_HI_time : Fld := ⟨Reg.TU_TIME_HI, 31, 0⟩
/-- TU_TIME_LO, 14. -/
def Reg.TU_TIME_LO : Nat := 0x80004
def Fld.TU_TIME_LO_time : Fld := ⟨Reg.TU_TIME_LO, 31, 0⟩
/-- TU_STAT, 14. -/
def Reg.TU_STAT : Nat := 0x80008
def Fld.TU_STAT_slewing : Fld := ⟨Reg.TU_STAT, 12, 12⟩
def Fld.TU_STAT_ref : Fld := ⟨Reg.TU_STAT, 11, 8⟩
def Fld.TU_STAT_osc_warm : Fld := ⟨Reg.TU_STAT, 6, 6⟩
def Fld.TU_STAT_refused : Fld := ⟨Reg.TU_STAT, 5, 5⟩
def Fld.TU_STAT_holdover : Fld := ⟨Reg.TU_STAT, 4, 4⟩
def Fld.TU_STAT_valid : Fld := ⟨Reg.TU_STAT, 3, 3⟩
def Fld.TU_STAT_state : Fld := ⟨Reg.TU_STAT, 2, 0⟩
/-- TU_OFFSET, 14. -/
def Reg.TU_OFFSET : Nat := 0x8000C
def Fld.TU_OFFSET_offset : Fld := ⟨Reg.TU_OFFSET, 31, 0⟩
/-- TU_RATE, 14. -/
def Reg.TU_RATE : Nat := 0x80010
def Fld.TU_RATE_rate : Fld := ⟨Reg.TU_RATE, 31, 0⟩
/-- TU_REFUSED, 14. -/
def Reg.TU_REFUSED : Nat := 0x80014
def Fld.TU_REFUSED_offset : Fld := ⟨Reg.TU_REFUSED, 31, 0⟩
/-- TU_HOLD, 14. -/
def Reg.TU_HOLD : Nat := 0x80018
def Fld.TU_HOLD_seconds : Fld := ⟨Reg.TU_HOLD, 31, 0⟩
/-- TU_CNT, 14. -/
def Reg.TU_CNT : Nat := 0x8001C
def Fld.TU_CNT_outlier : Fld := ⟨Reg.TU_CNT, 31, 16⟩
def Fld.TU_CNT_refused : Fld := ⟨Reg.TU_CNT, 15, 8⟩
def Fld.TU_CNT_holdover : Fld := ⟨Reg.TU_CNT, 7, 0⟩
/-- TU_UTCOFF, 14. -/
def Reg.TU_UTCOFF : Nat := 0x80020
def Fld.TU_UTCOFF_valid : Fld := ⟨Reg.TU_UTCOFF, 16, 16⟩
def Fld.TU_UTCOFF_utc : Fld := ⟨Reg.TU_UTCOFF, 15, 0⟩
/-- TU_PPSIN_HI, 14. -/
def Reg.TU_PPSIN_HI : Nat := 0x80030
def Fld.TU_PPSIN_HI_time : Fld := ⟨Reg.TU_PPSIN_HI, 31, 0⟩
/-- TU_PPSIN_LO, 14. -/
def Reg.TU_PPSIN_LO : Nat := 0x80034
def Fld.TU_PPSIN_LO_time : Fld := ⟨Reg.TU_PPSIN_LO, 31, 0⟩
/-- TU_PPSERR, 14. -/
def Reg.TU_PPSERR : Nat := 0x80038
def Fld.TU_PPSERR_err : Fld := ⟨Reg.TU_PPSERR, 31, 0⟩
/-- TU_PORTCORRp, 14. -/
def Reg.TU_PORTCORR (p : Nat) : Nat := 0x80100 + 0x8 * p
def Fld.TU_PORTCORR_egress (p : Nat) : Fld := ⟨Reg.TU_PORTCORR p, 31, 16⟩
def Fld.TU_PORTCORR_ingress (p : Nat) : Fld := ⟨Reg.TU_PORTCORR p, 15, 0⟩
/-- TU_PORTSTATp, 14. -/
def Reg.TU_PORTSTAT (p : Nat) : Nat := 0x80104 + 0x8 * p
def Fld.TU_PORTSTAT_delay (p : Nat) : Fld := ⟨Reg.TU_PORTSTAT p, 31, 8⟩
def Fld.TU_PORTSTAT_state (p : Nat) : Fld := ⟨Reg.TU_PORTSTAT p, 3, 0⟩
/-- TU_CMPTn, 14. -/
def Reg.TU_CMPT (n : Nat) : Nat := 0x80200 + 0x8 * n
def Fld.TU_CMPT_target (n : Nat) : Fld := ⟨Reg.TU_CMPT n, 31, 0⟩
/-- TU_CMPCTLn, 14. -/
def Reg.TU_CMPCTL (n : Nat) : Nat := 0x80204 + 0x8 * n
def Fld.TU_CMPCTL_seq (n : Nat) : Fld := ⟨Reg.TU_CMPCTL n, 15, 8⟩
def Fld.TU_CMPCTL_periodic (n : Nat) : Fld := ⟨Reg.TU_CMPCTL n, 6, 6⟩
def Fld.TU_CMPCTL_window (n : Nat) : Fld := ⟨Reg.TU_CMPCTL n, 5, 5⟩
def Fld.TU_CMPCTL_dropped (n : Nat) : Fld := ⟨Reg.TU_CMPCTL n, 4, 4⟩
def Fld.TU_CMPCTL_late (n : Nat) : Fld := ⟨Reg.TU_CMPCTL n, 3, 3⟩
def Fld.TU_CMPCTL_suspended (n : Nat) : Fld := ⟨Reg.TU_CMPCTL n, 2, 2⟩
def Fld.TU_CMPCTL_armed (n : Nat) : Fld := ⟨Reg.TU_CMPCTL n, 1, 1⟩
def Fld.TU_CMPCTL_en (n : Nat) : Fld := ⟨Reg.TU_CMPCTL n, 0, 0⟩
/-- TU_CMPFIRED, 14. -/
def Reg.TU_CMPFIRED : Nat := 0x80300
def Fld.TU_CMPFIRED_fired : Fld := ⟨Reg.TU_CMPFIRED, 31, 0⟩
/-- FIO_LINK, 15. -/
def Reg.FIO_LINK : Nat := 0x90000
def Fld.FIO_LINK_silence : Fld := ⟨Reg.FIO_LINK, 24, 16⟩
def Fld.FIO_LINK_up : Fld := ⟨Reg.FIO_LINK, 8, 0⟩
/-- FIO_KICK, 15. -/
def Reg.FIO_KICK : Nat := 0x90004
def Fld.FIO_KICK_key : Fld := ⟨Reg.FIO_KICK, 31, 16⟩
/-- FIO_FSUP, 15. -/
def Reg.FIO_FSUP : Nat := 0x90010
def Fld.FIO_FSUP_changed : Fld := ⟨Reg.FIO_FSUP, 31, 16⟩
def Fld.FIO_FSUP_state : Fld := ⟨Reg.FIO_FSUP, 15, 0⟩
/-- FIO_FSUPVs, 15. -/
def Reg.FIO_FSUPV (s : Nat) : Nat := 0x90020 + 0x4 * s
def Fld.FIO_FSUPV_mv (s : Nat) : Fld := ⟨Reg.FIO_FSUPV s, 15, 0⟩
/-- FIO_LINKCNTu, 15. -/
def Reg.FIO_LINKCNT (u : Nat) : Nat := 0x90040 + 0x4 * u
def Fld.FIO_LINKCNT_crc (u : Nat) : Fld := ⟨Reg.FIO_LINKCNT u, 31, 16⟩
def Fld.FIO_LINKCNT_downs (u : Nat) : Fld := ⟨Reg.FIO_LINKCNT u, 15, 0⟩
/-- FIO_LOWCLAIMu, 15. -/
def Reg.FIO_LOWCLAIM (u : Nat) : Nat := 0x90080 + 0x4 * u
def Fld.FIO_LOWCLAIM_count (u : Nat) : Fld := ⟨Reg.FIO_LOWCLAIM u, 31, 0⟩
/-- FIO_DIu_STATE, 15. -/
def Reg.FIO_DI_STATE (u : Nat) : Nat := 0x91000 + 0x1000 * u
def Fld.FIO_DI_STATE_raw (u : Nat) : Fld := ⟨Reg.FIO_DI_STATE u, 31, 16⟩
def Fld.FIO_DI_STATE_state (u : Nat) : Fld := ⟨Reg.FIO_DI_STATE u, 15, 0⟩
/-- FIO_DIu_EDGES, 15. -/
def Reg.FIO_DI_EDGES (u : Nat) : Nat := 0x91004 + 0x1000 * u
def Fld.FIO_DI_EDGES_diag (u : Nat) : Fld := ⟨Reg.FIO_DI_EDGES u, 31, 16⟩
def Fld.FIO_DI_EDGES_edges (u : Nat) : Fld := ⟨Reg.FIO_DI_EDGES u, 15, 0⟩
/-- FIO_DIu_TS_HIc, 15. -/
def Reg.FIO_DI_TS_HI (u c : Nat) : Nat := 0x91200 + 0x1000 * u + 0x8 * c
def Fld.FIO_DI_TS_HI_time (u c : Nat) : Fld := ⟨Reg.FIO_DI_TS_HI u c, 31, 0⟩
/-- FIO_DIu_TS_LOc, 15. -/
def Reg.FIO_DI_TS_LO (u c : Nat) : Nat := 0x91204 + 0x1000 * u + 0x8 * c
def Fld.FIO_DI_TS_LO_time (u c : Nat) : Fld := ⟨Reg.FIO_DI_TS_LO u c, 31, 0⟩
/-- FIO_DOu_STATE, 15. -/
def Reg.FIO_DO_STATE (u : Nat) : Nat := 0x91000 + 0x1000 * u
def Fld.FIO_DO_STATE_driving (u : Nat) : Fld := ⟨Reg.FIO_DO_STATE u, 31, 24⟩
def Fld.FIO_DO_STATE_readback (u : Nat) : Fld := ⟨Reg.FIO_DO_STATE u, 23, 16⟩
def Fld.FIO_DO_STATE_pending (u : Nat) : Fld := ⟨Reg.FIO_DO_STATE u, 15, 8⟩
def Fld.FIO_DO_STATE_applied (u : Nat) : Fld := ⟨Reg.FIO_DO_STATE u, 7, 0⟩
/-- FIO_DOu_FAULT, 15. -/
def Reg.FIO_DO_FAULT (u : Nat) : Nat := 0x91004 + 0x1000 * u
def Fld.FIO_DO_FAULT_latched (u : Nat) : Fld := ⟨Reg.FIO_DO_FAULT u, 23, 16⟩
def Fld.FIO_DO_FAULT_mismatch (u : Nat) : Fld := ⟨Reg.FIO_DO_FAULT u, 15, 8⟩
def Fld.FIO_DO_FAULT_open (u : Nat) : Fld := ⟨Reg.FIO_DO_FAULT u, 7, 0⟩
/-- FIO_DOu_GUST, 15. -/
def Reg.FIO_DO_GUST (u : Nat) : Nat := 0x91008 + 0x1000 * u
def Fld.FIO_DO_GUST_delayed (u : Nat) : Fld := ⟨Reg.FIO_DO_GUST u, 31, 16⟩
def Fld.FIO_DO_GUST_limit (u : Nat) : Fld := ⟨Reg.FIO_DO_GUST u, 3, 0⟩
/-- FIO_DOu_CURc, 15. -/
def Reg.FIO_DO_CUR (u c : Nat) : Nat := 0x91100 + 0x1000 * u + 0x4 * c
def Fld.FIO_DO_CUR_peak (u c : Nat) : Fld := ⟨Reg.FIO_DO_CUR u c, 31, 16⟩
def Fld.FIO_DO_CUR_ma (u c : Nat) : Fld := ⟨Reg.FIO_DO_CUR u c, 15, 0⟩
/-- FIO_HBc_STAT, 15. -/
def Reg.FIO_HB_STAT (c : Nat) : Nat := 0x97000 + 0x10 * c
def Fld.FIO_HB_STAT_stage (c : Nat) : Fld := ⟨Reg.FIO_HB_STAT c, 31, 28⟩
def Fld.FIO_HB_STAT_status (c : Nat) : Fld := ⟨Reg.FIO_HB_STAT c, 15, 0⟩
/-- FIO_HBc_CUR, 15. -/
def Reg.FIO_HB_CUR (c : Nat) : Nat := 0x97004 + 0x10 * c
def Fld.FIO_HB_CUR_ua (c : Nat) : Fld := ⟨Reg.FIO_HB_CUR c, 31, 0⟩
/-- FIO_HBc_SET, 15. -/
def Reg.FIO_HB_SET (c : Nat) : Nat := 0x97008 + 0x10 * c
def Fld.FIO_HB_SET_set (c : Nat) : Fld := ⟨Reg.FIO_HB_SET c, 31, 0⟩
/-- FIO_HBc_CNT, 15. -/
def Reg.FIO_HB_CNT (c : Nat) : Nat := 0x9700C + 0x10 * c
def Fld.FIO_HB_CNT_shoot (c : Nat) : Fld := ⟨Reg.FIO_HB_CNT c, 31, 16⟩
def Fld.FIO_HB_CNT_overcur (c : Nat) : Fld := ⟨Reg.FIO_HB_CNT c, 15, 0⟩
/-- FIO_ENCe_POS_HI, 15. -/
def Reg.FIO_ENC_POS_HI (e : Nat) : Nat := 0x97100 + 0x20 * e
def Fld.FIO_ENC_POS_HI_pos (e : Nat) : Fld := ⟨Reg.FIO_ENC_POS_HI e, 31, 0⟩
/-- FIO_ENCe_POS_LO, 15. -/
def Reg.FIO_ENC_POS_LO (e : Nat) : Nat := 0x97104 + 0x20 * e
def Fld.FIO_ENC_POS_LO_pos (e : Nat) : Fld := ⟨Reg.FIO_ENC_POS_LO e, 31, 0⟩
/-- FIO_ENCe_STAT, 15. -/
def Reg.FIO_ENC_STAT (e : Nat) : Nat := 0x97108 + 0x20 * e
def Fld.FIO_ENC_STAT_illegal (e : Nat) : Fld := ⟨Reg.FIO_ENC_STAT e, 31, 16⟩
def Fld.FIO_ENC_STAT_status (e : Nat) : Fld := ⟨Reg.FIO_ENC_STAT e, 15, 0⟩
/-- FIO_PKp_FREQ, 15. -/
def Reg.FIO_PK_FREQ (p : Nat) : Nat := 0x97180 + 0x10 * p
def Fld.FIO_PK_FREQ_mhz (p : Nat) : Fld := ⟨Reg.FIO_PK_FREQ p, 31, 0⟩
/-- FIO_PKp_STAT, 15. -/
def Reg.FIO_PK_STAT (p : Nat) : Nat := 0x97184 + 0x10 * p
def Fld.FIO_PK_STAT_rejected (p : Nat) : Fld := ⟨Reg.FIO_PK_STAT p, 31, 16⟩
def Fld.FIO_PK_STAT_status (p : Nat) : Fld := ⟨Reg.FIO_PK_STAT p, 15, 0⟩
/-- FIO_PKp_COIL, 15. -/
def Reg.FIO_PK_COIL (p : Nat) : Nat := 0x97188 + 0x10 * p
def Fld.FIO_PK_COIL_ohm (p : Nat) : Fld := ⟨Reg.FIO_PK_COIL p, 19, 0⟩
/-- FIO_AI_CONVk, 16. -/
def Reg.FIO_AI_CONV (k : Nat) : Nat := 0x95000 + 0x4 * k
def Fld.FIO_AI_CONV_skipped (k : Nat) : Fld := ⟨Reg.FIO_AI_CONV k, 31, 16⟩
def Fld.FIO_AI_CONV_chan (k : Nat) : Fld := ⟨Reg.FIO_AI_CONV k, 10, 8⟩
def Fld.FIO_AI_CONV_busy (k : Nat) : Fld := ⟨Reg.FIO_AI_CONV k, 2, 2⟩
def Fld.FIO_AI_CONV_mode (k : Nat) : Fld := ⟨Reg.FIO_AI_CONV k, 1, 0⟩
/-- FIO_AI_STATE, 16. -/
def Reg.FIO_AI_STATE : Nat := 0x95008
def Fld.FIO_AI_STATE_settle : Fld := ⟨Reg.FIO_AI_STATE, 31, 24⟩
def Fld.FIO_AI_STATE_ne43 : Fld := ⟨Reg.FIO_AI_STATE, 23, 16⟩
def Fld.FIO_AI_STATE_diag : Fld := ⟨Reg.FIO_AI_STATE, 15, 8⟩
def Fld.FIO_AI_STATE_good : Fld := ⟨Reg.FIO_AI_STATE, 7, 0⟩
/-- FIO_AI_CURc, 16. -/
def Reg.FIO_AI_CUR (c : Nat) : Nat := 0x95100 + 0x4 * c
def Fld.FIO_AI_CUR_na (c : Nat) : Fld := ⟨Reg.FIO_AI_CUR c, 31, 0⟩
/-- FIO_AI_STATc, 16. -/
def Reg.FIO_AI_STAT (c : Nat) : Nat := 0x95120 + 0x4 * c
def Fld.FIO_AI_STAT_status (c : Nat) : Fld := ⟨Reg.FIO_AI_STAT c, 22, 0⟩
/-- FIO_AI_TXc, 16. -/
def Reg.FIO_AI_TX (c : Nat) : Nat := 0x95140 + 0x4 * c
def Fld.FIO_AI_TX_ua (c : Nat) : Fld := ⟨Reg.FIO_AI_TX c, 15, 0⟩
/-- FIO_AI_TS_HIc, 16. -/
def Reg.FIO_AI_TS_HI (c : Nat) : Nat := 0x95200 + 0x8 * c
def Fld.FIO_AI_TS_HI_time (c : Nat) : Fld := ⟨Reg.FIO_AI_TS_HI c, 31, 0⟩
/-- FIO_AI_TS_LOc, 16. -/
def Reg.FIO_AI_TS_LO (c : Nat) : Nat := 0x95204 + 0x8 * c
def Fld.FIO_AI_TS_LO_time (c : Nat) : Fld := ⟨Reg.FIO_AI_TS_LO c, 31, 0⟩
/-- FIO_AO_STATE, 16. -/
def Reg.FIO_AO_STATE : Nat := 0x96000
def Fld.FIO_AO_STATE_driving : Fld := ⟨Reg.FIO_AO_STATE, 31, 24⟩
def Fld.FIO_AO_STATE_mismatch : Fld := ⟨Reg.FIO_AO_STATE, 23, 16⟩
def Fld.FIO_AO_STATE_heldoff : Fld := ⟨Reg.FIO_AO_STATE, 15, 8⟩
def Fld.FIO_AO_STATE_silence : Fld := ⟨Reg.FIO_AO_STATE, 7, 0⟩
/-- FIO_AO_CNT, 16. -/
def Reg.FIO_AO_CNT : Nat := 0x96004
def Fld.FIO_AO_CNT_thermal : Fld := ⟨Reg.FIO_AO_CNT, 31, 16⟩
def Fld.FIO_AO_CNT_mismatch : Fld := ⟨Reg.FIO_AO_CNT, 15, 0⟩
/-- FIO_AO_SETc, 16. -/
def Reg.FIO_AO_SET (c : Nat) : Nat := 0x96100 + 0x4 * c
def Fld.FIO_AO_SET_na (c : Nat) : Fld := ⟨Reg.FIO_AO_SET c, 31, 0⟩
/-- FIO_AO_RBc, 16. -/
def Reg.FIO_AO_RB (c : Nat) : Nat := 0x96120 + 0x4 * c
def Fld.FIO_AO_RB_na (c : Nat) : Fld := ⟨Reg.FIO_AO_RB c, 31, 0⟩
/-- FIO_AO_STATc, 16. -/
def Reg.FIO_AO_STAT (c : Nat) : Nat := 0x96140 + 0x4 * c
def Fld.FIO_AO_STAT_stage (c : Nat) : Fld := ⟨Reg.FIO_AO_STAT c, 31, 28⟩
def Fld.FIO_AO_STAT_status (c : Nat) : Fld := ⟨Reg.FIO_AO_STAT c, 22, 0⟩
/-- FIO_AO_COMPc, 16. -/
def Reg.FIO_AO_COMP (c : Nat) : Nat := 0x96160 + 0x4 * c
def Fld.FIO_AO_COMP_temp (c : Nat) : Fld := ⟨Reg.FIO_AO_COMP c, 31, 16⟩
def Fld.FIO_AO_COMP_mv (c : Nat) : Fld := ⟨Reg.FIO_AO_COMP c, 15, 0⟩
/-- RIO_RINGr_STAT, 17. -/
def Reg.RIO_RING_STAT (r : Nat) : Nat := 0xA0000 + 0x100 * r
def Fld.RIO_RING_STAT_oper (r : Nat) : Fld := ⟨Reg.RIO_RING_STAT r, 31, 24⟩
def Fld.RIO_RING_STAT_extra (r : Nat) : Fld := ⟨Reg.RIO_RING_STAT r, 23, 16⟩
def Fld.RIO_RING_STAT_master (r : Nat) : Fld := ⟨Reg.RIO_RING_STAT r, 3, 3⟩
def Fld.RIO_RING_STAT_state (r : Nat) : Fld := ⟨Reg.RIO_RING_STAT r, 2, 0⟩
/-- RIO_RINGr_BREAK, 17. -/
def Reg.RIO_RING_BREAK (r : Nat) : Nat := 0xA0004 + 0x100 * r
def Fld.RIO_RING_BREAK_a_last (r : Nat) : Fld := ⟨Reg.RIO_RING_BREAK r, 15, 8⟩
def Fld.RIO_RING_BREAK_b_last (r : Nat) : Fld := ⟨Reg.RIO_RING_BREAK r, 7, 0⟩
/-- RIO_RINGr_DELAY, 17. -/
def Reg.RIO_RING_DELAY (r : Nat) : Nat := 0xA0008 + 0x100 * r
def Fld.RIO_RING_DELAY_worst (r : Nat) : Fld := ⟨Reg.RIO_RING_DELAY r, 31, 16⟩
def Fld.RIO_RING_DELAY_last (r : Nat) : Fld := ⟨Reg.RIO_RING_DELAY r, 15, 0⟩
/-- RIO_RINGr_CNT, 17. -/
def Reg.RIO_RING_CNT (r : Nat) : Nat := 0xA000C + 0x100 * r
def Fld.RIO_RING_CNT_missed (r : Nat) : Fld := ⟨Reg.RIO_RING_CNT r, 31, 16⟩
def Fld.RIO_RING_CNT_foreign (r : Nat) : Fld := ⟨Reg.RIO_RING_CNT r, 15, 8⟩
def Fld.RIO_RING_CNT_breaks (r : Nat) : Fld := ⟨Reg.RIO_RING_CNT r, 7, 0⟩
/-- RIO_RINGr_CYCLE, 17. -/
def Reg.RIO_RING_CYCLE (r : Nat) : Nat := 0xA0010 + 0x100 * r
def Fld.RIO_RING_CYCLE_cycles (r : Nat) : Fld := ⟨Reg.RIO_RING_CYCLE r, 31, 0⟩
/-- RIO_UNITSEL, 17. -/
def Reg.RIO_UNITSEL : Nat := 0xA0800
def Fld.RIO_UNITSEL_unit : Fld := ⟨Reg.RIO_UNITSEL, 7, 0⟩
/-- RIO_UNITSTAT, 17. -/
def Reg.RIO_UNITSTAT : Nat := 0xA0804
def Fld.RIO_UNITSTAT_node : Fld := ⟨Reg.RIO_UNITSTAT, 31, 18⟩
def Fld.RIO_UNITSTAT_pos : Fld := ⟨Reg.RIO_UNITSTAT, 17, 11⟩
def Fld.RIO_UNITSTAT_ring : Fld := ⟨Reg.RIO_UNITSTAT, 10, 10⟩
def Fld.RIO_UNITSTAT_copyb : Fld := ⟨Reg.RIO_UNITSTAT, 6, 6⟩
def Fld.RIO_UNITSTAT_turn : Fld := ⟨Reg.RIO_UNITSTAT, 5, 5⟩
def Fld.RIO_UNITSTAT_silence : Fld := ⟨Reg.RIO_UNITSTAT, 4, 4⟩
def Fld.RIO_UNITSTAT_state : Fld := ⟨Reg.RIO_UNITSTAT, 2, 0⟩
/-- RIO_UNITCNT, 17. -/
def Reg.RIO_UNITCNT : Nat := 0xA0808
def Fld.RIO_UNITCNT_missed : Fld := ⟨Reg.RIO_UNITCNT, 31, 16⟩
def Fld.RIO_UNITCNT_lowclaim : Fld := ⟨Reg.RIO_UNITCNT, 15, 0⟩
/-- RIO_UNITTYPE, 17. -/
def Reg.RIO_UNITTYPE : Nat := 0xA080C
def Fld.RIO_UNITTYPE_type : Fld := ⟨Reg.RIO_UNITTYPE, 31, 16⟩
def Fld.RIO_UNITTYPE_fw : Fld := ⟨Reg.RIO_UNITTYPE, 15, 0⟩
/-- RIO_UNITSER, 17. -/
def Reg.RIO_UNITSER : Nat := 0xA0810
def Fld.RIO_UNITSER_serial : Fld := ⟨Reg.RIO_UNITSER, 31, 0⟩
/-- RIO_OPERk, 17. -/
def Reg.RIO_OPER (k : Nat) : Nat := 0xA0900 + 0x4 * k
def Fld.RIO_OPER_oper (k : Nat) : Fld := ⟨Reg.RIO_OPER k, 31, 0⟩
/-- SAF_STAT, 18. -/
def Reg.SAF_STAT : Nat := 0xB0000
def Fld.SAF_STAT_tripped : Fld := ⟨Reg.SAF_STAT, 24, 16⟩
def Fld.SAF_STAT_edmdue : Fld := ⟨Reg.SAF_STAT, 4, 4⟩
def Fld.SAF_STAT_logfull : Fld := ⟨Reg.SAF_STAT, 3, 3⟩
def Fld.SAF_STAT_class : Fld := ⟨Reg.SAF_STAT, 2, 2⟩
def Fld.SAF_STAT_unconfirmed : Fld := ⟨Reg.SAF_STAT, 1, 1⟩
def Fld.SAF_STAT_fault : Fld := ⟨Reg.SAF_STAT, 0, 0⟩
/-- SAF_SETS, 18. -/
def Reg.SAF_SETS : Nat := 0xB0004
def Fld.SAF_SETS_loaded : Fld := ⟨Reg.SAF_SETS, 31, 16⟩
def Fld.SAF_SETS_confirmed : Fld := ⟨Reg.SAF_SETS, 15, 0⟩
/-- SAF_CNT, 18. -/
def Reg.SAF_CNT : Nat := 0xB0008
def Fld.SAF_CNT_trips : Fld := ⟨Reg.SAF_CNT, 31, 16⟩
def Fld.SAF_CNT_pairdiff : Fld := ⟨Reg.SAF_CNT, 15, 8⟩
def Fld.SAF_CNT_crcfail : Fld := ⟨Reg.SAF_CNT, 7, 0⟩
/-- SAF_CRCs, 18. -/
def Reg.SAF_CRC (s : Nat) : Nat := 0xB0100 + 0x4 * s
def Fld.SAF_CRC_crc (s : Nat) : Fld := ⟨Reg.SAF_CRC s, 31, 0⟩
/-- SAF_PADDR, 18. -/
def Reg.SAF_PADDR : Nat := 0xB0200
def Fld.SAF_PADDR_set : Fld := ⟨Reg.SAF_PADDR, 19, 16⟩
def Fld.SAF_PADDR_word : Fld := ⟨Reg.SAF_PADDR, 13, 2⟩
/-- SAF_PDATA, 18. -/
def Reg.SAF_PDATA : Nat := 0xB0204
def Fld.SAF_PDATA_data : Fld := ⟨Reg.SAF_PDATA, 31, 0⟩
/-- SAF_INSTSEL, 18. -/
def Reg.SAF_INSTSEL : Nat := 0xB0300
def Fld.SAF_INSTSEL_inst : Fld := ⟨Reg.SAF_INSTSEL, 7, 0⟩
/-- SAF_INSTSTAT, 18. -/
def Reg.SAF_INSTSTAT : Nat := 0xB0304
def Fld.SAF_INSTSTAT_rseq : Fld := ⟨Reg.SAF_INSTSTAT, 31, 24⟩
def Fld.SAF_INSTSTAT_set : Fld := ⟨Reg.SAF_INSTSTAT, 23, 20⟩
def Fld.SAF_INSTSTAT_cause : Fld := ⟨Reg.SAF_INSTSTAT, 19, 16⟩
def Fld.SAF_INSTSTAT_targets : Fld := ⟨Reg.SAF_INSTSTAT, 15, 12⟩
def Fld.SAF_INSTSTAT_type : Fld := ⟨Reg.SAF_INSTSTAT, 9, 8⟩
def Fld.SAF_INSTSTAT_demand : Fld := ⟨Reg.SAF_INSTSTAT, 3, 3⟩
def Fld.SAF_INSTSTAT_state : Fld := ⟨Reg.SAF_INSTSTAT, 2, 0⟩
/-- SAF_INSTSPEED, 18. -/
def Reg.SAF_INSTSPEED : Nat := 0xB0308
def Fld.SAF_INSTSPEED_env : Fld := ⟨Reg.SAF_INSTSPEED, 31, 16⟩
def Fld.SAF_INSTSPEED_speed : Fld := ⟨Reg.SAF_INSTSPEED, 15, 0⟩
/-- SAF_INSTTRIP, 18. -/
def Reg.SAF_INSTTRIP : Nat := 0xB030C
def Fld.SAF_INSTTRIP_time : Fld := ⟨Reg.SAF_INSTTRIP, 31, 0⟩
/-- SAF_CHc, 18. -/
def Reg.SAF_CH (c : Nat) : Nat := 0xB0400 + 0x4 * c
def Fld.SAF_CH_raw (c : Nat) : Fld := ⟨Reg.SAF_CH c, 31, 28⟩
def Fld.SAF_CH_status (c : Nat) : Fld := ⟨Reg.SAF_CH c, 22, 0⟩
/-- SAF_TEST, 18. -/
def Reg.SAF_TEST : Nat := 0xB0500
def Fld.SAF_TEST_key : Fld := ⟨Reg.SAF_TEST, 31, 16⟩
def Fld.SAF_TEST_flip : Fld := ⟨Reg.SAF_TEST, 0, 0⟩
/-- EVR_STAT, 19. -/
def Reg.EVR_STAT : Nat := 0xC0000
def Fld.EVR_STAT_staged : Fld := ⟨Reg.EVR_STAT, 31, 17⟩
def Fld.EVR_STAT_hiwater : Fld := ⟨Reg.EVR_STAT, 4, 4⟩
def Fld.EVR_STAT_full : Fld := ⟨Reg.EVR_STAT, 3, 3⟩
def Fld.EVR_STAT_frozen : Fld := ⟨Reg.EVR_STAT, 2, 2⟩
def Fld.EVR_STAT_timevalid : Fld := ⟨Reg.EVR_STAT, 1, 1⟩
def Fld.EVR_STAT_ready : Fld := ⟨Reg.EVR_STAT, 0, 0⟩
/-- EVR_NEWEST, 19. -/
def Reg.EVR_NEWEST : Nat := 0xC0004
def Fld.EVR_NEWEST_slot : Fld := ⟨Reg.EVR_NEWEST, 15, 0⟩
/-- EVR_SEQ, 19. -/
def Reg.EVR_SEQ : Nat := 0xC0008
def Fld.EVR_SEQ_seq : Fld := ⟨Reg.EVR_SEQ, 31, 0⟩
/-- EVR_RDIDX, 19. -/
def Reg.EVR_RDIDX : Nat := 0xC000C
def Fld.EVR_RDIDX_slot : Fld := ⟨Reg.EVR_RDIDX, 15, 0⟩
/-- EVR_CNT, 19. -/
def Reg.EVR_CNT : Nat := 0xC0010
def Fld.EVR_CNT_lost : Fld := ⟨Reg.EVR_CNT, 31, 16⟩
def Fld.EVR_CNT_overwrite : Fld := ⟨Reg.EVR_CNT, 15, 0⟩
/-- EVR_MERGED, 19. -/
def Reg.EVR_MERGED : Nat := 0xC0014
def Fld.EVR_MERGED_merged : Fld := ⟨Reg.EVR_MERGED, 31, 0⟩
/-- EVR_LINEFIRED, 19. -/
def Reg.EVR_LINEFIRED : Nat := 0xC0018
def Fld.EVR_LINEFIRED_fired : Fld := ⟨Reg.EVR_LINEFIRED, 15, 0⟩
/-- EVR_FREEZE, 19. -/
def Reg.EVR_FREEZE : Nat := 0xC001C
def Fld.EVR_FREEZE_key : Fld := ⟨Reg.EVR_FREEZE, 31, 16⟩
def Fld.EVR_FREEZE_freeze : Fld := ⟨Reg.EVR_FREEZE, 0, 0⟩
/-- EVR_HIWATER, 19. -/
def Reg.EVR_HIWATER : Nat := 0xC0020
def Fld.EVR_HIWATER_mark : Fld := ⟨Reg.EVR_HIWATER, 15, 0⟩
/-- EVR_DEFSEL, 19. -/
def Reg.EVR_DEFSEL : Nat := 0xC0100
def Fld.EVR_DEFSEL_def : Fld := ⟨Reg.EVR_DEFSEL, 7, 0⟩
/-- EVR_DEFCNT, 19. -/
def Reg.EVR_DEFCNT : Nat := 0xC0104
def Fld.EVR_DEFCNT_missed : Fld := ⟨Reg.EVR_DEFCNT, 31, 16⟩
def Fld.EVR_DEFCNT_merged : Fld := ⟨Reg.EVR_DEFCNT, 15, 0⟩
/-- EVR_DEFLAST, 19. -/
def Reg.EVR_DEFLAST : Nat := 0xC0108
def Fld.EVR_DEFLAST_valid : Fld := ⟨Reg.EVR_DEFLAST, 16, 16⟩
def Fld.EVR_DEFLAST_slot : Fld := ⟨Reg.EVR_DEFLAST, 15, 0⟩
/-- ETH_PSTATp, 20. -/
def Reg.ETH_PSTAT (p : Nat) : Nat := 0xF0000 + 0x100 * p
def Fld.ETH_PSTAT_sfp (p : Nat) : Fld := ⟨Reg.ETH_PSTAT p, 4, 4⟩
def Fld.ETH_PSTAT_station (p : Nat) : Fld := ⟨Reg.ETH_PSTAT p, 3, 3⟩
def Fld.ETH_PSTAT_speed (p : Nat) : Fld := ⟨Reg.ETH_PSTAT p, 2, 1⟩
def Fld.ETH_PSTAT_link (p : Nat) : Fld := ⟨Reg.ETH_PSTAT p, 0, 0⟩
/-- ETH_RXp, 20. -/
def Reg.ETH_RX (p : Nat) : Nat := 0xF0004 + 0x100 * p
def Fld.ETH_RX_drops (p : Nat) : Fld := ⟨Reg.ETH_RX p, 31, 16⟩
def Fld.ETH_RX_errors (p : Nat) : Fld := ⟨Reg.ETH_RX p, 15, 0⟩
/-- ETH_FRAMESp, 20. -/
def Reg.ETH_FRAMES (p : Nat) : Nat := 0xF0008 + 0x100 * p
def Fld.ETH_FRAMES_rx (p : Nat) : Fld := ⟨Reg.ETH_FRAMES p, 31, 0⟩
/-- ETH_TXp, 20. -/
def Reg.ETH_TX (p : Nat) : Nat := 0xF000C + 0x100 * p
def Fld.ETH_TX_tx (p : Nat) : Fld := ⟨Reg.ETH_TX p, 31, 0⟩
/-- ETH_MDIOp, 20. -/
def Reg.ETH_MDIO (p : Nat) : Nat := 0xF0010 + 0x100 * p
def Fld.ETH_MDIO_data (p : Nat) : Fld := ⟨Reg.ETH_MDIO p, 31, 16⟩
def Fld.ETH_MDIO_write (p : Nat) : Fld := ⟨Reg.ETH_MDIO p, 5, 5⟩
def Fld.ETH_MDIO_reg (p : Nat) : Fld := ⟨Reg.ETH_MDIO p, 4, 0⟩
/-- ETH_PRP, 20. -/
def Reg.ETH_PRP : Nat := 0xF0800
def Fld.ETH_PRP_dup : Fld := ⟨Reg.ETH_PRP, 31, 16⟩
def Fld.ETH_PRP_wronglan : Fld := ⟨Reg.ETH_PRP, 15, 8⟩
def Fld.ETH_PRP_lanb : Fld := ⟨Reg.ETH_PRP, 1, 1⟩
def Fld.ETH_PRP_lana : Fld := ⟨Reg.ETH_PRP, 0, 0⟩
/-- SER_STATs, 20. -/
def Reg.SER_STAT (s : Nat) : Nat := 0x110000 + 0x100 * s
def Fld.SER_STAT_proto (s : Nat) : Fld := ⟨Reg.SER_STAT s, 4, 2⟩
def Fld.SER_STAT_busy (s : Nat) : Fld := ⟨Reg.SER_STAT s, 1, 1⟩
def Fld.SER_STAT_drv (s : Nat) : Fld := ⟨Reg.SER_STAT s, 0, 0⟩
/-- SER_CNTs, 20. -/
def Reg.SER_CNT (s : Nat) : Nat := 0x110004 + 0x100 * s
def Fld.SER_CNT_check (s : Nat) : Fld := ⟨Reg.SER_CNT s, 31, 16⟩
def Fld.SER_CNT_timeout (s : Nat) : Fld := ⟨Reg.SER_CNT s, 15, 8⟩
def Fld.SER_CNT_framing (s : Nat) : Fld := ⟨Reg.SER_CNT s, 7, 0⟩
/-- SER_RXs, 20. -/
def Reg.SER_RX (s : Nat) : Nat := 0x110008 + 0x100 * s
def Fld.SER_RX_rx (s : Nat) : Fld := ⟨Reg.SER_RX s, 31, 0⟩
/-- SER_TXs, 20. -/
def Reg.SER_TX (s : Nat) : Nat := 0x11000C + 0x100 * s
def Fld.SER_TX_tx (s : Nat) : Fld := ⟨Reg.SER_TX s, 31, 0⟩
/-- CAN_STATp, 21. -/
def Reg.CAN_STAT (p : Nat) : Nat := 0x100000 + 0x4000 * p
def Fld.CAN_STAT_rec (p : Nat) : Fld := ⟨Reg.CAN_STAT p, 31, 24⟩
def Fld.CAN_STAT_tec (p : Nat) : Fld := ⟨Reg.CAN_STAT p, 23, 16⟩
def Fld.CAN_STAT_fd (p : Nat) : Fld := ⟨Reg.CAN_STAT p, 7, 7⟩
def Fld.CAN_STAT_listen (p : Nat) : Fld := ⟨Reg.CAN_STAT p, 6, 6⟩
def Fld.CAN_STAT_state (p : Nat) : Fld := ⟨Reg.CAN_STAT p, 2, 0⟩
/-- CAN_ERRCNTp, 21. -/
def Reg.CAN_ERRCNT (p : Nat) : Nat := 0x100004 + 0x4000 * p
def Fld.CAN_ERRCNT_busoff (p : Nat) : Fld := ⟨Reg.CAN_ERRCNT p, 31, 24⟩
def Fld.CAN_ERRCNT_crc (p : Nat) : Fld := ⟨Reg.CAN_ERRCNT p, 23, 16⟩
def Fld.CAN_ERRCNT_frame (p : Nat) : Fld := ⟨Reg.CAN_ERRCNT p, 15, 8⟩
def Fld.CAN_ERRCNT_ack (p : Nat) : Fld := ⟨Reg.CAN_ERRCNT p, 7, 0⟩
/-- CAN_TXBp, 21. -/
def Reg.CAN_TXB (p : Nat) : Nat := 0x100008 + 0x4000 * p
def Fld.CAN_TXB_ref (p : Nat) : Fld := ⟨Reg.CAN_TXB p, 12, 12⟩
def Fld.CAN_TXB_txb2 (p : Nat) : Fld := ⟨Reg.CAN_TXB p, 11, 8⟩
def Fld.CAN_TXB_txb1 (p : Nat) : Fld := ⟨Reg.CAN_TXB p, 7, 4⟩
def Fld.CAN_TXB_txb0 (p : Nat) : Fld := ⟨Reg.CAN_TXB p, 3, 0⟩
/-- CAN_TXCNTp, 21. -/
def Reg.CAN_TXCNT (p : Nat) : Nat := 0x10000C + 0x4000 * p
def Fld.CAN_TXCNT_tx (p : Nat) : Fld := ⟨Reg.CAN_TXCNT p, 31, 0⟩
/-- CAN_RXCNTp, 21. -/
def Reg.CAN_RXCNT (p : Nat) : Nat := 0x100010 + 0x4000 * p
def Fld.CAN_RXCNT_rx (p : Nat) : Fld := ⟨Reg.CAN_RXCNT p, 31, 0⟩
/-- CAN_DROPp, 21. -/
def Reg.CAN_DROP (p : Nat) : Nat := 0x100014 + 0x4000 * p
def Fld.CAN_DROP_unmatched (p : Nat) : Fld := ⟨Reg.CAN_DROP p, 31, 16⟩
def Fld.CAN_DROP_full (p : Nat) : Fld := ⟨Reg.CAN_DROP p, 15, 0⟩
/-- CAN_TXFAILp, 21. -/
def Reg.CAN_TXFAIL (p : Nat) : Nat := 0x100018 + 0x4000 * p
def Fld.CAN_TXFAIL_lost (p : Nat) : Fld := ⟨Reg.CAN_TXFAIL p, 31, 24⟩
def Fld.CAN_TXFAIL_error (p : Nat) : Fld := ⟨Reg.CAN_TXFAIL p, 23, 16⟩
def Fld.CAN_TXFAIL_timeout (p : Nat) : Fld := ⟨Reg.CAN_TXFAIL p, 15, 8⟩
def Fld.CAN_TXFAIL_busoff (p : Nat) : Fld := ⟨Reg.CAN_TXFAIL p, 7, 0⟩
/-- CAN_ABDp, 21. -/
def Reg.CAN_ABD (p : Nat) : Nat := 0x10001C + 0x4000 * p
def Fld.CAN_ABD_state (p : Nat) : Fld := ⟨Reg.CAN_ABD p, 31, 28⟩
def Fld.CAN_ABD_cand (p : Nat) : Fld := ⟨Reg.CAN_ABD p, 27, 24⟩
def Fld.CAN_ABD_passes (p : Nat) : Fld := ⟨Reg.CAN_ABD p, 23, 16⟩
def Fld.CAN_ABD_dataerr (p : Nat) : Fld := ⟨Reg.CAN_ABD p, 15, 0⟩
/-- CAN_ABDRATEp, 21. -/
def Reg.CAN_ABDRATE (p : Nat) : Nat := 0x100020 + 0x4000 * p
def Fld.CAN_ABDRATE_rate (p : Nat) : Fld := ⟨Reg.CAN_ABDRATE p, 20, 0⟩
/-- CAN_REFp, 21. -/
def Reg.CAN_REF (p : Nat) : Nat := 0x100024 + 0x4000 * p
def Fld.CAN_REF_seq (p : Nat) : Fld := ⟨Reg.CAN_REF p, 31, 24⟩
def Fld.CAN_REF_late (p : Nat) : Fld := ⟨Reg.CAN_REF p, 23, 16⟩
def Fld.CAN_REF_conflict (p : Nat) : Fld := ⟨Reg.CAN_REF p, 15, 8⟩
/-- CAN_REFTIME_HIp, 21. -/
def Reg.CAN_REFTIME_HI (p : Nat) : Nat := 0x100028 + 0x4000 * p
def Fld.CAN_REFTIME_HI_time (p : Nat) : Fld := ⟨Reg.CAN_REFTIME_HI p, 31, 0⟩
/-- CAN_REFTIME_LOp, 21. -/
def Reg.CAN_REFTIME_LO (p : Nat) : Nat := 0x10002C + 0x4000 * p
def Fld.CAN_REFTIME_LO_time (p : Nat) : Fld := ⟨Reg.CAN_REFTIME_LO p, 31, 0⟩
/-- CAN_PEXp, 21. -/
def Reg.CAN_PEX (p : Nat) : Nat := 0x100030 + 0x4000 * p
def Fld.CAN_PEX_pex (p : Nat) : Fld := ⟨Reg.CAN_PEX p, 31, 0⟩
/-- CAN_TDCp, 21. -/
def Reg.CAN_TDC (p : Nat) : Nat := 0x100034 + 0x4000 * p
def Fld.CAN_TDC_delay (p : Nat) : Fld := ⟨Reg.CAN_TDC p, 7, 0⟩
/-- PNL_STAT, 22. -/
def Reg.PNL_STAT : Nat := 0x120000
def Fld.PNL_STAT_frames : Fld := ⟨Reg.PNL_STAT, 31, 16⟩
def Fld.PNL_STAT_dimmed : Fld := ⟨Reg.PNL_STAT, 3, 3⟩
def Fld.PNL_STAT_state : Fld := ⟨Reg.PNL_STAT, 2, 0⟩
/-- PNL_TIMING, 22. -/
def Reg.PNL_TIMING : Nat := 0x120004
def Fld.PNL_TIMING_mux : Fld := ⟨Reg.PNL_TIMING, 13, 8⟩
def Fld.PNL_TIMING_fps : Fld := ⟨Reg.PNL_TIMING, 7, 0⟩
/-- PNL_DRIVE, 22. -/
def Reg.PNL_DRIVE : Nat := 0x120008
def Fld.PNL_DRIVE_on : Fld := ⟨Reg.PNL_DRIVE, 17, 17⟩
def Fld.PNL_DRIVE_pump : Fld := ⟨Reg.PNL_DRIVE, 16, 16⟩
def Fld.PNL_DRIVE_vpp : Fld := ⟨Reg.PNL_DRIVE, 15, 8⟩
def Fld.PNL_DRIVE_iseg : Fld := ⟨Reg.PNL_DRIVE, 7, 0⟩
/-- PNL_GAMMAg, 22. -/
def Reg.PNL_GAMMA (g : Nat) : Nat := 0x120040 + 0x4 * g
def Fld.PNL_GAMMA_width (g : Nat) : Fld := ⟨Reg.PNL_GAMMA g, 10, 0⟩
/-- PNL_PREi, 22. -/
def Reg.PNL_PRE (i : Nat) : Nat := 0x120400 + 0x4 * i
def Fld.PNL_PRE_volt (i : Nat) : Fld := ⟨Reg.PNL_PRE i, 12, 8⟩
def Fld.PNL_PRE_time (i : Nat) : Fld := ⟨Reg.PNL_PRE i, 5, 0⟩
/-- PNL_WEARADDR, 22. -/
def Reg.PNL_WEARADDR : Nat := 0x120800
def Fld.PNL_WEARADDR_pixel : Fld := ⟨Reg.PNL_WEARADDR, 13, 0⟩
/-- PNL_WEARDATA, 22. -/
def Reg.PNL_WEARDATA : Nat := 0x120804
def Fld.PNL_WEARDATA_acc : Fld := ⟨Reg.PNL_WEARDATA, 31, 8⟩
def Fld.PNL_WEARDATA_gain : Fld := ⟨Reg.PNL_WEARDATA, 7, 0⟩
/-- PNL_KEYS, 22. -/
def Reg.PNL_KEYS : Nat := 0x120010
def Fld.PNL_KEYS_taken : Fld := ⟨Reg.PNL_KEYS, 13, 8⟩
def Fld.PNL_KEYS_down : Fld := ⟨Reg.PNL_KEYS, 5, 0⟩
/-- PNL_SLIDER, 22. -/
def Reg.PNL_SLIDER : Nat := 0x120014
def Fld.PNL_SLIDER_touch : Fld := ⟨Reg.PNL_SLIDER, 31, 31⟩
def Fld.PNL_SLIDER_zone : Fld := ⟨Reg.PNL_SLIDER, 19, 16⟩
def Fld.PNL_SLIDER_pos : Fld := ⟨Reg.PNL_SLIDER, 9, 0⟩
/-- PNL_LED, 22. -/
def Reg.PNL_LED : Nat := 0x120018
def Fld.PNL_LED_pwr : Fld := ⟨Reg.PNL_LED, 17, 17⟩
def Fld.PNL_LED_force : Fld := ⟨Reg.PNL_LED, 16, 16⟩
def Fld.PNL_LED_time : Fld := ⟨Reg.PNL_LED, 11, 9⟩
def Fld.PNL_LED_fault : Fld := ⟨Reg.PNL_LED, 8, 6⟩
def Fld.PNL_LED_claim : Fld := ⟨Reg.PNL_LED, 5, 3⟩
def Fld.PNL_LED_mode : Fld := ⟨Reg.PNL_LED, 2, 0⟩
/-- PNL_USB, 22. -/
def Reg.PNL_USB : Nat := 0x12001C
def Fld.PNL_USB_attaches : Fld := ⟨Reg.PNL_USB, 31, 16⟩
def Fld.PNL_USB_configured : Fld := ⟨Reg.PNL_USB, 3, 3⟩
def Fld.PNL_USB_function : Fld := ⟨Reg.PNL_USB, 2, 2⟩
def Fld.PNL_USB_flip : Fld := ⟨Reg.PNL_USB, 1, 1⟩
def Fld.PNL_USB_attached : Fld := ⟨Reg.PNL_USB, 0, 0⟩
/-- PNL_CNT, 22. -/
def Reg.PNL_CNT : Nat := 0x120020
def Fld.PNL_CNT_clip : Fld := ⟨Reg.PNL_CNT, 31, 16⟩
def Fld.PNL_CNT_ignored : Fld := ⟨Reg.PNL_CNT, 15, 8⟩
def Fld.PNL_CNT_wet : Fld := ⟨Reg.PNL_CNT, 7, 0⟩
/-- BST_STAT, 23. -/
def Reg.BST_STAT : Nat := 0x130000
def Fld.BST_STAT_report : Fld := ⟨Reg.BST_STAT, 31, 16⟩
def Fld.BST_STAT_item : Fld := ⟨Reg.BST_STAT, 15, 12⟩
def Fld.BST_STAT_target : Fld := ⟨Reg.BST_STAT, 11, 8⟩
def Fld.BST_STAT_state : Fld := ⟨Reg.BST_STAT, 2, 0⟩
/-- BST_SECRETS, 23. -/
def Reg.BST_SECRETS : Nat := 0x130004
def Fld.BST_SECRETS_scan : Fld := ⟨Reg.BST_SECRETS, 1, 1⟩
def Fld.BST_SECRETS_cleared : Fld := ⟨Reg.BST_SECRETS, 0, 0⟩
/-- BST_COND, 23. -/
def Reg.BST_COND : Nat := 0x130008
def Fld.BST_COND_clock : Fld := ⟨Reg.BST_COND, 31, 16⟩
def Fld.BST_COND_supply : Fld := ⟨Reg.BST_COND, 15, 0⟩
/-- BST_PAIRp, 23. -/
def Reg.BST_PAIR (p : Nat) : Nat := 0x130100 + 0x10 * p
def Fld.BST_PAIR_result (p : Nat) : Fld := ⟨Reg.BST_PAIR p, 31, 28⟩
/-- BST_SIGp, 23. -/
def Reg.BST_SIG (p : Nat) : Nat := 0x130104 + 0x10 * p
def Fld.BST_SIG_sig (p : Nat) : Fld := ⟨Reg.BST_SIG p, 31, 0⟩
/-- BST_BANKb, 23. -/
def Reg.BST_BANK (b : Nat) : Nat := 0x130200 + 0x4 * b
def Fld.BST_BANK_result (b : Nat) : Fld := ⟨Reg.BST_BANK b, 31, 28⟩
def Fld.BST_BANK_word (b : Nat) : Fld := ⟨Reg.BST_BANK b, 16, 0⟩
/-- BST_PINk, 23. -/
def Reg.BST_PIN (k : Nat) : Nat := 0x130300 + 0x4 * k
def Fld.BST_PIN_result (k : Nat) : Fld := ⟨Reg.BST_PIN k, 31, 28⟩
def Fld.BST_PIN_fails (k : Nat) : Fld := ⟨Reg.BST_PIN k, 23, 8⟩
def Fld.BST_PIN_first (k : Nat) : Fld := ⟨Reg.BST_PIN k, 7, 0⟩
/-- BST_MARKS, 23. -/
def Reg.BST_MARKS : Nat := 0x130400
def Fld.BST_MARKS_pins : Fld := ⟨Reg.BST_MARKS, 23, 20⟩
def Fld.BST_MARKS_banks : Fld := ⟨Reg.BST_MARKS, 19, 4⟩
def Fld.BST_MARKS_pairs : Fld := ⟨Reg.BST_MARKS, 3, 0⟩
/-- AGE_OP, 23. -/
def Reg.AGE_OP : Nat := 0x140000
def Fld.AGE_OP_pending : Fld := ⟨Reg.AGE_OP, 16, 16⟩
def Fld.AGE_OP_partner : Fld := ⟨Reg.AGE_OP, 13, 12⟩
def Fld.AGE_OP_thermal : Fld := ⟨Reg.AGE_OP, 9, 8⟩
def Fld.AGE_OP_ageing : Fld := ⟨Reg.AGE_OP, 5, 4⟩
def Fld.AGE_OP_station : Fld := ⟨Reg.AGE_OP, 1, 0⟩
/-- AGE_OPSET, 23. -/
def Reg.AGE_OPSET : Nat := 0x140004
def Fld.AGE_OPSET_key : Fld := ⟨Reg.AGE_OPSET, 31, 16⟩
def Fld.AGE_OPSET_op : Fld := ⟨Reg.AGE_OPSET, 1, 0⟩
/-- AGE_WORST, 23. -/
def Reg.AGE_WORST : Nat := 0x140080
def Fld.AGE_WORST_mon : Fld := ⟨Reg.AGE_WORST, 20, 16⟩
def Fld.AGE_WORST_ps : Fld := ⟨Reg.AGE_WORST, 15, 0⟩
/-- AGE_TEMP, 23. -/
def Reg.AGE_TEMP : Nat := 0x140084
def Fld.AGE_TEMP_peak : Fld := ⟨Reg.AGE_TEMP, 31, 16⟩
def Fld.AGE_TEMP_now : Fld := ⟨Reg.AGE_TEMP, 15, 0⟩
/-- AGE_ESR, 23. -/
def Reg.AGE_ESR : Nat := 0x140088
def Fld.AGE_ESR_base : Fld := ⟨Reg.AGE_ESR, 31, 16⟩
def Fld.AGE_ESR_esr : Fld := ⟨Reg.AGE_ESR, 15, 0⟩
/-- AGE_SCAP, 23. -/
def Reg.AGE_SCAP : Nat := 0x14008C
def Fld.AGE_SCAP_base : Fld := ⟨Reg.AGE_SCAP, 31, 16⟩
def Fld.AGE_SCAP_holdup : Fld := ⟨Reg.AGE_SCAP, 15, 0⟩
/-- AGE_MOVES, 23. -/
def Reg.AGE_MOVES : Nat := 0x140090
def Fld.AGE_MOVES_ageing : Fld := ⟨Reg.AGE_MOVES, 31, 24⟩
def Fld.AGE_MOVES_skipped : Fld := ⟨Reg.AGE_MOVES, 23, 16⟩
def Fld.AGE_MOVES_thermal : Fld := ⟨Reg.AGE_MOVES, 15, 0⟩
/-- AGE_DELAYm, 23. -/
def Reg.AGE_DELAY (m : Nat) : Nat := 0x140100 + 0x4 * m
def Fld.AGE_DELAY_ps (m : Nat) : Fld := ⟨Reg.AGE_DELAY m, 15, 0⟩
/-- PFC_STAT, 24. -/
def Reg.PFC_STAT : Nat := 0x150000
def Fld.PFC_STAT_enabled : Fld := ⟨Reg.PFC_STAT, 8, 0⟩
/-- PFC_CLIPk, 24. -/
def Reg.PFC_CLIP (k : Nat) : Nat := 0x150010 + 0x4 * k
def Fld.PFC_CLIP_clip (k : Nat) : Fld := ⟨Reg.PFC_CLIP k, 31, 0⟩
/-- PFC_EVc, 24. -/
def Reg.PFC_EV (c : Nat) : Nat := 0x150400 + 0x8 * c
def Fld.PFC_EV_ev (c : Nat) : Fld := ⟨Reg.PFC_EV c, 31, 0⟩
/-- PFC_FILTc, 24. -/
def Reg.PFC_FILT (c : Nat) : Nat := 0x150404 + 0x8 * c
def Fld.PFC_FILT_on (c : Nat) : Fld := ⟨Reg.PFC_FILT c, 8, 8⟩
def Fld.PFC_FILT_part (c : Nat) : Fld := ⟨Reg.PFC_FILT c, 5, 0⟩
/-- PFC_CNTc_HI, 24. -/
def Reg.PFC_CNT_HI (c : Nat) : Nat := 0x151000 + 0x10 * c
def Fld.PFC_CNT_HI_count (c : Nat) : Fld := ⟨Reg.PFC_CNT_HI c, 31, 0⟩
/-- PFC_CNTc_LO, 24. -/
def Reg.PFC_CNT_LO (c : Nat) : Nat := 0x151004 + 0x10 * c
def Fld.PFC_CNT_LO_count (c : Nat) : Fld := ⟨Reg.PFC_CNT_LO c, 31, 0⟩
/-- PFC_SNAPc_HI, 24. -/
def Reg.PFC_SNAP_HI (c : Nat) : Nat := 0x151008 + 0x10 * c
def Fld.PFC_SNAP_HI_count (c : Nat) : Fld := ⟨Reg.PFC_SNAP_HI c, 31, 0⟩
/-- PFC_SNAPc_LO, 24. -/
def Reg.PFC_SNAP_LO (c : Nat) : Nat := 0x15100C + 0x10 * c
def Fld.PFC_SNAP_LO_count (c : Nat) : Fld := ⟨Reg.PFC_SNAP_LO c, 31, 0⟩
/-- PFC_SHDc_HI, 24. -/
def Reg.PFC_SHD_HI (c : Nat) : Nat := 0x152000 + 0x8 * c
def Fld.PFC_SHD_HI_count (c : Nat) : Fld := ⟨Reg.PFC_SHD_HI c, 31, 0⟩
/-- PFC_SHDc_LO, 24. -/
def Reg.PFC_SHD_LO (c : Nat) : Nat := 0x152004 + 0x8 * c
def Fld.PFC_SHD_LO_count (c : Nat) : Fld := ⟨Reg.PFC_SHD_LO c, 31, 0⟩
/-- PFC_GTIMEg_HI, 24. -/
def Reg.PFC_GTIME_HI (g : Nat) : Nat := 0x152800 + 0x10 * g
def Fld.PFC_GTIME_HI_time (g : Nat) : Fld := ⟨Reg.PFC_GTIME_HI g, 31, 0⟩
/-- PFC_GTIMEg_LO, 24. -/
def Reg.PFC_GTIME_LO (g : Nat) : Nat := 0x152804 + 0x10 * g
def Fld.PFC_GTIME_LO_time (g : Nat) : Fld := ⟨Reg.PFC_GTIME_LO g, 31, 0⟩
/-- PFC_GSEQg, 24. -/
def Reg.PFC_GSEQ (g : Nat) : Nat := 0x152808 + 0x10 * g
def Fld.PFC_GSEQ_holdover (g : Nat) : Fld := ⟨Reg.PFC_GSEQ g, 25, 25⟩
def Fld.PFC_GSEQ_valid (g : Nat) : Fld := ⟨Reg.PFC_GSEQ g, 24, 24⟩
def Fld.PFC_GSEQ_missed (g : Nat) : Fld := ⟨Reg.PFC_GSEQ g, 23, 16⟩
def Fld.PFC_GSEQ_count (g : Nat) : Fld := ⟨Reg.PFC_GSEQ g, 15, 0⟩

end Sys2Proof.Machine
end

