-- ==== Sys2Proof/Machine/RegMap.lean ====
section
/-! DEFINITION. The register map: every register of the register tables with its place, its indices, and the access
code, Applies-at code and legal range of each field that is not read only or reserved (R10, R11, R62).
The numeric reset values stand at the end (R61). -/

namespace Sys2Proof.Machine

/-- How a field is accessed (R10). Read-only and reserved fields are not listed. -/
inductive Acc where
  | rw | rc | wo | wm
  deriving DecidableEq, Repr

/-- When a written field takes effect (R11); only the codes the tables use. -/
inductive App where
  | imm | cyc | frm | rst
  deriving DecidableEq, Repr

/-- One field of a register: its bits, its access code, its Applies-at code and its legal range. -/
structure RegField where
  hi : Nat
  lo : Nat
  acc : Acc
  app : App
  range : Option (Nat × Nat)
  deriving DecidableEq, Repr

/-- One register of the tables. `strides` are (stride, first index, last index), widest first. -/
structure RegInfo where
  name : String
  base : Nat
  strides : List (Nat × Nat × Nat)
  fields : List RegField
  deriving DecidableEq, Repr

def regRows.common : List RegInfo := [
  ⟨"xx_SHPEND", 0xFFF0, [(0x10000, 0, 21)], []⟩,
  ⟨"xx_ACCERR", 0xFFF4, [(0x10000, 0, 21)], [⟨3, 3, .rc, .imm, none⟩, ⟨2, 2, .rc, .imm, none⟩, ⟨1, 1, .rc, .imm, none⟩, ⟨0, 0, .rc, .imm, none⟩]⟩,
  ⟨"xx_ACCINFO", 0xFFF8, [(0x10000, 0, 21)], []⟩,
  ⟨"xx_BLKID", 0xFFFC, [(0x10000, 0, 21)], []⟩]

def regRows.sys : List RegInfo := [
  ⟨"SYS_EVM_SINKn", 0x1000, [(0x4, 0, 127)], [⟨23, 16, .rw, .cyc, none⟩, ⟨8, 8, .rw, .cyc, none⟩, ⟨7, 0, .rw, .cyc, none⟩]⟩,
  ⟨"SYS_EVM_FIREDk", 0x1400, [(0x4, 0, 7)], [⟨31, 0, .rc, .imm, none⟩]⟩,
  ⟨"SYS_EVM_SINKHITk", 0x1420, [(0x4, 0, 3)], [⟨31, 0, .rc, .imm, none⟩]⟩,
  ⟨"SYS_ID", 0x0, [], []⟩,
  ⟨"SYS_MODE", 0x4, [], []⟩,
  ⟨"SYS_STAT", 0x8, [], []⟩,
  ⟨"SYS_RSTCAUSE", 0xC, [], []⟩,
  ⟨"SYS_BOOT", 0x10, [], []⟩,
  ⟨"SYS_CFG", 0x14, [], [⟨3, 0, .rw, .rst, none⟩]⟩,
  ⟨"SYS_TCYC", 0x18, [], [⟨11, 0, .rw, .cyc, some (3, 3999)⟩]⟩,
  ⟨"SYS_SLOT", 0x1C, [], []⟩,
  ⟨"SYS_RST", 0x20, [], [⟨31, 16, .wo, .imm, none⟩, ⟨0, 0, .wo, .imm, none⟩]⟩,
  ⟨"SYS_MODE_SET", 0x24, [], [⟨31, 16, .wo, .imm, none⟩, ⟨2, 0, .wo, .cyc, none⟩]⟩,
  ⟨"SYS_TEMP", 0x28, [], [⟨31, 16, .rc, .imm, none⟩]⟩]

def regRows.prt : List RegInfo := [
  ⟨"PRT_LOCK", 0x10000, [], [⟨0, 0, .rw, .imm, none⟩]⟩,
  ⟨"PRT_PLANSTAT", 0x10004, [], []⟩,
  ⟨"PRT_LANES", 0x10008, [], []⟩,
  ⟨"PRT_PFSTAT", 0x10010, [], [⟨31, 16, .rc, .imm, none⟩, ⟨0, 0, .rc, .imm, none⟩]⟩,
  ⟨"PRT_PFINFO", 0x10014, [], []⟩,
  ⟨"PRT_PFADDR_HI", 0x10018, [], []⟩,
  ⟨"PRT_PFADDR_LO", 0x1001C, [], []⟩,
  ⟨"PRT_WINp_w_BASE", 0x11000, [(0x80, 0, 63), (0x8, 0, 15)], [⟨31, 31, .rw, .imm, none⟩, ⟨30, 30, .rw, .imm, none⟩, ⟨29, 29, .rw, .imm, none⟩, ⟨28, 28, .rw, .imm, none⟩, ⟨27, 0, .rw, .imm, none⟩]⟩,
  ⟨"PRT_WINp_w_SIZE", 0x11004, [(0x80, 0, 63), (0x8, 0, 15)], [⟨27, 0, .rw, .imm, none⟩]⟩,
  ⟨"PRT_CEIL_TIMEp", 0x13000, [(0x20, 0, 63)], [⟨17, 0, .rw, .imm, some (0, 160000)⟩]⟩,
  ⟨"PRT_CEIL_DRAMp", 0x13004, [(0x20, 0, 63)], [⟨11, 0, .rw, .imm, some (0, 2500)⟩]⟩,
  ⟨"PRT_CEIL_Q0p", 0x13008, [(0x20, 0, 63)], [⟨30, 16, .rw, .imm, some (0, 16384)⟩, ⟨13, 0, .rw, .imm, some (0, 8192)⟩]⟩,
  ⟨"PRT_CEIL_Q1p", 0x1300C, [(0x20, 0, 63)], [⟨28, 16, .rw, .imm, some (0, 4096)⟩, ⟨15, 0, .rw, .imm, some (0, 32768)⟩]⟩,
  ⟨"PRT_PFCRIGHTp", 0x13010, [(0x20, 0, 63)], [⟨31, 0, .rw, .imm, none⟩]⟩,
  ⟨"PRT_USE_DRAMp", 0x14000, [(0x20, 0, 63)], [⟨31, 16, .rc, .imm, none⟩]⟩,
  ⟨"PRT_USE_Q0p", 0x14004, [(0x20, 0, 63)], []⟩,
  ⟨"PRT_USE_Q1p", 0x14008, [(0x20, 0, 63)], []⟩,
  ⟨"PRT_REFUSEp", 0x1400C, [(0x20, 0, 63)], [⟨31, 16, .rc, .imm, none⟩, ⟨15, 0, .rc, .imm, none⟩]⟩,
  ⟨"PRT_RUNl", 0x15000, [(0x10, 0, 7)], []⟩,
  ⟨"PRT_RUNUSEDl", 0x15004, [(0x10, 0, 7)], []⟩,
  ⟨"PRT_TSTATt", 0x18000, [(0x10, 0, 511)], []⟩,
  ⟨"PRT_TBUDt", 0x18004, [(0x10, 0, 511)], []⟩,
  ⟨"PRT_TOVRt", 0x18008, [(0x10, 0, 511)], []⟩,
  ⟨"PRT_TACTt", 0x1800C, [(0x10, 0, 511)], []⟩]

def regRows.mbx : List RegInfo := [
  ⟨"MBX_REQ_HEADm", 0x20000, [(0x20, 0, 71)], [⟨15, 0, .rw, .imm, none⟩]⟩,
  ⟨"MBX_REQ_TAILm", 0x20004, [(0x20, 0, 71)], []⟩,
  ⟨"MBX_RSP_HEADm", 0x20008, [(0x20, 0, 71)], []⟩,
  ⟨"MBX_RSP_TAILm", 0x2000C, [(0x20, 0, 71)], [⟨15, 0, .rw, .imm, none⟩]⟩,
  ⟨"MBX_STATm", 0x20010, [(0x20, 0, 71)], [⟨31, 16, .rc, .imm, none⟩]⟩,
  ⟨"MBX_NTFMASKm", 0x20014, [(0x20, 0, 71)], []⟩,
  ⟨"MBX_OWNERm", 0x20018, [(0x20, 0, 71)], []⟩,
  ⟨"MBX_DOORBELLk", 0x21000, [(0x4, 0, 2)], [⟨31, 0, .rc, .imm, none⟩]⟩,
  ⟨"MBX_RING_BASE_HI", 0x21010, [], []⟩,
  ⟨"MBX_RING_BASE_LO", 0x21014, [], []⟩]

def regRows.qe : List RegInfo := [
  ⟨"QE_FREE0", 0x30000, [], []⟩,
  ⟨"QE_FREE1", 0x30004, [], []⟩,
  ⟨"QE_EMPTYCNT", 0x30008, [], [⟨31, 16, .rc, .imm, none⟩, ⟨15, 0, .rc, .imm, none⟩]⟩,
  ⟨"QE_ALLOCREQ", 0x30010, [], [⟨21, 16, .wo, .imm, none⟩, ⟨1, 0, .wo, .imm, some (0, 2)⟩]⟩,
  ⟨"QE_ALLOCRES", 0x30014, [], []⟩,
  ⟨"QE_FREEBUF", 0x30018, [], [⟨15, 0, .wo, .imm, none⟩]⟩,
  ⟨"QE_ENQ", 0x3001C, [], [⟨13, 0, .wo, .imm, none⟩]⟩,
  ⟨"QE_DEQREQ", 0x30020, [], [⟨12, 0, .wo, .imm, none⟩]⟩,
  ⟨"QE_DEQRES", 0x30024, [], []⟩,
  ⟨"QE_WATCHw", 0x30100, [(0x4, 0, 31)], [⟨15, 15, .rw, .cyc, none⟩, ⟨12, 0, .rw, .cyc, none⟩]⟩,
  ⟨"QE_WATCHFIRED", 0x30180, [], [⟨31, 0, .rc, .imm, none⟩]⟩,
  ⟨"QE_GRPSTAT", 0x30200, [], [⟨24, 16, .rc, .imm, none⟩]⟩,
  ⟨"QE_GRPOUT", 0x30204, [], [⟨31, 16, .rc, .imm, none⟩, ⟨15, 0, .rc, .imm, none⟩]⟩,
  ⟨"QE_QSEL", 0x3F000, [], [⟨12, 0, .rw, .imm, none⟩]⟩,
  ⟨"QE_QINFO", 0x3F004, [], []⟩,
  ⟨"QE_Pk_ID", 0x30000, [(0x1000, 1, 14)], []⟩,
  ⟨"QE_Pk_USE0", 0x30004, [(0x1000, 1, 14)], []⟩,
  ⟨"QE_Pk_USE1", 0x30008, [(0x1000, 1, 14)], []⟩,
  ⟨"QE_Pk_REFUSE", 0x3000C, [(0x1000, 1, 14)], [⟨31, 16, .rc, .imm, none⟩, ⟨15, 0, .rc, .imm, none⟩]⟩,
  ⟨"QE_Pk_DEPTHi", 0x30100, [(0x1000, 1, 14), (0x4, 0, 959)], []⟩]

def regRows.ce : List RegInfo := [
  ⟨"CE_STAT", 0x40000, [], []⟩,
  ⟨"CE_SKIPCNT", 0x40004, [], [⟨31, 0, .rc, .imm, none⟩]⟩,
  ⟨"CE_SATCNT", 0x40008, [], [⟨31, 16, .rc, .imm, none⟩, ⟨15, 0, .rc, .imm, none⟩]⟩,
  ⟨"CE_DLYMAX", 0x4000C, [], [⟨31, 16, .rc, .imm, none⟩]⟩,
  ⟨"CE_DONEFIRED", 0x40010, [], [⟨15, 0, .rc, .imm, none⟩]⟩,
  ⟨"CE_LOAD", 0x40014, [], [⟨31, 16, .rc, .imm, none⟩]⟩,
  ⟨"CE_SLOTSEL", 0x40100, [], [⟨9, 0, .rw, .imm, some (0, 1023)⟩]⟩,
  ⟨"CE_SLOTSTAT", 0x40104, [], []⟩,
  ⟨"CE_SLOTOUT", 0x40108, [], []⟩,
  ⟨"CE_SLOTERR", 0x4010C, [], []⟩,
  ⟨"CE_SLOTDLY", 0x40110, [], [⟨31, 16, .rc, .imm, none⟩]⟩,
  ⟨"CE_SLOTRUNS", 0x40114, [], []⟩,
  ⟨"CE_SLOTSKIP", 0x40118, [], []⟩,
  ⟨"CE_JOBb", 0x40200, [(0x10, 0, 3)], []⟩,
  ⟨"CE_JOBRECb", 0x40204, [(0x10, 0, 3)], []⟩,
  ⟨"CE_JOBNUMb", 0x40208, [(0x10, 0, 3)], []⟩,
  ⟨"CE_INJb", 0x4020C, [(0x10, 0, 3)], []⟩]

def regRows.pg : List RegInfo := [
  ⟨"PG_ENABLED0", 0x50000, [], []⟩,
  ⟨"PG_ENABLED1", 0x50004, [], []⟩,
  ⟨"PG_MOVING0", 0x50008, [], []⟩,
  ⟨"PG_MOVING1", 0x5000C, [], []⟩,
  ⟨"PG_CMDERR", 0x50010, [], [⟨31, 16, .rc, .imm, none⟩, ⟨15, 0, .rc, .imm, none⟩]⟩,
  ⟨"PG_GENSEL", 0x50100, [], [⟨5, 0, .rw, .imm, some (0, 63)⟩]⟩,
  ⟨"PG_GSTAT", 0x50104, [], []⟩,
  ⟨"PG_POS_HI", 0x50108, [], []⟩,
  ⟨"PG_POS_LO", 0x5010C, [], []⟩,
  ⟨"PG_VEL_HI", 0x50110, [], []⟩,
  ⟨"PG_VEL_LO", 0x50114, [], []⟩,
  ⟨"PG_ACC_HI", 0x50118, [], []⟩,
  ⟨"PG_ACC_LO", 0x5011C, [], []⟩,
  ⟨"PG_TGT_HI", 0x50120, [], []⟩,
  ⟨"PG_TGT_LO", 0x50124, [], []⟩,
  ⟨"PG_OVSHOOT_HI", 0x50128, [], []⟩,
  ⟨"PG_OVSHOOT_LO", 0x5012C, [], []⟩,
  ⟨"PG_REVPOS_HI", 0x50130, [], []⟩,
  ⟨"PG_REVPOS_LO", 0x50134, [], []⟩,
  ⟨"PG_HOMESTAT", 0x50138, [], []⟩,
  ⟨"PG_LATCH_HI", 0x5013C, [], []⟩,
  ⟨"PG_LATCH_LO", 0x50140, [], []⟩,
  ⟨"PG_CHATTER", 0x50144, [], [⟨31, 16, .rc, .imm, none⟩, ⟨15, 0, .rc, .imm, none⟩]⟩]

def regRows.ad : List RegInfo := [
  ⟨"AD_SUMMARY0", 0x60000, [], []⟩,
  ⟨"AD_SUMMARY1", 0x60004, [], [⟨31, 16, .rc, .imm, none⟩, ⟨15, 0, .rc, .imm, none⟩]⟩,
  ⟨"AD_SUMMARY2", 0x60008, [], [⟨31, 16, .rc, .imm, none⟩, ⟨15, 0, .rc, .imm, none⟩]⟩,
  ⟨"AD_LINEFIRED0", 0x60010, [], [⟨31, 0, .rc, .imm, none⟩]⟩,
  ⟨"AD_LINEFIRED1", 0x60014, [], [⟨31, 0, .rc, .imm, none⟩]⟩,
  ⟨"AD_DSTATd", 0x60100, [(0x40, 0, 7)], []⟩,
  ⟨"AD_ANGLEd", 0x60104, [(0x40, 0, 7)], []⟩,
  ⟨"AD_SPEEDd", 0x60108, [(0x40, 0, 7)], []⟩,
  ⟨"AD_REVd", 0x6010C, [(0x40, 0, 7)], []⟩,
  ⟨"AD_REVTIMEd", 0x60110, [(0x40, 0, 7)], []⟩,
  ⟨"AD_EDGESd", 0x60114, [(0x40, 0, 7)], [⟨31, 16, .rc, .imm, none⟩, ⟨15, 0, .rc, .imm, none⟩]⟩,
  ⟨"AD_TRACKd", 0x60118, [(0x40, 0, 7)], [⟨31, 16, .rc, .imm, none⟩, ⟨15, 8, .rc, .imm, none⟩, ⟨7, 0, .rc, .imm, none⟩]⟩,
  ⟨"AD_CORRd", 0x6011C, [(0x40, 0, 7)], [⟨31, 0, .rc, .imm, none⟩]⟩,
  ⟨"AD_EDGETIME_HId", 0x60120, [(0x40, 0, 7)], []⟩,
  ⟨"AD_EDGETIME_LOd", 0x60124, [(0x40, 0, 7)], []⟩,
  ⟨"AD_ACTSEL", 0x60800, [], [⟨11, 0, .rw, .imm, some (0, 4095)⟩]⟩,
  ⟨"AD_ACTSTAT", 0x60804, [], []⟩,
  ⟨"AD_ACTANGLE", 0x60808, [], []⟩,
  ⟨"AD_ACTCOMP", 0x6080C, [], []⟩,
  ⟨"AD_ACTFIRES", 0x60810, [], []⟩,
  ⟨"AD_ACTLAST", 0x60814, [], []⟩]

def regRows.ph : List RegInfo := [
  ⟨"PH_STAT", 0x70000, [], []⟩,
  ⟨"PH_OVR", 0x70004, [], [⟨4, 0, .rc, .imm, none⟩]⟩,
  ⟨"PH_CYCLES", 0x70008, [], []⟩,
  ⟨"PH_SEL", 0x70100, [], [⟨2, 0, .rw, .imm, some (0, 4)⟩]⟩,
  ⟨"PH_RMSk", 0x70104, [(0x4, 0, 2)], []⟩,
  ⟨"PH_FREQ", 0x70110, [], []⟩,
  ⟨"PH_PHASE", 0x70114, [], []⟩,
  ⟨"PH_P", 0x70118, [], []⟩,
  ⟨"PH_Q", 0x7011C, [], []⟩,
  ⟨"PH_RTIME_HI", 0x70120, [], []⟩,
  ⟨"PH_RTIME_LO", 0x70124, [], []⟩,
  ⟨"PH_SYNCSTATc", 0x70200, [(0x20, 0, 1)], []⟩,
  ⟨"PH_SLIPc", 0x70204, [(0x20, 0, 1)], []⟩,
  ⟨"PH_DVc", 0x70208, [(0x20, 0, 1)], []⟩,
  ⟨"PH_TCLc", 0x7020C, [(0x20, 0, 1)], []⟩,
  ⟨"PH_TCLLASTc", 0x70210, [(0x20, 0, 1)], []⟩,
  ⟨"PH_CLERRc", 0x70214, [(0x20, 0, 1)], []⟩,
  ⟨"PH_SYNCCNTc", 0x70218, [(0x20, 0, 1)], [⟨31, 16, .rc, .imm, none⟩, ⟨15, 8, .rc, .imm, none⟩, ⟨7, 0, .rc, .imm, none⟩]⟩,
  ⟨"PH_GSPARE", 0x70300, [], []⟩,
  ⟨"PH_GCAP", 0x70304, [], []⟩,
  ⟨"PH_GSTEP", 0x70308, [], []⟩,
  ⟨"PH_GCNT", 0x7030C, [], [⟨31, 16, .rc, .imm, none⟩, ⟨15, 8, .rc, .imm, none⟩, ⟨7, 0, .rc, .imm, none⟩]⟩]

def regRows.tu : List RegInfo := [
  ⟨"TU_TIME_HI", 0x80000, [], []⟩,
  ⟨"TU_TIME_LO", 0x80004, [], []⟩,
  ⟨"TU_STAT", 0x80008, [], []⟩,
  ⟨"TU_OFFSET", 0x8000C, [], []⟩,
  ⟨"TU_RATE", 0x80010, [], []⟩,
  ⟨"TU_REFUSED", 0x80014, [], []⟩,
  ⟨"TU_HOLD", 0x80018, [], []⟩,
  ⟨"TU_CNT", 0x8001C, [], [⟨31, 16, .rc, .imm, none⟩, ⟨15, 8, .rc, .imm, none⟩, ⟨7, 0, .rc, .imm, none⟩]⟩,
  ⟨"TU_UTCOFF", 0x80020, [], []⟩,
  ⟨"TU_PPSIN_HI", 0x80030, [], []⟩,
  ⟨"TU_PPSIN_LO", 0x80034, [], []⟩,
  ⟨"TU_PPSERR", 0x80038, [], []⟩,
  ⟨"TU_PORTCORRp", 0x80100, [(0x8, 0, 5)], []⟩,
  ⟨"TU_PORTSTATp", 0x80104, [(0x8, 0, 5)], []⟩,
  ⟨"TU_CMPTn", 0x80200, [(0x8, 0, 31)], []⟩,
  ⟨"TU_CMPCTLn", 0x80204, [(0x8, 0, 31)], []⟩,
  ⟨"TU_CMPFIRED", 0x80300, [], [⟨31, 0, .rc, .imm, none⟩]⟩]

def regRows.fio0 : List RegInfo := [
  ⟨"FIO_LINK", 0x90000, [], []⟩,
  ⟨"FIO_KICK", 0x90004, [], [⟨31, 16, .wo, .imm, none⟩]⟩,
  ⟨"FIO_FSUP", 0x90010, [], [⟨31, 16, .rc, .imm, none⟩]⟩,
  ⟨"FIO_FSUPVs", 0x90020, [(0x4, 0, 7)], []⟩,
  ⟨"FIO_LINKCNTu", 0x90040, [(0x4, 0, 8)], [⟨31, 16, .rc, .imm, none⟩, ⟨15, 0, .rc, .imm, none⟩]⟩,
  ⟨"FIO_LOWCLAIMu", 0x90080, [(0x4, 0, 8)], []⟩,
  ⟨"FIO_DIu_STATE", 0x91000, [(0x1000, 0, 1)], []⟩,
  ⟨"FIO_DIu_EDGES", 0x91004, [(0x1000, 0, 1)], [⟨15, 0, .rc, .imm, none⟩]⟩,
  ⟨"FIO_DIu_TS_HIc", 0x91200, [(0x1000, 0, 1), (0x8, 0, 15)], []⟩,
  ⟨"FIO_DIu_TS_LOc", 0x91204, [(0x1000, 0, 1), (0x8, 0, 15)], []⟩,
  ⟨"FIO_DOu_STATE", 0x91000, [(0x1000, 2, 3)], []⟩,
  ⟨"FIO_DOu_FAULT", 0x91004, [(0x1000, 2, 3)], []⟩,
  ⟨"FIO_DOu_GUST", 0x91008, [(0x1000, 2, 3)], [⟨31, 16, .rc, .imm, none⟩]⟩,
  ⟨"FIO_DOu_CURc", 0x91100, [(0x1000, 2, 3), (0x4, 0, 7)], [⟨31, 16, .rc, .imm, none⟩]⟩,
  ⟨"FIO_HBc_STAT", 0x97000, [(0x10, 0, 3)], []⟩,
  ⟨"FIO_HBc_CUR", 0x97004, [(0x10, 0, 3)], []⟩,
  ⟨"FIO_HBc_SET", 0x97008, [(0x10, 0, 3)], []⟩,
  ⟨"FIO_HBc_CNT", 0x9700C, [(0x10, 0, 3)], [⟨31, 16, .rc, .imm, none⟩, ⟨15, 0, .rc, .imm, none⟩]⟩,
  ⟨"FIO_ENCe_POS_HI", 0x97100, [(0x20, 0, 1)], []⟩,
  ⟨"FIO_ENCe_POS_LO", 0x97104, [(0x20, 0, 1)], []⟩,
  ⟨"FIO_ENCe_STAT", 0x97108, [(0x20, 0, 1)], [⟨31, 16, .rc, .imm, none⟩]⟩,
  ⟨"FIO_PKp_FREQ", 0x97180, [(0x10, 0, 1)], []⟩,
  ⟨"FIO_PKp_STAT", 0x97184, [(0x10, 0, 1)], [⟨31, 16, .rc, .imm, none⟩]⟩,
  ⟨"FIO_PKp_COIL", 0x97188, [(0x10, 0, 1)], []⟩,
  ⟨"FIO_AI_CONVk", 0x95000, [(0x4, 0, 1)], [⟨31, 16, .rc, .imm, none⟩]⟩,
  ⟨"FIO_AI_STATE", 0x95008, [], []⟩,
  ⟨"FIO_AI_CURc", 0x95100, [(0x4, 0, 7)], []⟩,
  ⟨"FIO_AI_STATc", 0x95120, [(0x4, 0, 7)], []⟩,
  ⟨"FIO_AI_TXc", 0x95140, [(0x4, 0, 7)], []⟩,
  ⟨"FIO_AI_TS_HIc", 0x95200, [(0x8, 0, 7)], []⟩]

def regRows.fio1 : List RegInfo := [
  ⟨"FIO_AI_TS_LOc", 0x95204, [(0x8, 0, 7)], []⟩,
  ⟨"FIO_AO_STATE", 0x96000, [], []⟩,
  ⟨"FIO_AO_CNT", 0x96004, [], [⟨31, 16, .rc, .imm, none⟩, ⟨15, 0, .rc, .imm, none⟩]⟩,
  ⟨"FIO_AO_SETc", 0x96100, [(0x4, 0, 7)], []⟩,
  ⟨"FIO_AO_RBc", 0x96120, [(0x4, 0, 7)], []⟩,
  ⟨"FIO_AO_STATc", 0x96140, [(0x4, 0, 7)], []⟩,
  ⟨"FIO_AO_COMPc", 0x96160, [(0x4, 0, 7)], []⟩]

/-- The registers of block FIO. -/
def regRows.fio : List RegInfo := regRows.fio0 ++ regRows.fio1

def regRows.rio : List RegInfo := [
  ⟨"RIO_RINGr_STAT", 0xA0000, [(0x100, 0, 1)], []⟩,
  ⟨"RIO_RINGr_BREAK", 0xA0004, [(0x100, 0, 1)], []⟩,
  ⟨"RIO_RINGr_DELAY", 0xA0008, [(0x100, 0, 1)], []⟩,
  ⟨"RIO_RINGr_CNT", 0xA000C, [(0x100, 0, 1)], [⟨31, 16, .rc, .imm, none⟩, ⟨15, 8, .rc, .imm, none⟩, ⟨7, 0, .rc, .imm, none⟩]⟩,
  ⟨"RIO_RINGr_CYCLE", 0xA0010, [(0x100, 0, 1)], []⟩,
  ⟨"RIO_UNITSEL", 0xA0800, [], [⟨7, 0, .rw, .imm, some (16, 255)⟩]⟩,
  ⟨"RIO_UNITSTAT", 0xA0804, [], []⟩,
  ⟨"RIO_UNITCNT", 0xA0808, [], [⟨31, 16, .rc, .imm, none⟩, ⟨15, 0, .rc, .imm, none⟩]⟩,
  ⟨"RIO_UNITTYPE", 0xA080C, [], []⟩,
  ⟨"RIO_UNITSER", 0xA0810, [], []⟩,
  ⟨"RIO_OPERk", 0xA0900, [(0x4, 0, 7)], []⟩]

def regRows.saf : List RegInfo := [
  ⟨"SAF_STAT", 0xB0000, [], []⟩,
  ⟨"SAF_SETS", 0xB0004, [], []⟩,
  ⟨"SAF_CNT", 0xB0008, [], [⟨31, 16, .rc, .imm, none⟩, ⟨15, 8, .rc, .imm, none⟩, ⟨7, 0, .rc, .imm, none⟩]⟩,
  ⟨"SAF_CRCs", 0xB0100, [(0x4, 0, 15)], []⟩,
  ⟨"SAF_PADDR", 0xB0200, [], [⟨19, 16, .rw, .imm, none⟩, ⟨13, 2, .rw, .imm, none⟩]⟩,
  ⟨"SAF_PDATA", 0xB0204, [], [⟨31, 0, .wo, .imm, none⟩]⟩,
  ⟨"SAF_INSTSEL", 0xB0300, [], [⟨7, 0, .rw, .imm, none⟩]⟩,
  ⟨"SAF_INSTSTAT", 0xB0304, [], []⟩,
  ⟨"SAF_INSTSPEED", 0xB0308, [], []⟩,
  ⟨"SAF_INSTTRIP", 0xB030C, [], []⟩,
  ⟨"SAF_CHc", 0xB0400, [(0x4, 0, 15)], []⟩,
  ⟨"SAF_TEST", 0xB0500, [], [⟨31, 16, .wo, .imm, none⟩, ⟨0, 0, .wo, .imm, none⟩]⟩]

def regRows.evr : List RegInfo := [
  ⟨"EVR_STAT", 0xC0000, [], []⟩,
  ⟨"EVR_NEWEST", 0xC0004, [], []⟩,
  ⟨"EVR_SEQ", 0xC0008, [], []⟩,
  ⟨"EVR_RDIDX", 0xC000C, [], []⟩,
  ⟨"EVR_CNT", 0xC0010, [], [⟨31, 16, .rc, .imm, none⟩, ⟨15, 0, .rc, .imm, none⟩]⟩,
  ⟨"EVR_MERGED", 0xC0014, [], [⟨31, 0, .rc, .imm, none⟩]⟩,
  ⟨"EVR_LINEFIRED", 0xC0018, [], [⟨15, 0, .rc, .imm, none⟩]⟩,
  ⟨"EVR_FREEZE", 0xC001C, [], [⟨31, 16, .wo, .imm, none⟩, ⟨0, 0, .wo, .imm, none⟩]⟩,
  ⟨"EVR_HIWATER", 0xC0020, [], [⟨15, 0, .rw, .cyc, some (1, 65535)⟩]⟩,
  ⟨"EVR_DEFSEL", 0xC0100, [], [⟨7, 0, .rw, .imm, none⟩]⟩,
  ⟨"EVR_DEFCNT", 0xC0104, [], [⟨31, 16, .rc, .imm, none⟩, ⟨15, 0, .rc, .imm, none⟩]⟩,
  ⟨"EVR_DEFLAST", 0xC0108, [], []⟩]

def regRows.lks : List RegInfo := [
  ⟨"LKS_CFG", 0xD0000, [], []⟩,
  ⟨"LKS_STAT", 0xD0004, [], [⟨11, 8, .rc, .imm, none⟩]⟩,
  ⟨"LKS_AGRk_BASE", 0xD0040, [(0x8, 0, 3)], [⟨31, 31, .rw, .imm, none⟩, ⟨27, 0, .rw, .imm, none⟩]⟩,
  ⟨"LKS_AGRk_SIZE", 0xD0044, [(0x8, 0, 3)], [⟨27, 0, .rw, .imm, none⟩]⟩,
  ⟨"LKS_PSTATp", 0xD0100, [(0x40, 0, 3)], [⟨20, 16, .rc, .imm, none⟩]⟩,
  ⟨"LKS_FAILINFOp", 0xD0104, [(0x40, 0, 3)], []⟩,
  ⟨"LKS_FAILCNTp", 0xD0108, [(0x40, 0, 3)], []⟩,
  ⟨"LKS_FAILPC_HIp", 0xD010C, [(0x40, 0, 3)], []⟩,
  ⟨"LKS_FAILPC_LOp", 0xD0110, [(0x40, 0, 3)], []⟩,
  ⟨"LKS_FAILCLKp", 0xD0114, [(0x40, 0, 3)], []⟩,
  ⟨"LKS_AGRSTALLp", 0xD0118, [(0x40, 0, 3)], [⟨31, 0, .rc, .imm, none⟩]⟩,
  ⟨"LKS_INJECTp", 0xD011C, [(0x40, 0, 3)], [⟨31, 16, .wo, .imm, none⟩, ⟨4, 4, .wo, .imm, none⟩, ⟨3, 0, .wo, .imm, some (1, 8)⟩]⟩,
  ⟨"LKS_DBGCTL", 0xD0400, [], [⟨31, 16, .rw, .imm, some (0, 65535)⟩, ⟨10, 9, .rw, .imm, none⟩, ⟨8, 8, .rw, .imm, none⟩, ⟨3, 0, .rw, .imm, some (0, 7)⟩]⟩,
  ⟨"LKS_DBGSTAT", 0xD0404, [], []⟩,
  ⟨"LKS_DBGSEL", 0xD0408, [], [⟨8, 8, .rw, .imm, none⟩, ⟨5, 0, .rw, .imm, some (0, 35)⟩]⟩,
  ⟨"LKS_DBGDATA", 0xD040C, [], [⟨31, 0, .rw, .imm, none⟩]⟩,
  ⟨"LKS_DBGADDR_HI", 0xD0410, [], [⟨7, 0, .rw, .imm, none⟩]⟩,
  ⟨"LKS_DBGADDR_LO", 0xD0414, [], [⟨31, 2, .rw, .imm, none⟩]⟩,
  ⟨"LKS_DBGMEM", 0xD0418, [], [⟨31, 0, .rw, .imm, none⟩]⟩]

def regRows.red : List RegInfo := [
  ⟨"RED_STATE", 0xE0000, [], []⟩,
  ⟨"RED_CLAIM", 0xE0004, [], []⟩,
  ⟨"RED_CLAIM_PEER", 0xE0008, [], []⟩,
  ⟨"RED_CLAIMCTL", 0xE000C, [], [⟨31, 16, .wo, .imm, none⟩, ⟨1, 1, .wo, .imm, none⟩, ⟨0, 0, .wo, .imm, none⟩]⟩,
  ⟨"RED_LINK", 0xE0010, [], [⟨31, 16, .rc, .imm, none⟩]⟩,
  ⟨"RED_RTT", 0xE0014, [], [⟨31, 16, .rc, .imm, none⟩]⟩,
  ⟨"RED_HB", 0xE0018, [], [⟨31, 16, .rc, .imm, none⟩]⟩,
  ⟨"RED_HBKICK", 0xE001C, [], [⟨31, 16, .wo, .imm, none⟩]⟩,
  ⟨"RED_FWD", 0xE0020, [], [⟨31, 16, .rc, .imm, none⟩]⟩,
  ⟨"RED_LAG", 0xE0024, [], [⟨31, 16, .rc, .imm, none⟩]⟩,
  ⟨"RED_WIT", 0xE0028, [], []⟩,
  ⟨"RED_LULL", 0xE002C, [], []⟩,
  ⟨"RED_VEERS", 0xE0030, [], []⟩,
  ⟨"RED_RESYNC", 0xE0034, [], []⟩,
  ⟨"RED_RSBYTES_HI", 0xE0038, [], []⟩,
  ⟨"RED_RSBYTES_LO", 0xE003C, [], []⟩,
  ⟨"RED_DISC", 0xE0040, [], [⟨31, 0, .rc, .imm, none⟩]⟩,
  ⟨"RED_ERR", 0xE0044, [], [⟨31, 16, .rc, .imm, none⟩, ⟨4, 4, .rc, .imm, none⟩, ⟨3, 3, .rc, .imm, none⟩, ⟨2, 2, .rc, .imm, none⟩, ⟨1, 1, .rc, .imm, none⟩, ⟨0, 0, .rc, .imm, none⟩]⟩,
  ⟨"RED_PVER", 0xE0048, [], []⟩]

def regRows.eth : List RegInfo := [
  ⟨"ETH_PSTATp", 0xF0000, [(0x100, 0, 5)], []⟩,
  ⟨"ETH_RXp", 0xF0004, [(0x100, 0, 5)], [⟨31, 16, .rc, .imm, none⟩, ⟨15, 0, .rc, .imm, none⟩]⟩,
  ⟨"ETH_FRAMESp", 0xF0008, [(0x100, 0, 5)], []⟩,
  ⟨"ETH_TXp", 0xF000C, [(0x100, 0, 5)], []⟩,
  ⟨"ETH_MDIOp", 0xF0010, [(0x100, 0, 5)], [⟨31, 16, .rw, .imm, none⟩, ⟨5, 5, .wo, .imm, none⟩, ⟨4, 0, .rw, .imm, none⟩]⟩,
  ⟨"ETH_PRP", 0xF0800, [], [⟨31, 16, .rc, .imm, none⟩, ⟨15, 8, .rc, .imm, none⟩]⟩]

def regRows.can : List RegInfo := [
  ⟨"CAN_STATp", 0x100000, [(0x4000, 0, 3)], []⟩,
  ⟨"CAN_ERRCNTp", 0x100004, [(0x4000, 0, 3)], [⟨31, 24, .rc, .imm, none⟩, ⟨23, 16, .rc, .imm, none⟩, ⟨15, 8, .rc, .imm, none⟩, ⟨7, 0, .rc, .imm, none⟩]⟩,
  ⟨"CAN_TXBp", 0x100008, [(0x4000, 0, 3)], []⟩,
  ⟨"CAN_TXCNTp", 0x10000C, [(0x4000, 0, 3)], []⟩,
  ⟨"CAN_RXCNTp", 0x100010, [(0x4000, 0, 3)], []⟩,
  ⟨"CAN_DROPp", 0x100014, [(0x4000, 0, 3)], [⟨31, 16, .rc, .imm, none⟩, ⟨15, 0, .rc, .imm, none⟩]⟩,
  ⟨"CAN_TXFAILp", 0x100018, [(0x4000, 0, 3)], [⟨31, 24, .rc, .imm, none⟩, ⟨23, 16, .rc, .imm, none⟩, ⟨15, 8, .rc, .imm, none⟩, ⟨7, 0, .rc, .imm, none⟩]⟩,
  ⟨"CAN_ABDp", 0x10001C, [(0x4000, 0, 3)], [⟨15, 0, .rc, .imm, none⟩]⟩,
  ⟨"CAN_ABDRATEp", 0x100020, [(0x4000, 0, 3)], []⟩,
  ⟨"CAN_REFp", 0x100024, [(0x4000, 0, 3)], [⟨23, 16, .rc, .imm, none⟩, ⟨15, 8, .rc, .imm, none⟩]⟩,
  ⟨"CAN_REFTIME_HIp", 0x100028, [(0x4000, 0, 3)], []⟩,
  ⟨"CAN_REFTIME_LOp", 0x10002C, [(0x4000, 0, 3)], []⟩,
  ⟨"CAN_PEXp", 0x100030, [(0x4000, 0, 3)], [⟨31, 0, .rc, .imm, none⟩]⟩,
  ⟨"CAN_TDCp", 0x100034, [(0x4000, 0, 3)], []⟩]

def regRows.ser : List RegInfo := [
  ⟨"SER_STATs", 0x110000, [(0x100, 0, 3)], []⟩,
  ⟨"SER_CNTs", 0x110004, [(0x100, 0, 3)], [⟨31, 16, .rc, .imm, none⟩, ⟨15, 8, .rc, .imm, none⟩, ⟨7, 0, .rc, .imm, none⟩]⟩,
  ⟨"SER_RXs", 0x110008, [(0x100, 0, 3)], []⟩,
  ⟨"SER_TXs", 0x11000C, [(0x100, 0, 3)], []⟩]

def regRows.pnl : List RegInfo := [
  ⟨"PNL_STAT", 0x120000, [], []⟩,
  ⟨"PNL_TIMING", 0x120004, [], [⟨13, 8, .rw, .frm, some (15, 63)⟩, ⟨7, 0, .rw, .frm, some (60, 150)⟩]⟩,
  ⟨"PNL_DRIVE", 0x120008, [], [⟨17, 17, .rw, .frm, none⟩, ⟨16, 16, .rw, .imm, none⟩, ⟨15, 8, .rw, .frm, some (0, 80)⟩, ⟨7, 0, .rw, .frm, none⟩]⟩,
  ⟨"PNL_GAMMAg", 0x120040, [(0x4, 1, 15)], [⟨10, 0, .rw, .frm, none⟩]⟩,
  ⟨"PNL_PREi", 0x120400, [(0x4, 0, 255)], [⟨12, 8, .rw, .frm, some (0, 31)⟩, ⟨5, 0, .rw, .frm, some (0, 63)⟩]⟩,
  ⟨"PNL_WEARADDR", 0x120800, [], [⟨13, 0, .rw, .imm, none⟩]⟩,
  ⟨"PNL_WEARDATA", 0x120804, [], [⟨31, 8, .rc, .imm, none⟩, ⟨7, 0, .rw, .frm, some (128, 255)⟩]⟩,
  ⟨"PNL_KEYS", 0x120010, [], [⟨13, 8, .rc, .imm, none⟩]⟩,
  ⟨"PNL_SLIDER", 0x120014, [], []⟩,
  ⟨"PNL_LED", 0x120018, [], [⟨11, 9, .rw, .imm, some (0, 6)⟩, ⟨8, 6, .rw, .imm, some (0, 6)⟩, ⟨5, 3, .rw, .imm, some (0, 6)⟩, ⟨2, 0, .rw, .imm, some (0, 6)⟩]⟩,
  ⟨"PNL_USB", 0x12001C, [], [⟨31, 16, .rc, .imm, none⟩]⟩,
  ⟨"PNL_CNT", 0x120020, [], [⟨31, 16, .rc, .imm, none⟩, ⟨15, 8, .rc, .imm, none⟩, ⟨7, 0, .rc, .imm, none⟩]⟩]

def regRows.bst : List RegInfo := [
  ⟨"BST_STAT", 0x130000, [], []⟩,
  ⟨"BST_SECRETS", 0x130004, [], []⟩,
  ⟨"BST_COND", 0x130008, [], []⟩,
  ⟨"BST_PAIRp", 0x130100, [(0x10, 0, 3)], []⟩,
  ⟨"BST_SIGp", 0x130104, [(0x10, 0, 3)], []⟩,
  ⟨"BST_BANKb", 0x130200, [(0x4, 0, 15)], []⟩,
  ⟨"BST_PINk", 0x130300, [(0x4, 0, 3)], []⟩,
  ⟨"BST_MARKS", 0x130400, [], []⟩]

def regRows.age : List RegInfo := [
  ⟨"AGE_OP", 0x140000, [], []⟩,
  ⟨"AGE_OPSET", 0x140004, [], [⟨31, 16, .wo, .imm, none⟩, ⟨1, 0, .wo, .cyc, none⟩]⟩,
  ⟨"AGE_WORST", 0x140080, [], []⟩,
  ⟨"AGE_TEMP", 0x140084, [], [⟨31, 16, .rc, .imm, none⟩]⟩,
  ⟨"AGE_ESR", 0x140088, [], []⟩,
  ⟨"AGE_SCAP", 0x14008C, [], []⟩,
  ⟨"AGE_MOVES", 0x140090, [], [⟨23, 16, .rc, .imm, none⟩, ⟨15, 0, .rc, .imm, none⟩]⟩,
  ⟨"AGE_DELAYm", 0x140100, [(0x4, 0, 23)], []⟩]

def regRows.pfc : List RegInfo := [
  ⟨"PFC_STAT", 0x150000, [], []⟩,
  ⟨"PFC_CLIPk", 0x150010, [(0x4, 0, 7)], [⟨31, 0, .rc, .imm, none⟩]⟩,
  ⟨"PFC_EVc", 0x150400, [(0x8, 0, 255)], []⟩,
  ⟨"PFC_FILTc", 0x150404, [(0x8, 0, 255)], []⟩,
  ⟨"PFC_CNTc_HI", 0x151000, [(0x10, 0, 255)], []⟩,
  ⟨"PFC_CNTc_LO", 0x151004, [(0x10, 0, 255)], []⟩,
  ⟨"PFC_SNAPc_HI", 0x151008, [(0x10, 0, 255)], []⟩,
  ⟨"PFC_SNAPc_LO", 0x15100C, [(0x10, 0, 255)], []⟩,
  ⟨"PFC_SHDc_HI", 0x152000, [(0x8, 0, 255)], []⟩,
  ⟨"PFC_SHDc_LO", 0x152004, [(0x8, 0, 255)], []⟩,
  ⟨"PFC_GTIMEg_HI", 0x152800, [(0x10, 0, 5)], []⟩,
  ⟨"PFC_GTIMEg_LO", 0x152804, [(0x10, 0, 5)], []⟩,
  ⟨"PFC_GSEQg", 0x152808, [(0x10, 0, 5)], []⟩]

/-- The registers of block `b` of R17, without the common registers of R75. -/
def regTable (b : Nat) : List RegInfo :=
  match b with
  | 0 => regRows.sys
  | 1 => regRows.prt
  | 2 => regRows.mbx
  | 3 => regRows.qe
  | 4 => regRows.ce
  | 5 => regRows.pg
  | 6 => regRows.ad
  | 7 => regRows.ph
  | 8 => regRows.tu
  | 9 => regRows.fio
  | 10 => regRows.rio
  | 11 => regRows.saf
  | 12 => regRows.evr
  | 13 => regRows.lks
  | 14 => regRows.red
  | 15 => regRows.eth
  | 16 => regRows.can
  | 17 => regRows.ser
  | 18 => regRows.pnl
  | 19 => regRows.bst
  | 20 => regRows.age
  | 21 => regRows.pfc
  | _ => []

def regResets.part0 : List (Nat × Word) := [
  (0x0, 0x84160000), (0x18, 0x27), (0x1FFFC, 0x1000000), (0x21010, 0x1),
  (0x2FFFC, 0x2000000), (0x30000, 0x80001000), (0x30004, 0x4000), (0x30014, 0xFFFF),
  (0x3FFFC, 0x3000000), (0x4FFFC, 0x4000000), (0x5FFFC, 0x5000000), (0x6FFFC, 0x6000000),
  (0x70308, 0xFF00), (0x7FFFC, 0x7000000), (0x80008, 0xF00), (0x8FFFC, 0x8000000),
  (0x90010, 0xFFFF), (0x93008, 0x2), (0x94008, 0x2), (0x95120, 0x8000),
  (0x95124, 0x8000), (0x95128, 0x8000), (0x9512C, 0x8000), (0x95130, 0x8000),
  (0x95134, 0x8000)]

def regResets.part1 : List (Nat × Word) := [
  (0x95138, 0x8000), (0x9513C, 0x8000), (0x96140, 0x8000), (0x96144, 0x8000),
  (0x96148, 0x8000), (0x9614C, 0x8000), (0x96150, 0x8000), (0x96154, 0x8000),
  (0x96158, 0x8000), (0x9615C, 0x8000), (0x97000, 0x8000), (0x97010, 0x8000),
  (0x97020, 0x8000), (0x97030, 0x8000), (0x97108, 0x8000), (0x97128, 0x8000),
  (0x97184, 0x8000), (0x97194, 0x8000), (0x9FFFC, 0x9000000), (0xA0004, 0xFFFF),
  (0xA0104, 0xFFFF), (0xA0800, 0x10), (0xAFFFC, 0xA000000), (0xB0400, 0x8000),
  (0xB0404, 0x8000)]

def regResets.part2 : List (Nat × Word) := [
  (0xB0408, 0x8000), (0xB040C, 0x8000), (0xB0410, 0x8000), (0xB0414, 0x8000),
  (0xB0418, 0x8000), (0xB041C, 0x8000), (0xB0420, 0x8000), (0xB0424, 0x8000),
  (0xB0428, 0x8000), (0xB042C, 0x8000), (0xB0430, 0x8000), (0xB0434, 0x8000),
  (0xB0438, 0x8000), (0xB043C, 0x8000), (0xBFFFC, 0xB000000), (0xC0020, 0xC000),
  (0xCFFFC, 0xC000000), (0xDFFFC, 0xD000000), (0xEFFFC, 0xE000000), (0xFFFFC, 0xF000000),
  (0x10FFFC, 0x10000000), (0x11FFFC, 0x11000000), (0x120004, 0x3F64), (0x120008, 0x28A0),
  (0x120018, 0x5)]

def regResets.part3 : List (Nat × Word) := [
  (0x120804, 0x80), (0x12FFFC, 0x12000000), (0x130100, 0x20000000), (0x130110, 0x20000000),
  (0x130120, 0x20000000), (0x130130, 0x20000000), (0x130200, 0x20000000), (0x130204, 0x20000000),
  (0x130208, 0x20000000), (0x13020C, 0x20000000), (0x130210, 0x20000000), (0x130214, 0x20000000),
  (0x130218, 0x20000000), (0x13021C, 0x20000000), (0x130220, 0x20000000), (0x130224, 0x20000000),
  (0x130228, 0x20000000), (0x13022C, 0x20000000), (0x130230, 0x20000000), (0x130234, 0x20000000),
  (0x130238, 0x20000000), (0x13023C, 0x20000000), (0x130300, 0x20000000), (0x130304, 0x20000000),
  (0x130308, 0x20000000)]

def regResets.part4 : List (Nat × Word) := [
  (0x13030C, 0x20000000), (0x13FFFC, 0x13000000), (0x14FFFC, 0x14000000), (0x15FFFC, 0x15000000)]

/-- The registers whose tables give a numeric reset value other than 0, in address order. -/
def regResets : List (Nat × Word) :=
  regResets.part0 ++ regResets.part1 ++ regResets.part2 ++ regResets.part3 ++ regResets.part4

end Sys2Proof.Machine
end

