-- ==== Sys2Proof/Machine/State.lean ====
section
/-! DEFINITION. The state of the station module: every register, memory, the configuration in force,
the parts of each block outside the register tables, and the queue of commands that wait. -/

namespace Sys2Proof.Machine

/-- Why a command ends in a fault. -/
inductive Fault where
  /-- A write that gives a reserved (KP) field another value than it holds: R10 says that some are
  live test controls and that the effect is undefined. Raised by REGISTER_WRITE. Safe: the model
  stops where the manual gives no effect. -/
  | reservedField (key : Nat)
  deriving DecidableEq, Repr

/-- Why a command is refused. -/
inductive Refusal where
  /-- No meaning given yet. Raised by the dispatch alone. Safe. -/
  | notModelled (mnemonic : String)
  deriving DecidableEq, Repr

/-- The state of one module. -/
structure State where
  /-- Commands waiting, first in, first out. -/
  pending : List Instr := []
  /-- Fabric clocks since the release of reset (R23). -/
  clk : Nat := 0
  /-- Station time in ns and its fraction in units of 2^-32 ns (R9, R372). -/
  time : Nat := 0
  timeFrac : Nat := 0
  /-- Number of free values taken so far: the model's own field. -/
  free : Nat := 0
  /-- The register store: block × 0x1_0000 + offset. -/
  regs : List (Nat × Word) := []
  /-- Shadows waiting for their boundary (R71), and low words of split values held (R67). -/
  shadow : List (Nat × Option Word) := []
  holding : List (Nat × Option Word) := []
  /-- Highest-value fields that have taken an update since their restart (R64): key × 32 + low bit. -/
  peaked : List (Nat × Bool) := []
  /-- Memory: SRAM, DRAM and MRAM by physical address (R18). -/
  mem : List Host.Cell := []
  /-- Configuration records in force: type × 2^24 + index (R91). -/
  cfg : List (Nat × List Word) := []
  /-- The live images: input points and applied output values by point address (R5, R27). -/
  pts : List (Nat × Point) := []
  outs : List (Nat × Point) := []
  /-- The publications of each output before its last, newest first: those of the last 10 µs and the one before them (R29,
  R31, R437). -/
  outsPrev : List (Nat × List Point) := []
  /-- What the module sent, newest first. -/
  sent : List Sent := []
  /-- The link as the frames on it are sent (R198), and what resynchronisation copied: phase and data, newest first (R228). -/
  linkTx : LinkTx := {}
  copied : List (Nat × ResyncData) := []
  sys : Sys := {}
  nv : Nv := {}
  fw : Fw := {}
  prt : Prt := {}
  lks : Lks := {}
  red : Red := {}
  qe : Qe := {}
  evr : Evr := {}
  alm : Alm := {}
  ce : Ce := {}
  pg : Pg := {}
  ad : Ad := {}
  ph : Ph := {}
  tu : Tu := {}
  fio : Fio := {}
  rio : Rio := {}
  saf : Saf := {}
  eth : Eth := {}
  can : List (Nat × CanPort) := []
  pnl : Pnl := {}
  bst : Bst := {}
  age : Age := {}
  sfp : List (Nat × Sfp) := []
  /-- Enabled performance counters, and the fabric clock of the last capture of each group (R581 to R586). -/
  pfc : List (Nat × PfcCnt) := []
  pfcAt : List (Nat × Option Nat) := []
  deriving DecidableEq, Repr

/-- Right after reset: every register at its reset value, SYS_SLOT (0x1C) as the contacts of the default slot load it, nothing listed in
memory (R49 zeroes SRAM and DRAM), BOOT not yet run. What survives a reset is empty here: nothing has been written to MRAM. -/
def State.reset : State := { regs := SMap.set 0 0x1C 0x20 regResets }

end Sys2Proof.Machine
end

