-- ==== Sys2Proof/Machine/Ops.lean ====
section
/-! DEFINITION. The named operations on the state that every block uses: registers and their fields,
memory, time, configuration records, points, free values, what the module sends, and the records,
alarms and marks that station firmware writes. -/

namespace Sys2Proof.Machine

/-! ### Registers -/

/-- The word a register holds. -/
def State.reg (s : State) (k : Nat) : Word := SMap.get 0 k s.regs

/-- A register given a word. -/
def State.setReg (s : State) (k : Nat) (v : Word) : State := { s with regs := SMap.set 0 k v s.regs }

/-- The value of a field. -/
def State.fld (s : State) (f : Fld) : Nat := bits (s.reg f.key) f.hi f.lo

/-- A field given a value. -/
def State.put (s : State) (f : Fld) (v : Nat) : State :=
  s.setReg f.key (setBits (s.reg f.key) f.hi f.lo v)

/-- A one-bit field given a truth value. -/
def State.flag (s : State) (f : Fld) (b : Bool) : State := s.put f (b1 b)

/-- Whether a one-bit field is 1. -/
def State.isSet (s : State) (f : Fld) : Bool := s.fld f == 1

/-- Bit `n` of a field. -/
def State.fbit (s : State) (f : Fld) (n : Nat) : Bool := (s.fld f).testBit n

/-- Bit `n` of a field given a truth value. -/
def State.putBit (s : State) (f : Fld) (n : Nat) (b : Bool) : State :=
  s.put ⟨f.key, f.lo + n, f.lo + n⟩ (b1 b)

/-- A saturating counter field counted up by one. -/
def State.bump (s : State) (f : Fld) : State := s.put f (satInc f.width (s.fld f))

/-- A saturating counter field counted up `n` times. -/
def State.bumpBy (s : State) (f : Fld) (n : Nat) : State :=
  s.put f (if s.fld f + n < 2 ^ f.width then s.fld f + n else 2 ^ f.width - 1)

/-- A wrapping counter field counted up by one. -/
def State.wrapInc (s : State) (f : Fld) : State := s.put f (s.fld f + 1)

/-- An unsigned highest-value field updated (R64). -/
def State.peak (s : State) (f : Fld) (v : Nat) : State :=
  if s.fld f < v then s.put f (if v < 2 ^ f.width then v else 2 ^ f.width - 1) else s

/-- A signed highest-value field updated: the first update after a restart sets it (R64). -/
def State.peakSigned (s : State) (f : Fld) (v : Int) : State :=
  let key := f.key * 32 + f.lo
  if SMap.get false key s.peaked && decide (v ≤ signed f.width (s.fld f)) then s
  else { s.put f (unsigned f.width v) with peaked := SMap.set false key true s.peaked }

/-- A 64-bit value written to a split pair of registers. -/
def State.putSplit (s : State) (hi lo : Nat) (v : Nat) : State :=
  (s.setReg hi (hi32 v)).setReg lo (lo32 v)

/-- What a command answers. -/
abbrev Res := Host.Outcome State Fault Refusal

/-! ### Modes -/

def mBoot : Nat := 0
def mSelftest : Nat := 1
def mCommission : Nat := 2
def mActive : Nat := 3
def mStandby : Nat := 4
def mResync : Nat := 5
def mSafe : Nat := 6
def mService : Nat := 7

/-- The mode in force (R38). -/
def State.mode (s : State) : Nat := s.fld Fld.SYS_MODE_mode

/-- Whether this module drives a claim (R213). -/
def State.hasClaim (s : State) : Bool := s.reg Reg.RED_CLAIM != 0

/-- Whether a partner is in STANDBY and in step (R92, R203). -/
def State.partnerStandby (s : State) : Bool :=
  s.sys.pins.pair && !s.red.lost && s.red.peerMode == mStandby

/-- Whether this module is the windward one: it drives the station's claim (R12). -/
def State.windward (s : State) : Bool :=
  s.hasClaim && (s.mode == mActive || s.mode == mSafe || s.mode == mCommission)

/-- A module in STANDBY runs block code in step (R32, R38). -/
def State.leeward (s : State) : Bool := s.mode == mStandby

/-- Modes in which the endpoints of the networks enqueue nothing and send nothing (R38, R253, R514): with no networks, and as
the leeward module of a pair. -/
def State.netSilent (s : State) : Bool :=
  s.mode == mStandby || s.mode == mResync || s.mode == mBoot || s.mode == mSelftest

/-- Whether an Ethernet port is off (R38): in SELFTEST the PRP ports run alone. -/
def State.portOff (s : State) (p : Nat) : Bool := s.mode == mBoot || (s.mode == mSelftest && decide (2 ≤ p))

/-- Whether the serial and CAN ports are off. -/
def State.busOff (s : State) : Bool := s.mode == mBoot || s.mode == mSelftest

/-- Whether an activation goes on with what the other module forwards: at the leeward module, but for those that began before
the boundary of a commanded veer (R202, R226). -/
def State.led (s : State) (a : Act) : Bool := if a.role = 0 then s.leeward else a.role == 2

/-- The boundary of a commanded veer that this module has agreed to has come: its partner's higher claim is that veer's
(R226). -/
def State.handingOver (s : State) : Bool :=
  match s.red.veer with | some v => v.acked && decide (v.at_ ≤ s.time) | none => false

/-- The partner hands the station over to this module and has yet to enter STANDBY (R226). -/
def State.taking (s : State) : Bool := s.red.crossing && s.red.peerMode == mActive && !s.red.lost

/-- Whether a completion waits for the other module's acknowledgements (R203, R226). -/
def State.awaits (s : State) (a : Act) : Bool := s.partnerStandby || s.taking || a.role == 1

/-- A veer is in progress at this module (R46, R226). -/
def State.veering (s : State) : Bool := s.red.veer.isSome || s.taking

/-- This module starts no activations and publishes no more: it has yielded, or hands the station over (R225, R226). -/
def State.gaveUp (s : State) : Bool :=
  s.mode == mActive && ((!s.hasClaim && s.fld Fld.RED_STATE_veer == 3) || s.handingOver)

/-- Whether block code runs in COMMISSION: under the claim, and when started from Pliuz (R38, R612). -/
def State.commissionRuns (s : State) : Bool := s.mode == mCommission && s.hasClaim && s.sys.started

/-- Modes in which tasks take triggers of this module's own sources: ACTIVE, and COMMISSION when
started (R38); a module that gives the station up takes none (R225, R226). A leeward module's tasks run on forwarded triggers (R202). -/
def State.takesTriggers (s : State) : Bool :=
  (s.mode == mActive && !s.gaveUp) || s.commissionRuns

/-- Whether tasks take triggers of this module's own sources: as above, and between the loss of the partner and a veer, when they
are pending (R222). -/
def State.tasksTrigger (s : State) : Bool := s.takesTriggers || (s.mode == mStandby && s.red.lost)

/-! ### Memory -/

/-- The byte at a physical address of SRAM, DRAM or MRAM; an unlisted byte reads 0 (R49). -/
def State.byte (s : State) (a : Nat) : Byte := SMap.get 0 a s.mem

/-- A byte stored. -/
def State.setByte (s : State) (a : Nat) (v : Byte) : State :=
  { s with mem := SMap.set 0 a v s.mem }

/-- `n` bytes from `a`, lowest address first. -/
def State.bytes (s : State) (a n : Nat) : List Byte := (upFrom a n).map s.byte

/-- Bytes stored from `a` upward. -/
def State.setBytes (s : State) (a : Nat) : List Byte → State
  | [] => s
  | b :: bs => (s.setByte a b).setBytes (a + 1) bs

/-- Little-endian number of a list of bytes (R149). -/
def leNat : List Byte → Nat
  | [] => 0
  | b :: bs => b.toNat + 256 * leNat bs

/-- The `n` low bytes of a number, least significant first (R149). -/
def leBytes : Nat → Nat → List Byte
  | 0, _ => []
  | n + 1, v => BitVec.ofNat 8 v :: leBytes n (v / 256)

/-- A 32-bit word in memory (R83, R149). -/
def State.word (s : State) (a : Nat) : Word := wd (leNat (s.bytes a 4))

def State.setWord (s : State) (a : Nat) (v : Word) : State := s.setBytes a (leBytes 4 v.toNat)

/-- `n` words from `a`. -/
def State.words (s : State) (a n : Nat) : List Word := (upFrom 0 n).map fun i => s.word (a + 4 * i)

/-- Words stored from `a` upward. -/
def State.setWords (s : State) (a : Nat) : List Word → State
  | [] => s
  | w :: ws => (s.setWord a w).setWords (a + 4) ws

/-- A 64-bit value laid out as two words, high word first (R149). -/
def State.setPair (s : State) (a : Nat) (v : Nat) : State :=
  (s.setWord a (hi32 v)).setWord (a + 4) (lo32 v)

/-- `n` bytes from `a` written with zeros. -/
def State.zero (s : State) (a n : Nat) : State :=
  { s with mem := s.mem.filter fun c => decide (c.1 < a) || decide (a + n ≤ c.1) }

/-- The bytes of a list of words. -/
def wordBytes (ws : List Word) : List Byte := ws.flatMap fun w => leBytes 4 w.toNat

/-! ### Persistent state in MRAM (R14): the manual gives the regions; the places inside them are the model's (log entry 134) -/

/-- The last claim number, after the reset records. -/
def mramClaim : Nat := 0x800F02000
/-- Ageing history of a source: a day and its life consumed in each pair of words, newest first. -/
def mramHistory (src : Nat) : Nat := 0x800F10000 + src % 960 * 0x400
/-- Retain values of a task, in the order of its ranges; its checkpoints stand above all of them. -/
def mramRetain (t : Nat) : Nat := 0x800800000 + t % 512 * 0x1000
def mramCkptLo : Nat := 0x800A00000
def mramCkptHi : Nat := 0x800E00000

/-! ### Time -/

/-- The rate in force as a signed number of 10^-12 (TU_RATE). -/
def State.rate (s : State) : Int := (s.reg Reg.TU_RATE).toInt

/-! ### Performance counters (R581, R582) -/

/-- Fields of a counter's record. -/
def PfcCnt.cls (x : PfcCnt) : Nat := bits x.ev 15 8
def PfcCnt.arg (x : PfcCnt) : Nat := bits x.ev 31 16
def PfcCnt.level (x : PfcCnt) : Bool := bit x.ev 1

/-- Whether the partition filter of a lane event lets it count. -/
def State.pfcLane (s : State) (x : PfcCnt) : Bool :=
  !bit x.filt 8 || match (SMap.get {} x.arg s.prt.lanes).act with
    | some a => (SMap.get {} x.arg s.prt.lanes).window.isSome && a.part == bits x.filt 5 0
    | none => false

/-- Whether the partition filter lets an occurrence of class `cls` with an argument count: the lane's, the spending
partition, or the partition of the completed task (R582). -/
def State.pfcPasses (s : State) (x : PfcCnt) (cls arg : Nat) : Bool :=
  if 2 ≤ cls ∧ cls ≤ 8 then s.pfcLane x
  else if cls = 9 then !bit x.filt 8 || arg == bits x.filt 5 0
  else if cls = 18 then !bit x.filt 8 || bits ((SMap.get {} arg s.prt.tasks).decl.getD 2 0) 5 0 == bits x.filt 5 0
  else true

/-- Whether the condition of a condition event holds. -/
def State.pfcHolds (s : State) (x : PfcCnt) : Bool :=
  let l := SMap.get {} x.arg s.prt.lanes
  if x.cls = 6 then l.stalled && s.pfcLane x
  else if x.cls = 7 then (match l.act with | some a => s.prt.waiting.contains a.part | none => false) && s.pfcLane x
  else if x.cls = 8 then l.act.isSome && l.window.isSome && s.pfcLane x
  else if x.cls = 10 then !(SMap.get {} x.arg s.qe.queues).msgs.isEmpty
  else if x.cls = 12 then SMap.get 0 x.arg s.ce.lanes != 0
  else false

def isCondition (cls : Nat) : Bool := cls == 6 || cls == 7 || cls == 8 || cls == 10 || cls == 12

/-- Events of a class with an argument, `n` in this clock: at most 4 count, but for instructions, cache
misses and DRAM transfers, which the model does not spread over clocks. -/
def State.pfcEvent (s : State) (cls arg n : Nat) : State :=
  if s.pfc.isEmpty || !(s.isSet ⟨Reg.PRT_LOCK, 0, 0⟩) then s
  else s.pfc.foldl (fun s e =>
    let x := e.2
    if x.cls ≠ cls ∨ x.arg ≠ arg ∨ s.pfcPasses x cls arg = false then s
    else
      let same := x.last = s.clk + 1
      let had := if same then x.inClk else 0
      let want := if x.level then (if same then 0 else 1) else n
      let add := if x.level ∨ (3 ≤ cls ∧ cls ≤ 5) ∨ cls = 9 then want else min want (4 - had)
      let s1 := { s with pfc := SMap.set {} e.1 { x with
        count := (x.count + add) % 2 ^ 64, last := s.clk + 1, inClk := had + add } s.pfc }
      if add < want then s1.putBit ⟨Reg.PFC_CLIP (e.1 / 32), 31, 0⟩ (e.1 % 32) true else s1) s

/-- `n` transfers of 64 B that partition `p` causes at the DRAM (R119). Those beyond its credits wait for a later window, in
which they are counted again. -/
def State.chargeDram (s : State) (p n : Nat) : State :=
  if n = 0 then s else ({ s with prt := { s.prt with dram := SMap.upd 0 p (· + n) s.prt.dram } }).pfcEvent 9 p n

/-- Transfers of 64 B that `n` bytes from address `a` take at the DRAM: none where they lie elsewhere. -/
def dramLines (a n : Nat) : Nat := if 0x100000000 ≤ a ∧ a < 0x300000000 ∧ 0 < n then (a % 64 + n + 63) / 64 else 0

/-- `n` fabric clocks pass at the counters: clocks, engine cycles, and conditions in level mode. -/
def State.pfcTime (s : State) (n : Nat) : State :=
  if s.pfc.isEmpty || !(s.isSet ⟨Reg.PRT_LOCK, 0, 0⟩) then s
  else s.pfc.foldl (fun s e =>
    let x := e.2
    let mhz := [1000, 933, 866, 800].getD (s.fld Fld.AGE_OP_station) 1000
    let add :=
      if x.cls = 0 then n
      else if x.cls = 2 then
        (if s.pfcLane x then (if x.level then n else (s.clk + n) * mhz / 250 - s.clk * mhz / 250) else 0)
      else if isCondition x.cls && x.level && s.pfcHolds x then n else 0
    if add = 0 then s
    else { s with pfc := SMap.set {} e.1 { x with
      count := (x.count + add) % 2 ^ 64, last := s.clk + n + 1, inClk := 0 } s.pfc }) s

/-- The edges of conditions counted (R581). -/
def State.pfcEdges (s : State) : State :=
  s.pfc.foldl (fun s e =>
    let x := e.2
    if !isCondition x.cls then s
    else
      let h := s.pfcHolds x
      let add := if h && !x.held && !x.level && s.isSet ⟨Reg.PRT_LOCK, 0, 0⟩ then 1 else 0
      let x1 := if add = 0 then x
        else { x with last := s.clk + 1, inClk := (if x.last = s.clk + 1 then x.inClk else 0) + 1 }
      { s with pfc := SMap.set {} e.1 { x1 with held := h, count := (x.count + add) % 2 ^ 64 } s.pfc }) s

/-- `n` fabric clocks pass at the lanes: the budget counts of running activations (R114, R191, R205), and the cycles of
mains that stand stalled on a full agreement buffer (R180). -/
def State.laneTime (s : State) (n : Nat) : State :=
  s.prt.lanes.foldl (fun s e =>
    match e.2.act with
    | none => s
    | some a =>
      let s1 := if a.halted || s.led a then s else s.bumpBy (Fld.PRT_RUNUSED_used e.1) n
      if e.2.stalled && decide (16 ≤ e.2.agr.length) && !s.fbit Fld.PRT_LANES_split e.1 then
        s1.bumpBy ⟨Reg.LKS_AGRSTALL (e.1 / 2), 31, 0⟩
          (n * [1000, 933, 866, 800].getD (s.fld Fld.AGE_OP_station) 1000 / 250)
      else s1) s

/-- `n` fabric clocks pass: 4 ns each, adjusted by the rate in force, the remainder kept (R372). -/
def State.advance (s0 : State) (n : Nat) : State :=
  let s := (s0.pfcTime n).laneTime n
  let acc : Int := s.timeFrac + (n : Int) * ((4 * s.rate * 2 ^ 32) / 10 ^ 12)
  let whole := acc / 2 ^ 32
  { s with
    clk := s.clk + n
    timeFrac := (acc % 2 ^ 32).toNat
    time := ((s.time : Int) + 4 * n + whole).toNat % 2 ^ 64 }

/-- The clock moves on until station time has reached `t`. -/
def State.runUntil (s : State) (t : Nat) : State :=
  if t ≤ s.time then s
  else
    let s1 := s.advance ((t - s.time) * 250000000000 / (1000000000000 + s.rate).toNat)
    let s2 := if t ≤ s1.time then s1 else s1.advance 1
    if t ≤ s2.time then s2 else s2.advance 1

/-- The clock moves on until fabric clock `c` has come. -/
def State.clkUntil (s : State) (c : Nat) : State := if c ≤ s.clk then s else s.advance (c - s.clk)

/-- Fabric clocks of one trade cycle: (len + 1) × 250 µs (R23, SYS_TCYC). -/
def State.tcyc (s : State) : Nat := (s.fld Fld.SYS_TCYC_len + 1) * 62500

/-- Station time of the next trade-cycle boundary. -/
def State.nextBoundary (s : State) : Nat := s.time + 4 * (s.sys.tc0 + s.tcyc - s.clk)

/-- Station time of the first trade-cycle boundary at least `ns` from now (R91, R133, R226). -/
def State.boundaryAfter (s : State) (ns : Nat) : Nat :=
  let b := s.nextBoundary
  if s.time + ns ≤ b then b
  else b + ((s.time + ns - b + 4 * s.tcyc - 1) / (4 * s.tcyc)) * (4 * s.tcyc)

/-! ### Configuration records -/

/-- Key of a record: type and index (R95). -/
def recKey (type index : Nat) : Nat := type * 2 ^ 24 + index

/-- The words of the record in force; empty where there is none. -/
def State.rec_ (s : State) (type index : Nat) : List Word := SMap.get [] (recKey type index) s.cfg

def State.setRec (s : State) (type index : Nat) (ws : List Word) : State :=
  { s with cfg := SMap.set [] (recKey type index) ws s.cfg }

/-! ### Free values -/

/-- A free value, and the state that has counted it. -/
def State.fresh (s : State) : Word64 × State := (Config.freeWord s.free, { s with free := s.free + 1 })

/-! ### What the module sends -/

/-- Codes of frames of the link that no opcode of R209 names: heartbeats, acknowledgements of forwarded items, and the bulk, the
mirrored commits and the images of a resynchronisation. Forwarded items stand under their kinds, 1 to 15 and 21 to 31. -/
def lkHeartbeat : Nat := 16
def lkAck : Nat := 17
def lkBulk : Nat := 18
def lkMirror : Nat := 19
def lkImage : Nat := 20

/-- Class of a frame on the link (R198): heartbeats, yields and failure markers 0; items, markers and acknowledgements 1; pair
messages 2; mirrored commits, queue operations, checkpoints and alarms 3 (R253, R493); bulk copies and images 4. -/
def linkClass (what : Nat) : Nat :=
  if what = lkHeartbeat ∨ what = 0x0356 ∨ what = 0x0354 ∨ what = 0x0355 then 0
  else if what = 12 ∨ what = 14 ∨ what = lkMirror ∨ what = 21 ∨ what = 22 ∨ what = 25 then 3
  else if what = lkBulk ∨ what = lkImage then 4
  else if what < 18 ∨ (23 ≤ what ∧ what < 32) then 1
  else 2

/-- The frames that have begun by fabric clock `now`, at `rate` bytes a clock: each begins when the one before it ends. -/
def LinkTx.run (now rate : Nat) : List (Nat × Sent) → Nat → List Sent → LinkTx
  | [], f, l => ⟨[], f, l⟩
  | (n, x) :: r, f, l => if f ≤ now then LinkTx.run now rate r (f + (n + rate - 1) / rate) (x :: l) else ⟨(n, x) :: r, f, l⟩

/-- A frame among those that wait: behind all of its own class and of higher ones. -/
def linkInsert (n : Nat) (x : Sent) : List (Nat × Sent) → List (Nat × Sent)
  | [] => [(n, x)]
  | (m, y) :: r => if linkClass y.what ≤ linkClass x.what then (m, y) :: linkInsert n x r else (n, x) :: (m, y) :: r

/-- A frame of `n` bytes handed to the link: it begins at once on an idle line, else it waits (R198). -/
def LinkTx.put (t : LinkTx) (now rate n : Nat) (x : Sent) : LinkTx :=
  if rate = 0 then t
  else
    let u := LinkTx.run now rate t.waiting t.free t.line
    if u.waiting.isEmpty && decide (u.free ≤ now) then ⟨[], now + (n + rate - 1) / rate, x :: u.line⟩
    else { u with waiting := linkInsert n x u.waiting }

/-- Bytes that the link carries in a fabric clock: 10.3125 Gb/s with 64b/66b coding on each lane that is up (R195, R196). -/
def State.linkRate (s : State) : Nat := 5 * (s.fld Fld.RED_LINK_lane0 + s.fld Fld.RED_LINK_lane1)

/-- A message handed to a channel. On the link it waits as its class says; the manual gives a frame no length, here its words and
a header of 16 B as in R83 (DESIGN CHOICE, log entry 140). -/
def State.send (s : State) (chan : Chan) (what : Nat) (ws : List Word) : State :=
  { s with
    sent := ⟨chan, what, ws⟩ :: s.sent
    linkTx := if chan = .link then s.linkTx.put s.clk s.linkRate (16 + 4 * ws.length) ⟨chan, what, ws⟩ else s.linkTx }

/-- A part of a resynchronisation's copy handed to the link (R228). -/
def State.sendCopy (s : State) (what phase : Nat) (d : ResyncData) : State :=
  { s with
    copied := (phase, d) :: s.copied
    linkTx := s.linkTx.put s.clk s.linkRate (16 + d.cells.length) ⟨.link, what, [wd phase]⟩ }

/-! ### Forwarding (R202) -/

/-- Kinds of forwarded item. -/
def fwSnapshot : Nat := 1
def fwEntry : Nat := 2
def fwEvent : Nat := 3
def fwTrigger : Nat := 4
def fwMarker : Nat := 5
def fwLoop : Nat := 6
def fwFail : Nat := 7
def fwMailbox : Nat := 15

/-- A forwarded item with the next forward sequence (R202). -/
def State.sendItem (s : State) (kind : Nat) (ws : List Word) : State :=
  let n := s.red.fwdTx + 1
  { s.send .link kind (wd n :: ws) with red := { s.red with fwdTx := n } }

/-- A forwarded item sent to the leeward module while it stands in STANDBY (R202), and to a former windward module that has
yet to enter it (R226). -/
def State.forward (s : State) (kind : Nat) (ws : List Word) : State :=
  if s.partnerStandby || s.taking then s.sendItem kind ws else s

/-- An item of one activation (R202, R226). -/
def State.forwardOf (s : State) (a : Act) (kind : Nat) (ws : List Word) : State :=
  if a.role = 1 then s.sendItem kind ws else s.forward kind ws

/-- Forward-queue occupancy in 256 B units: the manual gives the item no layout, so each takes the units that its words
fill (R205). -/
def State.fwdUnits (s : State) : Nat := (s.red.queue.map fun i => (4 * i.ws.length + 16 + 255) / 256).foldl (· + ·) 0

/-- RED_FWD brought up to date. -/
def State.showFwd (s : State) : State :=
  let n := min 65535 s.fwdUnits
  (s.put Fld.RED_FWD_now n).peak Fld.RED_FWD_max n

/-- A forwarded item is used: it leaves the queue, and the lag is the time since its arrival (R205). -/
def State.useItem (s : State) (i : FwdItem) : State :=
  let us := min 65535 ((s.time - i.at_) / 1000)
  let s1 := { s with red := { s.red with queue := s.red.queue.filter (· != i) } }
  ((s1.put Fld.RED_LAG_now us).peak Fld.RED_LAG_max us).showFwd

/-! ### Firmware records, alarms and marks -/

/-- A station firmware record on its way to EVR (R497, R501): class byte, the rule that orders it,
the object, the values before and after, the sender's mailbox and the detail. -/
def State.recordMsg (s : State) (cls rule object before after mbx : Nat) (detail : List Word) : EvMsg :=
  ⟨1, cls * 256 + Config.eventLow rule % 256, s.time, [wd object, wd before, wd after, wd mbx] ++ detail⟩
def State.record (s : State) (cls rule object before after mbx : Nat) (detail : List Word) : State :=
  { s with evr := { s.evr with inbox := s.evr.inbox ++ [s.recordMsg cls rule object before after mbx detail] } }

/-- A record with an object alone. -/
def State.note (s : State) (cls rule object : Nat) : State := s.record cls rule object 0 0 0xFF []

/-- Name of a station firmware alarm: the rule that raises it and its object. -/
def alertId (rule object : Nat) : Nat := rule * 65536 + object

/-- Station firmware raises an alarm of its own. -/
def State.raiseAlert (s : State) (rule object : Nat) : State :=
  let a := alertId rule object
  if s.sys.alerts.contains a then s
  else { s with sys := { s.sys with alerts := a :: s.sys.alerts } }

/-- Station firmware clears an alarm of its own. -/
def State.clearAlert (s : State) (rule object : Nat) : State :=
  { s with sys := { s.sys with alerts := s.sys.alerts.filter (· != alertId rule object) } }

/-- SYS_STAT.degraded set (R38 note): in ACTIVE, STANDBY or any mode in which a mark is made. -/
def State.degrade (s : State) : State := s.flag Fld.SYS_STAT_degraded true

/-! ### Access errors of a block (R75) -/

/-- Kinds of xx_ACCINFO. -/
def accDecode : Nat := 1
def accRange : Nat := 2
def accTimeout : Nat := 3

/-- An access error of block `b` latched: its ACCERR bit, `more` after a first one, and ACCINFO for
the first since ACCERR was last read. -/
def State.accErr (s : State) (b kind off part : Nat) (write : Bool) (master : Nat) : State :=
  let first := bits (s.reg (Reg.BLK_ACCERR b)) 3 0 == 0
  let s1 := s.putBit ⟨Reg.BLK_ACCERR b, 3, 0⟩ (kind - 1) true
  if first then
    s1.setReg (Reg.BLK_ACCINFO b)
      (wd (off % 65536 * 65536 + part % 64 * 256 + b1 write * 128 + kind % 8 * 16 + master % 16))
  else s1.flag (Fld.BLK_ACCERR_more b) true

/-! ### Protection faults (R100, R136) -/

/-- Kinds of PRT_PFINFO. -/
def pfRead : Nat := 0
def pfWrite : Nat := 1
def pfFetch : Nat := 2
def pfDecode : Nat := 3
def pfLocked : Nat := 4
def pfCounter : Nat := 5

/-- A protection fault latched in PRT_PFSTAT, PRT_PFINFO and PRT_PFADDR, with its event record. -/
def State.protFault (s : State) (kind addr part task master : Nat) : State :=
  let s1 := s.bump Fld.PRT_PFSTAT_count
  let s2 :=
    if s.prt.pfHeld then s1.flag Fld.PRT_PFSTAT_more true
    else
      { (((s1.setReg Reg.PRT_PFINFO
          (wd (task % 512 * 2 ^ 23 + kind % 8 * 2 ^ 20 + master % 16 * 65536 + part % 64 * 256)))
          ).putSplit Reg.PRT_PFADDR_HI Reg.PRT_PFADDR_LO addr) with
        prt := { s1.prt with pfHeld := true } }
  s2.record 7 100 task 0 0 0xFF [wd kind, hi32 addr, lo32 addr, wd part]

/-! ### Points (R5 to R7, R164, R172) -/

/-- The point address of an integral point: station node, unit, channel, point. -/
def ptAddr (node unit chan point : Nat) : Nat :=
  node * 2 ^ 18 + (unit * 64 + chan) * 256 + point

/-- The station node: the node of the module in the even slot (R4). -/
def State.stationNode (s : State) : Nat :=
  if s.sys.pins.pair && !s.sys.pins.even then s.sys.peer else s.sys.node

/-- The node number of the module in the odd slot. -/
def State.oddNode (s : State) : Nat := if s.sys.pins.even then s.sys.peer else s.sys.node

/-- The key under which an item of a block's slot stands among the points: the manual gives items
no point address (R275, R302). -/
def itemKey (block idx item : Nat) : Nat := 2 ^ 32 + block * 2 ^ 24 + idx * 2 ^ 8 + item

/-- The point of the live image at an address. -/
def State.point (s : State) (a : Nat) : Point := SMap.get {} a s.pts

/-- The force on a point, if there is one. -/
def State.forceOf (s : State) (a : Nat) : Option Force := s.fw.forces.find? fun f => f.addr == a

/-- An input point as every consumer sees it: a force substitutes its value with quality good. -/
def State.input (s : State) (a : Nat) : Point :=
  match s.forceOf a with
  | some f => if f.output then s.point a else { val := f.val.setWidth 64, q := 0, time := s.time }
  | none => s.point a

/-- An input point given a value and a quality, stamped with the present time. -/
def State.setPoint (s : State) (a : Nat) (v : Nat) (q : Nat) : State :=
  { s with pts := SMap.set {} a { val := BitVec.ofNat 64 v, q := q, time := s.time } s.pts }

/-- Where this module keeps its own sample of an integral point (R4, R206): at its own node number, but for a leeward module in
the even slot, whose node number is the station's and shows the agreed values; that one keeps its samples apart. -/
def State.ownPoint (s : State) (unit chan p : Nat) : Nat :=
  if s.sys.pins.pair && s.sys.pins.even && s.leeward then 2 ^ 34 + ptAddr 0 unit chan p
  else ptAddr s.sys.node unit chan p

/-- A value of an integral point, sampled at `t` (R4, R164): the module's own sample, and the station's agreed value
unless the module is leeward. -/
def State.setField (s : State) (unit chan p : Nat) (v : Int) (q t : Nat) : State :=
  let x : Point := { val := BitVec.ofInt 64 v, q := q, time := t }
  let s1 := { s with pts := SMap.set {} (s.ownPoint unit chan p) x s.pts }
  if s.leeward then s1 else { s1 with pts := SMap.set {} (ptAddr s.stationNode unit chan p) x s1.pts }

/-- A quality of an integral point, under both node numbers as for its value. -/
def State.fieldQuality (s : State) (unit chan p q : Nat) : State :=
  let x := { s.point (s.ownPoint unit chan p) with q := q }
  s.setField unit chan p x.val.toInt q x.time

/-- A quality alone set. -/
def State.setQuality (s : State) (a : Nat) (q : Nat) : State :=
  { s with pts := SMap.set {} a { s.point a with q := q } s.pts }

/-- The last published value of an output point. -/
def State.out (s : State) (a : Nat) : Point := SMap.get {} a s.outs

/-- The publications of an output before its last, newest first. -/
def State.outPast (s : State) (a : Nat) : List Point := SMap.get [] a s.outsPrev

/-- Publications kept: those younger than 10 µs at `t`, and the newest of the others. -/
def keepPast (t : Nat) : List Point → List Point
  | [] => []
  | p :: ps => if p.time + 10000 ≤ t then [p] else p :: keepPast t ps

/-- An output value released by its owner (R29). -/
def State.publish (s : State) (a : Nat) (v : Word64) : State :=
  { s with
    outs := SMap.set {} a { val := v, q := 0, time := s.time } s.outs
    outsPrev := SMap.set [] a (keepPast s.time (s.out a :: s.outPast a)) s.outsPrev }

/-- The newest publication of an output that is no younger than `t` (R29). -/
def State.outAt (s : State) (a t : Nat) : Point := ((s.out a :: s.outPast a).find? fun p => decide (p.time ≤ t)).getD {}

/-- A task item of a block, taken: its value, and whether it was published since it was last taken
(R31, R275, R302). A quality of 1 marks an item taken. -/
def State.takeItem (s : State) (a : Nat) : State × Word64 × Bool :=
  let p := s.out a
  if p.q = 0 then ({ s with outs := SMap.set {} a { p with q := 1 } s.outs }, p.val, true)
  else (s, p.val, false)

/-- The publication that a trigger of this clock uses: one of the same clock comes too late for it (R31). -/
def State.outBefore (s : State) (a : Nat) : Point :=
  let p := s.out a
  if p.q < 2 ∧ p.time = s.time then (s.outPast a).headD {} else p

/-- A task item taken at a trigger (R31): of a publication in the trigger's own clock the one before it is taken, if nothing
has taken that one. -/
def State.takeTrigItem (s : State) (a : Nat) : State × Word64 × Bool :=
  let p := s.outBefore a
  if p = s.out a then s.takeItem a
  else if p.q = 0 then
    ({ s with outsPrev := SMap.set [] a ({ p with q := 1 } :: (s.outPast a).tail) s.outsPrev }, p.val, true)
  else (s, p.val, false)

/-- The value that reaches the output stage: a force replaces the owner's (R172). -/
def State.driven (s : State) (a : Nat) : Word64 :=
  match s.forceOf a with
  | some f => if f.output then f.val.setWidth 64 else (s.out a).val
  | none => (s.out a).val

/-- A time-tagged edge sent to a DO stage, applied 10.0 µs after the firing clock (R331). -/
def State.tagEdge (s : State) (a : Nat) (level : Bool) : State :=
  let s1 := s.publish a (if level then 1 else 0)
  { s1 with fio := { s1.fio with edges := s1.fio.edges ++ [⟨a, level, s.time + 10000⟩] } }

end Sys2Proof.Machine
end

