-- ==== Sys2Proof/Machine/AgeMarks.lean ====
section
/-! DEFINITION. The marks that ageing leaves (R571, R577, R578): a source that reaches its warning level or its end of life
says so once. -/

namespace Sys2Proof.Machine

/-- Sources of R571 in the table's order, breakers from 5 upward. -/
def srcPath : Nat := 0
def srcBulk : Nat := 1
def srcScap : Nat := 2
def srcOled : Nat := 3
def srcStage : Nat := 4
def srcBreaker (b : Nat) : Nat := 5 + b

/-- A source has reached its warning level: an alarm and a record, once (R577, R578). -/
def State.warnSource (s : State) (src : Nat) : State :=
  if s.nv.warned.contains src then s
  else
    let s1 := (s.note 1 578 src).raiseAlert (if src < 5 then 578 else 577) src
    { s1 with nv := { s1.nv with warned := src :: s1.nv.warned } }

/-- A source has reached its end of life: a further record, and for a breaker its maintenance alarm (R577, R578). -/
def State.endSource (s : State) (src : Nat) : State :=
  if s.nv.ended.contains src then s
  else
    let s1 := s.record 1 578 src 0 1 0xFF []
    let s2 := if src < 5 then s1 else s1.raiseAlert 577 (256 + src)
    { s2 with nv := { s2.nv with ended := src :: s2.nv.ended } }

/-- What a measurement of a source says of it. -/
def State.judgeSource (s : State) (src : Nat) (warn eol : Bool) : State :=
  let s1 := if warn || eol then s.warnSource src else s
  if eol then s1.endSource src else s1

end Sys2Proof.Machine
end

