-- ==== Sys2Proof/Machine/DomainView.lean ====
section
/-! DEFINITION. Angle domains as others see them (R313, R317, R322, R324, R340): the record, the angle at the
present fabric clock, and the items that any task may name. -/

namespace Sys2Proof.Machine

/-! ### The domain record (R342) -/

def State.domRec (s : State) (d : Nat) : List Word := s.rec_ 0x07 d
def domEn (r : List Word) : Bool := wBit r 0 0
def domKind (r : List Word) : Nat := wBits r 0 3 1
def domUsesRef (r : List Word) : Bool := wBit r 0 5 && (domKind r == 1 || domKind r == 2)
/-- The source within its kind: encoder, pickup, synchroniser channel or voltage triple. -/
def domSource (r : List Word) : Nat := if domKind r = 3 then wBits r 0 7 6 else wBits r 0 4 4
def domWindow (r : List Word) : Nat := if wBits r 0 15 8 = 0 then 25 else wBits r 0 15 8
def domAverage (r : List Word) : Nat := wBits r 0 23 16
/-- N of the source: 1 for kinds 3 and 4 (R319). -/
def domN (r : List Word) : Nat := if domKind r ≤ 2 then max 1 (wBits r 1 15 0) else 1
/-- Period of a kind-5 domain in ns. -/
def domPeriod (r : List Word) : Nat := max 1 (wBits r 2 21 0 * 1000)
def domOffset (r : List Word) : Nat := (wAt r 3).toNat
def domSlew (r : List Word) : Nat := (wAt r 4).toNat
def domAcquire (r : List Word) : Nat := if wBits r 5 7 0 = 0 then 4 else wBits r 5 7 0
def domReturn (r : List Word) : Nat := if wBits r 5 15 8 = 0 then 2 else wBits r 5 15 8

/-- Codes of AD_DSTATd.state (R324). -/
def dsOff : Nat := 0
def dsAcquire : Nat := 1
def dsLocked : Nat := 2
def dsCoast : Nat := 3
def dsReacquire : Nat := 4
def dsStopped : Nat := 5

def State.dom (s : State) (d : Nat) : Dom := SMap.get {} d s.ad.doms
def State.setDom (s : State) (d : Nat) (x : Dom) : State :=
  { s with ad := { s.ad with doms := SMap.set {} d x s.ad.doms } }

/-! ### The angle (R315, R317) -/

/-- A turn, in angle counts with 32 fractional bits. -/
def turn : Int := 2 ^ 64

/-- A difference of angles, taken to the nearer side. -/
def angDiff (v : Int) : Int := signed 64 (unsigned 64 v)

/-- Nominal angle of edge `k` (R315). -/
def edgeAngle (r : List Word) (k : Int) : Nat :=
  let n : Int := domN r
  (((2 * (k % n) * 2 ^ 32 + n) / (2 * n)).toNat + domOffset r) % 2 ^ 32

/-- How far the angle may move from `x.ang` before the clamp of R317, in the direction of motion. -/
def domClamp (r : List Word) (x : Dom) : Int :=
  let dir : Int := if x.back then -1 else 1
  let next : Int := (edgeAngle r (x.edge + dir) : Int) * 2 ^ 32 + x.inc * 3000
  max 0 (dir * angDiff (next - x.ang))

/-- Angle of a kind-5 domain in counts, not reduced modulo a turn (R315). -/
def State.stationTurns (s : State) (r : List Word) : Int :=
  (s.time * 2 ^ 32 / domPeriod r + domOffset r : Nat)

/-- The angle of a domain at the present clock, not reduced modulo a turn; 32 fractional bits. -/
def State.domPos (s : State) (d : Nat) : Int :=
  let r := s.domRec d
  let x := s.dom d
  if x.state = dsLocked ∧ domKind r = 5 then
    -- `edge` counts the whole turns of station time up to the turn of `ang`
    (s.stationTurns r * 2 ^ 32 - x.edge * turn)
  else if x.state = dsLocked ∨ x.state = dsCoast ∨ x.state = dsReacquire then
    let inc : Int := match x.adj with | some i => i | none => x.inc
    let move := inc * (s.clk - x.asOf : Nat)
    if x.state = dsLocked ∧ domKind r ≤ 2 then
      let c := domClamp r x
      x.ang + clampI (-c) c move
    else x.ang + move
  else x.ang

/-- AD_ANGLEd. -/
def State.domAngle (s : State) (d : Nat) : Word := wordOf (s.domPos d / 2 ^ 32)

/-- The speed estimate as signed 16.16 revolutions per second (R313): 250 000 000 clocks per second. -/
def domSpeed (x : Dom) : Int := x.inc * 250000000 * 2 ^ 16 / turn

/-- AD_DSTATd. -/
def State.domStat (s : State) (d : Nat) : Word :=
  let x := s.dom d
  let k := if domEn (s.domRec d) then domKind (s.domRec d) else 0
  wd (x.state + 8 * b1 x.ref + 16 * b1 x.back + 32 * b1 x.valid + 256 * k)

/-- Items of a domain: 0 DANGLE, 1 DSPEED, 2 DREV, 3 DREVTIME, 4 DSTATE. Items of an action: 0 ANGLE,
1 ANGLE2, 2 ARM, 3 ASTAT. -/
def domItem (d item : Nat) : Nat := itemKey 6 (0x1000 + d) item
def actItem (a item : Nat) : Nat := itemKey 6 a item

/-- Quality of a domain's items (R340). -/
def domQuality (x : Dom) : Nat :=
  if x.state = dsLocked then 0 else if x.state = dsCoast ∨ x.state = dsReacquire then 1
  else if x.state = dsStopped then 2 else 3

/-- The items of every domain as they stand now (R340). -/
def State.refreshDomains (s : State) : State :=
  (upFrom 0 8).foldl (fun s d =>
    if !domEn (s.domRec d) && (s.dom d).state == 0 then s
    else
      let x := s.dom d
      let q := domQuality x
      (((((s.setPoint (domItem d 0) (s.domAngle d).toNat q).setPoint (domItem d 1)
        (unsigned 32 (domSpeed x)) q).setPoint (domItem d 2) (s.reg (Reg.AD_REV d)).toNat q).setPoint
        (domItem d 3) (s.reg (Reg.AD_REVTIME d)).toNat q).setPoint (domItem d 4) (s.domStat d).toNat q)) s

end Sys2Proof.Machine
end

