-- ==== Sys2Proof/Machine/FieldCore.lean ====
section
/-! DEFINITION. Integral field I/O as its users see it (R399 to R401, R417 to R419): units and channels, the
status word, the quality of a point, what a channel shows, and the start of an AI converter (R421, R422). -/

namespace Sys2Proof.Machine

/-! ### Units and channels -/

def State.link (s : State) (u : Nat) : Barrier := SMap.get {} u s.fio.links
def State.setLink (s : State) (u : Nat) (x : Barrier) : State :=
  { s with fio := { s.fio with links := SMap.set {} u x s.fio.links } }
def State.chan (s : State) (u c : Nat) : FChan := SMap.get {} (u * 64 + c) s.fio.chans
def State.setChan (s : State) (u c : Nat) (x : FChan) : State :=
  { s with fio := { s.fio with chans := SMap.set {} (u * 64 + c) x s.fio.chans } }
/-- The output stage of a unit. -/
def State.stage (s : State) (u : Nat) : OutStage := SMap.get {} u s.red.stages
def State.setStage (s : State) (u : Nat) (x : OutStage) : State :=
  { s with red := { s.red with stages := SMap.set {} u x s.red.stages } }

/-- Modes of a stage (R215, R397, R398). -/
def smOff : Nat := 0
def smDrive : Nat := 1
def smHold : Nat := 2
def smSilence : Nat := 3
def smDead : Nat := 4

/-- Channels of each unit. -/
def unitChans (u : Nat) : Nat :=
  if u ≤ 1 then 16 else if u ≤ 5 then 8 else if u = 6 then 8 else if u = 7 then 16 else 0
/-- Whether a unit has output stages. -/
def hasStage (u : Nat) : Bool := u == 2 || u == 3 || u == 5 || u == 6 || u == 7
/-- Whether a channel is an output. -/
def isOutput (u c : Nat) : Bool := u == 2 || u == 3 || u == 5 || ((u == 6 || u == 7) && decide (c < 4))

def chanEn (x : FChan) : Bool := wBit x.cfg 0 0

/-- Contacts of a channel on its connector (R594 to R596), as connector × 256 + contact. -/
def chanContacts (u c : Nat) : List Nat :=
  if u = 0 then [3 + c] else if u = 1 then [25 + c] else if u = 2 then [48 + c] else if u = 3 then [62 + c]
  else if u = 4 then [256 + 1 + c, 256 + 9 + c]
  else if u = 5 then [256 + 23 + 2 * c, 256 + 24 + 2 * c]
  else if u = 6 then
    (if c < 4 then [256 + 45 + 2 * c, 256 + 46 + 2 * c]
    else if c < 6 then upFrom (256 + 53 + 8 * (c - 4)) 8 else [256 + 69 + 2 * (c - 6), 256 + 70 + 2 * (c - 6)])
  else if u = 7 then
    (if c < 4 then [512 + 9 + 2 * c, 512 + 10 + 2 * c]
    else if c < 8 then [512 + 17 + 2 * (c - 4), 512 + 18 + 2 * (c - 4)]
    else [512 + 25 + 2 * (c - 8), 512 + 26 + 2 * (c - 8)])
  else []

/-- The record that a channel works by: none where a contact of it failed its pin test (R567). -/
def State.workRec (s : State) (u c : Nat) (r : List Word) : List Word :=
  if (chanContacts u c).any fun n => s.nv.badPins.contains n then [] else r

/-- State of supply `n`: 0 OK, 1 low, 2 missing, 3 not monitored (R398). A unit's supply has its number. -/
def State.supply (s : State) (n : Nat) : Nat := s.fld Fld.FIO_FSUP_state / 4 ^ n % 4
def State.setSupply (s : State) (n v : Nat) : State :=
  s.put ⟨Reg.FIO_FSUP, 2 * n + 1, 2 * n⟩ v

/-! ### Status and quality -/

/-- Bits of the status word (R400, R418). -/
def fbSupmiss : Nat := 0
def fbSuplow : Nat := 1
def fbLinkdown : Nat := 2
def fbOpen : Nat := 3
def fbShort : Nat := 4
def fbMismatch : Nat := 5
def fbThermal : Nat := 6
def fbShoot : Nat := 7
def fbOvercur : Nat := 8
def fbLost : Nat := 9
def fbLine : Nat := 10
def fbSilence : Nat := 11
def fbHeldoff : Nat := 12
def fbNotdriving : Nat := 13
def fbLatched : Nat := 14
def fbDisabled : Nat := 15
def fbSettle : Nat := 16
def fbUnder : Nat := 17
def fbOver : Nat := 18
def fbNe43low : Nat := 19
def fbNe43high : Nat := 20
def fbClip : Nat := 21
def fbCompliance : Nat := 22

def fbTestfail : Nat := 16
def fbDiscrepancy : Nat := 17
def fbCrossshort : Nat := 18
def fbEdm : Nat := 19
def fbStuck : Nat := 20

/-- A channel's status bit, and a channel with one set or cleared. -/
def FChan.has (x : FChan) (n : Nat) : Bool := bit x.st n
def FChan.mark (x : FChan) (n : Nat) (b : Bool) : FChan := { x with st := setBits x.st n n (b1 b) }

/-- Whether a latched fault is present: DO overload or thermal, H-bridge thermal, shoot or overcurrent. -/
def chanLatched (u c : Nat) (x : FChan) : Bool :=
  if u = 2 ∨ u = 3 then x.has fbShort || x.has fbThermal
  else if u = 6 ∧ c < 4 then x.has fbThermal || x.has fbShoot || x.has fbOvercur
  else false

/-- The status word of a channel (R400, R418). -/
def State.chanStatus (s : State) (u c : Nat) : Word :=
  let x := s.chan u c
  let sup := s.supply u
  let out := isOutput u c
  let m := (s.stage u).mode
  x.st ||| wd (b1 (sup == 2) + 2 * b1 (sup == 1) + 4 * b1 (!(s.link u).up) +
    2048 * b1 (out && m == smSilence) + 8192 * b1 (out && (m == smOff || m == smDead)) +
    16384 * b1 (chanLatched u c x) + 32768 * b1 (!chanEn x))

/-- Whether a point is an input value that the channel's own conditions make bad (R401, R419): status, count and readback
points are none. -/
def valuePoint (u c p : Nat) (x : FChan) : Bool :=
  let diag := x.has fbOpen || x.has fbShort || x.has fbLine
  if u ≤ 1 then diag && (decide (p ≤ 1) || p == 3)
  else if u ≤ 3 then diag && p == 2
  else if u = 4 then p == 0 && (x.has fbOpen || x.has fbShort || x.has fbClip || x.has fbNe43low || x.has fbNe43high)
  else if u = 6 then
    if c < 4 then diag && (p == 1 || p == 3)
    else if c < 6 then (diag && (p == 0 || p == 3)) || (p == 0 && x.has fbLost)
    else diag && (p == 0 || p == 2)
  else if u = 7 then
    p == 0 && (diag || x.has fbTestfail || x.has fbDiscrepancy || x.has fbCrossshort || x.has fbEdm || x.has fbStuck)
  else false

/-- The quality of a point of a channel (R401, R419). -/
def State.chanQuality (s : State) (u c p : Nat) : Nat :=
  let x := s.chan u c
  let l := s.link u
  if !chanEn x || !l.ever || (u == 4 && !x.taken) then 3
  else if s.supply u = 2 ∨ (l.up = false ∧ l.downAt + 1000000 ≤ s.time) ∨ valuePoint u c p x = true then 2
  else if !l.up || (u == 4 && p == 0 && x.has fbSettle) then 1
  else 0

/-! ### What a channel shows (R399, R416, R417, R434) -/

/-- One point of a channel: its value taken over while the link is up, its quality in every case. -/
def State.showPoint (s : State) (u c p : Nat) (v : Int) (t : Nat) : State :=
  let q := s.chanQuality u c p
  if (s.link u).up then s.setField u c p v q t else s.fieldQuality u c p q

/-- The status word as a point: while the link is down, the last one with linkdown set. -/
def State.showStatus (s : State) (u c p : Nat) (st : Word) : State :=
  let q := s.chanQuality u c p
  let old := BitVec.ofNat 32 (s.point (s.ownPoint u c p)).val.toNat
  s.setField u c p ((if (s.link u).up then st else old ||| 4).toNat : Int) q s.time

/-- Position of an encoder: the accumulated count plus the reference offset (R412). -/
def encPos (x : FChan) : Int := x.count + x.refOff

/-- Codes of FIO_HBc_STAT.stage and FIO_AO_STATc.stage. -/
def stageCode (u c : Nat) (x : FChan) (m : Nat) : Nat :=
  if (u = 6 ∧ chanLatched u c x = true) ∨ (u = 5 ∧ x.has fbThermal = true) then 4
  else if m = smSilence then 3
  else if m = smOff ∨ m = smDead ∨ chanEn x = false then 0
  else if x.has fbHeldoff then 1 else 2

def State.showChan (s : State) (u c : Nat) : State :=
  let x := s.chan u c
  let st := s.chanStatus u c
  let m := (s.stage u).mode
  if u ≤ 1 then
    let s1 := ((((s.showPoint u c 0 (b1 x.level) x.ts).showPoint u c 1 (b1 x.raw) x.ts).showPoint u c 2
      (x.count % 2 ^ 32) x.ts).showPoint u c 3 x.since x.ts).showStatus u c 4 st
    if (s.link u).up then
      ((((s1.putBit (Fld.FIO_DI_STATE_state u) c x.level).putBit (Fld.FIO_DI_STATE_raw u) c x.raw).putBit
        (Fld.FIO_DI_EDGES_diag u) c (x.has fbOpen || x.has fbShort)).setReg (Reg.FIO_DI_TS_HI u c)
        (hi32 x.since)).setReg (Reg.FIO_DI_TS_LO u c) (lo32 x.since)
    else s1
  else if u ≤ 3 then
    let s1 := ((s.showPoint u c 1 x.readback s.time).showPoint u c 2 x.aux s.time).showStatus u c 3 st
    if !(s.link u).up then s1 else
    ((((((s1.putBit (Fld.FIO_DO_STATE_driving u) c (m == smDrive)).putBit (Fld.FIO_DO_STATE_readback u) c
      (x.readback != 0)).putBit (Fld.FIO_DO_STATE_pending u) c x.waits).putBit (Fld.FIO_DO_STATE_applied u) c
      (x.force != 0)).putBit (Fld.FIO_DO_FAULT_latched u) c (chanLatched u c x)).putBit
      (Fld.FIO_DO_FAULT_mismatch u) c (x.has fbMismatch)).putBit (Fld.FIO_DO_FAULT_open u) c (x.has fbOpen)
  else if u = 4 then
    let s1 := ((((s.showPoint u c 0 x.force x.ts).showStatus u c 1 st).showPoint u c 2 x.ts x.ts).showPoint u c 3
      x.aux x.ts).showPoint u c 4 (x.count % 2 ^ 32) x.ts
    let s2 := if (s.link u).up then
        ((((s1.setReg (Reg.FIO_AI_CUR c) (wordOf x.force)).put (Fld.FIO_AI_TX_ua c) (unsigned 16 x.aux)).setReg
          (Reg.FIO_AI_TS_HI c) (hi32 x.ts)).setReg (Reg.FIO_AI_TS_LO c) (lo32 x.ts))
      else s1
    ((((s2.put (Fld.FIO_AI_STAT_status c) st.toNat).putBit Fld.FIO_AI_STATE_settle c (x.has fbSettle)).putBit
      Fld.FIO_AI_STATE_ne43 c (x.has fbNe43low || x.has fbNe43high)).putBit Fld.FIO_AI_STATE_diag c
      (x.has fbOpen || x.has fbShort || x.has fbClip)).putBit Fld.FIO_AI_STATE_good c (s.chanQuality 4 c 0 == 0)
  else if u = 5 then
    let s1 := ((s.showPoint u c 1 x.readback s.time).showStatus u c 2 st).showPoint u c 3 x.aux s.time
    (((((((((s1.setReg (Reg.FIO_AO_SET c) (wordOf x.force)).setReg (Reg.FIO_AO_RB c) (wordOf x.readback)).put
      (Fld.FIO_AO_STAT_status c) st.toNat).put (Fld.FIO_AO_STAT_stage c) (stageCode 5 c x m)).put
      (Fld.FIO_AO_COMP_mv c) (unsigned 16 x.aux)).put (Fld.FIO_AO_COMP_temp c) (unsigned 16 x.temp)).putBit
      Fld.FIO_AO_STATE_driving c (m == smDrive)).putBit Fld.FIO_AO_STATE_mismatch c (x.has fbMismatch)).putBit
      Fld.FIO_AO_STATE_heldoff c (x.has fbHeldoff)).putBit Fld.FIO_AO_STATE_silence c (m == smSilence)
  else if u = 6 ∧ c < 4 then
    let s1 := ((s.showPoint u c 1 x.readback x.ts).showStatus u c 2 st).showPoint u c 3 x.aux s.time
    (((s1.put (Fld.FIO_HB_STAT_status c) st.toNat).put (Fld.FIO_HB_STAT_stage c) (stageCode 6 c x m)).setReg
      (Reg.FIO_HB_CUR c) (wordOf x.readback)).setReg (Reg.FIO_HB_SET c) (wordOf x.force)
  else if u = 6 ∧ c < 6 then
    let p := encPos x
    let s1 := ((((s.showPoint u c 0 p x.ts).showPoint u c 1 (x.count % 2 ^ 32) x.ts).showPoint u c 2 (x.latch % 2 ^ 32)
      x.ts).showPoint u c 3 x.ts x.ts).showStatus u c 4 st
    let s2 := s1.put (Fld.FIO_ENC_STAT_status (c - 4)) st.toNat
    if (s.link u).up then
      (s2.setReg (Reg.FIO_ENC_POS_HI (c - 4)) (hi32 (unsigned 64 p))).setReg (Reg.FIO_ENC_POS_LO (c - 4))
        (lo32 (unsigned 64 p))
    else s2
  else if u = 6 ∧ c < 8 then
    let s1 := (((s.showPoint u c 0 x.force x.ts).showPoint u c 1 (x.count % 2 ^ 32) x.ts).showPoint u c 2 x.ts x.ts).showStatus
      u c 3 st
    (s1.put (Fld.FIO_PK_STAT_status (c - 6)) st.toNat).setReg (Reg.FIO_PK_FREQ (c - 6)) (wordOf x.force)
  else if u = 7 then
    let s1 := (s.showPoint u c 0 x.force x.ts).showStatus u c 1 st
    s1.setReg (Reg.SAF_CH c) (wd (bits st 22 0 + (b1 x.a + 2 * b1 x.b + 4 * b1 x.level + 8 * b1 x.raw) * 2 ^ 28))
  else s

/-- A channel changed, and what it shows with it. -/
def State.putChan (s : State) (u c : Nat) (x : FChan) : State := (s.setChan u c x).showChan u c

/-- Every channel of a unit shown again, after a change of its link, its supply or its stage. -/
def State.showUnit (s : State) (u : Nat) : State :=
  (upFrom 0 (unitChans u)).foldl (fun s c => s.showChan u c) s

/-- A shift written into the reference of encoder `e` (R309, R412): it clears lost. -/
def State.shiftRef (s : State) (e : Nat) (shift : Int) : State :=
  let x := s.chan 6 (4 + e)
  s.putChan 6 (4 + e) ({ x with refOff := x.refOff + shift }.mark fbLost false)

/-! ### AI converters (R421, R422) -/

/-- Mode of converter `k`, from the AI bank record: 0 off, 1 free, 2 triggered. -/
def State.convMode (s : State) (k : Nat) : Nat := wBits (s.rec_ 0x0A 0x04FF) 0 (2 * k + 1) (2 * k)
def State.aiConv (s : State) (k : Nat) : Conv := SMap.get {} k s.fio.convs
def State.setConv (s : State) (k : Nat) (x : Conv) : State :=
  let s1 := { s with fio := { s.fio with convs := SMap.set {} k x s.fio.convs } }
  ((s1.flag (Fld.FIO_AI_CONV_busy k) x.busy).put (Fld.FIO_AI_CONV_chan k) x.chan).put (Fld.FIO_AI_CONV_mode k)
    (s1.convMode k)

/-- Enabled channels of converter `k`, ascending. -/
def State.convChans (s : State) (k : Nat) : List Nat :=
  (upFrom (4 * k) 4).filter fun c => chanEn (s.chan 4 c)

/-- A pass of converter `k` begins on the settings in force. -/
def State.beginPass (s : State) (k : Nat) : State :=
  match s.convChans k with
  | [] => s
  | c :: _ =>
    s.setConv k { s.aiConv k with
      busy := true, chan := c, outs := 0, cfgs := (upFrom (4 * k) 4).map fun c => (s.chan 4 c).cfg }

/-- A start event reaches converter `k`: taken in triggered mode, discarded while a pass runs. -/
def State.aiStart (s : State) (k : Nat) : State :=
  if s.convMode k != 2 then s
  else if (s.aiConv k).busy then s.bump (Fld.FIO_AI_CONV_skipped k)
  else s.beginPass k

end Sys2Proof.Machine
end

