-- ==== Sys2Proof/Machine/LoopTrigger.lean ====
section
/-! DEFINITION. Triggers of loop slots (R268 to R271, R274, R275, R277): the slot record, its sources, the
task items, and what a trigger latches. -/

namespace Sys2Proof.Machine

/-- The record of loop slot `i` (R268), and of section `k` (R266). -/
def State.loopRec (s : State) (i : Nat) : List Word := s.rec_ 0x05 i
def State.secRec (s : State) (k : Nat) : List Word := s.rec_ 0x05 (0x4000 + k)

def loopEn (r : List Word) : Bool := wBit r 0 0
def loopClass (r : List Word) : Nat := wBits r 0 2 1
def loopWide (r : List Word) : Bool := wBit r 0 3
def loopPolicy (r : List Word) : Nat := wBits r 0 5 4
def loopCount (r : List Word) : Nat := wBits r 0 11 8 + 1
def loopFirst (r : List Word) : Nat := wBits r 1 13 0

/-- Items of a loop slot (R275). -/
def loopItem (i item : Nat) : Nat := itemKey 4 i item
def liSP : Nat := 0
def liFF : Nat := 1
def liMODE : Nat := 2
def liMANUAL : Nat := 3
def liOUTLO : Nat := 4
def liOUTHI : Nat := 5
def liOUT : Nat := 6
def liERR : Nat := 7
def liSTAT : Nat := 8

/-- Items of a profile generator (R302). -/
def genItem (g item : Nat) : Nat := itemKey 5 g item

/-! ### Bank 5 (R260) -/

/-- Addresses of bank 5 (R260). -/
def secCoefAddr (k : Nat) : Nat := 0x10A00000 + 0x20 * k
def secStateAddr (k : Nat) : Nat := 0x10A80000 + 0x20 * k
def loopRecAddr (i : Nat) : Nat := 0x10B00000 + 0x80 * i
def loopRunAddr (i : Nat) : Nat := 0x10B20000 + 0x20 * i
def captureAddr (b : Nat) : Nat := 0x10B30000 + 0x34000 * b

/-- Job and waveform state of capture buffer `b`. -/
def jobStateAddr (b : Nat) : Nat := 0x10B28000 + 0x2000 * b

def State.loop (s : State) (i : Nat) : LoopSlot := SMap.get {} i s.ce.slots
def State.putLoop (s : State) (i : Nat) (x : LoopSlot) : State :=
  { s with ce := { s.ce with slots := SMap.set {} i x s.ce.slots } }
def State.job (s : State) (b : Nat) : Option CeJob := SMap.get none b s.ce.jobs
def jobSlot (x : CeJob) : Nat := wBits x.words 0 9 0

/-- The job in progress on slot `i`. -/
def State.jobOn (s : State) (i : Nat) : Option (Nat × CeJob) :=
  (upFrom 0 4).findSome? fun b => match s.job b with
    | some x => if x.active && jobSlot x == i then some (b, x) else none
    | none => none

/-- CE_SLOTSTAT of a slot (R275, R291). -/
def State.loopStat (s : State) (i : Nat) : Word :=
  let x := s.loop i
  wd (x.mode + 4 * b1 (s.jobOn i).isSome + 8 * b1 x.pending.isSome + 16 * b1 x.running.isSome +
    x.flags * 32)

/-- The run state of slot `i` as bank 5 holds it: word 0 as CE_SLOTSTAT, then u, e, the limits in force, the output delay of the
last run, the runs, and the triggers skipped. The manual lays out word 0 alone (DESIGN CHOICE, log entry 143). -/
def State.runWords (s : State) (i : Nat) : List Word :=
  let x := s.loop i
  [s.loopStat i, wordOf x.u, wordOf x.e, wordOf x.lo, wordOf x.hi, wd x.dly, wd x.runs, wd x.skipped]
def State.saveLoop (s : State) (i : Nat) : State := s.setWords (loopRunAddr i) (s.runWords i)

def State.setLoop (s : State) (i : Nat) (x : LoopSlot) : State := (s.putLoop i x).saveLoop i

/-- Job and waveform state as bank 5 holds it: the job's words; its number, its runs so far, the chirp's phase, the PRBS register,
the runs its bit is still held, the saturated runs, the injection value; and its flags, status and reason. The manual gives the place
and no layout (DESIGN CHOICE, log entry 143). -/
def jobStateWords (x : CeJob) : List Word :=
  (x.words ++ List.replicate 9 0).take 9 ++ [wd x.num, wd x.m, wd x.phase, wd x.prbs, wd x.held, wd x.sat, wordOf x.value,
    wd (b1 x.active + 2 * b1 x.bitNow + x.status * 256 + x.reason * 65536)]

def State.setJob (s : State) (b : Nat) (x : Option CeJob) : State :=
  let s1 := { s with ce := { s.ce with jobs := SMap.set none b x s.ce.jobs } }
  match x with
  | some j => (s1.setWords (jobStateAddr b) (jobStateWords j)).saveLoop (jobSlot j)
  | none => s1

/-! ### Capture buffers (R286 to R289) -/

def jobPre (x : CeJob) : Nat := wBits x.words 2 15 0
def jobPost (x : CeJob) : Nat := wBits x.words 2 31 16
def jobN (x : CeJob) : Nat := wBits x.words 3 23 0
/-- The stage of a job: 1 pre-runs, 2 duration, 3 post-runs, 0 past the end. -/
def jobStage (x : CeJob) : Nat :=
  if x.m < jobPre x then 1
  else if x.m < jobPre x + jobN x then 2
  else if x.m < jobPre x + jobN x + jobPost x then 3 else 0

/-- The header of capture buffer `b` (R288). -/
def State.writeCapHeader (s : State) (b : Nat) (x : CeJob) : State :=
  let st := if x.active then 0 else if x.status = 0 then 1 else 2
  s.setWords (captureAddr b)
    [0x43415054, wd (wBits x.words 0 13 0 + x.num * 65536), wd x.records, wAt x.words 2,
     wAt x.words 3, wd (wBits x.words 6 11 0), hi32 x.first, lo32 x.first,
     wd (st + 4 * b1 (decide (13308 ≤ x.records)) + x.reason * 256), wd x.skips, 0, 0, 0, 0, 0, 0]

/-- A job stops (R289): OK, or ABORTED with its reason. Its delivery begins. -/
def State.stopJob (s : State) (b reason : Nat) : State :=
  match s.job b with
  | none => s
  | some x =>
    if !x.active then s
    else
      let x1 := { x with
        active := false, status := if reason = 0 then 0 else 8, reason := reason
        deliver := some (0, s.time), value := 0 }
      let s1 := (((s.setJob b (some x1)).writeCapHeader b x1).put (Fld.CE_JOB_reason b) reason).put
        (Fld.CE_JOB_stage b) 0
      (s1.flag (Fld.CE_JOB_deliver b) true).setReg (Reg.CE_INJ b) 0

def State.gen (s : State) (g : Nat) : Gen := SMap.get {} g s.pg.gens
def State.setGen (s : State) (g : Nat) (x : Gen) : State :=
  { s with pg := { s.pg with gens := SMap.set {} g x s.pg.gens } }

/-- A value with 64 fractional bits reported as 32.32: to nearest, ties away from zero (R292). -/
def to32 (v : Int) : Int :=
  if 0 ≤ v then (v + 2 ^ 31) / 2 ^ 32 else -((-v + 2 ^ 31) / 2 ^ 32)

def sat32 (v : Int) : Int := clampI (-2 ^ 31) (2 ^ 31 - 1) v
def sat64 (v : Int) : Int := clampI (-2 ^ 63) (2 ^ 63 - 1) v

/-- Low bits of a 64-bit value as a signed number of 32 bits. -/
def low32 (w : Word64) : Int := signed 32 (w.toNat % 2 ^ 32)

/-- A source read at a trigger (R269 to R271): its value and whether it is bad or not available.
`own` is the item of kind 3. -/
def State.loopSource (s : State) (kind : Nat) (w : Word) (wide : Bool) (own : Nat) : Int × Bool :=
  if kind = 1 then
    let p := s.input w.toNat
    (if wide then p.val.toInt else low32 p.val, decide (2 ≤ p.q))
  else if kind = 2 then
    let idx := bits w 9 0
    let item := bits w 15 12
    if item = 0 then ((s.loop idx).u, !loopEn (s.loopRec idx))
    else
      let g := s.gen (idx % 64)
      let bad := !wBit (s.rec_ 0x06 (idx % 64)) 0 0
      if item = 1 then (to32 g.p, bad)
      else if item = 2 then (sat32 (to32 g.v / 2 ^ 16), bad)
      else (sat32 (to32 g.a / 2 ^ 16), bad)
  else if kind = 3 then
    let p := s.outBefore own
    (if wide then p.val.toInt else low32 p.val, false)
  else (0, false)

/-- A job on slot `i` stops where the slot has gone to OFF or HOLD (R289). -/
def State.stopIdle (s : State) (i : Nat) : State :=
  match s.jobOn i with
  | some (b, _) => if (s.loop i).mode = 0 ∨ (s.loop i).mode = 3 then s.stopJob b 3 else s
  | none => s

/-- The MODE, MANUAL, OUTLO and OUTHI items taken at a trigger (R275). -/
def State.takeLoopItems (s : State) (i : Nat) : State :=
  let r := s.loopRec i
  let lo0 := wInt r 16
  let hi0 := wInt r 17
  let (s1, mode, m1) := s.takeTrigItem (loopItem i liMODE)
  let (s2, man, m2) := s1.takeTrigItem (loopItem i liMANUAL)
  let (s3, lo, m3) := s2.takeTrigItem (loopItem i liOUTLO)
  let (s4, hi, m4) := s3.takeTrigItem (loopItem i liOUTHI)
  let x := s4.loop i
  let nlo := if m3 then clampI lo0 hi0 (low32 lo) else x.lo
  let nhi := if m4 then clampI lo0 hi0 (low32 hi) else x.hi
  let x1 := { x with
    mode := if m1 then mode.toNat % 4 else x.mode
    manual := if m2 then low32 man else x.manual }
  let s5 := if m3 || m4 then
      (if nhi < nlo then s4.setLoop i { x1 with flags := x1.flags ||| 0x80 }
      else s4.setLoop i { x1 with lo := nlo, hi := nhi, flags := x1.flags &&& 0x7F })
    else s4.setLoop i x1
  s5.stopIdle i

/-- What a trigger of slot `i` latches from the module's own live images (R270). -/
def State.loopLatch (s : State) (i : Nat) : Latch :=
  let r := s.loopRec i
  let w := loopWide r
  let (pv, b1) := s.loopSource (wBits r 12 25 24) (wAt r 3) w 0
  let (sp, b2) := s.loopSource (wBits r 12 27 26) (wAt r 4) w (loopItem i liSP)
  let (ff, b3) := s.loopSource (wBits r 12 29 28) (wAt r 5) false (loopItem i liFF)
  let x := s.loop i
  { pv := pv, sp := sp, ff := ff, bad := b1 || b2 || b3, clk := s.clk, time := s.time, recs := r
    secs := (upFrom (loopFirst r) (loopCount r)).map s.secRec
    mode := x.mode, lo := x.lo, hi := x.hi, manual := x.manual
    init := x.runMode == 0 && (x.mode == 1 || x.mode == 2) }

/-- The words of a latch as they are forwarded (R202, R283). -/
def latchWords (i : Nat) (l : Latch) : List Word :=
  [wd i, lo32 (unsigned 64 l.pv), hi32 (unsigned 64 l.pv), lo32 (unsigned 64 l.sp),
   hi32 (unsigned 64 l.sp), wordOf l.ff, wd (b1 l.bad), lo32 l.time, hi32 l.time, wd l.mode,
   wordOf l.manual, wordOf l.lo, wordOf l.hi]

/-- The slot after a trigger that latched `l` (R274, R277). -/
def LoopSlot.latched (x : LoopSlot) (l : Latch) : LoopSlot := { x with pending := some l, runMode := l.mode }

/-- A trigger reaches slot `i` with what it latched: the run is pending (R277). -/
def State.loopPend (s : State) (i : Nat) (l : Latch) : State :=
  (s.setLoop i ((s.loop i).latched l)).put Fld.CE_STAT_pending (s.fld Fld.CE_STAT_pending + 1)

/-- A trigger that arrives while a run is pending is counted and discarded (R277), and so in the header of a job's buffer (R288). -/
def State.loopSkip (s : State) (i : Nat) : State :=
  let x := s.loop i
  let s1 := (s.bump Fld.CE_SKIPCNT_skipped).setLoop i { x with skipped := satInc 16 x.skipped }
  match s1.jobOn i with
  | some (b, j) => (s1.setJob b (some { j with skips := j.skips + 1 })).writeCapHeader b { j with skips := j.skips + 1 }
  | none => s1

/-- Whether a trigger of this fabric clock has already latched slot `i` (R277). -/
def State.triggeredNow (s : State) (i : Nat) : Bool :=
  let at_ := fun (o : Option Latch) => match o with | some l => l.clk == s.clk | none => false
  at_ (s.loop i).pending || at_ (s.loop i).running

/-- A trigger of slot `i` from this module's own sources (R277, R283). Triggers of one clock make one; a
trigger while a run is pending is discarded; another takes the items, and in OFF it latches nothing. -/
def State.loopTrigger (s : State) (i : Nat) : State :=
  if !loopEn (s.loopRec i) || !s.takesTriggers || s.triggeredNow i then s
  else if (s.loop i).pending.isSome then (s.loopSkip i).forward fwLoop [wd (i + 65536)]
  else
    let s1 := s.takeLoopItems i
    if (s1.loop i).mode = 0 then (s1.setLoop i { s1.loop i with runMode := 0 }).forward fwLoop [wd (i + 131072)]
    else
      let l := s1.loopLatch i
      (s1.loopPend i l).forward fwLoop (latchWords i l)

/-- A trigger forwarded to a leeward module, on the windward module's values (R283). -/
def State.loopForwarded (s : State) (ws : List Word) : State :=
  let i := (wAt ws 0).toNat % 65536
  if !loopEn (s.loopRec i) then s
  else if wBit ws 0 16 || (s.loop i).pending.isSome then s.loopSkip i
  else
    let s0 := s.takeLoopItems i
    if wBit ws 0 17 then (s0.setLoop i { s0.loop i with mode := 0, runMode := 0 }).stopIdle i else
    let s1 := (s0.setLoop i { s0.loop i with
      mode := wBits ws 9 1 0, manual := wInt ws 10, lo := wInt ws 11, hi := wInt ws 12 }).stopIdle i
    let l := s1.loopLatch i
    let pair := fun k => signed 64 ((wAt ws k).toNat + (wAt ws (k + 1)).toNat * 2 ^ 32)
    s1.loopPend i { l with
      pv := pair 1, sp := pair 3, ff := wInt ws 5, bad := (wAt ws 6) != 0
      time := (wAt ws 7).toNat + (wAt ws 8).toNat * 2 ^ 32 }

/-- Trigger line `n` acts (R277): every slot that the line triggers. -/
def State.loopLine (s : State) (n : Nat) : State :=
  (upFrom 0 1024).foldl (fun s i =>
    let r := s.loopRec i
    if wBit r 1 21 && wBits r 1 20 16 == n then s.loopTrigger i else s) s

end Sys2Proof.Machine
end

