-- ==== Sys2Proof/Machine/Places.lean ====
section
/-! DEFINITION. What boot code gives each partition of memory (R20, R101, R102, R122, R125, R166, R238, R259): its areas, which lie
in the regions that the manual names and do not meet, and the sixteen protection windows on them. -/

namespace Sys2Proof.Machine

/-- An area: its first byte and its bytes. -/
abbrev Area := Nat × Nat

/-- Whether no two areas meet. -/
def apart : List Area → Bool
  | [] => true
  | a :: as => as.all (fun b => a.2 == 0 || b.2 == 0 || decide (a.1 + a.2 ≤ b.1) || decide (b.1 + b.2 ≤ a.1)) && apart as

/-- Areas on page boundaries, inside [lo, hi), of which no two meet (R101). -/
def properLayout (lo hi : Nat) (as : List Area) : Bool :=
  as.all (fun a => decide (lo ≤ a.1) && decide (a.1 + a.2 ≤ hi) && a.1 % 4096 == 0) && apart as

/-- Areas one after another from `a`. -/
def stacked : Nat → List Nat → List Area
  | _, [] => []
  | a, n :: ns => (a, n) :: stacked (a + n) ns

/-- The areas of a region: boot code's own choice where it is proper, otherwise one after another. -/
def layout (region lo hi : Nat) (sizes : List Nat) : List Area :=
  let own := sizes.zipIdx.map fun e => (Config.areaBase region sizes e.2, e.1)
  if properLayout lo hi own then own else stacked lo sizes

/-- Area `i` of a layout; empty where it does not fit below `hi`. -/
def areaOf (hi i : Nat) (as : List Area) : Area :=
  let a := as.getD i (0, 0)
  if a.1 + a.2 ≤ hi then a else (0, 0)

/-! ### The regions -/

/-- Bank 15 (R20), and the part of DRAM above the large buffers (R238). -/
def bank15Lo : Nat := 0x11E00000
def bank15Hi : Nat := 0x12000000
def dramLo : Nat := 0x120000000
def dramHi : Nat := 0x300000000
/-- Banks 10 and 11. -/
def imagesLo : Nat := 0x11400000
def imagesHi : Nat := 0x11800000

/-- The bank-15 share and the DRAM instance area of a partition since reset, in bytes (R125). -/
def State.room (s : State) (p : Nat) : Nat × Nat := SMap.get (0, 0) p s.prt.room

/-- Sizes of `n` areas that boot code chooses, in steps of `unit` bytes: its own where they fit in `all` bytes, otherwise equal
shares. -/
def chosenSizes (all unit : Nat) (own : List Nat) : List Nat :=
  let sizes := own.map fun n => n * unit
  if sizes.foldl (· + ·) 0 ≤ all then sizes else own.map fun _ => all / own.length / unit * unit

def ofKind (kind : Nat) : List Nat := (upFrom 0 64).map (Config.areaSize kind)

/-- Bank-15 shares. -/
def State.areas15 (s : State) : List Area :=
  layout 0 bank15Lo bank15Hi ((upFrom 0 64).map fun p => (s.room p).1)

/-- Areas in DRAM: 64 instance areas, 64 pairs of code banks, 64 areas of constant data. -/
def State.areasDram (s : State) : List Area :=
  let inst := (upFrom 0 64).map fun p => (s.room p).2
  layout 1 dramLo dramHi (inst ++ chosenSizes (dramHi - dramLo - inst.foldl (· + ·) 0) 8192 (ofKind 0 ++ ofKind 1))

/-- Areas in banks 10 and 11: 64 of snapshots, 64 of output images. -/
def areasImages : List Area :=
  layout 2 imagesLo imagesHi (chosenSizes (imagesHi - imagesLo) 4096 (ofKind 2 ++ ofKind 3))

def State.shareArea (s : State) (p : Nat) : Area := areaOf bank15Hi p s.areas15
def State.dramArea (s : State) (p : Nat) : Area := areaOf dramHi p s.areasDram
def State.codeArea (s : State) (p : Nat) : Area := areaOf dramHi (64 + p) s.areasDram
def State.constArea (s : State) (p : Nat) : Area := areaOf dramHi (128 + p) s.areasDram
def snapsArea (p : Nat) : Area := areaOf imagesHi p areasImages
def imagesArea (p : Nat) : Area := areaOf imagesHi (64 + p) areasImages

/-- Code bank `b` of partition `p`: the two halves of its code area (R166). -/
def State.codeBank (s : State) (p b : Nat) : Nat := (s.codeArea p).1 + b * ((s.codeArea p).2 / 2)

/-- Base of a partition's constant data. -/
def State.constBase (s : State) (p : Nat) : Nat := (s.constArea p).1

/-- Where `n` bytes of a task stand in its partition's area. -/
def placeIn (a : Area) (kind t n : Nat) : Nat :=
  let o := Config.taskPlace kind t * 64
  if o + n ≤ a.2 then a.1 + o else a.1

/-- Declaration of task `t`. -/
def State.declOf (s : State) (t : Nat) : List Word := (SMap.get {} t s.prt.tasks).decl

/-- The snapshot and the output image of task `t`, in banks 10 and 11 (R20, R124). -/
def State.snapArea (s : State) (t : Nat) : Nat :=
  placeIn (snapsArea (wBits (s.declOf t) 2 5 0)) 0 t (wBits (s.declOf t) 6 15 0)
def State.imageArea (s : State) (t : Nat) : Nat :=
  placeIn (imagesArea (wBits (s.declOf t) 2 5 0)) 1 t (wBits (s.declOf t) 6 31 16)

/-! ### Protection windows (R101) -/

/-- Attributes of a window: r 1, w 2, x 4. -/
def attrR : Nat := 1
def attrRW : Nat := 3
def attrX : Nat := 4

/-- The port page that the records assign to partition `p` (R259). -/
def State.pageOf (s : State) (p : Nat) : Option Nat :=
  (upFrom 1 14).find? fun k => wBit (s.rec_ 4 (0x2100 + k)) 0 8 && wBits (s.rec_ 4 (0x2100 + k)) 0 5 0 == p

/-- The windows that boot code grants partition `p`: area and attributes; an empty area grants none. `sysPage`: the partitions
whose configuration asks for the first page of SYS (R56). Partition 0 holds banks 0 to 4 and the large buffers besides
(R238), and no port page. -/
def State.bootWins (s : State) (sysPage : List Nat) (p : Nat) : List (Area × Nat) :=
  let none_ : Area × Nat := ((0, 0), 0)
  [(s.codeArea p, attrX), (s.constArea p, attrR), (s.shareArea p, attrRW), (s.dramArea p, attrRW)] ++
  ((upFrom 0 4).map fun k => ((0x10C00000 + k * 0x200000 + p * 0x8000, 0x8000), attrRW)) ++
  [(snapsArea p, attrR), (imagesArea p, attrRW),
   ((0x100000000 + p * 0x4000, 0x2000), attrRW), ((0x100002000 + p * 0x4000, 0x2000), attrR),
   if p = 0 then ((0x10000000, 0xA00000), attrRW)
   else match s.pageOf p with
     | some k => ((0x40030000 + k * 0x1000, 0x1000), attrRW)
     | none => none_,
   if s.reg (Reg.PRT_PFCRIGHT p) = 0 then none_ else ((0x40151000, 0x2000), attrR),
   ((0x40020000, 0x1000), attrRW),
   if p = 0 then ((0x110000000, 0x10000000), attrRW)
   else if sysPage.contains p then ((0x40000000, 0x1000), attrR) else none_]

/-- A window written to its registers; one of no size is left off. -/
def State.writeWindow (s : State) (p w : Nat) (x : Area × Nat) : State :=
  let (a, n) := x.1
  if n = 0 then (s.setReg (Reg.PRT_WIN_BASE p w) 0).setReg (Reg.PRT_WIN_SIZE p w) 0
  else
    (s.setReg (Reg.PRT_WIN_BASE p w) (wd (2 ^ 31 + x.2 * 2 ^ 28 + a / 4096))).setReg (Reg.PRT_WIN_SIZE p w)
      (wd (n / 4096 - 1))

/-- Windows of `p` from number `w` on. -/
def State.writeWindows (s : State) (p : Nat) : Nat → List (Area × Nat) → State
  | _, [] => s
  | w, x :: xs => (s.writeWindow p w x).writeWindows p (w + 1) xs

/-- Whether the shares and the areas that a configuration gives fit in bank 15 and in DRAM: otherwise its windows would
overlap (R101). -/
def State.roomFits (s : State) : Bool :=
  let sum := fun w => ((upFrom 0 64).map fun p => (wAt (s.rec_ 2 (0x1000 + p)) w).toNat).foldl (· + ·) 0
  decide (sum 8 ≤ bank15Hi - bank15Lo) && decide (sum 9 ≤ dramHi - dramLo)

end Sys2Proof.Machine
end

