-- ==== Sys2Proof/Machine/Plan.lean ====
section
/-! DEFINITION. The plan in force (R104 to R106): its areas, its tables, and the task triggers of
R24 to R26. -/

namespace Sys2Proof.Machine

/-- Base of plan area `k` (R104). -/
def planArea (k : Nat) : Nat := 0x11DF0000 + k * 0x8000

/-- The area in force. -/
def State.planBase (s : State) : Nat := planArea (s.fld Fld.PRT_PLANSTAT_active)

/-- A task entry of plan area at `b` (R105). -/
def State.taskWord (s : State) (b t i : Nat) : Word := s.word (b + 0x440 + 16 * t + 4 * i)

/-- A partition entry (R105). -/
def State.partWord (s : State) (b p i : Nat) : Word := s.word (b + 0x40 + 16 * p + 4 * i)

/-- A lane table entry (R106). -/
def State.laneWord (s : State) (b l e i : Nat) : Word := s.word (b + 0x2440 + l * 0x800 + 8 * e + 4 * i)

/-- What the plan in force says of task `t`. -/
def State.taskPlaced (s : State) (t : Nat) : Bool := bit (s.taskWord s.planBase t 0) 22
def State.taskBudget (s : State) (t : Nat) : Nat := bits (s.taskWord s.planBase t 0) 15 0
def State.taskLane (s : State) (t : Nat) : Nat := bits (s.taskWord s.planBase t 0) 19 16
def State.taskCrit (s : State) (t : Nat) : Nat := bits (s.taskWord s.planBase t 0) 21 20
def State.taskCold (s : State) (t : Nat) : Bool := bit (s.taskWord s.planBase t 0) 23
def State.taskPeriod (s : State) (t : Nat) : Nat := bits (s.taskWord s.planBase t 1) 15 0
def State.taskPhase (s : State) (t : Nat) : Nat := bits (s.taskWord s.planBase t 1) 31 16
def State.taskPart (s : State) (t : Nat) : Nat := bits (s.taskWord s.planBase t 2) 5 0
def State.taskByLine (s : State) (t : Nat) : Bool := bit (s.taskWord s.planBase t 2) 6
def State.taskLine (s : State) (t : Nat) : Nat := bits (s.taskWord s.planBase t 2) 13 8

/-- Quotas of partition `p` (R105, R120). -/
def State.quotaQueues (s : State) (p : Nat) : Nat := bits (s.partWord s.planBase p 1) 13 0
def State.quotaDesc (s : State) (p : Nat) : Nat := bits (s.partWord s.planBase p 1) 30 16
def State.quotaSmall (s : State) (p : Nat) : Nat := bits (s.partWord s.planBase p 2) 15 0
def State.quotaLarge (s : State) (p : Nat) : Nat := bits (s.partWord s.planBase p 2) 28 16
def State.dramCredits (s : State) (p : Nat) : Nat := bits (s.partWord s.planBase p 0) 11 0

/-- Task and lane objects. -/
def State.task (s : State) (t : Nat) : Task := SMap.get {} t s.prt.tasks
def State.setTask (s : State) (t : Nat) (x : Task) : State :=
  { s with prt := { s.prt with tasks := SMap.set {} t x s.prt.tasks } }
/-- Base of the instance pair of task `t`: the old place until a move has been made, and the pair of the old layout until a
new one has been built (R105, R129, R170). -/
def State.taskInst (s : State) (t : Nat) : Nat :=
  let x := s.task t
  let place := (s.taskWord s.planBase t 3).toNat * 64
  match x.oldBase, x.oldPair with
  | some b, _ => b
  | none, some (b, _) => if x.migrated then place else b
  | none, none => place

def State.lane (s : State) (l : Nat) : Lane := SMap.get {} l s.prt.lanes
def State.setLane (s : State) (l : Nat) (x : Lane) : State :=
  { s with prt := { s.prt with lanes := SMap.set {} l x s.prt.lanes } }

/-- States of PRT_TSTATt.state. -/
def tsNone : Nat := 0
def tsIdle : Nat := 1
def tsPending : Nat := 2
def tsRunning : Nat := 3
def tsSuspended : Nat := 4
def tsShed : Nat := 5
def tsFaulty : Nat := 6

/-- A trigger that finds the task occupied, or halted, is counted and discarded (R26, R117). -/
def State.skipTrigger (s : State) (t : Nat) : State :=
  (s.bump (Fld.PRT_TOVR_skipped t)).setTask t
    { s.task t with skippedNow := (s.task t).skippedNow + 1 }

/-- A trigger reaches task `t`: at most one activation pending (R26); a halted task's trigger counts
as skipped (R117); a shed task takes none (R130). `slot`: the action slot it came from. -/
def State.takeTrigger (s : State) (t src : Nat) (angle : Word) (slot : Nat := 4096) : State :=
  if (s.task t).halted then s.skipTrigger t
  else if !s.taskPlaced t then s
  else match (s.task t).pending with
    | some _ => s.skipTrigger t
    | none =>
      let s1 := s.setTask t { s.task t with pending := some ⟨src, angle, s.clk, slot⟩ }
      if s1.fld (Fld.PRT_TSTAT_state t) == tsIdle then s1.put (Fld.PRT_TSTAT_state t) tsPending else s1

/-- Whether a trigger of this clock joins the one that task `t` has pending from the same clock: actions and event-matrix routes that
reach one target in one clock make one event for it (R332). -/
def State.joinsTrigger (s : State) (t slot : Nat) : Bool :=
  match (s.task t).pending with
  | some p => decide (p.order = s.clk) && (decide (slot < 4096) || decide (p.slot < 4096)) && !(s.task t).halted
  | none => false

/-- A trigger joined to the pending one: the lowest-numbered slot gives the angle and the source (R332). -/
def State.joinTrigger (s : State) (t src : Nat) (angle : Word) (slot : Nat) : State :=
  match (s.task t).pending with
  | some p =>
    if slot < p.slot then s.setTask t { s.task t with pending := some { p with src := src, angle := angle, slot := slot } } else s
  | none => s

/-- A trigger of this module's own sources reaches task `t`: forwarded for an in-step task (R202), as one joined where it is (R332). -/
def State.trigger (s : State) (t src : Nat) (angle : Word) (slot : Nat := 4096) : State :=
  let joins := s.joinsTrigger t slot
  let s1 := if s.taskCold t then s else s.forward fwTrigger [wd (t + 512 * b1 joins + 1024 * (4096 - slot)), wd src, angle]
  if joins then s1.joinTrigger t src angle slot else s1.takeTrigger t src angle slot

/-- A trigger forwarded by the windward module (R202). -/
def State.triggerForwarded (s : State) (w src angle : Word) : State :=
  let t := w.toNat % 512
  if bit w 9 then s.joinTrigger t (src.toNat % 256) angle (4096 - bits w 22 10)
  else s.takeTrigger t (src.toNat % 256) angle (4096 - bits w 22 10)

/-- Task activation line `l` acts: every task that names it is triggered (R24). -/
def State.triggerLine (s : State) (l src : Nat) (angle : Word) (slot : Nat := 4096) : State :=
  (upFrom 0 512).foldl (fun s t =>
    if s.taskByLine t && s.taskLine t == l && (s.taskPlaced t || (s.task t).halted)
    then s.trigger t src angle slot else s) s

/-- The periodic triggers of the 250 µs tick with number `i` in the trade cycle (R23, R24). -/
def State.triggerPeriodic (s : State) (i : Nat) : State :=
  (upFrom 0 512).foldl (fun s t =>
    if !s.taskByLine t && s.taskPeriod t != 0 && s.taskPhase t ≤ i &&
        (i - s.taskPhase t) % s.taskPeriod t == 0 && (s.taskPlaced t || (s.task t).halted)
    then s.trigger t 255 0 else s) s

end Sys2Proof.Machine
end

