-- ==== Sys2Proof/Machine/Triggers.lean ====
section
/-! DEFINITION. What an event does at the recorder and at the counters: a record trigger latches the values of its
definitions (R499, R500), and a capture copies the counters of a group (R585, R586). -/

namespace Sys2Proof.Machine

def State.evDef (s : State) (d : Nat) : EvDef := SMap.get {} d s.evr.defs
def State.setEvDef (s : State) (d : Nat) (x : EvDef) : State :=
  { s with evr := { s.evr with defs := SMap.set {} d x s.evr.defs } }
/-- Record of definition `d` (R499). -/
def State.evRec (s : State) (d : Nat) : List Word := s.rec_ 0x0D d
def evEn (r : List Word) : Bool := wBit r 0 0

/-- A point as the live images hold it: a force, an input, or the value its owner published. -/
def State.imageValue (s : State) (a : Nat) : Word64 :=
  match s.forceOf a with
  | some f => f.val.setWidth 64
  | none => if (SMap.get {} a s.pts) = ({} : Point) then (s.out a).val else (s.point a).val

/-- Values of the point entries `ws`, the first of them entry `i`; two consecutive entries of one point are its
high and its low word. -/
def State.latchEntries (s : State) (regs : Nat) : List Word → Nat → Option Word → List (Option Word)
  | [], _, _ => []
  | w :: ws, i, open_ =>
    if regs.testBit i then none :: s.latchEntries regs ws (i + 1) none
    else
      let v := s.imageValue w.toNat
      if open_ = some w then some (lo32 v.toNat) :: s.latchEntries regs ws (i + 1) none
      else if ws.head? = some w ∧ regs.testBit (i + 1) = false then
        some (hi32 v.toNat) :: s.latchEntries regs ws (i + 1) (some w)
      else some (lo32 v.toNat) :: s.latchEntries regs ws (i + 1) none

/-- A trigger reaches definition `d` with its time: values latched, or counted as missed (R500). -/
def State.evTrigger (s : State) (d time : Nat) : State :=
  let r := s.evRec d
  let x := s.evDef d
  match x.capture with
  | some _ => s.setEvDef d { x with missed := satInc 16 x.missed, missedFlag := true }
  | none =>
    let es := ((r.drop 3).take (wBits r 0 13 9)).take 24
    s.setEvDef d { x with capture := some ⟨time, s.latchEntries (wBits r 27 23 0) es 0 none, s.time⟩ }

/-- Record trigger line `l` acts (R34). -/
def State.recordLine (s : State) (l : Nat) : State :=
  (upFrom 0 256).foldl (fun s d =>
    let r := s.evRec d
    if evEn r && !wBit r 0 1 && wBits r 0 5 2 == l then s.evTrigger d s.time else s)
    (s.putBit Fld.EVR_LINEFIRED_fired l true)

/-- An edge of a digital point reaches the live image, with its own time (R499, R500). -/
def State.pointEdge (s : State) (a : Nat) (rising : Bool) (time : Nat) : State :=
  (upFrom 0 256).foldl (fun s d =>
    let r := s.evRec d
    let e := wBits r 0 7 6
    if evEn r && wBit r 0 1 && (wAt r 1).toNat == a && (e == 3 || e == (if rising then 1 else 2))
    then s.evTrigger d time else s) s

/-- A capture reaches group `g`: 0 to 3 shadow groups, 4 and 5 snapshot groups. Within 100 µs of the last one it
is discarded. -/
def State.capture (s : State) (g : Nat) : State :=
  let soon := match SMap.get none g s.pfcAt with | some t => decide (s.clk < t + 25000) | none => false
  if soon then s.bump (Fld.PFC_GSEQ_missed g)
  else
    let s1 := s.pfc.foldl (fun s e =>
      let x := e.2
      let v := if x.wasAt = s.clk + 1 then x.was else x.count - (if x.last = s.clk + 1 then x.inClk else 0)
      if g < 4 then
        (if bits x.ev 6 4 = g + 1 then s.putSplit (Reg.PFC_SHD_HI e.1) (Reg.PFC_SHD_LO e.1) v else s)
      else if bits x.ev 3 2 = g - 3 then s.putSplit (Reg.PFC_SNAP_HI e.1) (Reg.PFC_SNAP_LO e.1) v else s) s
    let s2 := (s1.putSplit (Reg.PFC_GTIME_HI g) (Reg.PFC_GTIME_LO g) s1.time).wrapInc (Fld.PFC_GSEQ_count g)
    let s3 := (s2.flag (Fld.PFC_GSEQ_valid g) (s2.isSet Fld.TU_STAT_valid)).flag (Fld.PFC_GSEQ_holdover g)
      (s2.fld Fld.TU_STAT_state == 3)
    { s3 with pfcAt := SMap.set none g (some s3.clk) s3.pfcAt }

/-- A counter's record takes force: a changed enable, mode, event or filter restarts it from 0 (R583). -/
def State.applyPfcRec (s : State) (c : Nat) (old : List Word) : State :=
  let r := s.rec_ 0x16 c
  let x := SMap.get {} c s.pfc
  let same := setBits (wAt r 0) 6 2 0 = setBits (wAt old 0) 6 2 0 ∧ wAt r 1 = wAt old 1
  let was := if x.wasAt = s.clk + 1 then x.was else x.count - (if x.last = s.clk + 1 then x.inClk else 0)
  let fresh : PfcCnt := { ev := wAt r 0, filt := wAt r 1, was := was, wasAt := s.clk + 1 }
  let y : PfcCnt :=
    if !wBit r 0 0 then {}
    else if same then { x with ev := wAt r 0 } else { fresh with held := s.pfcHolds fresh }
  let s1 := { s with pfc := SMap.set {} c y s.pfc }
  ((s1.setReg (Reg.PFC_EV c) (wAt r 0)).setReg (Reg.PFC_FILT c) (wAt r 1)).put Fld.PFC_STAT_enabled s1.pfc.length

end Sys2Proof.Machine
end

