-- ==== Sys2Proof/Machine/EventMatrix.lean ====
section
/-! DEFINITION. The event matrix (R33 to R37): a source fires, its enabled sinks count it in their
dividers and act. -/

namespace Sys2Proof.Machine

/-- Whether target `key` was already reached in this clock, where one of the two events is an action's (R332). -/
def State.reachedNow (s : State) (key slot : Nat) : Bool :=
  let r := SMap.get (0, 4096) key s.ad.reached
  r.1 == s.clk + 1 && (decide (slot < 4096) || decide (r.2 < 4096))

/-- Target `key` reached in this clock by action slot `slot`; 4 096 where by none. -/
def State.markReached (s : State) (key slot : Nat) : State :=
  let low := if s.reachedNow key slot then min slot (SMap.get (0, 4096) key s.ad.reached).2 else slot
  { s with ad := { s.ad with reached := SMap.set (0, 4096) key (s.clk + 1, low) s.ad.reached } }

/-- What sink `k` does when it acts on an event of source `src` with angle `angle` (R34). A task takes the action slot with its trigger,
a loop slot takes one trigger in a clock, and a converter or a counter group that an action reaches takes one event in a clock
(R332). -/
def State.sinkAct (s : State) (k src : Nat) (angle : Word) (slot : Nat := 4096) : State :=
  if k < 64 then (if s.tasksTrigger then s.triggerLine k src angle slot else s)
  else if k < 96 then s.loopLine (k - 64)
  else if k < 104 then
    let s1 := s.markReached k slot
    if s.reachedNow k slot then s1
    else if k < 98 then s1.aiStart (k - 96)
    else if k < 100 then s1.capture (4 + (k - 98))
    else s1.capture (k - 100)
  else if k < 120 then s.recordLine (k - 104)
  else s

/-- One sink at an event of source `src` (R35, R37): every (div + 1)th event acts. -/
def State.sinkEvent (src : Nat) (angle : Word) (slot : Nat) (s : State) (k : Nat) : State :=
  let r := s.reg (Reg.SYS_EVM_SINK k)
  if bit r 8 && bits r 7 0 == src then
    let n := SMap.get 0 k s.sys.divs
    if n < bits r 23 16 then { s with sys := { s.sys with divs := SMap.set 0 k (n + 1) s.sys.divs } }
    else
      let s1 := { s with sys := { s.sys with divs := SMap.set 0 k 0 s.sys.divs } }
      (s1.putBit (Fld.SYS_EVM_SINKHIT_hit (k / 32)) (k % 32) true).sinkAct k src angle slot
  else s

/-- Source `src` fires, with the angle that belongs to the event and the action slot it comes from (R33, R35). -/
def State.fireAt (s : State) (src : Nat) (angle : Word) (slot : Nat := 4096) : State :=
  (upFrom 0 120).foldl (State.sinkEvent src angle slot)
    ((s.putBit (Fld.SYS_EVM_FIRED_fired (src / 32)) (src % 32) true).pfcEvent 1 src 1)

/-- Event line `l` fires for action slot `a`. Where another slot fired it in this clock, that event stands, and a task it made pending
takes the angle of the lower slot (R332). -/
def State.fireEventLine (s : State) (l a : Nat) (angle : Word) : State :=
  let s1 := s.markReached l a
  if s.reachedNow l a then
    (upFrom 0 512).foldl (fun s t =>
      match (s.task t).pending with
      | some p => if p.src == 40 + l && s.joinsTrigger t a && decide (a < p.slot) then s.trigger t p.src angle a else s
      | none => s) s1
  else s1.fireAt (40 + l) angle a

/-- Source `src` fires. -/
def State.fire (s : State) (src : Nat) : State := s.fireAt src 0

end Sys2Proof.Machine
end

