-- ==== Sys2Proof/Machine/Queues.lean ====
section
/-! DEFINITION. The queue engine's operations (R238 to R253): pools, quotas, enqueue, dequeue, watches.
Descriptors and payloads stand in memory at the places R238 gives; the lists of the queue engine say
which are allocated and in what order they wait. -/

namespace Sys2Proof.Machine

/-! ### Agents (R243) -/

/-- An agent that allocates, enqueues or dequeues (R243): the management pair; lanes 0 to 7; Ethernet ports 0 to 3 and, as 4 and 5,
cages X7 and X8; CAN and serial ports; the rings; FIO; the control engine; the recorder; the coordinator. -/
inductive Agent where
  | management
  | lane (l : Nat)
  | eth (p : Nat)
  | can (p : Nat)
  | serial (p : Nat)
  | ring (r : Nat)
  | fio
  | control
  | recorder
  | coordinator
  deriving DecidableEq, Repr

/-- Requester number. It ranks operations of one fabric clock (R244); commands of one clock come in that order in the queue of
commands, which is the order of service (log entry 142). -/
def Agent.requester : Agent → Nat
  | .management => 0
  | .lane l => 1 + l % 8
  | .eth p => 16 + p % 6
  | .can p => 24 + p % 4
  | .serial p => 28 + p % 4
  | .ring r => 32 + r % 2
  | .fio => 34
  | .control => 35
  | .recorder => 36
  | .coordinator => 37

/-- Endpoint code. -/
def Agent.endpoint : Agent → Nat
  | .management => 0x00
  | .lane _ => 0x01
  | .eth p => 0x10 + p % 6
  | .can p => 0x18 + p % 4
  | .serial p => 0x1C + p % 4
  | .ring r => 0x20 + r % 2
  | .fio => 0x22
  | .control => 0x23
  | .recorder => 0x24
  | .coordinator => 0x25

/-- Addresses of pool elements (R238). -/
def smallAddr (i : Nat) : Nat := 0x10000000 + i * 0x100
def largeAddr (i : Nat) : Nat := 0x110000000 + i * 0x10000
def descAddr (i : Nat) : Nat := 0x10800000 + i * 0x20
def qHeaderAddr (i : Nat) : Nat := 0x10880000 + i * 0x10

/-- The lowest index below `n` that a sorted table does not list. -/
def firstFree (n : Nat) : Nat → List (Nat × Nat) → Option Nat
  | i, [] => if i < n then some i else none
  | i, (j, _) :: m => if i < j then (if i < n then some i else none) else firstFree n (j + 1) m

/-- Queue record fields (R241). -/
def State.qRec (s : State) (q : Nat) : List Word := s.rec_ 0x04 q
def State.qEn (s : State) (q : Nat) : Bool := wBit (s.qRec q) 0 8
def State.qOwner (s : State) (q : Nat) : Nat := wBits (s.qRec q) 0 5 0
def State.qDropOldest (s : State) (q : Nat) : Bool := wBit (s.qRec q) 0 9
def State.qLimit (s : State) (q : Nat) : Nat := wBits (s.qRec q) 1 14 0
def State.qProducer (s : State) (q : Nat) : Nat := wBits (s.qRec q) 2 7 0
def State.qConsumer (s : State) (q : Nat) : Nat := wBits (s.qRec q) 2 15 8
def State.qProdPart (s : State) (q : Nat) : Nat := wBits (s.qRec q) 2 21 16

def State.queue (s : State) (q : Nat) : Queue := SMap.get {} q s.qe.queues
def State.setQueue (s : State) (q : Nat) (x : Queue) : State :=
  { s with qe := { s.qe with queues := SMap.set {} q x s.qe.queues } }

/-- Free counts shown in QE_FREE0 and QE_FREE1. -/
def State.showFree (s : State) : State :=
  ((s.put Fld.QE_FREE0_small (32768 - s.qe.small.length)).put Fld.QE_FREE0_large
    (4096 - s.qe.large.length)).put Fld.QE_FREE1_desc (16384 - s.qe.desc.length)

/-- The port page of partition `p`, if one is assigned (R259). -/
def State.portPage (s : State) (p : Nat) : Option Nat :=
  (upFrom 1 14).find? fun k => s.isSet (Fld.QE_P_ID_en k) && s.fld (Fld.QE_P_ID_part k) == p

/-- A depth refusal counted on the partition's port page (R247, R252). -/
def State.countDepth (s : State) (p : Nat) : State :=
  match s.portPage p with | some k => s.bump (Fld.QE_P_REFUSE_depth k) | none => s

/-- A quota refusal counted in PRT_REFUSE and on the port page (R244). -/
def State.countQuota (s : State) (p : Nat) : State :=
  let s1 := s.bump (Fld.PRT_REFUSE_quota p)
  match s.portPage p with | some k => s1.bump (Fld.QE_P_REFUSE_quota k) | none => s1

/-- Kinds of element: 0 small buffer, 1 large buffer, 2 descriptor (QE_ALLOCREQ). -/
def useFld (kind p : Nat) : Fld :=
  if kind = 0 then Fld.PRT_USE_Q1_small p
  else if kind = 1 then Fld.PRT_USE_Q1_large p else Fld.PRT_USE_Q0_desc p

def State.quotaOf (s : State) (kind p : Nat) : Nat :=
  if kind = 0 then s.quotaSmall p else if kind = 1 then s.quotaLarge p else s.quotaDesc p

def State.freeElem (s : State) (kind : Nat) : Option Nat :=
  if kind = 0 then firstFree 32768 0 s.qe.small
  else if kind = 1 then firstFree 4096 0 s.qe.large else firstFree 16384 0 s.qe.desc

/-- An element's charge: the partition plus 1, 0 when it is free. -/
def State.chargeOf (s : State) (kind i : Nat) : Nat :=
  if kind = 0 then SMap.get 0 i s.qe.small
  else if kind = 1 then SMap.get 0 i s.qe.large else SMap.get 0 i s.qe.desc

def State.setCharge (s : State) (kind i v : Nat) : State :=
  if kind = 0 then { s with qe := { s.qe with small := SMap.set 0 i v s.qe.small } }
  else if kind = 1 then { s with qe := { s.qe with large := SMap.set 0 i v s.qe.large } }
  else { s with qe := { s.qe with desc := SMap.set 0 i v s.qe.desc, makers := SMap.set 0 i 0 s.qe.makers } }

/-- An allocation (R244): granted while the pool has a free element and the charged partition's use
is below its quota; otherwise EMPTY, counted by its cause. The element is the lowest free one. -/
def State.alloc (s : State) (kind p : Nat) : State × Option Nat :=
  let quotaOk : Bool := decide (s.fld (useFld kind p) < s.quotaOf kind p)
  match s.freeElem kind, quotaOk with
  | some i, true =>
    (((s.setCharge kind i (p + 1)).put (useFld kind p) (s.fld (useFld kind p) + 1)).showFree,
      some i)
  | none, true => (s.bump Fld.QE_EMPTYCNT_pool, none)
  | some _, false => (s.countQuota p, none)
  | none, false => ((s.bump Fld.QE_EMPTYCNT_pool).countQuota p, none)

/-- An element freed, and its charge returned (R245). -/
def State.release (s : State) (kind i : Nat) : State :=
  match s.chargeOf kind i with
  | 0 => s
  | p + 1 => ((s.setCharge kind i 0).put (useFld kind p) (s.fld (useFld kind p) - 1)).showFree

/-- The handle of a buffer, and the buffer of a handle (R239). -/
def handleOf (kind i : Nat) : Nat := if kind = 1 then 0x8000 + i else i
def handleElem (h : Nat) : Option (Nat × Nat) :=
  if h < 0x8000 then some (0, h)
  else if h < 0x9000 then some (1, h - 0x8000) else none

/-- A handle that a descriptor may carry: of a buffer, or none. -/
def handleOk (h : Nat) : Bool := h == 0xFFFF || (handleElem h).isSome

/-- A buffer freed by its handle; 0xFFFF names none. -/
def State.freeHandle (s : State) (h : Nat) : State :=
  match handleElem h with | some (k, i) => s.release k i | none => s

/-- Words of descriptor `d` (R240). -/
def State.descWord (s : State) (d i : Nat) : Word := s.word (descAddr d + 4 * i)
def State.setDescWord (s : State) (d i : Nat) (v : Word) : State := s.setWord (descAddr d + 4 * i) v

def State.descHandles (s : State) (d : Nat) : List Nat :=
  [bits (s.descWord d 4) 15 0, bits (s.descWord d 4) 31 16,
   bits (s.descWord d 5) 15 0, bits (s.descWord d 5) 31 16]

/-- A message's descriptor and buffers freed (R247). -/
def State.freeMsg (s : State) (d : Nat) : State :=
  ((s.descHandles d).foldl State.freeHandle s).release 2 d

/-- Payload bytes of descriptor `d`, through its buffers in handle order (R240). -/
def State.msgBytes (s : State) (d : Nat) : List Byte :=
  let len := bits (s.descWord d 1) 16 0
  ((s.descHandles d).flatMap fun h =>
    match handleElem h with
    | some (0, i) => s.bytes (smallAddr i) 256
    | some (_, i) => s.bytes (largeAddr i) (if len < 65536 then len else 65536)
    | none => []).take len

/-- Payload of a message as words. -/
def bytesWords (fuel : Nat) (bs : List Byte) : List Word :=
  match fuel with
  | 0 => []
  | n + 1 => match bs with
    | [] => []
    | _ => wd (leNat (bs.take 4)) :: bytesWords n (bs.drop 4)

def State.msgWords (s : State) (d : Nat) : List Word :=
  let bs := s.msgBytes d
  bytesWords (bs.length / 4 + 1) bs

/-- Depth of a queue, taken messages included (R249). -/
def State.depth (s : State) (q : Nat) : Nat := (s.queue q).msgs.length

/-- Untaken messages of a queue, oldest first. -/
def State.untaken (s : State) (q : Nat) : List Nat :=
  (s.queue q).msgs.filter fun d => !(s.queue q).taken.contains d

/-- Watches of a queue whose depth rose from 0 (R248). -/
def State.fireWatches (s : State) (q : Nat) : State :=
  (upFrom 0 32).foldl (fun s w =>
    if s.isSet (Fld.QE_WATCH_en w) && s.fld (Fld.QE_WATCH_queue w) == q
    then (s.putBit Fld.QE_WATCHFIRED_fired w true).fire (104 + w) else s) s

/-- The links of a queue's descriptors in memory: word 0 names the next, or marks the last (R240). -/
def State.linkMsgs (q : Nat) (s : State) : List Nat → State
  | [] => s
  | [d] => s.setDescWord d 0 (setBits (setBits (setBits (s.descWord d 0) 28 16 q) 15 15 1) 13 0 0)
  | d :: e :: ds =>
    State.linkMsgs q
      (s.setDescWord d 0 (setBits (setBits (setBits (s.descWord d 0) 28 16 q) 15 15 0) 13 0 e)) (e :: ds)

/-- A queue as the first change of a clock finds it: with what the clock before left (R248). -/
def Queue.changing (x : Queue) (clk : Nat) : Queue :=
  if x.changedAt = clk + 1 then x else { x with changedAt := clk + 1, wasEmpty := x.msgs.isEmpty }

/-- Kinds of item that mirror an enqueue and a dequeue (R253). -/
def fwEnqueue : Nat := 21
def fwDequeue : Nat := 22

/-- An item of queue `q` sent to the leeward module (R253): queues 0 to 511 are not mirrored. What a join still changes while the
leeward module holds the copies of phase 5 is sent too (R228). -/
def State.mirrorQueue (s : State) (q kind : Nat) (ws : List Word) : State :=
  if q < 512 then s
  else if s.hasClaim && decide (5 ≤ s.fld Fld.RED_RESYNC_phase) then s.sendItem kind ws
  else s.forward kind ws

/-- Sequence of descriptor `d` within its queue (R240). -/
def State.descSeq (s : State) (d : Nat) : Nat := bits (s.descWord d 3) 15 0

/-- A message taken out of a queue's list of this module. -/
def State.unlinkHere (s : State) (q d : Nat) : State :=
  let x := (s.queue q).changing s.clk
  let ms := x.msgs.filter (· != d)
  State.linkMsgs q (s.setQueue q { x with msgs := ms, taken := x.taken.filter (· != d) }) ms

/-- A message taken out of a queue's list, on both modules of a pair (R253). -/
def State.unlinkMsg (s : State) (q d : Nat) : State :=
  (s.mirrorQueue q fwDequeue [wd q, wd (s.descSeq d)]).unlinkHere q d

/-- The oldest untaken message dropped to make room (R247). -/
def State.dropOldest (s : State) (q : Nat) : Option State :=
  match s.untaken q with
  | [] => none
  | d :: _ =>
    let s1 := (s.unlinkMsg q d).freeMsg d
    some (s1.setQueue q { s1.queue q with drops := (s1.queue q).drops + 1 })

/-- Descriptor `d` joins queue `q` with a sequence and a time (R240, R246). A watch fires where the clock before ended with depth 0
(R248). -/
def State.appendAs (s : State) (q d seq : Nat) (time : Word) : State :=
  let x := (s.queue q).changing s.clk
  let s1 := s.setQueue q { x with msgs := x.msgs ++ [d], seq := seq, wasEmpty := false }
  let s2 := (s1.setDescWord d 2 time).setDescWord d 3 (setBits (s1.descWord d 3) 15 0 seq)
  let s3 := State.linkMsgs q s2 ((s2.queue q).msgs.drop ((s2.queue q).msgs.length - 2))
  if x.msgs.isEmpty && x.wasEmpty then s3.fireWatches q else s3

/-- A message as an item mirrors it (R253): its queue, its task plus 1, words 0 to 3 and the user words of its descriptor, and its
payload. The manual gives such an item no layout (log entry 140). -/
def State.msgItem (s : State) (q d : Nat) : List Word :=
  [wd q, wd (SMap.get 0 d s.qe.makers), s.descWord d 0, s.descWord d 1, s.descWord d 2, s.descWord d 3, s.descWord d 6,
    s.descWord d 7] ++ s.msgWords d

/-- Descriptor `d` joins queue `q`, which has room, on both modules of a pair (R240, R246, R248, R253). -/
def State.append (s : State) (q d : Nat) : State :=
  let s1 := s.appendAs q d (((s.queue q).seq + 1) % 65536) (lo32 s.time)
  s1.mirrorQueue q fwEnqueue (s1.msgItem q d)

/-- Enqueue of a descriptor for producing partition `p` (R242, R247): whether it was taken. -/
def State.enqDesc (s : State) (q d p : Nat) : State × Bool :=
  if !s.qEn q then (s, false)
  else if s.depth q + (s.queue q).reserved < s.qLimit q then (s.append q d, true)
  else
    let refuse := ((s.bump Fld.QE_EMPTYCNT_depth).countDepth p, false)
    if s.qDropOldest q then
      match s.dropOldest q with
      | some s1 => (s1.append q d, true)
      | none => refuse
    else refuse

/-- `n` buffers of one kind for partition `p`, all or none. -/
def State.allocMany (s : State) (kind p : Nat) : Nat → List Nat → State × Option (List Nat)
  | 0, acc => (s, some acc.reverse)
  | n + 1, acc =>
    match s.alloc kind p with
    | (s1, some i) => State.allocMany s1 kind p n (i :: acc)
    | (s1, none) => (acc.foldl (fun s i => s.release kind i) s1, none)

/-- A QE transfer of `n` bytes of large buffer `i`, charged to the buffer's owner (R119). -/
def State.chargeLarge (s : State) (i n : Nat) : State := s.chargeDram (s.chargeOf 1 i - 1) (dramLines (largeAddr i) n)

/-- The payload written into its buffers. -/
def State.fillBufs (s : State) (kind : Nat) : List Nat → List Byte → State
  | [], _ => s
  | i :: is, bs =>
    if kind = 1 then (s.setBytes (largeAddr i) bs).chargeLarge i bs.length
    else (s.setBytes (smallAddr i) (bs.take 256)).fillBufs kind is (bs.drop 256)

/-- The handle words of a descriptor. -/
def handleWord (kind : Nat) (bufs : List Nat) (i : Nat) : Word :=
  let h := fun j => match bufs[j]? with | some b => handleOf kind b | none => 0xFFFF
  wd (h (2 * i) + h (2 * i + 1) * 65536)

/-- A message as an endpoint or a task hands it over: kind of R240, endpoint code of R243, payload
bytes and user words. -/
structure Msg where
  kind : Nat
  endpoint : Nat
  bytes : List Byte
  user0 : Word := 0
  user1 : Word := 0
  deriving DecidableEq, Repr

/-- A message for queue `q` allocated and written, charged to partition `p` (R240, R244, R245). Up to four small buffers hold
1 024 bytes; a longer payload takes one large buffer. -/
def State.writeMsg (s : State) (q p : Nat) (m : Msg) : State × Option Nat :=
  let len := m.bytes.length
  let kind := if len ≤ 1024 then 0 else 1
  let n := if kind = 0 then (len + 255) / 256 else 1
  match s.alloc 2 p with
  | (s1, none) => (s1, none)
  | (s1, some d) =>
    match s1.allocMany kind p n [] with
    | (s2, none) => (s2.release 2 d, none)
    | (s2, some bufs) =>
      let s3 := s2.fillBufs kind bufs m.bytes
      (s3.setWords (descAddr d)
        [wd (m.kind % 8 * 2 ^ 29 + q % 8192 * 65536), wd (len % 131072 + m.endpoint % 256 * 2 ^ 24),
         0, wd (p % 64 * 65536), handleWord kind bufs 0, handleWord kind bufs 1, m.user0, m.user1], some d)

/-- A message written and enqueued (R244): whether the queue took it. -/
def State.enqueue (s : State) (q p : Nat) (m : Msg) : State × Bool :=
  match s.writeMsg q p m with
  | (s1, none) => (s1, false)
  | (s1, some d) =>
    match s1.enqDesc q d p with
    | (s2, true) => (s2, true)
    | (s2, false) => (s2.freeMsg d, false)

/-- An enqueue of the windward module taken (R253): the same message, in an element of this module's own pools. -/
def State.takeEnqueue (s : State) (ws : List Word) : State :=
  let q := (wAt ws 0).toNat % 8192
  match s.writeMsg q (wBits ws 5 23 16) ⟨wBits ws 2 31 29, wBits ws 3 31 24, (wordBytes (ws.drop 8)).take (wBits ws 3 16 0),
      wAt ws 6, wAt ws 7⟩ with
  | (s1, none) => s1
  | (s1, some d) =>
    ({ s1 with qe := { s1.qe with makers := SMap.set 0 d (wAt ws 1).toNat s1.qe.makers } }).appendAs q d (wBits ws 5 15 0) (wAt ws 4)

/-- A dequeue of the windward module taken (R253): of the message of that sequence, if it stands here still. -/
def State.takeDequeue (s : State) (ws : List Word) : State :=
  let q := (wAt ws 0).toNat % 8192
  match (s.queue q).msgs.find? fun d => s.descSeq d == wBits ws 1 15 0 with
  | some d => (s.unlinkHere q d).freeMsg d
  | none => s

/-- A mirrored operation taken. -/
def State.takeQueueItem (s : State) (kind : Nat) (ws : List Word) : State :=
  if kind = fwEnqueue then s.takeEnqueue ws else s.takeDequeue ws

/-- A message of an endpoint other than a task, charged to the queue's owner (R245). -/
def State.deliver (s : State) (q : Nat) (m : Msg) : State × Bool := s.enqueue q (s.qOwner q) m

/-- The oldest untaken message of a queue, if it has one. -/
def State.front (s : State) (q : Nat) : Option Nat := (s.untaken q).head?

/-- A message out of its queue, its elements freed (R247). -/
def State.dropMsg (s : State) (q d : Nat) : State := (s.unlinkMsg q d).freeMsg d

/-- Up to `n` payload bytes of a message moved to its consumer: those of a large buffer from the DRAM (R119). -/
def State.readMsg (s : State) (d n : Nat) : State :=
  match (s.descHandles d).findSome? fun h => match handleElem h with | some (1, i) => some i | _ => none with
  | some i => s.chargeLarge i (min n (bits (s.descWord d 1) 16 0))
  | none => s

/-- A message taken and finished with by its consumer. -/
def State.consume (s : State) (q d : Nat) : State := (s.readMsg d 65536).dropMsg q d

/-- Message fields of a descriptor. -/
def State.msgKind (s : State) (d : Nat) : Nat := bits (s.descWord d 0) 31 29
def State.msgLen (s : State) (d : Nat) : Nat := bits (s.descWord d 1) 16 0
def State.msgEndpoint (s : State) (d : Nat) : Nat := bits (s.descWord d 1) 31 24
def State.msgTime (s : State) (d : Nat) : Word := s.descWord d 2
def State.msgPart (s : State) (d : Nat) : Nat := bits (s.descWord d 3) 23 16
def State.msgUser (s : State) (d i : Nat) : Word := s.descWord d (6 + i)

end Sys2Proof.Machine
end

