-- ==== Sys2Proof/Machine/Can.lean ====
section
/-! DEFINITION. CAN ports (R527 to R541): filters and delivery, the three transmit buffers, arbitration, outcomes and
reports, bus-off and return, bit-rate detection, and reference messages. -/

namespace Sys2Proof.Machine

/-! ### Records (R540) -/

def State.canRec (s : State) (p : Nat) : List Word := s.rec_ 0x11 p
def caEn (r : List Word) : Bool := wBit r 0 0
def caFd (r : List Word) : Bool := wBit r 0 1
def caPex (r : List Word) : Bool := wBit r 0 2
def caReturn (r : List Word) : Bool := wBit r 0 4
def caDetect (r : List Word) : Bool := wBit r 0 5
def caJoin (r : List Word) : Bool := wBit r 0 6
def caOrder (r : List Word) : Bool := wBit r 0 7
def caQueue (w : Nat) : Option Nat := if w = 0x1FFF then none else some w
def caTx (r : List Word) : Option Nat := caQueue (wBits r 3 12 0)
def caUrgent (r : List Word) : Option Nat := caQueue (wBits r 3 28 16)
def caReport (r : List Word) : Option Nat := caQueue (wBits r 4 12 0)
/-- Transmit timeout, bus-off delay and reference period in ns, and the storm limit. -/
def caTimeout (r : List Word) : Nat := (if wBits r 4 29 16 = 0 then 1000 else wBits r 4 29 16) * 1000000
def caDelay (r : List Word) : Nat := (if wBits r 5 13 0 = 0 then 100 else wBits r 5 13 0) * 1000000
def caStorm (r : List Word) : Nat := if wBits r 5 19 16 = 0 then 5 else wBits r 5 19 16
def caMaster (r : List Word) : Bool := wBit r 6 0
def caPeriod (r : List Word) : Nat := wBits r 7 13 0 * 1000000
/-- Identifier and IDE of the reference message, as user word 0 has them. -/
def caRefWord (r : List Word) : Nat := wBits r 6 30 2 + b1 (wBit r 6 1) * 2 ^ 29

def State.canPort (s : State) (p : Nat) : CanPort := SMap.get {} p s.can
def State.setCanPort (s : State) (p : Nat) (x : CanPort) : State := { s with can := SMap.set {} p x s.can }
def State.canState (s : State) (p : Nat) : Nat := s.fld (Fld.CAN_STAT_state p)

/-- States of a port (CAN_STAT). -/
def csOff : Nat := 0
def csDetecting : Nat := 1
def csIntegrating : Nat := 2
def csActive : Nat := 3
def csPassive : Nat := 4
def csReturning : Nat := 5
def csHeld : Nat := 6
def csLeeward : Nat := 7

/-- A port's state shown, with its mode bits. -/
def State.canTo (s : State) (p st : Nat) : State :=
  ((s.put (Fld.CAN_STAT_state p) st).flag (Fld.CAN_STAT_listen p) (st == csDetecting || st == csLeeward)).flag
    (Fld.CAN_STAT_fd p) (caFd (s.canRec p) && st != csOff)

def State.canBuf (s : State) (p b : Nat) : Option CanFrame := SMap.get none b (s.canPort p).bufs
/-- A buffer filled, changed or emptied, and CAN_TXB with it. -/
def State.setCanBuf (s : State) (p b : Nat) (f : Option CanFrame) : State :=
  let x := s.canPort p
  let s1 := s.setCanPort p { x with bufs := SMap.set none b f x.bufs }
  s1.put ⟨Reg.CAN_TXB p, 4 * b + 3, 4 * b⟩ (match f with | some g => g.phase | none => 0)

/-! ### Error counters (R535; ISO 11898-1) -/

/-- Error-active or error-passive by the counters, for a port that takes part in the bus. -/
def State.canJudge (s : State) (p : Nat) : State :=
  if s.canState p = csActive ∨ s.canState p = csPassive then
    s.canTo p (if 127 < s.fld (Fld.CAN_STAT_tec p) ∨ 127 < s.fld (Fld.CAN_STAT_rec p) then csPassive else csActive)
  else s

def State.recError (s : State) (p : Nat) : State := (s.bump (Fld.CAN_STAT_rec p)).canJudge p
def State.recGood (s : State) (p : Nat) : State :=
  let n := s.fld (Fld.CAN_STAT_rec p)
  (s.put (Fld.CAN_STAT_rec p) (if 127 < n then 127 else n - 1)).canJudge p

/-- The bus has been idle: a port that integrated takes part. -/
def State.canIntegrated (s : State) (p : Nat) : State :=
  if s.canState p = csIntegrating then (s.canTo p csActive).canJudge p else s

/-! ### Receiving (R529 to R531, R536) -/

/-- The first enabled filter of a port that matches. -/
def State.canFilter (s : State) (p : Nat) (w : Word) : Option Nat :=
  (upFrom 0 64).find? fun f =>
    let r := s.rec_ 0x11 (0x100 + 0x40 * p + f)
    wBit r 0 30 && wBit r 0 29 == bit w 29 && ((wAt r 0 ^^^ w) &&& wAt r 1 &&& 0x1FFFFFFF) == 0

/-- A frame at a port in detection: four valid frames in a row at a candidate are a find. -/
def State.canDetect (s : State) (p : Nat) (f : CanRx) : State :=
  if s.fld (Fld.CAN_ABD_state p) != 1 then s
  else
    let x := s.canPort p
    if f.err = 3 then s.bump (Fld.CAN_ABD_dataerr p)
    else if f.err ≠ 0 then s.setCanPort p { x with run := 0 }
    else
      let s1 := s.setCanPort p { x with run := x.run + 1 }
      if x.run + 1 < 4 then s1
      else
        let rate := wBits (s.canRec p) (8 + s.fld (Fld.CAN_ABD_cand p)) 20 0
        let s2 := (s1.put (Fld.CAN_ABD_state p) 2).put (Fld.CAN_ABDRATE_rate p) rate
        if caJoin (s.canRec p) then s2 else s2.record 9 536 p 0 rate 0xFF []

/-- A frame delivered through the filters; one that finds its queue full is counted, whatever the queue's policy (R531). -/
def State.canDeliver (s : State) (p : Nat) (f : CanRx) : State :=
  match s.canFilter p f.user0 with
  | none => s.bump (Fld.CAN_DROP_unmatched p)
  | some k =>
    let q := wBits (s.rec_ 0x11 (0x100 + 0x40 * p + k)) 2 12 0
    let head := wordBytes [lo32 (s.time - f.age), 0]
    let user1 := wd (b1 f.fdf + 2 * b1 f.brs + 4 * b1 f.esi + 256 * k + 65536 * p)
    let full := !decide (s.depth q + (s.queue q).reserved < s.qLimit q)
    let x := s.deliver q ⟨2, (Agent.can p).endpoint, head ++ f.data, f.user0, user1⟩
    if x.2 && !full then x.1 else x.1.bump (Fld.CAN_DROP_full p)

def State.canReceive (s : State) (p : Nat) (f : CanRx) : State :=
  let st := s.canState p
  if st = csOff ∨ st = csReturning ∨ st = csHeld then s
  else if st = csDetecting then s.canDetect p f
  else
    let s0 := s.canIntegrated p
    if f.err ≠ 0 then
      let s1 := if f.err = 1 then s0.bump (Fld.CAN_ERRCNT_crc p) else s0.bump (Fld.CAN_ERRCNT_frame p)
      if st = csLeeward then s1 else s1.recError p
    else
      let s1 := (s0.wrapInc (Fld.CAN_RXCNT_rx p)).pfcEvent 16 p 1
      if st = csLeeward then s1
      else
        let s2 := s1.recGood p
        let r := s2.canRec p
        let s3 := if caMaster r && bits f.user0 29 0 == caRefWord r then
            (s2.bump (Fld.CAN_REF_conflict p)).raiseAlert 537 p else s2
        s3.canDeliver p f

/-- A protocol exception event (R529). -/
def State.canException (s : State) (p : Nat) : State :=
  let st := s.canState p
  if st = csOff ∨ st = csReturning ∨ st = csHeld then s
  else if caPex (s.canRec p) || caFd (s.canRec p) then
    let s1 := s.bump ⟨Reg.CAN_PEX p, 31, 0⟩
    if st = csActive ∨ st = csPassive then s1.canTo p csIntegrating else s1
  else if st = csDetecting then s.setCanPort p { s.canPort p with run := 0 }
  else
    let s1 := s.bump (Fld.CAN_ERRCNT_frame p)
    if st = csLeeward then s1 else s1.recError p

/-! ### Outcomes and reports (R534) -/

def outcomeField (p o : Nat) : Option Fld :=
  if o = 1 then some (Fld.CAN_TXFAIL_lost p)
  else if o = 2 then some (Fld.CAN_TXFAIL_error p)
  else if o = 4 then some (Fld.CAN_TXFAIL_timeout p)
  else if o = 3 ∨ o = 6 then some (Fld.CAN_TXFAIL_busoff p)
  else if o = 5 then some (Fld.CAN_REF_late p) else none

/-- A frame ends with outcome `o`: its message is freed, and a report goes out when it is due. -/
def State.canOutcome (s : State) (p o : Nat) (f : CanFrame) : State :=
  let s1 := match f.desc with | some d => s.freeMsg d | none => s
  let s2 := match outcomeField p o with | some c => s1.bump c | none => s1.wrapInc (Fld.CAN_TXCNT_tx p)
  match caReport (s2.canRec p) with
  | none => s2
  | some q =>
    if (o = 0 ∧ bit f.user1 3 = false) ∨ s2.netSilent = true then s2
    else
      match s2.deliver q ⟨2, (Agent.can p).endpoint, wordBytes [lo32 s2.time, wd (f.seq % 65536)], f.user0, wd (o + 65536 * p)⟩ with
      | (s3, true) => s3
      | (s3, false) => s3.bump (Fld.CAN_DROP_full p)

/-- The frame of a buffer ends, and the buffer is empty. -/
def State.canEnd (s : State) (p b o : Nat) : State :=
  match s.canBuf p b with
  | some f => (s.setCanBuf p b none).canOutcome p o f
  | none => s

/-! ### The transmit buffers (R532, R533) -/

def canLength (fd : Bool) (n : Nat) : Bool :=
  decide (n ≤ 8) || (fd && (n == 12 || n == 16 || n == 20 || n == 24 || n == 32 || n == 48 || n == 64))

/-- Whether a port can send a frame (R530, R532). -/
def canSendable (r : List Word) (user0 user1 : Word) (len : Nat) : Bool :=
  let fdf := bit user1 0
  !(fdf && !caFd r) && canLength fdf len && !(bit user0 30 && fdf)

/-- Buffer `b` takes the oldest message of its queue. -/
def State.canLoad (s : State) (p b : Nat) : State :=
  let r := s.canRec p
  let st := s.canState p
  let q := if b < 2 then caTx r else if caMaster r then none else caUrgent r
  match q with
  | none => s
  | some q =>
    match s.front q with
    | none => s
    | some d =>
      if s.netSilent then s.consume q d
      else if (st ≠ csActive ∧ st ≠ csPassive) ∨ (s.canBuf p b).isSome = true then s
      else
        let x := s.canPort p
        let f : CanFrame := {
          user0 := s.msgUser d 0, user1 := s.msgUser d 1, data := s.msgBytes d, desc := some d
          seq := bits (s.descWord d 3) 15 0, loaded := s.time, order := x.next }
        let s1 := s.unlinkMsg q d
        if canSendable r f.user0 f.user1 f.data.length then
          (s1.setCanPort p { s1.canPort p with next := x.next + 1 }).setCanBuf p b (some f)
        else s1.canOutcome p 6 f

/-- The arbitration field of a frame as a number, the first bit sent the highest (ISO 11898-1). -/
def arbField (f : CanFrame) : Nat :=
  let base := bits f.user0 28 18
  let rtr := if bit f.user1 0 then 0 else b1 (bit f.user0 30)
  if bit f.user0 29 then base * 2 ^ 21 + 2 ^ 20 + 2 ^ 19 + bits f.user0 17 0 * 2 + rtr
  else base * 2 ^ 21 + rtr * 2 ^ 20

/-- The loaded buffers of a port: those not transmitting. -/
def State.canLoaded (s : State) (p : Nat) : List (Nat × CanFrame) :=
  (upFrom 0 3).filterMap fun b => (s.canBuf p b).bind fun f => if f.phase = 2 then none else some (b, f)

/-- The better of two buffers by a strict order. -/
def pick (lt : CanFrame → CanFrame → Bool) : List (Nat × CanFrame) → Option (Nat × CanFrame)
  | [] => none
  | x :: xs => match pick lt xs with
    | none => some x
    | some y => if lt y.2 x.2 then some y else some x

/-- The buffer that the port offers at bus idle. -/
def State.canChoice (s : State) (p : Nat) : Option (Nat × CanFrame) :=
  let xs := s.canLoaded p
  let earlier := fun (a b : CanFrame) => decide (a.order < b.order)
  if !caOrder (s.canRec p) then
    pick (fun a b => decide (arbField a < arbField b) || (arbField a == arbField b && earlier a b)) xs
  else
    let first := pick earlier (xs.filter fun e => decide (e.1 < 2))
    match xs.find? fun e => e.1 == 2, first with
    | some u, some e => if arbField u.2 < arbField e.2 then some u else some e
    | some u, none => some u
    | none, e => e

/-- Bus idle: one loaded buffer is offered and starts. -/
def State.canOffer (s : State) (p : Nat) : State :=
  let s0 := s.canIntegrated p
  if s0.canState p ≠ csActive ∧ s0.canState p ≠ csPassive then s0
  else if (upFrom 0 3).any fun b => match s0.canBuf p b with | some f => f.phase == 2 | none => false then s0
  else match s0.canChoice p with
    | some (b, f) =>
      (s0.setCanBuf p b (some { f with phase := 2 })).send (.can p) 533
        ([f.user0, f.user1, wd f.data.length] ++ bytesWords ((f.data.length + 3) / 4) f.data)
    | none => s0

/-! ### Bus-off and return (R535) -/

/-- The port enters bus-off. -/
def State.canBusOff (s : State) (p : Nat) : State :=
  let r := s.canRec p
  let st := s.canState p
  if st = csOff ∨ st = csDetecting ∨ st = csLeeward ∨ st = csReturning ∨ st = csHeld then s
  else
    let s1 := [0, 1, 2].foldl (fun s b => s.canEnd p b (if b = 2 ∧ caMaster r = true then 5 else 3)) s
    let x := s1.canPort p
    let offs := s1.time :: x.offs.filter fun t => decide (s1.time < t + 60000000000)
    let hold := decide (caStorm r < offs.length) || !caReturn r
    let s2 := s1.setCanPort p { x with offs := offs, recovering := false }
    (((s2.bump (Fld.CAN_ERRCNT_busoff p)).canTo p (if hold then csHeld else csReturning)).record 9 535 p 0 0 0xFF
      []).raiseAlert 535 p

/-- The bus-off delay ends and recovery starts. -/
def State.canRecover (s : State) (p : Nat) : State :=
  let x := s.canPort p
  if s.canState p ≠ csReturning then s
  else
    let s1 := s.runUntil (x.offs.headD s.time + caDelay (s.canRec p))
    s1.setCanPort p { s1.canPort p with recovering := true }

/-- Recovery completes: error-active, the counters at 0. -/
def State.canRecovered (s : State) (p : Nat) : State :=
  let x := s.canPort p
  if s.canState p ≠ csReturning ∨ x.recovering = false then s
  else
    ((((s.setCanPort p { x with recovering := false }).put (Fld.CAN_STAT_tec p) 0).put (Fld.CAN_STAT_rec p) 0).canTo p
      csActive).clearAlert 535 p

/-! ### The end of a transmission (R533, R534, R537) -/

/-- A transmission of buffer `b` ends: 0 sent, 1 arbitration lost, 2 an error, `ack` when it was a missing
acknowledgement, which leaves the counter of an error-passive port as it is (ISO 11898-1; log entry 155). `age` is the time since
its start of frame, `tdc` the delay measured. -/
def State.canResult (s : State) (p b res : Nat) (ack : Bool) (age tdc : Nat) : State :=
  match s.canBuf p b with
  | none => s
  | some f =>
    if f.phase ≠ 2 then s
    else if res = 0 then
      let s1 := if caFd (s.canRec p) && bit f.user1 0 then s.put (Fld.CAN_TDC_delay p) tdc else s
      let s2 := (s1.put (Fld.CAN_STAT_tec p) (s1.fld (Fld.CAN_STAT_tec p) - 1)).canJudge p
      let s3 := s2.canEnd p b 0
      if f.desc.isSome then s3
      else
        let sof := s3.time - age
        let s4 := (s3.wrapInc (Fld.CAN_REF_seq p)).putSplit (Reg.CAN_REFTIME_HI p) (Reg.CAN_REFTIME_LO p) sof
        (s4.setCanPort p { s4.canPort p with sof := sof, restart := false }).forward 13
          [wd p, wd (s4.fld (Fld.CAN_REF_seq p)), hi32 sof, lo32 sof]
    else if res = 1 then
      if bit f.user1 2 && f.desc.isSome then s.canEnd p b 1 else s.setCanBuf p b (some { f with phase := 3 })
    else
      let s1 := s.bump (if ack then Fld.CAN_ERRCNT_ack p else Fld.CAN_ERRCNT_frame p)
      let tec := s1.fld (Fld.CAN_STAT_tec p) + (if ack && s.canState p == csPassive then 0 else 8)
      let s2 := s1.put (Fld.CAN_STAT_tec p) (min tec 255)
      if 255 < tec then s2.canBusOff p
      else
        let s3 := s2.canJudge p
        if bit f.user1 2 && f.desc.isSome then s3.canEnd p b 2 else s3.setCanBuf p b (some { f with phase := 3 })

/-- A frame not sent within the transmit timeout from its loading. -/
def State.canTimeout (s : State) (p b : Nat) : State :=
  match s.canBuf p b with
  | some f => if f.desc.isSome then (s.runUntil (f.loaded + caTimeout (s.canRec p))).canEnd p b 4 else s
  | none => s

/-- A time master's instant: the clock moves on to the next multiple of the period for which no message has been loaded, and the
reference message is loaded (R537). -/
def State.canReference (s : State) (p : Nat) : State :=
  let r := s.canRec p
  if !caMaster r || caPeriod r == 0 then s
  else
    let k := s.time / caPeriod r
    let here := decide (s.time % caPeriod r < 4) && (s.canPort p).refAt != some k
    let s1 := if here then s else s.runUntil ((k + 1) * caPeriod r)
    let st := s1.canState p
    if (st ≠ csActive ∧ st ≠ csPassive ∧ st ≠ csIntegrating) ∨ (s1.canBuf p 2).isSome = true then s1
    else
      let x := s1.canPort p
      let seq := (s1.fld (Fld.CAN_REF_seq p) + 1) % 256
      let tu := s1.fld Fld.TU_STAT_state
      let flags := b1 (s1.isSet Fld.TU_STAT_valid) + 2 * b1 (tu == 3) + 4 * b1 (tu == 4) + 8 * b1 x.restart
      let data := [BitVec.ofNat 8 seq, BitVec.ofNat 8 flags] ++ leBytes 6 (if x.restart then 0 else x.sof)
      (s1.setCanPort p { x with next := x.next + 1, refAt := some (s1.time / caPeriod r) }).setCanBuf p 2 (some {
        user0 := wd (caRefWord r), user1 := 0, data := data, desc := none, seq := 0, loaded := s1.time
        order := x.next })

/-- A reference message not begun within 1 ms of its instant. -/
def State.canRefLate (s : State) (p : Nat) : State :=
  match s.canBuf p 2 with
  | some f =>
    if f.desc.isSome ∨ f.phase = 2 then s else (s.runUntil (f.loaded + 1000000)).canEnd p 2 5
  | none => s

/-- A reference message of the windward module, as forwarded (R539). -/
def State.takeReference (s : State) (ws : List Word) : State :=
  let p := (wAt ws 0).toNat % 4
  let s1 := (s.put (Fld.CAN_REF_seq p) (wAt ws 1).toNat).putSplit (Reg.CAN_REFTIME_HI p) (Reg.CAN_REFTIME_LO p) (wPair ws 2)
  s1.setCanPort p { s1.canPort p with sof := wPair ws 2 }

/-! ### Detection (R536), modes (R539) and records (R540) -/

/-- The dwell time per candidate, ns. -/
def caDwell (r : List Word) : Nat := (if wBits r 16 13 0 = 0 then 1000 else wBits r 16 13 0) * 1000000

/-- The dwell at a candidate ends without a find, and that at the next begins. -/
def State.canDwell (s : State) (p : Nat) : State :=
  if s.canState p ≠ csDetecting ∨ s.fld (Fld.CAN_ABD_state p) ≠ 1 then s
  else
    let r := s.canRec p
    let t := match (s.canPort p).dwellAt with | some t => s.runUntil (t + caDwell r) | none => s
    let s0 := t.setCanPort p { t.canPort p with run := 0, dwellAt := some t.time }
    let used := (upFrom 0 8).filter fun i => wBits r (8 + i) 20 0 != 0
    match used.find? fun i => decide (s0.fld (Fld.CAN_ABD_cand p) < i) with
    | some i => s0.put (Fld.CAN_ABD_cand p) i
    | none => (s0.bump (Fld.CAN_ABD_passes p)).put (Fld.CAN_ABD_cand p) (used.headD 0)

/-- Ports that found their rate join at a trade-cycle boundary. -/
def State.canJoins (s : State) : State :=
  (upFrom 0 4).foldl (fun s p =>
    if s.canState p = csDetecting ∧ s.fld (Fld.CAN_ABD_state p) = 2 ∧ caJoin (s.canRec p) = true then
      (s.put (Fld.CAN_ABD_state p) 3).canTo p csIntegrating else s) s

/-- The state a port takes up in a mode; one that is not fitted is off (R541). -/
def State.canStart (s : State) (p m : Nat) : State :=
  let r := s.canRec p
  let s1 := s.flag (Fld.CAN_TXB_ref p) (caEn r && caMaster r)
  if !caEn r || s1.sys.pins.canAbsent.contains p then s1.canTo p csOff
  else if m = mStandby ∨ m = mResync then s1.canTo p csLeeward
  else if m = mActive ∨ m = mCommission ∨ m = mSafe then
    if caDetect r && s1.fld (Fld.CAN_ABD_state p) != 3 then
      let c := ((upFrom 0 8).find? fun i => wBits r (8 + i) 20 0 != 0).getD 0
      (((s1.setCanPort p { s1.canPort p with dwellAt := some s1.time }).put (Fld.CAN_ABD_state p) 1).put (Fld.CAN_ABD_cand p)
        c).canTo p csDetecting
    else s1.canTo p csIntegrating
  else s1.canTo p csOff

/-- The frames loaded at a port of a module that gives the station up: freed, not sent again, and not reported (R539). -/
def State.canUnload (s : State) (p : Nat) : State :=
  (upFrom 0 3).foldl (fun s b =>
    match s.canBuf p b with
    | some f => (match f.desc with | some d => s.freeMsg d | none => s).setCanBuf p b none
    | none => s) s

/-- The ports at a change of mode: the windward module's take part in the bus, a leeward one's only listen. -/
def State.canMode (s : State) (m : Nat) : State :=
  (upFrom 0 4).foldl (fun s p =>
    let st := s.canState p
    let runs := m = mActive ∨ m = mCommission ∨ m = mSafe
    if runs ∧ st ≠ csOff ∧ st ≠ csLeeward then s
    else
      let s1 := if m = mStandby ∨ m = mResync then s.canUnload p else s
      (s1.setCanPort p { s1.canPort p with restart := true }).canStart p m) s

/-- A port record takes force: the port integrates anew, and loaded frames are checked again. -/
def State.applyCanRec (s : State) (p : Nat) : State :=
  let x := s.canPort p
  let s0 := s.setCanPort p { x with offs := [], recovering := false, run := 0 }
  let s1 := (((s0.put (Fld.CAN_ABD_state p) 0).put (Fld.CAN_ABDRATE_rate p) 0).clearAlert 535 p).canStart p s0.mode
  [0, 1, 2].foldl (fun s b =>
    match s.canBuf p b with
    | some f => if f.phase ≠ 2 ∧ canSendable (s.canRec p) f.user0 f.user1 f.data.length = false then s.canEnd p b 6 else s
    | none => s) s1

end Sys2Proof.Machine
end

