-- ==== Sys2Proof/Machine/ControlEngine.lean ====
section
/-! DEFINITION. The control engine (R260 to R291): sections, runs, dispatch, injection jobs and capture. -/

namespace Sys2Proof.Machine

/-! ### Fixed point and sections (R262 to R267) -/

/-- rnd(v, k) of R264: ties toward +∞. -/
def rnd (v : Int) (k : Nat) : Int := if k = 0 then v else (v + 2 ^ (k - 1)) / 2 ^ k

/-- The state of a section (R267). -/
structure SecState where
  x1 : Int
  x2 : Int
  y1 : Int
  y2 : Int
  r : Int
  accSat : Bool := false
  limAct : Bool := false
  deriving DecidableEq, Repr

def State.secState (s : State) (k : Nat) : SecState :=
  let w := fun i => (s.word (secStateAddr k + 4 * i)).toInt
  ⟨w 0, w 1, w 2, w 3, w 4, false, false⟩

def State.setSecState (s : State) (k : Nat) (x : SecState) : State :=
  s.setWords (secStateAddr k)
    [wordOf x.x1, wordOf x.x2, wordOf x.y1, wordOf x.y2, wordOf x.r,
     wd (b1 x.accSat + 2 * b1 x.limAct), 0, 0]

/-- A coefficient's shift, field `n` of word 5 (R263, R266). -/
def coefShift (c : List Word) (n : Nat) : Int := signed 6 (wBits c 5 (6 * n + 5) (6 * n))

/-- A product rounded to 40 fractional bits (R265). -/
def coefMul (c : List Word) (n : Nat) (u : Int) : Int := rnd (wInt c n * u) (14 + coefShift c n).toNat

/-- One addition of the accumulator, in sat64, with the saturation flag. -/
def accAdd (a : Int × Bool) (v : Int) : Int × Bool :=
  let s := a.1 + v
  (sat64 s, a.2 || decide (sat64 s ≠ s))

/-- A section computes (R265): its new state. The output is its y1. -/
def secStep (c : List Word) (st : SecState) (x : Int) : SecState :=
  let acc := [coefMul c 0 x, coefMul c 1 st.x1, coefMul c 2 st.x2, -coefMul c 3 st.y1,
    -coefMul c 4 st.y2].foldl accAdd (st.r, false)
  let y0 := rnd acc.1 16
  let y := sat32 y0
  let r := if wBit c 5 30 && decide (y = y0) then acc.1 - y * 2 ^ 16 else 0
  let lim := wBit c 5 31
  let yl := if lim then clampI (wInt c 6) (wInt c 7) y else y
  { x1 := x, x2 := st.x1, y1 := yl, y2 := st.y1, r := r, accSat := acc.2
    limAct := lim && decide (yl ≠ y) }

/-- The cascade: new states and outputs in order. -/
def cascade : List (List Word) → List SecState → Int → List SecState
  | c :: cs, st :: sts, x =>
    let n := secStep c st x
    n :: cascade cs sts n.y1
  | _, _, _ => []

/-! ### Conversions (R270) -/

def convShift (r : List Word) (n : Nat) : Int := signed 6 (wBits r 12 (6 * n + 5) (6 * n))
/-- conv of source `n`: 0 process value, 1 set-point, 2 feedforward. -/
def conv (r : List Word) (n : Nat) (v : Int) : Int :=
  sat32 (rnd (sat32 (v - wInt r (7 + 2 * n)) * wInt r (6 + 2 * n)) (30 + convShift r n).toNat)
/-- The error of a wide slot before injection: subtraction wraps at 64 bits. -/
def wideError (r : List Word) (sp pv : Int) : Int :=
  let raw := sat32 (rnd (signed 64 (unsigned 64 (sp - pv))) (wBits r 0 21 16))
  sat32 (rnd (raw * wInt r 8) (30 + convShift r 1).toNat)
/-- out(u) (R272). -/
def outConv (r : List Word) (u : Int) : Int :=
  sat32 (rnd (u * wInt r 14) (30 + convShift r 3).toNat + wInt r 15)

/-! ### Injection (R284 to R290) -/

def jobPoint (x : CeJob) : Nat := wBits x.words 0 11 10
def jobWave (x : CeJob) : Nat := wBits x.words 0 13 12
def jobDec (x : CeJob) : Nat := wBits x.words 3 31 24

/-- Feedback taps of the PRBS lengths (R286). -/
def prbsTap (l : Nat) : Option Nat :=
  if l = 7 then some 6 else if l = 9 then some 5 else if l = 11 then some 9 else if l = 15 then some 14
  else if l = 17 then some 14 else if l = 23 then some 18 else if l = 31 then some 28 else none

/-- sin(2π φ ÷ 2^32) with 40 fractional bits, by its series on a quarter turn. -/
def sinSeries (x : Int) : Int :=
  let x2 := x * x / 2 ^ 40
  let t := fun (acc : Int) (k : Int) => 2 ^ 40 - x2 * acc / (k * (k + 1) * 2 ^ 40)
  x * t (t (t (t (t (t (t (2 ^ 40) 14) 12) 10) 8) 6) 4) 2 / 2 ^ 40
def sinTurn (ph : Nat) : Int :=
  let q : Nat := ph % 2 ^ 32
  let r : Nat := q % 2 ^ 30
  let k : Nat := q / 2 ^ 30
  let a : Nat := if k % 2 = 0 then r else 2 ^ 30 - r
  let x : Int := (a : Int) * 1727108826179 / 2 ^ 30
  if k < 2 then sinSeries x else -sinSeries x

/-- The chirp's sine as the table gives it: within 2^−22 of the sine, otherwise open (R286). -/
def tableSine (ph : Nat) : Int := sinTurn ph + clampI (-2 ^ 18) (2 ^ 18) (Config.sineError ph)

/-- The PRBS register moved to its next bit (R286). -/
def prbsNext (l reg : Nat) : Nat × Bool :=
  let tap := (prbsTap l).getD 1
  let fb := (reg.testBit (l - 1)) != (reg.testBit (tap - 1))
  ((reg * 2 + b1 fb) % 2 ^ l, fb)

/-- The injection value of a job's run, and the job after it (R286). -/
def jobValue (x : CeJob) : Int × CeJob :=
  if jobStage x = 2 then
    let j := x.m - jobPre x
    let a := wInt x.words 1
    if jobWave x = 1 then (a, x)
    else if jobWave x = 2 then
      let d0 : Int := (wAt x.words 4).toNat
      let d1 : Int := (wAt x.words 5).toNat
      let dj := d0 + (d1 - d0) * j / (jobN x)
      (rnd (a * tableSine x.phase) 40, { x with phase := (x.phase + dj.toNat) % 2 ^ 32 })
    else if jobWave x = 3 then
      let l := wBits x.words 4 4 0
      let x1 := if x.held = 0 then
          let (reg, bit) := prbsNext l (if j = 0 then 2 ^ l - 1 else x.prbs)
          { x with prbs := reg, bitNow := bit, held := wBits x.words 4 31 16 - 1 }
        else { x with held := x.held - 1 }
      (if x1.bitNow then a else -a, x1)
    else (0, x)
  else (0, x)

/-- A message of a job on its reply queue (R285): whether there is one and it was taken. The leeward module's control engine
enqueues nothing: what the windward one enqueues is mirrored (R253). -/
def State.jobMsg (s : State) (x : CeJob) (type off : Nat) (bytes : List Byte) : State × Bool :=
  if wBit x.words 7 13 || s.leeward then (s, true)
  else s.deliver (wBits x.words 7 12 0)
    { kind := 4, endpoint := Agent.control.endpoint, bytes := bytes, user0 := wd x.num, user1 := wd (type * 2 ^ 30 + off) }

/-- Payload of an acceptance or an end message (R285). -/
def jobAnswer (b status abort detail : Nat) : List Byte :=
  wordBytes [wd (status + b * 256 + abort * 65536), wd detail]

/-- Delivery of a finished job, from where it stands, until a refusal (R290). -/
def State.deliverJob (s : State) (b : Nat) : Nat → State
  | 0 => s
  | n + 1 =>
    match s.job b with
    | none => s
    | some x =>
      match x.deliver with
      | none => s
      | some (off, t0) =>
        let total := 64 + 16 * x.records
        if off < total && !wBit x.words 7 13 && !s.leeward then
          let k := min 1024 (total - off)
          match s.jobMsg x 1 off (s.bytes (captureAddr b + off) k) with
          | (s1, true) => (s1.setJob b (some { x with deliver := some (off + k, t0) })).deliverJob b n
          | (s1, false) => s1
        else
          match s.jobMsg x 2 0 (jobAnswer b x.status x.reason 0xFFFF0000) with
          | (s1, true) => (s1.setJob b (some { x with deliver := none })).flag (Fld.CE_JOB_deliver b) false
          | (s1, false) => s1

/-- A job ends (R289, R290): what it leaves is delivered as far as the reply queue takes it. -/
def State.endJob (s : State) (b reason : Nat) : State :=
  match s.job b with
  | none => s
  | some x => if !x.active then s else (s.stopJob b reason).deliverJob b 220

/-- Every job in progress aborted for a reason (R289). -/
def State.abortJobs (s : State) (reason : Nat) : State :=
  (upFrom 0 4).foldl (fun s b => s.endJob b reason) s

/-- The check of R285 for a job taken from producing partition `part`: status, reason and argument. -/
def State.jobCheck (s : State) (ws : List Word) (part : Nat) : Option (Nat × Nat) :=
  let i := wBits ws 0 9 0
  let r := s.loopRec i
  let wave := wBits ws 0 13 12
  let amp := (wInt ws 1).natAbs
  let maxInj := (wAt r 21).toNat
  let b := wBits ws 0 15 14
  let l := wBits ws 4 4 0
  if part != 0 && part != wBits r 1 27 22 then some (2, 0x0170)
  else if s.mode != mCommission && s.mode != mActive then some (9, 0)
  else if wave != 0 && (maxInj == 0 || decide (maxInj < amp)) then some (2, 0x0171)
  else if !loopEn r || (s.loop i).mode == 0 || (s.loop i).mode == 3 then some (3, 0x0172)
  else if wBits ws 0 11 10 == 3 || wBits ws 3 23 0 == 0 ||
      (wave == 3 && ((prbsTap l).isNone || wBits ws 4 31 16 == 0)) ||
      (wave == 2 && decide (0x80000000 < (wAt ws 5).toNat)) then some (3, 0x0173)
  else if (match s.job b with | some x => x.active | none => false) || (s.jobOn i).isSome then some (1, 0)
  else none

/-- Kind of the item that tells the leeward module of a job taken (R283): its producing partition, its number, and its words. -/
def fwJob : Nat := 23

/-- A job taken up: a cancel, or a job that has passed its check (R284). -/
def State.startJob (s : State) (x : CeJob) : State :=
  let b := wBits x.words 0 15 14
  if wBit x.words 0 16 then s.endJob b 5
  else
    let s1 := (((((s.setJob b (some x)).put (Fld.CE_JOB_slot b) (jobSlot x)).put
      (Fld.CE_JOB_reason b) 0).put (Fld.CE_JOB_stage b) 1).setReg (Reg.CE_JOBREC b) 0).setReg
      (Reg.CE_JOBNUM b) (wd x.num)
    s1.writeCapHeader b x

/-- A job taken: accepted, refused, or a cancel (R284, R285). -/
def State.takeJob (s : State) (ws : List Word) (part : Nat) : State :=
  let b := wBits ws 0 15 14
  let num := s.ce.nextJob
  let x : CeJob := { words := ws, num := num, part := part }
  let s0 := { s with ce := { s.ce with nextJob := (num + 1) % 65536 } }
  match (if wBit ws 0 16 then none else s0.jobCheck ws part) with
  | some (st, why) => (s0.jobMsg x 0 0 (jobAnswer b st 0 (0xFFFF0000 + why))).1
  | none => (((s0.startJob x).jobMsg x 0 0 (jobAnswer b 0 0 0xFFFF0000)).1).forward fwJob ([wd part, wd num] ++ ws)

/-- A job of the windward module taken at the leeward one (R283). -/
def State.jobForwarded (s : State) (ws : List Word) : State :=
  ({ s with ce := { s.ce with nextJob := ((wAt ws 1).toNat + 1) % 65536 } }).startJob
    { words := ws.drop 2, num := (wAt ws 1).toNat, part := (wAt ws 0).toNat }

/-! ### Runs (R272 to R279) -/

/-- A free lane takes the next pending run: lowest class, then earliest trigger, then lowest slot (R278). -/
def State.nextRun (s : State) : Option Nat :=
  (s.ce.slots.foldl (fun (best : Option (Nat × Nat × Nat)) ix =>
    let i := ix.1
    let x := ix.2
    match x.pending, x.running with
    | some l, none =>
      let c := loopClass l.recs
      match best with
      | none => some (c, l.clk, i)
      | some (c', k', _) => if c < c' || (c == c' && l.clk < k') then some (c, l.clk, i) else best
    | _, _ => best) none).map fun (_, _, i) => i

def State.freeCeLane (s : State) : Option Nat :=
  (upFrom 0 4).find? fun n => SMap.get 0 n s.ce.lanes == 0

/-- The pending run that comes next is dispatched to the lowest free lane, no earlier than 16 ns after its trigger: the clock moves on
to then (R278). -/
def State.dispatchRun (s : State) : State :=
  match s.freeCeLane, s.nextRun with
  | some n, some i =>
    let occ := match (s.loop i).pending with | some l => 70 + 10 * loopCount l.recs | none => 0
    let s0 := s.clkUntil (match (s.loop i).pending with | some l => l.clk + 4 | none => 0)
    let x := s0.loop i
    let s1 := s0.setLoop i { x with pending := none, running := x.pending.map fun l => { l with start := s0.clk } }
    let s2 := { s1 with ce := { s1.ce with
      lanes := SMap.set 0 n (i + 1) s1.ce.lanes, occ := s1.ce.occ + occ } }
    (s2.putBit Fld.CE_STAT_busy n true).put Fld.CE_STAT_pending (s2.fld Fld.CE_STAT_pending - 1)
  | _, _ => s

/-- The target of a slot written (R269, R276), and the items its owner reads (R275). -/
def State.writeLoop (s : State) (_ : Nat) (r : List Word) (u : Int) : State :=
  if wBits r 12 31 30 = 1
  then s.publish (wAt r 13).toNat (BitVec.ofNat 64 (unsigned 32 (outConv r u))) else s

def State.showLoop (s : State) (i : Nat) : State :=
  let x := s.loop i
  let s1 := (s.setPoint (loopItem i liOUT) (unsigned 32 x.u) 0).setPoint (loopItem i liERR)
    (unsigned 32 x.e) 0
  s1.setPoint (loopItem i liSTAT) (s1.loopStat i).toNat 0

/-- From dispatch to the write of a run, ns (R279). -/
def writeTime (l : Latch) : Nat := 60 + 10 * loopCount l.recs

/-- The output delay of a run: from its trigger to its write (R279). -/
def runDelay (l : Latch) : Nat := 4 * (l.start - l.clk) + writeTime l

/-- One signal of a capture record (R287). -/
def capSignal (code : Nat) (sp pv e inj upre u out ff : Int) (ys : List SecState) : Word :=
  wordOf (if code = 0 then sp else if code = 1 then pv else if code = 2 then e else if code = 3 then inj
    else if code = 4 then upre else if code = 5 then u else if code = 6 then out else if code = 7 then ff
    else match ys[code - 8]? with | some y => y.y1 | none => 0)

/-- A job after one run of its slot: the record, the stage, its end (R286 to R290). `sat`: u_pre lay
outside the limits in force. -/
def State.jobRun (s : State) (b : Nat) (x : CeJob) (l : Latch) (val : Int) (sat : Bool)
    (sig : Nat → Word) : State :=
  let write := x.m % (jobDec x + 1) == 0 && decide (x.records < 13308)
  let codes := fun k => wBits x.words 6 (4 * k + 3) (4 * k)
  let s1 := if write then
      s.setWords (captureAddr b + 64 + 16 * x.records) [lo32 l.time, sig (codes 0), sig (codes 1), sig (codes 2)]
    else s
  let x1 := { x with
    records := x.records + b1 write, first := if x.m = 0 then l.time else x.first
    sat := if sat then x.sat + 1 else 0, m := x.m + 1, value := val }
  let lim := wBits x.words 8 15 0
  let s2 := ((((s1.setJob b (some x1)).writeCapHeader b x1).put (Fld.CE_JOB_stage b) (jobStage x1)).setReg
    (Reg.CE_JOBREC b) (wd x1.records)).setReg (Reg.CE_INJ b) (wordOf val)
  if lim != 0 && decide (lim ≤ x1.sat) then s2.endJob b 4
  else if jobStage x1 = 0 then s2.endJob b 0 else s2

/-- The flag bits of a run, in the order of CE_SLOTSTAT [11:5]. -/
def runFlags (bad high low rate frz acc lim : Bool) : Nat :=
  b1 bad + 2 * b1 high + 4 * b1 low + 8 * b1 rate + 16 * b1 frz + 32 * b1 acc + 64 * b1 lim

/-- What a slot keeps at the end of a run. -/
def State.closeRun (s : State) (i : Nat) (l : Latch) (u e : Int) (flags : Nat) : State :=
  let x := s.loop i
  let d := runDelay l
  let s1 := s.setLoop i { x with
    u := u, e := e, flags := (x.flags &&& 0x80) + flags, runs := (x.runs + 1) % 2 ^ 32
    dly := min 65535 d, dlyMax := max x.dlyMax (min 65535 d), running := none, fresh := true }
  let s2 := if s1.fld Fld.CE_DLYMAX_max < min 65535 d
    then (s1.put Fld.CE_DLYMAX_max (min 65535 d)).put Fld.CE_DLYMAX_slot i else s1
  (s2.showLoop i).pfcEvent 11 i 1

/-- A run that changed no state leaves the entry from OFF to the next one (R271, R274). -/
def State.keepInit (s : State) (i : Nat) (l : Latch) : State :=
  let x := s.loop i
  if l.init then
    match x.pending with
    | some p => s.setLoop i { x with pending := some { p with init := p.mode == 1 || p.mode == 2 } }
    | none => s.setLoop i { x with runMode := 0 }
  else s

/-- The first run in AUTO or MANUAL after OFF (R274): the states are cleared and the clamp section is set
so that the output goes on from u. -/
def State.enterRun (s : State) (i : Nat) (l : Latch) (ff : Int) : State :=
  let x := s.loop i
  if l.init then
    let first := loopFirst l.recs
    let y := sat32 (x.u - ff)
    (upFrom 0 (loopCount l.recs)).foldl (fun s k =>
      s.setSecState (first + k)
        (if k = wBits l.recs 0 15 12 then ⟨0, 0, y, y, 0, false, false⟩
        else ⟨0, 0, 0, 0, 0, false, false⟩)) s
  else s

/-- The done line fires in the clock of the write (R276). -/
def State.fireDone (s : State) (r : List Word) : State :=
  if wBit r 2 11 then
    (s.putBit Fld.CE_DONEFIRED_fired (wBits r 2 15 12) true).fire (136 + wBits r 2 15 12) else s

/-- The chain slot is triggered and latches its inputs, the value just written among them (R276). -/
def State.runChain (s : State) (r : List Word) : State :=
  if wBit r 2 10 then s.loopTrigger (wBits r 2 9 0) else s

/-- What the write of a run triggers in its clock (R272, R276): the done line's sinks and the chain slot latch the value just
written. -/
def State.afterWrite (s : State) (r : List Word) : State := (s.fireDone r).runChain r

/-- The full run of a slot in AUTO or MANUAL (R272, R273, R274). -/
def State.fullRun (s0 : State) (i : Nat) (l : Latch) : State :=
  let r := l.recs
  let ff := conv r 2 l.ff
  let s := s0.enterRun i l ff
  let x := s.loop i
  let jb := s.jobOn i
  let (inj, jb1) := match jb with
    | some (b, j) => let (v, j1) := jobValue j; (v, some (b, j1))
    | none => (0, none)
  let at_ := fun k => match jb with | some (_, j) => if jobPoint j = k then inj else 0 | none => 0
  let pv := if loopWide r then 0 else conv r 0 l.pv
  let sp := if loopWide r then 0 else conv r 1 l.sp
  let e := if loopWide r then sat32 (wideError r l.sp l.pv + at_ 0) else sat32 (sp + at_ 0 - pv)
  let first := loopFirst r
  let n := loopCount r
  let old := (upFrom first n).map s.secState
  let new := cascade l.secs old (sat32 (e + at_ 1))
  let v := match new.getLast? with | some y => y.y1 | none => sat32 (e + at_ 1)
  let upre := sat32 (v + ff + at_ 2)
  let u1 := min (max upre l.lo) l.hi
  let u2 := if l.mode = 2 then min (max l.manual l.lo) l.hi else u1
  let rate : Int := (wAt r 18).toNat
  let u := if rate = 0 then u2 else min (max u2 (x.u - rate)) (x.u + rate)
  let clamp := wBits r 0 15 12
  let frozen := match new[clamp]?, old[clamp]? with
    | some y, some o => wBit r 0 6 && l.mode == 1 &&
        ((decide (l.hi < upre) && decide (o.y1 < y.y1)) || (decide (upre < l.lo) && decide (y.y1 < o.y1)))
    | _, _ => false
  let want := if l.mode = 2 then l.manual else upre
  let s2 := s.writeLoop i r u
  let s3 := (upFrom 0 n).foldl (fun s k =>
    match new[k]?, old[k]? with
    | some y, some o =>
      if k = clamp then
        if frozen then s.setSecState (first + k) { y with y1 := o.y1, y2 := o.y2, r := o.r }
        else if l.mode = 2 then
          s.setSecState (first + k) { y with y1 := sat32 (y.y1 + sat32 (u - upre)), y2 := sat32 (y.y2 + sat32 (u - upre)) }
        else s.setSecState (first + k) y
      else s.setSecState (first + k) y
    | _, _ => s) s2
  let acc := new.any (·.accSat)
  let s4 := if acc then s3.bump Fld.CE_SATCNT_acc else s3
  let s5 := if frozen then s4.bump Fld.CE_SATCNT_freeze else s4
  let s6 := s5.closeRun i l u e
    (runFlags l.bad (decide (l.hi < want)) (decide (want < l.lo)) (decide (u ≠ u2)) frozen acc
      (new.any (·.limAct)))
  let s7 := match jb1 with
    | some (b, j) =>
      s6.jobRun b j l inj (decide (l.hi < upre) || decide (upre < l.lo)) fun c =>
        capSignal c sp pv e inj upre u (outConv r u) ff new
    | none => s6
  s7.afterWrite r

/-- A job on slot `i` is aborted where the target of the slot is forced or held by a safety-function instance (R289). -/
def State.judgeJob (s : State) (i : Nat) (r : List Word) : State :=
  let a := (wAt r 13).toNat
  let forced := match s.forceOf a with | some f => f.output | none => false
  match s.jobOn i with
  | some (b, _) => if wBits r 12 31 30 = 1 ∧ (forced || s.saf.held.contains a) then s.endJob b 6 else s
  | none => s

/-- The run of slot `i` on lane `n` writes its output and ends: the clock moves on to the write (R272, R276, R279). -/
def State.endRunOn (s : State) (n : Nat) : State :=
  match SMap.get 0 n s.ce.lanes with
  | 0 => s
  | k + 1 =>
    let s1 := ({ s with ce := { s.ce with lanes := SMap.set 0 n 0 s.ce.lanes } }).putBit
      Fld.CE_STAT_busy n false
    match (s1.loop k).running with
    | none => s1
    | some l =>
      let r := l.recs
      if l.mode = 0 then s1.setLoop k { s1.loop k with running := none }
      else
        let s2 := (s1.clkUntil (l.start + (writeTime l + 3) / 4)).judgeJob k r
        let x := s2.loop k
        if l.mode = 3 || (l.bad && loopPolicy r == 0) then
          (((s2.writeLoop k r x.u).closeRun k l x.u x.e (b1 (l.mode != 3))).keepInit k l).afterWrite r
        else if l.bad && loopPolicy r == 1 then
          let u := clampI l.lo l.hi (wInt r 19)
          (((s2.writeLoop k r u).closeRun k l u x.e 1).keepInit k l).afterWrite r
        else s2.fullRun k l

/-- Occupancy of the lanes over the 250 µs tick that ends (CE_LOAD). -/
def State.tickLoad (s : State) : State :=
  let v := s.ce.occ / 1000
  { (s.put Fld.CE_LOAD_last v).peak Fld.CE_LOAD_peak v with ce := { s.ce with occ := 0 } }

/-! ### Records at a boundary (R281, R282) -/

/-- A loop slot record takes effect: `old` is the record it replaces. A slot newly enabled, or whose range
changes, has its states 0 and takes its start mode; runs triggered before complete on the old records. -/
def State.applyLoopRec (s : State) (i : Nat) (old : List Word) : State :=
  let r := s.loopRec i
  let x := s.loop i
  let fresh := loopEn r && !loopEn old
  let same := loopFirst old == loopFirst r && loopCount old == loopCount r
  let start := wBits r 0 23 22
  let jobs := (match s.jobOn i with | some (b, _) => s.endJob b 3 | none => s)
  let s1 := jobs.setWords (loopRecAddr i) (r ++ List.replicate (32 - r.length) 0)
  let s2 := if loopEn r then s1 else s1.setQuality (loopItem i liOUT) 2
  let zero := (upFrom (loopFirst r) (loopCount r)).foldl (fun s k =>
    s.setSecState k ⟨0, 0, 0, 0, 0, false, false⟩) s2
  if fresh then
    zero.setLoop i { mode := start, runMode := start, lo := wInt r 16, hi := wInt r 17, pending := x.pending
                     running := x.running }
  else if same then
    s2.setLoop i { x with
      lo := clampI (wInt r 16) (wInt r 17) x.lo, hi := clampI (wInt r 16) (wInt r 17) x.hi }
  else zero.setLoop i { x with mode := start, runMode := start, lo := wInt r 16, hi := wInt r 17 }

/-- A section record takes effect. -/
def State.applySecRec (s : State) (k : Nat) : State := s.setWords (secCoefAddr k) (s.secRec k)

end Sys2Proof.Machine
end

