-- ==== Sys2Proof/Machine/Mailbox.lean ====
section
/-! DEFINITION. Mailboxes (R76 to R89): rings, doorbells, slots reserved for responses, responses in
the order their requests were taken, and notifications. -/

namespace Sys2Proof.Machine

/-- Slot `i` of the request ring and of the response ring of mailbox `m` (R77, R78). -/
def reqSlot (m i : Nat) : Nat := 0x100000000 + m * 0x4000 + i % 32 * 0x100
def rspSlot (m i : Nat) : Nat := 0x100000000 + m * 0x4000 + 0x2000 + i % 32 * 0x100

/-- Status codes of R88. -/
def stOk : Nat := 0x00
def stBusy : Nat := 0x01
def stDenied : Nat := 0x02
def stBadArg : Nat := 0x03
def stNoResource : Nat := 0x04
def stLate : Nat := 0x05
def stUnconfirmed : Nat := 0x06
def stPartial : Nat := 0x07
def stAborted : Nat := 0x08
def stNotInMode : Nat := 0x09
def stIntegrity : Nat := 0x0A
def stTimeout : Nat := 0x0B
def stEmpty : Nat := 0x0C

/-- A mailbox's bookkeeping. -/
def State.mbox (s : State) (m : Nat) : Mbox := SMap.get {} m s.fw.mboxes
def State.setMbox (s : State) (m : Nat) (x : Mbox) : State :=
  { s with fw := { s.fw with mboxes := SMap.set {} m x s.fw.mboxes } }

/-- Mode in which a mailbox is served (R76, R80). -/
def servedIn (mode m : Nat) : Bool :=
  decide (m < 68) && (if mode = mBoot then false else if mode = mSelftest then m == 64 else true)

/-- Whether a mailbox is served now. A module that waits in BOOT after removal serves none (R235). -/
def State.served (s : State) (m : Nat) : Bool := servedIn s.mode m

/-- Slots occupied in the rings of mailbox `m` (R78). -/
def State.reqCount (s : State) (m : Nat) : Nat :=
  (s.fld (Fld.MBX_REQ_HEAD_head m) + 65536 - s.fld (Fld.MBX_REQ_TAIL_tail m)) % 65536
def State.rspCount (s : State) (m : Nat) : Nat :=
  (s.fld (Fld.MBX_RSP_HEAD_head m) + 65536 - s.fld (Fld.MBX_RSP_TAIL_tail m)) % 65536

/-- Whether the response ring has a slot neither occupied nor reserved (R82). -/
def State.rspRoom (s : State) (m : Nat) : Bool :=
  decide (s.rspCount m + (s.mbox m).line.length < 32)

/-- The ring bits of MBX_STAT brought up to date. -/
def State.showRings (s : State) (m : Nat) : State :=
  ((s.flag (Fld.MBX_STAT_rsp_full m) (decide (32 ≤ s.rspCount m))).flag
    (Fld.MBX_STAT_req_full m) (decide (32 ≤ s.reqCount m)))

/-- The partition or mailbox stamp of a slot that answers a request (R85). -/
def State.stamp (s : State) (m : Nat) : Nat := if m < 64 then s.fld (Fld.MBX_STAT_part m) else m

/-- Station firmware empties the response rings of mailboxes 64 to 67 for their remote or internal receivers (R77); that of
mailbox 64 goes over its connection, slot images one after another (R97). -/
def State.handOut (s : State) (m : Nat) : State :=
  if m < 64 ∨ (m = 64 ∧ s.fw.conn.isNone = true) then s
  else
    let tail := s.fld (Fld.MBX_RSP_TAIL_tail m)
    let slot := fun i =>
      let a := rspSlot m (tail + i)
      (m, s.words a (4 + bits (s.word (a + 4)) 15 0 / 4))
    let out := ((upFrom 0 (s.rspCount m)).map slot).reverse
    (({ s with fw := { s.fw with delivered := out ++ s.fw.delivered } }).put (Fld.MBX_RSP_TAIL_tail m)
      (s.fld (Fld.MBX_RSP_HEAD_head m))).showRings m

/-- A slot placed on the response ring, its word 0 given, then the index advanced (R79, R83, R86). The slots of mailboxes 0 to
63 are forwarded: block code of both modules sees the same responses (R93). -/
def State.placeSlot (s : State) (m : Nat) (w0 : Word) (flags status part : Nat) (pay : List Word) :
    State :=
  let head := s.fld (Fld.MBX_RSP_HEAD_head m)
  let x := s.mbox m
  let w1 := wd (4 * pay.length % 65536 + flags * 65536)
  let w2 := wd (status % 256 + part % 256 * 256 + x.rspSeq % 65536 * 65536)
  let ws := [w0, w1, w2, 0] ++ pay
  let s1 := (((s.setWords (rspSlot m head) ws).setMbox m
    { x with rspSeq := (x.rspSeq + 1) % 65536, lost := x.lost && flags % 2 == 0 }).put
      (Fld.MBX_RSP_HEAD_head m) (head + 1)).showRings m
  if m < 64 then s1.forward fwMailbox ([wd m, wd head] ++ ws)
  else (if flags % 2 = 0 then s1.forward fwMailbox [wd (m + 0x200), 0, w0] else s1).handOut m

/-- A forwarded slot placed on the leeward module's ring, a forwarded taking of a request, and the answer of one of mailboxes 64
to 67 (R93, R94). -/
def State.takeMailbox (s : State) (ws : List Word) : State :=
  let kind := (wAt ws 0).toNat / 0x100
  let m := (wAt ws 0).toNat % 128
  let i := (wAt ws 1).toNat % 65536
  let x := s.mbox m
  let peer := (m, wBits ws 2 31 16, wBits ws 2 15 0)
  if kind = 2 then { s with fw := { s.fw with peerTaken := s.fw.peerTaken.erase peer } }
  else if kind = 1 ∧ 64 ≤ m then { s with fw := { s.fw with peerTaken := s.fw.peerTaken ++ [peer] } }
  else if 64 ≤ m then s
  else if kind = 1 then
    let t : Taken := ⟨x.nextId, wBits ws 2 15 0, wBits ws 2 31 16, none⟩
    ((s.setMbox m { x with line := x.line ++ [t], nextId := x.nextId + 1, seqBase := some (wBits ws 3 15 0) }).put
      (Fld.MBX_REQ_TAIL_tail m) (i + 1)).showRings m
  else
    let ntf := wBit ws 3 16
    ((((s.setWords (rspSlot m i) (ws.drop 2)).setMbox m
      { x with rspSeq := (wBits ws 4 31 16 + 1) % 65536, line := if ntf then x.line else x.line.tail }).put
        (Fld.MBX_RSP_HEAD_head m) (i + 1)).showRings m)

/-- Answers at the front of a mailbox's line placed, in the order their requests were taken (R81). -/
def State.flushLine (s : State) (m : Nat) : Nat → State
  | 0 => s
  | n + 1 =>
    match (s.mbox m).line with
    | ⟨_, tag, op, some a⟩ :: rest =>
      (((s.setMbox m { s.mbox m with line := rest }).placeSlot m (wd (op + tag * 65536)) a.flags
        a.status (s.stamp m) a.payload)).flushLine m n
    | _ => s

/-- A response to request `d` (R81). -/
def State.respond (s : State) (d : Deferred) (a : Answer) : State :=
  let x := s.mbox d.mbx
  let line := x.line.map fun t => if t.id = d.id && t.ans.isNone then { t with ans := some a } else t
  (s.setMbox d.mbx { x with line := line }).flushLine d.mbx line.length

/-- What the new windward module answers of a request that the former one had taken (R94): ABORTED, flag VEER. -/
def abortedByVeer : Answer := ⟨stAborted, 4, [wd 0xFFFF0000]⟩

/-- Whether a veer of kind `kind` ends a request in flight (R94): a commanded veer answers its own VEER_REQ (R226). -/
def endsBy (kind op : Nat) : Bool := kind != 3 || op != 0x0301

/-- Every request of a mailbox taken and not answered is ABORTED by a veer (R94). -/
def State.abortLine (kind : Nat) (s : State) (m : Nat) : State :=
  ((s.mbox m).line.filter fun t => t.ans.isNone && endsBy kind t.op).foldl
    (fun s t => s.respond ⟨m, t.id⟩ abortedByVeer) s

/-- The requests of mailboxes 64 to 67 that the former windward module had taken are ABORTED by the new one (R94). -/
def State.abortPeer (kind : Nat) (s : State) : State :=
  let mine := s.fw.peerTaken.filter fun e => endsBy kind e.2.2
  mine.foldl (fun s e => s.placeSlot e.1 (wd (e.2.2 + e.2.1 * 65536)) abortedByVeer.flags abortedByVeer.status e.1
    abortedByVeer.payload) { s with fw := { s.fw with peerTaken := [] } }

/-- The commanded veer has ended: the new windward module answers the VEER_REQ that came from mailboxes 0 to 63 (R226). -/
def State.answerVeers (s : State) : State :=
  (upFrom 0 64).foldl (fun s m =>
    ((s.mbox m).line.filter fun t => t.ans.isNone && t.op == 0x0301).foldl
      (fun s t => s.respond ⟨m, t.id⟩ ⟨stOk, 0, [s.reg Reg.RED_CLAIM]⟩) s) s

/-- An answer OK with reply words, and any other answer with its detail word (R87): reason 0 where the manual names a status and
no reason (DESIGN CHOICE, log entry 53). -/
def okAns (ws : List Word) : Answer := ⟨stOk, 0, ws⟩
def errAns (status reason arg : Nat) : Answer := ⟨status, 0, [wd (reason + arg * 65536)]⟩

/-- A request taken: it joins the line and reserves its slot (R82). -/
def State.joinLine (s : State) (m tag op : Nat) : State × Deferred :=
  let x := s.mbox m
  (s.setMbox m { x with line := x.line ++ [⟨x.nextId, tag, op, none⟩], nextId := x.nextId + 1 },
    ⟨m, x.nextId⟩)

/-- A notification placed: NTF, and LOST after a drop (R84, R85, R89). -/
def State.placeNtf (s : State) (m : Nat) (n : Ntf) : State :=
  s.placeSlot m (wd n.op) (1 + (if (s.mbox m).lost then 2 else 0)) 0 m n.payload

/-- A notification for mailbox `m`: placed, held, or dropped and counted (R89). On a leeward module the windward
module's arrive in mailboxes 0 to 63. -/
def State.pushNtf (s : State) (m : Nat) (n : Ntf) : State :=
  let x := s.mbox m
  if m < 64 ∧ (s.mode = mStandby ∨ s.mode = mResync) then s
  else if x.held.isEmpty && s.rspRoom m then s.placeNtf m n
  else if x.held.length < 16 then s.setMbox m { x with held := x.held ++ [n] }
  else (s.bump (Fld.MBX_STAT_ntf_lost m)).setMbox m { x with lost := true }

/-- Held notifications placed while the ring has room. -/
def State.releaseNtfs (s : State) (m : Nat) : Nat → State
  | 0 => s
  | k + 1 =>
    match (s.mbox m).held with
    | [] => s
    | n :: rest =>
      if s.rspRoom m then ((s.setMbox m { s.mbox m with held := rest }).placeNtf m n).releaseNtfs m k
      else s

/-- Whether mailbox `m` is told of something that concerns partition `part` (R89). -/
def concerns (m op : Nat) (part : Option Nat) : Bool :=
  if 1 ≤ m && m ≤ 63 then
    match part with
    | some p => p == m
    | none => op / 256 == 1 || op / 256 == 3
  else true

/-- A notification sent to every mailbox that subscribes to its class (R89). -/
def State.notify (s : State) (op : Nat) (part : Option Nat) (payload : List Word) : State :=
  (upFrom 0 68).foldl (fun s m =>
    if s.fbit (Fld.MBX_NTFMASK_classes m) (op / 256 - 1) && concerns m op part
    then s.pushNtf m ⟨op, payload⟩ else s) s

/-- A doorbell: the request index advanced by one, the bit and the partition recorded (R78). -/
def State.ring (s : State) (m head part : Nat) : State :=
  ((((s.put (Fld.MBX_REQ_HEAD_head m) head).putBit
    (Fld.MBX_DOORBELL_ring (m / 32)) (m % 32) true).put (Fld.MBX_STAT_part m) part).showRings m)

end Sys2Proof.Machine
end

