-- ==== Sys2Proof/Machine/Owners.lean ====
section
/-! DEFINITION. Owner tasks of the items of blocks (R30, R275, R302, R339, R353, R365, R390, R464, R485), and what a point list
reads of the input items. -/

namespace Sys2Proof.Machine

/-! ### Sets and records of the safety block (R477, R478) -/

def State.paramSet (s : State) (n : Nat) : List Word := SMap.get [] n s.saf.params
/-- Records of a set: words of each. -/
def setRecords (ws : List Word) : List (List Word) :=
  (upFrom 0 (wBits ws 1 15 8)).map fun i => (ws.drop (8 + 16 * i)).take 16
def State.instRecs (s : State) : List (Nat × List Word) :=
  (upFrom 1 15).flatMap fun n => (setRecords (s.paramSet n)).map fun r => (n, r)
def irInst (r : List Word) : Nat := wBits r 0 7 0
def irEn (r : List Word) : Bool := wBit r 0 11

/-! ### Owners -/

/-- Block, index and number of an item. -/
def itemBlock (a : Nat) : Nat := (a - 2 ^ 32) / 2 ^ 24
def itemIndex (a : Nat) : Nat := a / 2 ^ 8 % 2 ^ 16

/-- A task named in word `w` of a record from bit `n` on, where the record says that the field is valid. -/
def ownerField (r : List Word) (w n : Nat) (valid : Bool) : Option Nat := if valid then some (wBits r w (n + 8) n) else none

/-- The owner task of an item, which alone writes it: by the record of its loop slot, generator, action, synchroniser channel,
request slot, compare, safety-function instance or alarm. A network requester has none (R365). -/
def State.itemOwner (s : State) (a : Nat) : Option Nat :=
  let b := itemBlock a
  let i := itemIndex a
  if b = 4 then let r := s.loopRec i; ownerField r 2 16 (wBit r 2 25)
  else if b = 5 then let r := s.rec_ 0x06 i; ownerField r 0 9 (!r.isEmpty)
  else if b = 6 then let r := s.rec_ 0x07 (0x1000 + i); ownerField r 1 18 (decide (i < 0x1000) && wBit r 1 27)
  else if b = 7 then
    let r := s.rec_ 0x08 i
    if i < 0x80 then ownerField r 0 6 (!r.isEmpty) else ownerField r 0 5 (!r.isEmpty && !wBit r 0 21)
  else if b = 8 then let r := s.rec_ 0x09 i; ownerField r 0 10 (wBit r 0 19)
  else if b = 11 then (s.instRecs.find? fun e => irInst e.2 == i).bind fun e => ownerField e.2 0 17 (wBit e.2 0 26)
  else if b = 13 then (let c := SMap.get {} i s.alm.cfg; if c.en && c.point.isNone then some c.owner else none)
  else none

/-- Whether task `t` may write what stands in a slot of its output list: a point of its own (R30), or an item that it owns. -/
def State.mayWrite (s : State) (t a : Nat) : Bool := decide (a < 2 ^ 32) || s.itemOwner a == some t

/-- Items that the output list of a task names. -/
def listItems (ls : List Slot) : List Nat :=
  ls.filterMap fun o => match o with
    | .point p _ => if p < 2 ^ 32 then none else some p
    | .queue _ _ _ => none

/-! ### Input items -/

/-- A point or item as a point list reads it. The items of a loop slot are good where the slot has run since its owner task's
previous activation, held where it has not, bad where it is not enabled (R275); those of a generator are good while it is enabled,
and bad otherwise (R302). -/
def State.listInput (s : State) (a : Nat) : Point :=
  let p := s.input a
  let i := itemIndex a
  if a < 2 ^ 32 then p
  else if itemBlock a = 4 then
    let x := s.loop i
    let q := if !loopEn (s.loopRec i) then 2 else if x.fresh then 0 else 1
    if a % 256 = liOUT then { p with val := BitVec.ofNat 64 (unsigned 32 x.u), q := q }
    else if a % 256 = liERR then { p with val := BitVec.ofNat 64 (unsigned 32 x.e), q := q }
    else if a % 256 = liSTAT then { p with val := (s.loopStat i).setWidth 64, q := q } else p
  else if itemBlock a = 5 then { p with q := if wBit (s.rec_ 0x06 i) 0 0 then 0 else 2 }
  else p

/-- Task `t` has taken its inputs: what runs of its slots it has seen (R275). -/
def State.seenLoops (s : State) (t : Nat) : State :=
  s.ce.slots.foldl (fun s e =>
    if e.2.fresh && s.itemOwner (loopItem e.1 liOUT) == some t then s.putLoop e.1 { s.loop e.1 with fresh := false } else s) s

end Sys2Proof.Machine
end

