-- ==== Sys2Proof/Machine/Lanes.lean ====
section
/-! DEFINITION. Lanes and activations (R27, R28, R109 to R116, R155 to R166, R249 to R253): instance
data, the input snapshot, the output image, the start of an activation, and its end with or without
publish and commit. -/

namespace Sys2Proof.Machine

/-! ### Lanes -/

def State.laneUsable (s : State) (l : Nat) : Bool := s.fbit Fld.PRT_LANES_usable l
def State.laneSplit (s : State) (l : Nat) : Bool := s.fbit Fld.PRT_LANES_split l

/-- The lane's master code (PRT_PFINFO.master, xx_ACCINFO.master). -/
def State.laneMaster (s : State) (l : Nat) : Nat := if s.laneSplit l then 8 + l else 1 + l / 2

/-- Modes in which block code runs: ACTIVE, STANDBY in step, and COMMISSION with the claim (R38, R612). -/
def State.runsCode (s : State) : Bool :=
  s.mode == mActive || s.mode == mStandby || s.commissionRuns

/-- The slice of a partition in the pair-local bank of a lane (R155). -/
def slice (l p : Nat) : Nat := 0x10C00000 + l / 2 * 0x200000 + p * 0x8000
def State.stackStart (s : State) (l p : Nat) : Nat :=
  slice l p + (if s.laneSplit l && l % 2 == 1 then 0x4200 else 0x200)
def State.stackLimit (s : State) (l p : Nat) : Nat :=
  slice l p + (if s.laneSplit l && l % 2 == 0 then 0x4000 else 0x8000)
def State.saveArea (s : State) (l p : Nat) : Nat :=
  slice l p + (if s.laneSplit l && l % 2 == 1 then 0x4000 else 0)

/-- The code bank an activation of task `t` runs. -/
def State.bankBase (s : State) (t : Nat) : Nat := s.codeBank (s.taskPart t) (s.task t).bank

/-- Word `i` of the entry of task `t` in the code-bank table (R166). -/
def State.entryWord (s : State) (t i : Nat) : Word :=
  let b := s.bankBase t
  match (upFrom 0 (min 512 (s.word (b + 0xC)).toNat)).find?
      fun e => (s.word (b + 0x100 + 16 * e)).toNat == t with
  | some e => s.word (b + 0x100 + 16 * e + 4 * i)
  | none => 0

/-- LKS_DBGSTAT, LKS_STAT.halted and LKS_PSTAT.state when the debugger halts an activation on lane `l` or lets it go. -/
def State.showHalt (s : State) (l : Nat) (h : Bool) (cause : Nat) : State :=
  let p := l / 2
  let s1 := ((s.flag Fld.LKS_DBGSTAT_halted h).put Fld.LKS_DBGSTAT_cause cause).putBit Fld.LKS_STAT_halted p h
  if s1.fbit Fld.LKS_CFG_usable p then
    s1.put (Fld.LKS_PSTAT_state p) (if h then 2 else if s1.laneSplit l then 1 else 0)
  else s1

/-- What the debugger holds of an activation of task `t` that ends on lane `l` (R191, R194): a halt shows no more, and what was
left of a step count is gone. -/
def State.endHalt (s : State) (a : Act) (l : Nat) : State :=
  let s1 := if a.halted then s.showHalt l false 0 else s
  if s1.lks.stepTask = some a.task then { s1 with lks := { s1.lks with steps := 0, stepTask := none } } else s1

/-! ### The agreement buffer (R180) -/

/-- An entry in the agreement buffer of lane `l`, at the instruction count of its activation. A split engine's buffer keeps its
last 16; a locked pair's checker, two cycles behind, has freed the oldest of 16 before a lane event is taken. -/
def State.enterAgr (s : State) (l kind : Nat) (v : Word64) : State :=
  match (s.lane l).act with
  | none => s
  | some a =>
    let x := s.lane l
    let buf := x.agr ++ [⟨a.count, kind, v⟩]
    let keep := buf.drop (buf.length - 16)
    (s.setLane l { x with agr := keep }).peak (Fld.LKS_PSTAT_agr_max (l / 2)) keep.length

/-- Whether a compare point of these kinds on lane `l` meets an injected mismatch (R193). -/
def State.injects (s : State) (l : Nat) (kinds : List Nat) : Bool :=
  let k := SMap.get 0 (l / 2) s.lks.armed
  k != 0 && !s.laneSplit l && kinds.contains k

/-! ### Lane events (R202) -/

/-- Lane events: 1 suspension; 2 resumption; 3 completion request; 4 end without publish; 5 end by an exhausted budget, of an
activation at its instruction count. A cold task's are not forwarded (R230). -/
def State.laneEvent (s : State) (a : Act) (l ev : Nat) : State :=
  if s.taskCold a.task || s.led a then s
  else s.forwardOf a fwEvent [wd l, wd ev, lo32 a.count, hi32 a.count, wd a.task]

/-! ### Instance data (R157 to R161) -/

/-- Size S of one copy, and bytes M of one map. -/
def State.instSize (s : State) (b : Nat) : Nat := (s.word (b + 4)).toNat
def mapBytes (size : Nat) : Nat := (size / 64 + 511) / 512 * 64
def State.instSel (s : State) (b : Nat) : Nat := b1 (bit (s.word (b + 8)) 0)

/-- Base of map `k`, and of copy `c`: 0 is A, 1 is B. -/
def State.mapBase (s : State) (b k : Nat) : Nat := b + 0x40 + k * mapBytes (s.instSize b)
def State.copyBase (s : State) (b c : Nat) : Nat :=
  b + 0x40 + 2 * mapBytes (s.instSize b) + c * s.instSize b

/-- Bit `l` of map `k`. -/
def State.mapBit (s : State) (b k l : Nat) : Nat := b1 ((s.byte (s.mapBase b k + l / 8)).getLsbD (l % 8))
def State.setMapBit (s : State) (b k l v : Nat) : State :=
  let a := s.mapBase b k + l / 8
  let m : Byte := BitVec.ofNat 8 (2 ^ (l % 8))
  s.setByte a (if v = 1 then s.byte a ||| m else s.byte a &&& ~~~m)

/-- The physical place of instance offset `o` in the working copy, and in the committed copy. -/
def State.workAddr (s : State) (b o : Nat) : Nat :=
  s.copyBase b (s.mapBit b (1 - s.instSel b) (o / 64)) + o
def State.commAddr (s : State) (b o : Nat) : Nat :=
  s.copyBase b (s.mapBit b (s.instSel b) (o / 64)) + o

/-- The physical place a store to instance offset `o` reaches (R158): in the copy that does not hold the committed line. -/
def State.storeAddr (s : State) (b o : Nat) : Nat :=
  s.copyBase b (1 - s.mapBit b (s.instSel b) (o / 64)) + o

/-- The line of offset `o` made ready for a store of this activation (R158). -/
def State.openLine (s : State) (b o : Nat) : State :=
  let l := o / 64
  let c := s.mapBit b (s.instSel b) l
  if s.mapBit b (1 - s.instSel b) l = c then
    let line := s.bytes (s.copyBase b c + 64 * l) 64
    (s.setBytes (s.copyBase b (1 - c) + 64 * l) line).setMapBit b (1 - s.instSel b) l (1 - c)
  else s

/-- Instance data stored at offset `o` (R158): an aligned item lies in one line. -/
def State.instStore (s : State) (b o : Nat) (bs : List Byte) : State :=
  let s1 := s.openLine b o
  s1.setBytes (s1.workAddr b o) bs

/-- Committed bytes of an instance. -/
def State.committed (s : State) (b o n : Nat) : List Byte :=
  (upFrom o n).map fun i => s.byte (s.commAddr b i)

/-- Commit (R159): sel inverted, the count and the time updated. -/
def State.instCommit (s : State) (b : Nat) : State :=
  let n := (s.word (b + 0x10)).toNat * 2 ^ 32 + (s.word (b + 0x14)).toNat + 1
  ((s.setWord (b + 8) (wd (1 - s.instSel b))).setPair (b + 0x10) n).setWord (b + 0x18) (lo32 s.time)

/-- The committed map copied over the other map (R159). -/
def State.copyMap (s : State) (b : Nat) : State :=
  let k := s.instSel b
  s.setBytes (s.mapBase b (1 - k)) (s.bytes (s.mapBase b k) (mapBytes (s.instSize b)))

/-- An instance pair built with copy A given by the bytes that differ from 0, and both maps clear
(R157, R160). -/
def State.buildPair (s : State) (b t size : Nat) (init : List (Nat × Byte)) : State :=
  let m := mapBytes size
  let clear := s.zero b (0x40 + 2 * m + size)
  let hdr := clear.setWords b [0x494E5354, wd size, 0, wd t]
  init.foldl (fun s (o, v) => s.setByte (b + 0x40 + 2 * m + o) v)
    hdr

/-! ### Input snapshot (R163, R164, R249) -/

/-- Bytes a slot takes. -/
def slotBytes : Slot → Nat
  | .point _ false => 8
  | .point _ true => 16
  | .queue _ m z => 16 + m * z

/-- Words of a point's slot. -/
def State.pointSlot (s : State) (a : Nat) (wide : Bool) : List Word :=
  let p := s.listInput a
  let forced := match s.forceOf a with | some f => !f.output | none => false
  let age := min 65535 ((s.time - p.time) / 10000)
  let tail := wd (p.q % 256 + (b1 forced + 2 * b1 p.settle) * 256 + age * 65536)
  if wide then [lo32 p.val.toNat, hi32 p.val.toNat, tail, 0] else [lo32 p.val.toNat, tail]

/-- Words of one message as a record of `z` bytes (R249). -/
def State.recordWords (s : State) (z d : Nat) : List Word :=
  let len := s.msgLen d
  let redel := bit (s.descWord d 1) 17
  let h := wd (len % 131072 + b1 (decide (z - 16 < len)) * 2 ^ 17 + b1 redel * 2 ^ 18 +
    s.msgEndpoint d * 2 ^ 24)
  let pay := (s.msgWords d).take ((z - 16) / 4)
  [h, s.msgTime d, s.msgUser d 0, s.msgUser d 1] ++ pay ++
    List.replicate ((z - 16) / 4 - pay.length) 0

/-- An input queue slot: up to `m` messages taken from the head and laid out (R249). -/
def State.queueSlot (s : State) (q m z : Nat) : State × List Nat × List Word :=
  let x := s.queue q
  let free := s.untaken q
  let ds := if s.qEn q then free.take m else []
  let drops := x.drops - x.dropsSeen
  let hdr := [wd (ds.length + (free.length - ds.length) % 65536 * 65536), wd (min drops 0xFFFFFFFF),
    wd (if s.qEn q then 0 else 2), 0]
  let recs := ds.flatMap (s.recordWords z)
  let pad := List.replicate ((16 + m * z) / 4 - 4 - recs.length) 0
  let s1 := ds.foldl (fun s d => s.readMsg d (z - 16)) s
  (s1.setQueue q { x with taken := x.taken ++ ds, dropsSeen := x.drops }, ds, hdr ++ recs ++ pad)

/-- The slots of a point list in order: the words, and the messages taken. -/
def State.gather : List Slot → State → List Word → List (Nat × List Nat) →
    State × List Word × List (Nat × List Nat)
  | [], s, ws, tk => (s, ws, tk)
  | .point a w :: rest, s, ws, tk => State.gather rest s (ws ++ s.pointSlot a w) tk
  | .queue q m z :: rest, s, ws, tk =>
    match s.queueSlot q m z with
    | (s1, ds, qs) => State.gather rest s1 (ws ++ qs) (tk ++ [(q, ds)])

/-- Messages taken at the leeward module: as many of each input queue as the forwarded snapshot says (R202, R253). -/
def State.followQueues : List Slot → List Word → State → List (Nat × List Nat) → State × List (Nat × List Nat)
  | [], _, s, tk => (s, tk)
  | .point _ w :: r, ws, s, tk => State.followQueues r (ws.drop (if w then 4 else 2)) s tk
  | .queue q m z :: r, ws, s, tk =>
    match s.queueSlot q (min m (wBits ws 0 15 0)) z with
    | (s1, ds, _) => State.followQueues r (ws.drop (slotBytes (.queue q m z) / 4)) s1 (tk ++ [(q, ds)])

/-- Header of the snapshot (R163). -/
def State.snapHeader (s : State) (t : Nat) (tr : Trig) : List Word :=
  [hi32 s.time, lo32 s.time, wd (s.fld (Fld.PRT_TACT_done t) + 1), wd (tr.src % 256), tr.angle,
   wd (s.mode + 8 * b1 s.hasClaim), s.reg Reg.RED_CLAIM, wd ((s.task t).skippedNow % 65536)] ++
  List.replicate 8 0

/-! ### Output image (R165, R251, R252) -/

/-- Enable bytes cleared at step 1. -/
def State.clearEnables : List Slot → Nat → State → State
  | [], _, s => s
  | .point _ false :: r, a, s => State.clearEnables r (a + 8) (s.setByte (a + 4) 0)
  | .point _ true :: r, a, s => State.clearEnables r (a + 16) (s.setByte (a + 8) 0)
  | .queue q m z :: r, a, s => State.clearEnables r (a + slotBytes (.queue q m z)) s

/-- Why partition `p` gets no more elements of a kind: 1 its quota ends first, 2 the pool (R251). -/
def State.shortOf (s : State) (kind p : Nat) : Nat :=
  let left := if kind = 0 then 32768 - s.qe.small.length else if kind = 1 then 4096 - s.qe.large.length else 16384 - s.qe.desc.length
  if s.quotaOf kind p - s.fld (useFld kind p) ≤ left then 1 else 2

/-- Records reserved for one output queue slot: how many of `m`, and why no more: 1 quota, 2 pool,
3 queue full (R251). -/
def State.reserveRecs (q z p : Nat) : Nat → State → List (Nat × List Nat) →
    State × List (Nat × List Nat) × Nat
  | 0, s, acc => (s, acc, 0)
  | n + 1, s, acc =>
    if !s.qEn q || decide (s.qLimit q ≤ s.depth q + (s.queue q).reserved) then (s, acc, 3)
    else
      match s.alloc 2 p with
      | (s1, none) => (s1, acc, s.shortOf 2 p)
      | (s1, some d) =>
        match s1.allocMany 0 p ((z - 16 + 255) / 256) [] with
        | (s2, none) => (s2.release 2 d, acc, s1.shortOf 0 p)
        | (s2, some bs) =>
          let x := s2.queue q
          State.reserveRecs q z p n (s2.setQueue q { x with reserved := x.reserved + 1 })
            (acc ++ [(d, bs)])

/-- Reservations of an output list at step 1; the slot headers written (R251). -/
def State.reserveSlots (p : Nat) : List Slot → Nat → State → List Resv → State × List Resv
  | [], _, s, acc => (s, acc)
  | .point _ w :: r, a, s, acc => State.reserveSlots p r (a + slotBytes (.point 0 w)) s acc
  | .queue q m z :: r, a, s, acc =>
    match State.reserveRecs q z p m s [] with
    | (s1, recs, why) =>
      State.reserveSlots p r (a + slotBytes (.queue q m z))
        (s1.setWords a [wd (recs.length + why * 65536), 0, 0, 0]) (acc ++ [⟨q, recs⟩])

/-- Headers of the output queue slots, as the windward module's copier wrote them: the agreed values of R251. -/
def State.slotHeaders (s : State) : List Slot → Nat → List Word
  | [], _ => []
  | .point _ w :: r, a => s.slotHeaders r (a + slotBytes (.point 0 w))
  | .queue q m z :: r, a => s.word a :: s.slotHeaders r (a + slotBytes (.queue q m z))

/-- The headers that came with a forwarded snapshot written (R251): what the windward module reserved serves both modules, and its
enqueues are mirrored (R253), so that the leeward module reserves nothing. -/
def State.followSlots : List Slot → Nat → List Word → State → State
  | [], _, _, s => s
  | .point _ w :: r, a, gs, s => State.followSlots r (a + slotBytes (.point 0 w)) gs s
  | .queue q m z :: r, a, gs, s =>
    State.followSlots r (a + slotBytes (.queue q m z)) gs.tail (s.setWords a [gs.headD 0, 0, 0, 0])

/-- One reserved record given back. -/
def State.dropResv (s : State) (q : Nat) (rc : Nat × List Nat) : State :=
  let s1 := (rc.2.foldl (fun s b => s.release 0 b) s).release 2 rc.1
  let x := s1.queue q
  s1.setQueue q { x with reserved := x.reserved - 1 }

/-- A record that task `t` of partition `p` sends at publish from its place in the image, or counted and given back (R252). -/
def State.sendRecord (s : State) (q p t z a : Nat) (rc : Nat × List Nat) : State :=
  let len := bits (s.word a) 16 0
  if z - 16 < len then (s.dropResv q rc).countDepth p
  else
    let need := rc.2.take ((len + 255) / 256)
    let s1 := (rc.2.drop need.length).foldl (fun s b => s.release 0 b) s
    let s2 := s1.fillBufs 0 need (s1.bytes (a + 16) len)
    let s3 := s2.setWords (descAddr rc.1)
      [wd (q * 65536), wd (len + 0x01000000), 0, wd (p * 65536), handleWord 0 need 0,
       handleWord 0 need 1, s2.word (a + 8), s2.word (a + 12)]
    let x := s3.queue q
    let s4 := s3.setQueue q { x with reserved := x.reserved - 1 }
    ({ s4 with qe := { s4.qe with makers := SMap.set 0 rc.1 (t + 1) s4.qe.makers } }).append q rc.1

/-- The records of one queue slot at publish: the first min(n, g) are sent (R252). -/
def State.sendRecords (q p t z a n : Nat) : Nat → List (Nat × List Nat) → State → State
  | _, [], s => s
  | i, rc :: r, s =>
    State.sendRecords q p t z a n (i + 1) r
      (if i < n then s.sendRecord q p t z (a + 16 + i * z) rc else s.dropResv q rc)

/-- Publish (R28, R30, R165, R252): every enabled slot released that the task may write, every queue slot sent of what the activation reserved. -/
def State.publishSlots (p t : Nat) : List Slot → Nat → List Resv → State → State
  | [], _, _, s => s
  | .point pt w :: r, a, rs, s =>
    let en := s.byte (a + (if w then 8 else 4)) == 1
    let v := leNat (s.bytes a (if w then 8 else 4))
    State.publishSlots p t r (a + slotBytes (.point 0 w)) rs
      (if en && s.mayWrite t pt then s.publish pt (BitVec.ofNat 64 v) else s)
  | .queue q m z :: r, a, rs, s =>
    match rs with
    | [] => State.publishSlots p t r (a + slotBytes (.queue q m z)) [] s
    | x :: rs' =>
      let n := bits (s.word (a + 4)) 15 0
      let s1 := State.sendRecords q p t z a n 0 x.recs s
      let s2 := (upFrom 0 (min m n - x.recs.length)).foldl (fun s _ => s.countDepth p) s1
      State.publishSlots p t r (a + slotBytes (.queue q m z)) rs' s2

/-! ### Task state -/

/-- PRT_TSTAT after an ending: pending, idle, or the state of a task that does not run. -/
def State.showTask (s : State) (t : Nat) : State :=
  let x := s.task t
  let st :=
    if x.decl.isEmpty then tsNone
    else if x.halted then tsFaulty
    else if !s.taskPlaced t then tsShed
    else if x.susp.isSome then tsSuspended
    else if (List.range 8).any (fun l => match (s.lane l).act with | some a => a.task == t | none => false)
    then tsRunning
    else if x.pending.isSome then tsPending else tsIdle
  s.put (Fld.PRT_TSTAT_state t) st

/-- The lane freed of its activation. A register access that it has in flight still acts in its block, for no lane (R184). -/
def State.clearLane (s : State) (l : Nat) : State :=
  let s1 := { s with sys := { s.sys with slow := s.sys.slow.map fun (a : SlowAcc) => if a.lane = some l then { a with lane := none } else a } }
  (((s1.setLane l { s1.lane l with act := none, agr := [], stalled := false }).flag (Fld.PRT_RUN_busy l)
    false).put (Fld.PRT_RUN_task l) 0).put (Fld.PRT_RUNUSED_used l) 0

/-- Messages taken become untaken at their places, redelivered; on a disabled queue they are freed
(R242, R250). -/
def State.untake (s : State) (tk : Nat × List Nat) : State :=
  tk.2.foldl (fun s d =>
    if s.qEn tk.1 then
      let x := s.queue tk.1
      (s.setQueue tk.1 { x with taken := x.taken.filter (· != d) }).setDescWord d 1
        (setBits (s.descWord d 1) 17 17 1)
    else s.dropMsg tk.1 d) s

/-- What every ending without completion does (R28, R159, R250, R252). -/
def State.discard (s : State) (a : Act) : State :=
  let s1 := a.taken.foldl State.untake s
  let s2 := a.resv.foldl (fun s r => r.recs.foldl (fun s rc => s.dropResv r.queue rc) s) s1
  s2.setTask a.task { s2.task a.task with copying := true }

/-- Budget used by an activation that ended, µs rounded up (PRT_TBUD.last). -/
def State.showUsed (s : State) (t used : Nat) : State := s.put (Fld.PRT_TBUD_last t) ((used + 249) / 250)

/-- The activation on lane `l` ends without completing (R28). `ev`: the lane event that tells the leeward module, 0 where its
lane comes to the same end by itself or is told in another way (R181, R185). -/
def State.endWith (s : State) (l ev : Nat) : State :=
  match (s.lane l).act with
  | none => s
  | some a =>
    let s1 := s.showUsed a.task (s.fld (Fld.PRT_RUNUSED_used l))
    let s2 := if ev = 0 then s1 else s1.laneEvent a l ev
    (((s2.discard a).clearLane l).endHalt a l).showTask a.task

def State.endAct (s : State) (l : Nat) : State := s.endWith l 4

/-- A suspended activation ends without completing. -/
def State.endSusp (s : State) (t : Nat) : State :=
  match (s.task t).susp with
  | none => s
  | some (a, _) =>
    let s0 := (s.showUsed t a.used).laneEvent a (s.taskLane t) 4
    let s1 := (s0.discard a).endHalt a (s.taskLane t)
    (s1.setTask t { s1.task t with susp := none }).showTask t

/-- Every activation ends without completing, running or suspended; lanes keep their windows. -/
def State.abandonAll (s : State) : State :=
  (upFrom 0 512).foldl (fun s t => s.endSusp t) ((upFrom 0 8).foldl State.endAct s)

/-- Tasks whose activation would be abandoned now: those running or suspended. -/
def State.inProgress (s : State) : List Nat :=
  (upFrom 0 512).filter fun t =>
    (s.task t).susp.isSome ||
      (List.range 8).any fun l => match (s.lane l).act with | some a => a.task == t | none => false

/-! ### Start (R25, R27, R140) -/

/-- Order of R25: the earlier trigger, then the lower task number. -/
def firstTrig (best : Option (Nat × Trig)) (t : Nat) (tr : Trig) : Option (Nat × Trig) :=
  match best with
  | none => some (t, tr)
  | some (_, b) => if tr.order < b.order then some (t, tr) else best

/-- The pending task that starts next on lane `l` in a window of partition `p`. -/
def State.nextTask (s : State) (l p : Nat) : Option (Nat × Trig) :=
  (upFrom 0 512).foldl (fun best t =>
    let x := s.task t
    match x.pending with
    | some tr =>
      if s.taskPlaced t && s.taskLane t == l && s.taskPart t == p && x.susp.isNone && !x.copying &&
          x.oldBase.isNone && !x.halted then firstTrig best t tr else best
    | none => best) none

/-- Whether an image gives a task another instance layout than a pair of `size` bytes has (R169, R170). -/
def AppTask.moves (a : AppTask) (size : Nat) : Bool :=
  decide (((wAt a.decl 3).toNat + 63) / 64 * 64 ≠ size) || !a.migrate.isEmpty

/-- The data of a new pair: each mapped item's committed value, each new item's initial value (R170). -/
def migrated (old : List Byte) (a : AppTask) : List Byte :=
  if a.moves old.length then
    (a.initial ++ a.migrate.flatMap fun (o, n, k) => (upFrom 0 k).map fun i => (n + i, old.getD (o + i) 0)).foldl
      (fun (m : List Byte) (e : Nat × Byte) => m.set e.1 e.2) (List.replicate (((wAt a.decl 3).toNat + 63) / 64 * 64) 0)
  else old

/-- A changed task takes the new code, and its new pair is built, at its first step 1 after the swap (R170). -/
def State.migrate (s : State) (t : Nat) : State :=
  let x := s.task t
  match x.newApps.getLast? with
  | none => s
  | some app =>
    let s1 := s.setTask t { x with app := some app, bank := SMap.get 0 (s.taskPart t) s.fw.banks, newApps := [], migrated := true }
    match x.oldPair with
    | none => s1
    | some _ =>
      let b := s.taskInst t
      let old := match x.saved with
        | some (_, bs) => bs
        | none => s.committed b 0 (s.instSize b)
      let bs := x.newApps.foldl migrated old
      (s1.setTask t { s1.task t with saved := none }).buildPair ((s.taskWord s.planBase t 3).toNat * 64) t bs.length
        ((upFrom 0 bs.length).zip bs)

/-- Clocks that the migration takes, 1 µs for each 2 KiB of the new instance: block code starts after it (R170). -/
def State.migrationTime (s : State) (t : Nat) : Nat :=
  let x := s.task t
  match x.newApps.getLast? with
  | none => 0
  | some app => if x.oldPair.isNone then 0 else ((wAt app.decl 3).toNat * 250 + 2047) / 2048

/-- Whether address `a` lies in the stack of a slice of a pair-local bank: past the save areas (R155). -/
def State.isStack (s : State) (a : Nat) : Bool :=
  let o := a % 0x8000
  decide (0x10C00000 ≤ a ∧ a < 0x11400000) && decide (0x200 ≤ o) &&
    !(s.fbit Fld.PRT_LANES_split (2 * ((a - 0x10C00000) / 0x200000)) && decide (0x4000 ≤ o ∧ o < 0x4200))

/-- The `n` bytes from address `a` hold what an activation stored, as far as they lie in a stack. -/
def State.markStack (s : State) (a n : Nat) : State :=
  if s.isStack a then { s with prt := { s.prt with stack := (upFrom a n).foldl (fun m x => SMap.set 0 x 1 m) s.prt.stack } } else s

/-- Registers of a lane at step 1 (R140); the root link record written. Everything else in the stack is undefined (R155). -/
def State.startRegs (s : State) (l t : Nat) : State :=
  let p := s.taskPart t
  let start := s.stackStart l p
  let s0 := { s with prt := { s.prt with
    stack := s.prt.stack.filter fun e => decide (e.1 < start) || decide (s.stackLimit l p ≤ e.1) } }
  let s1 := (s0.setWords start [0, 0, 0, 0, 0, 0, 0, 0]).markStack start 32
  let eng : Engine :=
    { g := [], ib := 0
      cb := BitVec.ofNat 40 (s.constBase p + (s.entryWord t 3).toNat)
      sb := BitVec.ofNat 40 (start + 32)
      pc := BitVec.ofNat 40 (s.bankBase t + (s.entryWord t 1).toNat) }
  s1.setLane l { s1.lane l with eng := eng }

/-- Snapshot words that the windward module forwarded for task `t` (R202). -/
def State.forwardedSnap (s : State) (t : Nat) : Option FwdItem :=
  s.red.queue.find? fun i => i.kind == fwSnapshot && (wAt i.ws 0).toNat == t

/-- Step 1 of R27 for task `t` on lane `l`. -/
def State.startAct (s : State) (l t : Nat) (tr : Trig) : State :=
  let s0 := s.migrate t
  let x := s0.task t
  let app := x.app.getD { task := t }
  let p := s0.taskPart t
  let given := if s0.leeward || s0.red.crossing then s0.forwardedSnap t else none
  let n := 16 + (app.inputs.map slotBytes).foldl (· + ·) 0 / 4
  let (s1, ws, tk) :=
    match given with
    | some i =>
      let (sa, tk) := State.followQueues app.inputs (i.ws.drop 18) s0 []
      (sa.useItem i, (i.ws.drop 2).take n, tk)
    | none =>
      let (sa, ws, tk) := State.gather app.inputs s0 [] []
      (sa, s0.snapHeader t tr ++ ws, tk)
  let s2 := State.clearEnables app.outputs (s.imageArea t)
    ((s1.seenLoops t).setWords (s.snapArea t) ws)
  let (s3, rs) := match given with
    | some i => (State.followSlots app.outputs (s.imageArea t) (i.ws.drop (2 + n)) s2, [])
    | none => State.reserveSlots p app.outputs (s.imageArea t) s2 []
  let act : Act :=
    { task := t, part := p, trig := tr, budget := s3.taskBudget t * 250, bank := x.bank,
      taken := tk, resv := rs
      role := if s0.red.crossing && (s0.forwardedSnap t).isSome then 2 else 0 }
  let s4 := (s3.startRegs l t).setTask t { s3.task t with pending := none, skippedNow := 0 }
  let s5 := s4.setLane l { s4.lane l with act := some act }
  let s6 := ((((s5.flag (Fld.PRT_RUN_busy l) true).put (Fld.PRT_RUN_task l) t).put
    (Fld.PRT_RUNUSED_used l) 0).put (Fld.PRT_TBUD_budget t) (s5.taskBudget t)).showTask t
  let s7 := if s6.taskCold t || s6.led act then s6 else s6.forward fwSnapshot ((wd t :: wd l :: ws) ++ s6.slotHeaders app.outputs (s6.imageArea t))
  s7.advance (s.migrationTime t)

/-! ### Completion (R28, R159, R204, R252) -/

/-- Signature over the published image and the committed lines (R204). -/
def State.actSignature (s : State) (t : Nat) : Word64 :=
  let app := ((s.task t).app).getD { task := t }
  let n := (app.outputs.map slotBytes).foldl (· + ·) 0
  Config.runSignature (s.bytes (s.imageArea t) n ++
    s.committed (s.taskInst t) 0 (s.instSize (s.taskInst t)))

/-- Retain ranges of task `t` written to the MRAM checkpoint region (R160). -/
def State.saveRetain (s : State) (t : Nat) : State :=
  let app := ((s.task t).app).getD { task := t }
  let bs := app.retain.flatMap fun (o, n) =>
    (upFrom o n).map fun i => (i, s.byte (s.commAddr (s.taskInst t) i))
  if bs.isEmpty then s
  else
    let s1 := s.setBytes (mramRetain t) ((bs.map (·.2)).take 4096)
    { s1 with nv := { s1.nv with retain := SMap.set [] t bs s1.nv.retain } }

/-- Commit count of an instance pair. -/
def State.commits (s : State) (t : Nat) : Nat :=
  let b := s.taskInst t
  (s.word (b + 0x10)).toNat * 2 ^ 32 + (s.word (b + 0x14)).toNat

/-- The lull measured at the first publication of an in-step task after a veer (R223). -/
def State.closeLull (s : State) : State :=
  match s.red.lullFrom with
  | none => s
  | some t0 =>
    let us := (s.time - t0) / 1000
    let s1 := { (s.put Fld.RED_LULL_last us).put Fld.RED_STATE_veer 0 with
      red := { s.red with lullFrom := none }, nv := { s.nv with lull := us } }
    s1.notify 0x0380 none [s1.reg Reg.RED_CLAIM, wd s1.sys.node, wd us]

/-- The pair of task `t` as a resynchronisation carries it (R228): its header, its committed lines, and both maps as the
committed one. -/
def State.pairCells (s : State) (t : Nat) : List (Nat × Byte) :=
  let b := s.taskInst t
  let n := s.instSize b
  let m := mapBytes n
  let sel := s.mapBase b (s.instSel b)
  (upFrom b 64).map (fun a => (a, s.byte a)) ++
    ((upFrom 0 m).flatMap fun i => [(s.mapBase b 0 + i, s.byte (sel + i)), (s.mapBase b 1 + i, s.byte (sel + i))]) ++
    (upFrom 0 n).map fun o => (s.commAddr b o, s.byte (s.commAddr b o))

/-- A commit of in-step task `t` while the partner resynchronises (R228): recorded in phase 4, sent in phase 5. -/
def State.mirrorCommit (s : State) (t : Nat) : State :=
  if s.taskCold t || !s.windward then s
  else if s.fld Fld.RED_RESYNC_phase = 4 then { s with red := { s.red with dirty := s.red.dirty.filter (· != t) ++ [t] } }
  else if s.fld Fld.RED_RESYNC_phase = 5 then
    { s.sendCopy lkMirror 5 { cells := s.pairCells t } with red := { s.red with mirror := s.red.mirror.filter (· != t) } }
  else s

/-- Publish and commit of the activation on lane `l`, in one engine cycle (R28). -/
def State.completeAct (s : State) (l : Nat) : State :=
  match (s.lane l).act with
  | none => s
  | some a =>
    let t := a.task
    let app := ((s.task t).app).getD { task := t }
    let s1 := State.publishSlots a.part t app.outputs (s.imageArea t) a.resv s
    let s2 := (s1.instCommit (s1.taskInst t)).mirrorCommit t
    let s3 := a.taken.foldl (fun s tk => tk.2.foldl (fun s d => s.dropMsg tk.1 d) s) s2
    let s4 := (s3.wrapInc (Fld.PRT_TACT_done t)).put (Fld.PRT_TSTAT_consec t) 0
    let x := s4.task t
    let s5 := s4.setTask t { x with
      traps := 0, copying := true, oldPair := if x.migrated then none else x.oldPair, migrated := false }
    let s6 := if s5.commits t % 100 == 0 then s5.saveRetain t else s5
    let s7 := s6.showUsed t (s6.fld (Fld.PRT_RUNUSED_used l))
    let sig := s7.actSignature t
    let s8 := if s7.led a || s7.taskCold t then s7
      else s7.forwardOf a fwMarker
        [wd l, wd t, s7.reg (Reg.PRT_TACT t), lo32 sig.toNat, hi32 sig.toNat]
    let s9 := ((s8.clearLane l).endHalt a l).showTask t
    if s9.taskCold t then s9 else s9.closeLull

end Sys2Proof.Machine
end

