-- ==== Sys2Proof/Machine/Shadow.lean ====
section
/-! DEFINITION. Shadows (R11, R71, R73): a value written to a field whose Applies-at code is not IMM waits
here for its boundary. A register has one entry for each code among its fields. -/

namespace Sys2Proof.Machine

/-- Index of an Applies-at code among the shadows of a register. -/
def App.idx : App → Nat
  | .imm => 0
  | .cyc => 1
  | .frm => 2
  | .rst => 3

/-- The word that waits in the shadow of register `k` for code `a`. -/
def State.shadowOf (s : State) (k : Nat) (a : App) : Option Word := SMap.get none (k * 4 + a.idx) s.shadow

def State.setShadow (s : State) (k : Nat) (a : App) (w : Option Word) : State :=
  { s with shadow := SMap.set none (k * 4 + a.idx) w s.shadow }

/-- One field of a register given a value through its shadow: the other fields keep what waits for them. -/
def State.putShadow (s : State) (f : Fld) (a : App) (v : Nat) : State :=
  s.setShadow f.key a (some (setBits ((s.shadowOf f.key a).getD (s.reg f.key)) f.hi f.lo v))

/-- The register of the tables that stands at key `k`. -/
def strideHas : List (Nat × Nat × Nat) → Nat → Bool
  | [], off => off == 0
  | (st, a, b) :: rest, off =>
    if st = 0 then false
    else
      let n := min b (off / st)
      decide (a ≤ n) && decide (n * st ≤ off) && strideHas rest (off - n * st)

def RegInfo.covers (r : RegInfo) (k : Nat) : Bool :=
  decide (r.base ≤ k) && strideHas r.strides (k - r.base)

/-- The register at key `k`: one of the common registers, or one of its block's. -/
def regInfoAt (k : Nat) : Option RegInfo :=
  match regRows.common.find? (·.covers k) with
  | some r => some r
  | none => (regTable (k / 65536)).find? (·.covers k)

/-- The register that decodes at key `k`: none in the window of a CAN port that is not fitted, but for the common registers
(R19, R541). -/
def State.regInfo (s : State) (k : Nat) : Option RegInfo :=
  if k / 65536 = 16 ∧ k % 65536 < 0xFFF0 ∧ s.sys.pins.canAbsent.contains (k % 65536 / 0x4000) then none else regInfoAt k

/-- Registers whose tables mark them slow (R68). -/
def slowNames : List String :=
  ["FIO_LOWCLAIMu", "FIO_HBc_CNT", "FIO_PKp_COIL", "FIO_AO_CNT", "FIO_AO_COMPc", "ETH_MDIOp", "PNL_TIMING", "PNL_DRIVE",
   "PNL_GAMMAg", "PNL_PREi", "PNL_WEARADDR", "PNL_WEARDATA", "PNL_KEYS", "PNL_SLIDER", "PNL_CNT", "BST_PAIRp",
   "BST_SIGp", "AGE_WORST", "AGE_ESR", "AGE_SCAP", "AGE_DELAYm"]
def RegInfo.slow (r : RegInfo) : Bool := slowNames.contains r.name

/-- Fields of the register at `k` with code `a`; none where no table names the register. -/
def fieldsAt (k : Nat) (a : App) : List RegField :=
  match regInfoAt k with
  | some r => r.fields.filter (·.app == a)
  | none => []

/-- The shadow of register `k` for code `a` becomes the value in force (R71). -/
def State.takeShadow (s : State) (k : Nat) (a : App) : State :=
  match s.shadowOf k a with
  | none => s
  | some w =>
    (fieldsAt k a).foldl (fun s f => s.setReg k (setBits (s.reg k) f.hi f.lo (bits w f.hi f.lo)))
      (s.setShadow k a none)

/-- Every shadow that waits for code `a`, in register order (R71). -/
def State.takeShadows (s : State) (a : App) : State :=
  s.shadow.foldl (fun s e => if e.1 % 4 = a.idx then s.takeShadow (e.1 / 4) a else s) s

end Sys2Proof.Machine
end

