-- ==== Sys2Proof/Machine/PanelCore.lean ====
section
/-! DEFINITION. What other parts of the module do to the panel (R548, R553, R555): the return from the dimmed
level, the lamps, and the function of the service port. -/

namespace Sys2Proof.Machine

/-- The panel record in force (R556), its defaults taken. -/
def State.pnlRec (s : State) : List Word := s.rec_ 0x13 0
def State.dimTime (s : State) : Nat := if wBits s.pnlRec 2 5 0 = 0 then 10 else wBits s.pnlRec 2 5 0
def State.dimLevel (s : State) : Nat := if wBits s.pnlRec 2 14 8 = 0 then 25 else wBits s.pnlRec 2 14 8

/-- Full level asked for at the next frame (R548). -/
def State.undim (s : State) : State :=
  match s.pnl.base with
  | none => s
  | some i =>
    { ((s.flag Fld.PNL_STAT_dimmed false).putShadow Fld.PNL_DRIVE_iseg .frm i) with
      pnl := { s.pnl with base := none } }

/-- The dim level when the dim time since the last key or touch has passed, but never in SAFE (R548). -/
def State.dim (s0 : State) : State :=
  if s0.mode == mSafe || s0.pnl.base.isSome then s0
  else
    let s := s0.clkUntil (s0.pnl.usedAt + s0.dimTime * 15000000000)
    let i := bits ((s.shadowOf Reg.PNL_DRIVE .frm).getD (s.reg Reg.PNL_DRIVE)) 7 0
    { ((s.flag Fld.PNL_STAT_dimmed true).putShadow Fld.PNL_DRIVE_iseg .frm (i * s.dimLevel / 100)) with
      pnl := { s.pnl with base := some i } }

/-- The lamps of R553 that station firmware drives, as PNL_LED [11:0]. -/
def State.lampWord (s : State) : Nat :=
  let mode :=
    if s.sys.wait = .removed then 0
    else if s.mode = mActive then 1
    else if s.mode = mStandby then 4
    else if s.mode = mBoot ∨ s.mode = mResync then 5
    else if s.mode = mSafe then 3
    else 2
  let claim := if s.isSet Fld.SYS_STAT_claim then 1 else 0
  let fault := if s.isSet Fld.SYS_STAT_unconfirmed then 6 else if s.isSet Fld.SYS_STAT_degraded then 3 else 0
  let st := s.fld Fld.TU_STAT_state
  let time := if st = 2 then 1 else if st = 3 then 5 else if st = 4 then 2 else 0
  mode + 8 * claim + 64 * fault + 512 * time

/-- The lamp test of R553: every lamp is lit for 1 s from the release of reset. -/
def State.lampTest (s : State) : Bool := decide (s.clk < s.pnl.litFrom + 250000000)

/-- The lamps brought up to date: station firmware writes its four when what they should show changes, and
hardware drives the other two (R553, R554). -/
def State.settleLamps (s : State) : State :=
  let w := s.lampWord
  let s1 := if w = s.pnl.lamps then s
    else { s.put ⟨Reg.PNL_LED, 11, 0⟩ w with pnl := { s.pnl with lamps := w } }
  (s1.flag Fld.PNL_LED_pwr (s.lampTest || s.sys.pins.in0 || s.sys.pins.in1)).flag Fld.PNL_LED_force
    (s.lampTest || s.isSet Fld.SYS_STAT_forcing)

/-- The service port's function follows the mode (R555): offered in COMMISSION and SERVICE while a plug is
attached. Where it goes, the connection of mailbox 64 over it ends. -/
def State.usbFollow (s : State) : State :=
  let offer := s.isSet Fld.PNL_USB_attached && (s.mode == mCommission || s.mode == mService)
  let s1 := s.flag Fld.PNL_USB_function offer
  if offer then s1
  else
    let s2 := s1.flag Fld.PNL_USB_configured false
    if s2.fw.connService then { s2 with fw := { s2.fw with conn := none, connService := false, connKey := [], stream := [] } } else s2

/-- The pump bit of PNL_DRIVE written (R545): from 0 to 1 the pump switches on and ramps, a fault cleared; 0 switches it
off. No pump runs on hold-up energy. -/
def State.pumpBit (s : State) (on : Bool) : State :=
  let was := s.isSet Fld.PNL_DRIVE_pump
  let s1 := s.flag Fld.PNL_DRIVE_pump on
  if s1.sys.holdup then s1
  else if on && !was then
    { (s1.put Fld.PNL_STAT_state 1).clearAlert 545 0 with pnl := { s1.pnl with barred := false, rampAt := some s1.clk } }
  else if !on then s1.put Fld.PNL_STAT_state 0
  else s1

end Sys2Proof.Machine
end

