-- ==== Sys2Proof/Machine/ModeHooks.lean ====
section
/-! DEFINITION. What a change of mode does to the plant-side blocks (R38, R41, R475, R539). -/

namespace Sys2Proof.Machine

/-- The plant-side blocks at a change of mode from `old` to `new`: outside the modes in which SAF evaluates, its
outputs are de-energised, the CAN ports take up the mode, and the panel returns to full level. -/
def State.plantMode (s : State) (old new : Nat) : State :=
  let driven := fun m => m == mCommission || m == mActive
  let s0 := if driven old && !driven new then s.abortJobs 2 else s
  let s1 := (s0.canMode new).undim.usbFollow
  if new = mCommission ∨ new = mActive ∨ new = mStandby ∨ new = mSafe then s1
  else { s1 with saf := { s1.saf with sto := 0, evalAt := none } }

end Sys2Proof.Machine
end

