-- ==== Sys2Proof/Machine/Settle.lean ====
section
/-! DEFINITION. What the module shows in one register of what another place holds: mirrors and counts
that the register tables define by another register or by a list. Every command ends with them
brought up to date. -/

namespace Sys2Proof.Machine

/-- RED_STATE.state (R237). -/
def State.redState (s : State) : Nat :=
  if !s.sys.pins.pair then 0
  else if s.mode = mStandby then 3
  else if s.mode = mResync then 4
  else if s.hasClaim then (if s.partnerStandby then 1 else 2)
  else 5

/-- The station address and the serial drivers belong to the windward module (R511, R523). -/
def State.settlePorts (s : State) : State :=
  let w := s.windward
  let s1 := [0, 1].foldl (fun s p => s.flag (Fld.ETH_PSTAT_station p) (w && wBit (s.rec_ 0x10 p) 0 0)) s
  (upFrom 0 4).foldl (fun s n =>
    (s.flag (Fld.SER_STAT_drv n) (w && wBit (s.rec_ 0x12 n) 0 0)).put (Fld.SER_STAT_proto n)
      (wBits (s.rec_ 0x12 n) 0 5 3)) s1

/-- The mirrors of SYS, LKS and RED, and the free counts of QE (R56, R194, R237, R259). -/
def State.settleMirrors (s : State) : State :=
  (((((((((s.flag Fld.SYS_STAT_claim s.hasClaim).flag Fld.SYS_STAT_forcing (!s.fw.forces.isEmpty)).put
    Fld.SYS_BOOT_prt_lock (s.fld Fld.PRT_LOCK_lock)).put
    Fld.LKS_CFG_split (s.fld Fld.SYS_CFG_split)).put
    Fld.RED_STATE_state s.redState).flag
    Fld.RED_STATE_pair s.sys.pins.pair).put
    Fld.QE_FREE0_small (32768 - s.qe.small.length)).put
    Fld.QE_FREE0_large (4096 - s.qe.large.length)).put
    Fld.QE_FREE1_desc (16384 - s.qe.desc.length))

/-- What every command ends with: the edges of counted conditions, and the mirrors. -/
def State.settle (s : State) : State := s.pfcEdges.settlePorts.settleMirrors.settleLamps

/-- A command's answer: the next state, mirrors brought up to date. -/
def State.done (s : State) : Res := .next s.settle

end Sys2Proof.Machine
end

