-- ==== Sys2Proof/Machine/Modes.lean ====
section
/-! DEFINITION. Claims, modes, resets and veers (R38 to R46, R54, R55, R213, R217, R222, R225): the
operations that every cause of them shares. -/

namespace Sys2Proof.Machine

/-! ### The pair record and witnesses (R195, R208) -/

def State.fibre (s : State) : Bool := s.sys.medium

/-- Cage X7 or X8, and the bits of ETH and RED that show whether a module is in it (R237, R526). -/
def State.cage (s : State) (n : Nat) : Sfp := SMap.get {} n s.sfp
def State.showCage (s : State) (n : Nat) : State :=
  let b := (s.cage n).present
  (s.flag (Fld.ETH_PSTAT_sfp (4 + n)) b).flag ⟨Reg.RED_LINK, 2 + n, 2 + n⟩ b
def State.witPrimary (s : State) : Nat := wBits (s.rec_ 0x0F 0) 1 13 0
def State.witSecondary (s : State) : Option Nat :=
  if wBit (s.rec_ 0x0F 0) 1 30 then some (wBits (s.rec_ 0x0F 0) 1 29 16) else none
def State.witnesses (s : State) : List Nat :=
  if (s.rec_ 0x0F 0).isEmpty then [] else
    s.witPrimary :: (match s.witSecondary with | some w => [w] | none => [])

/-- A witness message sent to every configured witness (R209). -/
def State.toWitnesses (s : State) (op : Nat) (ws : List Word) : State :=
  s.witnesses.foldl (fun s w => s.send (.witness w) op ws) s

/-! ### Claims (R213) -/

/-- A claim kept in MRAM (R14, R47, R213). -/
def State.keepClaim (s : State) (n : Word) : State :=
  let s1 := s.setWord mramClaim n
  { s1 with nv := { s1.nv with claim := n } }

/-- A claim driven: written to MRAM first, then raised. -/
def State.raiseClaim (s : State) (n : Word) : State := (s.keepClaim n).setReg Reg.RED_CLAIM n

/-- Claim 0 driven. -/
def State.dropClaim (s : State) : State := s.setReg Reg.RED_CLAIM 0

/-- The highest claim a module holds in MRAM or has seen from its partner. -/
def State.highClaim (s : State) : Word :=
  if (s.reg Reg.RED_CLAIM_PEER).toNat < s.nv.claim.toNat then s.nv.claim else s.reg Reg.RED_CLAIM_PEER

/-- WIT_CLAIMED of a kind (R209). -/
def State.witClaimed (s : State) (n : Word) (kind : Nat) : State :=
  s.toWitnesses 0x0345 [wd s.stationNode, n, wd kind]

/-! ### Modes (R38, R42) -/

/-- Modes in which block code runs with or without the plant. -/
def runMode (m : Nat) : Bool := m == mActive || m == mStandby || m == mCommission

/-- The modes whose outputs are off hold no claim (R39, R41). -/
def keepsClaim (m : Nat) : Bool := m == mActive || m == mCommission || m == mSafe

/-- Forces that wait for a boundary still to come: the manual does not say what becomes of them when COMMISSION is left; here
they are dropped, since forcing is confined to COMMISSION (DESIGN CHOICE, log entry 139). -/
def State.dropForces (s : State) : State :=
  { s with fw := { s.fw with commits := s.fw.commits.map fun c =>
      { c with stages := c.stages.filter fun st => match st with | .force _ _ on => !on | _ => true } } }

/-- Every force released, with one record that lists them (R174). -/
def State.releaseForces (s0 : State) : State :=
  let s := s0.dropForces
  if s.fw.forces.isEmpty then s
  else
    let s1 := s.record 1 174 s.fw.forces.length 0 0 0xFF (s.fw.forces.map fun f => wd f.addr)
    { s1 with fw := { s1.fw with forces := [] } }

/-- The debugger detached; a halted activation ends without publish (R192). -/
def State.detach (s : State) : State :=
  match s.lks.attached with
  | none => s
  | some l =>
    let s0 := match (s.lane l).act with
      | some a => if a.halted then s.endAct l else s
      | none => s
    let s1 := (upFrom 0 512).foldl (fun s t =>
      match (s.task t).susp with
      | some (a, _) => if a.halted && s.taskLane t == l then s.endSusp t else s
      | none => s) s0
    let s2 := { s1 with lks := { s1.lks with attached := none, haltReq := false, steps := 0, stepTask := none } }
    (s2.flag Fld.LKS_DBGSTAT_attached false).showHalt l false 0

/-- Pending activations dropped: in a mode that runs no block code none is started (R38), and a module that leaves STANDBY
discards the triggers forwarded to it (R202). -/
def State.dropPending (s : State) : State :=
  (upFrom 0 512).foldl (fun s t =>
    if (s.task t).pending.isSome then (s.setTask t { s.task t with pending := none }).showTask t else s) s

/-- Whether block code is started in a stay in COMMISSION that begins (R38): the manual gives Pliuz no command for it, so the
value is free. -/
def State.startedIn (s : State) (m : Nat) : State :=
  if m != mCommission then s
  else
    let (f, s1) := s.fresh
    { s1 with sys := { s1.sys with started := f.getLsbD 0 } }

/-- A mode entered (R38, R42): the mode and the one before it, the mailboxes it serves, what it ends,
and the notification of its being in force (R43). -/
def State.enterMode (s : State) (m : Nat) : State :=
  let old := s.mode
  let s1 := if runMode old && !runMode m then s.abandonAll.dropPending else s
  let s2 := if old == mCommission && m != mCommission then s1.detach.releaseForces else s1
  let s3 := if keepsClaim m then s2 else s2.dropClaim
  let s4 := (s3.put Fld.SYS_MODE_prev old).put Fld.SYS_MODE_mode m
  let s5 := (upFrom 0 72).foldl (fun s b => s.flag (Fld.MBX_STAT_served b) (servedIn m b)) s4
  let s6 := State.startedIn { s5 with sys := { s5.sys with imgSel := if m == mService then s5.sys.imgSel else false } } m
  (s6.plantMode old m).notify 0x0180 none [wd (m + old * 256)]

/-! ### Resets (R54, R55) -/

/-- Reset causes. -/
def rcPowerOn : Nat := 0
def rcSupply : Nat := 1
def rcWatchdog : Nat := 2
def rcLockstep : Nat := 3
def rcCommanded : Nat := 4
def rcPanel : Nat := 5
def rcSelftest : Nat := 6
def rcImage : Nat := 7
def rcHotSwap : Nat := 8
def rcEcc : Nat := 9
def rcTemp : Nat := 10
def rcVeerLoser : Nat := 11

/-- Words 0 to 6 of a reset record (R55). -/
def State.resetWords (s : State) (cause detail : Nat) : List Word :=
  let t := if s.isSet Fld.TU_STAT_valid then s.time else 0
  [hi32 t, lo32 t, wd (cause % 16 + s.mode * 16 + bits (s.reg Reg.SYS_STAT) 15 0 * 65536),
   s.reg Reg.RED_CLAIM, wd s.nv.boots, Config.firmwareVersion, wd detail]

/-- A reset record written to the ring, its valid mark last (R55). -/
def State.writeResetRecord (s : State) (ws : List Word) : State :=
  let a := 0x800F00000 + s.nv.rstIdx % 256 * 32
  { (s.setWord (a + 28) 0).setWords a (ws ++ [0x52455354]) with
    nv := { s.nv with rstIdx := (s.nv.rstIdx + 1) % 256, rstRec := none } }

/-- Times that the field side and the remote units hold from before a reset, at which station time `t` and fabric clock `c` start
again at 0: they count from it (log entry 157). -/
def Barrier.rebase (t : Nat) (x : Barrier) : Barrier := { x with downAt := x.downAt - t, fieldAt := x.fieldAt - t }
def FChan.rebase (t : Nat) (x : FChan) : FChan :=
  let o := fun (a : Option Nat) => a.map (· - t)
  { x with
    ts := x.ts - t, runT := x.runT - t, since := x.since - t, latchAt := x.latchAt - t, holdFrom := x.holdFrom - t
    lowSince := o x.lowSince, highSince := o x.highSince, limSince := o x.limSince
    misSince := o x.misSince, openSince := o x.openSince, compSince := o x.compSince }
def Fio.rebase (t c : Nat) (x : Fio) : Fio :=
  { x with
    kickAt := x.kickAt - t
    okAt := x.okAt.map fun e => (e.1, e.2.map (· - t))
    links := x.links.map fun e => (e.1, e.2.rebase t)
    chans := x.chans.map fun e => (e.1, e.2.rebase t)
    ons := x.ons.map fun e => (e.1, (e.2.filter fun k => decide (c < k + 250000)).map (· - c)) }
def RUnit.rebase (t c : Nat) (x : RUnit) : RUnit :=
  { x with tk := x.tk - t, resetAt := x.resetAt - t, heard := x.heard - t, framed := x.framed - t, teleAt := x.teleAt - c }

/-- Memory that a reset keeps: MRAM (R13, R49). -/
def keepMram (m : List Host.Cell) : List Host.Cell := m.filter fun c => decide (0x800000000 ≤ c.1)

/-- The release of a reset of some cause: every register at its reset value, the contacts and the
cause loaded, MRAM and the image store kept, memory zeroed (R49, R54, R61, R73). The field-side logic
of the output stages and the free-value count are not reset. -/
def State.afterReset (s : State) (cause : Nat) : State :=
  let p := s.sys.pins
  let base : State :=
    { State.reset with
      pending := s.pending, free := s.free, sent := s.sent, copied := s.copied, linkTx := { line := s.linkTx.line }, mem := keepMram s.mem, nv := s.nv
      fw := { State.reset.fw with store := s.fw.store, used := s.fw.used, delivered := s.fw.delivered }
      sys := { State.reset.sys with pins := p }
      red := { State.reset.red with stages := s.red.stages }
      sfp := s.sfp.map fun e => (e.1, { e.2 with readAt := 0 })
      rio := { State.reset.rio with
        units := s.rio.units.map fun u => (u.1, { u.2.rebase s.time s.clk with
          state := 0, type := 0, fw := 0, serial := 0, node := 0, everOp := false, copyb := false
          turn := false, silence := false, missRun := 0, okRun := 0, missed := 0, low := 0 }) }
      fio := { s.fio.rebase s.time s.clk with
        sending := false, edges := []
        links := (s.fio.rebase s.time s.clk).links.map fun l => (l.1, { l.2 with up := false, ever := false, okLogic := 0 }) } }
  (((((base.put Fld.SYS_RSTCAUSE_cause cause).put Fld.SYS_SLOT_slot p.slot).flag Fld.SYS_SLOT_even
    p.even).flag Fld.SYS_SLOT_pair p.pair).flag Fld.SYS_SLOT_partner_in p.partnerIn)

/-- Causes whose reset record is written before the reset (R54). -/
def recordsBefore (cause : Nat) : Bool :=
  cause == rcCommanded || cause == rcImage || cause == rcSupply

/-- Whether a veer is in progress or pending. -/
def State.inVeer (s : State) : Bool :=
  s.handingOver || s.veering || (match s.red.ask with | some a => a.cause == 1 | none => false)

/-- Records of what a reset of a cause wins over (R46): a veer in progress, which its own loser's reset ends, and a mode
request. -/
def State.lostToReset (s : State) (cause : Nat) : List EvMsg :=
  let one := fun (object after mbx : Nat) => s.recordMsg 1 46 object s.mode after mbx []
  (if cause != rcVeerLoser && s.inVeer then [one (256 + s.fld Fld.RED_STATE_veer) 0 255] else []) ++
  (match s.sys.modeAt with | some (m, mbx) => if mbx < 68 then [one m m mbx] else [] | none => []) ++
  (match s.sys.confirm with | some d => [one mCommission mCommission d.mbx] | none => [])

/-- A reset of some cause and detail (R42, R54). What it wins over is dropped with a record (R46), the first records of the
station firmware that starts again. -/
def State.resetModule (s : State) (cause detail : Nat) : State :=
  let ws := s.resetWords cause detail
  let s0 := { s with nv := { s.nv with dropped := s.nv.dropped ++ s.lostToReset cause } }
  let s1 := if recordsBefore cause then s0.writeResetRecord ws
    else { s0 with nv := { s0.nv with rstRec := some ws } }
  s1.afterReset cause

/-- The cause of a commanded reset: IMAGE_END from SERVICE after an IMG_SELECT (R54, R615). -/
def State.commandedCause (s : State) : Nat :=
  if s.mode == mService && s.sys.imgSel then rcImage else rcCommanded

/-! ### Veers (R225, R227) and the faults of R44 -/

/-- A pending commanded veer cancelled: VEER_REQ answered ABORTED with flag VEER (R94, R227). -/
def State.cancelVeer (s : State) : State :=
  match s.red.veer with
  | none => s
  | some v =>
    ({ s with red := { s.red with veer := none }, sys := { s.sys with removal := false } }).respond v.who
      ⟨stAborted, 4, [wd 0xFFFF0000]⟩

/-- A module that has yielded after a supply loss only writes its hold-up records (R225): R217 does not reset it. -/
def State.yieldedInHoldup (s : State) : Bool := s.sys.holdup && !s.hasClaim

/-- Requests taken and not answered are the new windward module's (R94). -/
def State.abortTaken (s : State) : State :=
  (upFrom 0 68).foldl (fun s m =>
    if (s.mbox m).line.isEmpty then s else s.setMbox m { s.mbox m with line := [] }) s

/-- Whether a set carries an online change. -/
def isOnline (stages : List Stage) : Bool := stages.any fun st => match st with | .online _ => true | _ => false

/-- A veer leaves an online change only where both phases are over: it swaps at its boundary on both modules. Any other ends, and
so does a set that the leeward module has not acknowledged (R94, R171). -/
def State.dropUnacked (s : State) : State :=
  { s with
    red := { s.red with prepared := [] }
    fw := { s.fw with
      commits := s.fw.commits.filter fun c => c.at_.isSome
      online := if s.fw.commits.any fun c => c.at_.isSome && isOnline c.stages then s.fw.online else none } }

/-- What ends at the module that gives the station up (R94, R227, R511, R523): the requests it had taken, its connections, the
transactions of its serial ports, and what no partner has acknowledged. -/
def State.handOver (s : State) : State :=
  let s1 := (upFrom 0 4).foldl (fun s n => s.flag (Fld.SER_STAT_busy n) false) s.abortTaken.dropUnacked
  { s1 with
    fw := { s1.fw with conn := none, connService := false, connKey := [], stream := [] }
    eth := { s1.eth with conns := [], svcs := s1.eth.svcs.map fun e => if 64 ≤ e.1 then (e.1, { e.2 with opened := none }) else e } }

/-- A mode request that loses to another transition is dropped with a record (R46); one that waits for the Enter key is
answered as the condition that does not hold (R43). -/
def State.dropMode (s : State) : State :=
  let s1 := match s.sys.modeAt with
    | none => s
    | some (m, mbx) => ({ s with sys := { s.sys with modeAt := none } }).record 1 46 m s.mode m mbx []
  match s1.sys.confirm with
  | none => s1
  | some d =>
    (({ s1 with sys := { s1.sys with confirm := none } }).record 1 46 mCommission s1.mode mCommission d.mbx []).respond d
      (errAns stNotInMode 0x0104 0xFFFF)

/-- The claim above the one `n` that the partner drove; none above 0xFFFF_FFFE (R213). -/
def claimAbove (n : Word) : Option Word := if n.toNat < 0xFFFFFFFE then some (n + 1) else none

/-- Whether the module can yield (R213, R225): its partner stands in STANDBY, and there is a claim above its own. -/
def State.canYield (s : State) : Bool := s.partnerStandby && (claimAbove (s.reg Reg.RED_CLAIM)).isSome

/-- PAIR_YIELD sent; publishing stops (R225). The partner raises the claim one above. -/
def State.yieldVeer (s : State) (cause : Nat) : State :=
  let s1 := (s.cancelVeer.dropMode.abandonAll).handOver
  let s2 := s1.send .link 0x0356 [s1.reg Reg.RED_CLAIM, wd cause]
  (s2.put Fld.RED_STATE_veer 3).dropClaim

/-- A fault of R44. `cause`: the rule that raises it, `object` what it concerns. One that meets a veer in progress is
dropped with a record (R46). -/
def State.fault44 (s : State) (cause object : Nat) : State :=
  if s.mode == mActive || s.mode == mCommission then
    if s.handingOver || s.taking then s.record 1 46 object 0 0 0xFF [wd cause]
    else if s.canYield then
      ((s.yieldVeer 1).note 3 cause object).resetModule rcVeerLoser 0
    else ((s.note 1 cause object).dropMode).enterMode mSafe
  else if s.mode == mSafe then s.note 1 cause object
  else s

/-- Loss of the claim to a higher one (R217). -/
def State.veerLoser (s : State) : State := s.resetModule rcVeerLoser 0

/-- Every activation in progress of an in-step task takes a role in a commanded veer (R226). -/
def State.setRoles (s : State) (r : Nat) : State :=
  let s1 := (upFrom 0 8).foldl (fun s l =>
    match (s.lane l).act with
    | some a => if s.taskCold a.task then s else s.setLane l { s.lane l with act := some { a with role := r } }
    | none => s) s
  (upFrom 0 512).foldl (fun s t =>
    match (s.task t).susp with
    | some (a, e) => if s.taskCold t then s else s.setTask t { s.task t with susp := some ({ a with role := r }, e) }
    | none => s) s1

/-- Nothing more comes from the former windward module: what began before the boundary goes on by itself. -/
def State.endCrossing (s : State) : State :=
  if s.red.crossing then
    let s1 := s.setRoles 0
    { s1 with red := { s1.red with crossing := false, queue := [] } }
  else s

/-- A veer raises claim `n` at this module (R222): ACTIVE, one pending activation for each abandoned task, and the lull begins.
What is still in progress completes on what the former windward module sent (R220, R226). `kind`: 1 fault, 2 yield, 3
commanded. -/
def State.takeStation (s0 : State) (n : Word) (kind : Nat) : State :=
  let s := s0.dropUnacked
  let s1 := (s.setRoles 2).raiseClaim n
  let s2 := if s1.mode == mActive then s1 else (s1.dropMode).enterMode mActive
  let s3 := s2.red.abandoned.foldl (fun s t =>
    let x := s.task t
    if x.pending.isNone && !x.halted && s.taskPlaced t
    then (s.setTask t { x with pending := some { src := 255, order := s.clk } }).showTask t else s) s2
  let s4 :=
    if kind = 1 then s3.bump Fld.RED_VEERS_fault
    else if kind = 2 then s3.bump Fld.RED_VEERS_yield else s3.bump Fld.RED_VEERS_cmd
  let s5 := if kind = 1 then s4 else s4.witClaimed n kind
  { (s5.put Fld.RED_STATE_veer (if kind = 1 then 2 else if kind = 2 then 3 else 0)) with
    nv := { s5.nv with veers := s5.reg Reg.RED_VEERS }
    red := { s5.red with
      abandoned := [], ask := none, veer := none, crossing := kind == 3
      peerMode := if kind = 3 then mActive else s5.red.peerMode
      lullFrom := some (match s5.red.lullFrom with | some t => t | none => s5.time) } }

end Sys2Proof.Machine
end

