-- ==== Sys2Proof/Machine/Faults.lean ====
section
/-! DEFINITION. Endings of an activation by a fault (R114 to R117, R152, R153): overruns, traps and
protection faults, and the task that becomes faulty by the third in a row. -/

namespace Sys2Proof.Machine

/-- Trap codes of R151. -/
def tcIllegal : Nat := 0x01
def tcDivZero : Nat := 0x02
def tcAlign : Nat := 0x03
def tcBounds : Nat := 0x04
def tcStack : Nat := 0x05
def tcInstDirect : Nat := 0x06
def tcCodeWrite : Nat := 0x07
def tcUser : Nat := 0x08
def tcBreak : Nat := 0x09

/-- Task `t` becomes faulty: the response of its criticality (R117). A trigger that is pending counts as skipped, like those
that follow. -/
def State.taskFaulty (s : State) (t : Nat) : State :=
  let crit := s.taskCrit t
  let s0 := if (s.task t).pending.isSome then (s.setTask t { s.task t with pending := none }).skipTrigger t else s
  let s1 := (s0.setTask t { s0.task t with halted := true }).showTask t
  if crit = 0 then s1.fault44 117 t
  else
    let s2 := if crit = 1 then s1.degrade else s1
    (s2.notify 0x0281 (some (s2.taskPart t)) [wd t, wd (s2.taskPart t), wd crit]).raiseAlert 117 t

/-- The activation of task `t` has ended by a trap or a protection fault (R153). -/
def State.countTrap (s : State) (t : Nat) : State :=
  let n := (s.task t).traps + 1
  let s1 := s.setTask t { s.task t with traps := n }
  if n = 3 then s1.taskFaulty t else s1

/-- A trap on lane `l`: one event record, and the activation ends (R152). -/
def State.trapLane (s : State) (l code user : Nat) (instr : Word) : State :=
  match (s.lane l).act with
  | none => s
  | some a =>
    let off := (s.lane l).eng.pc.toNat - s.bankBase a.task
    let s1 := s.record 7 152 a.task 0 0 0xFF [wd code, wd off, instr, wd user]
    (s1.endWith l 0).countTrap a.task

/-- A protection fault of the access at `addr` on lane `l` (R100, R152). -/
def State.protLane (s : State) (l kind addr : Nat) : State :=
  match (s.lane l).act with
  | none => s
  | some a =>
    ((s.protFault kind addr a.part a.task (s.laneMaster l)).endWith l 0).countTrap a.task

/-- Budget exhausted on lane `l` (R116). -/
def State.overrun (s : State) (l : Nat) : State :=
  match (s.lane l).act with
  | none => s
  | some a =>
    let t := a.task
    let s1 := s.endWith l 5
    let n := min 3 (s1.fld (Fld.PRT_TSTAT_consec t) + 1)
    let s2 := ((s1.bump (Fld.PRT_TOVR_overruns t)).put (Fld.PRT_TSTAT_consec t) n).bump
      (Fld.PRT_REFUSE_overruns a.part)
    let s3 := (s2.fire (192 + a.part)).raiseAlert 116 t
    let s4 := s3.notify 0x0781 (some a.part) [wd t, wd n]
    if n = 3 then s4.taskFaulty t else s4

end Sys2Proof.Machine
end

