-- ==== Sys2Proof/Machine/Lockstep.lean ====
section
/-! DEFINITION. Lockstep pairs (R176 to R188): the failure of a pair, its report, and the fallback
plan that follows it. -/

namespace Sys2Proof.Machine

/-- The inactive plan area. -/
def State.idleArea (s : State) : Nat := planArea (1 - s.fld Fld.PRT_PLANSTAT_active)

/-- The words of a plan written into the inactive area, the ready word last, with a sequence one above
the plan in force and an apply time (R104, R133). A checked plan that stood there is gone with its ready word, and the new one
is checked in its turn. -/
def State.writePlan (s : State) (ws : List (Nat × Word)) (apply : Word) : State :=
  let b := s.idleArea
  let s0 := { s.flag Fld.PRT_PLANSTAT_pending false with prt := { s.prt with planNext := none } }
  let s1 := ws.foldl (fun s (o, w) => s.setWord (b + o) w) (s0.zero b 0x8000)
  ((s1.setWord (b + 4) (wd ((s.fld Fld.PRT_PLANSTAT_seq + 1) % 65536))).setWord (b + 8) apply).setWord
    (b + 0x3C) 0x504C5244

/-- A placement run asked for (R126). -/
def State.askPlacement (s : State) (cause : Nat) (halted : Bool) : State :=
  { s with prt := { s.prt with placing := s.prt.placing ++ [⟨cause, halted, 0⟩] } }

/-- A fallback written in the inactive area. It is made for the point in force: a new point that waited with the plan it
replaces waits no longer (R132). -/
def State.writeFallback (s : State) (ws : List (Nat × Word)) (at_ : Word) : State :=
  let s1 := (s.writePlan ws at_).flag Fld.AGE_OP_pending false
  { s1 with prt := { s1.prt with planReport := none, restore := [], opNext := none } }

/-- What the loss of pair `p` does to the placement (R133): its fallback where one is ready, with the
low word of the apply boundary, and otherwise a full run. What a replaced plan was made for is asked for again. -/
def State.replace (s : State) (p : Nat) : State :=
  match SMap.get [] p s.prt.fallback with
  | [] => s.askPlacement 1 false
  | ws =>
    let at_ := lo32 (s.boundaryAfter 400000)
    let s1 := s.writeFallback ws at_
    let s2 := match s.prt.opNext with
      | some k => ({ s1 with prt := { s1.prt with opWant := some k } }).askPlacement 2 false
      | none => if s.prt.planReport.isSome then s1.askPlacement 1 false else s1
    if s2.partnerStandby && s2.hasClaim then s2.send .link 0x0353 [wd p, at_] else s2

/-- The leeward module loses step (R207): it enters RESYNC, discards what was forwarded, and tells the windward module the
cause. -/
def State.loseStep (s : State) (cause : Nat) : State :=
  let s0 := (s.dropUnacked.send .link 0x0358 [0, wd cause, 0, 0]).enterMode mResync
  let s1 := ((s0.put Fld.RED_STATE_cause cause).put Fld.RED_STATE_veer 0).put Fld.RED_RESYNC_phase 1
  { s1 with red := { s1.red with
      queue := [], joined := false, abandoned := [], ask := none, veer := none, disc := []
      resyncAt := s1.time } }

/-- Whether pair `p` runs, locked or split (LKS_PSTAT.state). -/
def State.pairUsable (s : State) (p : Nat) : Bool := s.fbit Fld.LKS_CFG_usable p

/-- The marks of a failed pair (R182, R186). -/
def State.markPair (s : State) (p : Nat) : State :=
  let s1 := ((s.putBit Fld.LKS_CFG_usable p false).putBit Fld.PRT_LANES_usable (2 * p) false)
  let s2 := if s1.fbit Fld.LKS_CFG_split p then s1.putBit Fld.PRT_LANES_usable (2 * p + 1) false else s1
  let s3 := (s2.put (Fld.LKS_PSTAT_state p) 3).bump (Fld.LKS_PSTAT_fails p)
  { (s3.putBit Fld.LKS_STAT_fail p true).putBit Fld.BST_MARKS_pairs p true with
    nv := { s3.nv with
      pairMarks := s3.nv.pairMarks ||| 2 ^ p
      pairFails := SMap.set 0 p (s3.fld (Fld.LKS_PSTAT_fails p)) s3.nv.pairFails } }

/-- The report of a pair failure (R183). -/
def State.reportPair (s : State) (p : Nat) (task : Option Nat) (part : Nat) : State :=
  let t := match task with | some t => t | none => 0xFFFF
  let s1 := s.record 3 183 p 0 0 0xFF
    [wd (s.fld (Fld.LKS_FAILINFO_kind p)), wd t, wd part, s.reg (Reg.LKS_FAILPC_HI p),
     s.reg (Reg.LKS_FAILPC_LO p), s.reg (Reg.LKS_FAILCNT p)]
  ((s1.notify 0x0381 none [wd p, wd t, s1.reg (Reg.LKS_FAILCLK p)]).notify 0x0780 none
    [wd (0x100 + p)]).degrade

/-- Pair `p` fails at a compare point of kind `kind` on lane `l` (R182 to R185). A pair that has failed
already signals nothing. -/
def State.pairFail (s : State) (p kind l : Nat) : State :=
  if !s.pairUsable p then s
  else
    let act := (s.lane l).act
    let count := match act with | some a => a.count | none => 0
    let task := act.map (·.task)
    let part := match (s.lane l).window with | some w => w | none => 0
    let (f, s0) := s.fresh
    let s1 := (((((s0.put (Fld.LKS_FAILINFO_kind p) kind).put (Fld.LKS_FAILINFO_lat p)
      (f.toNat % 9)).put (Fld.LKS_FAILINFO_task p) (task.getD 0)).flag (Fld.LKS_FAILINFO_idle p)
      task.isNone).put (Fld.LKS_FAILINFO_part p) part)
    let pc := match act with | some _ => (s.lane l).eng.pc.toNat | none => 0
    let s2 := (((s1.setReg (Reg.LKS_FAILCNT p) (lo32 count)).putSplit (Reg.LKS_FAILPC_HI p)
      (Reg.LKS_FAILPC_LO p) pc).setReg (Reg.LKS_FAILCLK p) (lo32 s1.clk)).markPair p
    let windward := s2.partnerStandby && s2.hasClaim
    let s3 := if windward then s2.send .link 0x0354 [wd l, wd count] else s2
    let s4 := (s3.endWith (2 * p) (if l = 2 * p then 0 else 4)).endWith (2 * p + 1) (if l = 2 * p + 1 then 0 else 4)
    let s5 := { s4 with lks := { s4.lks with armed := SMap.set 0 p 0 s4.lks.armed } }
    let s6 := s5.reportPair p task part
    if s6.leeward && !s6.red.lost then (s6.send .link 0x0355 [wd p]).loseStep 6 else s6.replace p

/-- A lane event enters the pair through the agreement buffer, and both engines take its entry (R179, R180): compare kind 8, where
an injected mismatch fails the pair before the event acts (R177, R193); then `k`. Events: 1 suspension; 2 resumption; 3 budget
exhaustion; 4 a debug halt. The manual codes neither the kind nor the value of such an entry (log 138). -/
def State.eventEntry (s : State) (l ev : Nat) (k : State → State) : State :=
  if (s.lane l).act.isNone then k s
  else if s.injects l [8] then s.pairFail (l / 2) 10 l
  else k (s.enterAgr l (16 + ev) 0)

/-- The budget on lane `l` is exhausted (R114, R116). -/
def State.budgetGone (s : State) (l : Nat) : State := s.eventEntry l 3 fun s => s.overrun l

end Sys2Proof.Machine
end

