-- ==== Sys2Proof/Machine/Placement.lean ====
section
/-! DEFINITION. The placement run (R126 to R132, R135): windows, tasks, memory, and the plan and the
report that come of it. -/

namespace Sys2Proof.Machine

/-! ### What a run starts from -/

/-- MHz of an operating point (R16, AGE_OP). -/
def pointMhz (k : Nat) : Nat := if k = 0 then 1000 else if k = 1 then 933 else if k = 2 then 866 else 800

/-- A task as a run sees it: budget in µs at the operating point, period and phase in µs. -/
structure PTask where
  t : Nat
  part : Nat
  crit : Nat
  split : Bool
  cold : Bool
  byLine : Bool
  line : Nat
  budget : Nat
  per : Nat
  ph : Nat
  size : Nat
  mem : Nat
  decl : List Word
  deriving DecidableEq, Repr

/-- Declaration fields of R124. -/
def declPart (d : List Word) : Nat := wBits d 2 5 0
def declCrit (d : List Word) : Nat := wBits d 1 17 16

/-- Ceiling division. -/
def cdiv (a b : Nat) : Nat := (a + b - 1) / b

/-- A declared task's values at `f` MHz (R132). -/
def State.pTask (s : State) (f t : Nat) : PTask :=
  let x := s.task t
  let d := x.decl
  let b := match x.budget with | some b => b | none => wBits d 1 15 0
  { t := t, part := declPart d, crit := declCrit d, split := wBit d 1 18, cold := wBit d 1 19
    byLine := wBit d 1 20, line := wBits d 1 26 21, budget := cdiv (b * 1000) f
    per := wBits d 0 15 0 * 250, ph := wBits d 0 31 16 * 250
    size := ((wAt d 3).toNat + 63) / 64 * 64, mem := wBits d 4 1 0, decl := d }

/-- The declared tasks, in task-number order. -/
def State.declared (s : State) : List Nat := (upFrom 0 512).filter fun t => !(s.task t).decl.isEmpty

/-- A window request: partition, index, length, class, repeat and earliest start, in 50 µs units. -/
structure WinReq where
  part : Nat
  idx : Nat
  len : Nat
  split : Bool
  rep : Nat
  start : Nat
  deriving DecidableEq, Repr

/-- Length of a window at `f` MHz (R132). -/
def scaleLen (len f : Nat) : Nat := cdiv ((len * 50 - 6) * 1000 + 6 * f) (50 * f)

/-- The enabled window requests of a partition (R125). -/
def State.winReqs (s : State) (f p : Nat) : List WinReq :=
  (upFrom 0 8).filterMap fun i =>
    let w := s.rec_ 0x02 (8 * p + i)
    if wBit w 0 17 then
      some ⟨p, i, scaleLen (wBits w 0 15 0) f, wBit w 0 16, wBits w 1 15 0 * 5, wBits w 1 31 16⟩
    else none

/-- Window time granted to a partition, in 50 µs units (R118, R127). -/
def State.partTime (s : State) (p : Nat) : Nat :=
  let ceil := s.fld (Fld.PRT_CEIL_TIME_time p)
  match SMap.get none p s.prt.partBudget with
  | some (b, _) => min ceil b
  | none => ceil

/-- Lanes a run may use: usable, and of no pair that is lost or unusable at the partner (R185). -/
def State.runLanes (s : State) (lost : List Nat) : List Nat :=
  (upFrom 0 8).filter fun l =>
    s.laneUsable l && !lost.contains (l / 2) && !s.red.peerBad.testBit (l / 2) &&
      (s.laneSplit l || l % 2 == 0)

/-! ### Step 1: windows -/

/-- Windows placed so far: lane, start, length, partition. -/
abbrev Wins := List (Nat × Nat × Nat × Nat)

/-- Whether [a, a+n) is free on lane `l`. -/
def winFree (ws : Wins) (l a n : Nat) : Bool :=
  ws.all fun (k, b, m, _) => k != l || decide (a + n ≤ b) || decide (b + m ≤ a)

/-- Whether every instance at start `a` is free. -/
def instFree (ws : Wins) (l a : Nat) (r : WinReq) (count : Nat) : Bool :=
  (upFrom 0 count).all fun k => winFree ws l (a + k * r.rep) r.len

/-- The smallest start of a request on lane `l` (R127). -/
def findStart (ws : Wins) (l tc : Nat) (r : WinReq) : Option Nat :=
  if r.rep = 0 then none else
  (upFrom r.start (r.rep - r.start)).find? fun a => decide (a + r.len ≤ r.rep) && instFree ws l a r (tc / r.rep)

/-- The windows of a request placed at start `a` on lane `l`; both lanes of a split pair (R113). -/
def winsOf (l a tc : Nat) (split : Bool) (r : WinReq) : Wins :=
  let one := fun l => (upFrom 0 (tc / r.rep)).map fun k => (l, a + k * r.rep, r.len, r.part)
  if split then one (l / 2 * 2) ++ one (l / 2 * 2 + 1) else one l

/-- Window time a partition holds. -/
def heldTime (ws : Wins) (p : Nat) : Nat :=
  (ws.map fun (_, _, n, q) => if q = p then n else 0).foldl (· + ·) 0

/-- One request placed on the first of the lanes that has a free start for it: none where none has; `true` where it would
take its partition's window time above the partition budget, and is left out (R127). -/
def State.placeOn (s : State) (tc : Nat) (ws : Wins) (r : WinReq) : List Nat → Option Wins × Bool
  | [] => (none, false)
  | l :: ls =>
    let cost := r.len * (tc / r.rep) * (1 + b1 (s.laneSplit l))
    if s.partTime r.part < heldTime ws r.part + cost then (some ws, true)
    else match findStart ws l tc r with
      | some a => (some (ws ++ winsOf l a tc (s.laneSplit l) r), false)
      | none => s.placeOn tc ws r ls

/-- One request placed, on the lane that a pin names or on the lanes of its class (R127). -/
def State.placeReq (s : State) (tc : Nat) (lanes : List Nat) (ws : Wins) (r : WinReq) (on : Option Nat) :
    Option Wins × Bool :=
  s.placeOn tc ws r (match on with
    | some l => [l]
    | none => lanes.filter fun l => r.split || !s.laneSplit l)

/-- A pin as a run judges it: the task, its lane, its request index (R131). -/
def State.pinLane (t : PTask) (pin : Nat × Nat) (s : State) (lanes : List Nat) : Option Nat :=
  let (code, win) := pin
  let l := if code < 4 then 2 * code else code - 8
  if (decide (4 ≤ code ∧ code < 8)) || !lanes.contains l || (s.laneSplit l != decide (8 ≤ code)) ||
      decide (8 ≤ win) || !wBit (s.rec_ 0x02 (8 * t.part + win)) 0 17 ||
      (s.laneSplit l && (!t.split || decide (t.crit < 2))) then none
  else some l

/-- Pins in task-number order, a conflict with an earlier pin dropped: task, partition, request, lane. The manual does not say
which pins conflict: here one that binds the same window request to another lane (DESIGN CHOICE, log entry 136). -/
def State.pinsFor (s : State) (lanes : List Nat) : List PTask → List (Nat × Nat × Nat × Nat) →
    List (Nat × Nat × Nat × Nat)
  | [], acc => acc
  | t :: ts, acc =>
    match (s.task t.t).pin with
    | none => s.pinsFor lanes ts acc
    | some pin =>
      match State.pinLane t pin s lanes with
      | none => s.pinsFor lanes ts acc
      | some l =>
        if acc.any fun (_, p, i, k) => p == t.part && i == pin.2 && k != l then s.pinsFor lanes ts acc
        else s.pinsFor lanes ts (acc ++ [(t.t, t.part, pin.2, l)])

/-- Criticality of a partition: the highest of its tasks; none with no task (R127). -/
def partCrit (ts : List PTask) (p : Nat) : Option Nat :=
  (ts.filter fun t => t.part == p).foldl (fun b t =>
    match b with | none => some t.crit | some c => some (min c t.crit)) none

/-- Insertion into a list ordered by `lt`, after what is equal to it. -/
def insertBy {α : Type} (lt : α → α → Bool) (x : α) : List α → List α
  | [] => [x]
  | y :: ys => if lt x y then x :: y :: ys else y :: insertBy lt x ys

def sortBy {α : Type} (lt : α → α → Bool) (xs : List α) : List α :=
  xs.foldl (fun acc x => insertBy lt x acc) []

/-- Order of two key lists, compared element by element. -/
def lexLt : List Nat → List Nat → Bool
  | a :: as, b :: bs => if a < b then true else if b < a then false else lexLt as bs
  | [], _ :: _ => true
  | _, [] => false

/-- Requests placed one after another: windows, the requests that fit nowhere, how many were left out. -/
def State.placeReqs (s : State) (tc : Nat) (lanes : List Nat) :
    List (WinReq × Option Nat) → Wins → List WinReq → Nat → Wins × List WinReq × Nat
  | [], ws, bad, left => (ws, bad, left)
  | (r, on) :: rs, ws, bad, left =>
    match s.placeReq tc lanes ws r on with
    | (some ws', out) => s.placeReqs tc lanes rs ws' bad (left + b1 out)
    | (none, _) => s.placeReqs tc lanes rs ws (bad ++ [r]) left

/-- Step 1 of R127 with the partitions in `shed` left out, and R130 until every request has a place:
windows, requests left out, partitions shed. -/
def State.placeWindows (s : State) (f tc : Nat) (lanes : List Nat) (ts : List PTask)
    (pins : List (Nat × Nat × Nat × Nat)) : Nat → List Nat → Wins × Nat × List Nat
  | 0, shed => ([], 0, shed)
  | n + 1, shed =>
    let live := fun p => (partCrit ts p).isSome && !shed.contains p
    let pinned := pins.filterMap fun (_, p, i, l) =>
      if live p then ((s.winReqs f p).find? fun r => r.idx == i).map fun r => (r, some l) else none
    let firsts := pinned.foldl (fun acc x => if acc.any (fun y => y.1 == x.1) then acc else acc ++ [x]) []
    let dropped := fun (r : WinReq) => ts.any fun t =>
      t.part == r.part && (match (s.task t.t).pin with | some (_, w) => w == r.idx | none => false)
    let key := fun (r : WinReq) =>
      [(partCrit ts r.part).getD 3, b1 (!dropped r), r.rep, r.part, r.idx]
    let rest := ((upFrom 0 64).filter live).flatMap fun p => (s.winReqs f p).filter fun r =>
      !firsts.any fun y => y.1 == r
    let order := firsts ++ (sortBy (fun a b => lexLt (key a) (key b)) rest).map fun r => (r, none)
    match s.placeReqs tc lanes order [] [] 0 with
    | (ws, [], left) => (ws, left, shed)
    | (ws, _, left) =>
      let cands := ((upFrom 0 64).filter live).filter fun p => decide (1 ≤ (partCrit ts p).getD 0)
      match (sortBy (fun a b => lexLt [3 - (partCrit ts a).getD 0, 64 - a]
          [3 - (partCrit ts b).getD 0, 64 - b]) cands).head? with
      | none => (ws, left, shed)
      | some p => s.placeWindows f tc lanes ts pins n (shed ++ [p])

/-- Adjacent windows of one partition on one lane merged (R110), in order of start. -/
def mergeWins : List (Nat × Nat × Nat) → List (Nat × Nat × Nat)
  | (a, n, p) :: (b, m, q) :: rest =>
    if a + n = b && p == q then
      match mergeWins ((b, m, q) :: rest) with
      | (_, k, _) :: r => (a, n + k, p) :: r
      | [] => [(a, n + m, p)]
    else (a, n, p) :: mergeWins ((b, m, q) :: rest)
  | ws => ws

/-- The lane table of lane `l`. -/
def laneTable (ws : Wins) (l : Nat) : List (Nat × Nat × Nat) :=
  mergeWins (sortBy (fun a b => decide (a.1 < b.1))
    (ws.filterMap fun (k, a, n, p) => if k = l then some (a, n, p) else none))

/-! ### Step 2: tasks, and the simulation of R128 -/

/-- When work of `w` µs that may start at `t` ends, in windows given by open and close times in µs; and
the time from which the next work may start. -/
def runWork : List (Nat × Nat) → Nat → Nat → Option Nat
  | [], _, _ => none
  | (o, c) :: ws, t, w =>
    let a := max o t
    if c ≤ a then runWork ws t w
    else if a + w ≤ c then some (a + w)
    else runWork ws t (w - (c - a))

/-- Activations of two trade cycles in the order of R25: release, task, budget, next instant. -/
def jobsOf (tc : Nat) (ts : List PTask) : List (Nat × Nat × Nat × Nat) :=
  sortBy (fun a b => lexLt [a.1, a.2.1] [b.1, b.2.1])
    (ts.flatMap fun t => if t.per = 0 then [] else
      (upFrom 0 (2 * tc / t.per)).map fun k => (t.ph + k * t.per, t.t, t.budget, t.ph + (k + 1) * t.per))

/-- The least margin of each task, or none where an activation of the first trade cycle is late. -/
def simJobs (wins : List (Nat × Nat)) (tc : Nat) :
    List (Nat × Nat × Nat × Nat) → Nat → List (Nat × Nat) → Option (List (Nat × Nat))
  | [], _, acc => some acc
  | (rel, t, w, next) :: js, from_, acc =>
    match runWork wins (max rel from_) w with
    | none => if tc ≤ rel then some acc else none
    | some e =>
      if tc ≤ rel then simJobs wins tc js e acc
      else if next < e then none
      else simJobs wins tc js e
        (SMap.set 0 t (match acc.find? (·.1 == t) with
          | some (_, m) => min m (next - e + 1) | none => next - e + 1) acc)

/-- Simulation of the tasks of one partition on one lane table over two trade cycles: slack + 1 of each
task, or none (R128). -/
def simulate (table : List (Nat × Nat × Nat)) (tc p : Nat) (ts : List PTask) :
    Option (List (Nat × Nat)) :=
  let one := (table.filter fun (_, _, q) => q == p).map fun (a, n, _) => (a * 50 + 6, (a + n) * 50)
  simJobs (one ++ one.map fun (o, c) => (o + tc, c + tc)) tc (jobsOf tc ts) 0 []

/-- Where a task stands after a run: its lane, or why it is shed (R135). -/
structure Placed where
  t : PTask
  lane : Option Nat
  why : Nat := 0
  base : Nat := 0
  dram : Bool := false
  deriving DecidableEq, Repr

/-- Tasks placed on lane `l` for partition `p`. -/
def onLane (ps : List Placed) (l p : Nat) : List PTask :=
  ps.filterMap fun x => if x.lane == some l && x.t.part == p then some x.t else none

/-- Step 2 of R127: each task onto the first lane that suits it and stays feasible. -/
def State.placeTasks (s : State) (tc : Nat) (ws : Wins) (shed : List Nat)
    (pins : List (Nat × Nat × Nat × Nat)) (lanes : List Nat) : List PTask → List Placed → List Placed
  | [], acc => acc
  | t :: ts, acc =>
    let holds := fun l => (laneTable ws l).any fun (_, _, p) => p == t.part
    let suits := fun l => t.split || !s.laneSplit l
    let cands := match pins.find? fun (u, _, _, _) => u == t.t with
      | some (_, _, _, l) => [l].filter holds
      | none => lanes.filter fun l => holds l && suits l
    let r : Placed :=
      if shed.contains t.part then ⟨t, none, 1, 0, false⟩
      else if cands.isEmpty then ⟨t, none, (if lanes.any holds then 4 else 2), 0, false⟩
      else match cands.find? fun l =>
          (simulate (laneTable ws l) tc t.part (onLane acc l t.part ++ [t])).isSome with
        | some l => ⟨t, some l, 0, 0, false⟩
        | none => ⟨t, none, 2, 0, false⟩
    s.placeTasks tc ws shed pins lanes ts (acc ++ [r])

/-! ### Step 3: memory (R129, R157) -/

/-- Bytes of an instance pair. -/
def pairBytes (size : Nat) : Nat := 64 + 2 * mapBytes size + 2 * size

/-- The first address from `a` at which `n` bytes meet none of some areas, which stand in the order of their addresses. -/
def fitPast : List Area → Nat → Nat → Nat
  | [], a, _ => a
  | (b, m) :: rest, a, n => if a + n ≤ b ∨ b + m ≤ a then fitPast rest a n else fitPast rest (b + m) n

/-- Step 3 of R127: `used` are the places that kept tasks hold; `u15`, `ud` the bytes passed in each partition's bank-15 share
and DRAM area. -/
def State.placeMemory (s : State) (used : List Area) :
    List Placed → List (Nat × Nat) → List (Nat × Nat) → List Placed
  | [], _, _ => []
  | x :: xs, u15, ud =>
    match x.lane with
    | none => x :: s.placeMemory used xs u15 ud
    | some _ =>
      let p := x.t.part
      let n := pairBytes x.t.size
      let bad15 := s.nv.bankMarks.testBit 15
      let share := s.shareArea p
      let area := s.dramArea p
      let a := fitPast used (share.1 + SMap.get 0 p u15) n
      let d := fitPast used (area.1 + SMap.get 0 p ud) n
      if !bad15 && x.t.mem != 2 && decide (a + n ≤ share.1 + share.2) then
        { x with base := a } :: s.placeMemory used xs (SMap.set 0 p (a + n - share.1) u15) ud
      else if (x.t.mem != 1 || bad15) && decide (d + n ≤ area.1 + area.2) then
        { x with base := d, dram := true } ::
          s.placeMemory used xs u15 (SMap.set 0 p (d + n - area.1) ud)
      else { x with lane := none, why := 3 } :: s.placeMemory used xs u15 ud

/-! ### The plan and the report -/

/-- The outcome of a run. -/
structure Run where
  result : Nat
  words : List (Nat × Word)
  entries : List Word
  header : List Word
  restore : List Nat
  shedTasks : Nat
  placedTasks : Nat
  /-- Whether step 4 found the totals kept. -/
  totals : Bool
  deriving DecidableEq, Repr

/-- Descriptor quota of partition `p` under BUDGET_SET, otherwise its record's (R118). -/
def State.planQ0 (s : State) (p : Nat) : Word :=
  let w := wAt (s.rec_ 0x02 (0x1000 + p)) 6
  match SMap.get none p s.prt.partBudget with
  | some (_, q) => setBits w 30 16 q
  | none => w

/-- Step 4 of R127: the totals and the reserve of R119 and R120. -/
def State.totalsFit (s : State) : Bool :=
  let r := fun p => s.rec_ 0x02 (0x1000 + p)
  let sum := fun (f : Nat → Nat) => ((upFrom 0 64).map f).foldl (· + ·) 0
  let ok := fun (f : Nat → Nat) (most least : Nat) => decide (sum f ≤ most) && decide (least ≤ f 0)
  ok (fun p => wBits (r p) 5 11 0) 2500 250 && ok (fun p => bits (s.planQ0 p) 13 0) 8192 512 &&
    ok (fun p => bits (s.planQ0 p) 30 16) 16384 2048 && ok (fun p => wBits (r p) 7 15 0) 32768 4096 &&
    ok (fun p => wBits (r p) 7 28 16) 4096 256

/-- The entry that the plan in force gives a halted task, which it keeps, no longer placed (R127). -/
def State.keptEntry (s : State) (t : Nat) : List (Nat × Word) :=
  let o := 0x440 + 16 * t
  let w := s.taskWord s.planBase t
  [(o, setBits (w 0) 22 22 0), (o + 4, w 1), (o + 8, w 2), (o + 12, w 3)]

/-- Words of the task table for one placed task (R105). A scaled budget that does not fit its field is the largest that does
(DESIGN CHOICE, log entry 136). -/
def taskEntry (x : Placed) : List (Nat × Word) :=
  match x.lane with
  | none =>
    let o := 0x440 + 16 * x.t.t
    [(o, wd (x.t.crit * 2 ^ 20)), (o + 8, wd x.t.part)]
  | some l =>
    let o := 0x440 + 16 * x.t.t
    [(o, wd (min 65535 x.t.budget + l * 65536 + x.t.crit * 2 ^ 20 + 2 ^ 22 + b1 x.t.cold * 2 ^ 23)),
     (o + 4, wd (x.t.per / 250 + x.t.ph / 250 * 65536)),
     (o + 8, wd (x.t.part + b1 x.t.byLine * 64 + x.t.line * 256)),
     (o + 12, wd (x.base / 64))]

/-- Words of one lane table (R104, R106). -/
def laneWords (ws : Wins) (l : Nat) : List (Nat × Word) :=
  let t := laneTable ws l
  (0x14 + 4 * l, wd t.length) ::
    (upFrom 0 t.length).flatMap fun e =>
      match t[e]? with
      | some (a, n, p) =>
        let o := 0x2440 + l * 0x800 + 8 * e
        [(o, wd (a + n * 65536)), (o + 4, wd (p + 0x100))]
      | none => []

/-- CRC-32C of a list of bytes (R104). -/
def crc32cBit (c : Nat) : Nat → Nat
  | 0 => c
  | n + 1 => crc32cBit (if c % 2 = 1 then (c / 2) ^^^ 0x82F63B78 else c / 2) n
def crc32c (bs : List Byte) : Word :=
  wd ((bs.foldl (fun c b => crc32cBit (c ^^^ b.toNat) 8) 0xFFFFFFFF) ^^^ 0xFFFFFFFF)

/-- Bytes of a sparse area from 0x40 to its end. -/
def areaBytes (ws : List (Nat × Word)) : List Byte :=
  wordBytes ((upFrom 16 8176).map fun i => match ws.find? (·.1 == 4 * i) with | some (_, w) => w | none => 0)

/-- Report entry of one task (R135): slack in µs, DRAM. A slack that does not fit its field is the largest that does (DESIGN
CHOICE, log entry 136). -/
def reportEntry (x : Placed) (state slack : Nat) : List Word :=
  [wd (x.t.t + x.lane.getD 0 * 512 + state * 2 ^ 13 + x.t.part * 65536 + x.t.crit * 2 ^ 22 +
    x.why * 2 ^ 24), wd (min slack 65535 + b1 x.dram * 65536)]

/-- A placement run (R127): `full` for PLACE_RUN, `lost` the pairs it may not use, `f` MHz. -/
def State.placementRun (s : State) (cause : Nat) (full : Bool) (lost : List Nat) (f : Nat) : Run :=
  let len := match SMap.get none (Reg.SYS_TCYC * 4 + 1) s.shadow with
    | some w => bits w 11 0 | none => s.fld Fld.SYS_TCYC_len
  let tc := (len + 1) * 5
  let lanes := s.runLanes lost
  let all := s.declared.map (s.pTask f)
  let live := all.filter fun t => full || !(s.task t.t).halted
  let pins := s.pinsFor lanes live []
  let (ws, left, shed) := s.placeWindows f tc lanes live pins 65 []
  let pinnedT := fun (t : PTask) => pins.any fun (u, _, _, _) => u == t.t
  let droppedT := fun (t : PTask) => (s.task t.t).pin.isSome && !pinnedT t
  let key := fun (t : PTask) =>
    [b1 (!pinnedT t), t.crit, b1 (!droppedT t), t.per, 100000 - t.budget, t.t]
  let order := sortBy (fun a b => lexLt (key a) (key b)) live
  let placed := s.placeTasks (tc * 50) ws shed pins lanes order []
  -- a halted task keeps its entry, its place among them, or is shed until a PLACE_RUN
  let kept := (all.filter fun t => !full && (s.task t.t).halted).map fun t =>
    let l := s.taskLane t.t
    let base := (s.taskWord s.planBase t.t 3).toNat * 64
    if base != 0 && lanes.contains l && (laneTable ws l).any (fun (_, _, p) => p == t.part)
    then (⟨t, some l, 0, base, decide (0x100000000 ≤ base)⟩ : Placed) else ⟨t, none, 2, 0, false⟩
  -- and a pair of an old layout stands beside the new one until its first commit (R170)
  let held := sortBy (fun a b => decide (a.1 < b.1))
    ((kept.filterMap fun x => if x.lane.isSome then some (x.base, pairBytes x.t.size) else none) ++
      s.declared.filterMap fun t => (s.task t).oldPair)
  let done := s.placeMemory held placed [] [] ++ kept
  let isKept := fun (x : Placed) => !full && (s.task x.t.t).halted && x.lane.isSome
  let isHalted := fun (x : Placed) => !full && (s.task x.t.t).halted
  let fin := sortBy (fun a b => decide (a.t.t < b.t.t)) done
  let slack := fun (x : Placed) => match x.lane with
    | none => 0
    | some l =>
      match simulate (laneTable ws l) (tc * 50) x.t.part
          (onLane (fin.filter fun y => !isHalted y) l x.t.part) with
      | some m => SMap.get 0 x.t.t m - 1
      | none => 0
  let state := fun (x : Placed) =>
    if isKept x then 4 else if x.lane.isNone then 3
    else if pinnedT x.t then 1 else if droppedT x.t then 2 else 0
  let lost_ := fin.filter fun x => x.lane.isNone
  let result := if lost_.any (fun x => !isHalted x && x.t.crit == 0) then 2 else if lost_.isEmpty then 0 else 1
  let parts := (upFrom 0 64).flatMap fun p =>
    let r := s.rec_ 0x02 (0x1000 + p)
    [(0x40 + 16 * p, wAt r 5), (0x44 + 16 * p, s.planQ0 p), (0x48 + 16 * p, wAt r 7),
     (0x4C + 16 * p, wd (heldTime ws p))]
  let tasks := fin.flatMap fun x => if isKept x then s.keptEntry x.t.t else taskEntry x
  let body := parts ++ tasks ++ (upFrom 0 8).flatMap (laneWords ws)
  let hdr := [(0, (0x504C414E : Word)), (0xC, wd len), (0x10, wd fin.length),
    (0x34, crc32c (areaBytes body))]
  { result := result
    words := (hdr ++ body).filter fun x => x.2 != 0
    entries := fin.flatMap fun x => reportEntry x (state x) (slack x)
    header := [wd (cause * 65536 + result * 2 ^ 20), 0,
      wd (f + (lanes.foldl (fun m l => m + 2 ^ l) 0) * 65536 + s.fld Fld.PRT_LANES_split * 2 ^ 24),
      wd (fin.length + (fin.filter fun x => x.lane.isSome && !isKept x).length * 65536),
      wd (lost_.length + shed.length * 65536), 0, wd (min left 255), 0]
    restore := if full then (fin.filter fun x => x.lane.isSome && (s.task x.t.t).halted).map (·.t.t) else []
    shedTasks := lost_.length
    placedTasks := (fin.filter fun x => x.lane.isSome && !isKept x).length
    totals := s.totalsFit }

/-- The operating point a run of a cause is made for (R574): a run for a change of point takes the one that waits for it,
every other run the one that waits for its plan, otherwise the station point in force. -/
def State.runPoint (s : State) (cause : Nat) : Nat :=
  let k := match s.prt.opNext with | some k => k | none => s.fld Fld.AGE_OP_station
  if cause = 2 then (match s.prt.opWant with | some w => w | none => k) else k
def State.runMhz (s : State) : Nat := pointMhz (s.runPoint 0)

/-- AGE_OPSET written by station firmware as it submits a plan made for point `k` (R574). -/
def State.setOp (s : State) (k : Nat) : State :=
  let s1 := { s with prt := { s.prt with opWant := if s.prt.opWant = some k then none else s.prt.opWant } }
  if k = s1.fld Fld.AGE_OP_station ∧ s1.prt.opNext.isNone then s1
  else { s1.flag Fld.AGE_OP_pending true with prt := { s1.prt with opNext := some k } }

/-- Banks whose loss leaves the station unable to run (R20): all but the pair-local banks and bank 15. -/
def State.bankFatal (s : State) : Bool :=
  (upFrom 0 15).any fun b => s.nv.bankMarks.testBit b && (decide (b < 6) || decide (9 < b))

end Sys2Proof.Machine
end

