-- ==== Sys2Proof/Machine/Phasor.lean ====
section
/-! DEFINITION. Phasor results and synchroniser channels (R346 to R363): points, qualities, the action slot a
channel writes, the conditions of a close, the close, learning. -/

namespace Sys2Proof.Machine

/-! ### Points (R348) -/

/-- Address of point `p` of channel `c` of unit 8. -/
def State.phPoint (s : State) (c p : Nat) : Nat := s.ownPoint 8 c p

/-- A phasor record in force: none once the X5 front end has failed its test (R567). -/
def State.phRec (s : State) (i : Nat) : List Word := if s.nv.pinMarks.testBit 3 then [] else s.rec_ 0x08 i
def tripleEn (r : List Word) : Bool := wBit r 0 0
/-- Nominal frequency in µHz, and the primary nominal in 10 mV, of a voltage triple. -/
def tripleFreq (r : List Word) : Nat := if wBit r 0 2 then 60000000 else 50000000
def tripleNom (r : List Word) : Nat := wBits r 1 17 0 * 100
def State.triple (s : State) (t : Nat) : Triple := SMap.get {} t s.ph.triples
def State.setTriple (s : State) (t : Nat) (x : Triple) : State :=
  { s with ph := { s.ph with triples := SMap.set {} t x s.ph.triples } }

/-- A point's value as a signed number. -/
def State.phVal (s : State) (c p : Nat) : Int := (s.point (s.phPoint c p)).val.toInt

/-- Whether every point of a triple has quality good. -/
def State.tripleGood (s : State) (t : Nat) : Bool :=
  (upFrom 0 40).all fun p => (s.point (s.phPoint t p)).q == 0

/-- Points given to a channel from `p` upward with one quality. -/
def State.setPhPoints (s : State) (c p q : Nat) : List Int → State
  | [] => s
  | v :: vs => (s.setField 8 c p v q s.time).setPhPoints c (p + 1) q vs

/-- A channel's points given another quality. -/
def State.phQualities (s : State) (c q : Nat) (ps : List Nat) : State :=
  ps.foldl (fun s p => s.fieldQuality 8 c p q) s

/-- PH_STAT.good brought up to date. -/
def State.showGood (s : State) : State :=
  (upFrom 0 5).foldl (fun s t => s.putBit Fld.PH_STAT_good t
    (tripleEn (s.phRec t) && (s.point (s.phPoint t 0)).q == 0)) s

/-- Voltage triple whose cycles set a triple's times: its own, or the one a current triple names. -/
def State.tripleOf (s : State) (t : Nat) : Nat := if t < 3 then t else wBits (s.phRec t) 0 2 1

/-- Results of a triple that no cycle has renewed for 1.25 nominal periods are held, and after 200 ms not
available (R349). -/
def State.agePhasors (s : State) : State :=
  ((upFrom 0 5).foldl (fun s t =>
    let v := s.tripleOf t
    match (s.triple v).ended with
    | none => s
    | some e =>
      let age := s.time - e
      if !tripleEn (s.phRec t) then s
      else if 200000000 ≤ age then s.phQualities t 3 (upFrom 0 40)
      else if 1250000000000000 < age * tripleFreq (s.phRec v) then
        s.phQualities t 1 ((upFrom 0 40).filter fun p => (s.point (s.phPoint t p)).q == 0)
      else s) s).showGood

/-! ### Synchroniser channels -/

def State.chanRec (s : State) (c : Nat) : List Word := s.phRec (0x20 + c)
def State.breakerRec (s : State) (b : Nat) : List Word := s.phRec (0x10 + b)
def chanIn (r : List Word) : Nat := wBits r 0 3 2
def chanBus (r : List Word) : Nat := wBits r 0 5 4
def State.sync (s : State) (c : Nat) : Sync := SMap.get {} c s.ph.syncs
def State.setSync (s : State) (c : Nat) (x : Sync) : State :=
  { s with ph := { s.ph with syncs := SMap.set {} c x s.ph.syncs } }
def State.syncState (s : State) (c : Nat) : Nat := s.fld (Fld.PH_SYNCSTAT_state c)
def State.syncBreaker (s : State) (c : Nat) : Nat := s.fld (Fld.PH_SYNCSTAT_breaker c)
def syncItem (c item : Nat) : Nat := itemKey 7 (0x20 + c) item

/-- The angle domain a channel uses: of kind 4, with the channel as its source (R351). -/
def State.syncDomain (s : State) (c : Nat) : Option Nat :=
  (upFrom 0 8).find? fun d =>
    domEn (s.domRec d) && domKind (s.domRec d) == 4 && domSource (s.domRec d) == c

/-- Median of a list; with an even count the mean of the middle two (R360). -/
def median (xs : List Nat) : Nat :=
  let ys := sortBy (fun a b => decide (a ≤ b)) xs
  let n := ys.length
  if n = 0 then 0
  else if n % 2 = 1 then ys.getD (n / 2) 0
  else (ys.getD (n / 2 - 1) 0 + ys.getD (n / 2) 0) / 2

/-- Learned closing time of a breaker in µs; the history holds ns (R360). -/
def State.learned (s : State) (b : Nat) : Nat :=
  match SMap.get [] b s.nv.closing with
  | [] => wBits (s.breakerRec b) 2 16 0
  | xs => (median xs + 500) / 1000

/-- A valid closing of a breaker ages it (R571, R577): its reference is its learned time at its eighth. -/
def State.ageBreaker (s : State) (b : Nat) : State :=
  let t := s.learned b
  let ref := SMap.get 0 b s.nv.closeRef
  if ref = 0 then
    (if (SMap.get [] b s.nv.closing).length = 8 then
      { s with nv := { s.nv with closeRef := SMap.set 0 b t s.nv.closeRef } } else s)
  else
    let d := ((t : Int) - (ref : Int)).natAbs
    s.judgeSource (srcBreaker b) (decide (ref < 10 * d)) (decide (ref < 5 * d))

/-- What a channel shows: its status bits, item SSTAT and points 0, 4 and 5 of its channel. -/
def State.showSync (s : State) (c : Nat) : State :=
  let st := s.syncState c
  let s1 := ((s.putBit Fld.PH_STAT_armed c (st == 1)).putBit Fld.PH_STAT_closing c (decide (2 ≤ st))).put
    (Fld.PH_TCL_learned c) (s.learned (s.syncBreaker c))
  let w := (s1.reg (Reg.PH_SYNCSTAT c)).toNat
  (((s1.setPoint (syncItem c 1) w 0).setField 8 (5 + c) 0 w 0 s.time).setField 8 (5 + c) 4
    (s1.fld (Fld.PH_TCL_learned c)) 0 s.time).setField 8 (5 + c) 5 (s1.fld (Fld.PH_TCLLAST_last c)) 0 s.time

/-- A channel enters a state with a cause. -/
def State.setSyncState (s : State) (c st cause : Nat) : State :=
  ((s.put (Fld.PH_SYNCSTAT_state c) st).put (Fld.PH_SYNCSTAT_cause c) cause).showSync c

/-- Slot 4 094 + c written by PH: angle 0, direction either, LATE_DROP, repeating, and the lead (R338, R354,
R355), or disabled. -/
def State.writeSyncSlot (s : State) (c : Nat) (en : Bool) : State :=
  let lead := (s.learned (s.syncBreaker c) + 10) * 10
  let d := (s.syncDomain c).getD 0
  let r := s.chanRec c
  let w1 := d + 8 * b1 en + 5 * 16 + 2 * 128 + 2 * 512 + 2048 + wBits r 0 20 15 * 4096 +
    wBits r 0 14 6 * 2 ^ 18 + 2 ^ 27
  let s1 := s.setRec 0x07 (0x1000 + 4094 + c) [0, wd w1, wd c, 0, wd lead]
  { s1 with ad := { s1.ad with acts := SMap.set {} (4094 + c) {} s1.ad.acts } }

/-- Arming ends without a close (R362, R363). -/
def State.disarmSync (s : State) (c cause : Nat) : State :=
  (s.writeSyncSlot c false).setSyncState c 0 cause

/-- Close point of a breaker. -/
def State.closePoint (s : State) (b : Nat) : Nat := (wAt (s.breakerRec b) 1).toNat

/-- Conditions 1, 3 and 4 of R356 for one triple. -/
def State.tripleFit (s : State) (t : Nat) : Option Nat :=
  let f := s.phVal t 4
  let n : Int := tripleFreq (s.phRec t)
  if !s.tripleGood t then some 8
  else if decide ((f - n).natAbs * 20 > n.natAbs) then some 4
  else if s.phVal t 9 != 0 then some 5 else none

/-- Slip of a channel in µHz, and its voltage difference in 0.01 % of the bus nominal. -/
def State.slip (s : State) (c : Nat) : Int :=
  s.phVal (chanIn (s.chanRec c)) 4 - s.phVal (chanBus (s.chanRec c)) 4
def State.voltDiff (s : State) (c : Nat) : Int :=
  let b := chanBus (s.chanRec c)
  let nom := tripleNom (s.phRec b)
  if nom = 0 then 0 else (s.phVal (chanIn (s.chanRec c)) 3 - s.phVal b 3) * 10000 / (nom : Nat)

/-- The first condition of R356 that fails, by its cause. -/
def State.closeRefusal (s : State) (c : Nat) : Option Nat :=
  let r := s.chanRec c
  let i := chanIn r
  let b := chanBus r
  let nom : Int := tripleNom (s.phRec b)
  let fi := s.tripleFit i
  let fb := s.tripleFit b
  let slipMax : Int := (if wBits r 1 15 0 = 0 then 200 else wBits r 1 15 0) * 1000
  let dvMax : Int := (if wBits r 2 7 0 = 0 then 50 else wBits r 2 7 0) * 10
  let phMax : Nat := if wBits r 2 15 8 = 0 then 10 else wBits r 2 15 8
  let t := s.learned (s.syncBreaker c)
  let rate := (s.phVal i 6 - s.phVal b 6).natAbs
  if fi = some 8 ∨ fb = some 8 then some 8
  else if s.phVal i 3 * 100 < 80 * nom ∨ s.phVal b 3 * 100 < 80 * nom then some 6
  else if fi = some 4 ∨ fb = some 4 then some 4
  else if fi = some 5 ∨ fb = some 5 then some 5
  else if dvMax < (s.voltDiff c).natAbs then some 1
  else if slipMax < (s.slip c).natAbs then some 2
  else if wBit r 0 1 ∧ s.slip c ≤ 0 then some 3
  else if phMax * 10 ^ 18 < rate * t * t * 1800 then some 7
  else none

/-- A close issued (R357): the close point driven, source 191 fired, CLOSING, an event record. -/
def State.issueClose (s : State) (c : Nat) (dead : Bool) : State :=
  let b := s.syncBreaker c
  let s1 := (s.tagEdge (s.closePoint b) true).writeSyncSlot c false
  let s2 := ((s1.bump (Fld.PH_SYNCCNT_closes c)).flag (Fld.PH_SYNCSTAT_dead c) dead).setSyncState c 2
    (s1.fld (Fld.PH_SYNCSTAT_cause c))
  let s3 := s2.setSync c { s2.sync c with closeAt := s2.time, closedAt := none }
  (s3.record 9 357 b 0 0 0xFF [wordOf (s3.slip c), wordOf (s3.voltDiff c), wd (s3.learned b)]).fire 191

/-- Slot 4 094 + c fires (R356): the close is issued if every condition holds. -/
def State.syncFire (s : State) (c : Nat) : State :=
  if s.syncState c != 1 then s
  else match s.closeRefusal c with
    | none => s.issueClose c false
    | some cause => (s.bump (Fld.PH_SYNCCNT_refused c)).setSyncState c 1 cause

/-- A dead-bus close at the end of an incoming cycle (R361). -/
def State.deadBusClose (s : State) (c : Nat) : State :=
  let r := s.chanRec c
  let b := s.syncBreaker c
  let busNom : Int := tripleNom (s.phRec (chanBus r))
  let inNom : Int := tripleNom (s.phRec (chanIn r))
  if s.syncState c == 1 && (s.sync c).deadOk && wBit (s.breakerRec b) 0 2 &&
      decide (s.phVal (chanBus r) 3 * 10 < busNom) && (s.tripleFit (chanIn r)).isNone &&
      decide (90 * inNom ≤ s.phVal (chanIn r) 3 * 100)
  then s.issueClose c true else s

/-- Whether a SYNC item is new to an enabled channel (R353). -/
def State.syncNew (s : State) (c : Nat) (w : Word) : Bool :=
  wBit (s.chanRec c) 0 0 && !((s.sync c).seqTaken && s.fld (Fld.PH_SYNCSTAT_seq c) == bits w 7 0)

/-- A SYNC item taken (R353). -/
def State.takeSync (s : State) (c : Nat) (w : Word) : State :=
  let x := s.sync c
  let seq := bits w 7 0
  if !s.syncNew c w then s
  else
    let s1 := (s.setSync c { x with seqTaken := true }).put (Fld.PH_SYNCSTAT_seq c) seq
    if bit w 11 then
      if 2 ≤ s1.syncState c then (s1.put (Fld.PH_SYNCSTAT_cause c) 13).showSync c
      else
        let s2 := (s1.put (Fld.PH_SYNCSTAT_breaker c) (bits w 10 8)).setSync c
          { s1.sync c with deadOk := bit w 12, armedAt := s1.time }
        (s2.writeSyncSlot c true).setSyncState c 1 0
    else if s1.syncState c = 1 then s1.disarmSync c 12 else s1.showSync c

/-- Closure detected at an instant (R358, R360): the closing time measured, learned when valid. -/
def State.closure (s : State) (c instant : Nat) : State :=
  if s.syncState c != 2 then s
  else
    let b := s.syncBreaker c
    let x := s.sync c
    let t := (instant - (x.closeAt + 10000)) / 15625 * 15625
    let valid := decide (10000000 ≤ t) && decide (t ≤ 104000000)
    let hist := (t :: SMap.get [] b s.nv.closing).take 8
    let err : Int := match s.syncDomain c with
      | none => 0
      | some d => angDiff (s.domPos d - (s.dom d).inc * ((s.time - instant) / 4 : Nat)) / 2 ^ 32
    let s1 := if valid then ({ s with nv := { s.nv with closing := SMap.set [] b hist s.nv.closing } }).ageBreaker b
      else s.bump (Fld.PH_SYNCCNT_invalid c)
    let s2 := ((s1.put (Fld.PH_TCLLAST_last c) ((t + 500) / 1000)).put (Fld.PH_CLERR_err c)
      (unsigned 32 err)).setSync c { x with closedAt := some instant }
    let n : Nat := ((s2.point (s2.phPoint (5 + c) 7)).val.toNat + 1) % 2 ^ 32
    let s3 := (s2.setField 8 (5 + c) 6 err 0 s2.time).setField 8 (5 + c) 7 n 0 s2.time
    let s4 := s3.setSyncState c 3 (s3.fld (Fld.PH_SYNCSTAT_cause c))
    -- an armed channel on the same breaker takes the new lead (R355)
    (upFrom 0 2).foldl (fun s k =>
      if s.syncState k == 1 && s.syncBreaker k == b then (s.writeSyncSlot k true).showSync k else s) s4

/-- No closure within twice the learned closing time and 100 ms of the close edge (R358): the clock moves on to that instant; the
close point dropped, cause 11, the breaker-failure alarm. -/
def State.closureTimeout (s0 : State) (c : Nat) : State :=
  if s0.syncState c != 2 then s0
  else
    let b := s0.syncBreaker c
    let s := s0.runUntil ((s0.sync c).closeAt + 2000 * s0.learned b + 100000000)
    (((s.tagEdge (s.closePoint b) false).setSyncState c 0 11).raiseAlert 358 b)

/-- Station time at which a channel's close pulse ends: 100 ms after the closure instant, or at the breaker's pulse length from the close
edge, whichever comes first (R359). -/
def State.pulseEndAt (s : State) (c : Nat) : Nat :=
  let x := s.sync c
  let full := x.closeAt + wBits (s.breakerRec (s.syncBreaker c)) 3 10 0 * 1000000
  match x.closedAt with
  | some t => min (t + 100000000) full
  | none => full

/-- The close pulse ends (R359): the clock moves on to that instant. -/
def State.pulseEnd (s0 : State) (c : Nat) : State :=
  let s := s0.runUntil (s0.pulseEndAt c)
  if s0.syncState c < 2 then s0
  else (s.tagEdge (s.closePoint (s.syncBreaker c)) false).setSyncState c 0 (s.fld (Fld.PH_SYNCSTAT_cause c))

/-- Channels that are armed end their arming at a veer (R363). -/
def State.veerSyncs (s : State) : State :=
  (upFrom 0 2).foldl (fun s c => if s.syncState c == 1 then s.disarmSync c 10 else s) s

end Sys2Proof.Machine
end

