-- ==== Sys2Proof/Machine/Frames.lean ====
section
/-! DEFINITION. Frames out of the network ports: the two LANs of PRP with their trailer (R510), and the alert sentences of IEC
61162-450 (R492, R515). -/

namespace Sys2Proof.Machine

/-- The station record (R525). -/
def State.stationRec (s : State) : List Word := s.rec_ 0x10 0x10

/-- The ports that a frame of port `p` goes out on: ETH 0 and ETH 1 are one node on both LANs (R510). -/
def netPorts (p : Nat) : List Nat := if p < 2 then [0, 1] else [p]

/-- The redundancy control trailer of a frame on a PRP port: its sequence, the same on both LANs, and the LAN's identifier, 10
for A and 11 for B (R510; log entry 154). -/
def State.rct (s : State) (p : Nat) : List Word :=
  if p < 2 then [wd (s.eth.rct % 65536 * 65536 + (10 + p) * 4096)] else []

/-- One frame as it goes out on a list of ports, newest first. -/
def State.framesOn (s : State) (ports : List Nat) (what : Nat) (ws : List Word) : List Sent :=
  (ports.map fun p => Sent.mk (.eth p) what (ws ++ s.rct p)).reverse

/-- A frame sent on a list of ports and counted at each (R510, R526). -/
def State.ethOut (s : State) (ports : List Nat) (what : Nat) (ws : List Word) : State :=
  let s1 : State := { s with
    sent := s.framesOn ports what ws ++ s.sent
    eth := { s.eth with rct := s.eth.rct + b1 (ports.contains 0 || ports.contains 1) } }
  ports.foldl (fun s p => s.wrapInc (Fld.ETH_TX_tx p)) s1

/-- What stands before a sentence that station firmware makes: its transmission group, the station's system function identifier
and its line count (R515). -/
def State.alertTag (s : State) : List Word := [wAt s.stationRec 2, wAt s.stationRec 1, wd (s.eth.lines + 1)]

/-- An alert sentence of R492 on the station network, in the group of the station record. -/
def State.alertOut (s : State) (what : Nat) (ws : List Word) : State :=
  ({ s with eth := { s.eth with lines := s.eth.lines + 1 } }).ethOut [0, 1] what (s.alertTag ++ ws)

end Sys2Proof.Machine
end

