-- ==== Sys2Proof/Machine/AngleDomain.lean ====
section
/-! DEFINITION. Angle domains and action slots (R313 to R342): crossings and firings, REV boundaries, arming,
late decisions, and the tracking of each kind of source. -/

namespace Sys2Proof.Machine

/-! ### Action slots (R329, R330) -/

def State.actRec (s : State) (a : Nat) : List Word := s.rec_ 0x07 (0x1000 + a)
def actDom (r : List Word) : Nat := wBits r 1 2 0
def actEn (r : List Word) : Bool := wBit r 1 3
def actKind (r : List Word) : Nat := wBits r 1 6 4
def actPolicy (r : List Word) : Nat := wBits r 1 8 7
def actDir (r : List Word) : Nat := wBits r 1 10 9
def actRepeats (r : List Word) : Bool := wBit r 1 11
def State.act7 (s : State) (a : Nat) : Act7 := SMap.get {} a s.ad.acts
def State.setAct7 (s : State) (a : Nat) (x : Act7) : State :=
  { s with ad := { s.ad with acts := SMap.set {} a x s.ad.acts } }

/-- Enabled slots of a domain, lowest first. -/
def State.actsOf (s : State) (d : Nat) : List Nat :=
  (s.cfg.filter fun c => decide (recKey 0x07 0x1000 ≤ c.1) && decide (c.1 < recKey 0x07 0x2000) &&
    actEn c.2 && actDom c.2 == d).map fun c => c.1 - recKey 0x07 0x1000

/-- Angle A in force, and the off-edge angle of kind 4. -/
def State.actAngle (s : State) (a : Nat) : Word := ((s.act7 a).ang).getD (wAt (s.actRec a) 0)
def State.actAngle2 (s : State) (a : Nat) : Word := ((s.act7 a).ang2).getD (wAt (s.actRec a) 3)

/-- The compensated angle of an edge (R330), in counts with 32 fractional bits: `off` for the off-edge. -/
def State.actComp (s : State) (a : Nat) (off : Bool) : Int :=
  let r := s.actRec a
  let lead : Nat := wBits r 4 19 0 + (if actKind r = 4 then 100 else 0)
  let ang := if off then s.actAngle2 a else s.actAngle a
  let back := ((s.dom (actDom r)).inc * (25 * lead : Nat) + 2 ^ 31) / 2 ^ 32
  (((ang.toNat : Int) - back) % 2 ^ 32) * 2 ^ 32

/-- Whether a slot is live (R334). -/
def State.actLive (s : State) (a : Nat) : Bool :=
  let x := s.act7 a
  if actRepeats (s.actRec a) then !x.suspended && !x.atRev else x.live

/-- Whether a crossing forward (`back` false) or backward is in the slot's direction. -/
def actTakes (r : List Word) (back : Bool) : Bool :=
  actDir r == 2 || (if back then actDir r == 1 else actDir r == 0)

/-- AD_ACTSTAT of a slot (R343), which the owner reads as ASTAT (R339). -/
def State.actStat (s : State) (a : Nat) : Word :=
  let x := s.act7 a
  wd (b1 (actEn (s.actRec a)) + 2 * b1 (s.actLive a) + 4 * b1 x.suspended + 8 * b1 x.passed +
    16 * b1 x.late + 32 * b1 x.dropped + 64 * b1 x.coast + 128 * b1 x.jumped + x.seq * 256 +
    x.rev * 65536)

def State.showAct (s : State) (a : Nat) : State := s.setPoint (actItem a 3) (s.actStat a).toNat 0

/-! ### Firing (R331 to R333, R338) -/

/-- The effect of a firing: for kind 4 the level its edge drives. `angle`: the domain angle of the firing
clock. -/
def State.actEffect (s : State) (a : Nat) (level : Bool) (angle : Word) : State :=
  let r := s.actRec a
  let w := wAt r 2
  let k := actKind r
  if k = 0 then
    let l := bits w 5 0
    (s.putBit (if l < 32 then Fld.AD_LINEFIRED0_fired else Fld.AD_LINEFIRED1_fired) (l % 32) true).fireEventLine l a angle
  else if k = 1 then
    -- as an event on sink l; the snapshot's source byte is 0xFE (R332)
    if s.tasksTrigger then s.triggerLine (bits w 5 0) 0xFE angle a else s
  else if k = 2 then s.loopTrigger (bits w 9 0)
  else if k = 3 then s.sinkAct (96 + bits w 0 0) 0xFE angle a
  else if k = 4 then s.tagEdge w.toNat level
  else if k = 5 then s.syncFire (bits w 0 0)
  else if k = 6 then s.sinkAct (98 + bits w 2 0) 0xFE angle a
  else s

/-- A live slot fires an edge (R330, R333): its marks, its effect, and the end of a one-shot arm. A
one-shot pulse ends its arm with the off-edge that follows its on-edge (DESIGN CHOICE, log entry 147). -/
def State.fireAct (s : State) (a : Nat) (off jumped : Bool) (angle : Word) : State :=
  let r := s.actRec a
  let x := s.act7 a
  let coast := (s.dom (actDom r)).state != dsLocked
  if actKind r = 5 ∧ (coast ∨ jumped) then
    -- a slot of a synchroniser fires only in LOCKED, and a swept setting drops it (R338)
    ((s.bump Fld.AD_SUMMARY1_dropped).setAct7 a { x with dropped := true }).showAct a
  else
    let ends := !actRepeats r && (actKind r != 4 || (off && x.half))
    let s1 := s.setAct7 a { x with
      live := x.live && !ends, half := !ends && actKind r == 4 && (x.half || !off), coast := coast, jumped := jumped,
      late := false, fires := (x.fires + 1) % 2 ^ 32, last := lo32 s.time }
    (s1.actEffect a (!off) angle).showAct a

/-! ### Late decisions (R335, R336) -/

/-- A late slot handled by its policy in the clock of the decision. A late pulse fires both edges, so the
later one's level stands and the pulse is counted as merged (R332). -/
def State.lateAct (s : State) (a : Nat) : State :=
  let r := s.actRec a
  let x := s.act7 a
  let angle := s.domAngle (actDom r)
  if actPolicy r = 2 then
    let s1 := (s.bump Fld.AD_SUMMARY1_dropped).setAct7 a
      { x with live := false, armed := false, held := none, dropped := true }
    s1.showAct a
  else
    let s1 := s.bump Fld.AD_SUMMARY1_late
    if actPolicy r = 0 then
      let s2 := s1.setAct7 a { x with
        live := false, armed := false, held := none, late := true, dropped := false,
        fires := (x.fires + 1) % 2 ^ 32, last := lo32 s.time }
      let s3 := if actKind r = 4 then s2.bump Fld.AD_SUMMARY2_merged else s2
      (s3.actEffect a false angle).showAct a
    else
      let y := { x with armed := false, held := none, dropped := false }
      ((s1.setAct7 a (if actRepeats r then y else { y with live := false, atRev := true }))).showAct a

/-- Slots that are late when a domain stops or changes its source (R336). -/
def State.lateActs (s : State) (d : Nat) : State :=
  (s.actsOf d).foldl (fun s a =>
    let x := s.act7 a
    let due := if actRepeats (s.actRec a) then !x.suspended else x.live || x.armed || x.held.isSome
    if due then s.lateAct a else s) s

/-! ### Arming (R334, R339) -/

/-- An arm evaluated against the revolution count. -/
def State.evalArm (s : State) (a : Nat) (next : Bool) : State :=
  let d := actDom (s.actRec a)
  let x := s.act7 a
  let st := (s.dom d).state
  let diff := signed 16 ((x.rev + 65536 - (s.reg (Reg.AD_REV d)).toNat % 65536) % 65536)
  if st = dsStopped then s.lateAct a
  else if st = dsOff ∨ st = dsAcquire then (s.setAct7 a { x with held := some next }).showAct a
  else if next then (s.setAct7 a { x with live := true, armed := false, held := none }).showAct a
  else if 0 < diff then (s.setAct7 a { x with armed := true, held := none }).showAct a
  else if diff = 0 ∧ x.passed = false then
    (s.setAct7 a { x with live := true, armed := false, held := none }).showAct a
  else s.lateAct a

/-- An ARM item taken: when its sequence differs from the last one taken (R339). -/
def State.takeArm (s : State) (a : Nat) (w : Word) : State :=
  let r := s.actRec a
  let x := s.act7 a
  let seq := bits w 23 16
  if !actEn r || (x.seqTaken && x.seq == seq) then s
  else
    let x1 := { x with seq := seq, seqTaken := true }
    if actRepeats r then
      if bit w 25 then (s.setAct7 a { x1 with suspended := true }).showAct a
      else (s.setAct7 a { x1 with suspended := false, atRev := x1.atRev || x1.suspended }).showAct a
    else if bit w 25 then
      (s.setAct7 a { x1 with live := false, armed := false, held := none, atRev := false }).showAct a
    else
      (s.setAct7 a { x1 with rev := bits w 15 0, live := false, armed := false, atRev := false }).evalArm a
        (bit w 24)

/-! ### Motion: crossings and REV boundaries (R328, R330) -/

/-- A domain's status registers (R343). -/
def State.showDom (s : State) (d : Nat) : State :=
  let x := s.dom d
  let s1 := ((s.setReg (Reg.AD_DSTAT d) (s.domStat d)).setReg (Reg.AD_SPEED d) (wordOf (domSpeed x))).setReg
    (Reg.AD_ANGLE d) (s.domAngle d)
  (((s1.putBit Fld.AD_SUMMARY0_stopped d (x.state == dsStopped)).putBit Fld.AD_SUMMARY0_coast d
    (x.state == dsCoast || x.state == dsReacquire)).putBit Fld.AD_SUMMARY0_locked d
    (x.state == dsLocked)).putBit Fld.AD_SUMMARY0_enabled d (domEn (s.domRec d))

/-- A REV boundary of domain `d` (R328, R334, R339): the count, the revolution time, ANGLE and ANGLE2
items, the passed bits, and the arms that become live. A module that joined takes the windward module's count here (R341). -/
def State.revBoundary (s : State) (d : Nat) (back : Bool) : State :=
  let x := s.dom d
  let revs := x.revJoin.getD (s.reg (Reg.AD_REV d)) + (if back then 0xFFFFFFFF else 1)
  let s1 := s.setReg (Reg.AD_REV d) revs
  let s2 := match x.revAt with
    | some (t, b) =>
      if b = back then s1.setReg (Reg.AD_REVTIME d) (wd (min (s.time - t) 0xFFFFFFFF)) else s1
    | none => s1
  let s3 := (s2.setDom d { x with revAt := some (s.time, back), revJoin := none }).pfcEvent 17 d (if back then 0 else 1)
  (s3.actsOf d).foldl (fun s a =>
    let (s1, v1, f1) := s.takeItem (actItem a 0)
    let (s2, v2, f2) := s1.takeItem (actItem a 1)
    let y := s2.act7 a
    let due := y.atRev || (y.armed && y.rev == revs.toNat % 65536)
    (s2.setAct7 a { y with
      ang := if f1 then some (v1.setWidth 32) else y.ang,
      ang2 := if f2 then some (v2.setWidth 32) else y.ang2,
      passed := false, live := y.live || due, armed := y.armed && !due, atRev := false }).showAct a) s3

/-- What `f` does in an earlier fabric clock `k`, with that clock's station time; the present clock and time stand after it. -/
def State.atClk (s : State) (k : Nat) (f : State → State) : State :=
  if s.clk ≤ k then f s
  else { f { s with clk := k, time := s.time - 4 * (s.clk - k) } with clk := s.clk, time := s.time }

/-- A motion of a domain in one direction: `base` its angle in clock `start`, counted in the turn at hand, and the angle
it covers in one clock; 0 where it is swept in the present clock (R317). -/
structure Sweep where
  start : Nat
  base : Int
  step : Nat
  back : Bool
  deriving DecidableEq, Repr

/-- The fabric clock in which a sweep crosses angle `p`: the first at `p` or past it, backward the first past it (R330). -/
def State.sweepClk (s : State) (w : Sweep) (p : Int) : Nat :=
  if w.step = 0 then s.clk
  else min s.clk (w.start + (if w.back then (w.base - p).toNat / w.step + 1 else ((p - w.base).toNat + w.step - 1) / w.step))

/-- The angle of a sweep in the clock before `k`; where it is swept in one clock, its first angle `lo`. -/
def Sweep.before (w : Sweep) (k : Nat) (lo : Int) : Int :=
  if w.step = 0 then lo
  else
    let way : Int := (w.step * (k - 1 - w.start) : Nat)
    if w.back then clampI 0 lo (w.base - way) else clampI lo (turn - 1) (w.base + way)

/-- One crossing: its clock, its slot, the edge and the angle; `both` where the other edge of the pulse falls in the same
clock before it (R332). -/
structure Crossing where
  clk : Nat
  slot : Nat
  off : Bool
  pos : Int
  both : Bool
  deriving DecidableEq, Repr

/-- The crossings of slot `a` above `lo` up to `hi`, in the order of the motion. Of two edges in one clock the later one in the direction
of motion stands (R332). -/
def State.crossings (s : State) (lo hi : Int) (w : Sweep) (a : Nat) : List Crossing :=
  let r := s.actRec a
  let edge := fun (off : Bool) => (⟨s.sweepClk w (s.actComp a off), a, off, s.actComp a off, false⟩ : Crossing)
  let inSeg := fun (c : Crossing) => decide (lo < c.pos) && decide (c.pos ≤ hi)
  let on := edge false
  let off := edge true
  if !actTakes r w.back then []
  else if actKind r = 4 ∧ inSeg off = true then
    if !inSeg on then [off]
    else
      let (first, last) := if (if w.back then off.pos ≤ on.pos else on.pos ≤ off.pos) then (on, off) else (off, on)
      if first.clk = last.clk then [{ last with both := true }] else [first, last]
  else if inSeg on then [on] else []

/-- A crossing met: the passed bit, and the firing of a live slot (R330, R334). -/
def State.cross (s : State) (jumped : Bool) (c : Crossing) : State :=
  let live := s.actLive c.slot
  let s1 := s.setAct7 c.slot { s.act7 c.slot with passed := true }
  if !live then s1
  else
    let s2 := if c.both then (s1.bump Fld.AD_SUMMARY2_merged).setAct7 c.slot { s1.act7 c.slot with half := true } else s1
    s2.fireAct c.slot c.off jumped (wordOf (c.pos / 2 ^ 32))

/-- The compensated angles of the present clock, as AD_ACTCOMP shows them (R330). -/
def State.compActs (s : State) (d : Nat) : State :=
  (s.actsOf d).foldl (fun s a => s.setAct7 a { s.act7 a with comp := wordOf (s.actComp a false / 2 ^ 32) }) s

/-- Crossings of domain `d` in a segment that does not wrap: angles above `lo` up to `hi`, each in its clock, those of one clock by
slot. -/
def State.crossSegment (s : State) (d : Nat) (lo hi : Int) (w : Sweep) : State :=
  (sortBy (fun (a b : Crossing) => decide (a.clk ≤ b.clk)) ((s.actsOf d).flatMap (s.crossings lo hi w))).foldl
    (fun s c => s.atClk c.clk fun s => s.cross (w.step == 0) c) (s.compActs d)

/-- A domain's angle stands at `p` for the present clock. -/
def State.standAt (s : State) (d : Nat) (p : Int) : State := s.setDom d { s.dom d with ang := p, asOf := s.clk }

/-- The angle moves from `lo` to `hi`, through as many turns as that takes. At a wrap the crossings of the clocks before it are tested
against the values in force before the boundary, those of its own clock against the values after it (R339). -/
def State.crossTo (s : State) (d : Nat) : Nat → Sweep → Int → Int → State
  | 0, _, _, hi => s.standAt d (hi % turn)
  | n + 1, w, lo, hi =>
    if w.back then
      if hi < 0 then
        let k := s.sweepClk w 0
        let mid := w.before k lo
        (((s.crossSegment d mid lo w).atClk k fun s => s.revBoundary d true).crossSegment d (-1) mid w).crossTo d n
          { w with base := w.base + turn } (turn - 1) (hi + turn)
      else (s.crossSegment d hi lo w).standAt d hi
    else if turn ≤ hi then
      let k := s.sweepClk w turn
      let mid := w.before k lo
      (((s.crossSegment d lo mid w).atClk k fun s => s.revBoundary d false).crossSegment d mid (turn - 1) w).crossTo d n
        { w with base := w.base - turn } (-1) (hi - turn)
    else (s.crossSegment d lo hi w).standAt d hi

/-- A domain's angle moves from where it stands to `p`, at `step` counts a clock, or swept in this clock for 0; the way it covers
counts toward the coast limit (R326). -/
def State.travel (s : State) (d step : Nat) (p : Int) : State :=
  let x := s.dom d
  let s1 := s.crossTo d ((p / turn).natAbs + 2) ⟨x.asOf, x.ang, step, decide (p < x.ang)⟩ x.ang p
  s1.setDom d { s1.dom d with moved := (s1.dom d).moved + (p - x.ang).natAbs }

/-- Whether crossings count in the domain's state (R333). -/
def domTracks (x : Dom) : Bool := x.state == dsLocked || x.state == dsCoast || x.state == dsReacquire

/-- A domain brought to the present clock, with the crossings and boundaries it passed. -/
def State.runDom (s : State) (d : Nat) : State :=
  let x := s.dom d
  if !domTracks x then s
  else
    let p := s.domPos d
    let k5 := domKind (s.domRec d) == 5
    let s1 := if k5 then s.setDom d { x with edge := s.stationTurns (s.domRec d) / 2 ^ 32 } else s
    s1.travel d (x.adj.getD x.inc).natAbs p

/-- Every domain brought to the present clock. -/
def State.runDomains (s : State) : State := (upFrom 0 8).foldl State.runDom s

/-- Fabric clocks until the angle has moved by `dist` in the direction of motion; none where the speed is 0
or a clamp stands before it. -/
def State.clocksTo (s : State) (d : Nat) (dist : Int) : Option Nat :=
  let r := s.domRec d
  let x := s.dom d
  let inc := (match x.adj with | some i => i | none => x.inc).natAbs
  if inc = 0 || !domTracks x then none
  else if x.state = dsLocked ∧ domKind r ≤ 2 ∧ domClamp r x < dist then none
  else some ((dist.toNat + inc - 1) / inc)

/-- The clock moves on until domain `d` reaches `target`, ahead of it in its direction of motion, and the
domain is brought there. Where it does not reach it, the domain is brought to the present clock. -/
def State.runTo (s : State) (d : Nat) (target : Int) : State :=
  let s1 := s.runDom d
  let x := s1.dom d
  let dist := if x.back then (x.ang - target) % turn else (target - x.ang) % turn
  match s1.clocksTo d (if dist = 0 then turn else dist) with
  | none => s1
  | some n => (s1.advance n).runDom d

/-! ### Tracking (R317 to R322) -/

/-- The increment from a speed in turns of N edges per `ns` (R322): one clock is 4 ns. -/
def incFor (edges n sum : Nat) : Int := if n * sum = 0 then 0 else (edges : Int) * turn * 4 / (n * sum : Nat)

/-- The speed estimate of kinds 1 and 2 from the accepted intervals (R322). -/
def spanInc (r : List Word) (spans : List Nat) : Int :=
  let m := if domAverage r = 0 then domN r else domAverage r
  let xs := spans.take m
  incFor xs.length (domN r) (xs.foldl (· + ·) 0)

/-- The angle set to `theta` (R317, R327): forward by a sweep, backward by a slower approach to `next`,
which is expected `left` clocks from now. -/
def State.correct (s : State) (d : Nat) (theta next : Int) (left : Nat) : State :=
  let x := s.dom d
  let dir : Int := if x.back then -1 else 1
  let diff := angDiff (theta - x.ang)
  if 0 ≤ dir * diff then
    if 2 ^ 62 < diff.natAbs then
      (s.bump Fld.AD_SUMMARY2_origins).setDom d { x with ang := theta % turn, asOf := s.clk, adj := none }
    else
      let s1 := (s.setDom d { x with adj := none }).peak (Fld.AD_CORR_max d) (diff.natAbs / 2 ^ 32)
      s1.travel d 0 (x.ang + diff)
  else
    let gap := dir * angDiff (next - x.ang)
    s.setDom d { x with adj := some (dir * (if gap ≤ 0 || left = 0 then 0 else gap / left)) }

/-- The entry to LOCKED from ACQUIRE: an origin setting, and the held arms are evaluated (R327, R334). -/
def State.lockDom (s : State) (d : Nat) (theta : Int) : State :=
  let x := s.dom d
  let s1 := (s.bump Fld.AD_SUMMARY2_origins).setDom d { x with
    state := dsLocked, ang := theta % turn, asOf := s.clk, adj := none, valid := true, run := 0, slewRun := 0 }
  ((s1.actsOf d).foldl (fun s a => match (s.act7 a).held with
    | some next => s.evalArm a next
    | none => s) s1).showDom d

/-- Whether interval `i` lies within ±w % of interval `p` (R318, R325). -/
def within (w i p : Nat) : Bool := decide ((100 - w) * p ≤ 100 * i) && decide (100 * i ≤ (100 + w) * p)

/-- A slew excess between the intervals `p` and `i`, in ns (R319): the limit is 16.16 revolutions per second
squared. -/
def slewExcess (r : List Word) (i p : Nat) : Bool :=
  let n := domN r
  domSlew r != 0 && p != 0 && decide (domSlew r * i * n * i * p < 65536 * 10 ^ 18 * (if i < p then p - i else i - p))

/-- A delivery accepted with interval `i` at time `ts`, nominal or delivered angle `nom`, edge number `k`;
`inc` the speed of kinds 3 and 4. LOCKED, COAST and REACQUIRE correct the angle. -/
def State.acceptEdge (s : State) (d ts i : Nat) (k : Int) (nom : Nat) (inc : Option Int) : State :=
  let r := s.domRec d
  let s0 := s.runDom d
  let x := s0.dom d
  let spans := if i = 0 then x.spans else (i :: x.spans).take (max (domN r) 256)
  let v := match inc with
    | some v => v
    | none => if x.back then -spanInc r spans else spanInc r spans
  let s1 := ((s0.setDom d { x with
    last := some ts, interval := i, spans := spans, edge := k, nominal := nom, inc := v }).setReg
    (Reg.AD_EDGETIME_HI d) (hi32 ts)).setReg (Reg.AD_EDGETIME_LO d) (lo32 ts)
  let theta : Int := (nom : Int) * 2 ^ 32 + v * ((s1.time - ts) / 4 : Nat)
  if domTracks x then
    let next : Int := if domKind r ≤ 2 then (edgeAngle r (k + (if x.back then -1 else 1)) : Int) * 2 ^ 32
      else (nom : Int) * 2 ^ 32 + v * (i / 4 : Nat)
    s1.correct d theta next ((ts + i - s1.time) / 4)
  else s1

/-- A domain enters COAST (R318, R320). -/
def State.coastDom (s : State) (d : Nat) : State :=
  let s1 := s.runDom d
  (s1.setDom d { s1.dom d with state := dsCoast, run := 0, adj := none, coastAt := s1.time, moved := 0 }).showDom d

/-- Angle and increment of a delivery: kind 2 by its edge number, kinds 3 and 4 as delivered. -/
def deliveredAngle (r : List Word) (k : Int) (given : Option (Nat × Int)) : Nat × Option Int :=
  match given with
  | none => (edgeAngle r k, none)
  | some (a, uHz) => ((a + domOffset r) % 2 ^ 32, some (uHz * turn / 250000000000000))

/-- The number of the tooth after edge `k`, with the reference of kind 2 (R321): the number, and whether a
reference error is counted. -/
def nextTooth (r : List Word) (x : Dom) (k : Int) : Int × Bool :=
  let n : Int := domN r
  if !(domUsesRef r && domKind r == 2) then (k, false)
  else if x.refSeen then (0, k % n != 0)
  else (k, k % n == 0)

/-- A delivery in LOCKED, within its window or after it (R318, R319, R321). -/
def State.deliverLocked (s : State) (d ts : Nat) (given : Option (Nat × Int)) : State :=
  let r := s.domRec d
  let x := s.dom d
  let i := ts - x.last.getD ts
  if 100 * i < (100 - domWindow r) * x.interval then s.bump (Fld.AD_EDGES_rejected d)
  else
    let (k, err) := nextTooth r x (x.edge + 1)
    let (nom, inc) := deliveredAngle r k given
    let slew := slewExcess r i x.interval
    let s1 := if err then s.bump (Fld.AD_TRACK_referr d) else s
    let s2 := if slew then s1.bump (Fld.AD_TRACK_slew d) else s1
    let back := match inc with | some v => decide (v < 0) | none => false
    let s3 := (s2.setDom d { s2.dom d with
      refSeen := false, slewRun := if slew then x.slewRun + 1 else 0, back := back }).acceptEdge d ts i k nom inc
    if slew && decide (3 ≤ x.slewRun + 1) then
      (s3.bump (Fld.AD_TRACK_reacq d)).setDom d { s3.dom d with
        state := dsReacquire, run := 0, slewRun := 0, coastAt := s3.time, moved := 0 }
    else s3

/-- A delivery in COAST (R325): accepted within ±w % of the interval of an expected position. -/
def State.deliverCoast (s : State) (d ts : Nat) (given : Option (Nat × Int)) : State :=
  let r := s.domRec d
  let x := s.dom d
  let p := x.interval
  let gap := ts - x.last.getD ts
  let j := if p = 0 then 1 else max 1 ((2 * gap + p) / (2 * p))
  let off := if gap < j * p then j * p - gap else gap - j * p
  if 100 * off ≤ domWindow r * p then
    let (nom, inc) := deliveredAngle r (x.edge + j) given
    let s1 := (s.setDom d { x with run := x.run + 1, refSeen := false }).acceptEdge d ts (gap / j) (x.edge + j)
      nom inc
    if domReturn r ≤ x.run + 1 then s1.setDom d { s1.dom d with state := dsLocked, run := 0, slewRun := 0 }
    else s1
  else (s.bump (Fld.AD_EDGES_rejected d)).setDom d { x with run := 0 }

/-- A delivery in REACQUIRE (R325): accepted, and numbered by the nearest expected position. -/
def State.deliverReacquire (s : State) (d ts : Nat) (given : Option (Nat × Int)) : State :=
  let r := s.domRec d
  let x := s.dom d
  let p := x.interval
  let gap := ts - x.last.getD ts
  let j := if p = 0 then 1 else max 1 ((2 * gap + p) / (2 * p))
  let (nom, inc) := deliveredAngle r (x.edge + j) given
  let run := if within (domWindow r) gap p then x.run + 1 else 0
  let s1 := (s.setDom d { x with run := run, refSeen := false }).acceptEdge d ts gap (x.edge + j) nom inc
  if domAcquire r ≤ run then s1.setDom d { s1.dom d with state := dsLocked, run := 0, slewRun := 0 } else s1

/-- A delivery in ACQUIRE (R325): with a reference, a kind-2 domain locks at tooth 0. -/
def State.deliverAcquire (s : State) (d ts : Nat) (given : Option (Nat × Int)) : State :=
  let r := s.domRec d
  let x := s.dom d
  let i := match x.last with | some t => ts - t | none => 0
  let run := if x.interval != 0 && within (domWindow r) i x.interval then x.run + 1 else 0
  let (nom, inc) := deliveredAngle r 0 given
  let needRef := domUsesRef r && domKind r == 2
  let lock := decide (domAcquire r ≤ run) && (!needRef || x.refSeen)
  let s1 := (s.setDom d { x with run := run, refSeen := x.refSeen && run != 0 && !lock }).acceptEdge d ts i 0 nom inc
  if lock then
    let y := s1.dom d
    (s1.setDom d { y with ref := needRef || 3 ≤ domKind r, back := y.inc < 0 }).lockDom d
      ((nom : Int) * 2 ^ 32 + y.inc * ((s1.time - ts) / 4 : Nat))
  else s1

/-- A pulse or a phase value delivered to a domain of kind 2, 3 or 4 (R317 to R325). A delivery later than
its window finds the edge before it missing (R318). -/
def State.deliverEdge (s : State) (d ts : Nat) (given : Option (Nat × Int)) : State :=
  let r := s.domRec d
  let x := s.dom d
  let late := decide ((100 + domWindow r) * x.interval < 100 * (ts - x.last.getD ts))
  let s1 := match x.state with
    | 1 => s.deliverAcquire d ts given
    | 2 => if late then ((s.bump (Fld.AD_EDGES_missing d)).coastDom d).deliverCoast d ts given
      else s.deliverLocked d ts given
    | 3 => s.deliverCoast d ts given
    | 4 => s.deliverReacquire d ts given
    | 5 => (s.setDom d { x with
        state := dsAcquire, last := none, interval := 0, spans := [], run := 0 }).deliverAcquire d ts given
    | _ => s
  s1.showDom d

/-- A reference pulse of a kind-2 domain (R321, R325): in ACQUIRE it counts once the acquire count stands. -/
def State.deliverRef (s : State) (d : Nat) : State :=
  let x := s.dom d
  if x.state = dsAcquire then
    s.setDom d { x with refSeen := decide (domAcquire (s.domRec d) ≤ x.run) }
  else s.setDom d { x with refSeen := true }

/-- An encoder count delivered to a kind-1 domain (R315, R320): the count and the time of its change. -/
def State.deliverCount (s : State) (d ts : Nat) (count : Int) : State :=
  let r := s.domRec d
  let x := s.dom d
  let k := count - x.zero
  let step := k - x.edge
  let back := decide (step < 0)
  let i := match x.last with | some t => if step = 0 then 0 else (ts - t) / step.natAbs | none => 0
  let spans := if back != x.back then [] else x.spans
  let s1 :=
    if x.state = dsAcquire then
      if domUsesRef r then s.setDom d { x with edge := k, last := some ts, back := back, interval := i }
      else
        let s1 := (s.setDom d { x with zero := count, edge := 0, last := some ts, back := back }).acceptEdge d ts
          0 0 (edgeAngle r 0) none
        s1.lockDom d ((edgeAngle r 0 : Int) * 2 ^ 32)
    else if step = 0 then s
    else if x.state = dsLocked then
      (s.runDom d).setDom d { (s.runDom d).dom d with back := back, spans := spans } |>.acceptEdge d ts i k
        (edgeAngle r k) none
    else if x.state = dsCoast ∧ x.fault = false then s.deliverCoast d ts none
    else s
  s1.showDom d

/-- An index Z at count `count` (R309, R315, R320). The answer says whether the encoder lost count. -/
def State.deliverIndex (s : State) (d ts : Nat) (count : Int) : State × Bool :=
  let r := s.domRec d
  let x := s.dom d
  let n : Int := domN r
  if !domUsesRef r then (s, false)
  else if x.state = dsAcquire then
    let s1 := s.setDom d { x with zero := count, edge := 0, ref := true, nominal := edgeAngle r 0, last := some ts }
    (s1.lockDom d ((edgeAngle r 0 : Int) * 2 ^ 32 + x.inc * ((s.time - ts) / 4 : Nat)), false)
  else if x.state = dsLocked then
    let m := (count - x.zero) % n
    if 4 < m ∧ m < n - 4 then (((s.bump (Fld.AD_TRACK_referr d)).coastDom d), true) else (s, false)
  else (s, false)

/-- An encoder fault raised or cleared (R320, R324). -/
def State.encoderFault (s : State) (d : Nat) (fault : Bool) : State :=
  let x := s.dom d
  let s1 := s.setDom d { x with fault := fault }
  if fault then (if x.state = dsLocked then s1.coastDom d else s1)
  else if x.state = dsCoast ∨ x.state = dsStopped then
    (s1.setDom d { s1.dom d with state := dsAcquire, last := none, interval := 0, spans := [], run := 0 }).showDom d
  else s1

/-- No count for twice the last interval: the speed falls; after 200 ms it is 0 (R320). -/
def State.encoderIdle (s : State) (d : Nat) : State :=
  let r := s.domRec d
  let x := s.dom d
  if domKind r != 1 || x.state != dsLocked then s
  else
    let age := s.time - x.last.getD s.time
    let s1 := s.runDom d
    let y := s1.dom d
    if 200000000 ≤ age then (s1.setDom d { y with inc := 0, adj := none }).showDom d
    else if 2 * x.interval ≤ age ∧ 0 < age then
      (s1.setDom d { y with
        inc := if y.back then -incFor 1 (domN r) age else incFor 1 (domN r) age, adj := none }).showDom d
    else s

/-- The window of a domain of kind 2, 3 or 4 ends without a delivery (R318). -/
def State.missingEdge (s : State) (d : Nat) : State :=
  let k := domKind (s.domRec d)
  if (s.dom d).state = dsLocked ∧ 2 ≤ k ∧ k ≤ 4 then (s.bump (Fld.AD_EDGES_missing d)).coastDom d else s

/-- The clock moves on to a domain's coast limit: 200 ms after it entered COAST or REACQUIRE, or two revolutions from there, whichever
comes first (R326). -/
def State.toCoastLimit (s : State) (d : Nat) : State :=
  let x := s.dom d
  let limit := x.coastAt + 200000000
  match s.clocksTo d (2 * turn - x.moved) with
  | some n => if s.time + 4 * n < limit then (s.advance n).runDom d else (s.runUntil limit).runDom d
  | none => (s.runUntil limit).runDom d

/-- The coast limit (R326, R336). -/
def State.coastLimit (s : State) (d : Nat) : State :=
  let x := s.dom d
  if x.state = dsCoast ∨ x.state = dsReacquire then
    let s1 := (s.runDom d).toCoastLimit d
    ((s1.setDom d { s1.dom d with state := dsStopped, inc := 0, adj := none }).lateActs d).showDom d
  else s

/-! ### Records taken at a boundary (R324, R327, R336, R337, R342) -/

/-- A domain record takes effect. -/
def State.applyDomRec (s : State) (d : Nat) (old : List Word) : State :=
  let r := s.domRec d
  let x := s.dom d
  let start := if domKind r = 5 then dsLocked else dsAcquire
  let fresh : Dom := { state := start, started := true, ang := x.ang, valid := x.valid, asOf := s.clk, fault := x.fault }
  let enter := fun (s : State) =>
    if domKind r = 5 then
      let t := s.stationTurns r
      ((s.setDom d { fresh with
        ref := true, inc := turn * 4 / (domPeriod r : Nat), edge := t / 2 ^ 32 }).lockDom d
        ((t % 2 ^ 32) * 2 ^ 32))
    else s.setDom d fresh
  if !domEn r then
    let s1 := s.runDom d
    (s1.setDom d { s1.dom d with state := dsOff, inc := 0 }).showDom d
  else if x.state = dsOff then (enter (if x.started then s else s.setReg (Reg.AD_REV d) 0)).showDom d
  else if wBits old 0 7 1 != wBits r 0 7 1 || wAt old 1 != wAt r 1 || wAt old 2 != wAt r 2 then
    (enter (s.lateActs d)).showDom d
  else if wAt old 3 != wAt r 3 then
    let s1 := s.runDom d
    let y := s1.dom d
    let move : Int := ((domOffset r : Int) - (domOffset old : Int)) * 2 ^ 32
    ((s1.setDom d { y with
      ang := (y.ang + move) % turn,
      edge := if domKind r = 5 then s1.stationTurns r / 2 ^ 32 else y.edge }).bump Fld.AD_SUMMARY2_origins).showDom d
  else s

/-- An action record takes effect: an armed one-shot is unarmed without firing, and a changed repeating action is live with its new
values. A record that says what it said changes nothing (R337). -/
def State.applyActRec (s : State) (a : Nat) (old : List Word) : State :=
  let x := s.act7 a
  let fires := if actEn old then x.fires else 0
  if s.actRec a = old then s
  else (s.setAct7 a { seq := x.seq, seqTaken := x.seqTaken, fires := fires, passed := x.passed }).showAct a

/-- A step of station time is an origin setting of every kind-5 domain (R327). -/
def State.stepDomains (s : State) : State :=
  (upFrom 0 8).foldl (fun s d =>
    let r := s.domRec d
    if domEn r && domKind r == 5 && (s.dom d).state == dsLocked then
      let t := s.stationTurns r
      ((s.setDom d { s.dom d with ang := (t % 2 ^ 32) * 2 ^ 32, edge := t / 2 ^ 32, asOf := s.clk }).bump
        Fld.AD_SUMMARY2_origins)
    else s) s

/-- An item ARM published with its word and taken in the same clock (R339). -/
def State.armItem (s : State) (a : Nat) (w : Word) : State :=
  ((s.publish (actItem a 2) (w.setWidth 64)).runDom (actDom (s.actRec a))).takeArm a w

end Sys2Proof.Machine
end

