-- ==== Sys2Proof/Machine/PowerPlant.lean ====
section
/-! DEFINITION. The end of a phasor cycle (R346 to R351), the gust guard (R364 to R369) and the PH records that take
effect at a boundary (R370). -/

namespace Sys2Proof.Machine

/-! ### A SYNC item -/

/-- A channel's domain brought to the clock before this one: a SYNC item taken in the clock in which the slot would fire comes first
(R362). -/
def State.syncBefore (s : State) (c : Nat) : State :=
  match s.syncDomain c with
  | none => s
  | some d =>
    if s.syncState c != 1 || !domTracks (s.dom d) || decide (s.clk ≤ (s.dom d).asOf) then s
    else { ({ s with clk := s.clk - 1, time := s.time - 4 } : State).runDom d with clk := s.clk, time := s.time }

/-- A SYNC item taken, after the firings of earlier clocks (R353, R362). -/
def State.syncItemAt (s : State) (c : Nat) (w : Word) : State :=
  if s.syncNew c w then (s.syncBefore c).takeSync c w else s

/-! ### A cycle of a voltage triple -/

/-- The results of triple `t` enter the live image (R346, R348, R349). -/
def State.takeTriple (s : State) (t ts : Nat) (m : TripleMeas) : State :=
  let r := s.phRec t
  if !tripleEn r then s
  else
    let q := if m.exceeds || m.bad then 2 else 0
    let s1 := s.setPhPoints t 0 q m.points
    let s2 := match m.harmonics with
      | some hs => s1.setPhPoints t 10 q hs
      | none => s1.phQualities t q (upFrom 10 30)
    let weak := t < 3 && decide ((s2.phVal t 3) * 20 < ((tripleNom r : Nat) : Int))
    let s3 := if weak then s2.phQualities t 3 (upFrom 3 37) else s2
    let s4 := if m.exceeds then s3.putBit Fld.PH_OVR_ovr t true else s3
    s4.setTriple t { ended := some ts }

/-- Domains of a kind that follow source `n`. -/
def State.domainsOf (s : State) (kind n : Nat) : List Nat :=
  (upFrom 0 8).filter fun d =>
    domEn (s.domRec d) && domKind (s.domRec d) == kind && domSource (s.domRec d) == n

/-- At the end of a bus cycle, the slip, the voltage difference and the phase difference of a channel, and
their delivery to its domain (R351). The bus phase is 0 at that instant. -/
def State.busCycle (s : State) (c ts : Nat) : State :=
  let i := chanIn (s.chanRec c)
  let slip := s.slip c
  let dv := s.voltDiff c
  let age : Int := (ts - ((s.triple i).ended.getD ts) : Nat)
  let ph := unsigned 32 (s.phVal i 4 * age * 2 ^ 32 / 10 ^ 15)
  let s1 := (s.setReg (Reg.PH_SLIP c) (wordOf slip)).put (Fld.PH_DV_dv c) (unsigned 16 dv)
  let s2 := ((s1.setField 8 (5 + c) 1 slip 0 ts).setField 8 (5 + c) 2 dv 0 ts).setField 8 (5 + c) 3 ph 0 ts
  match s2.syncDomain c with
  | none => s2
  | some d => s2.deliverEdge d ts (some (ph, slip))

/-- The gust guard's configuration, and its thresholds and times, with the defaults (R367, R370). -/
def State.gustRec (s : State) : List Word := s.phRec 0x40
def gustBus (r : List Word) : Nat := wBits r 0 2 1
def lowPct (r : List Word) : Nat := if wBits r 2 7 0 = 0 then 20 else wBits r 2 7 0
def livePct (r : List Word) : Nat := if wBits r 3 7 0 = 0 then 90 else wBits r 3 7 0
def blackoutTime (r : List Word) : Nat := (if wBits r 2 31 16 = 0 then 200 else wBits r 2 31 16) * 1000000
def liveTime (r : List Word) : Nat := (if wBits r 3 31 16 = 0 then 2000 else wBits r 3 31 16) * 1000000

/-- Whether the bus triple's magnitude is below a percentage of nominal. -/
def State.busBelow (s : State) (pct : Nat) : Bool :=
  let b := gustBus s.gustRec
  decide (s.phVal b 3 * 100 < (pct * tripleNom (s.phRec b) : Nat))

/-- Since when the bus has stood below the blackout threshold, or at the live threshold or above it, at the end of a cycle of triple
`t` (R367). -/
def State.watchBus (s : State) (t ts : Nat) : State :=
  let r := s.gustRec
  if gustBus r != t then s
  else
    { s with ph := { s.ph with
      lowSince := if s.busBelow (lowPct r) then some (s.ph.lowSince.getD ts) else none
      liveSince := if s.busBelow (livePct r) then none else some (s.ph.liveSince.getD ts) } }

/-- A cycle of voltage triple `t` ends at time `ts` (R346, R351, R361): `cs` holds the results of the
current triples. -/
def State.phasorCycle (s : State) (t ts : Nat) (m : TripleMeas) (cs : List TripleMeas) : State :=
  if !tripleEn (s.phRec t) then s
  else
    let s1 := (s.takeTriple t ts m).watchBus t ts
    let s2 := (upFrom 0 2).foldl (fun s k => match cs[k]? with
      | some c => if s.tripleOf (3 + k) == t then s.takeTriple (3 + k) ts c else s
      | none => s) s1
    let s3 := (if t = 0 then s2.wrapInc Fld.PH_CYCLES_cycles else s2).showGood
    let s4 := (s3.domainsOf 3 t).foldl (fun s d => s.deliverEdge d ts (some (0, s.phVal t 4))) s3
    let s5 := (upFrom 0 2).foldl (fun s c =>
      let r := s.chanRec c
      if !wBit r 0 0 then s
      else
        let s1 := if chanBus r = t then s.busCycle c ts else s
        if chanIn r = t then s1.deadBusClose c else s1) s4
    s5.fire (188 + t)

/-! ### Gust guard -/

/-- Codes of PH_STAT.gust. -/
def guOff : Nat := 0
def guNormal : Nat := 1
def guBlackout : Nat := 2
def guRestart : Nat := 3

/-- States of a request slot (R365). -/
def rqIdle : Nat := 0
def rqWaiting : Nat := 1
def rqGranted : Nat := 2
def rqRefused : Nat := 3
def rqBlocked : Nat := 4

def State.genRecord (s : State) (g : Nat) : List Word := s.phRec (0x50 + g)
def State.reqRec (s : State) (r : Nat) : List Word := s.phRec (0x80 + r)
def State.stepRec (s : State) (k : Nat) : List Word := s.phRec (0x100 + k)
def reqDemand (r : List Word) : Nat := wBits r 1 19 0
def reqHold (r : List Word) : Nat := wBits r 2 15 0 * 1000000
def reqPriority (r : List Word) : Nat := wBits r 0 4 1
def reqRestartOnly (r : List Word) : Bool := wBit r 0 20
def State.gust (s : State) : Nat := s.fld Fld.PH_STAT_gust
def State.gslot (s : State) (r : Nat) : GustSlot := SMap.get {} r s.ph.slots
def State.setGslot (s : State) (r : Nat) (x : GustSlot) : State :=
  { s with ph := { s.ph with slots := SMap.set {} r x s.ph.slots } }
def gustItem (r item : Nat) : Nat := itemKey 7 (0x80 + r) item

/-- GRANT of a slot (R365). -/
def State.showGrant (s : State) (r : Nat) : State :=
  let x := s.gslot r
  s.setPoint (gustItem r 1) (x.state + x.count % 256 * 256) 0

/-- A slot changed, and its GRANT item with it. -/
def State.putGslot (s : State) (r : Nat) (x : GustSlot) : State := (s.setGslot r x).showGrant r

/-- Rating × available fraction of a generator, kW (R364). -/
def genCapacity (r : List Word) : Nat := wBits r 4 19 0 * wBits r 4 26 20 / 100

/-- The P point of a generator: a current triple's, or a remote point. -/
def State.genP (s : State) (g : Nat) : Point :=
  let r := s.genRecord g
  if wBits r 0 2 1 = 2 then s.input (wAt r 1).toNat else s.point (s.phPoint (3 + wBits r 0 2 1) 3)
def State.genQ (s : State) (g : Nat) : Point :=
  let r := s.genRecord g
  if wBits r 0 2 1 = 2 then s.input (wAt r 2).toNat else s.point (s.phPoint (3 + wBits r 0 2 1) 4)
def State.genOnline (s : State) (g : Nat) : Point := s.input (wAt (s.genRecord g) 3).toNat

/-- A P of 32 bits in a remote point, or of a triple's point, in W. -/
def wattOf (p : Point) : Int := low32 p.val

/-- Whether a generator counts at its last good P (R364). -/
def State.genDoubt (s : State) (g : Nat) : Bool := (s.genP g).q != 0 || (s.genOnline g).q != 0

/-- Capacity and load a generator adds, in W (R364). -/
def State.genAdds (s : State) (g : Nat) : Int × Int :=
  if !wBit (s.genRecord g) 0 0 then (0, 0)
  else if s.genDoubt g then let p := SMap.get 0 g s.ph.lastP; (p, p)
  else if (s.genOnline g).val = 1 then (((genCapacity (s.genRecord g)) * 1000 : Nat), wattOf (s.genP g))
  else (0, 0)

/-- The last good P of every generator kept. -/
def State.keepP (s : State) : State :=
  (upFrom 0 16).foldl (fun s g =>
    if wBit (s.genRecord g) 0 0 && !s.genDoubt g then
      let v := if (s.genOnline g).val = 1 then wattOf (s.genP g) else 0
      { s with ph := { s.ph with lastP := SMap.set 0 g v s.ph.lastP } }
    else s) s

/-- Load fraction and Q fraction of a generator in 0.01 % of its rating. -/
def State.genFraction (s : State) (g : Nat) (v : Int) : Int :=
  let rating := wBits (s.genRecord g) 4 19 0
  if rating = 0 then 0 else v * 10 / (rating : Nat)

/-- The load-sharing points of every generator (R348, channels 8 to 23). -/
def State.sharePoints (s : State) : State :=
  let on := (upFrom 0 16).filter fun g => wBit (s.genRecord g) 0 0 && (s.genOnline g).val == 1 && !s.genDoubt g
  let mean := fun (f : Nat → Int) => if on.isEmpty then 0 else (on.map f).foldl (fun a b : Int => a + b) 0 / (on.length : Nat)
  let mp := mean fun g => s.genFraction g (wattOf (s.genP g))
  let mq := mean fun g => s.genFraction g (wattOf (s.genQ g))
  (upFrom 0 16).foldl (fun s' g =>
    if !wBit (s.genRecord g) 0 0 then s'
    else
      let p := wattOf (s.genP g)
      let q := wattOf (s.genQ g)
      s'.setPhPoints (8 + g) 0 (if s.genDoubt g then 2 else 0)
        [p, q, s.genFraction g p, s.genFraction g p - mp, s.genFraction g q - mq, if on.contains g then 1 else 0]) s

/-- The reserved capacity R, kW. -/
def State.reserved (s : State) : Nat :=
  (s.ph.slots.map fun x => match x.2.resv with | some (_, d) => d | none => 0).foldl (· + ·) 0

/-- C and L of an evaluation, kW. -/
def State.capacity (s : State) : Int :=
  ((upFrom 0 16).map fun g => (s.genAdds g).1).foldl (fun a b : Int => a + b) 0 / 1000
def State.load (s : State) : Int :=
  ((upFrom 0 16).map fun g => (s.genAdds g).2).foldl (fun a b : Int => a + b) 0 / 1000

/-- S, C and R shown in the registers and in the points of channel 7. -/
def State.showGust (s : State) : State :=
  let cap := s.capacity
  let r := s.reserved
  let spare := cap - s.load - r
  let s1 := ((s.setReg Reg.PH_GSPARE (wordOf spare)).put Fld.PH_GCAP_reserved (min r 0xFFFF)).put
    Fld.PH_GCAP_online (min cap.toNat 0xFFFF)
  s1.setPhPoints 7 0 0 [spare, cap, r, s1.gust, s1.fld Fld.PH_GSTEP_step]

/-- The waiting requests in grant order: priority, then the earliest taken, then the lowest slot (R366). -/
def State.grantOrder (s : State) : List Nat :=
  let ws := (upFrom 0 64).filter fun r => (s.gslot r).state == rqWaiting && !reqRestartOnly (s.reqRec r)
  sortBy (fun a b =>
    let pa := reqPriority (s.reqRec a)
    let pb := reqPriority (s.reqRec b)
    let oa := (s.gslot a).order
    let ob := (s.gslot b).order
    decide (pa < pb) || (pa == pb && (decide (oa < ob) || (oa == ob && decide (a ≤ b))))) ws

/-- A request granted: its demand reserved for its hold time (R366). -/
def State.grant (s : State) (r : Nat) : State :=
  let x := s.gslot r
  let c := s.reqRec r
  let s1 := s.putGslot r { x with
    state := rqGranted, count := (x.count + 1) % 256, resv := some (s.time + reqHold c, reqDemand c) }
  ({ s1 with ph := { s1.ph with lastGrant := some s1.time } }).bump Fld.PH_GCNT_grants

/-- Spare capacity as the last evaluation left it. -/
def State.spare (s : State) : Int := s.capacity - s.load - (s.reserved : Nat)

/-- Grant spacing in ns (R366, R370). -/
def State.grantSpacing (s : State) : Nat :=
  let v := wBits s.gustRec 1 15 0
  (if v = 0xFFFF then 500 else v) * 1000000

/-- The restart step from `k` on: the first that is enabled, or the end of the restart (R368). Its delay runs from now, which after a
step that timed out is the end of that timeout (DESIGN CHOICE, log entry 148). -/
def State.restartStep (s : State) (k : Nat) : State :=
  match (upFrom k (64 - k)).find? fun n => wBit (s.stepRec n) 0 0 with
  | some n => { s.put Fld.PH_GSTEP_step n with ph := { s.ph with stepReady := false, stepFrom := s.time } }
  | none =>
    { (s.put Fld.PH_GSTEP_step 0xFF).put Fld.PH_STAT_gust guNormal with ph := { s.ph with stepReady := false } }

/-- Kind of a forwarded item with the state of the gust guard (R369). -/
def fwGust : Nat := 8

/-- The gust guard's state as it is forwarded: state and step, then each slot that is not fresh. -/
def State.gustWords (s : State) : List Word :=
  let lg := s.ph.lastGrant.getD 0
  [wd (s.gust + s.fld Fld.PH_GSTEP_step * 256 + 65536 * b1 s.ph.stepReady + 131072 * b1 s.ph.lastGrant.isSome),
   lo32 lg, hi32 lg, lo32 s.ph.stepFrom, hi32 s.ph.stepFrom] ++
  s.ph.slots.flatMap fun (r, x) =>
    let (e, d) := x.resv.getD (0, 0)
    [wd (r + x.state * 256 + x.count * 65536 + x.seq * 2 ^ 24), wd (x.order * 4 + 2 * b1 x.seqTaken + b1 x.resv.isSome),
     lo32 e, hi32 e, wd d]

/-- The slots of a forwarded gust state. -/
def gustSlots : Nat → List Word → List (Nat × GustSlot)
  | 0, _ => []
  | n + 1, a :: b :: c :: d :: e :: ws =>
    (bits a 7 0, { state := bits a 15 8, count := bits a 23 16, seq := bits a 31 24,
                   order := bits b 31 2, seqTaken := bit b 1,
                   resv := if bit b 0 then some (c.toNat + d.toNat * 2 ^ 32, e.toNat) else none }) :: gustSlots n ws
  | _, _ => []

/-- A forwarded gust state taken by the leeward module (R369). -/
def State.takeGust (s : State) (ws : List Word) : State :=
  let w := wAt ws 0
  let slots := gustSlots 64 (ws.drop 5)
  let s1 := (s.put Fld.PH_STAT_gust (bits w 1 0)).put Fld.PH_GSTEP_step (bits w 15 8)
  let s2 := { s1 with ph := { s1.ph with
    slots := [], stepReady := bit w 16, stepFrom := (wAt ws 3).toNat + (wAt ws 4).toNat * 2 ^ 32,
    lastGrant := if bit w 17 then some ((wAt ws 1).toNat + (wAt ws 2).toNat * 2 ^ 32) else none } }
  slots.foldl (fun s x => s.putGslot x.1 x.2) s2

/-- An evaluation of the gust guard (R364, R366, R368). -/
def State.gustEvaluation (s : State) : State :=
  if !wBit s.gustRec 0 0 || !s.windward then s
  else
    let s1 := s.keepP
    let s2 := s1.ph.slots.foldl (fun s x => match x.2.resv with
      | some (e, _) => if e ≤ s.time then s.putGslot x.1 { x.2 with resv := none, state := rqIdle } else s
      | none => s) s1
    let s3 :=
      if s2.gust = guNormal then
        let spaced := match s2.ph.lastGrant with | some t => decide (t + s2.grantSpacing ≤ s2.time) | none => true
        match s2.grantOrder with
        | r :: _ =>
          let s' := s2.put Fld.PH_GSTEP_first r
          if spaced && decide ((reqDemand (s2.reqRec r) : Int) ≤ s2.spare) then s'.grant r else s'
        | [] => s2.put Fld.PH_GSTEP_first 0
      else if s2.gust = guRestart ∧ s2.ph.stepReady = true then
        let k := s2.fld Fld.PH_GSTEP_step
        let r := wBits (s2.stepRec k) 0 6 1
        if (reqDemand (s2.reqRec r) : Int) ≤ s2.spare then (s2.grant r).restartStep (k + 1) else s2
      else s2
    let s4 := s3.sharePoints.showGust
    s4.forward fwGust s4.gustWords

/-- A REQ item taken (R365). -/
def State.takeReq (s : State) (r : Nat) (w : Word) : State :=
  let x := s.gslot r
  let c := s.reqRec r
  let seq := bits w 7 0
  if (x.seqTaken && x.seq == seq) || !wBit c 0 0 then s
  else
    let x1 := { x with seq := seq, seqTaken := true }
    if bit w 8 then
      if x.state = rqWaiting ∨ x.state = rqGranted then s.putGslot r x1
      else if s.gust = guBlackout then s.putGslot r { x1 with state := rqBlocked }
      else
        let all := ((upFrom 0 16).map fun g =>
          if wBit (s.genRecord g) 0 0 then genCapacity (s.genRecord g) else 0).foldl (· + ·) 0
        if all < reqDemand c then s.putGslot r { x1 with state := rqRefused }
        else
          let s1 := s.putGslot r { x1 with state := rqWaiting, order := s.ph.nextOrder }
          { s1 with ph := { s1.ph with nextOrder := s1.ph.nextOrder + 1 } }
    else if x.state = rqWaiting ∨ x.state = rqGranted then
      s.putGslot r { x1 with state := rqIdle, resv := none }
    else s.putGslot r x1

/-- A REQ item published with its word and taken in the same clock (R365). -/
def State.reqItem (s : State) (r : Nat) (w : Word) : State :=
  (s.publish (gustItem r 0) (w.setWidth 64)).takeReq r w

/-- BLACKOUT entered (R367): the clock moves on to the end of the blackout time. -/
def State.blackout (s0 : State) : State :=
  let r := s0.gustRec
  if !wBit r 0 0 || !s0.windward || s0.gust == guBlackout || !s0.busBelow (lowPct r) then s0
  else
    let s := s0.runUntil (s0.ph.lowSince.getD s0.time + blackoutTime r)
    let s1 := ((s.put Fld.PH_STAT_gust guBlackout).put Fld.PH_GSTEP_step 0xFF).bump Fld.PH_GCNT_blackouts
    let s2 := s1.ph.slots.foldl (fun s x =>
      let st := if x.2.state = rqWaiting ∨ x.2.state = rqGranted then rqBlocked else x.2.state
      s.putGslot x.1 { x.2 with state := st, resv := none }) s1
    let s3 := s2.showGust
    s3.forward fwGust s3.gustWords

/-- The live time ends: RESTART at step 0 (R367, R368). The clock moves on to its end. -/
def State.liveRestart (s0 : State) : State :=
  let r := s0.gustRec
  if !wBit r 0 0 || !s0.windward || s0.gust != guBlackout || s0.busBelow (livePct r) then s0
  else
    let s := s0.runUntil (s0.ph.liveSince.getD s0.time + liveTime r)
    let s1 := s.put Fld.PH_STAT_gust guRestart
    let s2 := s1.ph.slots.foldl (fun s x =>
      if x.2.state = rqBlocked then s.putGslot x.1 { x.2 with state := rqIdle } else s) s1
    let s3 := (s2.restartStep 0).showGust
    s3.forward fwGust s3.gustWords

/-- Station time at which the delay of the restart step in progress runs out (R368). -/
def State.delayEnd (s : State) : Nat :=
  s.ph.stepFrom + wBits (s.stepRec (s.fld Fld.PH_GSTEP_step)) 1 15 0 * 1000000

/-- The delay of the restart step in progress runs out: the clock moves on to that instant, and the step waits for capacity (R368). -/
def State.stepDelay (s : State) : State :=
  if s.gust = guRestart ∧ s.windward = true then
    let s1 := s.runUntil s.delayEnd
    { s1 with ph := { s1.ph with stepReady := true } }
  else s

/-- The timeout of the restart step in progress (R368), which runs from the end of its delay (DESIGN CHOICE, log entry 148): the clock
moves on to that instant. -/
def State.stepTimeout (s0 : State) : State :=
  if s0.gust = guRestart ∧ s0.windward = true then
    let k := s0.fld Fld.PH_GSTEP_step
    let s := s0.runUntil (s0.delayEnd + wBits (s0.stepRec k) 2 15 0 * 1000000000)
    let s1 := (s.bump Fld.PH_GCNT_timeouts).record 9 368 k 0 0 0xFF []
    let s2 := if wBit (s.stepRec k) 0 7 then s1.restartStep 64 else s1.restartStep (k + 1)
    let s3 := s2.showGust
    s3.forward fwGust s3.gustWords
  else s0

/-! ### Records taken at a boundary (R370) -/

/-- A PH record takes effect. -/
def State.applyPhRec (s : State) (i : Nat) : State :=
  if i = 0x40 then
    let s := { s with ph := { s.ph with lowSince := none, liveSince := none } }
    if wBit s.gustRec 0 0 then (if s.gust = guOff then (s.put Fld.PH_STAT_gust guNormal).showGust else s)
    else ((s.put Fld.PH_STAT_gust guOff).put Fld.PH_GSTEP_step 0xFF).showGust
  else if 0x20 ≤ i ∧ i ≤ 0x21 then s.showSync (i - 0x20)
  else if 0x80 ≤ i ∧ i < 0xC0 then
    if wBit (s.reqRec (i - 0x80)) 0 0 then s.showGrant (i - 0x80)
    else s.putGslot (i - 0x80) { s.gslot (i - 0x80) with state := rqIdle, resv := none }
  else s

end Sys2Proof.Machine
end

