-- ==== Sys2Proof/Machine/NetworkTime.lean ====
section
/-! DEFINITION. Network time (R372 to R392): the states of the time unit, references, the best master clock, the
servo, refused steps, holdover, commanded steps, PPS, and the time compares. -/

namespace Sys2Proof.Machine

/-! ### The time record (R392) -/

def State.timeRec (s : State) : List Word := s.rec_ 0x09 0
def State.cmpRec (s : State) (n : Nat) : List Word := s.rec_ 0x09 (0x100 + n)
/-- Jump threshold in ns, and loss time in ns. -/
def jumpThreshold (r : List Word) : Nat := (if wBits r 2 16 0 = 0 then 100 else wBits r 2 16 0) * 1000
def lossTime (r : List Word) : Nat := (if wBits r 3 5 0 = 0 then 3 else wBits r 3 5 0) * 1000000000
def ppsReference (r : List Word) : Bool := wBit r 4 0
def ppsFirst (r : List Word) : Bool := wBit r 4 1

/-- Codes of TU_STAT.state and of TU_STAT.ref. -/
def tsFreerun : Nat := 0
def tsAcquire : Nat := 1
def tsLocked : Nat := 2
def tsHoldover : Nat := 3
def tsRefused : Nat := 4
def refPps : Nat := 6
def refPartner : Nat := 7
def refNone : Nat := 15

def State.tuState (s : State) : Nat := s.fld Fld.TU_STAT_state
def State.tuRef (s : State) : Nat := s.fld Fld.TU_STAT_ref

/-- The rate in force: the learned correction plus a slew, within ±200 ppm (R372, R378). -/
def State.setRate (s : State) (slew : Int) : State :=
  (s.setReg Reg.TU_RATE (wordOf (clampI (-200000000) 200000000 (s.tu.learned + slew))))

/-! ### References (R374, R391) -/

/-- Modules in STANDBY and RESYNC follow their partner alone (R391). -/
def State.followsPartner (s : State) : Bool := s.mode == mStandby || s.mode == mResync

/-- Whether a reference is a candidate: PTP ports in SLAVE state, PPS when enabled, or the partner. -/
def State.candidate (s : State) (ref : Nat) : Bool :=
  if s.followsPartner then ref == refPartner
  else if ref < 6 then
    wBit s.timeRec 0 0 && wBit s.timeRec 1 ref && s.fld (Fld.TU_PORTSTAT_state ref) == 9
  else ref == refPps && ppsReference s.timeRec

/-- Whether a candidate is present: it has measured within the loss time. -/
def State.refPresent (s : State) (ref : Nat) : Bool :=
  s.candidate ref && match SMap.get none ref s.tu.seen with
    | some (t, _) => decide (s.time < t + lossTime s.timeRec)
    | none => false

/-- The candidates in the record's order. -/
def State.refOrder (s : State) : List Nat :=
  if s.followsPartner then [refPartner]
  else if ppsFirst s.timeRec then refPps :: upFrom 0 6 else upFrom 0 6 ++ [refPps]

/-- HOLDOVER entered (R381). -/
def State.enterHoldover (s : State) : State :=
  let s1 := ((s.put Fld.TU_STAT_state tsHoldover).flag Fld.TU_STAT_slewing false).setRate 0
  let s2 := ((s1.flag Fld.TU_STAT_holdover true).flag Fld.SYS_STAT_holdover true).bump Fld.TU_CNT_holdover
  let s3 := { (s2.setReg Reg.TU_HOLD 0) with tu := { s2.tu with
    holdFrom := s2.time, warmAtEntry := s2.isSet Fld.SYS_STAT_osc_warm, bound := none, okSince := none } }
  (s3.fire 6).notify 0x0680 none [1]

/-- The reference in force chosen again (R374): it stays while it is a candidate, present and not refused.
`lost` says that it is lost. Without another candidate a lost reference means HOLDOVER. -/
def State.selectRef (s : State) (lost : Bool) : State :=
  let cur := s.tuRef
  let up := cur != refNone && !lost && s.refPresent cur
  if up && s.tu.barred != some cur then s
  else
    match s.refOrder.find? fun r => r != cur && s.tu.barred != some r && s.refPresent r with
    | some r => { s.put Fld.TU_STAT_ref r with tu := { s.tu with outRun := 0, firsts := [], refFrom := s.time } }
    | none =>
      if up then s
      else if lost && (s.tuState == tsAcquire || s.tuState == tsLocked || s.tuState == tsRefused) then
        (s.put Fld.TU_STAT_ref refNone).enterHoldover
      else if lost then s.put Fld.TU_STAT_ref refNone
      else s

/-! ### Compares (R387 to R390) -/

def State.cmp (s : State) (n : Nat) : Cmp := SMap.get {} n s.tu.cmps
def State.setCmp (s : State) (n : Nat) (x : Cmp) : State :=
  { s with tu := { s.tu with cmps := SMap.set {} n x s.tu.cmps } }
def cmpEn (r : List Word) : Bool := wBit r 0 0
def cmpPeriodic (r : List Word) : Bool := wBit r 0 1
def cmpPolicy (r : List Word) : Nat := wBits r 0 3 2
def cmpPeriod (r : List Word) : Nat := max 1 (wBits r 1 30 0)
def cmpPhase (r : List Word) : Nat := wBits r 2 30 0
/-- Items of a compare: 0 TCMP, 1 TCSTAT. -/
def cmpItem (n item : Nat) : Nat := itemKey 8 (0x100 + n) item

/-- A compare's status shown to its owner. -/
def State.showCmp (s : State) (n : Nat) : State :=
  s.setPoint (cmpItem n 1) (s.reg (Reg.TU_CMPCTL n)).toNat 0

/-- The last grid point at or before a time, and the first one after it (R388). -/
def lastGrid (r : List Word) (t : Nat) : Nat :=
  let p := cmpPeriod r
  t - (t + p - cmpPhase r % p) % p
def nextGrid (r : List Word) (t : Nat) : Nat :=
  let p := cmpPeriod r
  t + p - (t + p - cmpPhase r % p) % p

/-- Compare `n` fires: its source and its fired bit. -/
def State.fireCmp (s : State) (n : Nat) : State :=
  ((s.putBit Fld.TU_CMPFIRED_fired n true).showCmp n).fire (8 + n)

/-- A late one-shot compare (R387, R389). -/
def State.lateCmp (s : State) (n : Nat) : State :=
  let s1 := (s.flag (Fld.TU_CMPCTL_armed n) false)
  if cmpPolicy (s.cmpRec n) = 0 then
    ((s1.flag (Fld.TU_CMPCTL_late n) true).flag (Fld.TU_CMPCTL_dropped n) false).fireCmp n
  else (s1.flag (Fld.TU_CMPCTL_dropped n) true).showCmp n

/-- A TCMP item taken (R387, R390): when its sequence differs from the last one taken. -/
def State.takeCmp (s : State) (n : Nat) (w : Word64) : State :=
  let r := s.cmpRec n
  let x := s.cmp n
  let seq := w.toNat / 2 ^ 32 % 256
  let off := w.getLsbD 40
  if !cmpEn r || (x.seqTaken && s.fld (Fld.TU_CMPCTL_seq n) == seq) then s
  else
    let s1 := (s.put (Fld.TU_CMPCTL_seq n) seq).setCmp n { x with seqTaken := true }
    if cmpPeriodic r then (s1.flag (Fld.TU_CMPCTL_suspended n) off).showCmp n
    else if off then (s1.flag (Fld.TU_CMPCTL_armed n) false).showCmp n
    else
      let t := w.toNat % 2 ^ 32
      let d := signed 32 ((t + 2 ^ 32 - s.time % 2 ^ 32) % 2 ^ 32)
      if 2100000000 < d.natAbs then (s1.flag (Fld.TU_CMPCTL_window n) true).showCmp n
      else
        let s2 := (s1.flag (Fld.TU_CMPCTL_window n) false).setReg (Reg.TU_CMPT n) (wd t)
        if 0 < d then
          ((s2.setCmp n { s2.cmp n with target := s.time + d.toNat }).flag (Fld.TU_CMPCTL_armed n) true).showCmp n
        else s2.lateCmp n

/-- A TCMP item published with its value and taken in the same clock. -/
def State.cmpItemTaken (s : State) (n : Nat) (w : Word64) : State := (s.publish (cmpItem n 0) w).takeCmp n w

/-- An armed one-shot compare reaches its target (R387): the clock moves on to it. -/
def State.cmpReached (s : State) (n : Nat) : State :=
  if !s.isSet (Fld.TU_CMPCTL_armed n) then s
  else
    let s1 := s.runUntil (s.cmp n).target
    ((s1.flag (Fld.TU_CMPCTL_armed n) false).flag (Fld.TU_CMPCTL_late n) false).fireCmp n

/-- A periodic compare reaches its next grid point (R388): the clock moves on to it. -/
def State.gridReached (s : State) (n : Nat) : State :=
  let r := s.cmpRec n
  if !cmpEn r || !cmpPeriodic r || s.isSet (Fld.TU_CMPCTL_suspended n) then s
  else
    let from_ := match (s.cmp n).lastGrid with | some g => max g (s.time - 1) | none => s.time - 1
    let g := nextGrid r from_
    let s1 := s.runUntil g
    (((s1.setCmp n { s1.cmp n with lastGrid := some g }).setReg (Reg.TU_CMPT n) (lo32 (g + cmpPeriod r))).flag
      (Fld.TU_CMPCTL_late n) false).fireCmp n

/-- Compares at a step or an initial setting of station time from `old` to the present time (R383, R389). -/
def State.stepCompares (s : State) (old : Nat) (initial : Bool) : State :=
  (upFrom 0 32).foldl (fun s n =>
    let r := s.cmpRec n
    let x := s.cmp n
    if !cmpEn r then s
    else if cmpPeriodic r then
      if old < s.time then
        let g := lastGrid r s.time
        let s1 := s.setReg (Reg.TU_CMPT n) (lo32 (nextGrid r s.time))
        if old < g && !s.isSet (Fld.TU_CMPCTL_suspended n) then
          if cmpPolicy r = 0 then
            (((s1.setCmp n { x with lastGrid := some g }).flag (Fld.TU_CMPCTL_late n) true).flag
              (Fld.TU_CMPCTL_dropped n) false).fireCmp n
          else (s1.flag (Fld.TU_CMPCTL_dropped n) (cmpPolicy r == 2)).showCmp n
        else s1
      else s.setReg (Reg.TU_CMPT n) (lo32 (nextGrid r (max s.time (x.lastGrid.getD 0))))
    else if !s.isSet (Fld.TU_CMPCTL_armed n) then s
    else if initial then ((s.flag (Fld.TU_CMPCTL_armed n) false).flag (Fld.TU_CMPCTL_window n) true).showCmp n
    else if x.target ≤ s.time then s.lateCmp n
    else if s.time + 2100000000 < x.target then
      ((s.flag (Fld.TU_CMPCTL_armed n) false).flag (Fld.TU_CMPCTL_window n) true).showCmp n
    else s) s

/-- A compare record takes effect (R387, R388, R392): a change disarms a one-shot compare without firing,
and a periodic compare runs with its new values from the boundary. -/
def State.applyCmpRec (s : State) (n : Nat) (old : List Word) : State :=
  let r := s.cmpRec n
  let per := cmpEn r && cmpPeriodic r
  if old == r then s
  else
    let s1 := ((((s.flag (Fld.TU_CMPCTL_en n) (cmpEn r)).flag (Fld.TU_CMPCTL_periodic n) per).flag
      (Fld.TU_CMPCTL_armed n) false).flag (Fld.TU_CMPCTL_suspended n)
      (per && s.isSet (Fld.TU_CMPCTL_suspended n))).setCmp n { s.cmp n with lastGrid := none }
    (if per then s1.setReg (Reg.TU_CMPT n) (lo32 (nextGrid r (s.time - 1))) else s1).showCmp n

/-! ### The servo, refused steps, holdover (R378 to R383) -/

/-- An accepted measurement steers the servo (R378). The loop's gains are not in the manual: the slew it asks
and the correction it learns are free values within the limits. -/
def State.steer (s : State) (offset : Int) : State :=
  let ask := Config.servoSlew offset s.tu.learned
  let slew := clampI (-100000000) 100000000 ask
  let learned := clampI (-100000000) 100000000 (Config.servoLearn offset s.tu.learned)
  let s1 := { s with tu := { s.tu with
    learned := learned, outRun := 0, lastAcc := s.time,
    okSince := if offset.natAbs < 1000 then some (s.tu.okSince.getD s.time) else none } }
  ((s1.setReg Reg.TU_OFFSET (wordOf (sat32 offset))).flag Fld.TU_STAT_slewing (ask != slew)).setRate slew

/-- The kind-5 domains brought to the present clock before station time steps. -/
def State.runStationDomains (s : State) : State :=
  (upFrom 0 8).foldl (fun s d => if domEn (s.domRec d) && domKind (s.domRec d) == 5 then s.runDom d else s) s

/-- Station time set by `offset`, with what that does to domains and compares (R383, R384). -/
def State.moveTime (s : State) (offset : Int) (initial : Bool) : State :=
  let old := s.time
  let s0 := s.runStationDomains
  let s1 := { s0 with
    time := ((s.time : Int) + offset).toNat % 2 ^ 64, tu := { s0.tu with ppsLast := none, outRun := 0, firsts := [] } }
  s1.stepDomains.stepCompares old initial

/-- The initial setting (R383). -/
def State.initialSetting (s : State) (offset : Int) : State :=
  let s1 := s.moveTime offset true
  let s2 := (s1.flag Fld.TU_STAT_valid true).put Fld.TU_STAT_state tsAcquire
  { s2 with tu := { s2.tu with lastAcc := s2.time, bound := none, okSince := none } }

/-- A refused step declared (R379). In HOLDOVER the state stays (R382). -/
def State.refuseStep (s : State) (offset : Int) : State :=
  let s1 := if s.tuState = tsHoldover then s else s.put Fld.TU_STAT_state tsRefused
  let s2 := ((s1.flag Fld.TU_STAT_refused true).flag Fld.TU_STAT_slewing false).setRate 0
  let s3 := ((s2.setReg Reg.TU_REFUSED (wordOf (sat32 offset))).bump Fld.TU_CNT_refused)
  let s4 := { s3 with tu := { s3.tu with barred := some s3.tuRef, bound := none, okSince := none } }
  let v := unsigned 64 offset
  (((s4.fire 7).notify 0x0681 none [hi32 v, lo32 v]).record 6 379 s4.tuRef 0 0 0xFF [hi32 v, lo32 v]).selectRef false

/-- The return bound (R382): the threshold plus the drift bound times the time since the last accepted
measurement. -/
def State.returnBound (s : State) : Nat :=
  jumpThreshold s.timeRec + (if s.tu.warmAtEntry then 20000 else 200000) * (s.time - s.tu.lastAcc) / 3600000000000

/-- HOLDOVER or REFUSED left for ACQUIRE (R380, R382). -/
def State.returnToReference (s : State) : State :=
  let hold := s.tuState == tsHoldover
  let s1 := (s.flag Fld.TU_STAT_refused false).put Fld.TU_STAT_state tsAcquire
  let s2 := { s1 with tu := { s1.tu with
    bound := if hold then some s.returnBound else none, barred := none, okSince := none } }
  if hold then
    (((s2.flag Fld.TU_STAT_holdover false).flag Fld.SYS_STAT_holdover false).setReg Reg.TU_HOLD
      (wd ((s.time - s.tu.holdFrom) / 1000000000))).notify 0x0680 none [0]
  else s2

/-- A measurement of reference `ref` (R374, R378 to R383): only the reference in force steers. -/
def State.measure (s : State) (ref : Nat) (offset : Int) : State :=
  let s0 := { s with tu := { s.tu with seen := SMap.set none ref (some (s.time, offset)) s.tu.seen } }
  let s1 := s0.selectRef false
  if s1.tuRef != ref then s1
  else if s1.tuState = tsFreerun then
    let xs := (offset :: s1.tu.firsts).take 3
    let near := fun (a b : Int) => decide ((a - b).natAbs ≤ 1000)
    let s2 := { s1 with tu := { s1.tu with firsts := xs } }
    match xs with
    | [a, b, c] => if near a b && near b c && near a c then s2.initialSetting offset else s2
    | _ => s2
  else
    let thr :=
      if s1.tuState = tsHoldover then s1.returnBound
      else if s1.tuState = tsAcquire then s1.tu.bound.getD (jumpThreshold s1.timeRec)
      else jumpThreshold s1.timeRec
    if thr < offset.natAbs then
      let n := s1.tu.outRun + 1
      let s2 := { s1.bump Fld.TU_CNT_outlier with tu := { s1.tu with outRun := n } }
      if 3 ≤ n ∧ s1.isSet Fld.TU_STAT_refused = false then s2.refuseStep offset else s2
    else if s1.tuState = tsHoldover ∨ s1.tuState = tsRefused then (s1.returnToReference).steer offset
    else s1.steer offset

/-- What is added to a port's ingress timestamps (R377): its stated correction and the integrator's asymmetry. -/
def State.ingressShift (s : State) (port : Nat) : Int :=
  signed 16 (s.fld (Fld.TU_PORTCORR_ingress port)) + wInt (s.rec_ 0x09 (0x10 + port)) 0

/-- A measurement at a PTP port (R376 to R378): its path delay, and its offset as the timestamps at the MAC give it, from which a later
ingress timestamp takes off what it is later by. -/
def State.ptpMeasure (s : State) (port : Nat) (offset : Int) (delay : Nat) : State :=
  let s1 := s.put (Fld.TU_PORTSTAT_delay port) (min delay (2 ^ 24 - 1))
  if wBit s.timeRec 0 0 && wBit s.timeRec 1 port then s1.measure port (offset - s.ingressShift port) else s1

/-- Station time at which the reference in force is lost (R381): the loss time after its last accepted measurement, in REFUSED after its
last one. -/
def State.lossAt (s : State) : Nat :=
  let last := match SMap.get none s.tuRef s.tu.seen with | some (t, _) => t | none => 0
  (if s.tuState = tsRefused then last else max s.tu.lastAcc s.tu.refFrom) + lossTime s.timeRec

/-- The reference in force has given no measurement for the loss time (R381): the clock moves on to its end. -/
def State.referenceLost (s0 : State) : State :=
  let s := s0.runUntil s0.lossAt
  if s0.tuRef = refNone then s0
  else ({ s with tu := { s.tu with seen := SMap.set none s.tuRef none s.tu.seen } }).selectRef true

/-- LOCKED after 10 s below 1 µs (R373): the clock moves on to their end. -/
def State.lockAchieved (s0 : State) : State :=
  match s0.tu.okSince with
  | some t =>
    if s0.tuState = tsAcquire then
      let s := s0.runUntil (t + 10000000000)
      { s.put Fld.TU_STAT_state tsLocked with tu := { s.tu with bound := none } }
    else s0
  | none => s0

/-- The joining module takes its time from the windward module in phase 1, as an initial setting (R391): by the last offset that a
heartbeat gave it. A module whose time is set already keeps steering by it (DESIGN CHOICE, log entry 149). -/
def State.joinTime (s : State) : State :=
  match SMap.get none refPartner s.tu.seen with
  | some (_, o) => if s.tuState = tsFreerun then (s.put Fld.TU_STAT_ref refPartner).initialSetting o else s
  | none => s

/-! ### Best master clock (R374 to R376) -/

/-- Whether announced clock `a` is better than `b`: the dataset comparison of IEEE 1588. -/
def Announce.better (a b : Announce) : Bool :=
  let ka := [a.priority1, a.clockClass, a.accuracy, a.variance, a.priority2, a.identity, a.steps]
  let kb := [b.priority1, b.clockClass, b.accuracy, b.variance, b.priority2, b.identity, b.steps]
  (ka.zip kb).foldr (fun p rest => decide (p.1 < p.2) || (p.1 == p.2 && rest)) false

/-- This module's own clock (R375). -/
def State.ownClock (s : State) : Announce :=
  let r := s.timeRec
  { priority1 := wBits r 0 18 11, clockClass := 248, accuracy := 0xFE, variance := Config.clockVariance,
    priority2 := wBits r 0 26 19, identity := Config.clockIdentity, steps := 0 }

/-- Port states decided again: the port that hears the best clock is SLAVE, the others PASSIVE, or MASTER
where this module's own clock is the best; a port without link is FAULTY. -/
def State.bestMaster (s : State) : State :=
  let heard := (upFrom 0 6).filterMap fun p => match SMap.get none p s.tu.announces with
    | some a => some (p, a)
    | none => none
  let best := heard.foldl (fun (b : Option (Nat × Announce)) x => match b with
    | none => some x
    | some y => if x.2.better y.2 then some x else some y) none
  let s1 := (upFrom 0 6).foldl (fun s p =>
    let on := wBit s.timeRec 0 0 && wBit s.timeRec 1 p
    let st :=
      if !on then 3
      else if p < 4 && !s.isSet (Fld.ETH_PSTAT_link p) then 2
      else match best with
        | none => if wBit s.timeRec 0 1 && !s.followsPartner then 6 else 4
        | some (bp, a) =>
          if s.followsPartner then 4
          else if wBit s.timeRec 0 1 && s.ownClock.better a then 6
          else if bp == p then 9
          else if (heard.find? fun x => x.1 == p).isSome then 7
          else if wBit s.timeRec 0 1 then 6 else 4
    s.put (Fld.TU_PORTSTAT_state p) st) s
  match best with
  | some (_, a) => ((s1.flag Fld.TU_UTCOFF_valid a.utcValid).put Fld.TU_UTCOFF_utc a.utcOffset).selectRef false
  | none => s1.selectRef false

/-- An Announce message at a port (R374, R375). -/
def State.takeAnnounce (s : State) (port : Nat) (a : Announce) : State :=
  ({ s with tu := { s.tu with announces := SMap.set none port (some a) s.tu.announces } }).bestMaster

/-! ### Steps and PPS (R384 to R386) -/

/-- A TIME_STEP takes effect at its boundary (R384). The argument −2^63 asks for the last measured offset
of the reference in force. -/
def State.applyTimeStep (s : State) (arg : Int) : State :=
  let last := match SMap.get none s.tuRef s.tu.seen with | some (_, o) => o | none => 0
  let ns := if arg = -2 ^ 63 then last else arg
  let old := s.time
  let s1 := s.moveTime ns false
  let s2 := (s1.flag Fld.TU_STAT_refused false)
  let s3 := { s2 with tu := { s2.tu with barred := none } }
  let s4 :=
    if s3.tuState = tsFreerun then s3
    else if s3.tuRef != refNone then s3.returnToReference
    else if s3.tuState = tsRefused then s3.put Fld.TU_STAT_state tsAcquire
    else s3
  s4.record 6 384 0 0 0 0xFF [hi32 (unsigned 64 ns), lo32 (unsigned 64 ns), hi32 old, lo32 old, hi32 s4.time, lo32 s4.time]

/-- Width of the PPS output, ms (R385). -/
def ppsWidth (r : List Word) : Nat := if wBits r 5 8 0 = 0 then 100 else wBits r 5 8 0

/-- PPS output rises at a whole second, for its width (R385). -/
def State.ppsOutput (s : State) : State :=
  if !wBit s.timeRec 5 16 || s.tuState == tsFreerun then s
  else
    let next := (s.time + 999999999) / 1000000000 * 1000000000
    let t := match s.tu.ppsOut with
      | some p => if next ≤ p then p + 1000000000 else next
      | none => next
    let s1 := s.runUntil t
    (({ s1 with tu := { s1.tu with ppsOut := some t } }).send .pps 385 [hi32 t, lo32 t, wd (ppsWidth s.timeRec)]).fire 5

/-- A PPS input edge timestamped `ts` (R386). -/
def State.ppsInput (s : State) (ts : Nat) : State :=
  let sec := (ts + 500000000) / 1000000000
  let err : Int := (ts : Int) - (sec * 1000000000 : Nat)
  let s1 := (((s.putSplit Reg.TU_PPSIN_HI Reg.TU_PPSIN_LO ts).setReg Reg.TU_PPSERR (wordOf err)).fire 4)
  let s2 := { s1 with tu := { s1.tu with ppsLast := some ts } }
  if !ppsReference s.timeRec then s2
  else
    let off := match s.tu.ppsLast with
      | some p => decide (((ts : Int) - p - 1000000000).natAbs ≤ 100000)
      | none => true
    if !off then s2.bump Fld.TU_CNT_outlier
    else if wBit s.timeRec 4 4 then
      match s.tu.zda with
      | some (z, tz) =>
        let k := z + (ts - tz + 999999999) / 1000000000
        s2.measure refPps (((k - s.fld Fld.TU_UTCOFF_utc : Nat) * 1000000000 : Nat) - (ts : Int))
      | none => s2
    else if s.isSet Fld.TU_STAT_valid then s2.measure refPps (-err)
    else s2

/-- A time record takes effect (R392). -/
def State.applyTimeRec (s : State) : State := (s.bestMaster).selectRef false

end Sys2Proof.Machine
end

