-- ==== Sys2Proof/Machine/Recorder.lean ====
section
/-! DEFINITION. The event recorder (R496 to R506): records, staging, the ring in MRAM, merging of repeats, freeze and
release, and the scan at boot. -/

namespace Sys2Proof.Machine

/-- Address of ring slot `n` (R496). -/
def evSlot (n : Nat) : Nat := 0x800000000 + n % 65536 * 128
def State.evValid (s : State) (n : Nat) : Bool := s.word (evSlot n + 124) == 0x45565244
/-- The words of a slot. -/
def State.evWords (s : State) (n : Nat) : List Word := s.words (evSlot n) 32

/-- What EVR_STAT, EVR_NEWEST, EVR_SEQ and EVR_RDIDX show, and the one notification of the high-water mark
(R505). -/
def State.showEvr (s : State) : State :=
  let unread := ((s.reg Reg.EVR_SEQ) - s.evr.readSeq).toNat
  let hi := decide (s.fld Fld.EVR_HIWATER_mark ≤ unread) && s.evr.readSeq != s.reg Reg.EVR_SEQ
  let s1 := ((((s.put Fld.EVR_STAT_staged s.evr.staging.length).flag Fld.EVR_STAT_hiwater hi).flag Fld.EVR_STAT_full
    (decide (16384 ≤ s.evr.staging.length))).flag Fld.EVR_STAT_timevalid (s.isSet Fld.TU_STAT_valid))
  if hi && !s1.evr.hwSent then
    ({ s1 with evr := { s1.evr with hwSent := true } }).notify 0x0580 none [wd (s1.fld Fld.EVR_NEWEST_slot), wd unread]
  else if hi then s1
  else { s1 with evr := { s1.evr with hwSent := false } }

/-- Words 0 to 30 of a record; `flags` is bit 28. Sequence and losses are those of the moment (R496). -/
def State.evRecWords (s : State) (kind count source time : Nat) (flag28 : Bool) (vals : List Word) : List Word :=
  let n := min 24 count
  let body := (vals.take n) ++ List.replicate (24 - (vals.take n).length) 0
  let st := s.fld Fld.TU_STAT_state
  let flags := b1 (!s.isSet Fld.TU_STAT_valid) + 2 * b1 (st == 3) + 4 * b1 (st == 4) + 8 * b1 (s.evr.lost != 0) +
    16 * b1 flag28
  [wd (kind % 256 + n * 256 + source % 65536 * 65536), s.evr.seq + 1, hi32 time, lo32 time,
   wd (flags * 2 ^ 24 + s.mode * 2 ^ 29), 0,
   wd (s.sys.node % 16384 + b1 s.windward * 16384 + min s.evr.lost 65535 * 65536)] ++ body

/-- Place in bank 13 of the staged record with a sequence (R20): 16 384 places of 128 B. -/
def stagingAddr (seq : Word) : Nat := 0x11A00000 + seq.toNat % 16384 * 128

/-- A record joins staging, or is dropped and counted where staging is full (R503). -/
def State.stageRecord (s : State) (kind count source time : Nat) (flag28 : Bool) (vals : List Word) : State :=
  if 16384 ≤ s.evr.staging.length then
    ({ s.bump Fld.EVR_CNT_lost with evr := { s.evr with lost := s.evr.lost + 1 } }).flag Fld.EVR_STAT_full true
  else
    let r := s.evRecWords kind count source time flag28 vals
    ({ s.setWords (stagingAddr (wAt r 1)) r with evr := { s.evr with
        staging := s.evr.staging ++ [r]
        seq := s.evr.seq + 1, lost := 0 } }).showEvr

/-! ### Merging (R502) -/

/-- Whether a trigger record of definition `d` merges into the record `old`. -/
def mergesInto (r : List Word) (d time : Nat) (vals old : List Word) : Bool :=
  let win := (if wBits r 2 15 0 = 0 then 1000 else wBits r 2 15 0) * 1000000
  let last := if wAt old 5 = 0 ∧ wBits old 4 23 0 = 0 then wAt old 3 else wAt old 5
  wBit r 0 8 && bits (wAt old 0) 7 0 == 0 && wBits old 0 31 16 == d && decide (((old.drop 7).take 24) = vals) &&
    decide ((lo32 time - last).toNat ≤ win) && decide (wBits old 4 23 0 < 0xFFFFFF)

/-- A definition's merge counted. -/
def State.countMerge (s : State) (d : Nat) : State :=
  (s.bump Fld.EVR_MERGED_merged).setEvDef d { s.evDef d with merged := satInc 16 (s.evDef d).merged }

/-- A trigger record: merged into the newest record, or staged. -/
def State.triggerRecord (s : State) (d time : Nat) (vals : List Word) : State :=
  let r := s.evRec d
  let n := wBits r 0 13 9
  let body := (vals.take n) ++ List.replicate (24 - (vals.take n).length) 0
  let fresh :=
    (s.stageRecord 0 n d time (s.evDef d).missedFlag vals).setEvDef d { s.evDef d with missedFlag := false }
  match s.evr.staging.getLast? with
  | some old =>
    if mergesInto r d time body old then
      let new := (old.set 5 (lo32 time)).set 4 (wAt old 4 + 1)
      ({ s.setWords (stagingAddr (wAt old 1)) new with evr := { s.evr with
        staging := s.evr.staging.dropLast ++ [new] } }).countMerge d
    else fresh
  | none =>
    let slot := s.fld Fld.EVR_NEWEST_slot
    if !s.isSet Fld.EVR_STAT_frozen && s.evValid slot && mergesInto r d time body (s.evWords slot) then
      let a := evSlot slot
      ((s.setWord (a + 20) (lo32 time)).setWord (a + 16) (s.word (a + 16) + 1)).countMerge d
    else fresh

/-- The capture of definition `d` ends with the values of its register entries, read in entry order, and its
record is made (R500). -/
def State.captureDone (s : State) (d : Nat) (regs : List (Nat × Word)) : State :=
  let x := s.evDef d
  match x.capture with
  | none => s
  | some c =>
    let vals := (c.vals.zipIdx).map fun e => match e.1 with
      | some w => w
      | none => match regs.find? fun q => q.1 == e.2 with | some q => q.2 | none => 0
    (s.setEvDef d { x with capture := none }).triggerRecord d c.time vals

/-! ### Messages (R501) -/

/-- The queue that carries station firmware's records to EVR (R22, R243, R501): an enabled one of partition 0 from the
management pair to EVR, the first of queues 0 to 511. -/
def State.evrQueue (s : State) : Option Nat :=
  ((s.cfg.filter fun e => decide (recKey 4 0 ≤ e.1) && decide (e.1 < recKey 4 512)).map fun e => e.1 - recKey 4 0).find?
    fun q => s.qEn q && s.qOwner q == 0 && s.qProducer q == 0 && s.qConsumer q == 0x24

/-- A record as a message of kind 5: kind and source, station time, values. -/
def EvMsg.bytes (m : EvMsg) : List Byte :=
  wordBytes ([wd (m.kind + m.source % 65536 * 65536), hi32 m.time, lo32 m.time] ++ m.vals)

/-- The record taken by EVR. -/
def State.takeRecord (s : State) (m : EvMsg) (ms : List EvMsg) : State :=
  ({ s with evr := { s.evr with inbox := ms } }).stageRecord m.kind m.vals.length m.source m.time false m.vals

/-- The oldest record of station firmware goes to EVR: as a message through its queue, where one is configured; one that
the queue or the pools refuse waits. -/
def State.takeFirmware (s : State) : State :=
  match s.evr.inbox with
  | [] => s
  | m :: ms =>
    match s.evrQueue with
    | none => s.takeRecord m ms
    | some q =>
      match s.deliver q ⟨5, Agent.management.endpoint, m.bytes, 0, 0⟩ with
      | (s1, true) =>
        match (s1.queue q).msgs.getLast? with
        | some d => (s1.consume q d).takeRecord m ms
        | none => s1.takeRecord m ms
      | (s1, false) => s1

/-- The oldest message of queue `q` is taken as an application record. A leeward module's are not delivered
(R506). -/
def State.takeApplication (s : State) (q : Nat) : State :=
  match s.front q with
  | none => s
  | some d =>
    if s.qConsumer q != 0x24 then s
    else
      let ws := s.msgWords d
      let part := s.msgPart d
      let dt := (lo32 s.time - s.msgTime d).toNat
      let s1 := s.consume q d
      if s1.leeward then s1
      else s1.stageRecord 3 ws.length part (s1.time - dt) false ws

/-! ### The ring (R498, R504, R505) -/

/-- The oldest staged record written to its slot. -/
def State.writeStaged (s : State) : State :=
  match s.evr.staging with
  | [] => s
  | r :: rs =>
    let seq := wAt r 1
    let slot := seq.toNat % 65536
    let a := evSlot slot
    let unread := s.evValid slot && decide (0 < (s.word (a + 4) - s.evr.readSeq).toInt)
    let s1 := if unread then s.bump Fld.EVR_CNT_overwrite else s
    let s2 := ((s1.setWord (a + 124) 0).setWords a r).setWord (a + 124) 0x45565244
    let s3 := ((s2.put Fld.EVR_NEWEST_slot slot).setReg Reg.EVR_SEQ seq)
    let s4 := { s3 with evr := { s3.evr with staging := rs } }
    let d := wBits r 0 31 16
    let s5 := if bits (wAt r 0) 7 0 = 0 then s4.setEvDef d { s4.evDef d with last := some slot } else s4
    s5.showEvr

/-- EVR writes a slot, unless the ring is frozen: 10 µs after the last one, to which the clock moves on (R501). -/
def State.drainStaging (s : State) : State :=
  if s.isSet Fld.EVR_STAT_frozen || !s.isSet Fld.EVR_STAT_ready || s.evr.staging.isEmpty then s
  else
    let s1 := s.advance (s.evr.drainAt + 2500 - s.clk)
    ({ s1 with evr := { s1.evr with drainAt := s1.clk } }).writeStaged

/-- Up to `n` staged records written, frozen or not: the hold-up of a supply loss (R503). -/
def State.flushStaging (s : State) : Nat → State
  | 0 => s
  | n + 1 => s.writeStaged.flushStaging n

/-- The ring frozen: the index of the newest record. A freeze of a frozen ring restarts the timeout. -/
def State.freezeRing (s0 : State) : State × Nat :=
  let s := { s0 with evr := { s0.evr with freezeAt := s0.clk } }
  if s.isSet Fld.EVR_STAT_frozen then (s, s.evr.frozenAt)
  else
    let n := s.fld Fld.EVR_NEWEST_slot
    (({ s with evr := { s.evr with frozenAt := n } }).flag Fld.EVR_STAT_frozen true, n)

/-- The read index set to a slot. -/
def State.setReadIndex (s : State) (slot : Nat) : State :=
  let seq := s.word (evSlot slot + 4)
  ({ s with
    evr := { s.evr with readSeq := seq }
    nv := { s.nv with evrRead := slot, evrReadSeq := seq } }).put Fld.EVR_RDIDX_slot slot

/-- The ring released. `read`: the read index moves to the index returned at the freeze. -/
def State.releaseRing (s : State) (read : Bool) : State :=
  if !s.isSet Fld.EVR_STAT_frozen then s
  else
    let s1 := s.flag Fld.EVR_STAT_frozen false
    (if read then s1.setReadIndex s1.evr.frozenAt else s1).showEvr

/-- A freeze not released within 120 s, to whose end the clock moves on. -/
def State.freezeTimeout (s : State) : State :=
  if s.isSet Fld.EVR_STAT_frozen then
    ((s.advance (s.evr.freezeAt + 30000000000 - s.clk)).releaseRing false).note 5 504 0
  else s

/-! ### The scan at boot (R498) -/

/-- Ring slots of memory whose mark may stand: those with a byte at their last word. -/
def State.markedSlots (s : State) : List Nat :=
  (s.mem.filter fun c => decide (evSlot 0 ≤ c.1) && decide (c.1 < evSlot 0 + 65536 * 128) &&
    (c.1 - evSlot 0) % 128 == 124).map fun c => (c.1 - evSlot 0) / 128

/-- The newest valid record, and the sequence continued one above it; the first record after boot tells the staged ones that a supply
loss left unwritten (R503). -/
def State.scanRing (s : State) : State :=
  let best := (s.markedSlots.filter s.evValid).foldl (fun (b : Option Nat) n =>
    match b with
    | none => some n
    | some m => if 0 < (s.word (evSlot n + 4) - s.word (evSlot m + 4)).toInt then some n else b) none
  let s1 := match best with
    | some n =>
      let seq := s.word (evSlot n + 4)
      { (s.put Fld.EVR_NEWEST_slot n).setReg Reg.EVR_SEQ seq with evr := { s.evr with seq := seq } }
    | none => s
  let s2 := { s1 with evr := { s1.evr with readSeq := s1.nv.evrReadSeq, lost := s1.nv.evLost }, nv := { s1.nv with evLost := 0 } }
  ((s2.put Fld.EVR_RDIDX_slot s2.nv.evrRead).flag Fld.EVR_STAT_ready true).showEvr

end Sys2Proof.Machine
end

