-- ==== Sys2Proof/Machine/Alarms.lean ====
section
/-! DEFINITION. The alarm manager and the squall filter (R485 to R495): conditions and their delays, the states of an
alarm, commands and their authority, announcements to the bridge, flood and chattering. -/

namespace Sys2Proof.Machine

def State.alarm (s : State) (i : Nat) : Alarm := SMap.get {} i s.alm.alarms
def State.setAlarm (s : State) (i : Nat) (x : Alarm) : State :=
  { s with alm := { s.alm with alarms := SMap.set {} i x s.alm.alarms } }

/-- What the configuration says of alarm `i`; alarm 2 047 is the mode SAFE, priority alarm and category B
(R492). -/
def State.alarmCfg (s : State) (i : Nat) : AlarmCfg :=
  let c := SMap.get {} i s.alm.cfg
  if i = 2047 then { c with en := true, priority := 1, category := 1, onDelay := 0, offDelay := 0, suppress := none }
  else c

/-- States of an alarm (R488). -/
def asNormal : Nat := 0
def asUnack : Nat := 1
def asSilenced : Nat := 2
def asAck : Nat := 3
def asRectified : Nat := 4
def asShelved : Nat := 5
def asSuppressed : Nat := 6
def asOut : Nat := 7

/-- Items of an alarm (R485). -/
def alarmItem (i : Nat) : Nat := itemKey 13 i 0
def astateItem (i : Nat) : Nat := itemKey 13 i 1

/-- Whether a state is one of those the bridge hears of as active or unacknowledged. -/
def announcedState (st : Nat) : Nat := if st ≤ asRectified then st else asNormal

/-! ### Announcements (R492, R494) -/

/-- One ALF for an alarm. -/
def State.alf (s : State) (i : Nat) : State :=
  let c := s.alarmCfg i
  s.alertOut 492 [c.ident, wd c.inst, wd (announcedState (s.alarm i).state), wd c.priority, wd c.category]

/-- An ALF sent by the windward module for an alarm that is neither held nor a further activation of a
chattering one. -/
def State.announce (s : State) (i : Nat) : State :=
  if s.windward && !(s.alarm i).held then s.alf i else s

/-- The flood alert, announced at a state. -/
def State.floodAlert (s : State) (on : Bool) : State :=
  let s1 := s.record 10 494 0 (b1 (!on)) (b1 on) 0xFF []
  if s1.windward then s1.alertOut 492 [s1.alm.squall.ident, 0, wd (b1 on), 2, 1] else s1

/-- A complete ALC: every alarm in states 1 to 4. -/
def State.sendAlc (s : State) : State :=
  if !s.windward then s
  else
    ({ s with alm := { s.alm with alcAt := s.clk } } : State).alertOut 4921 (s.alm.alarms.flatMap fun (e : Nat × Alarm) =>
      if 1 ≤ e.2.state ∧ e.2.state ≤ 4 then [(s.alarmCfg e.1).ident, wd e.2.state] else [])

/-- ALC_TIMER: 30 s after the last ALC, to which the clock moves on. -/
def State.alcDue (s : State) : State :=
  if s.windward then (s.advance (s.alm.alcAt + 7500000000 - s.clk)).sendAlc else s

/-- An optional time as two words, 0 for none, and times in words and back. -/
def optWords (o : Option Nat) : List Word := match o with | some t => [hi32 t, lo32 t] | none => [0, 0]
def wordsOpt (ws : List Word) (k : Nat) : Option Nat := if wPair ws k = 0 then none else some (wPair ws k)
def timeWords (ts : List Nat) : List Word := ts.flatMap fun t => [hi32 t, lo32 t]
def timesOf (n : Nat) (ws : List Word) : List Nat := (upFrom 0 n).map fun k => wPair ws (2 * k)

/-- An alarm as forwarded at class 3 (R493). -/
def State.forwardAlarm (s : State) (i : Nat) : State :=
  let x := s.alarm i
  s.forward 12 ([wd i, wd (x.state + 16 * b1 x.cond + 32 * b1 x.chattering + 64 * b1 x.held + 128 * b1 x.sourceBad +
    256 * b1 x.item)] ++ optWords x.silenceEnd ++ optWords x.shelveEnd ++ optWords x.escalateEnd ++ optWords x.absentSince ++
    [wd x.count, wd x.acts.length] ++ timeWords x.acts)

/-- A forwarded alarm taken by the leeward module. -/
def State.takeAlarm (s : State) (ws : List Word) : State :=
  s.setAlarm ((wAt ws 0).toNat % 2048) {
    state := wBits ws 1 3 0, cond := wBit ws 1 4, chattering := wBit ws 1 5, held := wBit ws 1 6, sourceBad := wBit ws 1 7
    item := wBit ws 1 8, silenceEnd := wordsOpt ws 2, shelveEnd := wordsOpt ws 4, escalateEnd := wordsOpt ws 6
    absentSince := wordsOpt ws 8, count := (wAt ws 10).toNat, acts := timesOf (wAt ws 11).toNat (ws.drop 12) }

/-- Kind of a forwarded squall filter with the commands that wait (R493). -/
def fwSquall : Nat := 25

/-- The state of the squall filter, and the commands taken that wait for the next evaluation. -/
def State.squallWords (s : State) : List Word :=
  let a := s.alm
  [wd (b1 a.flood)] ++ optWords a.belowSince ++ [wd a.window.length, wd a.held.length, wd a.owed.length, wd a.cmds.length] ++
    timeWords a.window ++ a.held.map wd ++ a.owed.map wd ++
    a.cmds.flatMap fun q => [wd q.alarm, wd q.cmd, wd q.origin, wd q.arg]

def State.forwardSquall (s : State) : State := s.forward fwSquall s.squallWords

/-- A forwarded squall filter taken by the leeward module. -/
def State.takeSquall (s : State) (ws : List Word) : State :=
  let n := fun k => (wAt ws k).toNat
  let r1 := ws.drop (7 + 2 * n 3)
  let r2 := r1.drop (n 4)
  let r3 := r2.drop (n 5)
  { s with alm := { s.alm with
      flood := wBit ws 0 0, belowSince := wordsOpt ws 1, window := timesOf (n 3) (ws.drop 7)
      held := (r1.take (n 4)).map (·.toNat), owed := (r2.take (n 5)).map (·.toNat)
      cmds := (upFrom 0 (n 6)).map fun k =>
        ⟨(wAt r3 (4 * k)).toNat, (wAt r3 (4 * k + 1)).toNat, (wAt r3 (4 * k + 2)).toNat, (wAt r3 (4 * k + 3)).toNat⟩ } }

/-! ### Transitions (R488, R497) -/

/-- The source value of an alarm at a transition. -/
def State.alarmValue (s : State) (i : Nat) : Word :=
  match (s.alarmCfg i).point with
  | some a => lo32 (s.imageValue a).toNat
  | none => wd (b1 (s.alarm i).item)

/-- ASTATE of an alarm (R485). -/
def State.showAlarm (s : State) (i : Nat) : State :=
  let x := s.alarm i
  s.setPoint (astateItem i) (x.state + 16 * b1 x.chattering + 32 * b1 x.held + 64 * b1 x.sourceBad) 0

/-- A record of a transition or of an announcement, with its cause. -/
def State.alarmRecord (s : State) (i old new cause : Nat) : State :=
  if s.leeward then s
  else { s with evr := { s.evr with inbox := s.evr.inbox ++
    [⟨2, i, s.time, [wd i, wd (old + 16 * new + 256 * cause), s.alarmValue i, (s.alarmCfg i).ident]⟩] } }

/-- Activations in the sliding window. -/
def State.floodCount (s : State) : Nat :=
  (s.alm.window.filter fun t => decide (s.time < t + s.alm.squall.window * 1000000000)).length

/-- An activation counted by the squall filter (R494) and by the alarm (R495). -/
def State.activation (s : State) (i : Nat) : State :=
  let x := s.alarm i
  let acts := s.time :: x.acts.filter fun t => decide (s.time < t + 60000000000)
  let chat := decide (s.alm.squall.chatter < acts.length)
  let s1 := s.setAlarm i { x with acts := acts, chattering := x.chattering || chat }
  if x.chattering || chat then s1
  else
    let s2 := { s1 with alm := { s1.alm with window := s.time :: s1.alm.window } }
    if !s2.alm.flood && decide (s2.alm.squall.threshold < s2.floodCount) then
      ({ s2 with alm := { s2.alm with flood := true, belowSince := none } }).floodAlert true
    else s2

/-- An alarm moves to a state for a cause: its record, its timers, its announcement. -/
def State.alarmTo (s : State) (i new cause : Nat) : State :=
  let x := s.alarm i
  let old := x.state
  if old = new then s
  else
    let c := s.alarmCfg i
    let s1 := s.setAlarm i { x with
      state := new
      silenceEnd := if new = asSilenced then some (s.time + 30000000000) else none
      shelveEnd := if new = asShelved then x.shelveEnd else none
      escalateEnd := if new = asUnack ∧ c.priority = 2 then some (s.time + c.escalate * 60000000000) else none
      held := x.held && decide (1 ≤ new) && decide (new ≤ 4) }
    let s2 := (if new = asUnack then s1.undim else s1).alarmRecord i old new cause
    let s3 := if new = asUnack ∧ (old = asNormal ∨ old = asRectified) then s2.activation i else s2
    let hold := s3.alm.flood && decide (2 ≤ c.priority) && (old == asNormal || old == asRectified) &&
      (new == asUnack || new == asAck)
    let s4 := if hold then
        { s3.setAlarm i { s3.alarm i with held := true } with
          alm := { (s3.setAlarm i { s3.alarm i with held := true }).alm with
            held := s3.alm.held.filter (· != i) ++ [i] } }
      else s3
    let s5 := if announcedState old = announcedState new then s4 else s4.announce i
    (s5.showAlarm i).forwardAlarm i

/-- The state that the condition gives, as from NORMAL. -/
def State.fromNormal (s : State) (i : Nat) : Nat :=
  if !(s.alarm i).cond then asNormal else if (s.alarmCfg i).priority = 3 then asAck else asUnack

/-! ### The condition (R486, R487) -/

/-- Whether the condition is present or absent now; neither inside a deadband or with a bad source. The second
part says that the source is bad. -/
def State.rawCondition (s : State) (i : Nat) : Option Bool × Bool :=
  let c := s.alarmCfg i
  if i = 2047 then (some (s.mode == mSafe), false)
  else match c.point with
    | none => (some ((s.out (alarmItem i)).val.getLsbD 0), false)
    | some a =>
      let p := s.input a
      let v := signed 32 (p.val.toNat % 2 ^ 32)
      if c.cond = 4 then (some (decide (2 ≤ p.q)), false)
      else if 2 ≤ p.q then (none, true)
      else if c.cond = 0 then (if v = 1 then some true else if v = 0 then some false else none, false)
      else if c.cond = 1 then (if v = 0 then some true else if v = 1 then some false else none, false)
      else if c.cond = 2 then
        (if c.limit ≤ v then some true else if v < c.limit - c.deadband then some false else none, false)
      else (if v ≤ c.limit then some true else if c.limit + c.deadband < v then some false else none, false)

/-- The condition after its delays, one evaluation on: a change counts when it has lasted its delay. -/
def State.judge (s : State) (i : Nat) : State :=
  let c := s.alarmCfg i
  let x := s.alarm i
  let (raw, bad) := s.rawCondition i
  let item := (s.out (alarmItem i)).val.getLsbD 0
  let n := if raw = some (!x.cond) then x.count + 1 else 0
  let delay := if x.cond then c.offDelay else c.onDelay
  let flip := decide (0 < n) && decide (delay ≤ (n - 1) * 10)
  let cond := if flip then !x.cond else x.cond
  s.setAlarm i { x with
    cond := cond, count := if flip then 0 else n, item := item, sourceBad := bad
    absentSince := if raw = some false then some (x.absentSince.getD s.time) else none }

/-- Whether the suppression point of an alarm is 1. -/
def State.suppressed (s : State) (i : Nat) : Bool :=
  match (s.alarmCfg i).suppress with
  | some a => (s.input a).q == 0 && (s.input a).val == 1
  | none => false

/-- What the condition does to an alarm. -/
def State.applyCondition (s : State) (i : Nat) (was : Bool) : State :=
  let x := s.alarm i
  if x.chattering then
    -- Further activations are counted; the state stands until chattering ends (R495)
    if x.cond && !was then s.setAlarm i { x with acts := s.time :: x.acts } else s
  else if x.state = asNormal then s.alarmTo i (s.fromNormal i) 0
  else if (x.state = asUnack ∨ x.state = asSilenced) ∧ x.cond = false then s.alarmTo i asRectified 0
  else if x.state = asAck ∧ x.cond = false then s.alarmTo i asNormal 0
  else if x.state = asRectified ∧ x.cond = true then s.alarmTo i asUnack 0
  else s

/-- The suppression point, after the condition (R487, R489): entry clears the alarm, and on leaving, its condition is taken afresh. -/
def State.suppression (s : State) (i : Nat) : State :=
  let x := s.alarm i
  if s.suppressed i then
    (s.setAlarm i { x with cond := false, count := 0, chattering := false }).alarmTo i asSuppressed 5
  else if x.state = asSuppressed then (s.setAlarm i { x with cond := false, count := 0 }).alarmTo i asNormal 5
  else s

/-- One alarm at an evaluation, after the commands: its condition, then its suppression point. -/
def State.evalAlarm (s : State) (i : Nat) : State :=
  let c := s.alarmCfg i
  let x := s.alarm i
  if !c.en then (if x.state = asOut then s else s.alarmTo i asOut 0)
  else
    let s0 := if x.state = asOut then
        (s.setAlarm i { x with cond := false, count := 0 }).alarmTo i asNormal 0 else s
    let was := (s0.alarm i).cond
    let s1 := if (s0.alarm i).state = asSuppressed then s0 else (s0.judge i).applyCondition i was
    let s2 := (s1.suppression i).showAlarm i
    let y := s2.alarm i
    if y.state = x.state ∧ (y.cond ≠ x.cond ∨ y.chattering ≠ x.chattering) then s2.forwardAlarm i else s2

/-! ### Commands (R489, R490) -/

/-- Commands of R490. -/
def acAck : Nat := 0
def acSilence : Nat := 1
def acShelve : Nat := 2
def acUnshelve : Nat := 3
def acTransfer : Nat := 4

/-- Whether an origin (1 panel, 2 Pliuz, 3 bridge) may give a command to an alarm. -/
def State.mayCommand (s : State) (q : AlmCmd) : Bool :=
  let c := s.alarmCfg q.alarm
  if q.origin = 3 then
    (q.cmd == acAck && c.category == 1) || q.cmd == acSilence || q.cmd == acTransfer
  else if q.cmd = acShelve then
    decide (1 ≤ c.priority) && c.category != 0 && decide (1 ≤ q.arg) && decide (q.arg ≤ 1440)
  else true

/-- A command refused: recorded, and ARC to the bridge that sent it. -/
def State.refuseCommand (s : State) (q : AlmCmd) : State :=
  let s1 := s.record 10 490 q.alarm 0 0 0xFF [wd q.cmd, wd q.origin, wd q.arg, 1]
  if q.origin = 3 ∧ s1.windward = true then s1.alertOut 4922 [(s1.alarmCfg q.alarm).ident, wd q.cmd] else s1

/-- A command reaches the alarm manager: refused at once without authority, else it waits for the next
evaluation, at the leeward module too. -/
def State.alarmCommand (s : State) (q : AlmCmd) : State :=
  if !s.mayCommand q then s.refuseCommand q
  else ({ s with alm := { s.alm with cmds := s.alm.cmds ++ [q] } }).forwardSquall

/-- A command taken at an evaluation, with its record; one that finds the alarm in the state it asks for changes nothing (R489, R490). -/
def State.takeCommand (s : State) (q : AlmCmd) : State :=
  let i := q.alarm
  let x := s.alarm i
  let cause := q.origin
  let took := fun (s : State) => s.record 10 490 i 0 0 0xFF [wd q.cmd, wd q.origin, wd q.arg, 0]
  if q.cmd = acAck then
    if x.state = asUnack ∨ x.state = asSilenced then took (s.alarmTo i asAck cause)
    else if x.state = asRectified then took (s.alarmTo i asNormal cause) else took s
  else if q.cmd = acSilence then
    if x.state = asUnack then took (s.alarmTo i asSilenced cause)
    else if x.state = asSilenced then took s else s.refuseCommand q
  else if q.cmd = acShelve then
    if 1 ≤ x.state ∧ x.state ≤ 4 ∨ x.state = asNormal then
      took ((s.setAlarm i { x with shelveEnd := some (s.time + q.arg * 60000000000), chattering := false }).alarmTo i
        asShelved cause)
    else took s
  else if q.cmd = acUnshelve then
    if x.state = asShelved then took (s.alarmTo i (s.fromNormal i) cause) else took s
  else took s

/-! ### The evaluation (R485, R489, R494) -/

/-- Alarms that the evaluation visits: those configured, and 2 047. -/
def State.alarmList (s : State) : List Nat :=
  ((s.alm.cfg.map (·.1)).filter fun i => decide (i < 2047)) ++ [2047]

/-- Whether this module's alarm manager evaluates: not a leeward module's (R493), nor one that does not run the
station's plant or hold it in SAFE. -/
def State.evaluatesAlarms (s : State) : Bool := s.mode == mActive || s.mode == mCommission || s.mode == mSafe

/-- Station time of the next evaluation: the 10 ms grid point of this clock where none has been made there, else the next. -/
def State.alarmGrid (s : State) : Nat :=
  let k := s.time / 10000000
  if s.time % 10000000 < 4 ∧ s.alm.evalAt ≠ some k then s.time else (k + 1) * 10000000

/-- One evaluation, at the next 10 ms grid point of station time. -/
def State.evalAlarms (s : State) : State :=
  let r := s.runUntil s.alarmGrid
  let s0 := { r with alm := { r.alm with evalAt := some (r.time / 10000000) } }
  if !s0.evaluatesAlarms then s0
  else
    let cmds := s0.alm.cmds
    let s1 := cmds.foldl (fun s q => s.takeCommand q) { s0 with alm := { s0.alm with cmds := [] } }
    let s2 := s1.alarmList.foldl (fun s i => s.evalAlarm i) s1
    let win : List Nat := s2.alm.window.filter fun t => decide (s2.time < t + s2.alm.squall.window * 1000000000)
    let low : Bool := decide (List.length win ≤ s2.alm.squall.threshold / 2)
    let s3 : State := { s2 with alm := { s2.alm with
        window := win
        belowSince := if s2.alm.flood && low then some (s2.alm.belowSince.getD s2.time) else none } }
    if s3.squallWords = s0.squallWords then s3 else s3.forwardSquall

/-! ### Timers (R488, R491, R492, R494, R495): a leeward module evaluates nothing (R493) -/

/-- 30 s after a silence: ACTIVE_UNACK, announced again. -/
def State.silenceOver (s : State) (i : Nat) : State :=
  match (s.alarm i).silenceEnd with
  | none => s
  | some t =>
    if s.leeward then s else
    let s1 := s.runUntil t
    if (s1.alarm i).state = asSilenced then s1.alarmTo i asUnack 0 else s1

/-- The shelve time ends. -/
def State.shelveOver (s : State) (i : Nat) : State :=
  match (s.alarm i).shelveEnd with
  | none => s
  | some t =>
    if s.leeward then s else
    let s1 := s.runUntil t
    if (s1.alarm i).state = asShelved then s1.alarmTo i (s1.fromNormal i) 4 else s1

/-- A warning unacknowledged for its escalation time is announced again. -/
def State.escalate (s : State) (i : Nat) : State :=
  match (s.alarm i).escalateEnd with
  | none => s
  | some t =>
    if s.leeward then s else
    let s1 := s.runUntil t
    let x := s1.alarm i
    if x.state = asUnack then
      (((s1.setAlarm i { x with
        escalateEnd := some (s1.time + (s1.alarmCfg i).escalate * 60000000000) }).alarmRecord i asUnack asUnack 6).announce i).forwardAlarm i
    else s1

/-- The filter leaves FLOOD once the count has stayed low for 30 s; one ALF is owed to each held alarm. -/
def State.leaveFlood (s : State) : State :=
  match s.alm.flood, s.alm.belowSince with
  | true, some t =>
    if s.leeward then s else
    let s1 := s.runUntil (t + 30000000000)
    let owed := s1.alm.held.filter fun i =>
      let x := s1.alarm i
      x.held && decide (1 ≤ x.state) && decide (x.state ≤ 4)
    let s2 := ({ s1 with alm := { s1.alm with flood := false, held := [], owed := owed, belowSince := none } }).forwardSquall
    if owed.isEmpty then s2.floodAlert false else s2
  | _, _ => s

/-- One owed ALF sent, a tenth of a second after the one before; the flood alert clears after the last. -/
def State.releaseHeld (s : State) : State :=
  match s.alm.owed with
  | [] => s
  | i :: is =>
    if s.leeward then s else
    let s1 := s.runUntil (s.time + 100000000)
    let x := s1.alarm i
    let s2 := { s1.setAlarm i { x with held := false } with
      alm := { (s1.setAlarm i { x with held := false }).alm with owed := is } }
    let s3 := if 1 ≤ x.state ∧ x.state ≤ 4 then (s2.alarmRecord i x.state x.state 7).announce i else s2
    let s4 := ((s3.showAlarm i).forwardAlarm i).forwardSquall
    if is.isEmpty then s4.floodAlert false else s4

/-- An alarm leaves chattering once its condition has been absent for 60 s. -/
def State.chatterOver (s : State) (i : Nat) : State :=
  let x := s.alarm i
  match x.chattering, x.absentSince with
  | true, some t =>
    if s.leeward then s else
    let s1 := s.runUntil (t + 60000000000)
    ((s1.setAlarm i { s1.alarm i with chattering := false, acts := [] }).showAlarm i).forwardAlarm i
  | _, _ => s

/-- HBT, 60 s after the last, to which the clock moves on. -/
def State.sendHbt (s : State) : State :=
  if s.windward then
    let s1 := s.advance (s.alm.hbtAt + 15000000000 - s.clk)
    { s1 with alm := { s1.alm with hbtAt := s1.clk } }.alertOut 4923 [wd s1.stationNode]
  else s

/-- A bridge alert command (R490): the alarm named by alert identifier and instance, and the command. -/
def State.bridgeCommand (s : State) (ident : Word) (inst cmd : Nat) : State :=
  match s.alarmList.find? fun i => (s.alarmCfg i).ident == ident && (s.alarmCfg i).inst == inst with
  | some i => s.alarmCommand ⟨i, cmd, 3, 0⟩
  | none =>
    let s1 := s.record 10 490 0 0 0 0xFF [ident, wd inst, wd cmd]
    if s1.windward then s1.alertOut 4922 [ident, wd cmd] else s1

/-- The ALARM item of an alarm published. -/
def State.alarmItemTaken (s : State) (i : Nat) (on : Bool) : State := s.publish (alarmItem i) (if on then 1 else 0)

end Sys2Proof.Machine
end

