-- ==== Sys2Proof/Machine/NetworkIo.lean ====
section
/-! DEFINITION. Ethernet and serial ports (R509 to R525): services and their queues, PRP, IEC 61162-450 and serial
sentences, Modbus, the Jusum classic protocol, and gust-guard requests from other stations. -/

namespace Sys2Proof.Machine

/-! ### Records (R512, R516, R524, R525) -/

def State.svcRec (s : State) (k : Nat) : List Word := s.rec_ 0x10 (0x100 + k)
def State.serRec (s : State) (n : Nat) : List Word := s.rec_ 0x12 n
def svEn (r : List Word) : Bool := wBit r 0 0
def svProto (r : List Word) : Nat := wBits r 0 3 1
/-- Receive and transmit queue of a service or serial record; 0x1FFF names none. -/
def rxQueue (r : List Word) : Option Nat := if wBits r 1 12 0 = 0x1FFF then none else some (wBits r 1 12 0)
def txQueue (r : List Word) : Option Nat := if wBits r 1 28 16 = 0x1FFF then none else some (wBits r 1 28 16)

/-- A service, or with `ser` a serial port: its index, record, and endpoint code (R509, R521). -/
def svcIndex (ser : Bool) (k : Nat) : Nat := if ser then 64 + k % 4 else k
def State.anyRec (s : State) (ser : Bool) (k : Nat) : List Word := if ser then s.serRec (k % 4) else s.svcRec k
/-- Network ports of a service: bit 0 the PRP pair, bits 1 to 4 ETH 2, ETH 3, X7, X8. -/
def svcPorts (r : List Word) : List Nat :=
  (if wBit r 0 10 then [0, 1] else []) ++ ((upFrom 1 4).filter fun b => wBit r 0 (10 + b)).map (· + 1)
/-- The agent at which a frame of a service, or of a serial port, comes in (R243). -/
def svcAgent (ser : Bool) (k port : Nat) : Agent := if ser then .serial k else .eth port

def State.svc (s : State) (i : Nat) : Svc := SMap.get {} i s.eth.svcs
def State.setSvc (s : State) (i : Nat) (x : Svc) : State :=
  { s with eth := { s.eth with svcs := SMap.set {} i x s.eth.svcs } }

/-- The station status byte (R514). -/
def State.statusByte (s : State) : Nat :=
  b1 (s.mode == mSafe) + 2 * b1 (s.isSet Fld.SYS_STAT_degraded) + 4 * b1 s.windward + 8 * b1 (!s.fw.forces.isEmpty)

/-- Whether this module serves the station's services: the windward one, and a leeward one not (R511, R514). -/
def State.servesStation (s : State) : Bool := s.windward && !s.leeward

/-! ### Receiving and sending (R513, R515, R522) -/

/-- A frame of network port `port`, or of serial port `k`, delivered to the receive queue of a service by the queue's full policy; a
frame of a network port that finds the queue or a pool full is counted (R513). -/
def State.toService (s : State) (ser : Bool) (k port : Nat) (addr : Word) (bytes : List Byte) : State :=
  let r := s.anyRec ser k
  match rxQueue r with
  | none => s
  | some q =>
    let full := !decide (s.depth q + (s.queue q).reserved < s.qLimit q)
    let x := s.deliver q ⟨3, (svcAgent ser k port).endpoint, bytes, wd (k % 256), addr⟩
    if ser || (x.2 && !full) then x.1 else x.1.bump (Fld.ETH_RX_drops port)

/-- A frame counted at its port (R526, R582). -/
def State.portFrame (s : State) (p : Nat) : State := if s.portOff p then s else (s.wrapInc (Fld.ETH_FRAMES_rx p)).pfcEvent 15 p 1

def State.prpTake (s : State) (port : Nat) (tag : Option PrpTag) : State × Bool :=
  match tag with
  | none => (s, true)
  | some t =>
    if 2 ≤ port then (s, true)
    else if t.lanB != (port == 1) then (s.bump Fld.ETH_PRP_wronglan, false)
    else
      let live := s.eth.seen.filter fun e => decide (s.time < e.2.2 + 400000000)
      if live.any fun e => e.1 == t.source && e.2.1 == t.seq then
        ({ s.bump Fld.ETH_PRP_dup with eth := { s.eth with seen := live } }, false)
      else ({ s with eth := { s.eth with seen := (t.source, t.seq, s.time) :: live } }, true)

/-- A received frame of service `k` (R513). -/
def State.frameIn (s : State) (port k : Nat) (addr : Word) (bytes : List Byte) (ok : Bool) (tag : Option PrpTag) :
    State :=
  let s1 := s.portFrame port
  if s.portOff port then s
  else if !ok then s1.bump (Fld.ETH_RX_errors port)
  else
    let (s2, new) := s1.prpTake port tag
    if !new || s2.netSilent || !svEn (s2.svcRec k) || !(svcPorts (s2.svcRec k)).contains port then s2
    else s2.toService false k port addr bytes

/-- Frames sent on the ports of a service, or on a serial port. -/
def State.sendOn (s : State) (ser : Bool) (k what : Nat) (ws : List Word) : State :=
  if ser then (s.send (.ser (k % 4)) what ws).wrapInc (Fld.SER_TX_tx (k % 4)) else s.ethOut (svcPorts (s.svcRec k)) what ws

/-- Whether the messages of a transmit queue go out one by one as sentences: requests and classic blocks go by commands of their own
(R515, R518, R519, R521). -/
def sendsSentences (ser : Bool) (r : List Word) : Bool :=
  if ser then wBits r 0 5 3 == 1 || wBits r 0 5 3 == 2 else svProto r == 1

/-- The oldest message of a transmit queue is sent; a module whose networks are silent frees it unsent (R38, R253, R514). A sentence
longer than 82 characters is not sent on a serial port (R522). -/
def State.frameOut (s : State) (ser : Bool) (k : Nat) : State :=
  let r := s.anyRec ser k
  match txQueue r with
  | none => s
  | some q =>
    match s.front q with
    | none => s
    | some d =>
      let bytes := s.msgBytes d
      let ws := s.msgWords d
      let addr := if s.msgUser d 1 = 0 then wAt r 3 else s.msgUser d 1
      let s1 := s.consume q d
      if s.netSilent || !svEn r then s1
      else if !sendsSentences ser r then s
      else if ser then
        if 82 < bytes.length then s1.bump (Fld.SER_CNT_check (k % 4))
        else s1.sendOn true k 522 ws
      else
        let n := s1.eth.lines + 1
        ({ s1 with eth := { s1.eth with lines := n } }).sendOn false k 515
          ([addr, wAt r 4, wAt s1.stationRec 1, wd n] ++ ws)

/-- An IEC 61162-450 sentence: delivered when its tag-block and sentence checksums are correct. -/
def State.sentence450 (s : State) (port k : Nat) (addr : Word) (bytes : List Byte) (ok : Bool) (tag : Option PrpTag) :
    State := s.frameIn port k addr bytes ok tag

/-- A serial sentence at port `n`, and the second that a ZDA sentence names. `check`: 0 good, 1 a wrong checksum, 2 a framing,
parity or overrun error. -/
def State.serialIn (s : State) (n : Nat) (bytes : List Byte) (check : Nat) (zda : Option Nat) : State :=
  let r := s.serRec n
  if !svEn r || !sendsSentences true r || s.busOff then s
  else if check = 2 then s.bump (Fld.SER_CNT_framing n)
  else if check = 1 ∨ 82 < bytes.length then s.bump (Fld.SER_CNT_check n)
  else
    let s1 := s.wrapInc (Fld.SER_RX_rx n)
    if s1.netSilent then s1
    else
      let s2 := match zda with
        | some z => if wBits s1.timeRec 4 3 2 = n then { s1 with tu := { s1.tu with zda := some (z, s1.time) } } else s1
        | none => s1
      s2.toService true n 0 0 bytes

/-- PRP supervision: a frame sent on both LANs, and what was heard since the last (R510). -/
def State.prpSupervise (s : State) (heardA heardB : Bool) : State :=
  let e := s.eth
  let a := if heardA then some s.time else e.lanA
  let b := if heardB then some s.time else e.lanB
  let fresh := fun (o : Option Nat) => match o with | some t => decide (s.time ≤ t + 6000000000) | none => false
  if s.portOff 0 then s
  else
  let s1 := { s with eth := { e with lanA := a, lanB := b } }
  let s2 := (s1.flag Fld.ETH_PRP_lana (fresh a)).flag Fld.ETH_PRP_lanb (fresh b)
  s2.ethOut [0, 1] 510 [wd s.sys.node]

/-- A network port's link goes down or up (R374, R376). -/
def State.ethLink (s : State) (p : Nat) (up : Bool) (speed : Nat) : State :=
  let s1 := (s.flag (Fld.ETH_PSTAT_link p) up).put (Fld.ETH_PSTAT_speed p) (if up then speed else 0)
  if up then s1.bestMaster
  else
    let s2 := { s1 with tu := { s1.tu with
      announces := SMap.set none p none s1.tu.announces, seen := SMap.set none p none s1.tu.seen } }
    let s3 := s2.bestMaster
    if s3.tuRef = p then s3.selectRef true else s3

/-! ### Modbus (R516, R517) -/

/-- Map entries in force: index and record. -/
def State.modbusMap (s : State) : List (List Word) :=
  (s.cfg.filter fun e => decide (recKey 0x10 0x1000 ≤ e.1) && decide (e.1 < recKey 0x10 0x2000)).map (·.2)
def mbTable (r : List Word) : Nat := wBits r 0 2 1
def mbAddr (r : List Word) : Nat := wBits r 0 18 3
def mbWide (r : List Word) : Bool := wBit r 0 19
def mbQueue (r : List Word) : Option Nat := if wBits r 2 12 0 = 0x1FFF then none else some (wBits r 2 12 0)

/-- The entry of a table that stands at an address, and one whose second register stands there. -/
def State.mbEntry (s : State) (t a : Nat) : Option (List Word) :=
  s.modbusMap.find? fun r => wBit r 0 0 && mbTable r == t && mbAddr r == a
def State.mbSecond (s : State) (t a : Nat) : Bool :=
  decide (2 ≤ t) && decide (1 ≤ a) && match s.mbEntry t (a - 1) with | some r => mbWide r | none => false

/-- The service of the Modbus server: the enabled one of protocol 2 (R516, R525). -/
def State.mbServer (s : State) : Option Nat :=
  (upFrom 0 64).find? fun k => svEn (s.svcRec k) && svProto (s.svcRec k) == 2

/-- A value as a read of table `t` returns it: bit 0 for a coil or a discrete input, 16 bits for a register (R517; log entry
154). -/
def mbValue (t v : Nat) : Nat := if t < 2 then v % 2 else v % 65536

/-- A point as Modbus shows it: in SAFE an integral output shows the value at its stage (R514). -/
def State.modbusValue (s : State) (a : Nat) : Nat :=
  let u := a / 2 ^ 14 % 16
  let c := a / 2 ^ 8 % 64
  if s.mode = mSafe ∧ a / 2 ^ 18 = s.stationNode ∧ isOutput u c = true ∧ a % 256 = 0 then
    unsigned 32 (s.chan u c).force
  else (s.imageValue a).toNat % 2 ^ 32

/-- One address of a read: its 16-bit value, or an exception. -/
def State.mbRead (s : State) (t a first last : Nat) : Except Nat Nat :=
  if t = 2 ∧ a = 0 then .ok s.statusByte
  else match s.mbEntry t a with
    | some r =>
      let v := s.modbusValue (wAt r 1).toNat
      if decide (2 ≤ t) && mbWide r then (if a < last then .ok (v / 65536 % 65536) else .error 3)
      else .ok (mbValue t v)
    | none =>
      if s.mbSecond t a then
        if first < a then
          match s.mbEntry t (a - 1) with
          | some r => .ok (s.modbusValue (wAt r 1).toNat % 65536)
          | none => .error 2
        else .error 3
      else .error 2

/-- The values of a read, or the first exception. -/
def State.mbReads (s : State) (t first last : Nat) : Nat → Nat → Except Nat (List Nat)
  | _, 0 => .ok []
  | a, n + 1 =>
    match s.mbRead t a first last with
    | .error e => .error e
    | .ok v => match s.mbReads t first last (a + 1) n with
      | .error e => .error e
      | .ok vs => .ok (v :: vs)

/-- The answer to a request: function code and data, or an exception. -/
def State.mbAnswer (s : State) (f : ModbusFrom) (fc : Nat) (x : Except Nat (List Nat)) : State :=
  let ws := match x with
    | .ok vs => wd f.conn :: wd f.unit :: wd fc :: vs.map wd
    | .error e => [wd f.conn, wd f.unit, wd (fc + 128), wd e]
  if f.ser then (s.send (.ser (f.port % 4)) 517 ws).wrapInc (Fld.SER_TX_tx (f.port % 4))
  else s.ethOut (netPorts (f.port % 6)) 517 ws

/-- Whether a request is served: on a connection that is open, or at the slave address of an RTU slave port. -/
def State.mbServed (s : State) (f : ModbusFrom) : Bool :=
  s.servesStation &&
    (if f.ser then
      svEn (s.serRec (f.port % 4)) && wBits (s.serRec (f.port % 4)) 0 5 3 == 4 &&
        wBits (s.serRec (f.port % 4)) 2 15 8 == f.unit
     else s.mbServer.isSome && s.eth.conns.contains f.conn)

/-- A request counted at its port. -/
def State.mbFrame (s : State) (f : ModbusFrom) : State :=
  if f.ser then (if s.busOff then s else s.wrapInc (Fld.SER_RX_rx (f.port % 4))) else s.portFrame (f.port % 6)

/-- A read of a table with its limit of quantity. -/
def State.mbReadTable (s : State) (f : ModbusFrom) (fc t a n limit : Nat) : State :=
  let s1 := s.mbFrame f
  if !s1.mbServed f then s1
  else s1.mbAnswer f fc (if n = 0 ∨ limit < n ∨ 65536 < a + n then .error 3 else s1.mbReads t a (a + n - 1) a n)

/-- What forbids a write of addresses `a` to `last`: no entry, a read-only entry, half of a pair. -/
def State.mbWritable (s : State) (t first last : Nat) (a : Nat) : Option Nat :=
  match s.mbEntry t a with
  | some r =>
    if (mbQueue r).isNone then some 2
    else if decide (2 ≤ t) && mbWide r && decide (last ≤ a) then some 3 else none
  | none => if s.mbSecond t a then (if first < a then none else some 3) else some 2

/-- The write queue of an address. -/
def State.mbWriteQueue (s : State) (t a : Nat) : Option Nat :=
  match s.mbEntry t a with
  | some r => mbQueue r
  | none => match s.mbEntry t (a - 1) with | some r => mbQueue r | none => none

/-- User word 0 of what a request writes: the serial port, or the server's service (R513). -/
def State.mbService (s : State) (f : ModbusFrom) : Word := wd (if f.ser then f.port % 4 else s.mbServer.getD 0)

/-- One message for each register or coil written, all or none. -/
def State.mbEnqueue (s : State) (f : ModbusFrom) (t : Nat) : Nat → List Nat → State × Bool
  | _, [] => (s, true)
  | a, v :: vs =>
    match s.mbWriteQueue t a with
    | none => (s, false)
    | some q =>
      match s.deliver q ⟨3, (svcAgent f.ser f.port f.port).endpoint, wordBytes [wd (t + a * 4), wd v], s.mbService f,
          wd f.unit⟩ with
      | (s1, true) => s1.mbEnqueue f t (a + 1) vs
      | (s1, false) => (s1, false)

/-- A write of a list of values with its limit of quantity, or its exception. -/
def State.mbWrite (s : State) (f : ModbusFrom) (t a limit : Nat) (vs : List Nat) : State × Option Nat :=
  let n := vs.length
  if n = 0 ∨ limit < n ∨ 65536 < a + n then (s, some 3)
  else match ((upFrom a n).filterMap (s.mbWritable t a (a + n - 1))).head? with
    | some e => (s, some e)
    | none => match s.mbEnqueue f t a vs with
      | (s1, true) => (s1, none)
      | (_, false) => (s, some 6)

/-- A write request answered. -/
def State.mbWriteTable (s : State) (f : ModbusFrom) (fc t a limit : Nat) (vs : List Nat) : State :=
  let s1 := s.mbFrame f
  if !s1.mbServed f then s1
  else
    let (s2, e) := s1.mbWrite f t a limit vs
    s2.mbAnswer f fc (match e with
      | some k => .error k
      | none => .ok (if fc = 5 ∨ fc = 6 then a :: vs else [a, vs.length]))

/-- Function 23: the write first, then the read. -/
def State.mbReadWrite (s : State) (f : ModbusFrom) (ra rn wa : Nat) (vs : List Nat) : State :=
  let s1 := s.mbFrame f
  if !s1.mbServed f then s1
  else if rn = 0 ∨ 125 < rn ∨ 65536 < ra + rn then s1.mbAnswer f 23 (.error 3)
  else match s1.mbWrite f 3 wa 121 vs with
    | (s2, some e) => s2.mbAnswer f 23 (.error e)
    | (s2, none) => s2.mbAnswer f 23 (s2.mbReads 3 ra (ra + rn - 1) ra rn)

/-- Whether the server listens at a port: the station is served, and the server's service names the port (R512, R516). -/
def State.mbListens (s : State) (port : Nat) : Bool :=
  s.servesStation && match s.mbServer with | some k => (svcPorts (s.svcRec k)).contains port | none => false

/-- A connection to the server opened or closed: at most eight, a ninth is reset (R516). -/
def State.mbConnect (s : State) (port conn : Nat) (opened : Bool) : State :=
  if !opened then { s with eth := { s.eth with conns := s.eth.conns.filter (· != conn) } }
  else if !s.mbListens port || s.eth.conns.contains conn then s
  else if 8 ≤ s.eth.conns.length then s.ethOut (netPorts port) 516 [wd conn]
  else { s with eth := { s.eth with conns := conn :: s.eth.conns } }

/-! ### Modbus clients and masters (R518, R523) -/

def State.showBusy (s : State) (ser : Bool) (k : Nat) (b : Bool) : State :=
  if ser then s.flag (Fld.SER_STAT_busy (k % 4)) b else s

/-- Whether a service is a Modbus TCP client, or a serial port an RTU master. -/
def isMaster (ser : Bool) (r : List Word) : Bool := svEn r && (if ser then wBits r 0 5 3 == 3 else svProto r == 3)

/-- The oldest transmit message sent as one request, when no transaction is open. -/
def State.clientRequest (s : State) (ser : Bool) (k : Nat) : State :=
  let r := s.anyRec ser k
  let i := svcIndex ser k
  match txQueue r with
  | none => s
  | some q =>
    match s.front q with
    | none => s
    | some d =>
      if s.netSilent then s.consume q d
      else if !isMaster ser r || (s.svc i).opened.isSome then s
      else
        let unit := bits (s.msgUser d 1) 7 0
        let ws := s.msgWords d
        let s1 := (s.consume q d).sendOn ser k 518 (wd unit :: ws)
        (s1.setSvc i { s1.svc i with opened := some (unit, s1.time) }).showBusy ser k true

/-- A response PDU; one of a serial port whose check is wrong is counted and the transaction stays open. -/
def State.clientResponse (s : State) (ser : Bool) (k port : Nat) (bytes : List Byte) (ok : Bool) : State :=
  let i := svcIndex ser k
  let off := if ser then s.busOff else s.portOff port
  let s0 := if off then s else if ser then s.wrapInc (Fld.SER_RX_rx (k % 4)) else s.portFrame port
  match (if off then none else (s0.svc i).opened) with
  | none => s0
  | some (unit, _) =>
    if !ok then (if ser then s0.bump (Fld.SER_CNT_check (k % 4)) else s0.bump (Fld.ETH_RX_errors port))
    else
      let s1 := (s0.setSvc i { s0.svc i with opened := none }).showBusy ser k false
      if s1.netSilent then s1 else s1.toService ser k port (wd unit) bytes

/-- Response timeout of a service or port, ns. -/
def State.responseTime (s : State) (ser : Bool) (k : Nat) : Nat :=
  let ms := if ser then wBits (s.serRec (k % 4)) 2 28 16 else 0
  (if ms = 0 then 500 else ms) * 1000000

/-- No response within the timeout: a message of length 0 that says so. -/
def State.clientTimeout (s : State) (ser : Bool) (k : Nat) : State :=
  let i := svcIndex ser k
  match (s.svc i).opened with
  | none => s
  | some (unit, t) =>
    let s1 := s.runUntil (t + s.responseTime ser k)
    let s2 := (s1.setSvc i { s1.svc i with opened := none }).showBusy ser k false
    let s3 := if ser then s2.bump (Fld.SER_CNT_timeout (k % 4)) else s2
    if s3.netSilent then s3 else s3.toService ser k ((svcPorts (s3.svcRec k)).headD 0) (wd (unit + 2 ^ 31)) []

/-! ### Jusum classic protocol (R519, R520) -/

/-- Longest payload of a block: 1 024 B with the header of 16 B (R519; log entry 154). -/
def classicMax : Nat := 1008

/-- A block of version `v` with its header (R519). -/
def State.blockWords (s : State) (v block seq : Nat) (bytes : List Byte) : List Word :=
  let head := [wd (0x4A43 + v * 65536 + (if v = 3 then s.statusByte else 0) * 2 ^ 24),
    wd (s.stationNode % 16384 + block * 65536), wd (seq % 65536 + bytes.length * 65536)]
  head ++ [crc32c (wordBytes head ++ bytes)] ++ bytesWords ((bytes.length + 3) / 4) bytes

/-- A block of a service's record. -/
def State.classicBlock (s : State) (r : List Word) (block seq : Nat) (bytes : List Byte) : List Word :=
  s.blockWords (wBits r 0 18 17) block seq bytes

/-- The period of a classic service, ns (R512). -/
def classicPeriod (r : List Word) : Nat := wBits r 5 15 0 * 1000000

/-- The newest message of a transmit queue, the older ones freed. -/
def State.newestOf (s : State) (q : Nat) : Nat → Option (List Byte) → State × Option (List Byte)
  | 0, got => (s, got)
  | n + 1, got =>
    match s.front q with
    | none => (s, got)
    | some d => (s.consume q d).newestOf q n (some (s.msgBytes d))

/-- Values at the integral output stages (R514). -/
def State.stageValues (s : State) : List Int :=
  ((upFrom 0 9).flatMap fun u => (upFrom 0 64).filterMap fun c => if isOutput u c then some (s.chan u c).force else none)

/-- The payload of a publication: in SAFE its output points carry the values at the stages (R41, R514). The manual does not say
where in a payload they stand. -/
def State.safePayload (s : State) (k : Nat) (bytes : List Byte) : List Byte :=
  if s.mode = mSafe then bytes.zipIdx.map fun b => Config.safeByte k b.2 b.1 s.stageValues else bytes

/-- Whether a service publishes, and whether it subscribes (R512, R519). -/
def publishes (r : List Word) : Bool := svEn r && svProto r == 4 && wBit r 0 16
def subscribes (r : List Word) : Bool := svEn r && svProto r == 4 && !wBit r 0 16

/-- The block that a publishing service sends: the newest message, or the one sent last. -/
def State.publishNewest (s : State) (k q : Nat) : State :=
  let r := s.svcRec k
  let got := s.newestOf q (s.untaken q).length none
  let s1 := got.1
  let x := s1.svc k
  match (got.2.filter fun b => decide (b.length ≤ classicMax)).orElse (fun _ => x.newest) with
  | none => s1
  | some bytes =>
    let seq := (x.sent + 1) % 65536
    (s1.setSvc k { x with newest := some bytes, sent := seq, sentAt := some s1.time }).sendOn false k 519
      (s1.classicBlock r (wBits r 4 31 16) seq (s1.safePayload k bytes))

/-- A publishing service's period, counted from its last block; what another service's queue, or one whose networks are silent,
holds is freed unsent. -/
def State.classicPublish (s : State) (k : Nat) : State :=
  let r := s.svcRec k
  match txQueue r with
  | none => s
  | some q =>
    if s.netSilent || !publishes r then
      if s.netSilent || !svEn r then (s.newestOf q (s.untaken q).length none).1 else s
    else (match (s.svc k).sentAt with | some t => s.runUntil (t + classicPeriod r) | none => s).publishNewest k q

/-- A subscribed block: header words and payload. -/
def State.classicIn (s : State) (port k : Nat) (addr : Word) (head : List Word) (bytes : List Byte) : State :=
  let r := s.svcRec k
  let s1 := s.portFrame port
  let x := s1.svc k
  let seq := wBits head 2 15 0
  let good := wBits head 0 15 0 == 0x4A43 && wBits head 0 23 16 == wBits r 0 18 17 &&
    wBits head 1 31 16 == wBits r 4 31 16 && wBits head 2 31 16 == bytes.length && decide (bytes.length ≤ classicMax) &&
    wAt head 3 == crc32c (wordBytes (head.take 3) ++ bytes)
  if s.portOff port || s1.netSilent || !subscribes r then s1
  else if !good || x.got == some seq then s1.bump (Fld.ETH_RX_errors port)
  else (s1.setSvc k { x with got := some seq, lapsed := false, gotAt := some s1.time }).toService false k port addr bytes

/-- No block for three periods after the last: one message of length 0. -/
def State.classicLapse (s : State) (k : Nat) : State :=
  let r := s.svcRec k
  let x := s.svc k
  if s.netSilent || !subscribes r || x.lapsed then s
  else
    let s1 := match x.gotAt with | some t => s.runUntil (t + 3 * classicPeriod r) | none => s
    (s1.setSvc k { x with lapsed := true }).toService false k ((svcPorts r).headD 0) (wd (2 ^ 31)) []

/-- Block 0xF002 with the GRANT item of a slot as its payload. -/
def State.grantBlock (s : State) (slot : Nat) : List Word :=
  s.blockWords 3 0xF002 ((s.eth.grants + 1) % 65536) (wordBytes [lo32 (s.point (gustItem slot 1)).val.toNat])

/-- Block 0xF002 sent for a slot marked for a network requester (R520). -/
def State.sendGrant (s : State) (slot : Nat) : State :=
  if !s.servesStation || !wBit (s.reqRec slot) 0 21 then s
  else ({ s with eth := { s.eth with grants := (s.eth.grants + 1) % 65536 } }).ethOut [0, 1] 520 (s.grantBlock slot)

/-- Block 0xF001: a request or a withdrawal at a slot marked for a network requester. -/
def State.networkRequest (s : State) (port : Nat) (w : Word) : State :=
  let slot := bits w 5 0
  let s1 := s.portFrame port
  if s1.netSilent then s1
  else if !wBit (s1.reqRec slot) 0 21 then s1.bump (Fld.ETH_RX_errors port)
  else (s1.reqItem slot (wd (bits w 15 8 + 256 * bits w 16 16))).sendGrant slot

/-! ### A new windward module (R511, R523) -/

/-- Three gratuitous ARP frames for the station address. -/
def State.gratuitousArp (s : State) : State :=
  (upFrom 0 3).foldl (fun s _ => s.ethOut [0, 1] 511 [wAt s.stationRec 0, wd s.sys.node]) s

end Sys2Proof.Machine
end

