-- ==== Sys2Proof/Machine/PlanApply.lean ====
section
/-! DEFINITION. The plan between station firmware and PRT (R104 to R108, R127, R129, R133 to R135): the
end of a run, the check of the inactive area, and the boundary at which a plan takes effect. -/

namespace Sys2Proof.Machine

/-! ### The end of a run -/

/-- A report filed, with the sequence of its plan: the last eight are kept (R135). -/
def State.fileReport (s : State) (r : Run) (seq : Nat) : State :=
  let id := (s.prt.reportId + 1) % 65536
  let hdr := (r.header.set 0 (wAt r.header 0 + wd id)).set 5 (wd (seq % 65536))
  { s with prt := { s.prt with
      reportId := id, reports := ((id, hdr ++ r.entries) :: s.prt.reports).take 8 } }

/-- Sequence of the plan that is written next (R104). -/
def State.nextSeq (s : State) : Nat := s.fld Fld.PRT_PLANSTAT_seq + 1

/-- The result of a plan's check, shown and kept in its report (R107, R135). -/
def State.noteCheck (s : State) (code : Nat) : State :=
  let s1 := s.put Fld.PRT_PLANSTAT_result code
  { s1 with prt := { s1.prt with
      reports := s1.prt.reports.map fun (i, ws) =>
        if s1.prt.planReport = some i then (i, ws.set 5 (setBits (wAt ws 5) 23 16 code)) else (i, ws) } }

/-- The plan of a run written into the inactive area, with its apply time, where the run did not fail;
a run that leaves a criticality-A task unplaced, or breaks the totals, keeps the plan in force (R127, R130). -/
def State.submit (s : State) (r : Run) (apply : Word) : State :=
  let s1 := s.fileReport r s.nextSeq
  if r.result = 2 ∨ r.totals = false then s1
  else
    let s2 := s1.writePlan r.words apply
    { s2 with prt := { s2.prt with planReport := some s2.prt.reportId, restore := r.restore } }

/-- Whether a run of a cause that fails is a fault of R44: on PLACE_RUN or a commit in COMMISSION the plan in force stays
(R130). -/
def State.runFaults (s : State) (cause : Nat) : Bool := s.mode != mCommission || (cause != 3 && cause != 4)

/-- PLACEMENT_DONE: the oldest run asked for ends (R126, R127, R130). -/
def State.endRun (s : State) : State :=
  match s.prt.placing with
  | [] => s
  | x :: rest =>
    let s0 := { s with prt := { s.prt with placing := rest } }
    let k := s0.runPoint x.cause
    let r := s0.placementRun x.cause x.halted [] (pointMhz k)
    let s1 := (s0.submit r (wd x.apply)).setOp k
    let s2 := s1.notify 0x0280 none [wd s1.prt.reportId, wd r.shedTasks, wd r.placedTasks]
    let bad := r.result == 2
    let s3 := { s2 with sys := { s2.sys with placeBad := bad || s2.bankFatal } }
    if bad && s3.runFaults x.cause then s3.fault44 130 s3.prt.reportId else s3

/-! ### PRT's check (R107, R108) -/

/-- The trade-cycle length that will be in force at the next boundary. -/
def State.lenNext (s : State) : Nat :=
  match SMap.get none (Reg.SYS_TCYC * 4 + 1) s.shadow with
  | some w => bits w 11 0
  | none => s.fld Fld.SYS_TCYC_len

/-- Entries of lane table `l` of the area at `b`: start, length, partition, valid. -/
def State.laneEntries (s : State) (b l : Nat) : List (Nat × Nat × Nat × Bool) :=
  (upFrom 0 (min 256 (bits (s.word (b + 0x14 + 4 * l)) 8 0))).map fun e =>
    let w0 := s.laneWord b l e 0
    let w1 := s.laneWord b l e 1
    (bits w0 15 0, bits w0 31 16, bits w1 5 0, bit w1 8)

/-- A lane table is sorted, without overlap, without a zero length, inside the trade cycle. The manual does not say what an
entry that is not valid does to the check: here it fails it (DESIGN CHOICE, log entry 136). -/
def tableOk (tc : Nat) : List (Nat × Nat × Nat × Bool) → Bool
  | [] => true
  | (a, n, _, v) :: rest =>
    v && decide (0 < n) && decide (a + n ≤ tc) &&
      (match rest with | [] => true | (b, _, _, _) :: _ => decide (a + n ≤ b)) && tableOk tc rest

/-- Window time of partition `p` in the area at `b`. -/
def State.areaTime (s : State) (b p : Nat) : Nat :=
  ((upFrom 0 8).map fun l =>
    ((s.laneEntries b l).map fun (_, n, q, _) => if q = p then n else 0).foldl (· + ·) 0).foldl (· + ·) 0

/-- Check 6 for partition `p`. -/
def State.partOk (s : State) (b p : Nat) : Bool :=
  let w := fun i => s.partWord b p i
  decide (bits (w 3) 17 0 ≤ s.fld (Fld.PRT_CEIL_TIME_time p)) &&
  decide (bits (w 0) 11 0 ≤ s.fld (Fld.PRT_CEIL_DRAM_credits p)) &&
  decide (bits (w 1) 13 0 ≤ s.fld (Fld.PRT_CEIL_Q0_queues p)) &&
  decide (bits (w 1) 30 16 ≤ s.fld (Fld.PRT_CEIL_Q0_desc p)) &&
  decide (bits (w 2) 15 0 ≤ s.fld (Fld.PRT_CEIL_Q1_small p)) &&
  decide (bits (w 2) 28 16 ≤ s.fld (Fld.PRT_CEIL_Q1_large p)) &&
  decide (s.areaTime b p = bits (w 3) 17 0)

/-- Sum of a field over the partition table. -/
def State.areaSum (s : State) (b i hi lo : Nat) : Nat :=
  ((upFrom 0 64).map fun p => bits (s.partWord b p i) hi lo).foldl (· + ·) 0

/-- Check 7: the totals and the reserve of R119 and R120. -/
def State.totalsOk (s : State) (b : Nat) : Bool :=
  let w := fun i => s.partWord b 0 i
  decide (s.areaSum b 0 11 0 ≤ 2500) && decide (250 ≤ bits (w 0) 11 0) &&
  decide (s.areaSum b 1 13 0 ≤ 8192) && decide (512 ≤ bits (w 1) 13 0) &&
  decide (s.areaSum b 1 30 16 ≤ 16384) && decide (2048 ≤ bits (w 1) 30 16) &&
  decide (s.areaSum b 2 15 0 ≤ 32768) && decide (4096 ≤ bits (w 2) 15 0) &&
  decide (s.areaSum b 2 28 16 ≤ 4096) && decide (256 ≤ bits (w 2) 28 16)

/-- Station time of the last trade-cycle boundary. -/
def State.lastBoundary (s : State) : Nat := s.time - 4 * (s.clk - s.sys.tc0)

/-- Signed 32-bit difference of two low words of station time (R9). -/
def since32 (a b : Word) : Int := (a - b).toInt

/-- The code of R107 for the area at `b`: the first check that fails. -/
def State.planCode (s : State) (b : Nat) : Nat :=
  let tc := (bits (s.word (b + 0xC)) 11 0 + 1) * 5
  let placed := (upFrom 0 512).filter fun t => bit (s.taskWord b t 0) 22
  let lane := fun t => bits (s.taskWord b t 0) 19 16
  let apply := s.word (b + 8)
  if s.word b != 0x504C414E then 1
  else if bits (s.word (b + 4)) 15 0 != (s.fld Fld.PRT_PLANSTAT_seq + 1) % 65536 then 2
  else if s.word (b + 0x34) != crc32c (s.bytes (b + 0x40) 0x7FC0) then 3
  else if bits (s.word (b + 0xC)) 11 0 != s.lenNext then 4
  else if !(upFrom 0 8).all fun l =>
      decide (bits (s.word (b + 0x14 + 4 * l)) 8 0 ≤ 256) && tableOk tc (s.laneEntries b l) then 5
  else if !(upFrom 0 64).all (s.partOk b) then 6
  else if !s.totalsOk b then 7
  else if !(upFrom 0 4).all fun p =>
      !s.laneSplit (2 * p) || s.laneEntries b (2 * p) == s.laneEntries b (2 * p + 1) then 8
  else if placed.any fun t =>
      decide (bits (s.taskWord b t 0) 21 20 < 2) && s.laneSplit (lane t) then 9
  else if placed.any fun t =>
      !s.laneUsable (lane t) ||
        !(s.laneEntries b (lane t)).any fun (_, _, p, _) => p == bits (s.taskWord b t 2) 5 0 then 10
  else if apply != 0 && decide (0 ≤ since32 (lo32 s.lastBoundary) apply) then 11
  else 0

/-- PRT reads the ready word of the inactive area and checks the plan (R107, R108). -/
def State.checkPlan (s : State) : State :=
  let b := s.idleArea
  if s.word (b + 0x3C) != 0x504C5244 || s.prt.planNext.isSome then s
  else
    let code := s.planCode b
    let s1 := s.noteCheck code
    if code = 0 then
      { (s1.flag Fld.PRT_PLANSTAT_pending true) with
        prt := { s1.prt with planNext := some (1 - s.fld Fld.PRT_PLANSTAT_active) } }
    -- a late plan takes effect at the windward module alone (R108, R207)
    else if code = 11 ∧ s1.mode = mStandby then s1.loseStep 5
    else s1

/-! ### The boundary (R108, R129, R133, R134, R160) -/

/-- The first instance pair of a task: its initial instance, and over it its retain ranges (R160). -/
def State.firstPair (s : State) (t : Nat) : State :=
  let x := s.task t
  let app := x.app.getD { task := t }
  let size := ((wAt x.decl 3).toNat + 63) / 64 * 64
  let s1 := s.buildPair (s.taskInst t) t size (app.initial ++ SMap.get [] t s.nv.retain)
  s1.setTask t { s1.task t with built := true }

/-- Whether the plan in force gives partition `p` a window on lane `l`. -/
def State.hasWindow (s : State) (l p : Nat) : Bool :=
  (s.laneEntries s.planBase l).any fun (_, _, q, _) => q == p

/-- The activation on lane `l` continues or ends at a new plan (R134). -/
def State.keepAct (s : State) (l : Nat) : State :=
  match (s.lane l).act with
  | none => s
  | some a =>
    if s.taskPlaced a.task && s.taskLane a.task == l && s.hasWindow l a.part && s.laneUsable l then s
    else s.endAct l

/-- A suspended activation likewise; `old` is the lane its task had. -/
def State.keepSusp (s : State) (t old : Nat) : State :=
  match (s.task t).susp with
  | none => s
  | some (a, _) =>
    if s.taskPlaced t && s.taskLane t == old && s.hasWindow old a.part then s else s.endSusp t

/-- Base of the instance pair that the plan in force gives task `t`, halted or not; none where it gives none (R105, R127). -/
def State.planInst (s : State) (t : Nat) : Option Nat :=
  if s.taskWord s.planBase t 3 = 0 then none else some ((s.taskWord s.planBase t 3).toNat * 64)

/-- Where the committed data of a task stands before a new plan: its base, and what a move needs of it (R129). -/
structure Pair where
  task : Nat
  lane : Nat
  base : Option Nat
  words : List Word
  data : List Byte
  deriving DecidableEq, Repr

def State.pairOf (s : State) (t : Nat) : Pair :=
  let l := s.taskLane t
  if !(s.task t).built then ⟨t, l, none, [], []⟩
  else match (s.task t).saved, s.planInst t with
    | some (ws, bs), b => ⟨t, l, b, ws, bs⟩
    | none, some _ =>
      let b := s.taskInst t
      ⟨t, l, some b, s.words (b + 0x10) 3, s.committed b 0 (s.instSize b)⟩
    | none, none => ⟨t, l, none, [], []⟩

/-- The data of a task at a new plan (R129, R160): a pair built at the first placement, kept, moved, or saved while the
plan has no place for it. A task whose activation goes on commits first. -/
def State.replanPair (s : State) (o : Pair) : State :=
  let t := o.task
  let x := s.task t
  if !x.built then (if s.taskPlaced t then s.firstPair t else s)
  -- the pair of an old layout stays where it is until the new one is built from it (R170)
  else if x.oldPair.isSome && !x.migrated then s
  else match s.planInst t with
    | none => s.setTask t { x with oldBase := none, saved := some (o.words, o.data) }
    | some nb =>
      if o.base = some nb ∧ x.saved = none then s
      else s.setTask t { x with
        oldBase := some (o.base.getD nb)
        saved := if s.inProgress.contains t then x.saved else some (o.words, o.data) }

/-- What a new plan does to one declared task: its registers and its data. -/
def State.replanTask (s : State) (o : Pair) : State :=
  let t := o.task
  let s1 := if s.prt.restore.contains t
    then (s.setTask t { s.task t with halted := false, traps := 0 }).put (Fld.PRT_TSTAT_consec t) 0 else s
  let s3 := s1.replanPair o
  let s4 := if s3.taskPlaced t then s3 else s3.setTask t { s3.task t with pending := none }
  ((((s4.put (Fld.PRT_TSTAT_lane t) (s4.taskLane t)).put (Fld.PRT_TSTAT_crit t) (s4.taskCrit t)).put
    (Fld.PRT_TSTAT_part t) (s4.taskPart t)).put (Fld.PRT_TBUD_budget t) (s4.taskBudget t)).showTask t

/-- Fallback plans for the loss of each usable pair (R133). -/
def State.prepareFallbacks (s : State) : State :=
  { s with prt := { s.prt with
      fallback := (upFrom 0 4).filterMap fun p =>
        if s.pairUsable p then
          let r := s.placementRun 5 false [p] s.runMhz
          if r.result = 2 then none else some (p, r.words)
        else none } }

/-- The report of the plan that has taken effect, with its boundary (R135). -/
def State.stampReport (s : State) : State :=
  match s.prt.planReport with
  | some id =>
    { s with prt := { s.prt with
        planReport := none, restore := [],
        reports := s.prt.reports.map fun (i, ws) => if i = id then (i, ws.set 1 (lo32 s.time)) else (i, ws) } }
  | none =>
    let s1 := s.fileReport (s.placementRun 5 false [] s.runMhz) (s.fld Fld.PRT_PLANSTAT_seq)
    { s1 with prt := { s1.prt with
        reports := s1.prt.reports.map fun (i, ws) =>
          if i = s1.prt.reportId then (i, ws.set 1 (lo32 s.time)) else (i, ws) } }

/-- A checked plan at a trade-cycle boundary (R108). -/
def State.applyPlan (s : State) : State :=
  match s.prt.planNext with
  | none => s
  | some k =>
    let b := planArea k
    let apply := s.word (b + 8)
    if apply != 0 && decide (since32 (lo32 s.time) apply < 0) then s
    else
      let s0 := { (s.flag Fld.PRT_PLANSTAT_pending false) with prt := { s.prt with planNext := none } }
      if bits (s0.word (b + 0xC)) 11 0 != s0.fld Fld.SYS_TCYC_len then s0.noteCheck 4
      else
        let old := s0.declared.map s0.pairOf
        let s1 := (s0.put Fld.PRT_PLANSTAT_active k).put Fld.PRT_PLANSTAT_seq (bits (s0.word (b + 4)) 15 0)
        let s2 := (upFrom 0 8).foldl State.keepAct s1
        let s3 := old.foldl State.replanTask (old.foldl (fun s o => s.keepSusp o.task o.lane) s2)
        let s4 := match s3.prt.opNext with
          | some p => { ((s3.put Fld.AGE_OP_station p).flag Fld.AGE_OP_pending false) with
              prt := { s3.prt with opNext := none } }
          | none => s3
        let s5 := s4.stampReport.prepareFallbacks
        -- an earlier boundary was the windward module's (R108, R207)
        if apply != 0 && decide (4 * (s.tcyc : Nat) ≤ since32 (lo32 s.time) apply) && s5.mode == mStandby then s5.loseStep 5
        else s5

/-- Station firmware has copied the committed data of task `t` to its new place (R129). The move ends when
no activation of the task is in progress. -/
def State.moveDone (s : State) (t : Nat) : State :=
  match (s.task t).oldBase with
  | none => s
  | some b =>
    if s.inProgress.contains t then s
    else
      let (ws, data) := match (s.task t).saved with
        | some x => x
        | none => (s.words (b + 0x10) 3, s.committed b 0 (s.instSize b))
      let s1 := s.setTask t { s.task t with oldBase := none, saved := none }
      let nb := (s.planInst t).getD b
      let n := data.length
      (((s1.buildPair nb t n []).setWords (nb + 0x10) ws).setBytes (nb + 0x40 + 2 * mapBytes n) data).chargeDram 0
        (dramLines b n + dramLines nb n)

end Sys2Proof.Machine
end

