-- ==== Sys2Proof/Machine/Profiles.lean ====
section
/-! DEFINITION. Profile generators (R292 to R312): limits, planning, updates, commands, travel limits and
homing. Positions, velocities and accelerations carry 64 fractional bits. How a profile is scaled so that
it ends on the target in whole updates is the model's own where R296 leaves it open (log entry 86). -/

namespace Sys2Proof.Machine

/-! ### Records and limits (R300, R310) -/

def State.genRec (s : State) (g : Nat) : List Word := s.rec_ 0x06 g
def State.homeRec (s : State) (g : Nat) : List Word := s.rec_ 0x06 (0x100 + g)

def genEn (r : List Word) : Bool := wBit r 0 0
/-- Update period in units of 25 µs. -/
def genPeriod (r : List Word) : Nat :=
  if wBits r 0 2 1 = 0 then 2 else if wBits r 0 2 1 = 1 then 5 else 10

/-- A 32.32 value of two words, unsigned or signed, with 64 fractional bits. -/
def fx (r : List Word) (i : Nat) : Int := (wPair r i : Int) * 2 ^ 32
def fxS (r : List Word) (i : Nat) : Int := signed 64 (wPair r i) * 2 ^ 32

/-- Sign of a number, as −1, 0, 1. -/
def sgn (v : Int) : Int := if v < 0 then -1 else if v = 0 then 0 else 1

/-- A time of `n` updates applied to a rate: v × n × T, T in units of 25 µs. -/
def overT (v : Int) (n tu : Nat) : Int := v * (n * tu : Nat) / 40000

/-! ### Planning (R296 to R299) -/

/-- Updates of `tu` × 25 µs that cover a change of `v` at rate `j` per second, rounded up. -/
def updatesFor (v j : Int) (tu : Nat) : Nat :=
  if j ≤ 0 then 0 else ((v.natAbs * 40000 + (j.toNat * tu - 1)) / (j.toNat * tu))

/-- Square root of a product of two values with 64 fractional bits each. -/
def fxSqrt (v : Int) : Int := (isqrt (v.toNat)) where
  /-- Integer square root by bits. -/
  go (n : Nat) : Nat → Nat → Nat
    | 0, r => r
    | i + 1, r => go n i (if (r + 2 ^ i) * (r + 2 ^ i) ≤ n then r + 2 ^ i else r)
  isqrt (n : Nat) : Int := (go n 200 0 : Nat)

/-- Counts of the three phases that change velocity from `v0` at acceleration `a0` to `v1` at rest, with
jerk `j` and acceleration limit `l` (R295, R296). -/
def changeCounts (v0 a0 v1 j l : Int) (tu : Nat) : Nat × Nat × Nat :=
  if j ≤ 0 then (0, 0, 0)
  else
    let free := v0 + a0 * a0.natAbs / (2 * j)
    let d := sgn (v1 - free)
    if d = 0 then (0, 0, updatesFor a0 j tu)
    else
      let sq := j * (d * (v1 - v0)) + a0 * a0 / 2
      let peak := min (fxSqrt (if sq < 0 then 0 else sq)) l
      let n1 := updatesFor (d * peak - a0) j tu
      let n3 := updatesFor peak j tu
      let ramp := (d * peak - a0).natAbs * ((d * peak + a0) / 2) / j + d * (peak * peak / (2 * j))
      let rest := d * (v1 - v0 - ramp)
      let n2 := if peak ≤ 0 ∨ rest ≤ 0 then 0 else updatesFor rest peak tu
      (n1, n2, n3)

/-- The peak acceleration that makes the three phases end exactly at `v1` (R296). -/
def changePeak (v0 a0 v1 : Int) (c : Nat × Nat × Nat) (tu : Nat) : Int :=
  let k : Int := (c.1 + 2 * c.2.1 + c.2.2 : Nat)
  if k = 0 then 0 else (2 * (v1 - v0) * 40000 / tu - a0 * (c.1 : Nat)) / k

/-- The phases of a velocity change, and the distance they cover. -/
def changePhases (v0 a0 v1 : Int) (c : Nat × Nat × Nat) (tu : Nat) : List Phase :=
  let p := changePeak v0 a0 v1 c tu
  let j := fun (d : Int) (n : Nat) => if n = 0 then 0 else d * 40000 / (n * tu : Nat)
  ([(c.1, j (p - a0) c.1), (c.2.1, 0), (c.2.2, j (-p) c.2.2)].filter (fun x => x.1 != 0)).map
    fun x => ⟨x.1, x.2⟩

/-- One update under jerk `j`: P, V and A integrated exactly (R295). -/
def genStep (p v a j : Int) (tu : Nat) : Int × Int × Int :=
  let a' := a + overT j 1 tu
  let v' := v + overT a 1 tu + overT (overT j 1 tu) 1 tu / 2
  let p' := p + overT v 1 tu + overT (overT a 1 tu) 1 tu / 2 + overT (overT (overT j 1 tu) 1 tu) 1 tu / 6
  (p', v', a')

/-- A whole phase integrated at once. -/
def phaseEnd (x : Int × Int × Int) (ph : Phase) (tu : Nat) : Int × Int × Int :=
  let (p, v, a) := x
  let n := ph.n
  let jt := overT ph.j n tu
  (p + overT v n tu + overT (overT a n tu) n tu / 2 + overT (overT jt n tu) n tu / 6,
   v + overT a n tu + overT jt n tu / 2, a + jt)

def phasesEnd (x : Int × Int × Int) (ps : List Phase) (tu : Nat) : Int × Int × Int :=
  ps.foldl (fun x ph => phaseEnd x ph tu) x

/-- The limit that governs a change of speed: dmax while speed falls, amax while it rises (R296). -/
def changeLimit (g : Gen) (v1 : Int) : Int := if v1.natAbs < g.v.natAbs then g.dmax else g.amax

/-- The stop from the present state (R303). -/
def stopPhases (g : Gen) (tu : Nat) : List Phase :=
  changePhases g.v g.a 0 (changeCounts g.v g.a 0 g.jmax g.dmax tu) tu

/-- Where a stop from the present state ends. -/
def stopPoint (g : Gen) (tu : Nat) : Int := (phasesEnd (g.p, g.v, g.a) (stopPhases g tu) tu).1

/-- A velocity change to `v1` planned (R299): phases 1 to 3 or 5 to 7. -/
def Gen.planVel (g : Gen) (v1 : Int) (tu : Nat) : Gen :=
  let c := changeCounts g.v g.a v1 g.jmax (changeLimit g v1) tu
  { g with plan := changePhases g.v g.a v1 c tu, endPos := none, endVel := v1 }

/-- Phases of a move with cruise velocity `vc`: change to it, cruise `n` updates, change to rest. -/
def movePhases (g : Gen) (vc : Int) (c1 c2 : Nat × Nat × Nat) (n tu : Nat) : List Phase :=
  changePhases g.v g.a vc c1 tu ++ (if n = 0 then [] else [⟨n, 0⟩]) ++ changePhases vc 0 0 c2 tu

def moveEnd (g : Gen) (vc : Int) (c1 c2 : Nat × Nat × Nat) (n tu : Nat) : Int :=
  (phasesEnd (g.p, g.v, g.a) (movePhases g vc c1 c2 n tu) tu).1

/-- Whether a move with cruise velocity `vc` and no cruise ends at or before `x`, in direction `d`. -/
def moveFits (g : Gen) (x d vc : Int) (tu : Nat) : Bool :=
  let c1 := changeCounts g.v g.a vc g.jmax (changeLimit g vc) tu
  let c2 := changeCounts vc 0 0 g.jmax g.dmax tu
  decide (d * (moveEnd g vc c1 c2 0 tu - x) ≤ 0)

/-- The highest cruise speed below `hi` that fits, by bisection. -/
def fitSpeed (g : Gen) (x d : Int) (tu : Nat) : Nat → Int → Int → Int
  | 0, lo, _ => lo
  | n + 1, lo, hi =>
    let mid := (lo + hi) / 2
    if moveFits g x d (d * mid) tu then fitSpeed g x d tu n mid hi else fitSpeed g x d tu n lo mid

/-- Cruise velocity that ends the profile exactly on `x` for fixed counts: the end is linear in it. -/
def solveSpeed (g : Gen) (x : Int) (c1 c2 : Nat × Nat × Nat) (n tu : Nat) (v0 : Int) : Int :=
  let unit : Int := 2 ^ 64
  let e0 := moveEnd g 0 c1 c2 n tu
  let e1 := moveEnd g unit c1 c2 n tu
  if e1 = e0 then v0 else (x - e0) * unit / (e1 - e0)

/-- A move to `x` that needs no reversal (R296): cruise at vmax or at the speed that fits, in whole
updates, then scaled so that it ends on `x`. -/
def Gen.planTo (g : Gen) (x : Int) (tu : Nat) : Gen :=
  let d := sgn (x - g.p)
  let vc := if moveFits g x d (d * g.vmax) tu then d * g.vmax
    else d * fitSpeed g x d tu 100 0 g.vmax
  let c1 := changeCounts g.v g.a vc g.jmax (changeLimit g vc) tu
  let c2 := changeCounts vc 0 0 g.jmax g.dmax tu
  let gap := d * (x - moveEnd g vc c1 c2 0 tu)
  let n := if vc = 0 then 0 else updatesFor gap (d * vc) tu
  let v := solveSpeed g x c1 c2 n tu vc
  { g with plan := movePhases g v c1 c2 n tu, endPos := some x, endVel := 0, replan := false }

/-- A target taken (R297): ahead of the stopping point it is planned to; otherwise the axis reverses, and
the overshoot and the reversal point are reported. -/
def Gen.planMove (g : Gen) (x : Int) (tu : Nat) : Gen :=
  let moving := g.v != 0 || g.a != 0
  let d := if g.v = 0 then sgn g.a else sgn g.v
  let sp := stopPoint g tu
  if !moving then
    { g.planTo x tu with ovs := 0, reverse := false, softlim := false }
  else if d * (x - sp) ≥ 0 then { g.planTo x tu with ovs := 0, reverse := false }
  else
    { g with
      plan := stopPhases g tu, endPos := none, endVel := 0, replan := true,
      ovs := (sp - g.p).natAbs, rev := sp, reverse := true }

/-- Whether a soft limit is on and the position lies outside. -/
def softOut (r : List Word) (x : Int) : Bool :=
  wBit r 0 19 && (decide (x < fxS r 10) || decide (fxS r 12 < x))

/-- Velocity mode planned from the present P, V and A (R298, R299): at the velocity asked for, held at vmax; with soft limits on, so
that the axis comes to standstill at the one ahead, or stops at once where it cannot. -/
def Gen.planVelocity (g : Gen) (r : List Word) (tu : Nat) : Gen :=
  let v := clampI (-g.vmax) g.vmax g.vask
  let d := sgn v
  let x := if d < 0 then fxS r 10 else fxS r 12
  if !wBit r 0 19 || d = 0 then g.planVel v tu
  else if d * (x - stopPoint g tu) < 0 || d * (x - g.p) < 0 then
    { g with plan := stopPhases g tu, endPos := none, endVel := 0, replan := false }
  else { { g with vmax := v.natAbs }.planTo x tu with vmax := g.vmax }

/-! ### Commands (R298, R299, R303, R304) -/

/-- Generator states. -/
def gsOff : Nat := 0
def gsStandstill : Nat := 1
def gsMove : Nat := 2
def gsVelocity : Nat := 3
def gsStopping : Nat := 4
def gsHoming : Nat := 5
def gsLimit : Nat := 6

/-- Whether a direction is away from the latched switches. -/
def Gen.away (g : Gen) (d : Int) : Bool := (!g.limpos || decide (d < 0)) && (!g.limneg || decide (0 < d))

/-- A command turned away: its sequence is recorded (R304). -/
def Gen.reject (g : Gen) : Gen := { g with cmderr := true }

def Gen.stop (g : Gen) (tu : Nat) : Gen :=
  { g with
    plan := stopPhases g tu, endPos := none, endVel := 0, replan := false, reverse := false,
    state := if g.v = 0 ∧ g.a = 0 then gsStandstill else gsStopping }

/-- A stop that keeps the state, for homing and travel limits. -/
def Gen.brake (g : Gen) (tu : Nat) : Gen :=
  { g with plan := stopPhases g tu, endPos := none, endVel := 0, replan := false, reverse := false }

/-- GSTAT.softlim of the profile in force (R298). -/
def Gen.judgeSoft (g : Gen) (r : List Word) : Gen := { g with softlim := g.reverse && softOut r g.rev }

/-- MOVE (R297, R298). -/
def Gen.move (g : Gen) (r : List Word) (x : Int) (tu : Nat) : Gen :=
  ({ g with target := x, tgterr := false, state := gsMove }.planMove x tu).judgeSoft r

/-- VELOCITY (R299). -/
def Gen.velocity (g : Gen) (r : List Word) (v : Int) (tu : Nat) : Gen :=
  let above := decide (g.vmax < v.natAbs)
  { g with
    vask := v, vtarget := if above then sgn v * g.vmax else v, cmderr := above, state := gsVelocity
    reverse := false, replan := false, softlim := false }.planVelocity r tu

/-- The homing fails with a cause; the axis stops (R308). -/
def Gen.failHome (g : Gen) (cause tu : Nat) : Gen :=
  { g.brake tu with hState := 9, hCause := cause, state := gsStopping }

/-- HOME (R307, R308). -/
def Gen.home (g : Gen) (h : List Word) (tu : Nat) : Gen :=
  { g.brake tu with
    state := gsHoming, hState := 1, hCause := 0, hRev := false, hMode := wBits h 0 2 0, hSet := false, hFinal := false }

/-- STOP: in HOMING it fails the homing with cause 4. -/
def Gen.cmdStop (g : Gen) (tu : Nat) : Gen :=
  if g.state = gsHoming then g.failHome 4 tu
  else if g.state = gsLimit then g.brake tu else g.stop tu

/-- CLEAR (R303). -/
def Gen.clear (g : Gen) : Gen :=
  { g with
    limpos := false, limneg := false,
    state := if g.state = gsLimit then (if g.v = 0 ∧ g.a = 0 then gsStandstill else gsStopping) else g.state,
    hState := if g.hState = 9 then 0 else g.hState, hCause := if g.hState = 9 then 0 else g.hCause }

/-- What becomes of a new command, 1 MOVE, 2 VELOCITY, 3 STOP, 4 HOME, 5 CLEAR: 0 taken, 1 not taken in the present state (R304),
2 a target refused (R298). -/
def Gen.judge (g : Gen) (r : List Word) (code : Nat) (x : Int) : Nat :=
  if g.state = gsOff || (g.state = gsHoming && code != 3) || code = 0 || 5 < code then 1
  else if code = 1 then (if g.state = gsLimit && !g.away (sgn (x - g.p)) then 1 else if softOut r x then 2 else 0)
  else if code = 2 then b1 (g.state = gsLimit && !g.away (sgn x))
  else 0

/-- Whether a command is new: its sequence differs from the last one taken (R303). -/
def Gen.newCmd (g : Gen) (seq : Nat) : Bool := !(g.seqTaken && g.seq == seq)

/-- A command with its sequence and its target or velocity (R303, R304). -/
def Gen.command (g : Gen) (r h : List Word) (code seq : Nat) (x : Int) (tu : Nat) : Gen :=
  if !g.newCmd seq then g
  else
    let g1 := { g with seq := seq, seqTaken := true, cmderr := false }
    let k := g1.judge r code x
    if k = 1 then g1.reject
    else if k = 2 then { g1 with tgterr := true }
    else if code = 1 then g1.move r x tu
    else if code = 2 then g1.velocity r x tu
    else if code = 3 then g1.cmdStop tu
    else if code = 4 then g1.home h tu
    else g1.clear

/-! ### Switches (R305, R306) -/

/-- One sample of a switch at active level `on`, with P now: the switch, whether it gave a valid edge,
and whether an edge was held off: a return to the level of the latched edge, as Example 2 counts them, or a debounced edge away
from it. -/
def Switch.sample (x : Switch) (on : Bool) (p : Int) (deb : Nat) : Switch × Bool × Bool :=
  let started := if on = x.run then x else { x with run := on, count := 0, runP := p }
  let n := if on = x.run then x.count + 1 else 0
  let y := { started with count := n }
  if on != y.level && decide (deb ≤ n) then
    ({ y with level := on }, !y.hold, y.hold)
  else (y, false, on != x.run && on == y.level && y.hold)

/-- The hold-off ends at standstill, the level having held for the debounce count (R306). -/
def Switch.settle (x : Switch) (still : Bool) (deb : Nat) : Switch :=
  if x.hold && still && decide (deb ≤ x.count) then { x with hold := false } else x

/-- Search direction of the homing, inverted once by REVERSE. -/
def Gen.searchDir (g : Gen) (h : List Word) : Int :=
  let d : Int := if wBit h 0 3 then -1 else 1
  if g.hRev then -d else d

/-- A valid edge of a travel limit outside homing (R305). -/
def Gen.limitEdge (g : Gen) (neg : Bool) (at_ : Int) (tu : Nat) : Gen :=
  let g1 := { g with latch := at_ }
  { g1.brake tu with
    state := gsLimit,
    limpos := g.limpos || !neg, limneg := g.limneg || neg,
    swPos := if neg then g.swPos else { g.swPos with hold := true },
    swNeg := if neg then { g.swNeg with hold := true } else g.swNeg }

/-- A valid edge of the search switch or of a travel limit in homing (R307, R308). `which`: 0 positive
limit, 1 negative limit, 2 home switch; `on`: the edge's new level. -/
def Gen.homeEdge (g : Gen) (h : List Word) (which : Nat) (on : Bool) (at_ : Int) (tu : Nat) : Gen :=
  let dir := g.searchDir h
  let limIn := if dir < 0 then 1 else 0
  let search := if g.hMode = 3 then limIn else 2
  if g.hState = 2 && on && which == search && g.hMode != 2 then
    { g.brake tu with latch := at_, hState := 4 }
  else if g.hState = 2 && on && which == limIn && g.hMode != 3 then
    if g.hRev then g.failHome 2 tu else { g.brake tu with hState := 3 }
  else if g.hState = 3 && on && which != 2 then g.failHome 2 tu
  else if g.hState = 5 && !on && which == search then
    let g1 := { g with latch := at_, hRef := at_ }
    if g.hMode = 1 then { g1 with hState := 6, hFrom := g.p } else { g1.brake tu with hState := 7 }
  else if (g.hState = 5 || g.hState = 6) && on && which != 2 && which != search then g.failHome 2 tu
  else g

/-- A sample of switch `which` of generator `g` at active level `on`. -/
def Gen.sampleSwitch (g : Gen) (r h : List Word) (which : Nat) (on : Bool) (tu : Nat) : Gen :=
  let deb := if which = 2 then wBits h 0 11 4 else wBits r 0 28 21
  let sw := if which = 0 then g.swPos else if which = 1 then g.swNeg else g.swHome
  let (sw1, edge, held) := sw.sample on g.p deb
  let g1 := if which = 0 then { g with swPos := sw1 } else if which = 1 then { g with swNeg := sw1 }
    else { g with swHome := sw1 }
  let g2 := if held then
      (if which = 2 then { g1 with chatHome := satInc 16 g1.chatHome }
      else { g1 with chatLimit := satInc 16 g1.chatLimit }) else g1
  if !edge then
    if which != 2 && !sw1.level && decide (deb ≤ sw1.count) then
      if which = 0 && g2.limpos && g2.v < 0 then { g2 with limpos := false }
      else if which = 1 && g2.limneg && 0 < g2.v then { g2 with limneg := false }
      else g2
    else g2
  else if g.state = gsHoming then
    let g3 := g2.homeEdge h which on sw1.runP tu
    if g3.hState = g2.hState then g3
    else if which = 0 then { g3 with swPos := { g3.swPos with hold := true } }
    else if which = 1 then { g3 with swNeg := { g3.swNeg with hold := true } }
    else { g3 with swHome := { g3.swHome with hold := true } }
  else if which = 2 || !on || !wBit r 0 20 then g2
  else
    let d := if g2.v = 0 then sgn g2.a else sgn g2.v
    if (which = 0 && 0 < d) || (which = 1 && d < 0) then g2.limitEdge (which == 1) sw1.runP tu else g2

/-! ### Updates (R294 to R296, R301, R308, R309) -/

/-- One update of the profile in force; the last one ends exactly on the target (R296). -/
def Gen.advance (g : Gen) (tu : Nat) : Gen :=
  match g.plan with
  | [] => { g with p := g.p + overT g.v 1 tu }
  | ph :: rest =>
    let (p, v, a) := genStep g.p g.v g.a ph.j tu
    let rest' := if ph.n ≤ 1 then rest else ⟨ph.n - 1, ph.j⟩ :: rest
    if rest'.isEmpty then
      let pe := match g.endPos with | some x => x | none => p
      { g with p := pe, v := g.endVel, a := 0, plan := [] }
    else { g with p := p, v := v, a := a, plan := rest' }

/-- What standstill means for the state and for the homing (R303, R305, R308). -/
def Gen.arrive (g : Gen) (r h : List Word) (tu : Nat) : Gen :=
  if g.v != 0 || g.a != 0 || !g.plan.isEmpty then g
  else if g.replan then
    { g with replan := false, reverse := false, softlim := false }.planTo g.target tu
  else if g.state = gsStopping then { g with state := gsStandstill }
  else if g.state = gsMove then { g with state := gsStandstill }
  else if g.state = gsHoming then
    let dir := g.searchDir h
    let lim := if dir < 0 then g.swNeg.level else g.swPos.level
    let speed := if g.hMode = 2 then fx h 5 else fx h 3
    if g.hState = 1 then
      if g.hMode = 4 then { g with hState := 7, hRef := g.p }
      else if (g.hMode < 2 && g.swHome.level) || (g.hMode = 3 && lim) then
        { g with hState := 5, hFrom := g.p }.planVel (-dir * fx h 5) tu
      else { g with hState := 2, hFrom := g.p }.planVel (dir * speed) tu
    else if g.hState = 3 then { g with hState := 2, hRev := true }.planVel (-dir * speed) tu
    else if g.hState = 4 then { g with hState := 5 }.planVel (-dir * fx h 5) tu
    else if g.hState = 7 then
      let shift := fxS h 7 - g.hRef
      let g1 := if g.hSet then g else { g with p := g.p + shift, target := g.target + shift, hSet := true }
      if wBit h 0 13 && !g.hFinal then { g1 with hFinal := true, target := fxS h 11 }.planTo (fxS h 11) tu
      else { g1 with hState := 8, homed := true, state := gsStandstill }
    else g
  else
    let _ := r
    g

/-- Failure causes that an update can find (R308): 1, 3 and 6. -/
def Gen.homeChecks (g : Gen) (h : List Word) (badPoint : Bool) (tu : Nat) : Gen :=
  if g.state != gsHoming || g.hState < 2 || 7 < g.hState then g
  else if badPoint then g.failHome 3 tu
  else if (g.hState = 2 || g.hState = 3 || g.hState = 4 || g.hState = 5) &&
      decide (fx h 9 < (g.p - g.hFrom).natAbs) then g.failHome 1 tu
  else if g.hState = 6 && decide (fx h 9 < (g.p - g.hFrom).natAbs) then g.failHome 6 tu
  else g

/-- An encoder index met at position `at_` (R307, R308). -/
def Gen.index (g : Gen) (at_ : Int) (tu : Nat) : Gen :=
  if g.state = gsHoming && ((g.hState = 2 && g.hMode == 2) || g.hState = 6) then
    { g.brake tu with latch := at_, hRef := at_, hState := 7 }
  else g

/-- The target of a move planned afresh under other limits: of a reversal in progress the overshoot keeps the P of the trigger that
took the target (R297, R301). -/
def Gen.planAgain (g : Gen) (r : List Word) (tu : Nat) : Gen :=
  let y := g.planMove g.target tu
  (if g.replan && y.reverse then { y with ovs := max 0 (g.ovs + sgn g.v * (y.rev - g.rev)) } else y).judgeSoft r

/-- The speed at which a homing searches, or creeps back (R308). -/
def Gen.homeSpeed (g : Gen) (h : List Word) : Int :=
  if g.hState = 2 then g.searchDir h * (if g.hMode = 2 then fx h 5 else fx h 3) else -g.searchDir h * fx h 5

/-- What the axis is about planned afresh under the limits in force (R301): a move, velocity mode, the speed of a homing, or a
stop. -/
def Gen.replanned (g : Gen) (r h : List Word) (tu : Nat) : Gen :=
  if g.state = gsMove then g.planAgain r tu
  else if g.state = gsVelocity then g.planVelocity r tu
  else if g.state = gsHoming && (g.hState = 2 || g.hState = 5 || g.hState = 6) then
    g.planVel (clampI (-g.vmax) g.vmax (g.homeSpeed h)) tu
  else match g.endPos with
    | some x => g.planTo x tu
    | none => { g with plan := stopPhases g tu, endVel := 0 }

/-- Whether the plan in force brings the axis to standstill at no given position. -/
def Gen.stopping (g : Gen) : Bool := !g.plan.isEmpty && g.endPos.isNone && g.endVel == 0

/-- A limit in force changed while the axis moves (R301). -/
def Gen.relimit (g : Gen) (r h : List Word) (vm am dm jm : Int) (tu : Nat) : Gen :=
  if g.vmax = vm ∧ g.amax = am ∧ g.dmax = dm ∧ g.jmax = jm then g
  else
    let slow := decide (vm < g.v.natAbs)
    let g1 := { g with
      vmax := vm, amax := am, dmax := dm, jmax := jm, slowing := slow
      vtarget := if g.state = gsVelocity then clampI (-vm) vm g.vask else g.vtarget }
    if g.plan.isEmpty && g.v = 0 && g.a = 0 then g1
    else if slow && !g.stopping then { g1.planVel (sgn g.v * vm) tu with replan := false }
    else g1.replanned r h tu

/-- Slowing ends when the speed is within vmax; the target is planned again (R301). -/
def Gen.endSlow (g : Gen) (r h : List Word) (tu : Nat) : Gen :=
  if g.slowing && decide (g.v.natAbs ≤ g.vmax) then
    let g1 := { g with slowing := false }
    if g.plan.isEmpty && g.endVel != 0 then g1.replanned r h tu else g1
  else g

/-- GSTAT (R312). -/
def Gen.stat (g : Gen) : Word :=
  let inpos := g.state != gsOff && g.p == g.target && g.v == 0 && g.a == 0
  wd (g.state + 16 * b1 inpos + 32 * b1 g.reverse + 64 * b1 g.slowing + 128 * b1 g.homed +
    256 * b1 g.tgterr + 512 * b1 g.cmderr + 1024 * b1 g.softlim + 2048 * b1 g.limpos +
    4096 * b1 g.limneg + g.seq % 256 * 65536)

/-- PG_HOMESTAT. -/
def Gen.homeStat (g : Gen) : Word :=
  wd (g.hState + g.hCause * 16 + 256 * b1 g.hRev + g.hMode * 512)

/-- An item as the trigger of an update takes it: 5 µs before the grid point (R294), the newest publication before that
clock (R31). -/
def State.genPub (s : State) (g item : Nat) : Point := s.outAt (genItem g item) (s.time - 5001)

/-- Limits in force by item: 3 VLIM, 4 ALIM, 5 DLIM, 6 JLIM. -/
def Gen.limit (x : Gen) (item : Nat) : Int :=
  if item = 3 then x.vmax else if item = 4 then x.amax else if item = 5 then x.dmax else x.jmax

/-- Whether a publication of a limit has yet to be taken. -/
def State.limitNew (s : State) (g item : Nat) : Bool :=
  let p := s.genPub g item
  p.q != 3 && ((s.gen g).limAt.getD (item - 3) none) != some p.time

/-- A limit in force after a trigger (R300): a new publication held at the record's ceiling, which 0 selects too. -/
def State.genLimit (s : State) (g item word : Nat) : Int :=
  let ceil := fx (s.genRec g) word
  let v : Int := (s.genPub g item).val.toNat * 2 ^ 32
  if !s.limitNew g item then (s.gen g).limit item else if v = 0 || ceil < v then ceil else v

/-- Whether a switch or encoder point of the homing is bad or not available (R308). -/
def State.homeBad (s : State) (g : Nat) : Bool :=
  let h := s.homeRec g
  let m := wBits h 0 2 0
  let bad := fun (a : Word) => decide (2 ≤ (s.input a.toNat).q)
  (m < 2 && bad (wAt h 1)) || ((m == 1 || m == 2) && bad (wAt h 2)) ||
    (wBit (s.genRec g) 0 20 && (bad (wAt (s.genRec g) 14) || bad (wAt (s.genRec g) 15)))

/-- What a generator shows: its target point, its items, the moving bits (R302, R312). -/
def State.showGen (s : State) (g : Nat) : State :=
  let x := s.gen g
  let r := s.genRec g
  let p := unsigned 64 (to32 x.p)
  let s1 := if wBit r 0 18 then s.publish (wAt r 1).toNat (BitVec.ofNat 64 p) else s
  let s2 := ((((s1.setPoint (genItem g 7) p 0).setPoint (genItem g 8) (unsigned 64 (to32 x.v)) 0).setPoint
    (genItem g 9) (unsigned 64 (to32 x.a)) 0).setPoint (genItem g 10) x.stat.toNat 0)
  let s3 := (s2.setPoint (genItem g 11) (unsigned 64 (to32 x.ovs)) 0).setPoint (genItem g 12)
    x.homeStat.toNat 0
  s3.putBit (if g < 32 then Fld.PG_MOVING0_moving else Fld.PG_MOVING1_moving) (g % 32)
    (x.v != 0 || x.a != 0)

/-- A refused command or target counted (PG_CMDERR), of generator `g` before a command. -/
def State.countGenErr (s : State) (g : Gen) (r : List Word) (code seq : Nat) (x : Int) : State :=
  if !g.newCmd seq then s
  else if g.judge r code x = 1 then s.bump Fld.PG_CMDERR_cmd
  else if g.judge r code x = 2 then s.bump Fld.PG_CMDERR_target else s

/-- A reference set: the encoder's reference is shifted with P (R309, R412). -/
def State.shiftEncoder (s : State) (g : Nat) (old new : Gen) : State :=
  if !old.hSet && new.hSet then
    let shift := to32 (fxS (s.homeRec g) 7 - old.hRef) / 2 ^ 32
    let a := (wAt (s.homeRec g) 2).toNat
    match (upFrom 0 2).find? fun e => ptAddr s.stationNode 6 (4 + e) 0 == a with
    | some e => s.shiftRef e shift
    | none => s
  else s

/-- What the trigger of an update takes (R294): the limits, a command with its target or velocity, and whether a point of the homing
is bad. -/
structure GenIn where
  vm : Int
  am : Int
  dm : Int
  jm : Int
  cmd : Option Nat
  arg : Int
  bad : Bool
  deriving DecidableEq, Repr

def State.genInputs (s : State) (g : Nat) : GenIn :=
  let c := s.genPub g 2
  { vm := s.genLimit g 3 2, am := s.genLimit g 4 4, dm := s.genLimit g 5 6, jm := s.genLimit g 6 8
    cmd := if c.q = 3 then none else some c.val.toNat
    arg := (s.genPub g (if c.val.toNat / 256 % 16 = 2 then 1 else 0)).val.toInt * 2 ^ 32, bad := s.homeBad g }

/-- Kind of the item that carries to the leeward module what a generator takes (R202, R311), and what it tells: an update, a
command, a sample of a switch, an index, the position at which a generator starts, or a loss of count. -/
def fwGen : Nat := 24
def genInWords (i : GenIn) : List Word :=
  let q := fun (v : Int) => unsigned 64 (v / 2 ^ 32)
  [i.vm, i.am, i.dm, i.jm, i.arg].flatMap (fun v => [lo32 (q v), hi32 (q v)]) ++
    [wd (b1 i.cmd.isSome + 2 * b1 i.bad), wd (i.cmd.getD 0)]
def genInOf (ws : List Word) : GenIn :=
  let q : Nat → Nat := fun k => (wAt ws (2 * k)).toNat + (wAt ws (2 * k + 1)).toNat * 2 ^ 32
  { vm := (q 0 : Int) * 2 ^ 32, am := (q 1 : Int) * 2 ^ 32, dm := (q 2 : Int) * 2 ^ 32, jm := (q 3 : Int) * 2 ^ 32
    arg := signed 64 (q 4) * 2 ^ 32, bad := wBit ws 10 1, cmd := if wBit ws 10 0 then some (wAt ws 11).toNat else none }

/-- An update on what its trigger took: P, V and A move by one period, and the switches settle (R294, R300, R303). -/
def State.updateWith (s : State) (g : Nat) (i : GenIn) : State :=
  let r := s.genRec g
  let h := s.homeRec g
  let tu := genPeriod r
  let x0 := s.gen g
  let x1 := x0.relimit r h i.vm i.am i.dm i.jm tu
  let c := i.cmd.getD 0
  let code := c / 256 % 16
  let x2 := if i.cmd.isNone then x1 else x1.command r h code (c % 256) i.arg tu
  let s1 := if i.cmd.isNone then s else s.countGenErr x1 r code (c % 256) i.arg
  let x3 := (x2.homeChecks h i.bad tu).advance tu
  let still := x3.v == 0 && x3.a == 0
  let deb := wBits r 0 28 21
  let x4 := { x3 with
    swPos := x3.swPos.settle still deb, swNeg := x3.swNeg.settle still deb,
    swHome := x3.swHome.settle still (wBits h 0 11 4) }
  let x5 := (x4.endSlow r h tu).arrive r h tu
  ((s1.setGen g x5).shiftEncoder g x3 x5).showGen g

/-- An update of generator `g` (R294). A leeward module's generators run on forwarded values (R202). -/
def State.updateGen (s : State) (g : Nat) : State :=
  if !genEn (s.genRec g) || !s.takesTriggers then s
  else
    let i := s.genInputs g
    let x := s.gen g
    let taken := (upFrom 3 4).map fun k => if s.limitNew g k then some (s.genPub g k).time else x.limAt.getD (k - 3) none
    ((s.setGen g { x with limAt := taken }).updateWith g i).forward fwGen ([wd g] ++ genInWords i)

/-- A command taken (R303). -/
def State.commandWith (s : State) (g code seq : Nat) (arg : Int) : State :=
  let r := s.genRec g
  let x := s.gen g
  ((s.setGen g (x.command r (s.homeRec g) code seq arg (genPeriod r))).countGenErr x r code seq arg).showGen g

/-- A command published with its sequence and taken at once at the generator's trigger (R303). -/
def State.commandGen (s : State) (g code seq : Nat) (arg : Word64) : State :=
  let s1 := if code = 1 then s.publish (genItem g 0) arg
    else if code = 2 then s.publish (genItem g 1) arg else s
  let s2 := s1.publish (genItem g 2) (BitVec.ofNat 64 (code * 256 + seq % 256))
  if !genEn (s.genRec g) || !s2.takesTriggers then s2
  else
    (s2.commandWith g code (seq % 256) (arg.toInt * 2 ^ 32)).forward fwGen
      [wd (g + 2 ^ 16), wd (code * 256 + seq % 256), lo32 arg.toNat, hi32 arg.toNat]

/-- The active level of a switch point (R306, R310). For a travel limit a switch or encoder point of bad quality, or not available
any more, counts as active; a point that no sample has yet written does not. -/
def State.switchOn (s : State) (g which : Nat) (level : Bool) : Bool :=
  let r := s.genRec g
  let h := s.homeRec g
  let a := (wAt (if which = 2 then h else r) (if which = 0 then 14 else if which = 1 then 15 else 1)).toNat
  let act := if which = 2 then wBit h 0 12 else wBit r 0 29
  let lost := fun (p : Nat) => decide (2 ≤ (s.input p).q) && (SMap.get {} p s.pts).time != 0
  if which != 2 && (lost a || lost (wAt h 2).toNat) then true else level == act

/-- A sample of a switch at active level `on` (R305). -/
def State.sampleWith (s : State) (g which : Nat) (on : Bool) : State :=
  let r := s.genRec g
  (s.setGen g ((s.gen g).sampleSwitch r (s.homeRec g) which on (genPeriod r))).showGen g
def State.sampleGen (s : State) (g which : Nat) (level : Bool) : State :=
  if !genEn (s.genRec g) || !s.takesTriggers then s
  else
    let on := s.switchOn g which level
    (s.sampleWith g which on).forward fwGen [wd (g + 2 * 2 ^ 16), wd (which + 256 * b1 on)]

/-- An encoder index at position `p` of the generator's encoder (R307). -/
def State.indexWith (s : State) (g : Nat) (p : Int) : State :=
  (s.setGen g ((s.gen g).index p (genPeriod (s.genRec g)))).showGen g
def State.indexGen (s : State) (g : Nat) (count : Int) : State :=
  if !genEn (s.genRec g) || !s.takesTriggers then s
  else
    let c := unsigned 64 count
    (s.indexWith g (count * 2 ^ 64)).forward fwGen [wd (g + 3 * 2 ^ 16), lo32 c, hi32 c]

/-- A generator starts at a position (R311). -/
def State.startGen (s : State) (g : Nat) (p : Int) : State :=
  let r := s.genRec g
  (s.setGen g
    { p := p, target := p, state := gsStandstill, vmax := fx r 2, amax := fx r 4, dmax := fx r 6, jmax := fx r 8 }).showGen g

/-- What a windward module's generator took, taken at the leeward one (R202, R311). -/
def State.genForwarded (s : State) (ws : List Word) : State :=
  let g := (wAt ws 0).toNat % 64
  let what := (wAt ws 0).toNat / 2 ^ 16
  let p : Int := signed 64 ((wAt ws 1).toNat + (wAt ws 2).toNat * 2 ^ 32)
  if !genEn (s.genRec g) then s
  else if what = 0 then s.updateWith g (genInOf (ws.drop 1))
  else if what = 1 then
    s.commandWith g ((wAt ws 1).toNat / 256 % 16) ((wAt ws 1).toNat % 256)
      (signed 64 ((wAt ws 2).toNat + (wAt ws 3).toNat * 2 ^ 32) * 2 ^ 32)
  else if what = 2 then s.sampleWith g ((wAt ws 1).toNat % 256) (wBit ws 1 8)
  else if what = 3 then s.indexWith g (p * 2 ^ 64)
  else if what = 4 then s.startGen g (p * 2 ^ 32)
  else (s.setGen g { s.gen g with homed := false }).showGen g

/-- The encoder of generator `g` reports loss of count (R309). -/
def State.loseHomed (s : State) (g : Nat) : State :=
  if s.leeward then s else ((s.setGen g { s.gen g with homed := false }).showGen g).forward fwGen [wd (g + 5 * 2 ^ 16)]

/-- A generator record takes effect (R300, R309, R311): a generator that becomes enabled starts at its initial position; of one
that stays enabled the limits in force start at the new ceilings; one that is disabled keeps its target point as it was last
written. -/
def State.applyGenRec (s : State) (g : Nat) (old : List Word) : State :=
  let r := s.genRec g
  let x := s.gen g
  let bit := fun (s : State) b =>
    s.putBit (if g < 32 then Fld.PG_ENABLED0_en else Fld.PG_ENABLED1_en) (g % 32) b
  if !genEn r then
    (((bit s false).setGen g { x with state := gsOff, plan := [], v := 0, a := 0, homed := false }).putBit
      (if g < 32 then Fld.PG_MOVING0_moving else Fld.PG_MOVING1_moving) (g % 32) false)
  else if genEn old then
    if old = r then s
    else
      ((bit s true).setGen g ({ x with homed := false }.relimit r (s.homeRec g) (fx r 2) (fx r 4) (fx r 6) (fx r 8) (genPeriod r))).showGen g
  else
    let a := (wAt r 16).toNat
    let pt := s.input a
    let p0 : Int := if a != 0 && pt.q == 0 then pt.val.toInt else 0
    ((bit s true).startGen g (p0 * 2 ^ 32)).forward fwGen [wd (g + 4 * 2 ^ 16), lo32 (unsigned 64 p0), hi32 (unsigned 64 p0)]

/-- A homing record takes effect: a change clears the reference (R309). -/
def State.applyHomeRec (s : State) (g : Nat) (old : List Word) : State :=
  if old = s.homeRec g || !genEn (s.genRec g) then s else (s.setGen g { s.gen g with homed := false }).showGen g

/-- Homings in progress fail at a veer (R308). -/
def State.failHomings (s : State) : State :=
  (upFrom 0 64).foldl (fun s g =>
    let x := s.gen g
    if x.state = gsHoming then s.setGen g (x.failHome 5 (genPeriod (s.genRec g))) else s) s

end Sys2Proof.Machine
end

