-- ==== Sys2Proof/Machine/FieldIo.lean ====
section
/-! DEFINITION. Digital field I/O (R214, R215, R394 to R415): barrier frames and links, claims at the output stages,
field supplies, inputs, outputs and their switch-on limit, H-bridges, encoders and pickups. -/

namespace Sys2Proof.Machine

/-! ### Claims at the stages (R214, R215) -/

/-- Whether claim lines reach the stages: the module stands in a pair that is not a fibre pair. -/
def State.wired (s : State) : Bool := s.sys.pins.pair && !s.fibre

/-- Current of an AO fail level (R429). -/
def failLevel (x : FChan) : Int :=
  if wBits x.cfg 0 3 2 = 0 then 3200000 else if wBits x.cfg 0 3 2 = 1 then 22000000 else x.force

/-- Value that FIO carries to the stage of a channel: the published or forced value, and in SAFE with the
claim the programmed safe state (R41, R172). -/
def State.carried (s : State) (u c : Nat) : Int :=
  let x := s.chan u c
  if u = 7 then (if s.mode = mSafe then 0 else s.saf.sto / 2 ^ c % 2)
  else if s.saf.held.contains (ptAddr s.stationNode u c 0) then (if u = 5 then failLevel x else 0)
  else if s.mode = mSafe then
    if u ≤ 3 then b1 (wBit x.cfg 0 1)
    else if u = 5 then
      (if wBits x.cfg 0 3 2 = 0 then 3200000 else if wBits x.cfg 0 3 2 = 1 then 22000000 else x.rx)
    else if wBit x.cfg 0 3 then wInt x.cfg 1 else 0
  else low32 (s.driven (ptAddr s.stationNode u c 0))

/-! ### Digital outputs (R405, R406) -/

/-- What a DO stage should do with a channel: 1 to switch it on. -/
def State.doWants (s : State) (u c : Nat) : Bool :=
  let x := s.chan u c
  let m := (s.stage u).mode
  if !chanEn x || chanLatched u c x then false
  else if m = smSilence then !s.sys.pins.pair && wBit x.cfg 0 1
  else (m == smDrive || m == smHold) && x.rx != 0

def State.gustQueue (s : State) (u : Nat) : List Nat := SMap.get [] u s.fio.queue
def State.setGustQueue (s : State) (u : Nat) (q : List Nat) : State :=
  { s with fio := { s.fio with queue := SMap.set [] u q s.fio.queue } }
/-- Switch-ons of a bank in the last millisecond, by fabric clock. -/
def State.recentOns (s : State) (u : Nat) : List Nat :=
  (SMap.get [] u s.fio.ons).filter fun t => decide (s.clk < t + 250000)

/-- A channel switched on or off. -/
def State.doSwitch (s : State) (u c : Nat) (on : Bool) : State :=
  let x := s.chan u c
  let s1 := s.putChan u c ({ x with force := b1 on, since := s.time, waits := false, delayed := false }.mark fbHeldoff false)
  if on then { s1 with fio := { s1.fio with ons := SMap.set [] u (s1.clk :: s1.recentOns u) s1.fio.ons } } else s1

/-- Waiting switch-ons of a bank allowed in order, while fewer than n have occurred in the last millisecond;
those that go on waiting are held off (R406). -/
def State.doRelease (s : State) (u : Nat) : Nat → State
  | 0 => s
  | k + 1 =>
    match s.gustQueue u with
    | [] => s
    | c :: q =>
      if (s.recentOns u).length < s.fld (Fld.FIO_DO_GUST_limit u) then
        ((s.setGustQueue u q).doSwitch u c true).doRelease u k
      else
        (c :: q).foldl (fun s c =>
          let x := s.chan u c
          if x.delayed then s
          else (s.bump (Fld.FIO_DO_GUST_delayed u)).putChan u c ({ x with delayed := true }.mark fbHeldoff true)) s

/-- The DO stage of unit `u` takes its values, its mode and its faults: switch-offs at once, switch-ons in
ascending channel order under the limit. -/
def State.doUpdate (s : State) (u : Nat) : State :=
  let s1 := (upFrom 0 8).foldl (fun s c =>
    let x := s.chan u c
    if !s.doWants u c then
      let s1 := if x.waits then s.setGustQueue u ((s.gustQueue u).filter (· != c)) else s
      if x.force != 0 || x.waits then s1.doSwitch u c false else s1.showChan u c
    else if x.force = 0 ∧ x.waits = false then
      (s.setGustQueue u (s.gustQueue u ++ [c])).putChan u c { x with waits := true }
    else s.showChan u c) s
  s1.doRelease u 9

/-! ### H-bridges and analogue outputs (R408, R425, R429) -/

/-- Set-point that an H-bridge stage should take at its next PWM period. -/
def State.hbWants (s : State) (c : Nat) : Int :=
  let x := s.chan 6 c
  let m := (s.stage 6).mode
  let v := if m = smSilence then (if !s.sys.pins.pair && wBit x.cfg 0 3 then wInt x.cfg 1 else 0)
    else if m = smDrive ∨ m = smHold then x.rx else 0
  if !chanEn x || chanLatched 6 c x || x.has fbHeldoff then 0
  else if wBit x.cfg 0 2 && decide (v < 0) then 0
  else if wBit x.cfg 0 1 then clampI (-9700) 9700 v else clampI (-2500000) 2500000 v

/-- The H-bridges take their stage's mode: a bridge that may not drive is off at once. -/
def State.hbUpdate (s : State) : State :=
  (upFrom 0 4).foldl (fun s c =>
    if s.hbWants c = 0 then s.putChan 6 c { s.chan 6 c with force := 0, duty := 0, integ := 0 }
    else s.showChan 6 c) s

/-- The AO stage takes its values and its mode. -/
def State.aoUpdate (s : State) : State :=
  (upFrom 0 8).foldl (fun s c =>
    let x := s.chan 5 c
    let m := (s.stage 5).mode
    let v : Int :=
      if !chanEn x || x.has fbThermal || x.has fbHeldoff then 0
      else if m = smSilence then (if s.sys.pins.pair then 0 else failLevel x)
      else if m = smDrive ∨ m = smHold then clampI 0 24000000 x.rx else 0
    s.putChan 5 c { x with force := v, since := if v = x.force then x.since else s.time }) s

/-- The STO stage: a switch pair is energised while its stage drives it, unless a readback fault holds it off
(R458). -/
def State.stoUpdate (s : State) : State :=
  (upFrom 0 4).foldl (fun s c =>
    let x := s.chan 7 c
    let m := (s.stage 7).mode
    let on := chanEn x && !x.has fbStuck && x.rx != 0 && (m == smDrive || m == smHold)
    s.putChan 7 c { x with force := b1 on, ts := if b1 on = x.force then x.ts else s.time }) s

/-- The outputs of a unit after a change of their values or of their stage. -/
def State.applyStage (s : State) (u : Nat) : State :=
  if u = 2 ∨ u = 3 then s.doUpdate u
  else if u = 5 then s.aoUpdate
  else if u = 6 then s.hbUpdate.showUnit 6
  else if u = 7 then s.stoUpdate else s

/-- A stage given a mode. -/
def State.stageMode (s : State) (u m : Nat) : State :=
  let x := s.stage u
  let s1 := s.setStage u { x with mode := m, winning := false }
  (s1.putBit Fld.FIO_LINK_silence u (m == smSilence)).applyStage u

/-- What a stage should do by the claims it sees (R215, R219): off at once, 5 µs before it drives. -/
def State.evalStage (s : State) (u : Nat) : State :=
  let x := s.stage u
  let own := if s.wired then x.own else x.frame
  let other : Word := if s.wired then x.other else 0
  let up := (s.link u).fieldUp
  let h := (List.max? [x.h.toNat, own.toNat, other.toNat, if up then x.frame.toNat else 0]).getD 0
  if s.supply u = 2 then (s.setStage u { x with h := 0 }).stageMode u smDead
  else
    let s1 := s.setStage u { x with h := wd h }
    if s.fibre then s1.stageMode u smOff
    else if own.toNat < other.toNat || (other != 0 && other == own && !s.sys.pins.even) then s1.stageMode u smOff
    else if !up then s1.stageMode u (if x.mode = smDrive then smHold else if x.mode = smDead then smOff else x.mode)
    else if own != 0 && own.toNat == h && x.frame == own then
      if x.mode = smDrive ∨ x.mode = smHold ∨ x.mode = smSilence then s1.stageMode u smDrive
      else s1.setStage u { s1.stage u with winning := true }
    else s1.stageMode u smOff

/-- A claim carried by one source is counted once when it is below H (R215). -/
def State.countLow (s : State) (u : Nat) (old new : Word) : State :=
  if new != old && new != 0 && decide (new.toNat < (s.stage u).h.toNat)
  then s.bump (Fld.FIO_LOWCLAIM_count u) else s

/-- A claim frame on a claim line taken by the stage of unit `u` (R214 to R216). `mine`: this module's own
line. -/
def State.claimFrame (s : State) (u : Nat) (mine : Bool) (claim : Word) : State :=
  let x := s.stage u
  if !hasStage u || !s.wired then s
  else
    let s1 := s.countLow u (if mine then x.own else x.other) claim
    let y := { s1.stage u with resetOk := x.resetOk && claim == 0 }
    (s1.setStage u (if mine then { y with own := claim } else { y with other := claim })).evalStage u

/-- The 5 µs of a hand-over have passed: the stage drives (R215). -/
def State.stageTurnOn (s : State) (u : Nat) : State :=
  if (s.stage u).winning && hasStage u then s.stageMode u smDrive else s

/-! ### Barrier frames (R394, R395) -/

/-- CRC-16 with polynomial 0x1021, initial value 0xFFFF, most significant bit first, no final XOR. -/
def crc16Bit (crc : Nat) (b : Bool) : Nat :=
  let top := (crc / 32768 % 2 == 1) != b
  let sh := crc * 2 % 65536
  if top then Nat.xor sh 0x1021 else sh
def crc16 (bs : List Byte) : Nat :=
  bs.foldl (fun crc o => (upFrom 0 8).foldl (fun c i => crc16Bit c (o.getLsbD (7 - i))) crc) 0xFFFF

/-- Whether a frame of 24 octets carries its check value, high byte first. -/
def frameOk (octets : List Byte) : Bool :=
  octets.length == 24 &&
    (octets.getD 22 0).toNat * 256 + (octets.getD 23 0).toNat == crc16 (octets.take 22)
/-- The claim of a frame, its high byte first. -/
def frameClaim (octets : List Byte) : Word :=
  wd (((octets.drop 2).take 4).foldl (fun a o => a * 256 + o.toNat) 0)

/-- Whether FIO sends frames (R40, R396). -/
def State.fioSends (s : State) : Bool := s.fio.sending && s.mode != mBoot

/-- The claim that barrier frames carry: none on a fibre pair, and the MRAM claim in a claim reset. -/
def State.barrierClaim (s : State) : Word :=
  if s.fibre then 0 else if s.red.resetting then s.nv.claim else s.reg Reg.RED_CLAIM

/-- Octets of a word, the high one first, and words of octets. -/
def wordOctets (w : Word) : List Byte := (upFrom 0 4).map fun i => BitVec.ofNat 8 (w.toNat / 2 ^ (24 - 8 * i))
def octetWords : Nat → List Byte → List Word
  | 0, _ => []
  | n + 1, bs => wd ((bs.take 4).foldl (fun a o => a * 256 + o.toNat) 0) :: octetWords n (bs.drop 4)

/-- The frame to unit `u` with sequence `seq` (R394): type, sequence, claim, payload, and the CRC-16 of octets 0 to 21. A frame of a
claim reset is of its own type (R216). -/
def State.frameTo (s : State) (u seq : Nat) : List Byte :=
  let vals := (upFrom 0 (unitChans u)).map (s.carried u)
  let body := [if s.red.resetting then Config.resetFrameType else Config.frameType, BitVec.ofNat 8 seq] ++
    wordOctets s.barrierClaim ++ (upFrom 0 16).map (Config.framePayload u vals)
  body ++ [BitVec.ofNat 8 (crc16 body / 256), BitVec.ofNat 8 (crc16 body)]

/-- FIO sends one frame on every link (R394): its 24 octets in six words, and after them, in a claim reset, the node numbers of both
modules that its payload carries (R216). -/
def State.sendFrames (s : State) : State :=
  if !s.fioSends then s
  else (upFrom 0 9).foldl (fun s u =>
    let l := s.link u
    let seq := (l.tx + 1) % 256
    (s.setLink u { l with tx := seq }).send (.fio u) 394
      (octetWords 6 (s.frameTo u seq) ++ if s.red.resetting then [wd s.stationNode, wd s.oddNode] else [])) s

/-- FIO stops its frames on every link 2 ms after the last kick (R396): the clock moves on to that instant. -/
def State.stopFrames (s : State) : State :=
  if s.fio.sending then
    let s1 := s.runUntil (s.fio.kickAt + 2000000)
    { s1 with fio := { s1.fio with sending := false } }
  else s

/-- Whether a force stands in place of what the owner of an output gives it (R172). -/
def State.forcedOut (s : State) (a : Nat) : Bool :=
  match s.forceOf a with
  | some f => f.output
  | none => false

/-- A tagged edge applied at a DO stage: no limit delays it (R406), and no forced output takes it (R172). -/
def State.applyEdge (s : State) (u : Nat) (e : TagEdge) : State :=
  let c := e.addr / 256 % 64
  let s1 := s.setChan u c { s.chan u c with rx := b1 e.level }
  if s.forcedOut e.addr then s
  else if s1.doWants u c && (s1.chan u c).force == 0 then
    (s1.setGustQueue u ((s1.gustQueue u).filter (· != c))).doSwitch u c true
  else if !e.level && (s1.chan u c).force != 0 then s1.doSwitch u c false else s1

/-- Values of a frame taken by the output channels of a unit: the tagged edges whose tag has come, each in the clock of its tag (R331),
then the carried values. A channel whose edge is still to come keeps its value. -/
def State.takeValues (s : State) (u : Nat) : State :=
  let ofUnit := fun (e : TagEdge) => e.addr / 2 ^ 14 % 16 == u && decide (u ≤ 3)
  let due := s.fio.edges.filter fun e => ofUnit e && decide (e.time ≤ s.time)
  let left := s.fio.edges.filter fun e => !(due.contains e)
  let s0 := { s with fio := { s.fio with edges := left } }
  let s1 := due.foldl (fun s e => s.atClk (s.clk - (s.time - e.time) / 4) fun s => s.applyEdge u e) s0
  (upFrom 0 (unitChans u)).foldl (fun s c =>
    if isOutput u c && !(left.any fun e => ofUnit e && e.addr / 256 % 64 == c) then
      s.setChan u c { s.chan u c with rx := s.carried u c }
    else s) s1

/-- A claim-reset frame at a stage (R216): it carries no claim to drive for, and one whose claim differs from H is counted
as a lower claim, once until the frames carry another. -/
def State.resetFrame (s : State) (u : Nat) (claim : Word) : State :=
  let x := s.stage u
  let s1 := if claim != x.h && claim != x.seen then s.bump (Fld.FIO_LOWCLAIM_count u) else s
  (s1.setStage u { x with frame := 0, seen := claim, resetOk := x.resetOk && claim == x.h }).evalStage u

/-- A barrier frame at the field side of unit `u`: checked, then claim and values are taken. -/
def State.fieldFrame (s : State) (u : Nat) (octets : List Byte) : State :=
  let l := s.link u
  let seq := (octets.getD 1 0).toNat
  let inSeq := match l.fieldSeq with | some n => seq == (n + 1) % 256 | none => true
  if !frameOk octets || !inSeq then s.setLink u { l with okField := 0, fieldSeq := some seq }
  else
    let ok := l.okField + 1
    let up := l.fieldUp || decide (16 ≤ ok)
    let s1 := s.setLink u { l with okField := ok, fieldUp := up, fieldSeq := some seq, fieldAt := s.time }
    if !up || !hasStage u then s1
    else
      let claim := frameClaim octets
      if octets.getD 0 0 = Config.resetFrameType then s1.resetFrame u claim
      else
        let s2 := s1.countLow u (s1.stage u).seen claim
        let s3 := (s2.setStage u { s2.stage u with frame := claim, seen := claim, resetOk := false }).takeValues u
        (s3.evalStage u).applyStage u

def State.takeReading (s : State) (u : Nat) (r : Reading) : State :=
  let x := s.chan u r.chan
  if (u = 2 ∨ u = 3) ∧ r.chan < 8 then
    if r.kind = 0 then
      let back := b1 (r.val != 0)
      s.putChan u r.chan ({ x with readback := back }.mark fbMismatch (x.has fbMismatch && (back : Int) != x.force))
    else
      (((s.setChan u r.chan { x with aux := r.val }).put (Fld.FIO_DO_CUR_ma u r.chan) r.val.toNat).peak
        (Fld.FIO_DO_CUR_peak u r.chan) r.val.toNat).showChan u r.chan
  else if u = 6 ∧ r.chan < 4 ∧ r.kind = 1 then s.putChan u r.chan { x with aux := r.val }
  else s

/-- A barrier frame at the logic side of unit `u` (R394, R395). -/
def State.logicFrame (s : State) (u : Nat) (octets : List Byte) (readings : List Reading) : State :=
  let l := s.link u
  let echo := (octets.getD 1 0).toNat
  if !frameOk octets || decide (128 ≤ (l.tx + 256 - echo) % 256) then
    ((s.bump (Fld.FIO_LINKCNT_crc u)).pfcEvent 13 u 1).setLink u { l with okLogic := 0 }
  else
    let ok := l.okLogic + 1
    let up := l.up || decide (16 ≤ ok)
    let s1 := s.setLink u { l with okLogic := ok, up := up, ever := l.ever || up }
    let s2 := if up && !l.up then (s1.putBit Fld.FIO_LINK_up u true).showUnit u else s1
    if up then readings.foldl (fun s r => s.takeReading u r) s2 else s2

/-- A link declared down by the logic side, or by the field side (R395). -/
def State.linkDown (s : State) (u : Nat) (field : Bool) : State :=
  let l := s.link u
  if field then
    if l.fieldUp then
      let s1 := s.setLink u { l with fieldUp := false, okField := 0 }
      if hasStage u then (s1.setStage u { s1.stage u with resetOk := false }).evalStage u else s1
    else s
  else if l.up then
    (((s.setLink u { l with up := false, okLogic := 0, downAt := s.time }).putBit Fld.FIO_LINK_up u false).bump
      (Fld.FIO_LINKCNT_downs u)).showUnit u
  else s

/-- Silence timeout of a bank record, ms (R397, R429). -/
def bankSilence (r : List Word) : Nat := if wBits r 1 10 0 = 0 then 20 else wBits r 1 10 0

/-- The logic-silence timeout of unit `u` (R397): it runs from the last valid frame at the field side, by the bank's record as the field
side holds it; the clock moves on to its end, and every output takes its silence state. -/
def State.silence (s : State) (u : Nat) : State :=
  if !hasStage u || (s.link u).fieldUp || (s.stage u).mode == smDead then s
  else (s.runUntil ((s.link u).fieldAt + bankSilence (SMap.get [] u s.fio.banks) * 1000000)).stageMode u smSilence

/-! ### Field supplies (R398, R432) -/

/-- State of a supply at a voltage in mV, from the state before. -/
def supplyState (old mv : Nat) : Nat :=
  if mv < 15000 then 2
  else if old = 2 ∧ mv < 15500 then 2
  else if mv < 19200 then 1
  else if old ≠ 0 ∧ mv < 19700 then 1
  else 0

/-- H-bridge and AO channels held off from the return of their supply until their staggered start (R411, R426). The compliance supplies
start at 5 V. -/
def State.stagger (s : State) (u : Nat) : State :=
  (upFrom 0 (if u = 6 then 4 else if u = 5 then 8 else 0)).foldl (fun s c =>
    let x := s.chan u c
    s.putChan u c ({ x with aux := if u = 5 then 5000 else x.aux }.mark fbHeldoff (chanEn x))) s

/-- Since when a supply has been OK, or low after it. -/
def State.okAt (s : State) (n : Nat) : Option Nat := SMap.get (some 0) n s.fio.okAt
def State.setOkAt (s : State) (n : Nat) (t : Option Nat) : State :=
  { s with fio := { s.fio with okAt := SMap.set (some 0) n t s.fio.okAt } }

/-- Station time of a channel's staggered start (R411, R426): 20 ms for each channel number of the H-bridges, 5 ms of the AOs, after the
supply became OK and after the channel was enabled or cooled down. -/
def State.staggerEnd (s : State) (u c : Nat) : Option Nat :=
  (s.okAt u).map fun t => max t (s.chan u c).holdFrom + (if u = 6 then 20000000 else 5000000) * c

/-- A staggered channel may drive. -/
def State.endHold (s : State) (u c : Nat) : State :=
  (s.putChan u c ((s.chan u c).mark fbHeldoff false)).applyStage u

/-- The supply of unit `u` has become OK: the staggered start runs, and channel 0 starts at once. -/
def State.supplyOk (s : State) (u : Nat) : State :=
  let s1 := s.setOkAt u (some s.time)
  if (u == 5 || u == 6) && (s1.chan u 0).has fbHeldoff then s1.endHold u 0 else s1

/-- A field supply at a voltage held for 1 ms. -/
def State.supplyChange (s : State) (n mv : Nat) : State :=
  let old := s.supply n
  let new := supplyState old mv
  let s0 := s.put (Fld.FIO_FSUPV_mv n) (min mv 65535)
  if new = old then s0
  else
    let s1 := (s0.setSupply n new).putBit Fld.FIO_FSUP_changed n true
    let bad := (upFrom 0 8).any fun k => s1.supply k == 1 || s1.supply k == 2
    let s2 := (s1.flag Fld.SYS_STAT_fsup_fault bad).record 9 398 n old new 0xFF []
    let s3 := if new = 0 then s2.clearAlert 398 n else s2.raiseAlert 398 n
    let s4 := if hasStage n then s3.evalStage n else s3
    let s5 := if old ≥ 2 ∧ new < 2 then s4.stagger n else s4
    let s6 := if new = 2 then s5.setOkAt n none else if new = 0 then s5.supplyOk n else s5
    s6.showUnit n

/-! ### Digital inputs (R402 to R404) -/

/-- A status condition that sets and clears after two samples in a row: the bit, and the samples that
disagree with it. -/
def twoSamples (set cond : Bool) (n : Nat) : Bool × Nat :=
  if cond = set then (set, 0) else if 1 ≤ n then (cond, 0) else (set, n + 1)

/-- One sample of a DI channel at `mv` and `ua`, at time `t`: the channel after it, and whether a debounced
edge is taken. -/
def diSample (bank : List Word) (x : FChan) (mv ua t : Nat) : FChan × Bool :=
  let mon := wBit x.cfg 0 9
  let inv := wBit x.cfg 0 10
  let t3 := wBit bank 0 8 || mon
  let on := decide ((if t3 then 11000 else 15000) ≤ mv) && decide (2000 ≤ ua)
  let off := decide (mv ≤ 5000) || decide (ua ≤ if t3 then 1500 else 500)
  let lvl := if on then true else if off then false else x.raw != inv
  let raw := lvl != inv
  let (brk, nb) := twoSamples (x.has fbOpen) (mon && decide (ua < 350)) x.brk
  let (sh, ns) := twoSamples (x.has fbShort) (mon && decide (12000 < ua)) x.shrt
  let run := if raw = x.raw then x.run + 1 else 0
  let runT := if raw = x.raw then x.runT else t
  let y := (({ x with raw := raw, run := run, runT := runT, brk := nb, shrt := ns, ts := t }.mark fbOpen brk).mark
    fbShort sh)
  if raw != x.level && decide (wBits x.cfg 0 8 1 ≤ run) then
    ({ y with level := raw, count := x.count + 1, since := runT }, true)
  else (y, false)

/-- DI bank `u` samples every channel: voltage in mV and current in µA of each. -/
def State.diSampleBank (s : State) (u : Nat) (ins : List (Nat × Nat)) : State :=
  let bank := SMap.get [] u s.fio.banks
  (upFrom 0 16).foldl (fun s c =>
    let x := s.chan u c
    if !chanEn x then s
    else
      let (mv, ua) := ins.getD c (0, 0)
      let (y, edge) := diSample bank x mv ua s.time
      let s1 := s.putChan u c y
      if edge && (s1.link u).up then
        ((s1.putBit (Fld.FIO_DI_EDGES_edges u) c true).fire ((if u = 0 then 152 else 168) + c)).pointEdge
          (ptAddr s1.stationNode u c 0) y.level y.since
      else s1) s

/-! ### Faults of outputs (R405, R407, R409, R410) -/

/-- A DO overload or a junction at 145 °C latches and switches the channel off (R405). -/
def State.doOverload (s : State) (u c : Nat) (hot : Bool) : State :=
  let x := s.chan u c
  if x.force = 0 ∧ hot = false then s
  else (s.putChan u c (x.mark (if hot then fbThermal else fbShort) true)).doUpdate u

/-- The readback from 2 ms after the application (R405): the clock moves on to that instant, and only a stage that drives checks it. -/
def State.doMismatch (s : State) (u c : Nat) (back : Bool) : State :=
  let x := s.chan u c
  if (s.stage u).mode != smDrive || !chanEn x then s
  else (s.runUntil (x.since + 2000000)).putChan u c ({ x with readback := b1 back }.mark fbMismatch ((b1 back : Int) != x.force))

/-- The open-load test (R405): with the command at 0 when enabled, with it at 1 by the load current. -/
def State.doOpenLoad (s : State) (u c : Nat) (cond : Bool) : State :=
  let x := s.chan u c
  if (s.stage u).mode != smDrive || !chanEn x || !wBit x.cfg 0 2 then s
  else s.putChan u c (x.mark fbOpen cond)

/-- A waiting switch-on takes effect at the first instant it is allowed (R406): the clock moves on to it. -/
def State.gustRelease (s : State) (u : Nat) : State :=
  match s.gustQueue u with
  | [] => s
  | _ =>
    let ons := s.recentOns u
    let n := s.fld (Fld.FIO_DO_GUST_limit u)
    let s1 := if ons.length < n then s
      else match ons.reverse[ons.length - n]? with
        | some t => s.advance (t + 250000 - s.clk)
        | none => s
    s1.doRelease u 9

/-- A fault reset taken (R407): `own` is the sequence that its owner publishes, in place of which a force stands (R172); `cool`
says that the junction is below 125 °C. -/
def State.faultReset (s : State) (u c own : Nat) (cool : Bool) : State :=
  let x := s.chan u c
  let s0 := s.publish (ptAddr s.stationNode u c 4) (BitVec.ofNat 64 own)
  let seq := (s0.driven (ptAddr s.stationNode u c 4)).toNat % 256
  if x.seq = some seq then s0
  else
    let x1 := { x with seq := some seq }
    let x2 := if cool then x1.mark fbThermal false else x1
    let x3 :=
      if u ≤ 3 then (if x.rx = 0 then x2.mark fbShort false else x2)
      else
        let y := if x.latchAt + 10000000 ≤ s.time then x2.mark fbShoot false else x2
        (y.mark fbOvercur false).mark fbShort false
    (s0.putChan u c x3).applyStage u

/-- A refused gate command (R409). -/
def State.shootThrough (s : State) (c : Nat) : State :=
  (((s.setChan 6 c ({ s.chan 6 c with force := 0, duty := 0, integ := 0, latchAt := s.time }.mark fbShoot true)).bump
    (Fld.FIO_HB_CNT_shoot c)).showChan 6 c)

/-- A PWM period of H-bridge `c` begins (R408, R410). `ua`: the current averaged over the period before;
`cut`: overcurrent cut that period; `early`: within 2 µs of a switch-on. -/
def State.pwmPeriod (s : State) (c : Nat) (ua : Int) (cut early : Bool) : State :=
  let x := s.chan 6 c
  let f := if wBits x.cfg 0 8 4 = 0 then 2 else wBits x.cfg 0 8 4
  let cuts := if cut then x.cuts + 1 else 0
  let x1 := { x with readback := ua, cuts := cuts, ts := s.time }
  let x2 := if cut && early then (x1.mark fbShort true).mark fbOvercur true
    else if 3 ≤ cuts then x1.mark fbOvercur true else x1
  let s1 := s.setChan 6 c x2
  let s2 := if cut then s1.bump (Fld.FIO_HB_CNT_overcur c) else s1
  let set := s2.hbWants c
  let amp : Int := wBits x.cfg 3 9 0 * 1000
  let dith := (x.dither + wBits x.cfg 3 24 16) % (f * 1000)
  let target := if amp = 0 || set = 0 then set else if dith * 2 < f * 1000 then set + amp else set - amp
  let err := target - ua
  let lim : Int := 970000000
  let (duty, integ) :=
    if set = 0 then (0, 0)
    else if wBit x.cfg 0 1 then (set * 100000, 0)
    else
      let i := clampI (-lim) lim (x.integ + wBits x.cfg 2 31 16 * err / (f : Nat))
      (clampI (-lim) lim (wBits x.cfg 2 15 0 * err + i), i)
  let y := s2.chan 6 c
  let opened := y.has fbOpen && decide (100000 ≤ set.natAbs) && decide (ua.natAbs < 20000)
  s2.putChan 6 c ({ y with force := set, duty := duty, integ := integ, dither := dith }.mark fbOpen opened)

/-- Low coil current for 50 ms (R410). -/
def State.openCoil (s : State) (c : Nat) : State :=
  let x := s.chan 6 c
  if 100000 ≤ x.force.natAbs ∧ x.readback.natAbs < 20000 then s.putChan 6 c (x.mark fbOpen true) else s

/-- A junction of an H-bridge at 145 °C (R410). -/
def State.hbThermal (s : State) (c : Nat) : State :=
  (s.putChan 6 c ((s.chan 6 c).mark fbThermal true)).applyStage 6

/-- A staggered channel may drive (R411, R426): the clock moves on to that instant. With its supply missing, or low since it was
missing, none comes. -/
def State.staggerRelease (s : State) (u c : Nat) : State :=
  match s.staggerEnd u c with
  | some t => (s.runUntil t).endHold u c
  | none => s

/-! ### Encoders and pickups (R412 to R414) -/

/-- Generators whose homing record names encoder `e`. -/
def State.gensOn (s : State) (e : Nat) : List Nat :=
  (upFrom 0 64).filter fun g =>
    genEn (s.genRec g) && (wAt (s.homeRec g) 2).toNat == ptAddr s.stationNode 6 (4 + e) 0

/-- Loss of count reported (R309, R413). -/
def State.loseCount (s : State) (e : Nat) : State :=
  let s1 := s.putChan 6 (4 + e) ((s.chan 6 (4 + e)).mark fbLost true)
  (s1.gensOn e).foldl (fun s g => s.loseHomed g) s1

/-- Gray position of levels A and B: A leads B going forward. -/
def quadPos (a b : Bool) : Int := if a then (if b then 2 else 1) else (if b then 3 else 0)

/-- Edges per count of the decoding (R412). -/
def encEdges (cfg : List Word) : Nat :=
  if wBits cfg 0 3 2 = 1 then 4 else if wBits cfg 0 3 2 = 2 then 2 else 1

/-- New levels A and B of encoder `e` at time `ts` (R412, R413). -/
def State.encoderEdge (s : State) (e : Nat) (a b : Bool) (ts : Nat) : State :=
  let x := s.chan 6 (4 + e)
  if !chanEn x then s
  else
    let both := a != x.a && b != x.b
    let fast := (a != x.a || b != x.b) && decide (ts < x.since + 125) && x.since != 0
    let x1 := { x with a := a, b := b, since := if a != x.a || b != x.b then ts else x.since }
    if both || fast then
      ((s.setChan 6 (4 + e) x1).bump (Fld.FIO_ENC_STAT_illegal e)).loseCount e
    else
      let d0 := (quadPos a b - quadPos x.a x.b + 4) % 4
      let d : Int := if d0 = 3 then -1 else d0
      let quad := x.quad + (if wBit x.cfg 0 12 then -d else d)
      let count := quad / (encEdges x.cfg : Nat)
      if count = x.count then s.setChan 6 (4 + e) { x1 with quad := quad }
      else
        let s1 := s.putChan 6 (4 + e) { x1 with quad := quad, count := count, ts := ts }
        if (s1.link 6).up then
          (s1.domainsOf 1 e).foldl (fun s d => s.deliverCount d ts count) s1
        else s1

/-- A Z edge of encoder `e` (R307, R320, R412): latched at the field side, and delivered over the barrier link while it is up. -/
def State.encoderIndex (s : State) (e ts : Nat) : State :=
  let x := s.chan 6 (4 + e)
  if !chanEn x || !wBit x.cfg 0 11 then s
  else
    let s0 := s.putChan 6 (4 + e) { x with latch := x.count }
    let s1 := s0.fire (184 + e)
    let s2 := (s1.gensOn e).foldl (fun s g => s.indexGen g (x.count + x.refOff)) s1
    let (s3, lost) := (s2.domainsOf 1 e).foldl (fun (a : State × Bool) d =>
      let (s', l) := a.1.deliverIndex d ts x.count
      (s', a.2 || l)) (s2, false)
    if !(s.link 6).up then s0 else if lost then s3.loseCount e else s3

/-- A line fault of encoder `e` set or cleared (R413, R320). -/
def State.encoderLine (s : State) (e : Nat) (fault : Bool) : State :=
  let s1 := s.putChan 6 (4 + e) ((s.chan 6 (4 + e)).mark fbLine fault)
  let s2 := if fault then s1.loseCount e else s1
  (s2.domainsOf 1 e).foldl (fun s d => s.encoderFault d fault) s2

/-- A pickup trigger at time `ts` (R414): rejected within 40 µs of the last accepted one, and delivered while the barrier link is up. -/
def State.pickupPulse (s : State) (p ts : Nat) : State :=
  let x := s.chan 6 (6 + p)
  if !chanEn x then s
  else if x.count != 0 && decide (ts < x.ts + 40000) then s.bump (Fld.FIO_PK_STAT_rejected p)
  else
    let iv := ts - x.ts
    let freq : Int := if x.count = 0 ∨ iv = 0 ∨ 400000000 ≤ iv then 0 else (1000000000000 / iv : Nat)
    let s1 := s.putChan 6 (6 + p) { x with force := freq, count := x.count + 1, ts := ts }
    let s2 := s1.fire (186 + p)
    let s3 := (s2.domainsOf 2 p).foldl (fun s d => s.deliverEdge d ts none) s2
    if !(s.link 6).up then s1
    else (s3.domainsOf 2 (1 - p)).foldl (fun s d =>
      if domUsesRef (s.domRec d) then s.deliverRef d else s) s3

/-- The coil check of pickup `p` at a resistance in Ω (R414): the odd-slot module of a pair applies no bias. -/
def State.coilCheck (s : State) (p ohm : Nat) : State :=
  let x := s.chan 6 (6 + p)
  if !chanEn x || !wBit x.cfg 0 1 || (s.sys.pins.pair && !s.sys.pins.even) then s
  else
    (s.put (Fld.FIO_PK_COIL_ohm p) (min ohm (2 ^ 20 - 1))).putChan 6 (6 + p)
      ((x.mark fbOpen (decide (20000 < ohm))).mark fbShort (decide (ohm < 20)))

/-- What time alone changes in field I/O: pickup frequencies after 400 ms, and the qualities of units whose
links are down (R399, R401). -/
def State.ageField (s : State) : State :=
  let s1 := (upFrom 0 2).foldl (fun s p =>
    let x := s.chan 6 (6 + p)
    if x.force != 0 && decide (x.ts + 400000000 ≤ s.time) then s.putChan 6 (6 + p) { x with force := 0 } else s) s
  (upFrom 0 7).foldl (fun s u => if !(s.link u).up && (s.link u).ever then s.showUnit u else s) s1

end Sys2Proof.Machine
end

