-- ==== Sys2Proof/Machine/RemoteIo.lean ====
section
/-! DEFINITION. Remote I/O rings (R435 to R451): the ring cycle, what each unit takes and applies, the merge of the
returned copies and the judgement of the ring, discovery, claims and silence at a unit, service messages. -/

namespace Sys2Proof.Machine

/-! ### Records (R436, R451) -/

def State.ringRec (s : State) (r : Nat) : List Word := s.rec_ 0x0B r
def State.ringEn (s : State) (r : Nat) : Bool := wBit (s.ringRec r) 0 0
def State.unitRec (s : State) (u : Nat) : List Word := s.rec_ 0x0B (0x100 + u)
/-- Fields of a unit record: node, ring, position, auto-assign. -/
def urNode (w : List Word) : Nat := wBits w 0 13 0
def urRing (w : List Word) : Nat := wBits w 0 14 14
def urPos (w : List Word) : Nat := wBits w 0 21 15
def urAuto (w : List Word) : Bool := wBit w 0 22
/-- Silence timeout of a unit, ms. -/
def urSilence (w : List Word) : Nat := if wBits w 2 10 0 = 0 then 50 else wBits w 2 10 0

/-- Configured units of a ring. -/
def State.ringUnits (s : State) (r : Nat) : List Nat :=
  (upFrom 16 240).filter fun u => !(s.unitRec u).isEmpty && urRing (s.unitRec u) == r

def State.runit (s : State) (u : Nat) : RUnit := SMap.get {} u s.rio.units
def State.setRunit (s : State) (u : Nat) (x : RUnit) : State :=
  { s with rio := { s.rio with units := SMap.set {} u x s.rio.units } }
def State.rioRing (s : State) (r : Nat) : Ring := SMap.get {} r s.rio.rings
def State.setRing (s : State) (r : Nat) (x : Ring) : State :=
  { s with rio := { s.rio with rings := SMap.set {} r x s.rio.rings } }

/-- States of a unit (R442) and of a ring (R440). -/
def ruAbsent : Nat := 0
def ruFound : Nat := 1
def ruLoading : Nat := 2
def ruOperational : Nat := 3
def ruMismatch : Nat := 4
def ruLost : Nat := 5
def rsClosed : Nat := 1
def rsBroken : Nat := 2
def rsSplit : Nat := 3
def rsDown : Nat := 4

/-- Whether this module masters ring `r` (R445); a module in a claim reset sends reset frames as well when it
stands in the even slot (R216). -/
def State.mastersRing (s : State) (r : Nat) : Bool := s.mode == mActive && s.ringEn r && !(s.rioRing r).barred
def State.sendsReset (s : State) (r : Nat) : Bool := s.red.resetting && s.sys.pins.even && s.ringEn r

/-! ### Unit states and qualities (R442, R447) -/

/-- Quality of a unit's points that are not marked bad. -/
def unitQuality (x : RUnit) : Nat :=
  if !x.everOp then 3
  else if x.state = ruLost ∨ x.state = ruAbsent ∨ x.state = ruMismatch then 2
  else if 0 < x.missRun then (if x.missRun < 8 then 1 else 2) else 0

/-- The points of a unit in the live image shown at their quality (R447): those not available stay so. -/
def State.nodeQuality (s : State) (u : Nat) : State :=
  let x := s.runit u
  let node := urNode (s.unitRec u)
  let q := unitQuality x
  s.pts.foldl (fun s e =>
    if e.1 / 2 ^ 18 = node ∧ e.2.q < 3 then
      s.setQuality e.1 (if q < 2 ∧ x.bads.contains (e.1 % 2 ^ 18) = true then 2 else q)
    else s) s

/-- The units of ring `r` that are OPERATIONAL, counted. -/
def State.countOper (s : State) (r : Nat) : State :=
  s.put (Fld.RIO_RING_STAT_oper r) ((s.ringUnits r).filter fun v => (s.runit v).state == ruOperational).length

/-- A unit given a state: shown, forwarded to the leeward module, its points at their quality. -/
def State.unitState (s : State) (u st : Nat) : State :=
  let x := { s.runit u with state := st, everOp := (s.runit u).everOp || st == ruOperational }
  let s1 := ((s.setRunit u x).putBit (Fld.RIO_OPER_oper (u / 32)) (u % 32) (st == ruOperational)).forward 9
    [wd u, wd st, wd x.type, wd x.fw, wd x.serial, wd x.node]
  if (s.unitRec u).isEmpty then s1 else (s1.countOper (urRing (s.unitRec u))).nodeQuality u

/-- A unit's state as the windward module forwarded it (R450). -/
def State.takeUnitState (s : State) (ws : List Word) : State :=
  let u := (wAt ws 0).toNat % 256
  if u < 16 then s
  else
    (s.setRunit u { s.runit u with
      type := (wAt ws 2).toNat, fw := (wAt ws 3).toNat, serial := (wAt ws 4).toNat
      node := (wAt ws 5).toNat }).unitState u ((wAt ws 1).toNat % 6)

/-! ### The ring cycle (R437, R438) -/

/-- What the frame whose build began at `t` carries for output `a`: a force, or the newest value published by
then (R29, R172). -/
def State.ringValue (s : State) (a t : Nat) : Option RVal :=
  match s.forceOf a with
  | some f => if f.output then some ⟨a % 2 ^ 18, f.val.setWidth 64, 2 ^ 64 + f.since.toNat⟩ else none
  | none =>
    let p := s.outAt a t
    if p.q = 3 then none else some ⟨a % 2 ^ 18, p.val, p.time + 1⟩

/-- Output points of a node that are published or forced. -/
def State.nodeOutputs (s : State) (node : Nat) : List Nat :=
  let own := (s.outs.map (·.1)).filter fun a => a / 2 ^ 18 == node
  own ++ ((s.fw.forces.filter fun f => f.output && f.addr / 2 ^ 18 == node && !(own.contains f.addr)).map (·.addr))

/-- Units of a ring in the order of their positions. -/
def State.unitsInOrder (s : State) (r : Nat) : List Nat :=
  let us := s.ringUnits r
  (upFrom 1 120).filterMap fun p => us.find? fun u => urPos (s.unitRec u) == p

/-- The frame of a cycle that begins at `tk`, its sections in position order (R438): an OPERATIONAL unit receives values, any other an
empty section (R442). -/
def State.buildFrame (s : State) (r tk : Nat) : List (Nat × RFrame) :=
  (s.unitsInOrder r).map fun u =>
    if s.red.resetting then
      (u, { claim := s.nv.claim, even := s.sys.pins.even, vals := none, reset := true, nodes := (s.stationNode, s.oddNode), tk := tk })
    else
      let vals := (s.nodeOutputs (urNode (s.unitRec u))).filterMap fun a => s.ringValue a (tk - 10000)
      (u, ⟨s.reg Reg.RED_CLAIM, s.sys.pins.even,
        if (s.runit u).state = ruOperational then some vals else none, false, (0, 0), tk⟩)

/-- A section with its CRC-16 (R438), and whether one holds: at most 512 octets, the CRC-16 of the others in the last two. -/
def sealSection (body : List Byte) : List Byte :=
  let b := body.take 510
  b ++ [BitVec.ofNat 8 (crc16 b / 256), BitVec.ofNat 8 (crc16 b)]
def sectionOk (octets : List Byte) : Bool :=
  let n := octets.length - 2
  decide (2 ≤ octets.length) && decide (octets.length ≤ 512) &&
    (octets.getD n 0).toNat * 256 + (octets.getD (n + 1) 0).toNat == crc16 (octets.take n)

/-- The sections of a frame as they go out, each octet in a word. -/
def frameSections (frame : List (Nat × RFrame)) : List Word :=
  frame.flatMap fun e => match e.2.vals with
    | some vs => (sealSection (Config.sectionOctets e.1 (vs.map fun v => (v.point, v.val.toNat)))).map fun o => wd o.toNat
    | none => (sealSection []).map fun o => wd o.toNat

/-- Something that a frame of ring `r` carries goes out on port A and on port B. -/
def State.sendRing (s : State) (r kind : Nat) (ws : List Word) : State :=
  (s.send (.rio r) kind (wd 0 :: ws)).send (.rio r) kind (wd 1 :: ws)

/-- The clock moves on to the next cycle instant of ring `r`, a multiple of 125 µs from the trade-cycle start
(R437). -/
def State.toRingCycle (s : State) (r : Nat) : State :=
  let k := (s.clk - s.sys.tc0) / 31250
  let at_ := if s.sys.tc0 + k * 31250 = s.clk ∧ (s.rioRing r).start ≠ some s.clk then s.clk
    else s.sys.tc0 + (k + 1) * 31250
  s.advance (at_ - s.clk)

/-- Ring cycle of ring `r` begins. The group coordinator's messages go with it (RemoteIo's callers). -/
def State.ringStart (s : State) (r : Nat) : State :=
  let s1 := s.toRingCycle r
  let go := s1.mastersRing r
  let rst := s1.sendsReset r
  let x := s1.rioRing r
  let s2 := s1.setRing r { x with
    start := some s1.clk, tk := s1.time, sent := go || rst
    frame := if go || rst then s1.buildFrame r s1.time else [] }
  let s3 := if go || rst then s2 else s2.put (Fld.RIO_RING_STAT_state r) 0
  let s4 :=
    if go || rst then
      (s3.wrapInc (Fld.RIO_RING_CYCLE_cycles r)).sendRing r 437
        ([s3.reg (Reg.RIO_RING_CYCLE r), hi32 s3.time, lo32 s3.time, wd s3.sys.node,
         if rst then s3.nv.claim else s3.reg Reg.RED_CLAIM, wd (b1 s3.sys.pins.even), wd (b1 rst)] ++
         frameSections (s3.rioRing r).frame)
    else s3
  if s4.ringEn r then s4.fire (2 + r) else s4

/-! ### At a unit (R437, R444, R446, R449) -/

/-- The longest time between two frames of a claim reset that runs throughout (R216): the manual gives none, here two ring cycles
(DESIGN CHOICE, log entry 141). -/
def resetGap : Nat := 250000

/-- A valid frame at unit `u`: with an empty section its outputs stand in their silence states (R442). One of a claim reset names the station of the unit's parameter image, which is this one (R216). -/
def State.unitFrame (s : State) (u : Nat) (f : RFrame) : State :=
  let x := { s.runit u with framed := s.time, last := f.claim, tk := f.tk }
  let low := f.claim != 0 && decide (f.claim.toNat < x.h.toNat) && f.claim != (s.runit u).last
  if f.reset then
    let here := f.claim = x.h && f.nodes.1 == s.stationNode && decide (s.time ≤ x.resetAt + resetGap)
    if here then s.setRunit u { x with driving := false, took := [], resetAt := s.time }
    else if f.claim = x.h then s.setRunit u { x with driving := false, took := [], resetOk := false }
    else s.setRunit u { x with driving := false, took := [], resetOk := false, lowSeen := if f.claim != (s.runit u).last then satInc 16 x.lowSeen else x.lowSeen }
  else if f.claim.toNat < x.h.toNat then
    s.setRunit u { x with
      resetOk := false, took := [], lowSeen := if low then satInc 16 x.lowSeen else x.lowSeen
      driving := x.driving && f.claim != 0 }
  else if f.claim = 0 ∨ (f.claim = x.h ∧ x.hEven = true ∧ f.even = false) then
    s.setRunit u { x with resetOk := false, took := [] }
  else
    s.setRunit u { x with
      h := f.claim, hEven := f.even, heard := s.time, resetOk := false
      took := f.vals.getD [], driving := x.driving && f.vals.isSome }

/-- A unit processes the first valid copy of a frame: this module's own, or another master's. -/
def State.unitProcess (s : State) (u : Nat) (other : Option RFrame) : State :=
  match other with
  | some f => s.unitFrame u f
  | none =>
    let r := urRing (s.unitRec u)
    if !(s.rioRing r).sent then s
    else match (s.rioRing r).frame.find? fun e => e.1 == u with
      | some e => s.unitFrame u e.2
      | none => s

/-- Values of another publication than the last applied take effect (R449). -/
def takeVals (outs : List (Nat × RVal)) (vs : List RVal) : List (Nat × RVal) :=
  vs.foldl (fun m v =>
    if (SMap.get ⟨0, 0, 0⟩ v.point m).publ = v.publ then m else SMap.set ⟨0, 0, 0⟩ v.point v m) outs

/-- The apply instant t_k + 115 µs at unit `u`, to which the clock moves on. -/
def State.unitApply (s : State) (u : Nat) : State :=
  let x := s.runit u
  if x.took.isEmpty then s
  else
    (s.runUntil (x.tk + 115000)).setRunit u
      { x with outs := takeVals x.outs x.took, took := [], driving := true, silence := false }

/-- A unit's outputs take their silence states at its timeout, to which the clock moves on (R446). -/
def State.unitSilence (s : State) (u : Nat) : State :=
  let x := s.runit u
  (s.runUntil (x.heard + urSilence (s.unitRec u) * 1000000)).setRunit u { x with driving := false, took := [] }

/-- A unit's own supply is lost: H is cleared and its outputs are off. -/
def State.unitDead (s : State) (u : Nat) : State :=
  s.setRunit u { s.runit u with
    h := 0, hEven := false, last := 0, took := [], outs := [], driving := false, resetOk := false }

/-- A claim reset has run its 100 ms: units that heard it throughout clear H (R216). -/
def State.unitsReset (s : State) : State :=
  (upFrom 16 240).foldl (fun s u =>
    let x := s.runit u
    if x.resetOk && decide (s.time ≤ x.resetAt + resetGap) then s.setRunit u { x with h := 0, hEven := false, resetOk := false } else s) s

/-- A link of a unit declared down, on side B or A (R439). -/
def State.unitLink (s : State) (u : Nat) (sideB down : Bool) : State :=
  let x := s.runit u
  s.setRunit u (if sideB then { x with downB := down } else { x with downA := down })

/-- The units at the link between positions `p` and `p` + 1 stop turning around (R441). -/
def State.linkRestored (s : State) (r p : Nat) : State :=
  (s.ringUnits r).foldl (fun s u =>
    let pos := urPos (s.unitRec u)
    if pos = p then s.unitLink u true false
    else if pos = p + 1 then s.unitLink u false false else s) s

/-! ### The end of a cycle (R437, R440, R441, R447) -/

/-- A remote input written to the live image; a leeward module keeps its reading apart (R206, R450). -/
def State.remoteInput (s : State) (node tk : Nat) (i : RInput) : State :=
  let a := node * 2 ^ 18 + i.point % 2 ^ 18
  let x : Point := { val := BitVec.ofInt 64 i.val, q := if i.bad then 2 else 0, time := tk }
  let s1 := { s with pts := SMap.set {} (if s.leeward then 2 ^ 33 + a else a) x s.pts }
  let old := s.point a
  if !s.leeward && !i.bad && old.q != 3 && old.val != x.val && decide (old.val.toNat ≤ 1) && decide (x.val.toNat ≤ 1)
  then s1.pointEdge a (x.val == 1) tk else s1

/-- The section of a unit in whichever copy holds it with a valid check value (R437). -/
def RingReport.section (rep : RingReport) (u : Nat) : Option RSection :=
  rep.sections.find? fun y => y.unit == u && sectionOk y.octets

/-- A leeward module reads the returning inputs of an OPERATIONAL unit (R450). -/
def State.readUnit (s : State) (r : Nat) (rep : RingReport) (u : Nat) : State :=
  match rep.section u with
  | some sec =>
    if (s.runit u).state = ruOperational then
      sec.inputs.foldl (fun s i => s.remoteInput (urNode (s.unitRec u)) (s.rioRing r).tk i) s
    else s
  | none => s

/-- A unit's section taken, or its absence counted. -/
def State.mergeUnit (s : State) (r : Nat) (rep : RingReport) (u : Nat) : State :=
  let x := s.runit u
  let node := urNode (s.unitRec u)
  match rep.section u with
  | none =>
    let y := { x with missed := satInc 16 x.missed, missRun := x.missRun + 1, okRun := 0 }
    let s1 := ((s.setRunit u y).bump (Fld.RIO_RING_CNT_missed r)).pfcEvent 14 r 1
    s1.nodeQuality u
  | some sec =>
    let ok := x.okRun + 1
    let y := { x with
      copyb := sec.copyB, turn := sec.turn, silence := sec.silence, missRun := 0, okRun := ok
      bads := if x.state != ruOperational then x.bads
        else sec.inputs.filterMap fun (i : RInput) => if i.bad then some (i.point % 2 ^ 18) else none
      low := x.low + sec.low }
    let s1 := s.setRunit u { y with low := if y.low < 65536 then y.low else 65535 }
    if x.state = ruOperational then
      sec.inputs.foldl (fun s i => s.remoteInput node (s.rioRing r).tk i) (s1.nodeQuality u)
    else if x.state = ruLost ∧ 16 ≤ ok then s1.unitState u ruFound
    else s1

/-- State of the ring by the copies that returned (R440). -/
def State.judgeRing (s : State) (r : Nat) (rep : RingReport) : Nat :=
  if !rep.aBack && !rep.bBack then rsDown
  else if rep.aAcross && rep.bAcross then rsClosed
  else if (s.ringUnits r).all fun u =>
      let p := urPos (s.unitRec u)
      decide (p ≤ rep.aLast) || (rep.bLast != 0 && decide (rep.bLast ≤ p)) then rsBroken
  else rsSplit

/-- The end of a cycle at the module, t_k + 110 µs, to which the clock moves on. A leeward module takes the inputs alone: the ring and its
units are the master's (R450). -/
def State.ringEnd (s : State) (r : Nat) (rep : RingReport) : State :=
  if s.leeward then
    let s0 := s.runUntil ((s.rioRing r).tk + 110000)
    (s0.ringUnits r).foldl (fun s u => s.readUnit r rep u) s0
  else if !(s.rioRing r).sent then s
  else
    let s0 := s.runUntil ((s.rioRing r).tk + 110000)
    let s1 := (s0.ringUnits r).foldl (fun s u => s.mergeUnit r rep u) s0
    let s2 := s1.put (Fld.RIO_RING_DELAY_last r) (min rep.late 65535)
    let old := s2.fld (Fld.RIO_RING_STAT_state r)
    let new := s2.judgeRing r rep
    if new = old then s2
    else
      let s3 := s2.put (Fld.RIO_RING_STAT_state r) new
      let a := if new = rsClosed then 0xFF else rep.aLast % 256
      let b := if new = rsClosed then 0xFF else rep.bLast % 256
      let s4 := (s3.put (Fld.RIO_RING_BREAK_a_last r) a).put (Fld.RIO_RING_BREAK_b_last r) b
      let s5 := if old = rsClosed then s4.bump (Fld.RIO_RING_CNT_breaks r) else s4
      let s6 := s5.record 9 440 r old new 0xFF [wd a, wd b]
      if new = rsClosed then s6.clearAlert 440 r else s6.raiseAlert 440 r

/-- Eight missed cycles in a row: LOST (R442). -/
def State.unitLost (s : State) (u : Nat) : State :=
  let x := s.runit u
  if x.state = ruOperational ∧ 8 ≤ x.missRun then s.unitState u ruLost else s

/-! ### Discovery (R443) -/

/-- A unit seen at its configured position and identified. A unit in LOADING whose image is not yet right is being written. -/
def State.identify (s : State) (u : Nat) (d : RReport) : State :=
  let w := s.unitRec u
  let s1 := s.setRunit u { s.runit u with
    type := d.type, fw := d.fw, serial := d.serial, node := d.node, silence := (s.runit u).silence }
  if d.type = wBits w 1 15 0 ∧ d.node = urNode w then
    if d.crc = wAt w 3 then (s1.unitState u ruOperational).clearAlert 443 u
    else if (s.runit u).state = ruLoading then s1
    else (s1.sendRing (urRing w) 443 [wd d.pos, wAt w 3]).unitState u ruLoading
  else if d.type = wBits w 1 15 0 ∧ d.node = 0x3FFF ∧ urAuto w = true then
    if (s.runit u).state = ruLoading then s1
    else (s1.sendRing (urRing w) 443 [wd d.pos, wAt w 3, wd (urNode w)]).unitState u ruLoading
  else (s1.unitState u ruMismatch).raiseAlert 443 u

/-- One report of discovery on ring `r`. -/
def State.discover (s : State) (r : Nat) (d : RReport) : State :=
  match (s.ringUnits r).find? fun u => urPos (s.unitRec u) == d.pos with
  | none => s
  | some u =>
    let x := s.runit u
    if x.state = ruAbsent then (s.unitState u ruFound).identify u d
    else if x.state = ruFound ∨ x.state = ruLoading then s.identify u d
    else if x.state = ruMismatch ∧ (x.type ≠ d.type ∨ x.serial ≠ d.serial ∨ x.node ≠ d.node) then
      (s.unitState u ruFound).identify u d
    else s

/-- Discovery on ring `r`: the reports, the frame's bytes, and the sum of the hop delays in ns. -/
def State.discovery (s : State) (r : Nat) (ds : List RReport) (bytes hopNs : Nat) : State :=
  if !s.mastersRing r then s
  else
    let extra := (ds.filter fun d => !((s.ringUnits r).any fun u => urPos (s.unitRec u) == d.pos)).length
    let s1 := (s.setRing r { s.rioRing r with hopNs := hopNs }).put (Fld.RIO_RING_STAT_extra r) (min extra 255)
    let s2 := s1.put (Fld.RIO_RING_DELAY_worst r) (min ((bytes * 8 + 2 * hopNs) / 10) 65535)
    ds.foldl (fun s d => s.discover r d) s2

/-! ### Frames of another master (R445), service messages (R438) -/

def State.foreignFrame (s : State) (r : Nat) (claim : Word) (even : Bool) : State :=
  if s.mode != mActive || s.yieldedInHoldup || s.handingOver then s
  else
    let own := (s.reg Reg.RED_CLAIM).toNat
    if own < claim.toNat ∨ (own = claim.toNat ∧ even = true) then
      (s.setRing r { s.rioRing r with barred := true }).veerLoser
    else s.bump (Fld.RIO_RING_CNT_foreign r)

/-- A service message taken from queue `q` to the unit whose node stands in its word 0; the reply, if one
comes, joins the queue of user word 0. A leeward module frees the message unsent (R253). -/
def State.serviceMessage (s : State) (q : Nat) (reply : Option (List Byte)) : State :=
  let c := s.qConsumer q
  match s.front q with
  | none => s
  | some d =>
    if c != 0x20 && c != 0x21 then s
    else if s.leeward then s.consume q d
    else
      let ws := s.msgWords d
      let dest := (s.msgUser d 0).toNat % 8192
      let s1 := (s.consume q d).sendRing (c - 0x20) 438 ws
      match reply with
      | some bs => (s1.deliver dest ⟨1, (Agent.ring c).endpoint, bs.take 65536, 0, 0⟩).1
      | none => s1

/-! ### Changes of configuration (R451) -/

/-- Points of a node at which the configuration holds no unit any more: not available. -/
def State.nodeGone (s : State) (node : Nat) : State :=
  s.pts.foldl (fun s e => if e.1 / 2 ^ 18 = node then s.setQuality e.1 3 else s) s

/-- A changed unit record takes the unit back to FOUND; a unit without a record is absent. -/
def State.applyUnitRec (s : State) (u : Nat) (old : List Word) : State :=
  let w := s.unitRec u
  if w = old then s
  else
    let x := s.runit u
    let s1 := if old.isEmpty || (!w.isEmpty && urNode w == urNode old) then s else s.nodeGone (urNode old)
    let s2 :=
      if w.isEmpty then
        (s1.setRunit u { x with everOp := false, missRun := 0, okRun := 0, bads := [] }).unitState u ruAbsent
      else if x.state = ruAbsent then s1
      else if setBits (wAt w 0) 22 22 0 = setBits (wAt old 0) 22 22 0 ∧ wAt w 3 = wAt old 3 then s1
      else s1.unitState u ruFound
    if old.isEmpty then s2 else s2.countOper (urRing old)

end Sys2Proof.Machine
end

