-- ==== Sys2Proof/Machine/Groups.lean ====
section
/-! DEFINITION. Group transactions (R254 to R258, R448): the coordinator takes a request, prepares its parts, decides,
commits, and reports one outcome; parts at integral units answer from this module's own state. -/

namespace Sys2Proof.Machine

def State.group (s : State) (g : Nat) : Option Group := SMap.get none g s.qe.groups

/-- Groups in flight (QE_GRPSTAT). -/
def State.showGroups (s : State) : State :=
  (s.put Fld.QE_GRPSTAT_now s.qe.groups.length).peak Fld.QE_GRPSTAT_max s.qe.groups.length

def State.setGroup (s : State) (g : Nat) (x : Option Group) : State :=
  ({ s with qe := { s.qe with groups := SMap.set none g x s.qe.groups } }).showGroups

/-! ### The group table on the link (R258) -/

def partWords (p : GrpPart) : List Word :=
  [wd p.unit, wd p.phase, wd p.reason, wd p.members.length] ++
    p.members.flatMap fun m => [wd m.point, m.val, wd (b1 m.pulse), wd m.ms]

def groupWords (g : Nat) (x : Group) : List Word :=
  [wd g, wd x.phase, hi32 x.taken, lo32 x.taken, hi32 x.deadline, lo32 x.deadline, x.asked, hi32 x.apply,
   lo32 x.apply, wd x.reply, wd x.partition, wd x.maker, wd x.parts.length] ++ x.parts.flatMap partWords

/-- A group entry sent to the leeward module; one with no group says that it has ended. -/
def State.forwardGroup (s : State) (g : Nat) : State :=
  match s.group g with
  | some x => s.forward 10 (groupWords g x)
  | none => s.forward 10 [wd g]

def membersOf : Nat → List Word → List Member
  | 0, _ => []
  | n + 1, ws =>
    ⟨(wAt ws 0).toNat, wAt ws 1, wAt ws 2 == 1, (wAt ws 3).toNat⟩ :: membersOf n (ws.drop 4)

def partsOf : Nat → List Word → List GrpPart
  | 0, _ => []
  | n + 1, ws =>
    let k := (wAt ws 3).toNat
    { unit := (wAt ws 0).toNat, phase := (wAt ws 1).toNat, reason := (wAt ws 2).toNat
      members := membersOf k (ws.drop 4) } :: partsOf n (ws.drop (4 + 4 * k))

/-- A group entry taken from the windward module. -/
def State.takeGroup (s : State) (ws : List Word) : State :=
  let g := (wAt ws 0).toNat % 256
  if ws.length ≤ 1 then s.setGroup g none
  else
    let s1 := s.setGroup g (some {
      phase := (wAt ws 1).toNat, taken := wPair ws 2, deadline := wPair ws 4, asked := wAt ws 6
      apply := wPair ws 7, reply := (wAt ws 9).toNat, partition := (wAt ws 10).toNat
      maker := (wAt ws 11).toNat, parts := partsOf (wAt ws 12).toNat (ws.drop 13) })
    { s1 with qe := { s1.qe with nextGroup := (g + 1) % 256 } }

/-! ### Outcomes (R257) -/

/-- Reasons of parts `k` to `k` + 7, four bits each. -/
def reasonWord (ps : List GrpPart) (k : Nat) : Word :=
  wd ((((ps.drop k).take 8).zipIdx).foldl (fun a e => a + e.1.reason % 16 * 16 ^ e.2) 0)

def faultMap (ps : List GrpPart) : Nat :=
  (ps.zipIdx).foldl (fun a e => if e.1.reason != 0 then a + 2 ^ e.2 else a) 0

def outcomeWords (status g : Nat) (ps : List GrpPart) (t : Nat) : List Word :=
  [wd (status + g * 256), wd (faultMap ps + ps.length * 65536), reasonWord ps 0, reasonWord ps 8, lo32 t]

/-- The oldest outcome that waits for queue `q` enqueued, if it has room. -/
def State.sendOutcome (s : State) (q : Nat) : State :=
  match s.qe.outcomes.find? fun o => o.1 == q with
  | none => s
  | some o =>
    match s.deliver q ⟨7, Agent.coordinator.endpoint, wordBytes o.2, 0, 0⟩ with
    | (s1, true) => { s1 with qe := { s1.qe with outcomes := s1.qe.outcomes.erase o } }
    | (_, false) => s

/-- An outcome joins those of its reply queue, and goes at once where none waits before it. -/
def State.outcome (s : State) (reply : Nat) (ws : List Word) : State :=
  let first := !(s.qe.outcomes.any fun o => o.1 == reply)
  let s1 := { s with qe := { s.qe with outcomes := s.qe.outcomes ++ [(reply, ws)] } }
  if first then s1.sendOutcome reply else s1

/-- A group ends with a status. -/
def State.endGroup (s : State) (g : Nat) (x : Group) (status t : Nat) : State :=
  let s1 := (s.setGroup g none).forwardGroup g
  let s2 :=
    if status = stAborted ∨ status = stLate then s1.bump Fld.QE_GRPOUT_aborted
    else if status = stPartial then s1.bump Fld.QE_GRPOUT_partial else s1
  s2.outcome x.reply (outcomeWords status g x.parts t)

/-! ### Requests (R254, R448) -/

/-- Unit of a member point: an integral unit of this station, a remote unit, or none. -/
def State.memberUnit (s : State) (a : Nat) : Nat :=
  let node := a / 2 ^ 18
  if node = s.stationNode then a / 2 ^ 14 % 16
  else match (upFrom 16 240).find? fun u => !(s.unitRec u).isEmpty && urNode (s.unitRec u) == node with
    | some u => u
    | none => 65536 + node

/-- Members of a request's payload. -/
def reqMembers (ws : List Word) (n : Nat) : List Member :=
  (upFrom 0 n).map fun i =>
    ⟨(wAt ws (4 + 4 * i)).toNat, wAt ws (5 + 4 * i), wBit ws (6 + 4 * i) 0, wBits ws (7 + 4 * i) 15 0⟩

/-- Whether words 6 + 4i and 7 + 4i hold what R448 allows. -/
def memberOk (ws : List Word) (i : Nat) : Bool :=
  let a := (wAt ws (6 + 4 * i)).toNat
  let p := (wAt ws (7 + 4 * i)).toNat
  (a == 0 && p == 0) || (a == 1 && decide (1 ≤ p) && decide (p ≤ 60000))

/-- A member joins the part of its unit; a new part follows the ones before. -/
def addMember (ps : List GrpPart) (u : Nat) (m : Member) : List GrpPart :=
  if ps.any fun p => p.unit == u then
    ps.map fun p => if p.unit = u then { p with members := p.members ++ [m] } else p
  else ps ++ [{ unit := u, members := [m] }]

/-- The next group number that is free. -/
def State.groupNumber (s : State) : Option Nat :=
  ((upFrom 0 256).map fun i => (s.qe.nextGroup + i) % 256).find? fun g => (s.group g).isNone

/-- A request refused at once. -/
def State.refuseGroup (s : State) (reply status : Nat) (ps : List GrpPart) : State :=
  let (w, s1) := s.fresh
  s1.outcome reply (outcomeWords status (w.toNat % 256) ps s1.time)

/-- The coordinator takes the oldest request of queue `q`. -/
def State.groupRequest (s : State) (q : Nat) : State :=
  match s.front q with
  | none => s
  | some d =>
    if s.qConsumer q != 0x25 then s
    else if s.leeward || s.msgKind d != 6 then s.consume q d
    else
      let ws := s.msgWords d
      let part := s.msgPart d
      let maker := SMap.get 0 d s.qe.makers
      let len := s.msgLen d
      let s1 := s.consume q d
      let n := wBits ws 0 4 0
      let dl := if wBits ws 1 16 0 = 0 then 2000 else wBits ws 1 16 0
      let reply := wBits ws 3 12 0
      let ahead := (wAt ws 2 - lo32 s1.time).toInt
      let ms := reqMembers ws n
      let parts := ms.foldl (fun ps m => addMember ps (s1.memberUnit m.point) m) []
      if n = 0 ∨ 16 < n ∨ len < 16 + 16 * n ∨ dl < 250 ∨ 100000 < dl ∨
          (wAt ws 2 ≠ 0 ∧ 2000000000 < ahead) ∨ ((upFrom 0 n).all (memberOk ws)) = false ∨
          (ms.any fun m => decide (8 < s1.memberUnit m.point) && decide (s1.memberUnit m.point < 16)) then
        s1.refuseGroup reply stBadArg (if n ≤ 16 then parts else [])
      else
        match (if s1.qe.groups.length < 256 then s1.groupNumber else none) with
        | none => s1.refuseGroup reply stNoResource parts
        | some g =>
          let asked := parts.map fun p => if p.unit < 16 then { p with phase := 1 } else p
          let s2 := s1.setGroup g (some {
            parts := asked, taken := s1.time, deadline := s1.time + dl * 1000, asked := wAt ws 2
            reply := reply, partition := part, maker := maker })
          { s2 with qe := { s2.qe with nextGroup := (g + 1) % 256 } }

/-! ### Prepare (R255) -/

/-- PREPARE to the parts on ring `r`, in a cycle that begins 10 µs or more after the request was taken. A part at a node of which
there is no unit is refused there and then: its points are not configured. -/
def State.groupPrepare (s : State) (r : Nat) : State :=
  (upFrom 0 256).foldl (fun s g =>
    match s.group g with
    | some x =>
      if x.phase = 1 ∧ x.taken + 10000 ≤ s.time then
        if x.parts.any fun p => decide (256 ≤ p.unit) then
          s.endGroup g { x with parts := x.parts.map fun p => if 256 ≤ p.unit then { p with phase := 3, reason := 1 } else p }
            stAborted s.time
        else
        s.setGroup g (some { x with parts := x.parts.map fun p =>
          if p.phase = 0 ∧ 16 ≤ p.unit ∧ p.unit < 256 ∧ urRing (s.unitRec p.unit) = r then { p with phase := 1 } else p })
      else s
    | none => s) s

/-- Whether a member point is configured, and owned by the producing task, given as its number plus 1 (R30). -/
def State.memberOwned (s : State) (maker u : Nat) (m : Member) : Bool :=
  let conf :=
    if u < 16 then u != 7 && isOutput u (m.point / 256 % 64) && chanEn (s.chan u (m.point / 256 % 64)) && m.point % 256 == 0
    else decide (u < 256)
  conf && maker != 0 && match (s.task (maker - 1)).app with
    | some a => a.outputs.any fun sl => match sl with | .point addr _ => addr == m.point | .queue _ _ _ => false
    | none => false

/-- Whether another group holds a member point. -/
def State.memberHeld (s : State) (g : Nat) (m : Member) : Bool :=
  s.qe.groups.any fun e => e.1 != g && match e.2 with
    | some x => x.parts.any fun p => (p.phase == 2 || p.phase == 4) && p.members.any fun n => n.point == m.point
    | none => false

/-- Fault of an integral part's stage (R398, R407, R431): 5 supply missing, 6 stage fault, 0 none. -/
def State.stageFault (s : State) (u : Nat) (ms : List Member) : Nat :=
  if s.supply u = 2 then 5
  else if ms.any fun m =>
      let c := m.point / 256 % 64
      let x := s.chan u c
      chanLatched u c x || (u == 5 && (x.has fbThermal || x.has fbMismatch || x.has fbOpen)) then 6
  else 0

/-- What a part answers to PREPARE: 0 PREPARED, or a reason. `told` is what a remote unit answers beside
what this module knows. -/
def State.partAnswer (s : State) (g : Nat) (x : Group) (p : GrpPart) (told : Nat) : Nat :=
  if !(p.members.all (s.memberOwned x.maker p.unit)) then 1
  else if p.members.any (s.memberHeld g) then 2
  else if p.unit < 16 then
    if (s.reg Reg.RED_CLAIM).toNat < (s.stage p.unit).h.toNat then 3 else s.stageFault p.unit p.members
  else if (s.runit p.unit).state ≠ ruOperational then 4
  else if (s.reg Reg.RED_CLAIM).toNat < (s.runit p.unit).h.toNat then 3 else told % 16

/-- A group with part `i` changed. -/
def Group.withPart (x : Group) (i : Nat) (f : GrpPart → GrpPart) : Group :=
  { x with parts := x.parts.zipIdx.map fun e => if e.2 = i then f e.1 else e.1 }

/-- The answer of part `i` of group `g` to PREPARE. -/
def State.groupAnswer (s : State) (g i told : Nat) : State :=
  match s.group g with
  | none => s
  | some x =>
    match x.parts[i]? with
    | none => s
    | some p =>
      if x.phase ≠ 1 ∨ p.phase ≠ 1 ∨ s.netSilent then s
      else
        let why := s.partAnswer g x p told
        if why = 0 then
          let y := x.withPart i fun p => { p with phase := 2 }
          if y.parts.all fun p => p.phase == 2 then (s.setGroup g (some { y with phase := 2 })).forwardGroup g
          else s.setGroup g (some y)
        else s.endGroup g (x.withPart i fun p => { p with phase := 3, reason := why }) stAborted s.time

/-- The prepare deadline of group `g`: silent parts end it with reason 4. -/
def State.groupDeadline (s : State) (g : Nat) : State :=
  match s.group g with
  | none => s
  | some x =>
    if x.phase ≠ 1 ∨ s.netSilent then s
    else
      let s1 := s.runUntil x.deadline
      s1.endGroup g { x with parts := x.parts.map fun p => if p.phase ≤ 1 then { p with reason := 4 } else p }
        stAborted s1.time

/-! ### Commit (R256) -/

/-- COMMIT of every decided group, in the ring cycle that begins now. -/
def State.groupCommit (s : State) : State :=
  let start := s.time
  (upFrom 0 256).foldl (fun s g =>
    match s.group g with
    | some x =>
      if x.phase ≠ 2 then s
      else
        let d := (x.asked - lo32 start).toInt
        if x.asked ≠ 0 ∧ d < 250000 then s.endGroup g x stLate start
        else
          let apply := if x.asked = 0 then start + 250000 else start + d.toNat
          (s.setGroup g (some { x with
            phase := 3, apply := apply
            parts := x.parts.map fun p => if p.phase = 2 then { p with phase := 4 } else p })).forwardGroup g
    | none => s) s

/-- What a point holds now: the last publication of an integral point, or the value at a remote unit. -/
def State.memberValue (s : State) (u a : Nat) : Word64 :=
  if u < 16 then (s.out a).val else (SMap.get ⟨0, 0, 0⟩ (a % 2 ^ 18) (s.runit u).outs).val

/-- A member point given a value outside the owner's publications (R449). -/
def State.setMember (s : State) (u a : Nat) (v : Word64) : State :=
  if u < 16 then s.publish a v
  else
    let x := s.runit u
    let p := a % 2 ^ 18
    s.setRunit u { x with
      outs := SMap.set ⟨0, 0, 0⟩ p ⟨p, v, (SMap.get ⟨0, 0, 0⟩ p x.outs).publ⟩ x.outs }

/-- The members of a part take their values; a pulse remembers what to restore (R448). -/
def State.applyMembers (s : State) (p : GrpPart) : State :=
  p.members.foldl (fun s m =>
    let s1 := if m.pulse then
        { s with qe := { s.qe with
          pulses := s.qe.pulses ++ [⟨p.unit, m.point, s.memberValue p.unit m.point, s.time + m.ms * 1000000⟩] } }
      else s
    s1.setMember p.unit m.point (m.val.setWidth 64)) s

/-- A committed part applies its members, once. `told`: a remote unit's reason, 0 where it applies. -/
def State.applyPart (s : State) (g i told : Nat) : State :=
  match s.group g with
  | none => s
  | some x =>
    match x.parts[i]? with
    | none => s
    | some p =>
      if p.phase ≠ 4 ∨ s.time < x.apply then s
      else
        let why := if p.unit < 16 then s.stageFault p.unit p.members else told % 16
        if why = 0 then (s.setGroup g (some (x.withPart i fun p => { p with phase := 5 }))).applyMembers p
        else s.setGroup g (some (x.withPart i fun p => { p with phase := 6, reason := why }))

/-- Parts of unit `u` whose apply time has come apply. -/
def State.applyDue (s : State) (u told : Nat) : State :=
  (upFrom 0 256).foldl (fun s g =>
    match s.group g with
    | some x => (upFrom 0 x.parts.length).foldl (fun s i =>
        match x.parts[i]? with
        | some p => if p.unit = u then s.applyPart g i told else s
        | none => s) s
    | none => s) s

/-- A group all of whose parts have reported ends. -/
def State.closeGroup (s : State) (g : Nat) : State :=
  match s.group g with
  | none => s
  | some x =>
    if x.parts.all fun p => p.reported then
      s.endGroup g x (if x.parts.all fun p => p.reason == 0 then stOk else stPartial) x.apply
    else s

/-- The report of part `i` of group `g`; the clock moves on to the apply time. -/
def State.groupReport (s : State) (g i told : Nat) : State :=
  match s.group g with
  | none => s
  | some x =>
    if x.phase ≠ 3 ∨ s.netSilent then s
    else
      let s1 := (s.runUntil x.apply).applyPart g i told
      match s1.group g with
      | none => s1
      | some y =>
        match y.parts[i]? with
        | none => s1
        | some p =>
          if p.phase = 5 ∨ p.phase = 6 then
            (s1.setGroup g (some (y.withPart i fun p => { p with reported := true }))).closeGroup g
          else s1

/-- The report window of group `g` closes 250 µs after the apply time: integral parts have applied, and a part
without a report counts as FAILED, reason 7. -/
def State.groupWindow (s : State) (g : Nat) : State :=
  match s.group g with
  | none => s
  | some x =>
    if x.phase ≠ 3 ∨ s.netSilent then s
    else
      let s1 := s.runUntil (x.apply + 250000)
      let s2 := (upFrom 0 x.parts.length).foldl (fun s i =>
        match x.parts[i]? with
        | some p => if p.unit < 16 then s.applyPart g i 0 else s
        | none => s) s1
      match s2.group g with
      | none => s2
      | some y =>
        (s2.setGroup g (some { y with parts := y.parts.map fun p =>
          if p.reported then p else { p with reported := true, reason := 7 } })).closeGroup g

/-- A pulse at a point ends: the clock moves on to its end, and the value is restored (R448). -/
def State.pulseOver (s : State) (a : Nat) : State :=
  match s.qe.pulses.find? fun p => p.point == a with
  | none => s
  | some p =>
    let s1 := s.runUntil p.until_
    ({ s1 with qe := { s1.qe with pulses := s1.qe.pulses.erase p } }).setMember p.unit p.point p.back

/-- A unit that has lost its ring drops its preparations after 100 ms (R258). -/
def State.dropPreparation (s : State) (u : Nat) : State :=
  let s1 := s.runUntil ((s.runit u).framed + 100000000)
  { s1 with qe := { s1.qe with groups := s1.qe.groups.map fun e =>
      (e.1, e.2.map fun x => { x with parts := x.parts.map fun p =>
        if p.unit = u ∧ (p.phase = 2 ∨ p.phase = 4) then { p with phase := 7 } else p }) } }

/-- After a veer, every group not committed is aborted with reason 8 for every part (R258). -/
def State.groupVeerAbort (s : State) : State :=
  (upFrom 0 256).foldl (fun s g =>
    match s.group g with
    | some x =>
      if x.phase = 3 then s
      else s.endGroup g { x with parts := x.parts.map fun p => { p with reason := 8 } } stAborted s.time
    | none => s) s

/-- A ring cycle with the coordinator's messages in it (R255, R256, R437). The coordinator of a leeward module does nothing: it holds
the table that is forwarded to it (R258). -/
def State.ringCycle (s : State) (r : Nat) : State :=
  let s1 := s.ringStart r
  if s1.netSilent then s1 else (s1.groupCommit).groupPrepare r

end Sys2Proof.Machine
end

