-- ==== Sys2Proof/Machine/Publish.lean ====
section
/-! DEFINITION. What follows a publication (R28, R31): items that a block takes in the clock of the publication, and the
checkpoints of cold tasks (R231, R232). -/

namespace Sys2Proof.Machine

/-! ### Checkpoints (R231, R232) -/

def State.ckptRec (s : State) (t : Nat) : List Word := s.rec_ 0x0F (0x100 + t)
def ckptInterval (r : List Word) : Nat := if wBits r 0 15 0 = 0 then 100 else wBits r 0 15 0
def ckptPersist (r : List Word) : Bool := wBit r 0 16

/-- RED begins to copy the committed lines of cold task `t`. -/
def State.beginCkpt (s : State) (t : Nat) : State :=
  { s with red := { s.red with
      copies := s.red.copies.filter (·.task != t) ++ [⟨t, s.commits t⟩]
      retake := s.red.retake.filter (· != t) } }

/-- What a commit of cold task `t` does to its checkpoint: a copy under way is abandoned, and one that is due begins, after the
first commit of an Nth trade cycle. -/
def State.coldCommit (s0 : State) (t : Nat) : State :=
  let first := SMap.get 0 t s0.red.ckptCycle != s0.sys.cycles + 1
  let s := { s0 with red := { s0.red with ckptCycle := SMap.set 0 t (s0.sys.cycles + 1) s0.red.ckptCycle } }
  if s.red.copies.any (·.task == t) then
    { s.bump Fld.RED_ERR_ckpt_lost with red := { s.red with
        copies := s.red.copies.filter (·.task != t), retake := t :: s.red.retake.filter (· != t) } }
  else if s.red.retake.contains t then s.beginCkpt t
  else if s.sys.cycles % ckptInterval (s.ckptRec t) = 0 ∧ first then s.beginCkpt t
  else s

/-- Words of a list of bytes, the last one filled with zeros. -/
def packWords : List Byte → List Word
  | a :: b :: c :: d :: r => wd (leNat [a, b, c, d]) :: packWords r
  | [] => []
  | r => [wd (leNat r)]

/-- The checkpoint of task `t`: its header, then its committed lines. -/
def State.ckptWords (s : State) (t : Nat) : List Word :=
  let b := s.taskInst t
  let n := s.instSize b
  let data := s.committed b 0 n
  let c := s.commits t
  [0x434B5054, wd t, hi32 c, lo32 c, lo32 s.time, wd n, crc32c data, 0x56414C44] ++ packWords data

/-- Place of the MRAM checkpoint of task `t`: after those of the lower cold tasks with the persist flag. -/
def State.ckptPlace (s : State) (t : Nat) : Nat :=
  (upFrom 0 t).foldl (fun a u =>
    if s.taskCold u && ckptPersist (s.ckptRec u) then a + 32 + ((wAt (s.task u).decl 3).toNat + 63) / 64 * 64 else a) mramCkptLo

/-- A checkpoint written to MRAM, where the region has room for it. -/
def State.storeCkpt (s : State) (t : Nat) (ws : List Word) : State :=
  let a := s.ckptPlace t
  let s1 := if a + 4 * ws.length ≤ mramCkptHi then s.setWords a ws else s
  { s1 with nv := { s1.nv with ckpts := SMap.set [] t ws s1.nv.ckpts } }

/-- A checkpoint copy ends: to the leeward module, and to MRAM where the record says so. -/
def State.ckptDone (s : State) (t : Nat) : State :=
  if s.red.copies.any (·.task == t) then
    let ws := s.ckptWords t
    let s1 := { s with red := { s.red with copies := s.red.copies.filter (·.task != t) } }
    let s2 := if ckptPersist (s.ckptRec t) then s1.storeCkpt t ws else s1
    (s2.forward 14 ws).chargeDram 0 (dramLines (s.taskInst t) (4 * ws.length))
  else s

/-- A checkpoint that reaches the leeward module. -/
def State.takeCkpt (s : State) (ws : List Word) : State :=
  { s with red := { s.red with ckpts := SMap.set [] (wAt ws 1).toNat ws s.red.ckpts } }

/-- Whether a checkpoint is valid: its mark, and its CRC over the lines. -/
def ckptValid (ws : List Word) : Bool :=
  wAt ws 0 == 0x434B5054 && wAt ws 7 == 0x56414C44 &&
    wAt ws 6 == crc32c ((wordBytes (ws.drop 8)).take (wAt ws 5).toNat)

/-- The newest valid checkpoint of task `t`. -/
def State.newestCkpt (s : State) (t : Nat) : Option (List Word) :=
  let cs := [SMap.get [] t s.red.ckpts, SMap.get [] t s.nv.ckpts].filter ckptValid
  cs.foldl (fun best ws => match best with
    | none => some ws
    | some b => if wPair b 2 < wPair ws 2 then some ws else best) none

/-- The data from which cold task `t` starts at a veer (R232). -/
def State.coldStart (s : State) (t : Nat) : State :=
  if !(s.taskCold t && s.taskPlaced t) then s
  else match s.newestCkpt t with
    | some ws =>
      let bs := (wordBytes (ws.drop 8)).take (wAt ws 5).toNat
      let s1 := s.buildPair (s.taskInst t) t (wAt ws 5).toNat ((upFrom 0 bs.length).zip bs)
      s1.setTask t { s1.task t with built := true }
    | none =>
      let app := ((s.task t).app).getD { task := t }
      let size := ((wAt (s.task t).decl 3).toNat + 63) / 64 * 64
      let s1 := s.buildPair (s.taskInst t) t size app.initial
      s1.setTask t { s1.task t with built := true }

/-! ### Items taken at publication -/

/-- A slot of an output list after publication: its block takes the item in the same clock (R334, R353, R365, R387).
The other blocks take their items at instants of their own. -/
def State.takeSlot (s : State) : Slot → State
  | .queue _ _ _ => s
  | .point a _ =>
    if a < 2 ^ 32 then s
    else
      let k := a - 2 ^ 32
      let blk := k / 2 ^ 24
      let idx := k / 256 % 65536
      let item := k % 256
      match s.takeItem a with
      | (_, _, false) => s
      | (s1, v, true) =>
        let w : Word := v.setWidth 32
        if blk = 6 ∧ item = 2 then (s1.runDom (actDom (s1.actRec idx))).takeArm idx w
        else if blk = 7 ∧ item = 0 ∧ 0x20 ≤ idx ∧ idx < 0x22 then s1.syncItemAt (idx - 0x20) w
        else if blk = 7 ∧ item = 0 ∧ 0x80 ≤ idx ∧ idx < 0xC0 then s1.takeReq (idx - 0x80) w
        else if blk = 8 ∧ item = 0 ∧ 0x100 ≤ idx then s1.takeCmp (idx - 0x100) v
        else s

/-- Publish and commit of the activation on lane `l`, with all that follows in that clock (R28, R31, R231). -/
def State.finishAct (s : State) (l : Nat) : State :=
  match (s.lane l).act with
  | none => s
  | some a =>
    let app := ((s.task a.task).app).getD { task := a.task }
    let s1 := (s.completeAct l).pfcEvent 18 a.task 1
    let s2 := app.outputs.foldl State.takeSlot s1
    let s3 := { s2 with red := { s2.red with mirror := s2.red.mirror.filter (· != a.task) } }
    if s3.taskCold a.task && !s3.leeward then s3.coldCommit a.task else s3

end Sys2Proof.Machine
end

