-- ==== Sys2Proof/Machine/SafetyBlock.lean ====
section
/-! DEFINITION. The safety block (R453 to R483): safety inputs and their diagnostics, STO outputs, instances and their
evaluation, remote telegrams, the background check, confirmation, and the change log. -/

namespace Sys2Proof.Machine

/-! ### Sets and records (R477, R478) -/

/-- Check value of a set. -/
def setCheck (ws : List Word) : Word := crc32c (wordBytes ws)
def State.setLoaded (s : State) (n : Nat) : Bool := !(s.paramSet n).isEmpty
def State.setConfirmed (s : State) (n : Nat) : Bool :=
  s.setLoaded n && SMap.get none n s.nv.confirmed == some (setCheck (s.paramSet n)) && !s.saf.bad.contains n

/-- Record of unit-7 channel `c`. -/
def State.safeRec (s : State) (c : Nat) : List Word :=
  ((setRecords (s.paramSet 0)).find? fun r => wBits r 0 3 0 == c).getD []

/-- Fields of an instance record. -/
def irType (r : List Word) : Nat := wBits r 0 10 8
def irReset (r : List Word) : Nat := wBits r 0 13 12
def irButton (r : List Word) : Nat := wBits r 0 16 14
def irInputs (r : List Word) : List Nat := ([1, 2, 3].map fun i => (wAt r i).toNat).filter (· != 0)
def irVote (r : List Word) : Nat := wBits r 4 1 0
def irFaultDemand (r : List Word) : Bool := wBit r 4 2
def irDelay (r : List Word) : Nat := wBits r 4 15 3
def irMaxStop (r : List Word) : Nat := wBits r 4 31 16
/-- Targets with their numbers. -/
def irTargets (r : List Word) : List (Nat × Nat) :=
  ((upFrom 0 4).map fun t => (t, (wAt r (5 + t)).toNat)).filter fun e => e.2 != 0
def irDelayed (r : List Word) (t : Nat) : Bool := wBit r 9 t
def irEdmUsed (r : List Word) : Bool := wBit r 9 8
/-- Channel of unit 7 that the EDM input of an instance is. -/
def irEdmChan (r : List Word) : Nat := 4 + wBits r 9 7 4 % 4

/-- Class L above 32 enabled instances. -/
def State.enabledInsts (s : State) : Nat := (s.instRecs.filter fun e => irEn e.2).length
def State.classL (s : State) : Bool := decide (32 < s.enabledInsts)

def State.inst (s : State) (i : Nat) : SafeInst := SMap.get {} i s.saf.insts
def State.setInst (s : State) (i : Nat) (x : SafeInst) : State :=
  { s with saf := { s.saf with insts := SMap.set {} i x s.saf.insts } }
def State.safeIn (s : State) (c : Nat) : SafeIn := SMap.get {} c s.saf.ins
def State.setSafeIn (s : State) (c : Nat) (x : SafeIn) : State :=
  { s with saf := { s.saf with ins := SMap.set {} c x s.saf.ins } }

/-- States of an instance (R463), and items of its owner task (R464). -/
def siOff : Nat := 0
def siUnconfirmed : Nat := 1
def siTripped : Nat := 2
def siRun : Nat := 3
def siStopping : Nat := 4
def siLockout : Nat := 5
def demandItem (i : Nat) : Nat := itemKey 11 i 0
def resetItem (i : Nat) : Nat := itemKey 11 i 1
def sstateItem (i : Nat) : Nat := itemKey 11 i 2

/-- Order of safety of two states (R476). -/
def safeRank (st : Nat) : Nat :=
  if st = siOff then 0 else if st = siRun then 1 else if st = siStopping then 2
  else if st = siTripped then 3 else if st = siUnconfirmed then 4 else 5

/-! ### What SAF shows (R484) -/

/-- SAF_INSTSTAT of an instance. -/
def State.instStat (s : State) (i : Nat) : Word :=
  let x := s.inst i
  match s.instRecs.find? fun e => irInst e.2 == i with
  | some (n, r) => wd (x.state + 8 * b1 x.demand + irType r % 4 * 256 + x.safe % 16 * 4096 + x.cause % 16 * 65536 +
      n * 2 ^ 20 + x.rseq % 256 * 2 ^ 24)
  | none => 0

/-- SAF_STAT, SAF_SETS and SAF_CRCs brought up to date. -/
def State.showSaf (s : State) : State :=
  let out := (s.instRecs.filter fun e => let st := (s.inst (irInst e.2)).state; st != siOff && st != siRun).length
  let loaded := (upFrom 0 16).filter fun n => s.setLoaded n
  let conf := (upFrom 0 16).filter fun n => s.setConfirmed n
  let bad := loaded.any fun n => !conf.contains n
  let s1 := ((((((s.put Fld.SAF_STAT_tripped out).flag Fld.SAF_STAT_edmdue (!s.saf.edmDue.isEmpty)).flag
    Fld.SAF_STAT_logfull (decide (4000 ≤ s.nv.logSeq - s.nv.logArchived))).flag Fld.SAF_STAT_class s.classL).flag
    Fld.SAF_STAT_unconfirmed bad).flag Fld.SYS_STAT_unconfirmed bad).put Fld.SAF_SETS_loaded
    (loaded.foldl (fun a n => a + 2 ^ n) 0)
  let s2 := s1.put Fld.SAF_SETS_confirmed (conf.foldl (fun a n => a + 2 ^ n) 0)
  (upFrom 0 16).foldl (fun s n => s.setReg (Reg.SAF_CRC n) (if s.setLoaded n then setCheck (s.paramSet n) else 0)) s2

/-- The channels of unit 7 take the enable that set 0 gives them. -/
def State.safeChans (s : State) : State :=
  (upFrom 0 16).foldl (fun s c =>
    s.putChan 7 c { s.chan 7 c with cfg := s.workRec 7 c (if (s.safeRec c).isEmpty then [] else [1]) }) s

/-! ### Safety inputs (R455 to R457) -/

/-- Whether a channel carries a latched input fault. -/
def inputFault (x : FChan) : Bool := x.has fbCrossshort || x.has fbTestfail || x.has fbDiscrepancy

/-- Whether supply 7 is low or missing, in which every safety and EDM input reads demand (R455). -/
def State.supplyBad (s : State) : Bool := s.supply 7 == 1 || s.supply 7 == 2

/-- Whether a safety or EDM input of unit 7 reads demand, by what was decided 5 µs ago or more. -/
def State.inputDemand (s : State) (c : Nat) : Bool :=
  let x := s.safeIn c
  s.supplyBad || (if s.clk < x.at_ + 1250 then x.was else x.dem)

/-- Filter of an input in samples, and its discrepancy time in fabric clocks. -/
def filterSamples (r : List Word) : Nat := max 1 (wBits r 0 9 5)
def discrepancyClks (r : List Word) : Nat := wBits r 0 18 10 * 250000

/-- A fault bit of an input set or cleared, with its record (R457). -/
def State.inputMark (s : State) (c n : Nat) (b : Bool) : State :=
  if (s.chan 7 c).has n = b then s
  else ((s.putChan 7 c ((s.chan 7 c).mark n b)).setSafeIn c { s.safeIn c with seenDem := false }).record 4 457 c
    (b1 (!b)) (b1 b) 0xFF [wd n]

/-- A decision of an input. -/
def State.decideInput (s : State) (c : Nat) (dem : Bool) : State :=
  let x := s.safeIn c
  if x.dem = dem then s
  else
    let s1 := s.setSafeIn c { x with dem := dem, was := x.dem, at_ := s.clk, prevAt := x.at_ }
    s1.putChan 7 c { s1.chan 7 c with force := b1 (!dem), ts := s1.time }

/-- A supply 7 that is low or missing: every input of unit 7 with a record is decided. -/
def State.safeSupply (s : State) : State :=
  if s.supplyBad then (upFrom 4 12).foldl (fun s c => if (s.safeRec c).isEmpty then s else s.decideInput c true) s else s

/-- A sample of input `c`; a channel whose sample falls in its own dark pulse keeps the one before. The discrepancy time runs from the
channel that leaves the run level first (R457). -/
def State.sampleInput (s : State) (c : Nat) (a b darkA darkB : Bool) : State :=
  let r := s.safeRec c
  if r.isEmpty then s
  else
    let x := s.safeIn c
    let ra := if darkA then x.rawA else a
    let rb := if darkB then x.rawB else b
    let da := !ra
    let db := if wBit r 0 4 then rb else !rb
    let nA := if da = x.demA then x.nA + 1 else 1
    let nB := if db = x.demB then x.nB + 1 else 1
    let f := filterSamples r
    let diff := if da = db then none else if x.diffSince.isNone && !x.demA && !x.demB then some s.clk else x.diffSince
    let bothDem := da && db && decide (f ≤ nA) && decide (f ≤ nB)
    let bothRun := !da && !db && decide (f ≤ nA) && decide (f ≤ nB)
    let y := { x with
      rawA := ra, rawB := rb, demA := da, demB := db, nA := nA, nB := nB, diffSince := diff
      seenDem := x.seenDem || bothDem }
    let s1 := (s.setSafeIn c y).putChan 7 c { s.chan 7 c with a := ra, b := rb }
    let clears := inputFault (s1.chan 7 c) && x.seenDem && bothRun
    let s2 := if clears then
        ((s1.inputMark c fbCrossshort false).inputMark c fbTestfail false).inputMark c fbDiscrepancy false
      else s1
    if (da && decide (f ≤ nA)) || (db && decide (f ≤ nB)) || inputFault (s2.chan 7 c) || s2.supplyBad then s2.decideInput c true
    else if bothRun then s2.decideInput c false
    else s2

/-- Both channels of every safety and EDM input sampled: closed contacts of channels 4 to 15 as bits. -/
def State.sampleInputs (s : State) (a b : Nat) (darkA darkB : Bool) : State :=
  (upFrom 4 12).foldl (fun s c => s.sampleInput c (a.testBit (c - 4)) (b.testBit (c - 4)) darkA darkB) s

/-- A test source went dark: the channels that read closed in its pulse, and those that never read open. -/
def State.testPulse (s : State) (closed never : Nat) : State :=
  (upFrom 4 12).foldl (fun s c =>
    if (s.safeRec c).isEmpty then s
    else
      let s1 := if closed.testBit (c - 4) then s.inputMark c fbCrossshort true else s
      let s2 := if never.testBit (c - 4) then s1.inputMark c fbTestfail true else s1
      if inputFault (s2.chan 7 c) then s2.decideInput c true else s2) s

/-- The discrepancy time of input `c` has run out while its channels differ. -/
def State.discrepancy (s : State) (c : Nat) : State :=
  match (s.safeIn c).diffSince with
  | none => s
  | some t =>
    let s1 := s.advance (t + discrepancyClks (s.safeRec c) - s.clk)
    (s1.inputMark c fbDiscrepancy true).decideInput c true

/-! ### STO outputs (R458) -/

/-- A test of one switch of STO output `c`: the terminal in the dark pulse and outside it. In a pair the partner may drive the
terminal of a stage that does not drive, and its reading is no fault (log entry 151). -/
def State.stoTest (s : State) (c : Nat) (swB inPulse outside : Bool) : State :=
  let x := s.chan 7 c
  let own := !s.sys.pins.pair || (s.stage 7).mode == smDrive
  let bad := if x.force != 0 then inPulse || !outside else outside && own
  let x1 := if swB then { x with raw := outside } else { x with level := outside }
  let s1 := s.putChan 7 c x1
  if bad then (s1.putChan 7 c { x1.mark fbStuck true with force := 0 }).record 4 458 c 0 1 0xFF [] else s1

/-! ### Demands of an instance (R464, R468, R469) -/

/-- A remote safety input by its point address: whether it reads demand, and whether it is faulted. -/
def State.remoteDemand (s : State) (a : Nat) : Bool × Bool :=
  let x := SMap.get {} a s.saf.remotes
  let g := SMap.get {} x.group s.saf.groups
  (g.expired || !x.run || x.fault, g.expired || x.fault)

/-- An input of an instance: whether it reads demand, and whether it is faulted. -/
def State.demandAt (s : State) (a : Nat) : Bool × Bool :=
  if a / 2 ^ 18 = s.stationNode ∨ a / 2 ^ 18 = s.sys.node then
    let c := a / 256 % 64
    (s.inputDemand c, inputFault (s.chan 7 c) || s.chanQuality 7 c 0 == 2)
  else s.remoteDemand a

/-- The vote of a type-3 instance, and of one demand input in demand for the other types. -/
def State.voted (s : State) (r : List Word) : Bool :=
  let xs := (irInputs r).map s.demandAt
  let dem := (xs.filter fun x => x.1).length
  let flt := (xs.filter fun x => x.2).length
  if irType r = 3 ∧ irVote r = 2 then
    if 2 ≤ flt then true
    else if flt = 1 then irFaultDemand r || (xs.filter fun x => x.1 && !x.2).length != 0
    else decide (2 ≤ dem)
  else xs.any fun x => x.1 || x.2

/-- Whether a point is an STO output of this station. -/
def State.isSto (s : State) (a : Nat) : Bool :=
  (a / 2 ^ 18 == s.stationNode || a / 2 ^ 18 == s.sys.node) && a / 2 ^ 14 % 16 == 7

/-- Whether a channel of the instance is faulted: its STO targets and its EDM input, and for types 1 and 2 its
demand inputs. -/
def State.chanFault (s : State) (r : List Word) : Bool :=
  ((irTargets r).any fun t => s.isSto t.2 && (s.chan 7 (t.2 / 256 % 64)).has fbStuck) ||
    (irEdmUsed r && (let x := s.chan 7 (irEdmChan r); x.has fbEdm || inputFault x)) ||
    (irType r != 3 && (irInputs r).any fun a => (s.demandAt a).2)

/-! ### Speed (R468) -/

/-- One speed source of unit 6: its reading in 0.01 % of nominal, whether it is faulted, and whether a reading
of 0 counts as standstill. -/
def State.speedSource (s : State) (a nominal : Nat) : Nat × Bool × Bool :=
  let c := a / 256 % 64
  let x := s.chan 6 c
  let h := SMap.get [] c s.saf.speeds
  let v : Int :=
    if c < 6 then (h.headD 0 - h.getD 20 (h.getLastD 0)) * 100 else x.force
  let bad := x.has fbLost || x.has fbLine || x.has fbOpen || x.has fbShort || s.chanQuality 6 c 0 == 2
  (if nominal = 0 then 0 else v.natAbs * 10000 / nominal, bad,
   decide (c < 6) || v != 0 || decide (x.ts + 400000000 ≤ s.time))

def State.speedSources (s : State) (r : List Word) : List (Nat × Bool × Bool) :=
  ([(10, 12), (11, 13)].filter fun e => wAt r e.1 != 0).map fun e =>
    s.speedSource (wAt r e.1).toNat (wAt r e.2).toNat

def measuredSpeed (xs : List (Nat × Bool × Bool)) : Nat := (xs.map (·.1)).foldl max 0

/-- Whether two sources differ by more than the tolerance. -/
def speedsDiffer (r : List Word) (xs : List (Nat × Bool × Bool)) : Bool :=
  match xs with
  | [a, b] => decide (wBits r 15 15 0 < max a.1 b.1 - min a.1 b.1)
  | _ => false

/-- The envelope at `t` fabric clocks after the trip, times 250 000 000 (R467). -/
def envelope (r : List Word) (vt t : Nat) : Int :=
  let d := irDelay r * 250000
  ((vt + wBits r 14 31 16 : Nat) : Int) * 250000000 - (wBits r 15 31 16 * 10 * (t - d) : Nat)

/-- The counts of both encoders kept at an evaluation, 10 ms back. -/
def State.keepSpeeds (s : State) : State :=
  [4, 5].foldl (fun s c =>
    let h := ((s.chan 6 c).count :: SMap.get [] c s.saf.speeds).take 21
    { s with saf := { s.saf with speeds := SMap.set [] c h s.saf.speeds } }) s

/-! ### One instance (R463 to R470) -/

/-- One of several causes that hold at once: the manual does not order them. -/
def State.pickCause (s : State) (cs : List Nat) : State × Nat :=
  match cs with
  | [] => (s, 0)
  | [c] => (s, c)
  | c :: _ =>
    let (w, s1) := s.fresh
    (s1, cs.getD (w.toNat % cs.length) c)

/-- An instance enters a state with a cause. -/
def State.instTo (s : State) (i st cause : Nat) : State :=
  let x := s.inst i
  if x.state = st then s
  else
    let trip := st == siTripped || st == siLockout
    let first := x.state == siRun && st != siRun
    let s1 := s.setInst i { x with
      state := st, cause := cause
      tripTime := if first then lo32 s.time else x.tripTime
      tripClk := if first then s.clk else x.tripClk }
    let s2 := if trip then s1.bump Fld.SAF_CNT_trips else s1
    if trip && cause != 0 then s2.notify 0x0481 none [wd i, wd cause] else s2

/-- The causes of the demands present at an instance (R464). -/
def State.demandCauses (s : State) (r : List Word) : List Nat :=
  let item := (s.out (demandItem (irInst r))).val.getLsbD 0
  (if s.voted r then [1] else []) ++ (if item then [2] else []) ++ (if s.chanFault r then [8] else []) ++
    (if s.supply 7 = 1 ∨ s.supply 7 = 2 then [9] else [])

/-- Whether the EDM input of an instance reads released. -/
def State.edmReleased (s : State) (r : List Word) : Bool := !s.inputDemand (irEdmChan r)

/-- A reset finds latched faults of an instance's outputs and EDM gone (R458, R459). -/
def State.clearLatched (s : State) (r : List Word) : State :=
  let s1 := (irTargets r).foldl (fun s t =>
    let c := t.2 / 256 % 64
    if s.isSto t.2 && !(s.chan 7 c).level && !(s.chan 7 c).raw then s.putChan 7 c ((s.chan 7 c).mark fbStuck false)
    else s) s
  if irEdmUsed r && s1.edmReleased r then s1.putChan 7 (irEdmChan r) ((s1.chan 7 (irEdmChan r)).mark fbEdm false)
  else s1

/-- Modes in which SAF evaluates, and in which it takes resets (R475). -/
def safEvaluates (m : Nat) : Bool := m == mCommission || m == mActive || m == mStandby || m == mSafe
def safResets (m : Nat) : Bool := m == mCommission || m == mActive

/-- Whether a reset of the record's source comes at this evaluation, and the instance with what was seen of
it: a button's return after 0.1 to 5 s, or a new RESET sequence (R465). -/
def State.resetEvent (s : State) (r : List Word) : Bool × SafeInst :=
  let x := s.inst (irInst r)
  let c := 8 + irButton r
  let now := s.inputDemand c
  let held := (s.safeIn c).at_ - (s.safeIn c).prevAt
  let p := s.out (resetItem (irInst r))
  let seq := p.val.toNat % 256
  let new := p.q != 3 && (!x.seqTaken || seq != x.rseq)
  let y := { x with button := now, rseq := if new then seq else x.rseq, seqTaken := x.seqTaken || new }
  (if irReset r = 0 then x.button && !now && decide (25000000 ≤ held) && decide (held ≤ 1250000000)
   else if irReset r = 1 then new
   else irReset r == 2 && irType r == 3 && !irEdmUsed r, y)

/-- STOPPING at an evaluation (R467). -/
def State.stopping (s : State) (r : List Word) : State :=
  let i := irInst r
  let x := s.inst i
  let xs := s.speedSources r
  let v := measuredSpeed xs
  let t := s.clk - x.tripClk
  let env := envelope r x.vt t
  let dis := match x.disSince with | some k => decide (k + 25000000 < s.clk) | none => false
  let locks := (if env < (v * 250000000 : Nat) then [4] else []) ++ (if (xs.any fun y => y.2.1) || dis then [5] else [])
  let s1 := s.setInst i { x with env := min 65534 (env / 250000000).toNat }
  if locks.isEmpty then
    let ends := (if irMaxStop r * 250000 ≤ t then [3] else []) ++
      (if v ≤ wBits r 14 15 0 ∧ xs.all (fun y => y.2.2) then [x.cause] else [])
    if ends.isEmpty then s1
    else
      let (s2, c) := s1.pickCause ends
      s2.instTo i siTripped c
  else
    let (s2, c) := s1.pickCause locks
    s2.instTo i siLockout c

/-- Whether the latched cause of a LOCKOUT has gone (R463). -/
def State.lockGone (s : State) (r : List Word) : Bool :=
  let x := s.inst (irInst r)
  if x.cause = 5 then !((s.speedSources r).any fun y => y.2.1) && !speedsDiffer r (s.speedSources r)
  else if x.cause = 7 then !(s.chan 7 (irEdmChan r)).has fbEdm
  else true

/-- Whether a target is energised: no instance holds it, and an output other than an STO output is driven by its owner (R462). -/
def State.energised (s : State) (a : Nat) : Bool := !s.saf.held.contains a && (s.isSto a || s.driven a != 0)

/-- The EDM check of an instance against its targets as they stand after this evaluation's changes (R459, R470). -/
def State.edmCheck (s : State) (r : List Word) : State :=
  if !irEdmUsed r then s
  else
    let i := irInst r
    let x := s.inst i
    let on := (irTargets r).any fun t => s.energised t.2
    let rel := s.edmReleased r
    let tedm := wBits (s.safeRec (irEdmChan r)) 1 10 0 * 250000
    let at_ := if on = x.edmOn then x.edmAt.getD s.clk else s.clk
    let ok := if on = x.edmOn then x.edmOk else false
    let agree := rel != on
    let fail := if ok then !agree else !agree && decide (at_ + tedm ≤ s.clk)
    let s1 := s.setInst i { x with
      edmOn := on, edmAt := some at_, edmOk := ok || agree, edmLast := if !ok && agree && !on then s.clk else x.edmLast }
    let s2 := if !ok && agree && !on then
        { s1.clearAlert 483 i with saf := { s1.saf with edmDue := s1.saf.edmDue.filter (· != i) } } else s1
    if fail then
      ((s2.putChan 7 (irEdmChan r) ((s2.chan 7 (irEdmChan r)).mark fbEdm true)).instTo i siLockout 7)
    else s2

/-- Targets of an instance at their safe states, by its state (R463). -/
def safeMask (r : List Word) (st : Nat) : Nat :=
  if st = siOff ∨ st = siRun then 0
  else if st = siStopping then (irTargets r).foldl (fun a t => if irDelayed r t.1 then a else a + 2 ^ t.1) 0
  else 15

/-- Whether an instance names a channel of unit 7. -/
def State.names7 (s : State) (r : List Word) : Bool :=
  irEdmUsed r || irReset r == 0 || ((irInputs r) ++ (irTargets r).map (·.2)).any fun a => s.isSto a

/-- The state of an instance after its demands and its reset at this evaluation. -/
def State.instStep (s : State) (r : List Word) : State :=
  let i := irInst r
  let (ev, y) := s.resetEvent r
  let s0 := s.setInst i y
  let takes := ev && safResets s0.mode && (y.state == siTripped || y.state == siLockout)
  let s1 := if takes then s0.clearLatched r else s0
  let causes := s1.demandCauses r
  let xs := s1.speedSources r
  let dis := if speedsDiffer r xs then some (y.disSince.getD s1.clk) else none
  let x := { y with demand := !causes.isEmpty, speed := min 65535 (measuredSpeed xs), disSince := dis, env := 0xFFFF }
  let s2 := s1.setInst i x
  if x.state = siRun ∧ x.demand = true then
    let (s3, c) := s2.pickCause causes
    if irType r = 2 then
      (s3.setInst i { x with vt := measuredSpeed xs }).instTo i siStopping c
    else s3.instTo i siTripped c
  else if x.state = siStopping then s2.stopping r
  else if takes && !x.demand && (!irEdmUsed r || s2.edmReleased r) then
    if x.state = siTripped then s2.instTo i siRun 0
    else if s2.lockGone r then s2.instTo i siTripped x.cause else s2
  else s2

/-- Targets of an instance held safe by its state: all of them in SAFE, and once the evaluators have disagreed (R473, R475). -/
def State.safeOf (s : State) (r : List Word) (st : Nat) : Nat :=
  if s.isSet Fld.SAF_STAT_fault || s.mode == mSafe then 15 else safeMask r st

/-- One instance at an evaluation, up to its targets. -/
def State.evalInst (s : State) (e : Nat × List Word) : State :=
  let (n, r) := e
  let i := irInst r
  let s1 :=
    if !irEn r then s.instTo i siOff 0
    else if s.saf.bad.contains n then s.instTo i siLockout 6
    else if !s.setConfirmed n || (s.names7 r && !s.setConfirmed 0) then s.instTo i siUnconfirmed 0
    else
      let st := (s.inst i).state
      (if st = siOff ∨ st = siUnconfirmed then s.instTo i siTripped 0 else s).instStep r
  let x := s1.inst i
  s1.setInst i { x with safe := s1.safeOf r x.state }

/-- The EDM check of one instance, where it is enabled and confirmed, and what it shows. -/
def State.evalEdm (s : State) (e : Nat × List Word) : State :=
  let r := e.2
  let i := irInst r
  let st := (s.inst i).state
  let s1 := if st = siOff ∨ st = siUnconfirmed then s else s.edmCheck r
  let y := s1.inst i
  let s2 := s1.setInst i { y with safe := s1.safeOf r y.state }
  s2.setPoint (sstateItem i) (s2.instStat i).toNat 0

/-! ### The evaluation (R453, R462, R473, R476) -/

/-- The targets held safe, and the STO switches commanded on. -/
def State.showTargets (s : State) : State :=
  let recs := (s.instRecs.map (·.2)).filter fun r => (s.inst (irInst r)).state != siOff
  let held := recs.flatMap fun r => (irTargets r).filterMap fun t =>
    if (s.inst (irInst r)).safe.testBit t.1 then some t.2 else none
  let sto := (upFrom 0 4).foldl (fun a c =>
    let p := ptAddr s.stationNode 7 c 0
    let named := recs.any fun r => (irTargets r).any fun t => t.2 == p
    if named && !held.contains p && !s.isSet Fld.SAF_STAT_fault then a + 2 ^ c else a) 0
  ({ s with saf := { s.saf with held := held, sto := sto } }).showSaf

/-- Instance states as forwarded at class 1: instance, state, cause, trip speed, time since the trip. -/
def State.safeWords (s : State) (recs : List (Nat × List Word)) : List Word :=
  recs.flatMap fun e =>
    let x := s.inst (irInst e.2)
    [wd (irInst e.2), wd x.state, wd x.cause, wd x.vt, hi32 (s.clk - x.tripClk), lo32 (s.clk - x.tripClk)]

/-- Every instance evaluated, its targets, and the EDM checks against them. -/
def State.evalAll (s : State) : State :=
  let s1 := (s.instRecs.foldl (fun s e => s.evalInst e) s).showTargets
  (s1.instRecs.foldl (fun s e => s.evalEdm e) s1).showTargets

/-- A trip at the leeward module holds on both (R476): the instances that its own evaluation took to a safer state than `old` had are
told to the windward module. -/
def State.tellTrips (s old : State) : State :=
  if !s.leeward then s
  else
    let safer := s.instRecs.filter fun e =>
      decide (safeRank (old.inst (irInst e.2)).state < safeRank (s.inst (irInst e.2)).state) &&
        (s.inst (irInst e.2)).state != siUnconfirmed
    if safer.isEmpty then s else s.send .link 11 (0 :: s.safeWords safer)

/-- One evaluation, at the next 500 µs of the fabric clock count. -/
def State.safetyEval (s : State) : State :=
  let k := s.clk / 125000
  let at_ := if s.clk = k * 125000 ∧ s.saf.evalAt ≠ some s.clk then s.clk else (k + 1) * 125000
  let s0 := s.advance (at_ - s.clk)
  let s1 := { s0 with saf := { s0.saf with evalAt := some at_ } }
  if !safEvaluates s1.mode then s1
  else
    let flip := s1.saf.flip
    let s2 := if flip then
        { s1.flag Fld.SAF_STAT_fault true with saf := { s1.saf with flip := false } } else s1
    let s3 := s2.keepSpeeds
    let s4 := s3.evalAll
    let s5 := (s4.forward 11 (s4.safeWords s4.instRecs)).tellTrips s3
    if flip then s5.fault44 473 0 else s5

/-- Forwarded instance states at the leeward module: the safer of its own and the forwarded one, and a reset
taken by the windward module where no demand is present here (R476). -/
def State.takeSafe (fuel : Nat) (s : State) (ws : List Word) : State :=
  match fuel with
  | 0 => s
  | n + 1 =>
    if ws.length < 6 then s
    else
      let i := (wAt ws 0).toNat % 256
      let st := (wAt ws 1).toNat
      let x := s.inst i
      let reset := match x.fwd with | some o => decide (safeRank st < safeRank o) | none => true
      let take := safeRank x.state ≤ safeRank st || (reset && !x.demand)
      let y := if take then
          { x with
            state := st, cause := (wAt ws 2).toNat, vt := (wAt ws 3).toNat, tripClk := s.clk - wPair ws 4
            fwd := some st }
        else { x with fwd := some st }
      let s1 := if x.state = st then s else s.bump Fld.SAF_CNT_pairdiff
      State.takeSafe n (s1.setInst i y) (ws.drop 6)

/-- Trips of the leeward module at the windward one: an instance that stands in a less safe state takes the one told. -/
def State.takeTrips (fuel : Nat) (s : State) (ws : List Word) : State :=
  match fuel with
  | 0 => s
  | n + 1 =>
    if ws.length < 6 then s
    else
      let i := (wAt ws 0).toNat % 256
      let st := (wAt ws 1).toNat
      let x := s.inst i
      let s1 := if x.state = siOff ∨ safeRank st ≤ safeRank x.state then s
        else
          let s1 := (s.bump Fld.SAF_CNT_pairdiff).instTo i st ((wAt ws 2).toNat % 16)
          s1.setInst i { s1.inst i with vt := (wAt ws 3).toNat, tripClk := s.clk - wPair ws 4 }
      State.takeTrips n s1 (ws.drop 6)

/-! ### Items (R464) -/

def State.demandItemTaken (s : State) (i : Nat) (on : Bool) : State := s.publish (demandItem i) (if on then 1 else 0)
def State.resetItemTaken (s : State) (i seq : Nat) : State := s.publish (resetItem i) (BitVec.ofNat 64 (seq % 256))

/-! ### Remote safety channels (R472) -/

/-- A telegram of group `g` from unit `u`: taken with a valid CRC and the next counter. -/
def State.telegram (s : State) (u g counter : Nat) (crcOk : Bool) (vals : List SafeValue) : State :=
  if !crcOk then s
  else
    let key := u * 16 + g
    let x := SMap.get {} key s.saf.groups
    let next := match x.counter with | some c => counter % 65536 == (c + 1) % 65536 | none => true
    let s1 := { s with saf := { s.saf with
      groups := SMap.set {} key
        ⟨some (counter % 65536), x.expired && !next, if next then s.clk else x.heardAt⟩ s.saf.groups } }
    if !next then s1
    else vals.foldl (fun s v =>
      let a := urNode (s.unitRec u) * 2 ^ 18 + v.chan % 1024 * 256
      { s with saf := { s.saf with remotes := SMap.set {} a ⟨v.run, v.fault, key⟩ s.saf.remotes } }) s1

/-- The safety watchdog, in fabric clocks: the manual bounds it and gives it no field; 20 ms is its default (R472). -/
def safetyWatchdog : Nat := 5000000

/-- The safety watchdog of a group runs out, here or at the unit; the clock moves on to that instant. -/
def State.telegramLost (s : State) (u g : Nat) (atUnit : Bool) : State :=
  if atUnit then
    let s1 := s.advance ((s.runit u).teleAt + safetyWatchdog - s.clk)
    s1.setRunit u { s1.runit u with safeOut := true }
  else
    let key := u * 16 + g
    let x := SMap.get {} key s.saf.groups
    let s1 := s.advance (x.heardAt + safetyWatchdog - s.clk)
    { s1 with saf := { s1.saf with groups := SMap.set {} key { x with expired := true } s1.saf.groups } }

/-- Targets at unit `u`. -/
def State.unitTargets (s : State) (u : Nat) : List Nat :=
  (s.instRecs.flatMap fun e => (irTargets e.2).map (·.2)).filter fun a => a / 2 ^ 18 == urNode (s.unitRec u)

/-- The telegram in this cycle's section of unit `u`, as the unit takes it (R472): one with the next counter counts, and then the unit's
safety outputs follow what the telegram holds. -/
def State.unitTelegram (s : State) (u : Nat) : State :=
  let x := s.runit u
  match s.saf.counters.find? fun e => e.1 == u with
  | none => s
  | some e =>
    if !(s.rioRing (urRing (s.unitRec u))).sent || x.tele == some e.2 then s
    else
      let next := match x.tele with | some c => e.2 == (c + 1) % 65536 | none => true
      if next then
        s.setRunit u { x with
          tele := some e.2, teleAt := s.clk, safeOut := false, teleHeld := (s.unitTargets u).filter s.saf.held.contains }
      else s.setRunit u { x with tele := some e.2 }

/-- Telegrams sent in a cycle of ring `r` to the units that are safety-capable or carry targets: the counter, and the
targets held at their safety values. -/
def State.sendTelegrams (s : State) (r : Nat) : State :=
  (s.ringUnits r).foldl (fun s u =>
    let mine := s.unitTargets u
    if mine.isEmpty && !Config.safetyType (wBits (s.unitRec u) 1 15 0) then s
    else
      let n := (SMap.get 0 u s.saf.counters + 1) % 65536
      let s1 := { s with saf := { s.saf with counters := SMap.set 0 u n s.saf.counters } }
      s1.sendRing r 472 (wd u :: wd n :: mine.map fun a => wd (a * 2 + b1 (s1.saf.held.contains a)))) s

/-! ### Parameter memory, confirmation, change log (R474, R479 to R482) -/

/-- The background check of every set that carries a confirmed value. -/
def State.crcCheck (s : State) : State :=
  ((upFrom 0 16).foldl (fun s n =>
    match SMap.get none n s.nv.confirmed with
    | none => s
    | some v =>
      if !s.setLoaded n || s.saf.bad.contains n || setCheck (s.paramSet n) == v then s
      else
        let s1 := { s.bump Fld.SAF_CNT_crcfail with saf := { s.saf with bad := n :: s.saf.bad } }
        s1.instRecs.foldl (fun s e =>
          let i := irInst e.2
          if e.1 = n ∧ irEn e.2 = true then
            if (s.inst i).state = siLockout then (s.setInst i { s.inst i with cause := 6 }).notify 0x0481 none [wd i, 6]
            else s.instTo i siLockout 6
          else s) s1)
    s).showTargets

/-- One entry of the change log. The signature is the log-signing key's, which the manual does not give; with
no archived slot left nothing is overwritten. -/
def State.logSafety (s : State) (action n : Nat) (before after : Word) (mbx : Nat) : State :=
  if 4096 ≤ s.nv.logSeq - s.nv.logArchived then s
  else
    let seq := s.nv.logSeq + 1
    let a := 0x800E00000 + (seq - 1) % 4096 * 256
    let t := s.time
    let head := [0x534C4F47, wd seq, hi32 t, lo32 t, wd (n + action * 256), before, after, wd mbx] ++ List.replicate 8 0
    let (sig, s1) := (upFrom 0 8).foldl (fun (p : List Word × State) _ =>
      let (w, s1) := p.2.fresh
      (p.1 ++ [hi32 w.toNat, lo32 w.toNat], s1)) ([], s)
    let s2 := (s1.setWord (a + 252) 0).setWords a (head ++ sig ++ List.replicate 31 0 ++ [0x56414C44])
    ({ s2 with nv := { s2.nv with logSeq := seq } }).showSaf

/-- An evaluation of this clock that has yet to come is made before a commit or a confirmation applies (R470). -/
def State.evalFirst (s : State) : State :=
  if s.clk % 125000 = 0 ∧ s.saf.evalAt ≠ some s.clk ∧ safEvaluates s.mode = true then s.safetyEval else s

/-- A set written into parameter memory at the boundary of its commit, UNCONFIRMED (R479). -/
def State.loadSet (s0 : State) (n : Nat) (ws : List Word) : State :=
  let s := s0.evalFirst
  let s1 := { s with
    saf := { s.saf with params := SMap.set [] n ws s.saf.params, bad := s.saf.bad.filter (· != n) }
    nv := { s.nv with setWords := SMap.set [] n ws s.nv.setWords, confirmed := SMap.set none n none s.nv.confirmed } }
  let s2 := if n = 0 then s1.safeChans else s1
  let s3 := s2.instRecs.foldl (fun s e =>
    if irEn e.2 && (e.1 == n || (n == 0 && s.names7 e.2)) then s.instTo (irInst e.2) siUnconfirmed 0 else s) s2
  let s4 := s3.instRecs.foldl (fun s e =>
    let x := s.inst (irInst e.2)
    s.setInst (irInst e.2) { x with safe := safeMask e.2 x.state }) s3
  s4.showTargets.notify 0x0480 none [wd n, 0]

/-- The confirmations that wait take effect at the trade-cycle boundary (R480). -/
def State.applyConfirms (s0 : State) : State :=
  let cs := s0.saf.confirmNext
  if cs.isEmpty then s0
  else
    let s := s0.evalFirst
    let s1 := { s with saf := { s.saf with confirmNext := [] } }
    (cs.foldl (fun s c =>
      let old := (SMap.get none c.1 s.nv.confirmed).getD 0
      let s1 := { s with
        nv := { s.nv with confirmed := SMap.set none c.1 (some c.2) s.nv.confirmed }
        saf := { s.saf with bad := s.saf.bad.filter (· != c.1) } }
      let s2 := if s1.classL then s1.logSafety 2 c.1 old c.2 67 else s1
      let s3 := s2.instRecs.foldl (fun s e =>
        if e.1 = c.1 ∧ irEn e.2 = true ∧ (s.inst (irInst e.2)).state = siUnconfirmed then
          s.instTo (irInst e.2) siTripped 0 else s) s2
      s3.notify 0x0480 none [wd c.1, 1]) s1).showTargets

/-- Parameter memory at boot: the sets of MRAM, every instance in TRIPPED or UNCONFIRMED (R53, R463). -/
def State.bootSafety (s : State) : State :=
  let s1 := { s with saf := { s.saf with params := s.nv.setWords, insts := [], bad := [] } }
  let s2 := s1.safeChans
  (s2.instRecs.foldl (fun s e =>
    if !irEn e.2 then s
    else
      let ok := s.setConfirmed e.1 && (!s.names7 e.2 || s.setConfirmed 0)
      s.setInst (irInst e.2) { state := if ok then siTripped else siUnconfirmed }) s2).showTargets

/-- A write of SAF_PDATA: a parameter word at SAF_PADDR, which advances, during a commit in COMMISSION (R484). -/
def State.pdataWrite (s : State) (v : Word) : State :=
  let during := s.fw.commits.any fun c => c.stages.any fun st => match st with | .safety _ _ _ => true | _ => false
  if s.mode != mCommission || !during then s
  else
    let n := s.fld Fld.SAF_PADDR_set
    let w := s.fld Fld.SAF_PADDR_word
    let ws := s.paramSet n
    let padded := ws ++ List.replicate (w + 1 - ws.length) 0
    ({ s with saf := { s.saf with params := SMap.set [] n (padded.set w v) s.saf.params } }).wrapInc Fld.SAF_PADDR_word

/-- 168 h in fabric clocks. -/
def edmPeriod : Nat := 168 * 3600 * 250000000

/-- The EDM of an instance has not been exercised for 168 h (R483): the clock moves on to that instant. -/
def State.edmUnexercised (s0 : State) (i : Nat) : State :=
  match s0.instRecs.find? fun e => irInst e.2 == i with
  | some (_, r) =>
    if irEn r && irEdmUsed r then
      let s := s0.advance ((s0.inst i).edmLast + edmPeriod - s0.clk)
      ({ s.raiseAlert 483 i with saf := { s.saf with edmDue := i :: s.saf.edmDue.filter (· != i) } }).flag
        Fld.SAF_STAT_edmdue true
    else s0
  | none => s0

end Sys2Proof.Machine
end

