-- ==== Sys2Proof/Machine/Veer.lean ====
section
/-! DEFINITION. A veer with all that it does in the blocks (R222, R225, R232, R258, R289, R308, R363, R492, R511), and the
loss of the partner (R200, R205, R207). -/

namespace Sys2Proof.Machine

/-- The module takes the station with claim `n`. `kind`: 1 fault, 2 yield, 3 commanded. -/
def State.raiseStation (s : State) (n : Word) (kind : Nat) : State :=
  let s1 := ((((s.takeStation n kind).bestMaster.failHomings).abortJobs 1).veerSyncs).groupVeerAbort
  let s2 := ((s1.declared.foldl State.coldStart s1).sendAlc).gratuitousArp
  ((upFrom 0 64).foldl (State.abortLine kind) s2).abortPeer kind

/-- Whether the windward module still forwards for an activation on lane `l`. -/
def State.gateOpen (s : State) (l : Nat) : Bool :=
  match (s.lane l).act with
  | some a => a.gate && (!s.awaits a || decide (a.gateSeq ≤ s.red.fwdAck))
  | none => false

/-- Activations whose publish gate is open complete (R203). -/
def State.openGates (s : State) : State :=
  (upFrom 0 8).foldl (fun s l => if s.gateOpen l then s.finishAct l else s) s

/-- The windward module's partner has left STANDBY for a cause (R207): forwarding stops and PARTNER_LOST is sent. -/
def State.partnerLeft (s0 : State) (cause : Nat) : State :=
  let s := if s0.red.veer.isSome && !s0.handingOver then s0.cancelVeer.put Fld.RED_STATE_veer 0 else s0
  let s1 := (s.endCrossing.put Fld.RED_STATE_cause cause).notify 0x0382 none [wd cause]
  ({ s1 with red := { s1.red with peerMode := if s1.red.lost then s1.red.peerMode else mResync } }).openGates

/-- Two-phase work that waits for the partner ends without it (R92). -/
def State.peerGone (s : State) : State := s.openGates

/-- The leeward module's marker for the activation of task `task` on lane `l`: that of the activation number which its snapshot
carries (R163, R204). -/
def State.markerOf (s : State) (l task : Nat) : Option FwdItem :=
  s.red.queue.find? fun i => i.kind == fwMarker && (wAt i.ws 0).toNat == l && (wAt i.ws 1).toNat == task &&
    wAt i.ws 2 == s.word (s.snapArea task + 8)

/-- Whether the leeward module holds the completion marker of the activation of task `t` in progress (R220, R222). -/
def State.markerHeld (s : State) (t : Nat) : Bool := (s.markerOf (s.taskLane t) t).isSome

/-- The leeward module's tasks in progress for which it holds no completion marker are abandoned (R222); what was forwarded for
the others stays for them. -/
def State.abandonStep (s : State) : State :=
  let (held, lost) := s.inProgress.partition s.markerHeld
  let lanes := held.map s.taskLane
  let s1 := (upFrom 0 8).foldl (fun s l => match (s.lane l).act with
    | some a => if held.contains a.task then s else s.endAct l
    | none => s) s
  let s2 := lost.foldl State.endSusp s1
  { s2 with red := { s2.red with
      abandoned := lost
      queue := s2.red.queue.filter fun i =>
        if i.kind = fwSnapshot then held.contains (wAt i.ws 0).toNat
        else (i.kind == fwEntry || i.kind == fwEvent || i.kind == fwMarker) && lanes.contains (wAt i.ws 0).toNat } }

end Sys2Proof.Machine
end

