-- ==== Sys2Proof/Machine/ModeRequest.lean ====
section
/-! DEFINITION. Mode requests (R42, R43, R46, R559): what station firmware answers, the confirmation on the panel, and the
scheduled change at its trade-cycle boundary. -/

namespace Sys2Proof.Machine

/-- The conditions of R561 on the clock, the core supply and the junction. -/
def State.bstConditions (s : State) : Bool :=
  decide ((signed 16 (s.fld Fld.BST_COND_clock)).natAbs ≤ 100) &&
    decide ((signed 16 (s.fld Fld.BST_COND_supply)).natAbs ≤ 200) &&
    decide (signed 16 (s.fld Fld.SYS_TEMP_now) ≤ 1000)

/-- A slot of the image store: image type × 2 + slot. -/
def State.imgSlot (s : State) (type slot : Nat) : ImgSlot := SMap.get {} (type * 2 + slot) s.fw.store
def State.usedSlot (s : State) (type : Nat) : Nat := SMap.get 0 type s.fw.used
/-- The image selected for a type. -/
def State.image (s : State) (type : Nat) : ImgSlot := s.imgSlot type (s.usedSlot type)

/-- Code words that an image gives partition `p`. -/
def ImageBody.codeOf (b : ImageBody) (p : Nat) : List Word := ((b.code.find? fun e => e.1 == p).map (·.2)).getD []
/-- Tasks that an image gives partition `p`. -/
def ImageBody.tasksOf (b : ImageBody) (p : Nat) : List AppTask := b.tasks.filter fun a => declPart a.decl == p

/-- A code bank of partition `p` as station firmware loads it (R166): its header, then the entry table and the code. -/
def ImageBody.bankWords (b : ImageBody) (digest : Word) (p : Nat) : List Word :=
  [0x434F4445, wd b.version, digest, wd (b.tasksOf p).length] ++ List.replicate 60 0 ++ (b.codeOf p).drop 64

/-- Whether the code of an image has an entry for each task, with the task's instance size (R166). -/
def ImageBody.entriesOk (b : ImageBody) : Bool :=
  b.tasks.all fun a =>
    let p := declPart a.decl
    let ws := b.codeOf p
    (upFrom 0 (b.tasksOf p).length).any fun e => wAt ws (64 + 4 * e) == wd a.task && wAt ws (66 + 4 * e) == wAt a.decl 3

/-- The low word of the digest of the image in a slot (R166, R228). -/
def ImgSlot.digest (g : ImgSlot) : Word := Config.imageDigest (g.bytes.map (·.2))

/-- Whether boot finds the configuration or application image valid: its check is against the key enrolled now (R49, R51). -/
def State.bootValid (s : State) (type : Nat) : Bool := (s.image type).ok && (s.image type).key == s.nv.key

/-- What boot reads of such an image: nothing of one that fails its check (R51). -/
def State.bootBody (s : State) (type : Nat) : ImageBody := if s.bootValid type then (s.image type).body else {}

/-- Whether the partner answers and reports a mode. -/
def State.peerIn (s : State) (m : Nat) : Bool := s.sys.pins.pair && !s.red.lost && s.red.peerMode == m

/-- What station firmware makes of a mode request (R43): a refusal, a reset, a wait for the Enter key, or a change
scheduled. -/
inductive ModeVerdict where
  | refuse (status reason : Nat)
  | reset
  | confirm
  | schedule
  deriving DecidableEq, Repr

/-- The answer to a request for mode `m` (R42, R43, R46, R559). -/
def State.judgeMode (s : State) (m : Nat) : ModeVerdict :=
  let old := s.mode
  if old = mSelftest then .refuse stBusy 0
  else if s.veering ∨ s.red.ask.isSome ∨ old = mResync ∨ s.fld Fld.RED_RESYNC_phase ≠ 0 then .refuse stBusy 0
  else if s.sys.modeAt.isSome ∨ s.sys.confirm.isSome then .refuse stBusy 0
  else if m = mSelftest then
    let from_ := (old == mStandby && s.peerIn mActive) ||
      (old == mCommission && s.hasClaim && !s.peerIn mActive)
    if !from_ then .refuse stNotInMode 0x0230
    else if !(s.image 3).ok then .refuse stIntegrity 0
    else if !s.bstConditions then .refuse stNotInMode 0x0232
    else .schedule
  else if old = mCommission ∧ m = mActive then
    if !s.hasClaim then .reset
    else if !s.sys.cfgValid then .refuse stBadArg 0x0102
    else if s.sys.placeBad then .refuse stBadArg 0x0103
    else .schedule
  else if old = mCommission ∧ m = mService ∧ s.hasClaim = true then .schedule
  else if old = mActive ∧ m = mSafe then .schedule
  else if old = mActive ∧ m = mCommission then .confirm
  else if old = mStandby ∧ m = mService ∧ s.peerIn mActive = true then .schedule
  else if old = mSafe ∧ (m = mCommission ∨ m = mService) then .schedule
  else if old = mService ∧ m = mActive then .reset
  else .refuse stNotInMode 0x0104

/-- A mode request taken from a mailbox (R43). -/
def State.modeRequest (s : State) (d : Deferred) (m : Nat) : State :=
  match s.judgeMode m with
  | .refuse st reason => s.respond d (errAns st reason 0xFFFF)
  | .reset => (s.respond d (okAns [])).resetModule s.commandedCause 0
  | .confirm => { s with sys := { s.sys with confirm := some d } }
  | .schedule => ({ s with sys := { s.sys with modeAt := some (m, d.mbx) } }).respond d (okAns [])

/-- The Enter key on the panel confirms a request for COMMISSION (R43). -/
def State.confirmMode (s : State) : State :=
  match s.sys.confirm with
  | none => s
  | some d =>
    ({ s with sys := { s.sys with confirm := none, modeAt := some (mCommission, d.mbx) } }).respond d (okAns [])

/-- No confirmation within 30 s (R43). -/
def State.confirmTimeout (s : State) : State :=
  match s.sys.confirm with
  | none => s
  | some d => ({ s with sys := { s.sys with confirm := none } }).respond d (errAns stNotInMode 0x0104 0xFFFF)

/-- Transitions of R42 that station firmware makes at a trade-cycle boundary. -/
def boundaryMove (old m : Nat) : Bool :=
  (old == mCommission && (m == mActive || m == mService || m == mSelftest)) ||
  (old == mActive && (m == mSafe || m == mCommission)) ||
  (old == mStandby && (m == mService || m == mSelftest)) ||
  (old == mSafe && (m == mCommission || m == mService)) ||
  (old == mResync && m == mStandby) || (old == mBoot && m == mActive)

/-- The entry to SELFTEST (R560): heartbeats stop with the mode, and the image begins to load. -/
def State.beginSelftest (s : State) (before : Nat) : State :=
  let id := (s.nv.reportId + 1) % 65536
  let head : List Word :=
    [0x42535452, wd (id + s.nv.boots % 65536 * 65536), hi32 s.time, lo32 s.time, wd (before * 65536),
      wd (pointMhz (s.fld Fld.AGE_OP_station))]
  { ((s.put Fld.BST_STAT_state 1).put Fld.BST_STAT_report id) with
    nv := { s.nv with reportId := id, cut := some head }
    bst := { head := head } }

/-- The scheduled mode change at its boundary (R42, R46, R225): a change whose transition no longer stands is dropped
with a record. -/
def State.scheduledMode (s : State) : State :=
  match s.sys.modeAt with
  | none => s
  | some (m, mbx) =>
    let s0 := { s with sys := { s.sys with modeAt := none } }
    let old := s0.mode
    if !boundaryMove old m then s0.record 1 46 m old m mbx []
    else
      let s1 := if old = mActive ∧ s0.canYield = true then s0.yieldVeer 4 else s0
      let s2 := if old = mStandby then s1.send .link 0x0358 [0, 2, 0, 0] else s1
      let s3 := if m = mSelftest then (s2.enterMode m).beginSelftest old else s2.enterMode m
      if old = mActive then s3.put Fld.RED_STATE_veer 0 else s3

end Sys2Proof.Machine
end

