-- ==== Sys2Proof/Machine/SelfTest.lean ====
section
/-! DEFINITION. The structural self-test (R558 to R570): the items of its plan, their results and marks, its aborts, its
report, and what boot makes of a test that a reset cut short. -/

namespace Sys2Proof.Machine

/-- Results of an item (R570). -/
def irPass : Nat := 0
def irFail : Nat := 1
def irNotRun : Nat := 2
def irStopped : Nat := 3

/-- The plan in force (R558): a plan of 0 selects every item. -/
def State.testPlan (s : State) : Nat := if s.nv.plan = 0 then 0xFFFFFF else s.nv.plan.toNat % 2 ^ 24

/-- Every item in running order: its code, its target, and whether it runs (R563). -/
def State.testItems (s : State) : List (Nat × Nat × Bool) :=
  let w := s.testPlan
  [(1, 0, decide (w % 16 ≠ 0))] ++ (upFrom 0 4).map (fun p => (2, p, w.testBit p)) ++
    (upFrom 0 16).map (fun b => (3, b, w.testBit (4 + b))) ++ (upFrom 0 4).map (fun k => (4, k, w.testBit (20 + k)))

/-- The entry of an item in a report (R570). -/
def itemEntry (code target result : Nat) (detail : Word) : List Word :=
  [wd (code + target * 256 + result * 65536), detail]

/-- An entry added to the report being built; MRAM holds it from then on (R567). -/
def State.addEntry (s : State) (ws : List Word) : State :=
  let es := s.bst.entries ++ ws
  { s with bst := { s.bst with entries := es }, nv := { s.nv with cut := some (s.bst.head ++ es) } }

/-- Words 0 to 7 of a report from the head that the entry to SELFTEST wrote. -/
def reportHead (head : List Word) (result cause : Nat) : List Word :=
  (upFrom 0 4).map (wAt head) ++ [wd ((wAt head 4).toNat + result + cause * 256), wAt head 5, 0, 0]

/-- A report filed: the last four are kept (R570). -/
def State.fileTest (s : State) (ws : List Word) : State :=
  { s with nv := { s.nv with reports := (ws :: s.nv.reports).take 4, cut := none } }

/-- How many entries of a report carry a result. -/
def countResult (es : List Word) (r : Nat) : Nat :=
  ((upFrom 0 (es.length / 2)).filter fun i => wBits es (2 * i) 19 16 = r).length

/-- The end of a self-test (R568, R569): its report and the reset SELFTEST_END. -/
def State.endTest (s : State) (cause : Nat) : State :=
  let rest := s.bst.todo.flatMap fun x => itemEntry x.1 x.2.1 irNotRun 0
  let es := s.bst.entries ++ rest
  let failed := countResult es irFail
  let result := if cause ≠ 0 then 2 else if failed ≠ 0 then 1 else 0
  let id := s.fld Fld.BST_STAT_report
  (s.fileTest (reportHead s.bst.head result cause ++ es)).resetModule rcSelftest
    (failed + countResult es irStopped * 256 + id * 65536)

/-- The next item that the plan selects begins if the conditions hold, and otherwise ends the test with cause 1 (R561); those it
passes over are recorded as not run. -/
def State.nextItem (s : State) : List (Nat × Nat × Bool) → State
  | [] => ({ s with bst := { s.bst with todo := [] } }).endTest 0
  | (c, t, run) :: rest =>
    if run && !s.bstConditions then
      ({ s.put Fld.BST_STAT_state 5 with bst := { s.bst with todo := (c, t, run) :: rest } }).endTest 1
    else if run then
      let s1 := ((s.put Fld.BST_STAT_item c).put Fld.BST_STAT_target t).put Fld.BST_STAT_state (if c = 1 then 2 else 3)
      ({ s1 with bst := { s1.bst with todo := rest } }).flag Fld.BST_SECRETS_scan (c == 2)
    else (s.addEntry (itemEntry c t irNotRun 0)).nextItem rest

/-- An item runs. -/
def State.testing (s : State) : Bool :=
  s.mode == mSelftest && (s.fld Fld.BST_STAT_state == 2 || s.fld Fld.BST_STAT_state == 3)

/-- A self-test is under way, from its entry to its end. -/
def State.inTest (s : State) : Bool := s.testing || (s.mode == mSelftest && s.fld Fld.BST_STAT_state == 1)

/-- The head of the report with its count of entries, once the items are known. -/
def withCount (head : List Word) (n : Nat) : List Word := head.take 5 ++ [wd ((wAt head 5).toNat % 65536 + n * 65536)]

/-- SELFTEST_IMAGE_READY (R560): the image runs, or has failed its check at the entry. -/
def State.testReady (s : State) (ok : Bool) : State :=
  if !(s.mode == mSelftest && s.fld Fld.BST_STAT_state == 1) then s
  else
    let items := s.testItems
    let head := withCount s.bst.head items.length
    let s1 := { s with bst := { head := head, todo := items, entries := [] }, nv := { s.nv with cut := some head } }
    if ok then s1.nextItem items else (s1.put Fld.BST_STAT_state 5).endTest 3

/-- The result of an item in its registers (R579). -/
def State.showItem (s : State) (code target result : Nat) (sig : Word) (first fails : Nat) : State :=
  if code = 2 then (s.put (Fld.BST_PAIR_result target) result).setReg (Reg.BST_SIG target) sig
  else if code = 3 then
    (s.put (Fld.BST_BANK_result target) result).put (Fld.BST_BANK_word target) first
  else if code = 4 then
    ((s.put (Fld.BST_PIN_result target) result).put (Fld.BST_PIN_fails target) fails).put (Fld.BST_PIN_first target) first
  else s.flag Fld.BST_SECRETS_cleared true

/-- A bit of a mark word set or cleared. -/
def setMark (w n : Nat) (b : Bool) : Nat := if w.testBit n == b then w else if b then w + 2 ^ n else w - 2 ^ n

/-- The marks of R567 by the end of an item: failing contacts of a connector disable their channels. -/
def State.markItem (s : State) (code target : Nat) (pass : Bool) (contacts : List Nat) : State :=
  let n := s.nv
  let s1 :=
    if code = 2 then { s with nv := { n with pairMarks := setMark n.pairMarks target (!pass) } }
    else if code = 3 then { s with nv := { n with bankMarks := setMark n.bankMarks target (!pass) } }
    else if code = 4 then
      { s with nv := { n with
          pinMarks := setMark n.pinMarks target (!pass)
          badPins := (n.badPins.filter fun x => x / 256 != target) ++
            (if pass || target == 3 then [] else contacts.map fun x => target * 256 + x % 256) } }
    else s
  ((s1.put Fld.BST_MARKS_pairs s1.nv.pairMarks).put Fld.BST_MARKS_banks s1.nv.bankMarks).put Fld.BST_MARKS_pins
    s1.nv.pinMarks

/-- The contents of a bank after its march (R565): what its listed bytes hold is free. -/
def State.marchBank (s : State) (b : Nat) : State :=
  let lo := 0x10000000 + b * 0x200000
  (s.mem.filter fun c => decide (lo ≤ c.1) && decide (c.1 < lo + 0x200000)).foldl (fun s c =>
    let (f, s1) := s.fresh
    s1.setByte c.1 (f.setWidth 8)) s

/-- SELFTEST_ITEM_DONE (R563 to R567): the signature of a pair, the first failing word of a bank, the failing contacts of a
connector. Secret clearing does not fail. -/
def State.itemDone (s : State) (pass : Bool) (sig : Word) (word : Nat) (contacts : List Nat) : State :=
  if !s.testing then s
  else
    let code := s.fld Fld.BST_STAT_item
    let target := s.fld Fld.BST_STAT_target
    let ok := pass || code == 1
    let result := if ok then irPass else irFail
    let xs := if ok then [] else sortBy (fun a b => decide (a < b)) contacts
    let first := if ok then 0 else if code = 3 then word else if code = 4 then xs.headD 0 else 0
    let fails := xs.length
    let detail := if code = 3 then first else if code = 4 then first % 256 + fails % 65536 * 256 else 0
    let s0 := if code = 3 then s.marchBank target else s
    let s1 := ((s0.showItem code target result sig first fails).markItem code target ok xs).addEntry
      (itemEntry code target result (wd detail))
    s1.nextItem s1.bst.todo

/-- An abort of causes 1 to 3 (R568): the item in progress is stopped, with no mark changed. -/
def State.abortTest (s : State) (cause : Nat) : State :=
  let s0 := s.put Fld.BST_STAT_state 5
  if s.testing then
    let code := s.fld Fld.BST_STAT_item
    let target := s.fld Fld.BST_STAT_target
    let s1 := if code = 1 then s0
      else if code = 2 then s0.put (Fld.BST_PAIR_result target) irStopped
      else if code = 3 then s0.put (Fld.BST_BANK_result target) irStopped
      else s0.put (Fld.BST_PIN_result target) irStopped
    (s1.addEntry (itemEntry code target irStopped 0)).endTest cause
  else
    let items := s.testItems
    let head := withCount s.bst.head items.length
    ({ s0 with bst := { head := head, todo := items, entries := [] } }).endTest cause

/-- BST measures its conditions (R561): the deviations in BST_COND, the junction in SYS_TEMP. A failed condition aborts the
test. -/
def State.measureBst (s : State) (clock supply temp : BitVec 16) : State :=
  let s1 := (((s.put Fld.BST_COND_clock clock.toNat).put Fld.BST_COND_supply supply.toNat).put Fld.SYS_TEMP_now
    temp.toNat).peakSigned Fld.SYS_TEMP_peak temp.toInt
  if s1.testing && !s1.bstConditions then s1.abortTest 1 else s1

/-- A windward partner is lost during a self-test (R568, cause 2). -/
def State.abortForPartner (s : State) : State :=
  if s.inTest && s.red.peerMode == mActive then s.abortTest 2 else s

/-- Boot files the report of a test that a reset cut short (R568): causes 4 and 5 by the reset. The item in progress was
stopped, and those after it did not run. -/
def State.fileCut (s : State) : State :=
  match s.nv.cut with
  | none => s
  | some ws =>
    let rc := s.fld Fld.SYS_RSTCAUSE_cause
    let cause := if rc = rcPanel then 4 else if rc = rcSupply ∨ rc = rcPowerOn then 5 else 0
    let items := s.testItems
    let es := ws.drop 6
    let n := es.length / 2
    let rest := items.drop n
    let running := (wAt ws 5).toNat / 65536 ≠ 0
    let tail := (upFrom 0 rest.length).flatMap fun i =>
      match rest[i]? with
      | some (c, t, _) => itemEntry c t (if running ∧ i = 0 then irStopped else irNotRun) 0
      | none => []
    s.fileTest (reportHead (withCount ws items.length) 3 cause ++ es ++ tail)

end Sys2Proof.Machine
end

