-- ==== Sys2Proof/Machine/Ageing.lean ====
section
/-! DEFINITION. Ageing (R571 to R578): the measurements, the operating point, remaining life. -/

namespace Sys2Proof.Machine

/-- Modes in which station firmware measures (R571). -/
def State.ages (s : State) : Bool := s.mode == mActive || s.mode == mStandby || s.mode == mCommission || s.mode == mSafe

/-! ### The operating point (R572 to R574) -/

/-- Point in force of this module: the lower of its ageing point and its thermal point. A higher code is a lower point. -/
def State.ownOp (s : State) : Nat := max (s.fld Fld.AGE_OP_ageing) (s.fld Fld.AGE_OP_thermal)

/-- The station point: the lowest point in force over the modules in ACTIVE, STANDBY or RESYNC. -/
def State.stationOp (s : State) : Nat :=
  if s.peerIn mActive || s.peerIn mStandby || s.peerIn mResync then max s.ownOp (s.fld Fld.AGE_OP_partner) else s.ownOp

/-- The point that the station goes to: the one that waits, otherwise the one in force. -/
def State.opBound (s : State) : Nat :=
  match s.prt.opWant with
  | some k => k
  | none => match s.prt.opNext with
    | some k => k
    | none => s.fld Fld.AGE_OP_station

/-- A change of the station point: the windward module runs placement for it (R574). -/
def State.followOp (s : State) : State :=
  if s.leeward || s.stationOp == s.opBound then s
  else ({ s with prt := { s.prt with opWant := some s.stationOp } }).askPlacement 2 false

/-- The ageing point that a worst delay in ps allows: limits 940, 1 007 and 1 085 ps. -/
def delayPoint (d : Nat) : Nat := if d ≤ 940 then 0 else if d ≤ 1007 then 1 else if d ≤ 1085 then 2 else 3

/-- The ageing point falls, and never rises; each step counts (R572). -/
def State.lowerPoint (s : State) (k : Nat) : State :=
  if k ≤ s.nv.ageingPoint then s
  else
    let n := min 255 (s.nv.ageingMoves + (k - s.nv.ageingPoint))
    (({ s with nv := { s.nv with ageingPoint := k, ageingMoves := n } }).put Fld.AGE_OP_ageing k).put Fld.AGE_MOVES_ageing n

/-- The monitor with the largest delay, from monitor `m` on, and its delay. -/
def worstMonitor : List Nat → Nat → Nat × Nat
  | [], m => (m, 0)
  | d :: ds, m =>
    let r := worstMonitor ds (m + 1)
    if r.2 ≤ d then (m, d) else r

/-- PATH_MONITOR_READ: the 24 delays in ps, and the point in force of the partner. The average of the last 60 is rounded up, so that
it stands against the limits of R572 as the exact one does. -/
def State.readMonitors (s : State) (delays : List Nat) (partner : Nat) : State :=
  if !s.ages then s
  else
    let s1 := (upFrom 0 24).foldl (fun s m => s.put (Fld.AGE_DELAY_ps m) (delays.getD m 0)) s
    let (mon, worst) := worstMonitor (delays.take 24) 0
    let xs := (worst :: s1.age.worst).take 60
    let avg := (xs.foldl (· + ·) 0 + xs.length - 1) / xs.length
    let s2 := (((s1.put Fld.AGE_WORST_mon mon).put Fld.AGE_WORST_ps avg).put Fld.AGE_OP_partner partner).lowerPoint
      (delayPoint avg)
    let s3 := { s2 with
      age := { s2.age with worst := xs }
      nv := { s2.nv with pathBase := if s2.nv.pathBase = 0 then worst else s2.nv.pathBase } }
    let eol := decide (1175 < avg)
    let s4 := if eol && !s3.nv.ended.contains srcPath then s3.degrade.notify 0x0780 none [0x0200]
      else if eol then s3.degrade else s3
    (s4.judgeSource srcPath (decide (1125 < avg)) eol).followOp

/-- Thresholds of the thermal points below 1 000 MHz, 0.1 °C. -/
def thermalLimit (k : Nat) : Int := if k = 1 then 550 else if k = 2 then 600 else 650

/-- The thermal point moves to `k`; each point passed counts (R573). -/
def State.moveThermal (s : State) (k : Nat) : State :=
  let was := s.fld Fld.AGE_OP_thermal
  let s1 := (s.put Fld.AGE_OP_thermal k).bumpBy Fld.AGE_MOVES_thermal ((k - was) + (was - k))
  s1.flag Fld.SYS_STAT_step_down (k != 0)

/-- THERMAL_POINT_STEP: a reading of the module air temperature in 0.1 °C. Down at once by every threshold reached; up by one
point when it has stood 3 °C below the present point's threshold for 60 s. In BOOT no station firmware runs, and in SELFTEST no
point moves (R568): the reading is shown alone. -/
def State.thermalStep (s : State) (temp : Int) : State :=
  let s1 := (s.put Fld.AGE_TEMP_now (unsigned 16 temp)).peakSigned Fld.AGE_TEMP_peak temp
  if s.mode = mBoot ∨ s.mode = mSelftest then s1
  else
    let was := s1.fld Fld.AGE_OP_thermal
    let down : Nat := if 650 ≤ temp then 3 else if 600 ≤ temp then 2 else if 550 ≤ temp then 1 else 0
    if was < down then ({ s1.moveThermal down with age := { s1.age with coolSince := none } }).followOp
    else if 0 < was ∧ temp ≤ thermalLimit was - 30 then
      match s1.age.coolSince with
      | none => { s1 with age := { s1.age with coolSince := some s1.time } }
      | some t =>
        let s2 := (s1.runUntil (t + 60000000000)).moveThermal (was - 1)
        ({ s2 with age := { s2.age with coolSince := none } }).followOp
    else { s1 with age := { s1.age with coolSince := none } }

/-! ### Measurements (R575, R576) -/

/-- ESR_MEASURE: 0.1 mΩ, taken only while both logic inputs are above 19.2 V. -/
def State.measureEsr (s : State) (esr : Nat) (enough : Bool) : State :=
  if !(s.ages && enough && s.sys.pins.in0 && s.sys.pins.in1) then s
  else
    let base := if s.nv.esrBase = 0 then esr else s.nv.esrBase
    let s1 := ({ s with nv := { s.nv with esrBase := base } }).put Fld.AGE_ESR_esr esr
    (s1.put Fld.AGE_ESR_base base).judgeSource srcBulk (decide (16 * base ≤ 10 * esr)) (decide (2 * base ≤ esr))

/-- Whether a test of the supercapacitor is skipped: its 10 % would take the hold-up below 20 ms, or a veer, a
resynchronisation or a commit is in progress. -/
def State.skipsScap (s : State) : Bool :=
  let last := s.fld Fld.AGE_SCAP_holdup
  (last != 0 && decide (9 * last < 2000)) || s.veering || s.red.ask.isSome || s.fld Fld.RED_RESYNC_phase != 0 ||
    !s.fw.commits.isEmpty

/-- SCAP_TEST: hold-up in 0.1 ms. -/
def State.testScap (s : State) (holdup : Nat) : State :=
  if !s.ages then s
  else if s.skipsScap then s.bump Fld.AGE_MOVES_skipped
  else
    let base := if s.nv.scapBase = 0 then holdup else s.nv.scapBase
    let s1 := (({ s with nv := { s.nv with scapBase := base } }).put Fld.AGE_SCAP_holdup holdup).put Fld.AGE_SCAP_base base
    let s2 := if holdup < 200 then s1.degrade else s1
    s2.judgeSource srcScap (decide (holdup < 240)) (decide (holdup < 200))

/-- Cycles weighted by their swing (R576). -/
def StageCycles.weight (c : StageCycles) : Nat := c.low + 8 * c.mid + 40 * c.high

/-- STAGE_CYCLE_READ: the sums since the last reading. -/
def State.readStages (s : State) (cs : List StageCycles) : State :=
  if !s.ages then s
  else
    let sums := cs.foldl (fun (m : List (Nat × Nat)) (c : StageCycles) =>
      SMap.set 0 c.stage (SMap.get 0 c.stage m + c.weight) m) s.nv.stageCycles
    let worst := (sums.map (·.2)).foldl max 0
    ({ s with nv := { s.nv with stageCycles := sums } }).judgeSource srcStage (decide (800000 ≤ worst))
      (decide (1000000 ≤ worst))

/-! ### Remaining life (R578) -/

/-- Life consumed, 0.1 % of the way from `base` to `eol`. -/
def consumed (value base eol : Int) : Nat := min 65535 ((value - base) * 1000 / (eol - base)).toNat

/-- Life consumed of a source (R571, R578). -/
def State.lifeUsed (s : State) (src : Nat) : Nat :=
  if src = srcPath then
    (if s.nv.pathBase = 0 ∨ s.age.worst.isEmpty = true then 0 else consumed (s.fld Fld.AGE_WORST_ps) s.nv.pathBase 1175)
  else if src = srcBulk then
    (if s.nv.esrBase = 0 ∨ s.fld Fld.AGE_ESR_esr = 0 then 0
    else consumed (s.fld Fld.AGE_ESR_esr) s.nv.esrBase (2 * s.nv.esrBase : Nat))
  else if src = srcScap then
    (if s.nv.scapBase = 0 ∨ s.fld Fld.AGE_SCAP_holdup = 0 then 0
    else consumed (s.fld Fld.AGE_SCAP_holdup) s.nv.scapBase 200)
  else if src = srcOled then consumed ((s.pnl.gains.map (·.2)).foldl max 128 : Nat) 128 255
  else if src = srcStage then consumed ((s.nv.stageCycles.map (·.2)).foldl max 0 : Nat) 0 1000000
  else
    let b := src - 5
    let ref := SMap.get 0 b s.nv.closeRef
    if ref = 0 then 0 else consumed (((s.learned b : Int) - (ref : Int)).natAbs : Nat) 0 (ref / 5 : Nat)

/-- Days from `today` until a least-squares line through the points reaches end of life; 0xFFFF beyond 30 years, or with
fewer than 7 days. -/
def daysLeft (points : List (Nat × Nat)) (today : Nat) : Nat :=
  let n : Int := (points.length : Nat)
  let sum := fun (f : Nat × Nat → Int) => (points.map f).foldl (· + ·) 0
  let sx := sum fun p => (p.1 : Int)
  let sy := sum fun p => (p.2 : Int)
  let d := n * sum (fun p => (p.1 : Int) * p.1) - sx * sx
  let b := n * sum (fun p => (p.1 : Int) * p.2) - sx * sy
  if points.length < 7 ∨ b ≤ 0 ∨ d ≤ 0 then 0xFFFF
  else
    -- the line y = (sy·d − b·sx)/(n·d) + (b/d)·x at y = 1 000
    let x := (1000 * n * d - sy * d + b * sx) / (n * b)
    let days := (x - today).toNat
    if 10957 < days then 0xFFFF else days

/-- LIFE_REPORT_UPDATE: a day of history for each source, and the report's entries. -/
def State.updateLife (s : State) : State :=
  if !s.ages then s
  else
    let today := s.nv.day + 1
    let hist := (upFrom 0 13).foldl (fun (m : List (Nat × List (Nat × Nat))) (src : Nat) =>
      SMap.set [] src (((today, s.lifeUsed src) :: SMap.get [] src m).take 90) m) s.nv.history
    let entry := fun (src : Nat) =>
      [wd (s.lifeUsed src + 65536 * b1 (s.nv.warned.contains src) + 131072 * b1 (s.nv.ended.contains src)),
        wd (daysLeft (SMap.get [] src hist) today)]
    let s1 := { s with nv := { s.nv with day := today, history := hist, life := (upFrom 0 13).flatMap entry } }
    (upFrom 0 13).foldl (fun s src =>
      s.setWords (mramHistory src) ((SMap.get [] src hist).flatMap fun d => [wd d.1, wd d.2])) s1

end Sys2Proof.Machine
end

