-- ==== Sys2Proof/Machine/ExecAgeing.lean ====
section
/-! DEFINITION. The meanings of the commands of self-test and ageing (R558 to R580). -/

namespace Sys2Proof.Machine

/-- SELFTEST_IMAGE_READY (R560): whether the image passed its check at the entry. -/
def execSelftestImageReady (ok : Bool) (s : State) : Res :=
  (s.testReady ok).done

/-- SELFTEST_ITEM_DONE (R563): passed or not, the signature of a pair, the first failing word of a bank, the failing
contacts of a connector. -/
def execSelftestItemDone (pass : Bool) (sig : Word) (word : BitVec 17) (contacts : List (Fin 256)) (s : State) : Res :=
  (s.itemDone pass sig word.toNat (contacts.map (·.val))).done

/-- SELFTEST_CONDITION_FAIL (R561): the deviations of clock and core supply in 0.01 %, and the junction in 0.1 °C. -/
def execSelftestConditionFail (clock supply temp : BitVec 16) (s : State) : Res :=
  (s.measureBst clock supply temp).done

/-- PATH_MONITOR_READ (R572): the delays in ps, and the point in force of the partner. -/
def execPathMonitorRead (delays : List (BitVec 16)) (partner : Fin 4) (s : State) : Res :=
  (s.readMonitors (delays.map (·.toNat)) partner).done

/-- THERMAL_POINT_STEP (R573): module air temperature, 0.1 °C. -/
def execThermalPointStep (temp : BitVec 16) (s : State) : Res :=
  (s.thermalStep temp.toInt).done

/-- ESR_MEASURE (R575): 0.1 mΩ; whether both logic inputs are above 19.2 V. -/
def execEsrMeasure (esr : BitVec 16) (enough : Bool) (s : State) : Res :=
  (s.measureEsr esr.toNat enough).done

/-- SCAP_TEST (R575): hold-up, 0.1 ms. -/
def execScapTest (holdup : BitVec 16) (s : State) : Res :=
  (s.testScap holdup.toNat).done

/-- STAGE_CYCLE_READ (R576). -/
def execStageCycleRead (cycles : List StageCycles) (s : State) : Res :=
  (s.readStages cycles).done

/-- LIFE_REPORT_UPDATE (R578). -/
def execLifeReportUpdate (s : State) : Res :=
  s.updateLife.done

end Sys2Proof.Machine
end

