-- ==== Sys2Proof/Machine/AnalogIo.lean ====
section
/-! DEFINITION. Analogue field I/O (R420 to R433): conversions and samples, NE 43 detection, the checks of the
output stages; and the field-I/O records that take effect at a boundary (R415, R433). -/

namespace Sys2Proof.Machine

/-! ### Analogue inputs -/

/-- Filter order of a channel, its filter output time in 0.1 ns, its range. -/
def aiOrder (cfg : List Word) : Nat := 3 + wBits cfg 0 2 1
def aiOut (cfg : List Word) : Nat := 78125 * 2 ^ wBits cfg 0 5 3
def aiRange (cfg : List Word) : Nat := wBits cfg 0 6 6

/-- A failure condition of NE 43 held since some time (R424): since when, and whether the bit is set.
`clear`: the sample lies outside the condition by the hysteresis. -/
def ne43Bit (set cond clear : Bool) (since : Option Nat) (t hold : Nat) : Option Nat × Bool :=
  if cond then
    let s0 := since.getD t
    (some s0, set || decide (s0 + hold ≤ t))
  else (none, set && !clear)

/-- What a sample of `na` at time `t` makes of a channel (R417, R418, R424). `limit`: the transmitter supply
is in current limit; `tx`: its current in µA. -/
def aiSample (x : FChan) (na : Int) (t tx : Nat) (limit : Bool) : FChan :=
  let cfg := x.cfg
  let full : Int := if aiRange cfg = 0 then 25000000 else 6250000
  let v := clampI (-full) full na
  let clip := decide (full < na.natAbs)
  let limSince := if limit then some (x.limSince.getD t) else none
  let short := match limSince with | some l => decide (l + 100000000 ≤ t) | none => false
  let base := ({ x with ts := t, aux := tx, count := x.count + 1, taken := true, limSince := limSince }.mark fbShort short)
  if 0 < x.invalid then { base with invalid := x.invalid - 1 }.mark fbSettle true
  else
    let det := wBit cfg 0 7 && aiRange cfg == 0
    let hold := wBits cfg 0 18 9 * 1000000
    let (ls, low) := ne43Bit (x.has fbNe43low) (det && decide (v ≤ 3600000)) (decide (3650000 ≤ v)) x.lowSince t hold
    let (hs, high) := ne43Bit (x.has fbNe43high) (det && decide (21000000 ≤ v)) (decide (v ≤ 20950000)) x.highSince t hold
    let y := { base with force := v, lowSince := ls, highSince := hs }
    ((((((y.mark fbSettle false).mark fbOpen (decide (v.natAbs < 500000))).mark fbClip clip).mark fbNe43low (det && low)).mark
      fbNe43high (det && high)).mark fbUnder (det && decide (3600000 < v) && decide (v < 3800000))).mark fbOver
      (det && decide (20500000 < v) && decide (v < 21000000))

/-- A sample of channel `c` taken into the live image, with the record of a changed failure bit (R424). -/
def State.takeSample (s : State) (c : Nat) (cfg : List Word) (na : Int) (tx : Nat) (limit : Bool) : State :=
  let x := s.chan 4 c
  let t := s.time - aiOrder cfg * aiOut cfg / 20
  -- the transmitter supply is on by the record, with supply 4 (R420, R432)
  let on := wBit x.cfg 0 8 && s.supply 4 != 2
  let y := aiSample x na t (if on then tx else 0) (on && limit)
  let s1 := s.putChan 4 c y
  if x.has fbNe43low != y.has fbNe43low || x.has fbNe43high != y.has fbNe43high then
    s1.record 9 424 (ptAddr s.stationNode 4 c 0) x.st.toNat y.st.toNat 0xFF []
  else s1

/-- A filter output of converter `k` (R421, R422): the last output of a dwell is the channel's sample. -/
def State.filterOutput (s : State) (k : Nat) (na : Int) (tx : Nat) (limit : Bool) : State :=
  let mode := s.convMode k
  let chans := s.convChans k
  if mode = 1 ∧ chans.length = 1 then
    match chans with
    | c :: _ =>
      let s1 := s.setConv k { s.aiConv k with busy := true, chan := c }
      s1.takeSample c (s.chan 4 c).cfg na tx limit
    | [] => s
  else
    let s0 := if mode = 1 ∧ (s.aiConv k).busy = false then s.beginPass k else s
    let v := s0.aiConv k
    if !v.busy then s0
    else
      let cfg := v.cfgs.getD (v.chan - 4 * k) []
      let n := aiOrder cfg + (if aiRange cfg = v.range then 0 else 1)
      if v.outs < n then s0.setConv k { v with outs := v.outs + 1 }
      else
        let s1 := s0.takeSample v.chan cfg na tx limit
        let later := (upFrom (v.chan + 1) (4 * k + 3 - v.chan)).filter fun c => wBit (v.cfgs.getD (c - 4 * k) []) 0 0
        match later with
        | c :: _ => s1.setConv k { v with chan := c, outs := 0, range := aiRange cfg }
        | [] =>
          let s2 := s1.setConv k { v with busy := false, outs := 0, range := aiRange cfg }
          if mode = 1 then s2.beginPass k else s2

/-! ### Analogue outputs (R427 to R430) -/

/-- A condition that must hold, or be gone, for 20 ms before its bit follows: since when it disagrees. -/
def held20 (set cond : Bool) (since : Option Nat) (t : Nat) : Option Nat × Bool :=
  if cond = set then (none, set)
  else
    let s0 := since.getD t
    if s0 + 20000000 ≤ t then (none, cond) else (some s0, set)

/-- The compliance supply of AO channel `c` re-adjusted every 1 ms, at a terminal voltage in mV (R427):
2.5 V above it, within 5 to 21 V, by at most 2 V. -/
def State.compliance (s : State) (c mv : Nat) : State :=
  let x := s.chan 5 c
  let sink := wBit x.cfg 0 1
  let want : Int := clampI 5000 21000 ((mv : Int) + 2500)
  let v : Int := if sink then mv else clampI (x.aux - 2000) (x.aux + 2000) want
  let cond := if sink then decide (mv < 4000) else decide (21000 ≤ v) && decide (x.readback < x.force)
  let (since, set) :=
    if !sink && x.has fbCompliance then held20 true (decide (21000 ≤ v)) x.compSince s.time
    else held20 (x.has fbCompliance) cond x.compSince s.time
  s.putChan 5 c ({ x with aux := v, compSince := since }.mark fbCompliance set)

/-- The loop current of AO channel `c` measured every 1 ms, in nA (R428). -/
def State.aoReadback (s : State) (c : Nat) (na : Int) : State :=
  let x := s.chan 5 c
  if (s.stage 5).mode != smDrive || !chanEn x then s.putChan 5 c { x with readback := na }
  else
    let (ms, mis) := held20 (x.has fbMismatch) (decide (200000 < (na - x.force).natAbs)) x.misSince s.time
    let openCond := wBit x.cfg 0 4 && decide (1000000 ≤ x.force) &&
      (if wBit x.cfg 0 1 then decide (x.aux < 1000) else decide (21000 ≤ x.aux) && decide (2 * na < x.force))
    let (os, op) := held20 (x.has fbOpen) openCond x.openSince s.time
    let s1 := s.putChan 5 c (({ x with readback := na, misSince := ms, openSince := os }.mark fbMismatch mis).mark fbOpen op)
    if mis && !x.has fbMismatch then s1.bump Fld.FIO_AO_CNT_mismatch else s1

/-- The junction of an AO stage at a temperature in 0.1 °C (R430): off at 145 °C, back at 125 °C. -/
def State.aoThermal (s : State) (c : Nat) (temp : Int) : State :=
  let x := { s.chan 5 c with temp := temp }
  if 1450 ≤ temp ∧ x.has fbThermal = false then
    ((s.setChan 5 c (x.mark fbThermal true)).bump Fld.FIO_AO_CNT_thermal).applyStage 5
  else if temp ≤ 1250 ∧ x.has fbThermal = true then
    (s.setChan 5 c (({ x with holdFrom := s.time, aux := 5000 }.mark fbThermal false).mark fbHeldoff (c != 0))).applyStage 5
  else s.putChan 5 c x

/-! ### Records at a boundary (R415, R422, R433) -/

/-- Debounce runs of a DI bank restart (R415). -/
def State.restartRuns (s : State) (u : Nat) : State :=
  (upFrom 0 16).foldl (fun s c => s.setChan u c { s.chan u c with run := 0, runT := s.time }) s

/-- A field-I/O record takes effect. -/
def State.applyFioRec (s : State) (index : Nat) : State :=
  let u := index / 256
  let c := index % 256
  let r := if c = 0xFF then s.rec_ 0x0A index else s.workRec u c (s.rec_ 0x0A index)
  if c = 0xFF then
    let old := SMap.get [] u s.fio.banks
    let s1 := { s with fio := { s.fio with banks := SMap.set [] u r s.fio.banks } }
    if u ≤ 1 then (if old = r then s1 else s1.restartRuns u)
    else if u ≤ 3 then s1.put (Fld.FIO_DO_GUST_limit u) (if wBits r 0 3 0 = 0 then 2 else wBits r 0 3 0)
    else if u = 4 then (s1.setConv 0 (s1.aiConv 0)).setConv 1 (s1.aiConv 1)
    else s1
  else
    let x := s.chan u c
    let was := chanEn x
    let now := wBit r 0 0
    let x1 := { x with cfg := r }
    if now && !was then
      let fresh : FChan := { cfg := r, seq := x.seq, rx := x.rx, holdFrom := s.time, aux := if u = 5 then 5000 else 0 }
      let y := if (u = 5 ∨ (u = 6 ∧ c < 4)) ∧ c ≠ 0 then fresh.mark fbHeldoff true else fresh
      (s.putChan u c y).applyStage u
    else if !now then (s.putChan u c { x1 with taken := false, count := if u = 4 then 0 else x.count }).applyStage u
    else if u ≤ 1 && wBit x.cfg 0 9 != wBit r 0 9 then (s.setChan u c x1).restartRuns u
    else if u = 4 && wBits x.cfg 0 6 1 != wBits r 0 6 1 then
      let alone := s.convMode (c / 4) == 1 && (s.convChans (c / 4)).length == 1
      s.putChan u c { x1 with
        invalid := if alone then aiOrder r + (if aiRange x.cfg = aiRange r then 0 else 1) else 0 }
    else (s.putChan u c x1).applyStage u

end Sys2Proof.Machine
end

