-- ==== Sys2Proof/Machine/Alu.lean ====
section
/-! DEFINITION. Integer operations of block code (R143, R146, R147): the type field, values under a
type, results extended to 64 bits. -/

namespace Sys2Proof.Machine

/-- Width in bits of type code `t`, and whether it is an I type (R143). -/
def tyBits (t : Nat) : Nat := 8 * 2 ^ (t % 4)
def tySigned (t : Nat) : Bool := decide (t < 4)
/-- Size in bytes of type code `t` (R143). -/
def tyBytes (t : Nat) : Nat := 2 ^ (t % 4)

/-- A register read under a type: its low bits, with the type's sign (R143). -/
def tyVal (t : Nat) (w : Word64) : Int :=
  let n := w.toNat % 2 ^ tyBits t
  if tySigned t then signed (tyBits t) n else (n : Int)

/-- The low bits of a register under a type, without sign. -/
def tyNat (t : Nat) (w : Word64) : Nat := w.toNat % 2 ^ tyBits t

/-- A result written under a type: wrapped to its width, extended by its sign (R143). -/
def tyRes (t : Nat) (v : Int) : Word64 :=
  let n := unsigned (tyBits t) v
  BitVec.ofInt 64 (if tySigned t then signed (tyBits t) n else (n : Int))

/-- The limits of a type. -/
def tyMin (t : Nat) : Int := if tySigned t then -(2 ^ (tyBits t - 1) : Nat) else 0
def tyMax (t : Nat) : Int :=
  if tySigned t then (2 ^ (tyBits t - 1) : Nat) - 1 else (2 ^ tyBits t : Nat) - 1

/-- A result written under a type, saturated at its limits. -/
def tySat (t : Nat) (v : Int) : Word64 := tyRes t (clampI (tyMin t) (tyMax t) v)

/-- A truth value as a register. -/
def tyBool (b : Bool) : Word64 := BitVec.ofNat 64 (b1 b)

/-- Rotation left by `k` of the low bits of a register. -/
def tyRol (t : Nat) (w : Word64) (k : Nat) : Word64 :=
  let n := tyBits t
  let v := tyNat t w
  let r := k % n
  tyRes t ((v * 2 ^ r % 2 ^ n + v / 2 ^ (n - r) : Nat) : Int)

namespace Alu

def add (t : Nat) (a b : Word64) : Word64 := tyRes t (tyVal t a + tyVal t b)
def sub (t : Nat) (a b : Word64) : Word64 := tyRes t (tyVal t a - tyVal t b)
def mul (t : Nat) (a b : Word64) : Word64 := tyRes t (tyVal t a * tyVal t b)
/-- Truncated toward zero; the most negative value by −1 wraps to itself (R147). -/
def div (t : Nat) (a b : Word64) : Word64 := tyRes t (Int.tdiv (tyVal t a) (tyVal t b))
def mod (t : Nat) (a b : Word64) : Word64 := tyRes t (Int.tmod (tyVal t a) (tyVal t b))
def adds (t : Nat) (a b : Word64) : Word64 := tySat t (tyVal t a + tyVal t b)
def subs (t : Nat) (a b : Word64) : Word64 := tySat t (tyVal t a - tyVal t b)
def muls (t : Nat) (a b : Word64) : Word64 := tySat t (tyVal t a * tyVal t b)
def and_ (t : Nat) (a b : Word64) : Word64 := tyRes t ((a &&& b).toNat : Int)
def or_ (t : Nat) (a b : Word64) : Word64 := tyRes t ((a ||| b).toNat : Int)
def xor_ (t : Nat) (a b : Word64) : Word64 := tyRes t ((a ^^^ b).toNat : Int)
def not_ (t : Nat) (a : Word64) : Word64 := tyRes t ((~~~a).toNat : Int)
def shl (t : Nat) (a b : Word64) : Word64 := tyRes t (tyVal t a * 2 ^ (b.toNat % tyBits t))
/-- Arithmetic for I types, logical for U types: both floor the value under the type. -/
def shr (t : Nat) (a b : Word64) : Word64 := tyRes t (tyVal t a / 2 ^ (b.toNat % tyBits t))
def rol (t : Nat) (a b : Word64) : Word64 := tyRol t a (b.toNat % tyBits t)
def ror (t : Nat) (a b : Word64) : Word64 := tyRol t a (tyBits t - b.toNat % tyBits t)
def eq (t : Nat) (a b : Word64) : Word64 := tyBool (decide (tyVal t a = tyVal t b))
def ne (t : Nat) (a b : Word64) : Word64 := tyBool (decide (tyVal t a ≠ tyVal t b))
def lt (t : Nat) (a b : Word64) : Word64 := tyBool (decide (tyVal t a < tyVal t b))
def le (t : Nat) (a b : Word64) : Word64 := tyBool (decide (tyVal t a ≤ tyVal t b))
def gt (t : Nat) (a b : Word64) : Word64 := tyBool (decide (tyVal t b < tyVal t a))
def ge (t : Nat) (a b : Word64) : Word64 := tyBool (decide (tyVal t b ≤ tyVal t a))
def min_ (t : Nat) (a b : Word64) : Word64 := tyRes t (min (tyVal t a) (tyVal t b))
def max_ (t : Nat) (a b : Word64) : Word64 := tyRes t (max (tyVal t a) (tyVal t b))
def abs (t : Nat) (a : Word64) : Word64 := tySat t (Int.natAbs (tyVal t a))
def neg (t : Nat) (a : Word64) : Word64 := tyRes t (-tyVal t a)
/-- The whole register converted by truncation, and as a signed value with saturation. -/
def ext (t : Nat) (a : Word64) : Word64 := tyRes t a.toNat
def exts (t : Nat) (a : Word64) : Word64 := tySat t a.toInt
/-- `d` is the destination before the instruction; the type names the width. -/
def sel (t : Nat) (d a b : Word64) : Word64 := tyRes t (if d != 0 then a.toNat else b.toNat)

end Alu

end Sys2Proof.Machine
end

