-- ==== Sys2Proof/Machine/Float.lean ====
section
/-! DEFINITION. Floating operations of block code (R148): IEEE 754 binary32 and binary64, rounding to
nearest with ties to even, computed exactly on integers and rounded once. -/

namespace Sys2Proof.Machine

/-- Fraction bits and exponent bits of a floating type: t = 2 is F32, t = 3 is F64. -/
def fFrac (t : Nat) : Nat := if t = 2 then 23 else 52
def fExp (t : Nat) : Nat := if t = 2 then 8 else 11
def fBias (t : Nat) : Int := (2 ^ (fExp t - 1) : Nat) - 1

/-- A floating value: a finite value is (−1)^neg × m × 2^e. -/
inductive FVal where
  | nan
  | inf (neg : Bool)
  | fin (neg : Bool) (m : Nat) (e : Int)
  deriving DecidableEq, Repr

/-- The fields of a floating register. -/
def fSign (t : Nat) (w : Word64) : Bool := w.getLsbD (fFrac t + fExp t)
def fExpField (t : Nat) (w : Word64) : Nat := w.toNat / 2 ^ fFrac t % 2 ^ fExp t
def fFracField (t : Nat) (w : Word64) : Nat := w.toNat % 2 ^ fFrac t

/-- The value a register holds. -/
def fVal (t : Nat) (w : Word64) : FVal :=
  let e := fExpField t w
  let f := fFracField t w
  if e = 2 ^ fExp t - 1 then (if f = 0 then .inf (fSign t w) else .nan)
  else if e = 0 then .fin (fSign t w) f (1 - fBias t - fFrac t)
  else .fin (fSign t w) (2 ^ fFrac t + f) ((e : Int) - fBias t - fFrac t)

/-- A register from its fields; an F32 value has 0 in bits [63:32]. -/
def fPack (t : Nat) (neg : Bool) (e f : Nat) : Word64 :=
  BitVec.ofNat 64 (b1 neg * 2 ^ (fFrac t + fExp t) + e * 2 ^ fFrac t + f)

def fNan (t : Nat) : Word64 := fPack t false (2 ^ fExp t - 1) (2 ^ (fFrac t - 1))
def fInf (t : Nat) (neg : Bool) : Word64 := fPack t neg (2 ^ fExp t - 1) 0
def fZero (t : Nat) (neg : Bool) : Word64 := fPack t neg 0 0

/-- `m` divided by 2^`k`, to nearest, ties to even; `sticky` says that a rest below `m` was cut off. -/
def roundShift (m k : Nat) (sticky : Bool) : Nat :=
  let q := m / 2 ^ k
  let r := m % 2 ^ k
  let half := 2 ^ k / 2
  if k = 0 then m
  else if half < r || (r == half && (sticky || q % 2 == 1)) then q + 1 else q

/-- The register nearest to (−1)^neg × (m + a rest below it) × 2^e (R148). -/
def fRound (t : Nat) (neg : Bool) (m : Nat) (e : Int) (sticky : Bool) : Word64 :=
  if m = 0 then fZero t neg
  else
    let m4 := m * 4
    let e4 := e - 2
    let top := (Nat.log2 m4 : Int) + e4
    let q := max (top - fFrac t) (1 - fBias t - fFrac t)
    let r := if e4 ≤ q then roundShift m4 (q - e4).toNat sticky else m4 * 2 ^ (e4 - q).toNat
    let r2 := if 2 ^ (fFrac t + 1) ≤ r then r / 2 else r
    let q2 := if 2 ^ (fFrac t + 1) ≤ r then q + 1 else q
    if r2 < 2 ^ fFrac t then fPack t neg 0 r2
    else
      let ef := (q2 + fFrac t + fBias t).toNat
      if 2 ^ fExp t - 1 ≤ ef then fInf t neg else fPack t neg ef (r2 - 2 ^ fFrac t)

/-- An exact integer times 2^e rounded; an exact zero takes sign `zneg`. -/
def fRoundInt (t : Nat) (v : Int) (e : Int) (zneg : Bool) : Word64 :=
  if v = 0 then fZero t zneg else fRound t (decide (v < 0)) v.natAbs e false

/-- A finite value as an integer at exponent `e0`, which is at most its own. -/
def fInt (neg : Bool) (m : Nat) (e e0 : Int) : Int :=
  let v : Int := (m * 2 ^ (e - e0).toNat : Nat)
  if neg then -v else v

/-- Exact sum of two finite values, rounded; the zero of two equal signs keeps the sign. -/
def fAddFin (t : Nat) (n1 : Bool) (m1 : Nat) (e1 : Int) (n2 : Bool) (m2 : Nat) (e2 : Int) : Word64 :=
  let e0 := min e1 e2
  fRoundInt t (fInt n1 m1 e1 e0 + fInt n2 m2 e2 e0) e0 (n1 && n2)

/-- Sum of two values. -/
def fAddVal (t : Nat) : FVal → FVal → Word64
  | .nan, _ => fNan t
  | _, .nan => fNan t
  | .inf a, .inf b => if a = b then fInf t a else fNan t
  | .inf a, .fin .. => fInf t a
  | .fin .., .inf b => fInf t b
  | .fin n1 m1 e1, .fin n2 m2 e2 => fAddFin t n1 m1 e1 n2 m2 e2

def FVal.neg : FVal → FVal
  | .nan => .nan
  | .inf n => .inf (!n)
  | .fin n m e => .fin (!n) m e

/-- Exact product of two values; none where it is invalid. -/
def fMulVal : FVal → FVal → FVal
  | .nan, _ => .nan
  | _, .nan => .nan
  | .inf a, .inf b => .inf (a != b)
  | .inf a, .fin b m _ => if m = 0 then .nan else .inf (a != b)
  | .fin a m _, .inf b => if m = 0 then .nan else .inf (a != b)
  | .fin a m e, .fin b n f => .fin (a != b) (m * n) (e + f)

/-- A value rounded into a register. -/
def fOf (t : Nat) : FVal → Word64
  | .nan => fNan t
  | .inf n => fInf t n
  | .fin n m e => fRound t n m e false

/-- Integer square root by bits, from bit `i` down. -/
def isqrtFrom (n : Nat) : Nat → Nat → Nat
  | 0, r => r
  | i + 1, r => isqrtFrom n i (if (r + 2 ^ i) * (r + 2 ^ i) ≤ n then r + 2 ^ i else r)

/-- Order of two values, neither a NaN: below, equal, above as −1, 0, 1. -/
def fCmp : FVal → FVal → Int
  | .inf true, .inf true => 0
  | .inf true, _ => -1
  | _, .inf true => 1
  | .inf false, .inf false => 0
  | .inf false, _ => 1
  | _, .inf false => -1
  | .fin n1 m1 e1, .fin n2 m2 e2 =>
    let e0 := min e1 e2
    let a := fInt n1 m1 e1 e0
    let b := fInt n2 m2 e2 e0
    if a < b then -1 else if b < a then 1 else 0
  | _, _ => 0

def FVal.isNan : FVal → Bool
  | .nan => true
  | _ => false

/-- The low bits of a register that a floating type occupies. -/
def fLow (t : Nat) (w : Word64) : Word64 := BitVec.ofNat 64 (w.toNat % 2 ^ tyBits t)

namespace Fpu

def add (t : Nat) (a b : Word64) : Word64 := fAddVal t (fVal t a) (fVal t b)
def sub (t : Nat) (a b : Word64) : Word64 := fAddVal t (fVal t a) (fVal t b).neg
def mul (t : Nat) (a b : Word64) : Word64 := fOf t (fMulVal (fVal t a) (fVal t b))
def div (t : Nat) (a b : Word64) : Word64 :=
  match fVal t a, fVal t b with
  | .nan, _ => fNan t
  | _, .nan => fNan t
  | .inf _, .inf _ => fNan t
  | .inf x, .fin y _ _ => fInf t (x != y)
  | .fin x _ _, .inf y => fZero t (x != y)
  | .fin x m e, .fin y n f =>
    if n = 0 then (if m = 0 then fNan t else fInf t (x != y))
    else fRound t (x != y) (m * 2 ^ 130 / n) (e - f - 130) (m * 2 ^ 130 % n != 0)
def sqrt (t : Nat) (a : Word64) : Word64 :=
  match fVal t a with
  | .nan => fNan t
  | .inf n => if n then fNan t else fInf t false
  | .fin n m e =>
    if m = 0 then fZero t n
    else if n then fNan t
    else
      let k : Nat := if e % 2 = 0 then 130 else 131
      let x := m * 2 ^ k
      let r := isqrtFrom x 96 0
      fRound t false r ((e - k) / 2) (r * r != x)
def abs (t : Nat) (a : Word64) : Word64 := fLow t a &&& ~~~(BitVec.ofNat 64 (2 ^ (tyBits t - 1)))
def neg (t : Nat) (a : Word64) : Word64 := fLow t a ^^^ BitVec.ofNat 64 (2 ^ (tyBits t - 1))

/-- −0 is less than +0 (R148). -/
def below (t : Nat) (a b : Word64) : Bool :=
  let c := fCmp (fVal t a) (fVal t b)
  c == -1 || (c == 0 && fSign t a && !fSign t b)
def pick (t : Nat) (a b : Word64) (takeA : Bool) : Word64 :=
  match (fVal t a).isNan, (fVal t b).isNan with
  | true, true => fNan t
  | true, false => fLow t b
  | false, true => fLow t a
  | false, false => if takeA then fLow t a else fLow t b
def min_ (t : Nat) (a b : Word64) : Word64 := pick t a b (below t a b)
def max_ (t : Nat) (a b : Word64) : Word64 := pick t a b (below t b a)
/-- d + a × b, rounded once. -/
def mac (t : Nat) (d a b : Word64) : Word64 := fAddVal t (fMulVal (fVal t a) (fVal t b)) (fVal t d)

def ordered (t : Nat) (a b : Word64) : Bool := !(fVal t a).isNan && !(fVal t b).isNan
def eq (t : Nat) (a b : Word64) : Word64 :=
  tyBool (ordered t a b && fCmp (fVal t a) (fVal t b) == 0)
def lt (t : Nat) (a b : Word64) : Word64 :=
  tyBool (ordered t a b && fCmp (fVal t a) (fVal t b) == -1)
def le (t : Nat) (a b : Word64) : Word64 :=
  tyBool (ordered t a b && fCmp (fVal t a) (fVal t b) != 1)
def un (t : Nat) (a b : Word64) : Word64 := tyBool (!ordered t a b)

/-- A finite value as an integer: to nearest with ties to even, or truncated toward zero. -/
def toInt (near neg : Bool) (m : Nat) (e : Int) : Int :=
  let v : Nat := if 0 ≤ e then m * 2 ^ e.toNat
    else if near then roundShift m (-e).toNat false else m / 2 ^ (-e).toNat
  if neg then -(v : Int) else v
def f2i (near : Bool) (t : Nat) (a : Word64) : Word64 :=
  match fVal t a with
  | .nan => 0
  | .inf n => if n then BitVec.ofInt 64 (tyMin 3) else BitVec.ofInt 64 (tyMax 3)
  | .fin n m e => BitVec.ofInt 64 (clampI (tyMin 3) (tyMax 3) (toInt near n m e))
def i2f (t : Nat) (a : Word64) : Word64 := fRoundInt t a.toInt 0 false
def u2f (t : Nat) (a : Word64) : Word64 := fRoundInt t a.toNat 0 false
/-- Converted from `t` to the other floating width. -/
def wid (t : Nat) (a : Word64) : Word64 := fOf (5 - t) (fVal t a)
def class_ (t : Nat) (a : Word64) : Word64 :=
  let e := fExpField t a
  let f := fFracField t a
  let c := if e = 2 ^ fExp t - 1 then (if f = 0 then 3 else 4)
    else if e = 0 then (if f = 0 then 0 else 1) else 2
  BitVec.ofNat 64 (c + 8 * b1 (fSign t a))

end Fpu

end Sys2Proof.Machine
end

