-- ==== Sys2Proof/Machine/RegView.lean ====
section
/-! DEFINITION. Registers that show what stands elsewhere in the state: the selected slot, generator, action, triple,
unit, instance or queue of a block, live counts and times, and the common registers of R75. -/

namespace Sys2Proof.Machine

/-- The high or the low half of a 64-bit value, by the offset of its pair of registers (R66). -/
def halfOf (lo : Bool) (v : Nat) : Word := if lo then lo32 v else hi32 v

/-- A position, speed or acceleration with 64 fractional bits as the 32.32 value that PG shows. -/
def genWord (lo : Bool) (v : Int) : Word := halfOf lo (unsigned 64 (to32 v))

/-- CE registers of the slot in CE_SLOTSEL (R291). -/
def State.viewCe (s : State) (off : Nat) : Option Word :=
  let i := s.fld Fld.CE_SLOTSEL_slot
  let x := s.loop i
  if off = 0x104 then some (s.loopStat i)
  else if off = 0x108 then some (wordOf x.u)
  else if off = 0x10C then some (wordOf x.e)
  else if off = 0x110 then some (wd (x.dly % 65536 + x.dlyMax * 65536))
  else if off = 0x114 then some (wd x.runs)
  else if off = 0x118 then some (wd x.skipped)
  else none

/-- PG registers of the generator in PG_GENSEL (R312). -/
def State.viewPg (s : State) (off : Nat) : Option Word :=
  let x := s.gen (s.fld Fld.PG_GENSEL_gen)
  let lo := off / 4 % 2 == 1
  if off = 0x104 then some x.stat
  else if off = 0x108 ∨ off = 0x10C then some (genWord lo x.p)
  else if off = 0x110 ∨ off = 0x114 then some (genWord lo x.v)
  else if off = 0x118 ∨ off = 0x11C then some (genWord lo x.a)
  else if off = 0x120 ∨ off = 0x124 then some (genWord lo x.target)
  else if off = 0x128 ∨ off = 0x12C then some (genWord lo x.ovs)
  else if off = 0x130 ∨ off = 0x134 then some (genWord lo x.rev)
  else if off = 0x138 then some x.homeStat
  else if off = 0x13C ∨ off = 0x140 then some (genWord (off == 0x140) x.latch)
  else if off = 0x144 then some (wd (x.chatLimit * 65536 + x.chatHome))
  else none

/-- AD registers: live domains, and the action in AD_ACTSEL (R343). -/
def State.viewAd (s : State) (off : Nat) : Option Word :=
  let a := s.fld Fld.AD_ACTSEL_slot
  let x := s.act7 a
  if 0x100 ≤ off ∧ off < 0x300 then
    let d := (off - 0x100) / 0x40
    let o := (off - 0x100) % 0x40
    if o = 0 then some (s.domStat d)
    else if o = 4 then some (s.domAngle d)
    else if o = 8 then some (wordOf (domSpeed (s.dom d)))
    else none
  else if off = 0x804 then some (s.actStat a)
  else if off = 0x808 then some (s.actAngle a)
  else if off = 0x80C then some x.comp
  else if off = 0x810 then some (wd x.fires)
  else if off = 0x814 then some x.last
  else none

/-- PH registers of the triple in PH_SEL (R371). -/
def State.viewPh (s : State) (off : Nat) : Option Word :=
  let t := s.fld Fld.PH_SEL_triple
  let t := if t < 5 then t else 0
  let volt := decide (t < 3)
  if 0x104 ≤ off ∧ off ≤ 0x10C then some (wordOf (s.phVal t ((off - 0x104) / 4)))
  else if off = 0x110 then some (wordOf (s.phVal (s.tripleOf t) 4))
  else if off = 0x114 then some (if volt then wordOf (s.phVal t 5) else 0)
  else if off = 0x118 then some (if volt then 0 else wordOf (s.phVal t 3))
  else if off = 0x11C then some (if volt then 0 else wordOf (s.phVal t 4))
  else if off = 0x120 ∨ off = 0x124 then some (halfOf (off == 0x124) (((s.triple t).ended).getD 0))
  else none

/-- RIO registers: the rings, with whether this module masters them, and the unit in RIO_UNITSEL (R445, R452). -/
def State.viewRio (s : State) (off : Nat) : Option Word :=
  let u := s.fld Fld.RIO_UNITSEL_unit
  let r := s.unitRec u
  let x := s.runit u
  if off = 0 ∨ off = 0x100 then
    some (setBits (s.reg (Reg.RIO_RING_STAT (off / 256))) 3 3 (b1 (s.mastersRing (off / 256))))
  else if off = 0x804 then
    some (wd (urNode r * 2 ^ 18 + urPos r * 2 ^ 11 + urRing r * 1024 + 64 * b1 x.copyb + 32 * b1 x.turn +
      16 * b1 x.silence + x.state))
  else if off = 0x808 then some (wd (x.missed * 65536 + x.low))
  else if off = 0x80C then some (wd (x.type * 65536 + x.fw))
  else if off = 0x810 then some (wd x.serial)
  else none

/-- SAF registers of the instance in SAF_INSTSEL (R484). -/
def State.viewSaf (s : State) (off : Nat) : Option Word :=
  let i := s.fld Fld.SAF_INSTSEL_inst
  let x := s.inst i
  if off = 0x304 then some (s.instStat i)
  else if off = 0x308 then some (wd (x.env * 65536 + x.speed))
  else if off = 0x30C then some x.tripTime
  else none

/-- EVR registers of the definition in EVR_DEFSEL (R508). -/
def State.viewEvr (s : State) (off : Nat) : Option Word :=
  let x := s.evDef (s.fld Fld.EVR_DEFSEL_def)
  if off = 0x104 then some (wd (x.missed * 65536 + x.merged))
  else if off = 0x108 then some (match x.last with | some n => wd (n % 65536 + 65536) | none => 0)
  else none

/-- Queues that partition `p` owns, in ascending number. -/
def State.queuesOf (s : State) (p : Nat) : List Nat :=
  (upFrom 0 8192).filter fun q => s.qEn q && s.qOwner q == p

/-- QE registers: the queue in QE_QSEL, and the port pages (R259). -/
def State.viewQe (s : State) (off : Nat) : Option Word :=
  if off = 0xF004 then
    let q := s.fld Fld.QE_QSEL_queue
    some (wd (min (s.queue q).drops 65535 * 65536 + b1 (s.qEn q) * 32768 + s.depth q % 32768))
  else if 0x1000 ≤ off ∧ off < 0xF000 then
    let k := off / 0x1000
    let o := off % 0x1000
    let p := s.fld (Fld.QE_P_ID_part k)
    let en := s.isSet (Fld.QE_P_ID_en k)
    if o = 4 then some (if en then s.reg (Reg.PRT_USE_Q0 p) else 0)
    else if o = 8 then some (if en then s.reg (Reg.PRT_USE_Q1 p) else 0)
    else if 0x100 ≤ o then
      match (if en then s.queuesOf p else [])[(o - 0x100) / 4]? with
      | some q => some (wd (q * 65536 + 32768 + s.depth q % 32768))
      | none => some 0
    else none
  else none

/-- PFC registers: live counts (R584). -/
def State.viewPfc (s : State) (off : Nat) : Option Word :=
  if 0x1000 ≤ off ∧ off < 0x2000 ∧ off % 16 < 8 then
    some (halfOf (off % 16 == 4) (SMap.get {} ((off - 0x1000) / 16) s.pfc).count)
  else none

/-- Drive that a wear accumulator shows: frames at level 15 and full current (PNL_WEARDATA). -/
def State.wearFrames (s : State) (px : Nat) : Nat :=
  min (2 ^ 24 - 1) (SMap.get 0 px s.pnl.acc / (s.fld (Fld.PNL_GAMMA_width 15) * 255))

/-- PNL registers: the pixel in PNL_WEARADDR. -/
def State.viewPnl (s : State) (off : Nat) : Option Word :=
  if off = 0x804 then
    let px := s.fld Fld.PNL_WEARADDR_pixel
    some (wd (s.wearFrames px * 256 + SMap.get 128 px s.pnl.gains))
  else none

/-- A shadow that waits in block `b` for code `a`. -/
def State.shadowIn (s : State) (b : Nat) (a : App) : Bool :=
  s.shadow.any fun e => e.1 / 4 / 65536 == b && e.1 % 4 == a.idx

/-- xx_SHPEND of block `b` (R75): what waits for each boundary. -/
def State.viewPend (s : State) (b : Nat) : Word :=
  let rst := b == 0 && s.nv.splitReq.isSome
  let rev := b == 6 && s.ad.acts.any fun e => e.2.atRev
  let cyc := s.shadowIn b .cyc || (b == 20 && s.isSet Fld.AGE_OP_pending) ||
    (b == 0 && match s.sys.modeAt with | some (_, m) => m == 255 | none => false)
  let frm := s.shadowIn b .frm || (b == 18 && !s.pnl.gainPend.isEmpty)
  wd (128 * b1 rst + 32 * b1 rev + 8 * b1 frm + b1 cyc)

/-- The word in force at register `k`. -/
def State.regView (s : State) (k : Nat) : Word :=
  let b := k / 65536
  let off := k % 65536
  let held := s.reg k
  if off = 0xFFF0 then s.viewPend b
  else if 0xFFF0 < off then held
  else
    (if b = 3 then s.viewQe off
    else if b = 4 then s.viewCe off
    else if b = 5 then s.viewPg off
    else if b = 6 then s.viewAd off
    else if b = 7 then s.viewPh off
    else if b = 8 then
      (if off = 0 then some (hi32 s.time) else if off = 4 then some (lo32 s.time) else none)
    else if b = 10 then s.viewRio off
    else if b = 11 then s.viewSaf off
    else if b = 12 then s.viewEvr off
    else if b = 18 then s.viewPnl off
    else if b = 21 then s.viewPfc off
    else none).getD held

/-! ### What a read of a clear-on-read field restarts where the state holds it elsewhere (R63, R64) -/

/-- The clear-on-read fields of register `k` restarted, where the register shows another part of the state. -/
def State.restartView (s : State) (k : Nat) : State :=
  if k = Reg.CE_SLOTDLY then
    let i := s.fld Fld.CE_SLOTSEL_slot
    s.putLoop i { s.loop i with dlyMax := 0 }
  else if k = Reg.PG_CHATTER then
    let g := s.fld Fld.PG_GENSEL_gen
    s.setGen g { s.gen g with chatLimit := 0, chatHome := 0 }
  else if k = Reg.RIO_UNITCNT then
    let u := s.fld Fld.RIO_UNITSEL_unit
    s.setRunit u { s.runit u with missed := 0, low := 0 }
  else if k = Reg.EVR_DEFCNT then
    let d := s.fld Fld.EVR_DEFSEL_def
    s.setEvDef d { s.evDef d with missed := 0, merged := 0 }
  else if k = Reg.PNL_WEARDATA then
    let px := s.fld Fld.PNL_WEARADDR_pixel
    let s1 := { s with pnl := { s.pnl with acc := SMap.set 0 px 0 s.pnl.acc } }
    s1.put Fld.PNL_WEARADDR_pixel (px + 1)
  else s

end Sys2Proof.Machine
end

