-- ==== Sys2Proof/Machine/RegAccess.lean ====
section
/-! DEFINITION. Register accesses (R10, R11, R19, R50, R56 to R75, R78, R98): what a read returns and clears, what a
write refuses, loads and does, and whom a block admits. -/

namespace Sys2Proof.Machine

/-! ### Masters -/

/-- Whether a block admits an engine's access, as its block says beyond the protection windows (R56, R98, R259, R589). -/
inductive Admit where
  /-- As the register says. -/
  | full
  /-- A read returns 0 and a write does nothing. -/
  | empty
  /-- As `empty`, and a protection fault of the kind. -/
  | fault (kind : Nat)
  deriving DecidableEq, Repr

/-- An access of a block engine that runs a task of partition `p` to register `k`. -/
def State.admits (s : State) (p k : Nat) (write : Bool) : Admit :=
  let b := k / 65536
  let off := k % 65536
  let deny := Admit.fault (if write then pfWrite else pfRead)
  if b = 0 ∧ off < 0x1000 then
    if write then .empty
    else if k = Reg.SYS_ID ∨ k = Reg.SYS_MODE ∨ k = Reg.SYS_STAT then .full else .empty
  else if b = 2 ∧ off < 0x1000 then (if off / 0x20 = p then .full else deny)
  else if b = 3 ∧ 0x1000 ≤ off ∧ off < 0xF000 then
    if s.isSet (Fld.QE_P_ID_en (off / 0x1000)) && s.fld (Fld.QE_P_ID_part (off / 0x1000)) == p then
      (if write then .empty else .full)
    else deny
  else if b = 21 ∧ 0x1000 ≤ off ∧ off < 0x3000 then
    if write then .empty
    else
      let c := if off < 0x2000 then (off - 0x1000) / 16 else (off - 0x2000) / 8
      if 0x2800 ≤ off ∨ bit (s.reg (Reg.PRT_PFCRIGHT p)) (c / 8) = true then .full else .fault pfCounter
  else deny

/-- What station firmware makes of an error of the management pair's own access (R19, R69). -/
def State.mgmtError (s : State) (rule k : Nat) : State := (s.note 7 rule k).degrade

/-- A decode error at `k` (R19, R75): latched in its block where there is one. -/
def State.decodeError (s : State) (k part : Nat) (write : Bool) (master : Nat) : State :=
  let s1 := if k / 65536 < 22 then s.accErr (k / 65536) accDecode (k % 65536) part write master else s
  if master = 0 then s1.mgmtError 19 k else s1

/-! ### Reads -/

/-- The mask of the fields of a register with an access code. -/
def accMask (fs : List RegField) (a : Acc) : Word :=
  fs.foldl (fun m f => if f.acc == a then setBits m f.hi f.lo (2 ^ (f.hi + 1 - f.lo) - 1) else m) 0

/-- The clear-on-read fields of a register restarted after a read (R63, R64, R75). -/
def State.restart (s : State) (r : RegInfo) (k : Nat) : State :=
  let m := accMask r.fields .rc
  if m = 0 then s
  else
    let s1 := s.setReg k (s.reg k &&& ~~~m)
    let s2 := { s1 with
      peaked := s1.peaked.filter fun e => e.1 / 32 != k || !bit m (e.1 % 32)
      prt := { s1.prt with pfHeld := s1.prt.pfHeld && k != Reg.PRT_PFSTAT } }
    s2.restartView k

/-- A read of register `k` (R10, R63): write-only fields read 0. -/
def State.readCore (s : State) (k part master : Nat) : State × Word :=
  match s.regInfo k with
  | none => (s.decodeError k part false master, 0)
  | some r => (s.restart r k, s.regView k &&& ~~~(accMask r.fields .wo))

/-! ### Writes -/

/-- Bits of a writable register that are read only and not reserved. -/
def roBits (name : String) : Word :=
  if name = "SYS_CFG" then 0xF0 else if name = "PNL_LED" then 0x30000 else 0

def RegInfo.writable (r : RegInfo) : Bool := r.fields.any fun f => f.acc != .rc

/-- Whether a write gives a reserved field another value than the 0 that it holds (R10, R60). -/
def RegInfo.reservedWrite (r : RegInfo) (v : Word) : Bool :=
  let known := (accMask r.fields .rw ||| accMask r.fields .wo) ||| (accMask r.fields .rc ||| roBits r.name)
  (if r.fields.any (·.acc == .wm) then 0 else v &&& ~~~known) != 0

/-- Legal ranges of the fields of a register (R62). -/
def RegInfo.inRange (r : RegInfo) (v : Word) : Bool :=
  r.fields.all fun f => f.acc == .rc || match f.range with
    | some (a, b) => decide (a ≤ bits v f.hi f.lo) && decide (bits v f.hi f.lo ≤ b)
    | none => true

/-- The value that a field will hold at its boundary. -/
def State.coming (s : State) (f : Fld) (a : App) : Nat :=
  bits ((s.shadowOf f.key a).getD (s.reg f.key)) f.hi f.lo

/-- Whether the gamma widths still do not decrease when level `g` takes width `w` (R543). -/
def State.gammaRises (s : State) (g w : Nat) : Bool :=
  (g ≤ 1 || decide (s.coming (Fld.PNL_GAMMA_width (g - 1)) .frm ≤ w)) &&
    (decide (15 ≤ g) || decide (w ≤ s.coming (Fld.PNL_GAMMA_width (g + 1)) .frm))

/-- Whether an index may move from `old` to `new` in a ring: forward, and no further than `limit`. -/
def indexMoves (old new limit : Nat) : Bool := decide ((new + 65536 - old) % 65536 ≤ limit)

/-- Ranges that depend on the state or on another field (R78, R239, R247, R543; a register has no status BAD_ARG, so that a descriptor
with an invalid handle is refused at QE_ENQ as a value out of range, log entry 142; the step count of LKS_DBGCTL counts for command 3). -/
def State.stateRange (s : State) (k : Nat) (v : Word) : Bool :=
  let b := k / 65536
  let off := k % 65536
  if b = 2 ∧ off < 72 * 0x20 then
    let m := off / 0x20
    if off % 0x20 = 0 then indexMoves (s.fld (Fld.MBX_REQ_HEAD_head m)) (bits v 15 0) (32 - s.reqCount m)
    else if off % 0x20 = 0xC then indexMoves (s.fld (Fld.MBX_RSP_TAIL_tail m)) (bits v 15 0) (s.rspCount m)
    else true
  else if k = Reg.QE_FREEBUF then
    match handleElem (bits v 15 0) with
    | some (kind, i) => s.chargeOf kind i != 0
    | none => false
  else if k = Reg.QE_ENQ then (s.descHandles (bits v 13 0)).all handleOk
  else if k = Reg.LKS_DBGCTL then bits v 10 9 != 3 || bits v 31 16 != 0
  else if b = 18 ∧ 0x44 ≤ off ∧ off < 0x80 then s.gammaRises ((off - 0x40) / 4) (bits v 10 0)
  else true

/-- The fields of a register loaded by a write: in force, in their shadows, or in MRAM (R71, R73). Write-only fields
hold nothing. -/
def State.loadFields (s : State) (r : RegInfo) (k : Nat) (v : Word) : State :=
  let load := fun (s : State) (f : RegField) =>
    let x := bits v f.hi f.lo
    if f.acc == .rw then
      (match f.app with
      | .imm => s.put ⟨k, f.hi, f.lo⟩ x
      | .rst => { s with nv := { s.nv with splitReq := some x } }
      | a => s.putShadow ⟨k, f.hi, f.lo⟩ a x)
    else if f.acc == .wm then
      let m := bits v 31 16
      s.setReg k ((s.reg k &&& ~~~(wd m)) ||| (v &&& wd m))
    else s
  r.fields.foldl load s

/-- A write to a half of a writable split value (R67): the debug memory address. The low word waits in its holding word; the
high word takes it into place, or the low word in force where none was written since. -/
def State.splitWrite (s : State) (k : Nat) (v : Word) : State :=
  if k = Reg.LKS_DBGADDR_LO then { s with holding := SMap.set none k (some v) s.holding }
  else
    let low := (SMap.get none Reg.LKS_DBGADDR_LO s.holding).getD (s.reg Reg.LKS_DBGADDR_LO)
    { (s.setReg k v).setReg Reg.LKS_DBGADDR_LO low with
      holding := SMap.set none Reg.LKS_DBGADDR_LO (some low) s.holding }

/-- QE commands of the management pair (R244, R247). -/
def State.qeWrite (s : State) (k : Nat) (v : Word) : State :=
  if k = Reg.QE_ALLOCREQ then
    match s.alloc (bits v 1 0) (bits v 21 16) with
    | (s1, some i) => s1.setReg Reg.QE_ALLOCRES (wd (handleOf (bits v 1 0) i))
    | (s1, none) => s1.setReg Reg.QE_ALLOCRES 0x1FFFF
  else if k = Reg.QE_FREEBUF then s.freeHandle (bits v 15 0)
  else if k = Reg.QE_ENQ then
    let d := bits v 13 0
    (s.enqDesc (bits (s.descWord d 0) 28 16) d (s.msgPart d)).1
  else if k = Reg.QE_DEQREQ then
    let q := bits v 12 0
    match (if s.qEn q then s.front q else none) with
    | some d => (s.unlinkMsg q d).setReg Reg.QE_DEQRES (wd d)
    | none => s.setReg Reg.QE_DEQRES 0x8000
  else s

/-- The claim dropped through RED_CLAIMCTL. In COMMISSION, with no partner that tells another mode, a claim reset begins (R213,
R216): stages and units begin to judge its frames, and the witnesses are told. The manual gives the commit of R213 no record:
station firmware's write in the boundary clock of that commit stands for it (DESIGN CHOICE, log entry 141). -/
def State.ctlDrop (s : State) : State :=
  let s1 := s.dropClaim
  if s1.mode != mCommission || (s1.sys.pins.pair && !s1.red.lost && s1.red.hbRx.isSome && s1.red.peerMode != mCommission) then s1
  else
    let s2 := { s1 with
      red := { s1.red with
        resetting := true, stages := s1.red.stages.map fun (x : Nat × OutStage) => (x.1, { x.2 with resetOk := (s1.link x.1).fieldUp }) }
      rio := { s1.rio with units := s1.rio.units.map fun (x : Nat × RUnit) => (x.1, { x.2 with resetOk := true, resetAt := s1.time }) } }
    s2.witClaimed 0 4

/-- RED_CLAIMCTL with its key (R216, R237). The manual does not say which of two bits stands: a free value decides. -/
def State.claimCtl (s : State) (drop raise : Bool) : State :=
  if drop && raise then
    let (f, s1) := s.fresh
    if f.getLsbD 0 then s1.setReg Reg.RED_CLAIM s1.nv.claim else s1.ctlDrop
  else if drop then s.ctlDrop
  else if raise then s.setReg Reg.RED_CLAIM s.nv.claim
  else s

/-- LKS_INJECT with its key (R193). With arm 0 it arms nothing, and what an earlier write armed stands: the manual gives no way to
disarm (log 138). -/
def State.injectWrite (s : State) (p : Nat) (v : Word) : State :=
  if s.mode != mCommission then s.note 3 193 p
  else if bits v 31 16 != 0x1A5C then s
  else if s.fbit Fld.LKS_CFG_split p || !s.pairUsable p then s.note 3 193 p
  else if bit v 4 then { s with lks := { s.lks with armed := SMap.set 0 p (bits v 3 0) s.lks.armed } }
  else s

/-- A PHY register read or written (R526): what a PHY answers is free. -/
def State.mdio (s : State) (k : Nat) (v : Word) : State :=
  if bit v 5 then s
  else
    let (f, s1) := s.fresh
    s1.setReg k (setBits (s1.reg k) 31 16 f.toNat)

/-- What a write does beyond the fields it loads. -/
def State.writeEffect (s : State) (k : Nat) (v : Word) (part : Nat) : State :=
  let b := k / 65536
  let off := k % 65536
  let key := bits v 31 16
  if k = Reg.SYS_RST then
    (if key != 0xC8A5 then s.note 1 54 k else if bit v 0 then s.resetModule s.commandedCause 0 else s)
  else if k = Reg.SYS_MODE_SET then
    (if key = 0x3D6E then { s with sys := { s.sys with modeAt := some (bits v 2 0, 255) } } else s)
  else if b = 2 ∧ off < 72 * 0x20 ∧ off % 0x20 = 0 then s.ring (off / 0x20) (bits v 15 0) part
  else if b = 2 ∧ off < 72 * 0x20 then (s.showRings (off / 0x20)).releaseNtfs (off / 0x20) 16
  else if b = 3 then s.qeWrite k v
  else if k = Reg.FIO_KICK then
    (if key = 0x5C3E then { s with fio := { s.fio with sending := true, kickAt := s.time } } else s)
  else if k = Reg.SAF_PDATA then s.pdataWrite v
  else if k = Reg.SAF_TEST then
    (if key != 0x6B2D then s
    else if s.mode != mCommission then s.note 8 473 0
    else if bit v 0 then { s with saf := { s.saf with flip := true } } else s)
  else if k = Reg.EVR_FREEZE then
    (if key != 0x2E91 then s else if bit v 0 then s.freezeRing.1 else s.releaseRing true)
  else if b = 13 ∧ 0x11C ≤ off ∧ off < 0x200 then s.injectWrite ((off - 0x11C) / 0x40) v
  else if k = Reg.RED_CLAIMCTL then (if key = 0x7E1D then s.claimCtl (bit v 1) (bit v 0) else s)
  else if k = Reg.RED_HBKICK then
    (if key = 0xB3A1 then { s with red := { s.red with hbOff := false } } else s)
  else if b = 15 ∧ off % 0x100 = 0x10 then s.mdio k v
  else if k = Reg.AGE_OPSET then
    (if key = 0x9C47 then
      { (s.flag Fld.AGE_OP_pending true) with prt := { s.prt with opNext := some (bits v 1 0) } }
    else s)
  else if k = Reg.PNL_WEARDATA then
    let px := s.fld Fld.PNL_WEARADDR_pixel
    ({ s with pnl := { s.pnl with gainPend := SMap.set 0 px (bits v 7 0) s.pnl.gainPend } }).put
      Fld.PNL_WEARADDR_pixel (px + 1)
  else s

/-- Whether a lock keeps a register as it is (R50, R194). -/
def State.lockedOut (s : State) (k : Nat) : Bool :=
  s.isSet Fld.PRT_LOCK_lock &&
    (k / 65536 == 1 || (k / 65536 == 13 && decide (0x40 ≤ k % 65536) && decide (k % 65536 < 0x60)))

/-- A write of register `k`. None: it gives a reserved field a value of which the manual says that its effect is
undefined. -/
def State.writeCore (s : State) (k : Nat) (v : Word) (part master : Nat) : Option State :=
  match s.regInfo k with
  | none => some (s.decodeError k part true master)
  | some r =>
    if s.lockedOut k then
      some (if k / 65536 = 1 then s.protFault pfLocked (0x40000000 + k) part 0 master else s)
    else if !r.writable then some s
    else if r.reservedWrite v then none
    else if !r.inRange v || !s.stateRange k v then
      some (s.accErr (k / 65536) accRange (k % 65536) part true master)
    else if k = Reg.PNL_DRIVE then
      some ((s.pumpBit (bit v 16)).loadFields { r with fields := r.fields.filter (·.app == .frm) } k v)
    else if k = Reg.LKS_DBGADDR_LO ∨ k = Reg.LKS_DBGADDR_HI then some (s.splitWrite k v)
    else if k = Reg.PNL_WEARDATA ∨ k / 65536 = 2 ∧ k % 0x20 = 0 then some (s.writeEffect k v part)
    else some ((s.loadFields r k v).writeEffect k v part)

/-! ### The slow domains (R68, R69) -/

def State.slowOf (s : State) (master : Nat) : Option SlowAcc := s.sys.slow.find? fun a => a.master == master

/-- The access of a master leaves the slow domain. -/
def State.dropSlow (s : State) (master : Nat) : State :=
  { s with sys := { s.sys with slow := s.sys.slow.filter fun a => a.master != master } }

/-- The far side has not answered for 100 µs (R69). -/
def State.slowError (s : State) (a : SlowAcc) : State :=
  let s1 := s.accErr (a.key / 65536) accTimeout (a.key % 65536) a.part a.write a.master
  if a.master = 0 then s1.mgmtError 69 a.key else s1

end Sys2Proof.Machine
end

