-- ==== Sys2Proof/Machine/MemWin.lean ====
section
/-! DEFINITION. Memory as block code reaches it (R18 to R20, R100 to R102, R119, R161, R179): regions, protection windows,
agreed regions, DRAM credits, and one item read or written. -/

namespace Sys2Proof.Machine

/-! ### Regions (R18) -/

/-- What an address of R18 decodes to: 0 boot ROM; 1 SRAM; 2 a register block; 3 DRAM; 4 MRAM. -/
def regionOf (a : Nat) : Option Nat :=
  if a < 0x40000 then some 0
  else if 0x10000000 ≤ a ∧ a < 0x12000000 then some 1
  else if 0x40000000 ≤ a ∧ a < 0x40160000 then some 2
  else if 0x100000000 ≤ a ∧ a < 0x300000000 then some 3
  else if 0x800000000 ≤ a ∧ a < 0x801000000 then some 4
  else none

/-! ### Protection windows (R100, R101) -/

/-- Window `w` of partition `p` holds address `a` and has the attribute whose bit in the base word is `attr`: 30 x, 29 w,
28 r. -/
def State.windowHas (s : State) (p w attr a : Nat) : Bool :=
  let b := s.reg (Reg.PRT_WIN_BASE p w)
  let base := bits b 27 0
  bit b 31 && bit b attr && decide (base ≤ a / 4096) &&
    decide (a / 4096 ≤ base + bits (s.reg (Reg.PRT_WIN_SIZE p w)) 27 0)

/-- Some window of the partition permits it. An aligned item lies in one page, so its first byte stands for all. -/
def State.allows (s : State) (p attr a : Nat) : Bool := (upFrom 0 16).any fun w => s.windowHas p w attr a

/-- An address in the instance data of the partition, which block code reaches through base 0 and 4 alone (R161): inside a
window with r and w in bank 15, or in DRAM above the large buffers. -/
def State.instanceArea (s : State) (p a : Nat) : Bool :=
  (decide (0x11E00000 ≤ a ∧ a < 0x12000000) || decide (dramLo ≤ a ∧ a < dramHi)) &&
    (upFrom 0 16).any fun w => s.windowHas p w 28 a && s.windowHas p w 29 a

/-- Whether an address lies in an agreed region (R179). -/
def State.agreed (s : State) (a : Nat) : Bool :=
  (upFrom 0 4).any fun k =>
    let b := s.reg (Reg.LKS_AGR_BASE k)
    bit b 31 && decide (bits b 27 0 ≤ a / 4096) &&
      decide (a / 4096 ≤ bits b 27 0 + bits (s.reg (Reg.LKS_AGR_SIZE k)) 27 0)

/-- The protection fault that an access of a block engine meets before it reaches its place: its kind. -/
def State.denied (s : State) (p a : Nat) (write : Bool) : Option Nat :=
  if !s.allows p (if write then 29 else 28) a then some (if write then pfWrite else pfRead)
  else if (regionOf a).isNone then some pfDecode
  else if regionOf a = some 2 ∧ (s.regInfo (a - 0x40000000)).isNone then some pfDecode
  else none

/-! ### Items -/

/-- An item of `n` bytes at a place of memory, the least significant byte lowest (R149). -/
def State.item (s : State) (a n : Nat) : Nat :=
  if a < 0x40000 then leNat ((upFrom a n).map Config.bootRom) else leNat (s.bytes a n)

/-- Whether the `n` bytes from address `a` have defined contents: those of a stack that the activation has stored, and all
outside the stacks (R155). -/
def State.defined (s : State) (a n : Nat) : Bool :=
  !s.isStack a || (upFrom a n).all fun x => SMap.get 0 x s.prt.stack == 1

/-- An item about to be read. Undefined bytes of a stack hold free ones, which stay until a store (R155). -/
def State.touch (s : State) (a n : Nat) : State :=
  if s.defined a n then s
  else
    let (f, s1) := s.fresh
    ((upFrom 0 n).foldl (fun s i =>
      if SMap.get 0 (a + i) s1.prt.stack = 1 then s else s.setByte (a + i) (BitVec.ofNat 8 (f.toNat / 2 ^ (8 * i)))) s1).markStack a n

/-- An item stored. Nothing is stored in the boot ROM. -/
def State.setItem (s : State) (a n v : Nat) : State :=
  if a < 0x40000 then s else (s.setBytes a (leBytes n v)).markStack a n

/-- The cost of one access in DRAM credits (R119), where a line moved counts as an event of class `cls`. What the caches hold is
not the model's: whether the access moves a line of 64 B is free. None: the partition's credits are spent and the access waits. -/
def State.dramLine (s : State) (l p a cls : Nat) : Option State :=
  if regionOf a != some 3 then some s
  else if s.fresh.1.getLsbD 0 = false then some s.fresh.2
  else if s.dramCredits p ≤ SMap.get 0 p s.prt.dram then none
  else some ((s.fresh.2.chargeDram p 1).pfcEvent cls l 1)

/-- The cost of a load or store, and of an instruction fetch. -/
def State.dramCost (s : State) (l p a : Nat) : Option State := s.dramLine l p a 4
def State.fetchCost (s : State) (l p pc : Nat) : Option State := s.dramLine l p pc 5

/-- A partition that waits for credits (R119, PRT_USE_DRAM). -/
def State.waitCredit (s : State) (p : Nat) : State :=
  if s.prt.waiting.contains p then s
  else ({ s with prt := { s.prt with waiting := s.prt.waiting ++ [p] } }).bump (Fld.PRT_USE_DRAM_stalls p)

end Sys2Proof.Machine
end

