-- ==== Sys2Proof/Machine/Suspend.lean ====
section
/-! DEFINITION. Suspension and resumption of an activation (R111), and how the leeward module's lanes follow the lane events
that the windward module forwards (R181, R202, R205). -/

namespace Sys2Proof.Machine

/-- An activation's engine state saved in its partition's pair-local slice: the manual does not give the layout of the
512 B, so what they hold is free (R111, R155). -/
def State.writeSave (s : State) (l p : Nat) : State :=
  let ws := (upFrom 0 64).flatMap fun i =>
    let v := (Config.freeWord (s.free + i)).toNat
    [hi32 v, lo32 v]
  { s.setWords (s.saveArea l p) ws with free := s.free + 64 }

/-- The suspended activation that holds lane `l` in the windows of partition `p`. -/
def State.suspendedOn (s : State) (l p : Nat) : Option Nat :=
  (upFrom 0 512).find? fun t => match (s.task t).susp with
    | some (a, _) => s.taskLane t == l && a.part == p
    | none => false

/-- PRT suspends the activation on lane `l` (R111), a lane event of R179. -/
def State.suspend (s : State) (l : Nat) : State := s.eventEntry l 1 fun s =>
  match (s.lane l).act with
  | none => s
  | some a =>
    let used := s.fld (Fld.PRT_RUNUSED_used l)
    let s1 := s.laneEvent a l 1
    let s2 := s1.setTask a.task { s1.task a.task with susp := some ({ a with used := used }, (s1.lane l).eng) }
    ((s2.writeSave l a.part).clearLane l).showTask a.task

/-- The activation suspended on lane `l` goes on (R111). -/
def State.resume (s : State) (l p : Nat) : State :=
  match s.suspendedOn l p with
  | none => s
  | some t =>
    match (s.task t).susp with
    | none => s
    | some (a, e) =>
      let s1 := s.setTask t { s.task t with susp := none }
      let s2 := s1.setLane l { s1.lane l with act := some a, eng := e }
      let s3 := (((s2.flag (Fld.PRT_RUN_busy l) true).put (Fld.PRT_RUN_task l) t).put
        (Fld.PRT_RUNUSED_used l) a.used).showTask t
      (s3.laneEvent a l 2).eventEntry l 2 id

/-- The first lane event forwarded for lane `l`. -/
def State.firstEvent (s : State) (l : Nat) : Option FwdItem :=
  s.red.queue.find? fun i => i.kind == fwEvent && (wAt i.ws 0).toNat == l

/-- The first lane event of lane `l` taken where the leeward activation has reached its instruction count. -/
def State.followEvent (s : State) (l : Nat) : Option State :=
  match s.firstEvent l with
  | none => none
  | some i =>
    let ev := (wAt i.ws 1).toNat
    let count := (wAt i.ws 2).toNat + (wAt i.ws 3).toNat * 2 ^ 32
    let t := (wAt i.ws 4).toNat
    match (s.lane l).act with
    | some a =>
      if a.task != t || decide (a.count < count) then none
      else if ev = 1 then some ((s.useItem i).suspend l)
      else if ev = 4 then some ((s.useItem i).endAct l)
      else if ev = 5 then some ((s.useItem i).budgetGone l)
      else some (s.useItem i)
    | none =>
      match (s.task t).susp with
      | some (a, _) =>
        if ev = 2 then some ((s.useItem i).resume l a.part)
        else if ev = 4 then some ((s.useItem i).endSusp t)
        else none
      | none => none

def State.followLoop : Nat → State → Nat → State
  | 0, s, _ => s
  | n + 1, s, l => match s.followEvent l with
    | some s1 => State.followLoop n s1 l
    | none => s

/-- Every lane event of lane `l` that has come due. -/
def State.followEvents (s : State) (l : Nat) : State := State.followLoop s.red.queue.length s l

end Sys2Proof.Machine
end

