-- ==== Sys2Proof/Machine/BlockCode.lean ====
section
/-! DEFINITION. Block code (R137 to R155, R176 to R181, R190): how a lane executes one instruction, what its compare points
are, how an asynchronous value enters it, and the shared forms of the instructions. -/

namespace Sys2Proof.Machine

/-! ### Registers of a lane (R139) -/

/-- A general register: g0 reads 0. -/
def Engine.get (e : Engine) (r : Nat) : Word64 := if r = 0 then 0 else SMap.get 0 r e.g

/-- A general register written: g0 discards. -/
def Engine.set (e : Engine) (r : Nat) (v : Word64) : Engine := if r = 0 then e else { e with g := SMap.set 0 r v e.g }

/-- The address of the word `n` words after the instruction at pc. -/
def Engine.ahead (e : Engine) (n : Int) : BitVec 40 := e.pc + BitVec.ofInt 40 (4 * n)

/-- The lane goes on with the instruction `n` words ahead. -/
def Engine.skip (e : Engine) (n : Nat) : Engine := { e with pc := e.ahead n }

/-! ### Instruction words (R142, R145, R146) -/

def encR (op d a b t f : Nat) : Word := wd (op * 2 ^ 26 + d * 2 ^ 21 + a * 2 ^ 16 + b * 2 ^ 11 + t * 2 ^ 8 + f)
def encI (op d a imm : Nat) : Word := wd (op * 2 ^ 26 + d * 2 ^ 21 + a * 2 ^ 16 + imm)
def encM (op d base a t off : Nat) : Word :=
  wd (op * 2 ^ 26 + d * 2 ^ 21 + base * 2 ^ 18 + a * 2 ^ 13 + t * 2 ^ 10 + off)
def encB (op a disp : Nat) : Word := wd (op * 2 ^ 26 + a * 2 ^ 21 + disp)
def encJ (op disp : Nat) : Word := wd (op * 2 ^ 26 + disp)

/-- The func codes of ALU whose b is 0, and whose b is a register (R146); those of FPU likewise (R148). -/
def aluUnary : List Nat := [0x0B, 0x1A, 0x1B, 0x1C, 0x1D]
def aluBinary : List Nat := upFrom 0 11 ++ [0x0C, 0x0D, 0x0E, 0x0F] ++ upFrom 0x10 6 ++ [0x18, 0x19, 0x1E]
def fpuUnary : List Nat := [0x04, 0x05, 0x06, 0x18, 0x19, 0x1A, 0x1B, 0x1C, 0x1D]
def fpuBinary : List Nat := upFrom 0 4 ++ [0x07, 0x08, 0x09, 0x10, 0x11, 0x12, 0x13]

/-- Words that trap ILLEGAL: an undefined opcode, func or field code, or a field of 0 that is not 0 (R141, R144 to R148). -/
def illegalWord (w : Word) : Bool :=
  let op := bits w 31 26
  let f := bits w 7 0
  let b := bits w 15 11
  let t := bits w 10 8
  if op = 0x01 then !(aluBinary.contains f || (aluUnary.contains f && b == 0))
  else if op = 0x02 then
    !((t == 2 || t == 3) && (fpuBinary.contains f || (fpuUnary.contains f && b == 0)))
  else if 0x03 ≤ op ∧ op ≤ 0x06 then false
  else if op = 0x07 then bits w 20 0 != 0
  else if 0x08 ≤ op ∧ op ≤ 0x0A then
    let base := bits w 20 18
    base == 7 || (base != 3 && base != 4 && bits w 17 13 != 0)
  else if op = 0x0B then bits w 25 21 != 0 || t != 0 || f != 0
  else if op = 0x0C then bits w 20 0 != 0
  else if op = 0x10 ∨ op = 0x14 then false
  else if 0x11 ≤ op ∧ op ≤ 0x13 ∨ op = 0x15 then false
  else if op = 0x16 ∨ op = 0x19 ∨ op = 0x3F then bits w 25 0 != 0
  else if op = 0x17 ∨ op = 0x18 then bits w 25 16 != 0
  else true

/-! ### Halts (R190, R191, LKS_DBGSTAT) -/

/-- The activation on lane `l` halts, a lane event of R179. Causes: 1 BRK; 2 a halt command; 3 the end of a step count. -/
def State.haltLane (s : State) (l cause : Nat) : State := s.eventEntry l 4 fun s =>
  match (s.lane l).act with
  | none => s
  | some a =>
    let s1 := s.setLane l { s.lane l with act := some { a with halted := true } }
    ({ s1 with lks := { s1.lks with haltReq := false, steps := 0, stepTask := none } }).showHalt l true cause

/-- An instruction retired on a lane whose halted activation steps (R191); those of another activation count nothing. -/
def State.stepped (s : State) (l : Nat) : State :=
  if s.lks.attached = some l ∧ 0 < s.lks.steps ∧ s.lks.stepTask = (s.lane l).act.map (·.task) then
    if s.lks.steps = 1 then s.haltLane l 3
    else { s with lks := { s.lks with steps := s.lks.steps - 1 } }
  else s

/-! ### One instruction -/

/-- The activation with which lane `l` can go on. -/
def State.ready (s : State) (l : Nat) : Option Act :=
  match (s.lane l).act with
  | some a => if a.halted || (s.lane l).stalled || a.gate || !s.runsCode then none else some a
  | none => none

/-- Lane `l` executes an instruction: nothing where it cannot go on; a halt that waits takes effect first; a fetch outside an
x window is denied (R100), and one that has to wait for a DRAM credit waits (R119). `out` makes an answer of a state. -/
def State.instrOr {α : Type} (s : State) (l : Nat) (out : State → α) (f : Act → State → α) : α :=
  match s.ready l with
  | none => out s
  | some a =>
    let pc := (s.lane l).eng.pc.toNat
    if s.lks.haltReq && s.lks.attached == some l then out (s.haltLane l 2)
    else if !s.allows a.part 30 pc then out (s.protLane l pfFetch pc)
    else
      match s.fetchCost l a.part pc with
      | none => out (s.waitCredit a.part)
      | some s1 => f a s1

def State.instr (s : State) (l : Nat) (f : Act → State → State) : State := s.instrOr l id f

/-- An access of lane `l` denied (R100): a decode error in a register block is latched there as well (R75). -/
def State.denyLane (s : State) (l part kind x : Nat) (write : Bool) : State :=
  let s1 := if kind = pfDecode ∧ regionOf x = some 2 then
      s.accErr ((x - 0x40000000) / 65536) accDecode ((x - 0x40000000) % 65536) part write (s.laneMaster l) else s
  s1.protLane l kind x

/-- A compare point: an injected mismatch fails the pair before the instruction has an effect (R177, R182). -/
def State.compare (s : State) (l : Nat) (kinds : List Nat) (k : State → State) : State :=
  if s.injects l kinds then s.pairFail (l / 2) 10 l else k s

/-- Compare kinds of an instruction with none of kinds 1 to 4: kind 5 at the 1 024th since the last (R177). -/
def quietKinds (a : Act) : List Nat := if 1023 ≤ a.since then [5] else []

/-- An instruction retired: the lane's registers, its instruction count, and what counts instructions. -/
def State.retire (s : State) (l : Nat) (kinds : List Nat) (e : Engine) : State :=
  match (s.lane l).act with
  | none => s
  | some a =>
    let a1 := { a with count := a.count + 1, since := if kinds.isEmpty then a.since + 1 else 0 }
    (((s.setLane l { s.lane l with eng := e, act := some a1 }).pfcEvent 3 l 1).stepped l).followEvents l

/-- A trap, which meets compare kind 6 (R177). -/
def State.trapOn (s : State) (l code user : Nat) (w : Word) : State :=
  s.compare l [6] fun s => s.trapLane l code user w

/-- An instruction that writes a general register from the lane's registers alone, or traps. -/
def State.compute (s : State) (l d : Nat) (w : Word) (f : Engine → Except Nat Word64) : State :=
  s.instr l fun a s =>
    let e := (s.lane l).eng
    match f e with
    | .error code => s.trapOn l code 0 w
    | .ok v => s.compare l (quietKinds a) fun s => s.retire l (quietKinds a) ((e.set d v).skip 1)

/-- An ALU operation of two registers under a type. -/
def State.alu (s : State) (l d a b t func : Nat) (f : Nat → Word64 → Word64 → Word64) : State :=
  s.compute l d (encR 1 d a b t func) fun e => .ok (f t (e.get a) (e.get b))

/-- An ALU operation of one register. -/
def State.alu1 (s : State) (l d a t func : Nat) (f : Nat → Word64 → Word64) : State :=
  s.compute l d (encR 1 d a 0 t func) fun e => .ok (f t (e.get a))

/-- DIV and MOD trap on a zero divisor (R147). -/
def State.divide (s : State) (l d a b t func : Nat) (f : Nat → Word64 → Word64 → Word64) : State :=
  s.compute l d (encR 1 d a b t func) fun e =>
    if tyNat t (e.get b) = 0 then .error tcDivZero else .ok (f t (e.get a) (e.get b))

/-- Whether a type code names a floating width (R148). -/
def floatType (t : Nat) : Bool := t == 2 || t == 3

/-- An FPU operation of two registers, of one, and of the destination and two. -/
def State.fpu (s : State) (l d a b t func : Nat) (f : Nat → Word64 → Word64 → Word64) : State :=
  s.compute l d (encR 2 d a b t func) fun e =>
    if floatType t then .ok (f t (e.get a) (e.get b)) else .error tcIllegal
def State.fpu1 (s : State) (l d a t func : Nat) (f : Nat → Word64 → Word64) : State :=
  s.compute l d (encR 2 d a 0 t func) fun e =>
    if floatType t then .ok (f t (e.get a)) else .error tcIllegal
def State.fpu3 (s : State) (l d a b t func : Nat) (f : Nat → Word64 → Word64 → Word64 → Word64) : State :=
  s.compute l d (encR 2 d a b t func) fun e =>
    if floatType t then .ok (f t (e.get d) (e.get a) (e.get b)) else .error tcIllegal

/-- An operation with an immediate. -/
def State.immediate (s : State) (l op d a imm : Nat) (f : Word64 → Word64) : State :=
  s.compute l d (encI op d a imm) fun e => .ok (f (e.get a))

/-! ### Asynchronous values (R59, R150, R179 to R181) -/

/-- The forwarded entry of lane `l` at an instruction count. -/
def State.forwardedEntry (s : State) (l count : Nat) : Option FwdItem :=
  s.red.queue.find? fun i => i.kind == fwEntry && (wAt i.ws 0).toNat == l &&
    (wAt i.ws 1).toNat + (wAt i.ws 2).toNat * 2 ^ 32 == count

/-- The lane waits: for the checker, or for an item not yet received (R180, R205). -/
def State.stall (s : State) (l : Nat) : State := s.setLane l { s.lane l with stalled := true }

/-- An agreement-buffer entry of the present instruction on lane `l` (R180), forwarded with its count for an in-step
task (R202). -/
def State.agree (s : State) (l kind : Nat) (v : Word64) : State :=
  match (s.lane l).act with
  | none => s
  | some a =>
    let s1 := s.enterAgr l kind v
    if s1.led a || s1.taskCold a.task then s1
    else s1.forwardOf a fwEntry [wd l, lo32 a.count, hi32 a.count, wd kind, hi32 v.toNat, lo32 v.toNat]

/-- An asynchronous value of kind `kind` for lane `l`: what the main's own access gives, or the forwarded value on the
leeward module; both engines take its entry (compare kind 8); then `k`. An access whose value that compare discards has acted
(R184). Nothing else happens where the lane has to wait. -/
def State.async (s : State) (l kind : Nat) (own : State → State × Word64) (k : Word64 → State → State) : State :=
  match (s.lane l).act with
  | none => s
  | some a =>
    let enter := fun (s : State) (v : Word64) => s.compare l [8] fun s => k v (s.agree l kind v)
    if !s.laneSplit l && decide (16 ≤ (s.lane l).agr.length) then s.stall l
    else if s.led a && !s.taskCold a.task then
      match s.forwardedEntry l a.count with
      | none => s.stall l
      | some i => enter (s.useItem i) (BitVec.ofNat 64 ((wAt i.ws 4).toNat * 2 ^ 32 + (wAt i.ws 5).toNat))
    else enter (own s).1 (own s).2

/-! ### Loads and stores (R144, R149, R151, R158, R161) -/

/-- The base value of format M. -/
def State.baseValue (s : State) (a : Act) (e : Engine) (base r : Nat) : Nat :=
  if base = 0 then e.ib.toNat
  else if base = 1 then e.cb.toNat
  else if base = 2 then e.sb.toNat
  else if base = 3 ∨ base = 4 then (e.get r).toNat
  else if base = 5 then s.snapArea a.task
  else s.imageArea a.task

/-- The location of an access: its base plus `off` items of its type. -/
def State.location (s : State) (a : Act) (e : Engine) (base r t off : Nat) : Nat :=
  (s.baseValue a e base r + off * tyBytes t) % 2 ^ 64

def instanceBase (base : Nat) : Bool := base == 0 || base == 4

/-- Whether the fields of format M name a space (R144). -/
def spaceNamed (base r : Nat) : Bool := base != 7 && (base == 3 || base == 4 || r == 0)

/-- The trap of an access of `n` bytes at location `x`, in the order of R151. -/
def State.accessTrap (s : State) (a : Act) (base r n x : Nat) (write : Bool) : Option Nat :=
  if !spaceNamed base r then some tcIllegal
  else if x % n != 0 then some tcAlign
  else if instanceBase base then
    (if s.instSize (s.taskInst a.task) ≤ x then some tcBounds else none)
  else if base = 3 ∧ s.instanceArea a.part x = true then some tcInstDirect
  else if write && s.allows a.part 30 x then some tcCodeWrite
  else none

/-- A value of `n` bytes extended by its type (R143). -/
def extend (t v : Nat) : Word64 := tyRes t (signed (tyBits t) (v % 2 ^ tyBits t))

/-- A register read by a lane, with what its block admits (R56, R98): the value, or the kind of a protection fault. An item
that is not of 32 bits has no value that the manual states. -/
def State.laneRegRead (s : State) (a : Act) (l k n : Nat) : State × (Except Nat Word64) :=
  match s.admits a.part k false with
  | .fault kind => (s, .error kind)
  | .empty => (s, .ok 0)
  | .full =>
    if n = 4 then
      let (s1, w) := s.readCore k a.part (s.laneMaster l)
      (s1, .ok (w.setWidth 64))
    else
      let (f, s1) := s.fresh
      (s1, .ok f)

/-- The register read of a load: its value enters through the agreement buffer (R59). -/
def State.loadReg (s : State) (a : Act) (l d t k : Nat) (kinds : List Nat) : State :=
  match (s.laneRegRead a l k (tyBytes t)).2, s.led a && !s.taskCold a.task with
  | .error kind, _ => (s.laneRegRead a l k (tyBytes t)).1.protLane l kind (0x40000000 + k)
  | .ok _, _ =>
    s.async l 3
      (fun s => match s.laneRegRead a l k (tyBytes t) with
        | (s1, .ok v) => (s1, v)
        | (s1, .error _) => (s1, 0))
      fun v s => s.retire l kinds (((s.lane l).eng.set d (extend t v.toNat)).skip 1)

/-- A load through a memory space, after its traps: protection, then a register, an agreed region, or memory. -/
def State.loadMem (s : State) (a : Act) (l d t x : Nat) : State :=
  match s.denied a.part x false with
  | some kind => s.compare l (if s.agreed x then [3, 5] else quietKinds a) fun s => s.denyLane l a.part kind x false
  | none =>
    if regionOf x = some 2 then
      let k := x - 0x40000000
      s.compare l [3, 5] fun s =>
        if (match s.regInfo k with | some r => r.slow | none => false) && !s.led a then
          { (s.stall l) with sys := { s.sys with
              slow := s.sys.slow ++ [⟨s.laneMaster l, a.part, k, false, 0, some l, some (d, t)⟩] } }
        else s.loadReg a l d t k [3, 5]
    else
      match (s.touch x (tyBytes t)).dramCost l a.part x with
      | none => s.waitCredit a.part
      | some s1 =>
        if s1.agreed x then
          s1.compare l [3, 5] fun s =>
            s.async l 3 (fun s => (s, BitVec.ofNat 64 (s.item x (tyBytes t))))
              fun v s => s.retire l [3, 5] (((s.lane l).eng.set d (extend t v.toNat)).skip 1)
        else
          s1.compare l (quietKinds a) fun s =>
            s.retire l (quietKinds a) (((s.lane l).eng.set d (extend t (s.item x (tyBytes t)))).skip 1)

/-- LD (R145, R149). -/
def State.loadInstr (s : State) (l d base r t off : Nat) : State :=
  s.instr l fun a s =>
    let e := (s.lane l).eng
    let x := s.location a e base r t off
    match s.accessTrap a base r (tyBytes t) x false with
    | some code => s.trapOn l code 0 (encM 8 d base r t off)
    | none =>
      if instanceBase base then
        let at_ := s.workAddr (s.taskInst a.task) x
        match s.denied a.part at_ false with
        | some kind => s.compare l (quietKinds a) fun s => s.denyLane l a.part kind at_ false
        | none =>
          match s.dramCost l a.part at_ with
          | none => s.waitCredit a.part
          | some s1 =>
            s1.compare l (quietKinds a) fun s =>
              s.retire l (quietKinds a) ((e.set d (extend t (s.item at_ (tyBytes t)))).skip 1)
      else s.loadMem a l d t x

/-- Compare kinds of a store (R177). -/
def State.storeKinds (s : State) (x : Nat) : List Nat := if s.agreed x then [1, 2, 3, 5] else [1, 2, 5]

/-- The index registers of a mailbox that its own partition writes: MBX_REQ_HEAD and MBX_RSP_TAIL. -/
def isRingIndex (k : Nat) : Bool :=
  decide (0x20000 ≤ k) && decide (k < 0x20000 + 0x20 * 72) && (k % 0x20 == 0 || k % 0x20 == 0xC)

/-- A register store of a lane (R56, R98). The leeward module issues none (R181), but for the indices of its own mailboxes, whose
rings both modules hold (R93, R94). An item that is not of 32 bits writes nothing. None: a reserved field given another
value. -/
def State.storeReg (s : State) (a : Act) (l k n : Nat) (v : Word64) : Option State :=
  match s.admits a.part k true with
  | .fault kind => some (s.protLane l kind (0x40000000 + k))
  | .empty => some (s.retire l [1, 2, 3, 5] ((s.lane l).eng.skip 1))
  | .full =>
    let s1 := if (s.led a && !isRingIndex k) || n != 4 then some s else s.writeCore k (v.setWidth 32) a.part (s.laneMaster l)
    s1.map fun s => s.retire l [1, 2, 3, 5] ((s.lane l).eng.skip 1)

/-- A store through a memory space, after its traps. -/
def State.storeMem (s : State) (a : Act) (l t x : Nat) (v : Word64) : Option State :=
  match s.denied a.part x true with
  | some kind => some (s.compare l (s.storeKinds x) fun s => s.denyLane l a.part kind x true)
  | none =>
    if regionOf x = some 2 then
      let k := x - 0x40000000
      if s.injects l [1, 2, 3, 5] then some (s.pairFail (l / 2) 10 l)
      else if (match s.regInfo k with | some r => r.slow | none => false) && !s.led a then
        some { (s.stall l) with sys := { s.sys with
          slow := s.sys.slow ++ [⟨s.laneMaster l, a.part, k, true, v.setWidth 32, some l, none⟩] } }
      else s.storeReg a l k (tyBytes t) v
    else
      match s.dramCost l a.part x with
      | none => some (s.waitCredit a.part)
      | some s1 =>
        some (s1.compare l (s1.storeKinds x) fun s =>
          (s.setItem x (tyBytes t) v.toNat).retire l (s.storeKinds x) ((s.lane l).eng.skip 1))

/-- A store to instance data (R158), whose place the windows hold as well (R100, R122). -/
def State.storeInst (s : State) (a : Act) (l t x : Nat) (v : Word64) : State :=
  let b := s.taskInst a.task
  let at_ := s.storeAddr b x
  match s.denied a.part at_ true with
  | some kind => s.compare l [1, 2, 5] fun s => s.denyLane l a.part kind at_ true
  | none =>
    match s.dramCost l a.part at_ with
    | none => s.waitCredit a.part
    | some s1 =>
      s1.compare l [1, 2, 5] fun s =>
        (s.instStore b x (leBytes (tyBytes t) v.toNat)).retire l [1, 2, 5] ((s.lane l).eng.skip 1)

/-- ST (R145, R149, R158). None: a reserved field of a register given another value. -/
def State.storeInstr (s : State) (l d base r t off : Nat) : Option State :=
  s.instrOr l some fun a s =>
    let e := (s.lane l).eng
    let x := s.location a e base r t off
    match s.accessTrap a base r (tyBytes t) x true with
    | some code => some (s.trapOn l code 0 (encM 9 d base r t off))
    | none => if instanceBase base then some (s.storeInst a l t x (e.get d)) else s.storeMem a l t x (e.get d)

/-! ### Branches, calls and returns (R145, R154) -/

/-- A branch: taken to `n` words after the next instruction, or not. -/
def State.branch (s : State) (l : Nat) (taken : Engine → Bool) (n : Engine → Int) : State :=
  s.instr l fun a s =>
    let e := (s.lane l).eng
    if taken e then s.compare l [4, 5] fun s => s.retire l [4, 5] { e with pc := e.ahead (1 + n e) }
    else s.compare l (quietKinds a) fun s => s.retire l (quietKinds a) (e.skip 1)

/-- The protection fault of the `n` 64-bit accesses to the stack from address `x` (R100): its kind and where it is met. -/
def State.stackDenied (s : State) (a : Act) (x n : Nat) (write : Bool) : Option (Nat × Nat) :=
  (upFrom 0 n).findSome? fun i => (s.denied a.part ((x + 8 * i) % 2 ^ 64) write).map fun kind => (kind, x + 8 * i)

/-- CALL and CALLFB: a link record at F = sb + fs, and control to `n` words after the next instruction. The manual names the trap
ALIGN for loads and stores; a link record whose words are not aligned meets it as well, here, in ENTER and in RET (log 138). -/
def State.call (s : State) (l : Nat) (w : Word) (n : Int) (ib : Engine → Word64) : State :=
  s.instr l fun a s =>
    let e := (s.lane l).eng
    let sb := e.sb.toNat
    if sb % 8 != 0 then s.trapOn l tcAlign 0 w
    else
      match s.stackDenied a (sb - 8) 1 false with
      | some (kind, x) => s.protLane l kind x
      | none =>
        let s := s.touch (sb - 8) 8
        let f := sb + s.item (sb - 8) 8
        if f % 8 != 0 then s.trapOn l tcAlign 0 w
        else if s.stackLimit l a.part < f + 64 then s.trapOn l tcStack 0 w
        else if s.allows a.part 30 f || s.allows a.part 30 (f + 24) then s.trapOn l tcCodeWrite 0 w
        else
          match s.stackDenied a f 4 true with
          | some (kind, x) => s.protLane l kind x
          | none =>
            s.compare l [1, 2, 4, 5] fun s =>
              let s1 := (((s.setItem f 8 (e.ahead 1).toNat).setItem (f + 8) 8 e.ib.toNat).setItem (f + 16) 8
                sb).setItem (f + 24) 8 0
              s1.retire l [1, 2, 4, 5]
                { e with ib := ib e, sb := BitVec.ofNat 40 (f + 32), pc := e.ahead (1 + n) }

/-- ENTER: the size of the present frame. -/
def State.enter (s : State) (l imm : Nat) : State :=
  s.instr l fun a s =>
    let e := (s.lane l).eng
    let sb := e.sb.toNat
    let w := encI 0x17 0 0 imm
    if sb % 8 != 0 then s.trapOn l tcAlign 0 w
    else if s.stackLimit l a.part < sb + imm * 8 + 64 then s.trapOn l tcStack 0 w
    else if s.allows a.part 30 (sb - 8) then s.trapOn l tcCodeWrite 0 w
    else
      match s.stackDenied a (sb - 8) 1 true with
      | some (kind, x) => s.protLane l kind x
      | none =>
        s.compare l [1, 2, 5] fun s =>
          (s.setItem (sb - 8) 8 (imm * 8)).retire l [1, 2, 5] (e.skip 1)

/-- A led activation that stands at its completion takes its marker (R204, R207, R226): only where the signature matches does it
commit and publish. One that differs is the loss of step of a leeward module; at a new windward module the activation ends
without completing. -/
def State.takeMarker (s : State) (l : Nat) : State :=
  match (s.lane l).act with
  | none => s
  | some a =>
    if !a.gate then s
    else
      match s.markerOf l a.task with
      | none => s
      | some i =>
        let s1 := s.useItem i
        let s2 := (s1.setReg (Reg.PRT_TACT a.task) (wAt i.ws 2 - 1)).finishAct l
        let sig := (s2.actSignature a.task).toNat
        if wAt i.ws 3 = lo32 sig ∧ wAt i.ws 4 = hi32 sig then s2
        else if s1.leeward then (s1.flag Fld.RED_ERR_signature true).loseStep 3
        else (s1.flag Fld.RED_ERR_signature true).endAct l

/-- The completion request of the activation on lane `l` (R28, R203, R204): at once with no partner in step, else behind
the publish gate; on the leeward module it waits for the marker. -/
def State.requestCompletion (s : State) (l : Nat) : State :=
  match (s.lane l).act with
  | none => s
  | some a =>
    if s.taskCold a.task then s.finishAct l
    else if s.led a then (s.setLane l { s.lane l with act := some { a with gate := true } }).takeMarker l
    else if s.awaits a then
      let s1 := s.laneEvent a l 3
      let s2 := s1.setLane l { s1.lane l with act := some { a with gate := true, gateSeq := s1.red.fwdTx } }
      if s2.gateOpen l then s2.finishAct l else s2
    else s.finishAct l

/-- RET (R154). -/
def State.ret (s : State) (l : Nat) : State :=
  s.instr l fun a s =>
    let e := (s.lane l).eng
    let sb := e.sb.toNat
    let w := encJ 0x16 0
    if sb % 8 != 0 then s.trapOn l tcAlign 0 w
    else if sb < s.stackStart l a.part + 32 ∨ s.stackLimit l a.part < sb then s.trapOn l tcStack 0 w
    else
      match s.stackDenied a (sb - 32) 4 false with
      | some (kind, x) => s.protLane l kind x
      | none =>
        let s := (((s.touch (sb - 32) 8).touch (sb - 24) 8).touch (sb - 16) 8).touch (sb - 8) 8
        let ra := s.item (sb - 32) 8
        let kinds := if ra = 0 then [4, 5, 7] else [4, 5]
        s.compare l kinds fun s =>
          let back : Engine := { e with
            pc := BitVec.ofNat 40 ra, ib := BitVec.ofNat 64 (s.item (sb - 24) 8)
            sb := BitVec.ofNat 40 (s.item (sb - 16) 8) }
          if ra = 0 then (s.retire l kinds e).requestCompletion l else s.retire l kinds back

/-- LIT: the literal word that follows the instruction, sign-extended (R145). -/
def State.literal (s : State) (l d : Nat) (w : Word) : State :=
  s.instr l fun a s =>
    s.compare l (quietKinds a) fun s =>
      s.retire l (quietKinds a) (((s.lane l).eng.set d (w.signExtend 64)).skip 2)

/-- SEL: its destination is an operand as well (R146). -/
def State.select (s : State) (l d a b t : Nat) : State :=
  s.compute l d (encR 1 d a b t 0x1E) fun e => .ok (Alu.sel t (e.get d) (e.get a) (e.get b))

/-- CHK (R145). -/
def State.check (s : State) (l a b : Nat) : State :=
  s.instr l fun x s =>
    let e := (s.lane l).eng
    if (e.get b).toNat ≤ (e.get a).toNat then s.trapOn l tcBounds 0 (encR 0x0B 0 a b 0 0)
    else s.compare l (quietKinds x) fun s => s.retire l (quietKinds x) (e.skip 1)

/-- NOP (R145). -/
def State.nopInstr (s : State) (l : Nat) : State :=
  s.instr l fun a s => s.compare l (quietKinds a) fun s => s.retire l (quietKinds a) ((s.lane l).eng.skip 1)

/-- TRAP (R151). -/
def State.userTrap (s : State) (l imm : Nat) : State :=
  s.instr l fun _ s => s.trapOn l tcUser imm (encI 0x18 0 0 imm)

/-- A word that traps ILLEGAL (R141); another word is no such command. -/
def State.illegal (s : State) (l : Nat) (w : Word) : State :=
  if illegalWord w then s.instr l fun _ s => s.trapOn l tcIllegal 0 w else s

/-- A fetch outside the partition's x windows (R100); nothing where the fetch is allowed. -/
def State.fetchFault (s : State) (l : Nat) : State :=
  s.instr l fun _ s => s

/-- The register an ST names, where it names one: the offset of its location in the register space. -/
def State.stKey (s : State) (l base r t off : Nat) : Nat :=
  match s.ready l with
  | none => 0
  | some a => s.location a (s.lane l).eng base r t off - 0x40000000

/-- A command that may give a reserved field another value (R10). -/
def State.doneOr (k : Nat) : Option State → Res
  | some s => s.done
  | none => .fault (.reservedField k)

/-! ### The rest -/

/-- BRK: a halt under an attached debugger in COMMISSION, the trap BREAK otherwise (R152). A resumed activation goes on
after it. -/
def State.brk (s : State) (l : Nat) : State :=
  s.instr l fun a s =>
    if s.mode == mCommission && s.lks.attached == some l then
      s.compare l (quietKinds a) fun s => ((s.retire l (quietKinds a) ((s.lane l).eng.skip 1))).haltLane l 1
    else s.trapOn l tcBreak 0 (encJ 0x19 0)

/-- TIME: station time as an agreed asynchronous value (R150). -/
def State.timeInstr (s : State) (l d : Nat) : State :=
  s.instr l fun _ s =>
    s.compare l [3, 5] fun s =>
      s.async l 3 (fun s => (s, BitVec.ofNat 64 s.time)) fun v s =>
        s.retire l [3, 5] (((s.lane l).eng.set d v).skip 1)

/-- LEA: the location of a memory operand (R145). -/
def State.lea (s : State) (l d base r t off : Nat) : State :=
  s.instr l fun a s =>
    let e := (s.lane l).eng
    if !spaceNamed base r then s.trapOn l tcIllegal 0 (encM 0xA d base r t off)
    else
      s.compare l (quietKinds a) fun s =>
        s.retire l (quietKinds a) ((e.set d (BitVec.ofNat 64 (s.location a e base r t off))).skip 1)

/-- A slow access of a lane completes (R68): a load's value enters through the agreement buffer. None: a reserved field. -/
def State.slowLane (s : State) (x : SlowAcc) (l : Nat) : Option State :=
  match (s.lane l).act with
  | none => some s
  | some a =>
    let s1 := s.setLane l { s.lane l with stalled := false }
    let r := match x.dest with
      | some (d, t) => some (s1.loadReg a l d t x.key [3, 5])
      | none => s1.storeReg a l x.key 4 (x.val.setWidth 64)
    r.map fun s => if a.exhausted then s.budgetGone l else s

/-- A lane whose slow access timed out (R69): a protection fault of its partition. -/
def State.slowLaneTimeout (s : State) (x : SlowAcc) (l : Nat) : State :=
  (s.setLane l { s.lane l with stalled := false }).protLane l pfDecode (0x40000000 + x.key)

end Sys2Proof.Machine
end

