-- ==== Sys2Proof/Machine/LaneRows.lean ====
section
/-! DEFINITION. Windows, suspension, budgets and credits of the lanes (R25, R109 to R116, R119, R159, R180). -/

namespace Sys2Proof.Machine

/-- Whether an activation that this module still leads after a commanded veer holds lane `l` (R226). -/
def State.leadsOn (s : State) (l : Nat) : Bool :=
  (match (s.lane l).act with | some a => a.role == 1 | none => false) ||
  (upFrom 0 512).any fun t => match (s.task t).susp with
    | some (a, _) => a.role == 1 && s.taskLane t == l
    | none => false

/-- The slow access that stalls lane `l` (R68). -/
def State.slowOfLane (s : State) (l : Nat) : Option SlowAcc := s.sys.slow.find? fun a => a.lane == some l

/-- Budget exhausted on lane `l`; during a stall on a slow domain the activation stops when the access completes
(R70, R116). -/
def State.exhaust (s : State) (l : Nat) : State :=
  match (s.lane l).act, s.slowOfLane l with
  | some a, some _ => s.setLane l { s.lane l with act := some { a with exhausted := true } }
  | _, _ => s.budgetGone l

/-- The clock moves on to the exhaustion of the budget on lane `l` (R114, R116). The leeward module counts none (R205). -/
def State.budgetEnd (s : State) (l : Nat) : State :=
  match (s.lane l).act with
  | none => s
  | some a =>
    if s.led a || a.halted then s
    else (s.advance (a.budget - s.fld (Fld.PRT_RUNUSED_used l))).exhaust l

/-- The instant at which the window open on lane `l` ends. -/
def State.windowStop (s : State) (l : Nat) : Option Nat :=
  let x := s.lane l
  match (s.laneEntries s.planBase l).find? fun (a, _, p, _) =>
      x.window == some p && s.sys.tc0 + 12500 * a + 1500 == x.openAt with
  | some (a, n, _, _) => some (s.sys.tc0 + 12500 * (a + n))
  | none => none

/-- What stands on lane `l` at the end of its window: an activation whose budget is exhausted in that clock overruns,
any other is suspended (R111, R115). -/
def State.leaveWindow (s : State) (l : Nat) : State :=
  let s1 := match (s.lane l).act with
    | none => s
    | some a =>
      if s.led a then s
      else if !a.halted && decide (a.budget ≤ s.fld (Fld.PRT_RUNUSED_used l)) then s.budgetGone l else s.suspend l
  (s1.setLane l { s1.lane l with window := none }).put (Fld.PRT_RUN_part l) 0

/-- A window ends on lane `l`: the clock moves on to that instant. -/
def State.windowEnd (s : State) (l : Nat) : State :=
  if (s.leeward && !s.leadsOn l) || (s.lane l).window.isNone then s
  else
    let s1 := match s.windowStop l with
      | some t => s.advance (t - s.clk)
      | none => s
    s1.leaveWindow l

/-- A stall on a slow domain does not outlast a window (R70): the access of lane `l` completes first. None: it gives a
reserved field another value. -/
def State.finishSlow (s : State) (l : Nat) : Option State :=
  match s.slowOfLane l with
  | none => some s
  | some a => (s.dropSlow a.master).slowLane a l

/-- Entry `e` of lane `l`'s slot table begins (R110): caches and registers cleared, the partition's windows loaded. -/
def State.windowStart (s : State) (l e : Nat) : State :=
  match (s.laneEntries s.planBase l)[e]? with
  | none => s
  | some (a, _, p, v) =>
    if !v || !s.laneUsable l || (s.leeward && !s.leadsOn l) then s
    else
      let at_ := s.sys.tc0 + 12500 * a
      let s0 := if (s.lane l).window.isSome then s.windowEnd l else s
      let s1 := s0.advance (at_ - s0.clk)
      (s1.setLane l { s1.lane l with eng := {}, window := some p, openAt := at_ + 1500 }).put (Fld.PRT_RUN_part l) p

/-- The first snapshot forwarded for lane `l` (R202). -/
def State.forwardedOn (s : State) (l : Nat) : Option FwdItem :=
  s.red.queue.find? fun i => i.kind == fwSnapshot && wAt i.ws 1 == wd l

/-- The next activation on lane `l` of the leeward module: the first whose snapshot was forwarded (R202, R205). -/
def State.leewardStart (s : State) (l : Nat) : State :=
  match s.forwardedOn l with
  | none => s
  | some i =>
    let t := (wAt i.ws 0).toNat
    let p := s.taskPart t
    if !s.taskPlaced t || s.taskLane t != l || (s.task t).susp.isSome || (s.task t).copying then s
    else
      let tr := ((s.task t).pending).getD { src := (wAt i.ws 5).toNat % 256, angle := wAt i.ws 6, order := s.clk }
      let s1 := if s.leeward then
          (s.setLane l { s.lane l with window := some p, openAt := s.clk }).put (Fld.PRT_RUN_part l) p
        else s
      (s1.startAct l t tr).followEvents l

/-- A pending activation starts on lane `l` in the open window, after the slot overhead (R25, R110). -/
def State.windwardStart (s : State) (l p : Nat) : State :=
  if (s.suspendedOn l p).isSome then s
  else
    let s1 := s.advance ((s.lane l).openAt - s.clk)
    match s1.nextTask l p with
    | none => s1
    | some (t, tr) => s1.startAct l t tr

/-- The next activation starts on lane `l`. -/
def State.startNext (s : State) (l : Nat) : State :=
  if !s.runsCode || !s.laneUsable l || (s.lane l).act.isSome then s
  else
    let s0 := s.refreshDomains
    if s0.leeward || (s0.red.crossing && (s0.forwardedOn l).isSome) then s0.leewardStart l
    else if s0.gaveUp then s
    else match (s0.lane l).window with
      | none => s
      | some p => s0.windwardStart l p

/-- A suspended activation resumes in a window of its partition, after the slot overhead (R111). A halted one stays
halted (R191). -/
def State.resumeNext (s : State) (l : Nat) : State :=
  if !s.runsCode || (s.lane l).act.isSome then s
  else match (s.lane l).window with
    | none => s
    | some p =>
      match s.suspendedOn l p with
      | none => s
      | some t =>
        match (s.task t).susp with
        | some (a, _) => if a.halted || s.led a then s else (s.advance ((s.lane l).openAt - s.clk)).resume l p
        | none => s

/-- The committed map of task `t` has been copied over the other one (R159). -/
def State.mapCopied (s : State) (t : Nat) : State :=
  if (s.task t).copying then
    let s1 := s.copyMap (s.taskInst t)
    s1.setTask t { s1.task t with copying := false }
  else s

/-- A credit window begins (R119): every partition's use is shown, and those that waited go on. Transfers that found the credits
spent are a wait, which the window that ends counts once; they take credits of the next. -/
def State.creditWindow (s : State) : State :=
  let used := fun p => SMap.get 0 p s.prt.dram
  let s1 := (upFrom 0 64).foldl (fun s1 p =>
    let late := decide (s.dramCredits p < used p) && !s.prt.waiting.contains p
    (if late then s1.bump (Fld.PRT_USE_DRAM_stalls p) else s1).put (Fld.PRT_USE_DRAM_last p) (min (s.dramCredits p) (used p))) s
  let owed := (upFrom 0 64).foldl (fun m p => SMap.set 0 p (used p - s.dramCredits p) m) []
  { s1 with prt := { s1.prt with dram := owed, waiting := [] } }

/-- The checker frees an entry of lane `l`'s agreement buffer, and a main that waited for it goes on (R180). -/
def State.freeAgreement (s : State) (l : Nat) : State :=
  let x := s.lane l
  if x.agr.isEmpty then s
  else s.setLane l { x with agr := x.agr.drop 1, stalled := x.stalled && (s.slowOfLane l).isSome }

/-- A lockstep mismatch, or an uncorrectable error in the lane's own memory (R177, R182). -/
def State.mismatch (s : State) (l kind : Nat) : State :=
  if s.laneSplit l && kind != 9 then s else s.pairFail (l / 2) kind l

end Sys2Proof.Machine
end

