-- ==== Sys2Proof/Machine/Debug.lean ====
section
/-! DEFINITION. The debugger (R189 to R192): attach, halt, resume, step, and the registers and memory of a halted
activation; and a register access of the management pair, debug registers included. -/

namespace Sys2Proof.Machine

/-- Pliuz holds a station-wide session on mailbox 64. -/
def State.pliuzHolds (s : State) : Bool :=
  s.fw.sessions.any fun e => match e.2 with
    | some x => x.scope == 0xFF && x.mbx == 64
    | none => false

/-- Whether a debugger may attach (R189): COMMISSION, no partner in STANDBY, and a session of Pliuz. -/
def State.mayDebug (s : State) : Bool := s.mode == mCommission && !s.partnerStandby && s.pliuzHolds

/-- A debugger attaches to lane `l`: one lane at a time. `held`: the session of Pliuz is the one whose commit brings the write. -/
def State.attach (s : State) (l : Nat) (held : Bool) : State :=
  if s.mode == mCommission && !s.partnerStandby && (held || s.pliuzHolds) && s.lks.attached.isNone && decide (l < 8) then
    ({ s with lks := { s.lks with attached := some l, haltReq := false, steps := 0 } }).flag Fld.LKS_DBGSTAT_attached true
  else s

/-- A task with a suspended halted activation on lane `l`. -/
def State.haltedSusp (s : State) (l : Nat) : Option Nat :=
  (upFrom 0 512).find? fun t => match (s.task t).susp with
    | some (a, _) => a.halted && s.taskLane t == l
    | none => false

/-- The halted activation of the attached lane with its registers: on the lane, or in its save area (R191). -/
def State.haltedAct (s : State) : Option (Act × Engine) :=
  match s.lks.attached with
  | none => none
  | some l =>
    match (s.lane l).act.filter (·.halted), s.haltedSusp l with
    | some a, _ => some (a, (s.lane l).eng)
    | none, some t => (s.task t).susp
    | none, none => none

/-- Registers of the halted activation written; the checker's are replayed before the lane goes on (R190). -/
def State.setHalted (s : State) (e : Engine) : State :=
  match s.lks.attached with
  | none => s
  | some l =>
    match (s.lane l).act.filter (·.halted), s.haltedSusp l with
    | some _, _ => s.setLane l { s.lane l with eng := e }
    | none, some t => s.setTask t { s.task t with susp := (s.task t).susp.map fun x => (x.1, e) }
    | none, none => s

/-- A halt of the attached lane at the next instruction boundary: at once where its activation stands at one. -/
def State.debugHalt (s : State) : State :=
  match s.lks.attached with
  | none => s
  | some l =>
    if (s.ready l).isSome then s.haltLane l 2 else { s with lks := { s.lks with haltReq := true } }

/-- The halted activation of the attached lane goes on, for `n` instructions where `n` is not 0 (R191): within its window,
or at its resumption in the next one. -/
def State.debugGo (s : State) (n : Nat) : State :=
  match s.lks.attached with
  | none => s
  | some l =>
    let go := fun (s : State) (t : Nat) =>
      ({ s with lks := { s.lks with haltReq := false, steps := n, stepTask := some t } }).showHalt l false 0
    match (s.lane l).act.filter (·.halted), s.haltedSusp l with
    | some a, _ => go (s.setLane l { s.lane l with act := some { a with halted := false } }) a.task
    | none, some t =>
      go (s.setTask t { s.task t with susp := (s.task t).susp.map fun x => ({ x.1 with halted := false }, x.2) }) t
    | none, none => s

/-- A step of no instruction is none. -/
def State.debugStep (s : State) (n : Nat) : State := if n = 0 then s else s.debugGo n

/-- LKS_DBGCTL written. While a debugger holds a lane, an attach to another and the command that comes with it do nothing
(log 138). -/
def State.debugControl (s : State) (v : Word) (held : Bool) : State :=
  let l := bits v 3 0
  if !bit v 8 then s.detach
  else
    let s1 := s.attach l held
    if s1.lks.attached != some l then s1
    else match bits v 10 9 with
      | 1 => s1.debugHalt
      | 2 => s1.debugGo 0
      | 3 => s1.debugStep (bits v 31 16)
      | _ => s1

/-- Register `r` of a lane as LKS_DBGSEL numbers them. -/
def Engine.debugReg (e : Engine) (r : Nat) : Option Nat :=
  if r < 32 then some (e.get r).toNat
  else if r = 32 then some e.ib.toNat
  else if r = 33 then some e.cb.toNat
  else if r = 34 then some e.sb.toNat
  else if r = 35 then some e.pc.toNat
  else none

def Engine.setDebugReg (e : Engine) (r v : Nat) : Engine :=
  if r < 32 then e.set r (BitVec.ofNat 64 v)
  else if r = 32 then { e with ib := BitVec.ofNat 64 v }
  else if r = 34 then { e with sb := BitVec.ofNat 40 v }
  else if r = 35 then { e with pc := BitVec.ofNat 40 v }
  else e

/-- LKS_DBGDATA read: free where no activation is halted or LKS_DBGSEL names no register. -/
def State.debugDataRead (s : State) : State × Word :=
  match s.haltedAct with
  | some (_, e) =>
    match e.debugReg (s.fld Fld.LKS_DBGSEL_reg) with
    | some v => (s, if s.isSet Fld.LKS_DBGSEL_half then hi32 v else lo32 v)
    | none => let (f, s1) := s.fresh; (s1, f.setWidth 32)
  | none => let (f, s1) := s.fresh; (s1, f.setWidth 32)

/-- A debug access refused (R62, LKS_DBGMEM): the access-error bit of LKS. -/
def State.debugRefuse (s : State) (k : Nat) (write : Bool) : State := s.accErr 13 accRange (k % 65536) 0 write 0

/-- LKS_DBGDATA written: cb refuses, and pc outside the code bank. -/
def State.debugDataWrite (s : State) (w : Word) : State :=
  match s.haltedAct with
  | none => s
  | some (a, e) =>
    let r := s.fld Fld.LKS_DBGSEL_reg
    match e.debugReg r with
    | none => s
    | some old =>
      let v := if s.isSet Fld.LKS_DBGSEL_half then w.toNat * 2 ^ 32 + old % 2 ^ 32 else old / 2 ^ 32 * 2 ^ 32 + w.toNat
      if r = 33 ∨ r = 35 ∧ s.allows a.part 30 v = false then s.debugRefuse Reg.LKS_DBGDATA true
      else s.setHalted (e.setDebugReg r v)

/-- The debug memory address. -/
def State.debugAddr (s : State) : Nat :=
  s.fld Fld.LKS_DBGADDR_HI_addr * 2 ^ 32 + s.fld Fld.LKS_DBGADDR_LO_addr * 4

/-- LKS_DBGMEM read through the main's port (R190). With no halted activation there is no partition whose windows could admit the
access: it is denied (log 138). -/
def State.debugMemRead (s : State) : State × Word :=
  match s.haltedAct with
  | none => (s.debugRefuse Reg.LKS_DBGMEM false, 0)
  | some (a, _) =>
    let x := s.debugAddr
    if (s.denied a.part x false).isSome then (s.debugRefuse Reg.LKS_DBGMEM false, 0)
    else if regionOf x = some 2 then
      match s.admits a.part (x - 0x40000000) false with
      | .full => s.readCore (x - 0x40000000) a.part 0
      | .empty => (s, 0)
      | .fault _ => (s.debugRefuse Reg.LKS_DBGMEM false, 0)
    else
      let s1 := s.touch x 4
      (s1, wd (s1.item x 4))

/-- LKS_DBGMEM written. None: a reserved field of a register given another value. -/
def State.debugMemWrite (s : State) (w : Word) : Option State :=
  match s.haltedAct with
  | none => some (s.debugRefuse Reg.LKS_DBGMEM true)
  | some (a, _) =>
    let x := s.debugAddr
    if (s.denied a.part x true).isSome then some (s.debugRefuse Reg.LKS_DBGMEM true)
    else if regionOf x = some 2 then
      match s.admits a.part (x - 0x40000000) true with
      | .full => s.writeCore (x - 0x40000000) w a.part 0
      | .empty => some s
      | .fault _ => some (s.debugRefuse Reg.LKS_DBGMEM true)
    else some (s.setItem x 4 w.toNat)

/-! ### Accesses of the management pair -/

/-- A register read by the management pair. -/
def State.readReg (s : State) (k : Nat) : State × Word :=
  if k = Reg.LKS_DBGDATA then s.debugDataRead
  else if k = Reg.LKS_DBGMEM then s.debugMemRead
  else s.readCore k 0 0

/-- A register written by the management pair. None: a reserved field given another value. -/
def State.writeReg (s : State) (k : Nat) (v : Word) : Option State :=
  if k = Reg.LKS_DBGDATA then some (s.debugDataWrite v)
  else if k = Reg.LKS_DBGMEM then s.debugMemWrite v
  else if k = Reg.LKS_DBGCTL then (s.writeCore k v 0 0).map fun s => s.debugControl v false
  else s.writeCore k v 0 0

/-! ### Slow domains (R68, R69) -/

def State.slowKey (s : State) (k : Nat) : Bool := match s.regInfo k with | some r => r.slow | none => false

/-- A pending access of the management pair completes: its read value is returned to the management pair. That of a lane whose
activation has ended acts in its block alone (R184). -/
def State.slowMgmt (s : State) (a : SlowAcc) : Option State :=
  if a.master ≠ 0 then if a.write then s.writeCore a.key a.val a.part a.master else some (s.readCore a.key a.part a.master).1
  else if a.write then s.writeReg a.key a.val
  else
    let (s1, w) := s.readReg a.key
    some { s1 with sys := { s1.sys with rdata := w } }

/-- The slow access of a master completes and the master goes on (R68). -/
def State.slowDone (s : State) (m : Nat) : Option State :=
  match s.slowOf m with
  | none => some s
  | some a =>
    match a.lane with
    | some l => (s.dropSlow m).slowLane a l
    | none => (s.dropSlow m).slowMgmt a

/-- The register that a pending access names. -/
def State.slowKeyOf (s : State) (m : Nat) : Nat := match s.slowOf m with | some a => a.key | none => 0

/-- The slow access of a master ends without an answer of the far side (R69). -/
def State.slowTimeout (s : State) (m : Nat) : State :=
  match s.slowOf m with
  | none => s
  | some a =>
    let s1 := (s.dropSlow m).slowError a
    match a.lane with
    | some l => s1.slowLaneTimeout a l
    | none => if a.write ∨ a.master ≠ 0 then s1 else { s1 with sys := { s1.sys with rdata := 0 } }

/-- An access of the management pair to register `k`: at once, or begun where the register lies in a slow domain. The
management pair's last access has completed before it begins another (R68). -/
def State.mgmtAccess (s : State) (k : Nat) (write : Bool) (v : Word) : Option State :=
  (s.slowDone 0).bind fun s1 =>
    if s1.slowKey k then some { s1 with sys := { s1.sys with slow := s1.sys.slow ++ [⟨0, 0, k, write, v, none, none⟩] } }
    else s1.slowMgmt ⟨0, 0, k, write, v, none, none⟩

end Sys2Proof.Machine
end

