-- ==== Sys2Proof/Machine/RecLayout.lean ====
section
/-! DEFINITION. Layouts of configuration records (R91, R95): for each type and index the bits of each word that the
record's table describes, and the partition that owns a record (R90). -/

namespace Sys2Proof.Machine

/-- A word all of whose bits are described. -/
def allBits : Nat := 0xFFFFFFFF

/-- Layouts of types 0x02 and 0x04 (R125, R241, R248, R259). -/
def layoutPrtQe (type i : Nat) : Option (List Nat) :=
  if type = 0x02 then
    if i < 512 then some [0x3FFFF, allBits]
    else if 0x1000 ≤ i ∧ i < 0x1040 then
      some [0x3FFFF, 0xFFF, 0x7FFF3FFF, 0x1FFFFFFF, allBits, 0xFFF, 0x7FFF3FFF, 0x1FFFFFFF, allBits, allBits]
    else none
  else if i < 8192 then some [0x33F, 0x7FFF, 0x3FFFFF]
  else if i < 0x2020 ∧ 0x2000 ≤ i then some [0x9FFF]
  else if 0x2101 ≤ i ∧ i ≤ 0x210E then some [0x13F]
  else none

/-- Layouts of types 0x05 to 0x07 (R266, R268, R284, R310, R329, R342). -/
def layoutMotion (type i : Nat) : Option (List Nat) :=
  if type = 0x05 then
    if i < 1024 then
      some ([0xFFFF7F, 0x0FFF3FFF, 0x03FFFFFF] ++ List.replicate 17 allBits ++ [0xFFFFF, allBits] ++ List.replicate 10 0)
    else if 0x4000 ≤ i ∧ i < 0x8000 then some (List.replicate 8 allBits)
    else if 0xC000 ≤ i ∧ i < 0xC004 then
      some [0x1FFFF, allBits, allBits, allBits, allBits, allBits, 0xFFF, 0x3FFF, 0xFFFF]
    else none
  else if type = 0x06 then
    if i < 64 then some (0x3FFFFFFF :: List.replicate 16 allBits)
    else if 0x100 ≤ i ∧ i < 0x140 then some (0x3FFF :: List.replicate 12 allBits)
    else none
  else if i < 8 then some [0xFFFFFF, 0xFFFF, 0x3FFFFF, allBits, allBits, 0xFFFF]
  else if 0x1000 ≤ i ∧ i < 0x2000 then some [allBits, 0x0FFFFFFF, allBits, allBits, 0xFFFFF]
  else if 0x2000 ≤ i ∧ i < 0x2040 then some [0x13F]
  else none

/-- Layouts of types 0x08 and 0x09 (R370, R392). -/
def layoutPower (type i : Nat) : Option (List Nat) :=
  if type = 0x08 then
    if i < 3 then some [7, 0x3FFFF, 0xFFFF]
    else if i < 5 then some [0x3F, 0xFFFFF]
    else if 0x10 ≤ i ∧ i < 0x18 then some [7, allBits, 0x1FFFF, 0x7FF]
    else if 0x20 ≤ i ∧ i < 0x22 then some [0x1FFFFF, 0xFFFF, 0xFFFF, 0x3FF]
    else if i = 0x40 then some [7, 0xFFFF, 0xFFFF00FF, 0xFFFF00FF]
    else if 0x50 ≤ i ∧ i < 0x60 then some [7, allBits, allBits, allBits, 0x7FFFFFF]
    else if 0x80 ≤ i ∧ i < 0xC0 then some [0x3FFFFF, 0xFFFFF, 0xFFFF]
    else if 0x100 ≤ i ∧ i < 0x140 then some [0xFF, 0xFFFF, 0xFFFF]
    else none
  else if i = 0 then some [0x7FFFFFF, 0xFFF3F, 0x1FFFF, 0x3F, 0x1F, 0x101FF]
  else if 0x10 ≤ i ∧ i < 0x16 then some [allBits]
  else if 0x100 ≤ i ∧ i < 0x120 then some [0xFFFFF, 0x7FFFFFFF, 0x7FFFFFFF]
  else none

/-- Layouts of type 0x0A (R415, R433). -/
def layoutField (i : Nat) : Option (List Nat) :=
  let u := i / 256
  let c := i % 256
  if c = 0xFF then
    (if u < 2 then some [0x13F] else if u < 4 then some [0xF, 0x7FF] else if u = 4 then some [0xF, 0]
     else if u = 5 ∨ u = 6 then some [0, 0x7FF] else none)
  else if u < 2 ∧ c < 16 then some [0x7FF]
  else if (u = 2 ∨ u = 3) ∧ c < 8 then some [7]
  else if u = 4 ∧ c < 8 then some [0x7FFFF]
  else if u = 5 ∧ c < 8 then some [0x1F]
  else if u = 6 ∧ c < 4 then some [0xFFFFF, allBits, allBits, 0x1FF03FF]
  else if u = 6 ∧ c < 6 then some [0x3FFF]
  else if u = 6 ∧ c < 8 then some [3]
  else none

/-- Layouts of types 0x0B to 0x0F (R195, R208, R231, R451, R482, R499; R189 for the debug registers). -/
def layoutRemote (type i : Nat) : Option (List Nat) :=
  if type = 0x0B then
    if i < 2 then some [0x7FFF]
    else if 0x110 ≤ i ∧ i < 0x200 then some [0x7FFFFF, 0xFFFF, 0x7FF, allBits]
    else none
  else if type = 0x0C then (if i = 0xFFFF then some [allBits] else none)
  else if type = 0x0D then
    (if i < 256 then some ([0xFFFFF, allBits, 0xFFFF] ++ List.replicate 24 allBits ++ [0xFFFFFF]) else none)
  else if type = 0x0E then (if 0x400 ≤ i ∧ i < 0x41C ∧ i % 4 = 0 then some [allBits] else none)
  else if i = 0 then some [1, 0x7FFF3FFF]
  else if 0x100 ≤ i ∧ i < 0x300 then some [0x1FFFF]
  else none

/-- Layouts of types 0x10 to 0x16 (R512, R516, R524, R525, R540, R556, R558, R583). -/
def layoutPorts (type i : Nat) : Option (List Nat) :=
  if type = 0x10 then
    if i < 6 then some [0x7FFF, allBits, 0x3F, allBits]
    else if i = 0x10 then some [allBits, allBits, allBits]
    else if 0x100 ≤ i ∧ i < 0x140 then some [0x7FFFF, 0x1FFF1FFF, 0xFFFF, allBits, allBits, 0xFFFF]
    else if 0x1000 ≤ i ∧ i < 0x2000 then some [0xFFFFF, allBits, 0x1FFF]
    else none
  else if type = 0x11 then
    if i < 4 then
      some ([0x3FFF, 0x3F7FFFFF, 0x3FFFFFF, 0x1FFF1FFF, 0x3FFF1FFF, 0xF3FFF, 0x7FFFFFFF, 0x3FFF] ++
        List.replicate 8 0x1FFFFF ++ [0x3FFF])
    else if 0x100 ≤ i ∧ i < 0x200 then some [0x7FFFFFFF, 0x1FFFFFFF, 0x1FFF]
    else none
  else if type = 0x12 then (if i < 4 then some [0x7FFFFFF, 0x1FFF1FFF, 0x1FFFFF3F] else none)
  else if type = 0x13 then (if i = 0 then some [0x3FFF, 0xFFFF, 0x7F3F] else none)
  else if type = 0x14 then (if i = 0 then some [0xFFFFFF] else none)
  else if type = 0x16 then (if i < 256 then some [0xFFFFFF7F, 0x13F] else none)
  else none

/-- The described bits of each word of a record; none where no record has that type and index. -/
def recLayout (type i : Nat) : Option (List Nat) :=
  if type = 0x02 ∨ type = 0x04 then layoutPrtQe type i
  else if 5 ≤ type ∧ type ≤ 7 then layoutMotion type i
  else if type = 8 ∨ type = 9 then layoutPower type i
  else if type = 0x0A then layoutField i
  else if 0x0B ≤ type ∧ type ≤ 0x0F then layoutRemote type i
  else if 0x10 ≤ type ∧ type ≤ 0x16 then layoutPorts type i
  else none

/-- The first word of a record with a bit that its layout does not describe. -/
def undescribed : List Nat → List Word → Nat → Option Nat
  | _, [], _ => none
  | ms, w :: ws, n =>
    if w.toNat &&& (allBits - ms.headD 0) ≠ 0 then some n else undescribed ms.tail ws (n + 1)

/-- A record at its layout's length: words not sent are 0. -/
def fullRecord (ms : List Nat) (ws : List Word) : List Word := (upFrom 0 ms.length).map (wAt ws)

/-- Partition that a record belongs to (R90): by its partition field, its owner task or its owning queue; none where it
belongs to no partition. -/
def State.recPart (s : State) (type i : Nat) (r : List Word) : Option Nat :=
  let ofTask := fun (t : Nat) => wBits (SMap.get {} t s.prt.tasks).decl 2 5 0
  let ofQueue := fun (q : Nat) => wBits (s.rec_ 0x04 q) 0 5 0
  if type = 0x02 then (if i < 512 then some (i / 8) else some (i - 0x1000))
  else if type = 0x04 then
    (if i < 8192 then some (wBits r 0 5 0)
     else if i < 0x2100 then some (ofQueue (wBits r 0 12 0)) else some (wBits r 0 5 0))
  else if type = 0x05 then
    (if i < 1024 then some (wBits r 1 27 22)
     else if 0x4000 ≤ i ∧ i < 0x8000 then
       ((upFrom 0 1024).find? fun n =>
         let x := s.rec_ 0x05 n
         wBit x 0 0 && decide (wBits x 1 13 0 ≤ i - 0x4000) &&
           decide (i - 0x4000 < wBits x 1 13 0 + wBits x 0 11 8 + 1)).map fun n => wBits (s.rec_ 0x05 n) 1 27 22
     else some (wBits (s.rec_ 0x05 (wBits r 0 9 0)) 1 27 22))
  else if type = 0x06 then some (wBits (if i < 64 then r else s.rec_ 0x06 (i - 0x100)) 0 8 3)
  else if type = 0x07 then
    (if i < 8 then none else if i < 0x2000 then some (wBits r 1 17 12)
     else if wBit r 0 8 then some (wBits r 0 5 0) else none)
  else if type = 0x08 then
    (if 0x20 ≤ i ∧ i < 0x22 then some (wBits r 0 20 15)
     else if 0x80 ≤ i ∧ i < 0xC0 then some (wBits r 0 19 14) else none)
  else if type = 0x09 then (if 0x100 ≤ i then some (wBits r 0 9 4) else none)
  else if type = 0x0D then some (wBits r 0 19 14)
  else if type = 0x0F then (if 0x100 ≤ i then some (ofTask (i - 0x100)) else none)
  else if type = 0x10 then
    (if 0x100 ≤ i ∧ i < 0x140 then some (wBits r 0 9 4)
     else if 0x1000 ≤ i ∧ wBits r 2 12 0 ≠ 0x1FFF then some (ofQueue (wBits r 2 12 0)) else none)
  else if type = 0x11 then
    (if i < 4 then some (wBits r 0 13 8) else some (wBits (s.rec_ 0x11 ((i - 0x100) / 64)) 0 13 8))
  else if type = 0x12 then some (wBits r 2 5 0)
  else none

end Sys2Proof.Machine
end

