-- ==== Sys2Proof/Machine/RecCheck.lean ====
section
/-! DEFINITION. What station firmware checks of each record of a staged set at its commit (R91): the conditions of each
block's chapter, with the status and the reason of the refusal. Every check reads the configuration as it would stand
with the whole set in force. -/

namespace Sys2Proof.Machine

/-- A condition that refuses a commit: whether it holds, the status, the reason. -/
abbrev Cause := Bool × Nat × Nat

def bad (b : Bool) (reason : Nat) : Cause := (b, stBadArg, reason)
def deny (b : Bool) (reason : Nat) : Cause := (b, stDenied, reason)

/-- The first condition that holds. -/
def firstCause : List Cause → Option (Nat × Nat)
  | [] => none
  | (b, st, reason) :: rest => if b then some (st, reason) else firstCause rest

/-- Whether a number lies outside a range. -/
def outside (lo hi v : Nat) : Bool := decide (v < lo) || decide (hi < v)
/-- The same of a field whose value 0 selects a default. -/
def outside0 (lo hi v : Nat) : Bool := v != 0 && outside lo hi v

/-! ### Points and owners (R5, R30, R219) -/

def ptNode (a : Nat) : Nat := a / 2 ^ 18
def ptUnit (a : Nat) : Nat := a / 2 ^ 14 % 16
def ptChan (a : Nat) : Nat := a / 256 % 64
def ptPoint (a : Nat) : Nat := a % 256
/-- An integral point of the station: its agreed value (R4). -/
def State.integralPt (s : State) (a : Nat) : Bool := ptNode a == s.stationNode
/-- An integral point at the odd-slot module's node number: that module's own sample, which is read only (R4). -/
def State.samplePt (s : State) (a : Nat) : Bool := s.sys.pins.pair && ptNode a == s.oddNode && !s.integralPt a
/-- A point of an integral unit, agreed or sampled. -/
def State.modulePt (s : State) (a : Nat) : Bool := s.integralPt a || s.samplePt a
/-- An integral point of units 7 and 8. -/
def State.unit78 (s : State) (a : Nat) : Bool := s.modulePt a && (ptUnit a == 7 || ptUnit a == 8)
/-- An integral point of a fibre pair (R219). -/
def State.fibrePt (s : State) (a : Nat) : Bool := s.fibre && s.modulePt a && decide (ptUnit a ≤ 8)
/-- An integral DO of unit 2 or 3. -/
def State.isDo (s : State) (a : Nat) : Bool :=
  s.integralPt a && (ptUnit a == 2 || ptUnit a == 3) && decide (ptChan a < 8) && a % 256 == 0

/-- Output points that a task's output list names. -/
def taskPoints (t : Task) : List Nat :=
  match t.app with
  | none => []
  | some a => a.outputs.filterMap fun o => match o with
    | .point p _ => if p < 2 ^ 32 then some p else none
    | .queue _ _ _ => none

/-- Owners of output point `a` (R30): each task, loop slot, generator, STO instance and edge action that has it. -/
def State.ownerCount (s : State) (a : Nat) : Nat :=
  (s.prt.tasks.map fun e => ((taskPoints e.2).filter (· == a)).length).foldl (· + ·) 0 +
  ((upFrom 0 1024).filter fun i =>
    let r := s.loopRec i
    loopEn r && wBits r 12 31 30 == 1 && (wAt r 13).toNat == a).length +
  ((upFrom 0 64).filter fun g =>
    let r := s.genRec g
    genEn r && wBit r 0 18 && (wAt r 1).toNat == a).length +
  ((s.cfg.filter fun e => decide (recKey 7 0x1000 ≤ e.1) && decide (e.1 < recKey 7 0x2000) &&
    actEn e.2 && actKind e.2 == 4 && (wAt e.2 2).toNat == a).length) +
  (s.instRecs.filter fun e => irEn e.2 && s.isSto a && (irTargets e.2).any (·.2 == a)).length

/-- Whether an item would have two writers (R30): the tasks whose output lists name it, and the owner that its record names. -/
def State.twoWriters (s : State) (a : Nat) : Bool :=
  let ts := (s.prt.tasks.filter fun e => match e.2.app with | some x => (listItems x.outputs).contains a | none => false).map (·.1)
  decide (1 < ts.length) || (match s.itemOwner a with | some o => ts.any (· != o) | none => false)

/-- Whether an item of a record's slot that a task's output list names would have a second writer. -/
def State.itemsShared (s : State) (block i : Nat) : Bool :=
  s.prt.tasks.any fun e => match e.2.app with
    | some x => (listItems x.outputs).any fun a => itemBlock a == block && itemIndex a == i && s.twoWriters a
    | none => false

/-- Breakers that name `a` as their close point. -/
def State.closeOwners (s : State) (a : Nat) : Nat :=
  ((upFrom 0 8).filter fun b => wBit (s.breakerRec b) 0 0 && (wAt (s.breakerRec b) 1).toNat == a).length

/-- Whether point `a` would have two owners. -/
def State.twoOwners (s : State) (a : Nat) : Bool := decide (2 ≤ s.ownerCount a + s.closeOwners a)

/-! ### The lull bound (R223, R224) -/

/-- Slack of a task in the placement report in force, µs. -/
def State.slackOf (s : State) (t : Nat) : Nat :=
  match s.prt.reports.find? fun e => wAt e.2 1 != 0 with
  | none => 0
  | some (_, ws) =>
    let es := ws.drop 8
    ((upFrom 0 (es.length / 2)).findSome? fun i =>
      if wBits es (2 * i) 8 0 = t then some (wBits es (2 * i + 1) 15 0) else none).getD 0

/-- The lull bound of an output of task `t`, µs. -/
def State.taskLull (s : State) (t : Nat) : Nat :=
  let p := wBits (s.task t).decl 0 15 0 * 250
  if s.taskBudget t ≤ s.slackOf t then 400 + p else 400 + 2 * p

/-- The greatest lull bound among the outputs that satisfy `f`, µs: 0 where none has an owner. -/
def State.lullOf (s : State) (f : Nat → Bool) : Nat :=
  let byTask := s.prt.tasks.map fun e => if (taskPoints e.2).any f then s.taskLull e.1 else 0
  let others :=
    (upFrom 0 1024).any (fun i => loopEn (s.loopRec i) && wBits (s.loopRec i) 12 31 30 == 1 && f (wAt (s.loopRec i) 13).toNat) ||
    (upFrom 0 64).any (fun g => genEn (s.genRec g) && wBit (s.genRec g) 0 18 && f (wAt (s.genRec g) 1).toNat) ||
    s.cfg.any (fun e => decide (recKey 7 0x1000 ≤ e.1) && decide (e.1 < recKey 7 0x2000) && actEn e.2 &&
      actKind e.2 == 4 && f (wAt e.2 2).toNat) ||
    s.instRecs.any fun e => irEn e.2 && (irTargets e.2).any fun t => f t.2
  byTask.foldl max (if others then 650 else 0)

/-- A silence timeout of `ms` that does not exceed the lull bound of the outputs that satisfy `f` (R224). -/
def State.silenceShort (s : State) (ms : Nat) (f : Nat → Bool) : Bool :=
  s.sys.pins.pair && decide (ms * 1000 ≤ s.lullOf f)

/-! ### Partitions and queues (R125, R101, R241, R259) -/

def State.chkPart (s : State) (i : Nat) (r : List Word) : Option (Nat × Nat) :=
  let tc := (s.fld Fld.SYS_TCYC_len + 1)
  if i < 512 then
    let len := wBits r 0 15 0
    let rep := wBits r 1 15 0
    if wBit r 0 17 then
      firstCause [bad (len == 0 || rep == 0 || tc % rep != 0 || decide (rep * 5 < wBits r 1 31 16 + len)) 0x0004]
    else none
  else
    firstCause [bad (decide (160000 < wBits r 0 17 0) || decide (2500 < wBits r 1 11 0) ||
      decide (8192 < wBits r 2 13 0) || decide (16384 < wBits r 2 30 16) || decide (32768 < wBits r 3 15 0) ||
      decide (4096 < wBits r 3 28 16) || (wAt r 8).toNat % 4096 != 0 || (wAt r 9).toNat % 4096 != 0 || !s.roomFits) 0x0004]

/-- The totals and the reserve of partition 0 (R119, R120, R125). -/
def State.chkTotals (s : State) : Option (Nat × Nat) := firstCause [bad (!s.totalsFit) 0x0106]

/-- Input slots of tasks that name queue `q` (R241). -/
def State.inputSlots (s : State) (q : Nat) : Nat :=
  (s.declared.map fun t => match (s.task t).app with
    | some a => (a.inputs.filter fun sl => match sl with | .queue n _ _ => n == q | .point _ _ => false).length
    | none => 0).foldl (· + ·) 0

def State.chkQueue (s : State) (scope : Option Nat) (i : Nat) (r : List Word) : Option (Nat × Nat) :=
  let other := fun (p : Nat) => match scope with | some q => q != p | none => false
  if i < 8192 then
    let owned := ((upFrom 0 8192).filter fun q => s.qEn q && s.qOwner q == wBits r 0 5 0).length
    firstCause [
      deny (match scope with | some q => decide (i < 512) && q != 0 | none => false) 0x0004,
      deny (scope.isSome && wBits r 2 7 0 == 1 && wBits r 2 21 16 != wBits r 0 5 0) 0x0004,
      deny (other (wBits r 0 5 0)) 0x010A,
      bad (decide (i < 512) && wBits r 0 5 0 != 0) 0x0004,
      bad (wBit r 0 8 && outside 1 16384 (wBits r 1 14 0)) 0x0004,
      bad (wBit r 0 8 && wBits r 2 15 8 == 1 && s.inputSlots i != 1) 0x0004,
      bad (wBits r 2 7 0 != 1 && wBits r 2 21 16 != 0) 0x0004,
      bad (wBit r 0 8 && decide (wBits (s.rec_ 0x02 (0x1000 + wBits r 0 5 0)) 6 13 0 < owned)) 0x0150]
  else if i < 0x2100 then firstCause [deny (wBit r 0 15 && other (s.qOwner (wBits r 0 12 0))) 0x0004]
  else firstCause [deny scope.isSome 0x0004, bad (wBit r 0 8 && wBits r 0 5 0 == 0) 0x0004]

/-! ### Control engine (R280, R281) -/

/-- Slots whose record is enabled. -/
def State.loopsOn (s : State) : List Nat := (upFrom 0 1024).filter fun i => loopEn (s.loopRec i)

/-- Occupancy of slot `i`, ns (R279). -/
def State.loopOcc (s : State) (i : Nat) : Nat := 70 + 10 * loopCount (s.loopRec i)

/-- The bound D_i of R280, ns. -/
def State.loopBound (s : State) (i : Nat) : Nat :=
  let k := loopClass (s.loopRec i)
  let on := s.loopsOn
  let w := ((on.filter fun j => j != i && decide (loopClass (s.loopRec j) ≤ k)).map s.loopOcc).foldl (· + ·) 0
  let b := ((on.filter fun j => decide (k < loopClass (s.loopRec j))).map s.loopOcc).foldl max 0
  16 + b + (w + 3) / 4 + 60 + 10 * loopCount (s.loopRec i)

/-- Whether the chain from slot `i` comes back to it. -/
def State.chainLoops (s : State) (i : Nat) : Nat → Nat → Bool
  | 0, _ => false
  | n + 1, j =>
    let r := s.loopRec j
    if loopEn r && wBit r 2 10 then
      (if wBits r 2 9 0 = i then true else s.chainLoops i n (wBits r 2 9 0))
    else false

/-- Whether a shift lies outside −14 to +31. -/
def shiftBad (w : Word) (hi lo : Nat) : Bool := decide (signed 6 (bits w hi lo) < -14)

/-- Whether two enabled slots share a section. -/
def State.rangesMeet (s : State) (i : Nat) : Bool :=
  let r := s.loopRec i
  s.loopsOn.any fun j => j != i && (let q := s.loopRec j
    decide (loopFirst r < loopFirst q + loopCount q) && decide (loopFirst q < loopFirst r + loopCount r))

/-- Points of a channel, and which of them are 64-bit points (R399, R417): none where the channel carries no points. -/
def channelPoints (u c : Nat) : Option (Nat × List Nat) :=
  if u < 2 ∧ c < 16 then some (5, [3])
  else if u < 4 ∧ c < 8 ∧ 2 ≤ u then some (5, [])
  else if u = 4 ∧ c < 8 then some (5, [2])
  else if u = 5 ∧ c < 8 then some (4, [])
  else if u = 6 ∧ c < 4 then some (5, [])
  else if u = 6 ∧ c < 6 then some (5, [0, 3])
  else if u = 6 ∧ c < 8 then some (4, [2])
  else none

/-- Whether a point is a 64-bit point. -/
def State.widePoint (s : State) (a : Nat) : Bool :=
  if s.modulePt a then
    match channelPoints (ptUnit a) (ptChan a) with
    | some (_, ws) => ws.contains (ptPoint a)
    | none => false
  else s.declared.any fun t => match (s.task t).app with
    | some x => (x.inputs ++ x.outputs).any fun sl => match sl with | .point b w => b == a && w | _ => false
    | none => false

/-- A source of slot `r`: its kind and its word. -/
def srcKind (r : List Word) (n : Nat) : Nat := wBits r 12 (25 + 2 * n) (24 + 2 * n)

/-- Whether kind and word of source `n` are not permitted (R269), or its width differs from the slot's. -/
def srcBad (r : List Word) (n : Nat) : Bool :=
  let k := srcKind r n
  let w := wAt r (3 + n)
  let item := bits w 15 12
  (k == 0 && (n == 0 || w != 0)) ||
  (k == 3 && (n == 0 || w != 0)) ||
  (k == 2 && (decide (3 < item) || bits w 11 10 != 0 || bits w 31 16 != 0 || (item != 0 && decide (63 < bits w 9 0)))) ||
  (k == 2 && (item == 1) != (loopWide r && decide (n < 2)))

/-- Whether a point source of an integral point has another width than its place in the slot (R270). -/
def State.srcWidthBad (s : State) (r : List Word) (n : Nat) : Bool :=
  let a := (wAt r (3 + n)).toNat
  srcKind r n == 1 && s.modulePt a && s.widePoint a != (loopWide r && decide (n < 2))

def State.chkLoop (s s0 : State) (scope : Option Nat) (i : Nat) (r : List Word) : Option (Nat × Nat) :=
  let en := loopEn r
  let target := (wAt r 13).toNat
  let pt := fun n => srcKind r n == 1 && s.fibrePt (wAt r (3 + n)).toNat
  firstCause [
    deny (match scope with
      | some p => wBits r 1 27 22 != p || (loopEn (s0.loopRec i) && wBits (s0.loopRec i) 1 27 22 != p) ||
          s0.loopsOn.any (fun j => wBits (s0.loopRec j) 1 27 22 != p && decide (s0.loopBound j < s.loopBound j))
      | none => false) 0x0168,
    bad (en && (s.rangesMeet i || decide (16384 < loopFirst r + loopCount r))) 0x0161,
    bad (shiftBad (wAt r 12) 5 0 || shiftBad (wAt r 12) 11 6 || shiftBad (wAt r 12) 17 12 || shiftBad (wAt r 12) 23 18 ||
      decide (32 < wBits r 0 21 16)) 0x0162,
    bad (decide (wInt r 17 < wInt r 16) || decide (wInt r 19 < wInt r 16) || decide (wInt r 17 < wInt r 19)) 0x0163,
    bad (decide (loopCount r ≤ wBits r 0 15 12)) 0x0164,
    bad (en && (srcBad r 0 || srcBad r 1 || srcBad r 2 || s.srcWidthBad r 0 || s.srcWidthBad r 1 || s.srcWidthBad r 2 || decide (2 ≤ wBits r 12 31 30) || (loopWide r && wAt r 9 != 0))) 0x0165,
    bad (en && s.chainLoops i 1024 i) 0x0166,
    bad (en && ((wBits r 12 31 30 == 1 && (s.unit78 target || s.fibrePt target)) || pt 0 || pt 1 || pt 2)) 0x0167,
    bad (outside 1 1000000 (wBits r 20 19 0) || loopPolicy r == 3) 0x0004,
    bad (en && wBits r 12 31 30 == 1 && s.twoOwners target) 0x0004,
    bad (s.loopsOn.any fun j => decide (wBits (s.loopRec j) 20 19 0 * 1000 < s.loopBound j)) 0x0160]

def State.chkSection (s : State) (scope : Option Nat) (i : Nat) (r : List Word) : Option (Nat × Nat) :=
  firstCause [
    deny (match scope with
      | some p => s.recPart 0x05 i r != some p
      | none => false) 0x0168,
    bad ((upFrom 0 5).any fun n => shiftBad (wAt r 5) (6 * n + 5) (6 * n)) 0x0162,
    bad (decide (wInt r 7 < wInt r 6)) 0x0163]

/-- A job's record is judged when the job starts (R284, R285); here its buffer. -/
def chkJob (i : Nat) (r : List Word) : Option (Nat × Nat) :=
  firstCause [bad (wBits r 0 15 14 != i - 0xC000) 0x0173]

/-! ### Profile generators (R310, R311) -/

/-- Whether a change of generator `g` needs it in OFF or STANDSTILL. -/
def State.genFixed (s s0 : State) (g : Nat) : Bool :=
  let a := s0.genRec g
  let b := s.genRec g
  let h := s0.homeRec g
  let k := s.homeRec g
  let what := fun (r : List Word) => setBits (setBits (wAt r 0) 19 19 0) 0 0 0
  genEn a && (what a != what b || wAt a 1 != wAt b 1 || wAt a 14 != wAt b 14 ||
    wAt a 15 != wAt b 15 || wAt h 1 != wAt k 1 || wAt h 2 != wAt k 2)

def State.chkGen (s s0 : State) (scope : Option Nat) (g : Nat) : Option (Nat × Nat) :=
  let r := s.genRec g
  let h := s.homeRec g
  let st := (s0.gen g).state
  let vmax := wPair r 2
  let mode := wBits h 0 2 0
  let enc := (wAt h 2).toNat
  let pts := (if wBit r 0 18 then [(wAt r 1).toNat] else []) ++
    (if wBit r 0 20 then [(wAt r 14).toNat, (wAt r 15).toNat] else []) ++
    (if wAt r 16 != 0 then [(wAt r 16).toNat] else []) ++
    (if mode != 0 then [(wAt h 1).toNat, enc].filter (· != 0) else [])
  firstCause [
    deny (match scope with | some p => wBits r 0 8 3 != p || (genEn (s0.genRec g) && wBits (s0.genRec g) 0 8 3 != p) | none => false) 0x0184,
    bad (s.genFixed s0 g && st != gsOff && st != gsStandstill) 0x0180,
    bad (wBits r 0 2 1 == 3 || decide (4 < mode)) 0x0004,
    bad (genEn r && (vmax == 0 || wPair r 4 == 0 || wPair r 6 == 0 || wPair r 8 == 0 ||
      decide (vmax < wPair h 3) || decide (vmax < wPair h 5) ||
      (wBit r 0 19 && decide (signed 64 (wPair r 12) ≤ signed 64 (wPair r 10))))) 0x0181,
    bad (genEn r && (mode == 1 || mode == 2) &&
      !(s.integralPt enc && ptUnit enc == 6 && (ptChan enc == 4 || ptChan enc == 5))) 0x0182,
    bad (genEn r && pts.any fun a => s.unit78 a || s.fibrePt a) 0x0183,
    bad (genEn r && wBit r 0 18 && s.twoOwners (wAt r 1).toNat) 0x0004]

/-! ### Angle domains and actions (R329, R342) -/

/-- Whether a domain's source channel is enabled. -/
def State.domSourceOn (s : State) (r : List Word) : Bool :=
  let ch := wBits r 0 4 4
  if domKind r = 1 then wBit (s.rec_ 0x0A (0x0604 + ch)) 0 0
  else if domKind r = 2 then wBit (s.rec_ 0x0A (0x0606 + ch)) 0 0
  else if domKind r = 3 then wBit (s.phRec (wBits r 0 7 6)) 0 0
  else if domKind r = 4 then wBit (s.chanRec ch) 0 0
  else true

def State.chkDomain (s : State) (scope : Option Nat) (r : List Word) : Option (Nat × Nat) :=
  let k := domKind r
  let ring := k == 1 || k == 2
  firstCause [
    deny scope.isSome 0x0195,
    bad (domEn r && (k == 0 || decide (5 < k))) 0x0190,
    bad (outside0 5 50 (wBits r 0 15 8) || (k != 3 && wBits r 0 7 6 != 0) || (k == 3 && wBits r 0 7 6 == 3) ||
      (ring && domEn r && wBits r 1 15 0 == 0) || (!ring && (wBits r 1 15 0 != 0 || wBit r 0 5)) ||
      (k == 5 && domEn r && outside 10 4000000 (wBits r 2 21 0)) || (k != 5 && wBits r 2 21 0 != 0) ||
      wBits r 5 7 0 == 1) 0x0190,
    bad (domEn r && decide (1 ≤ k) && decide (k ≤ 4) && (s.fibre || !s.domSourceOn r)) 0x0191]

/-- Partition that owns event line `l`, if one does. -/
def State.lineOwner (s : State) (l : Nat) : Option Nat :=
  let r := s.rec_ 0x07 (0x2000 + l)
  if wBit r 0 8 then some (wBits r 0 5 0) else none

/-- Whether a task of another partition than `p` is triggered by activation line `l`. -/
def State.lineForeign (s : State) (l p : Nat) : Bool :=
  s.declared.any fun t =>
    let d := (s.task t).decl
    wBit d 1 20 && wBits d 1 26 21 == l && declPart d != p

def State.chkAction (s : State) (scope : Option Nat) (a : Nat) (r : List Word) : Option (Nat × Nat) :=
  let k := actKind r
  let w := wAt r 2
  let owner := wBits r 1 26 18
  let foreign := fun p =>
    wBits r 1 17 12 != p || k == 3 || k == 6 ||
    (k == 0 && s.lineOwner (bits w 5 0) != some p) || (k == 1 && s.lineForeign (bits w 5 0) p) ||
    (k == 2 && loopEn (s.loopRec (bits w 9 0)) && wBits (s.loopRec (bits w 9 0)) 1 27 22 != p)
  firstCause [
    deny (match scope with | some p => foreign p | none => false) 0x0195,
    bad (k == 5 || decide (4094 ≤ a)) 0x0193,
    bad (k == 7 || actPolicy r == 3 || actDir r == 3) 0x0196,
    bad (actEn r && k == 4 && (!s.isDo w.toNat || wAt r 3 == wAt r 0)) 0x0192,
    bad (k != 4 && wAt r 3 != 0) 0x0192,
    bad (actEn r && ((!actRepeats r && !wBit r 1 27) ||
      (wBit r 1 27 && declPart (s.task owner).decl != wBits r 1 17 12))) 0x0194,
    bad (actEn r && k == 4 && s.fibrePt w.toNat) 0x0141,
    bad (actEn r && k == 4 && s.twoOwners w.toNat) 0x0004,
    bad ((k == 0 || k == 1) && decide (63 < w.toNat) || (k == 2 && decide (1023 < w.toNat)) ||
      (k == 3 && decide (1 < w.toNat)) || (k == 6 && decide (5 < w.toNat))) 0x0196]

/-! ### Power plant and time (R370, R392) -/

/-- Whether channel `c` stands in IDLE. -/
def State.chanIdle (s : State) (c : Nat) : Bool := s.syncState c == 0

/-- Channel of breaker record `r`. -/
def brkChan (r : List Word) : Nat := wBits r 0 1 1

def State.chkPower (s s0 : State) (scope : Option Nat) (i : Nat) (r : List Word) : Option (Nat × Nat) :=
  let range :=
    if i < 3 then wBit r 0 0 && outside 1000 1300 (wBits r 2 15 0)
    else if i < 5 then wBits r 0 2 1 == 3
    else if i < 0x18 then wBit r 0 0 && (outside 10000 104000 (wBits r 2 16 0) || outside 50 2000 (wBits r 3 10 0))
    else if i < 0x22 then
      wBits r 0 3 2 == 3 || wBits r 0 5 4 == 3 || (wBit r 0 0 && (outside0 20 500 (wBits r 1 15 0) ||
        outside0 10 100 (wBits r 2 7 0) || outside0 1 50 (wBits r 2 15 8) || outside0 1 600 (wBits r 3 9 0)))
    else if i = 0x40 then
      wBits r 0 2 1 == 3 || (outside 0 60000 (wBits r 1 15 0) && wBits r 1 15 0 != 0xFFFF) ||
        outside0 5 50 (wBits r 2 7 0) || outside0 20 5000 (wBits r 2 31 16) || outside0 50 100 (wBits r 3 7 0)
    else if i < 0x60 then wBits r 0 2 1 == 3 || (wBit r 0 0 && outside 50 100 (wBits r 4 26 20))
    else false
  let isBrk := decide (0x10 ≤ i) && decide (i < 0x18)
  let isChan := decide (0x20 ≤ i) && decide (i < 0x22)
  let isGen := decide (0x50 ≤ i) && decide (i < 0x60)
  let isStep := decide (0x100 ≤ i)
  let close := (wAt r 1).toNat
  let gpts := (if wBits r 0 2 1 == 2 then [(wAt r 1).toNat, (wAt r 2).toNat] else []) ++ [(wAt r 3).toNat]
  let named := (upFrom 0 8).any fun d => domEn (s.domRec d) && domKind (s.domRec d) == 4 && wBits (s.domRec d) 0 4 4 == i - 0x20
  firstCause [
    deny scope.isSome 0x0004,
    bad range 0x01A0,
    bad (isBrk && wBit r 0 0 && (!s.isDo close || s.twoOwners close)) 0x01A1,
    bad (isChan && wBit r 0 0 && (!named || wBits r 0 3 2 == wBits r 0 5 4)) 0x01A2,
    bad ((isChan && s0.rec_ 0x08 i != r && !s0.chanIdle (i - 0x20)) ||
      (isBrk && s0.rec_ 0x08 i != r && wBit (s0.rec_ 0x08 i) 0 0 && !s0.chanIdle (brkChan (s0.rec_ 0x08 i))) ||
      (isBrk && s0.rec_ 0x08 i != r && !s0.chanIdle (brkChan r))) 0x01A3,
    bad ((isGen && wBit r 0 0 && ((s.fibre && decide (wBits r 0 2 1 < 2)) || gpts.any s.fibrePt)) ||
      (isBrk && wBit r 0 0 && s.fibrePt close)) 0x01A4,
    bad (isStep && wBit r 0 0 && (!wBit (s.reqRec (wBits r 0 6 1)) 0 0 ||
      (upFrom 0 64).any fun k => k != i - 0x100 && wBit (s.stepRec k) 0 0 && wBits (s.stepRec k) 0 6 1 == wBits r 0 6 1)) 0x01A5,
    bad (isGen && wBit r 0 0 && decide (wBits r 0 2 1 < 2) && !wBit (s.phRec (3 + wBits r 0 2 1)) 0 0) 0x01A6]

def State.chkTime (s : State) (scope : Option Nat) (i : Nat) (r : List Word) : Option (Nat × Nat) :=
  if i < 0x100 then
    firstCause [
      deny scope.isSome 0x01B5,
      bad (i == 0 && (outside0 1 100000 (wBits r 2 16 0) || outside0 1 60 (wBits r 3 5 0) ||
        outside0 4 8 (wBits r 1 11 8) || outside0 6 10 (wBits r 1 15 12) || outside0 4 10 (wBits r 1 19 16) ||
        (wBit r 5 16 && outside0 1 500 (wBits r 5 8 0)))) 0x01B2,
      bad (i == 0 && !s.sys.pins.pair && !wBit r 0 0 && !wBit r 4 0) 0x01B4]
  else
    firstCause [
      deny (match scope with | some p => wBits r 0 9 4 != p | none => false) 0x01B5,
      bad (cmpEn r && (cmpPolicy r == 3 || (cmpPeriodic r && (outside 1000 2000000000 (wBits r 1 30 0) || decide (wBits r 1 30 0 ≤ wBits r 2 30 0))))) 0x01B2,
      bad (cmpEn r && !cmpPeriodic r && cmpPolicy r == 1) 0x01B3]

/-! ### Field and remote I/O (R415, R433, R451) -/

/-- Points of a unit's outputs. -/
def State.unitPt (s : State) (u : Nat) (a : Nat) : Bool := s.integralPt a && ptUnit a == u

def State.chkFio (s : State) (scope : Option Nat) (i : Nat) (r : List Word) : Option (Nat × Nat) :=
  let u := i / 256
  let c := i % 256
  let bank := c == 0xFF
  let range :=
    if bank then
      if u < 2 then outside0 1 40 (wBits r 0 5 0)
      else if u < 4 then outside0 1 8 (wBits r 0 3 0) || outside0 2 2000 (wBits r 1 10 0)
      else if u = 4 then wBits r 0 1 0 == 3 || wBits r 0 3 2 == 3
      else outside0 2 2000 (wBits r 1 10 0)
    else if u = 4 then wBits r 0 2 1 == 3 || wBits r 0 5 3 == 7 || decide (1000 < wBits r 0 18 9)
    else if u = 5 then wBits r 0 3 2 == 3
    else if u = 6 ∧ c < 4 then
      outside0 1 20 (wBits r 0 8 4) || outside0 20 200 (wBits r 0 19 9) || decide (500 < wBits r 3 9 0) ||
        (wBits r 3 9 0 != 0 && outside 50 400 (wBits r 3 24 16))
    else if u = 6 ∧ c < 6 then wBits r 0 3 2 == 0 && wBit r 0 0 || decide (100 < wBits r 0 10 4)
    else false
  let per := if wBits r 0 5 0 = 0 then 1 else wBits r 0 5 0
  firstCause [
    deny scope.isSome 0x01C2,
    bad range 0x01C0,
    bad (bank && decide (u < 2) && (s.fld Fld.SYS_TCYC_len + 1) * 5 % per != 0) 0x01C1,
    bad (u == 4 && !bank && wBit r 0 0 && s.convMode (c / 4) == 0) 0x01C3,
    bad (u == 4 && bank && (upFrom 0 8).any fun k => wBit (s.rec_ 0x0A (0x400 + k)) 0 0 && s.convMode (k / 4) == 0) 0x01C3,
    bad (u == 4 && !bank && wBit r 0 6 && wBit r 0 7) 0x01C4,
    bad (bank && (u == 2 || u == 3 || u == 5 || u == 6) && s.silenceShort (bankSilence r) (s.unitPt u)) 0x0140]

/-- Whether a configuration gives some output a logic-silence timeout that does not exceed its lull bound (R224). -/
def State.tooSilent (s : State) : Bool :=
  ([2, 3, 5, 6].any fun u => s.silenceShort (bankSilence (s.rec_ 0x0A (u * 256 + 0xFF))) (s.unitPt u)) ||
    (upFrom 16 240).any fun u =>
      let r := s.unitRec u
      !r.isEmpty && s.silenceShort (urSilence r) fun a => ptNode a == urNode r

/-! ### The vessel-system map (R1 to R3) -/

/-- What distinct values a list holds. -/
def distinct (xs : List Nat) : List Nat := xs.foldl (fun acc x => if acc.contains x then acc else x :: acc) []

/-- Whether a map keeps the limits of R1 and R3: at most 16 384 nodes, each number below 16 384 and used once; 256 units a
station, of which 16 are integral; 64 stations a segment; 16 segments a zone; 16 zones. -/
def mapOk (ns : List VesselNode) : Bool :=
  let mods := ns.filter (·.kind == 0)
  decide (ns.length ≤ 16384) && ns.all (fun x => decide (x.node < 16384)) &&
  decide ((distinct (ns.map (·.node))).length = ns.length) &&
  mods.all (fun m => decide ((ns.filter fun x => x.kind == 1 && x.station == m.station).length ≤ 240)) &&
  mods.all (fun m => decide ((distinct ((mods.filter fun x => x.segment == m.segment && x.zone == m.zone).map
    (·.station))).length ≤ 64)) &&
  mods.all (fun m => decide ((distinct ((mods.filter fun x => x.zone == m.zone).map (·.segment))).length ≤ 16)) &&
  decide ((distinct (mods.map (·.zone))).length ≤ 16)

/-- The map with this station's units as its records name them. -/
def State.vesselMap (s : State) : List VesselNode :=
  let rest := s.sys.vessel.filter fun x => !(x.kind == 1 && x.station == s.stationNode)
  rest ++ ((upFrom 16 240).filter fun u => !(s.unitRec u).isEmpty).map fun u =>
    { node := urNode (s.unitRec u), kind := 1, station := s.stationNode }

/-- Whether node number `n` is one of this station's modules, or another node of the vessel system: one of another station, or
a witness that is none of this station's units (R2). -/
def State.nodeTaken (s : State) (n : Nat) : Bool :=
  n == s.sys.node || (s.sys.pins.pair && n == s.sys.peer) ||
    s.sys.vessel.any fun x => x.node == n && !(x.kind == 1 && x.station == s.stationNode)

/-- Positions of ring `r`. -/
def State.ringPositions (s : State) (r : Nat) : List Nat :=
  ((upFrom 16 240).filter fun u => !(s.unitRec u).isEmpty && urRing (s.unitRec u) == r).map fun u => urPos (s.unitRec u)

def State.chkRio (s : State) (scope : Option Nat) (i : Nat) (r : List Word) : Option (Nat × Nat) :=
  if i < 2 then
    let bytes := 32 + (s.ringPositions i).length * 512 + 256
    firstCause [
      deny scope.isSome 0x01D3,
      bad (decide (120 < wBits r 0 7 1) || decide (wBits r 0 7 1 < wBits r 0 14 8)) 0x01D0,
      bad (wBit r 0 0 && decide (110000 < min bytes (Config.ringBytes i) * 8 + 2 * (s.rioRing i).hopNs)) 0x01D2]
  else
    let u := i - 0x100
    let others := (upFrom 16 240).filter fun v => v != u && !(s.unitRec v).isEmpty
    firstCause [
      deny scope.isSome 0x01D3,
      bad (outside 1 120 (urPos r) || outside0 10 2000 (wBits r 2 10 0)) 0x01D0,
      bad (others.any (fun v => (urRing (s.unitRec v) == urRing r && urPos (s.unitRec v) == urPos r) ||
        urNode (s.unitRec v) == urNode r) || s.nodeTaken (urNode r)) 0x01D1,
      bad (!mapOk s.vesselMap) 0x0004,
      (Config.imageCrc u != wAt r 3, stIntegrity, 0),
      bad (s.silenceShort (urSilence r) fun a => ptNode a == urNode r) 0x0140]

/-! ### Records, networks, panel, counters (R499, R525, R540, R556, R583) -/

/-- A digital input: point 0 of a channel of unit 0 or 1, or a point of a remote unit. -/
def State.isDi (s : State) (a : Nat) : Bool :=
  if s.integralPt a then decide (ptUnit a < 2) && decide (ptChan a < 16) && a % 256 == 0
  else (upFrom 16 240).any fun u => !(s.unitRec u).isEmpty && urNode (s.unitRec u) == ptNode a

/-- Sinks routed to record line `l` whose record names another partition than `p`. -/
def State.recordForeign (s : State) (l p : Nat) : Bool :=
  (upFrom 0 256).any fun d =>
    let q := s.evRec d
    evEn q && !wBit q 0 1 && wBits q 0 5 2 == l && wBits q 0 19 14 != p

/-- Whether a physical address names a register of a block that is not a slow-domain register. -/
def fastRegister (a : Nat) : Bool :=
  decide (0x40000000 ≤ a) && decide (a < 0x40000000 + 0x170000) && a % 4 == 0 &&
    (match regInfoAt (a - 0x40000000) with | some r => !r.slow | none => false)

def State.chkEvr (s : State) (scope : Option Nat) (r : List Word) : Option (Nat × Nat) :=
  let n := wBits r 0 13 9
  let regs := wBits r 27 23 0
  let entries := (upFrom 0 24).map fun i => wAt r (3 + i)
  firstCause [
    deny (match scope with
      | some p => wBits r 0 19 14 != p || regs != 0 || (!wBit r 0 1 && s.recordForeign (wBits r 0 5 2) p)
      | none => false) 0x01F3,
    bad (decide (24 < n) || (wBit r 0 0 && wBit r 0 1 && wBits r 0 7 6 == 0) || decide (60000 < wBits r 2 15 0) ||
      (entries.drop n).any (· != 0) || decide (2 ^ n ≤ regs)) 0x01F0,
    bad ((upFrom 0 24).any fun i => regs.testBit i && !fastRegister (wAt r (3 + i)).toNat) 0x01F1,
    bad (wBit r 0 0 && wBit r 0 1 && !s.isDi (wAt r 1).toNat) 0x01F2]

/-- Whether queue field `q` names a queue that another partition owns. -/
def State.queueForeign (s : State) (q p : Nat) : Bool := q != 0x1FFF && s.qOwner q != p

def State.chkEth (s : State) (scope : Option Nat) (i : Nat) (r : List Word) : Option (Nat × Nat) :=
  if 0x100 ≤ i ∧ i < 0x140 then
    let p := wBits r 0 9 4
    firstCause [
      deny (match scope with | some q => q != p | none => false) 0x0204,
      bad (svEn r && (svProto r == 0 || decide (4 < svProto r) ||
        (svProto r == 4 && (outside 2 3 (wBits r 0 18 17) || outside 10 10000 (wBits r 5 15 0))))) 0x0200,
      deny (svEn r && (s.queueForeign (wBits r 1 12 0) p || s.queueForeign (wBits r 1 28 16) p)) 0x0203,
      bad (svEn r && svProto r == 2 && (upFrom 0 64).any fun k =>
        k != i - 0x100 && svEn (s.svcRec k) && svProto (s.svcRec k) == 2) 0x0205]
  else if 0x1000 ≤ i then
    firstCause [
      deny scope.isSome 0x0204,
      bad (wBit r 0 0 && ((mbTable r == 2 && mbAddr r == 0) ||
        decide (2 ≤ ((s.modbusMap.filter fun q => wBit q 0 0 && mbTable q == mbTable r &&
          decide (mbAddr q ≤ mbAddr r + b1 (mbWide r)) && decide (mbAddr r ≤ mbAddr q + b1 (mbWide q))).length)))) 0x0202]
  else
    firstCause [
      deny scope.isSome 0x0204,
      bad (decide (i < 6) && decide (32 < wBits r 2 5 0)) 0x0200,
      bad ((i == 4 || i == 5) && wBit r 0 0 && s.fibre) 0x0201]

def State.chkSer (s : State) (scope : Option Nat) (r : List Word) : Option (Nat × Nat) :=
  let p := wBits r 2 5 0
  let proto := wBits r 0 5 3
  firstCause [
    deny scope.isSome 0x0204,
    bad (wBit r 0 0 && (proto == 0 || decide (4 < proto) || wBits r 0 24 23 == 3 || outside0 1200 115200 (wBits r 0 22 6) ||
      (proto == 4 && outside 1 247 (wBits r 2 15 8)) || (proto == 3 && outside0 10 5000 (wBits r 2 28 16)) ||
      (decide (proto ≤ 2) && wBit r 0 26))) 0x0200,
    deny (wBit r 0 0 && (s.queueForeign (wBits r 1 12 0) p || s.queueForeign (wBits r 1 28 16) p)) 0x0203]

/-- Quanta of a nominal bit, and its clocks at 80 MHz. -/
def canQuanta (r : List Word) : Nat := 3 + wBits r 1 15 8 + wBits r 1 22 16
def canClocks (r : List Word) : Nat := (wBits r 1 7 0 + 1) * canQuanta r

def State.chkCan (s : State) (scope : Option Nat) (i : Nat) (r : List Word) : Option (Nat × Nat) :=
  if i < 4 then
    let p := wBits r 0 13 8
    let en := caEn r
    let dClk := (wBits r 2 4 0 + 1) * (3 + wBits r 2 9 5 + wBits r 2 13 10)
    let cands := ((upFrom 8 8).map fun n => wBits r n 20 0).filter (· != 0)
    firstCause [
      deny scope.isSome 0x0214,
      bad (en && (wBits r 1 15 8 == 0 || decide (wBits r 1 22 16 < wBits r 1 29 23) || decide (canQuanta r < 8) ||
        outside 80 8000 (canClocks r) || (caFd r && decide (dClk < 16)) ||
        outside0 1 10000 (wBits r 4 29 16) || outside0 1 10000 (wBits r 5 13 0) || outside0 2 15 (wBits r 5 19 16) ||
        (caMaster r && outside 10 10000 (wBits r 7 13 0)) || outside0 100 10000 (wBits r 16 13 0) ||
        cands.any (fun b => decide (b < 10000) || decide (1000000 < b)))) 0x0210,
      bad (en && caMaster r && (caFd r || (caUrgent r).isSome)) 0x0211,
      bad (en && caDetect r && (cands.isEmpty || caMaster r)) 0x0212,
      deny (en && (s.queueForeign (wBits r 3 12 0) p || s.queueForeign (wBits r 3 28 16) p ||
        s.queueForeign (wBits r 4 12 0) p)) 0x0213]
  else
    let p := wBits (s.rec_ 0x11 ((i - 0x100) / 64)) 0 13 8
    firstCause [
      deny scope.isSome 0x0214,
      deny (wBit r 0 30 && s.queueForeign (wBits r 2 12 0) p) 0x0213]

def chkPanel (scope : Option Nat) (r : List Word) : Option (Nat × Nat) :=
  firstCause [
    deny scope.isSome 0x0221,
    bad (outside0 60 150 (wBits r 0 7 0) || outside0 15 63 (wBits r 0 13 8) || decide (80 < wBits r 1 15 8) ||
      outside0 1 60 (wBits r 2 5 0) || outside0 10 100 (wBits r 2 14 8)) 0x0220]

/-- Greatest argument of an event class (R582). -/
def pfcArgs : List Nat := [0, 255, 7, 7, 7, 7, 7, 7, 7, 63, 8191, 1023, 3, 8, 1, 5, 3, 7, 511]

def State.pfcRight (s : State) (p c : Nat) : Bool := bit (s.reg (Reg.PRT_PFCRIGHT p)) (c / 8)

def State.chkPfc (s : State) (scope : Option Nat) (c : Nat) (r : List Word) : Option (Nat × Nat) :=
  let cls := wBits r 0 15 8
  let arg := wBits r 0 31 16
  let en := wBit r 0 0
  let filt := wBit r 1 8
  let fp := wBits r 1 5 0
  let lane := decide (2 ≤ cls) && decide (cls ≤ 8)
  let peeks := fun p =>
    (lane && !(filt && fp == p)) || (cls == 9 && arg != p) || (cls == 18 && declPart (s.task arg).decl != p)
  firstCause [
    deny (match scope with | some p => !s.pfcRight p c | none => false) 0x0242,
    bad (decide (18 < cls) || decide (pfcArgs.getD cls 0 < arg) || wBits r 0 3 2 == 3 || decide (4 < wBits r 0 6 4)) 0x0240,
    bad (filt && !(lane || cls == 9 || cls == 18)) 0x0241,
    deny (en && (upFrom 1 63).any fun p => s.pfcRight p c && peeks p) 0x0243]

/-! ### Every record -/

/-- What refuses record `i` of a type: `s` is the configuration with the set in force, `s0` the one now in force, `scope`
the session's partition. -/
def State.chkRecord (s s0 : State) (scope : Option Nat) (type i : Nat) (r : List Word) : Option (Nat × Nat) :=
  if type = 0x02 then (match s.chkPart i r with | some c => some c | none => s.chkTotals)
  else if type = 0x04 then s.chkQueue scope i r
  else if type = 0x05 then
    (if i < 1024 then s.chkLoop s0 scope i r else if i < 0x8000 then s.chkSection scope i r else chkJob i r)
  else if type = 0x06 then s.chkGen s0 scope (i % 256)
  else if type = 0x07 then
    (if i < 8 then s.chkDomain scope r else if i < 0x2000 then s.chkAction scope (i - 0x1000) r
     else firstCause [deny scope.isSome 0x0195])
  else if type = 0x08 then s.chkPower s0 scope i r
  else if type = 0x09 then s.chkTime scope i r
  else if type = 0x0A then s.chkFio scope i r
  else if type = 0x0B then s.chkRio scope i r
  else if type = 0x0D then s.chkEvr scope r
  else if type = 0x10 then s.chkEth scope i r
  else if type = 0x11 then s.chkCan scope i r
  else if type = 0x12 then s.chkSer scope r
  else if type = 0x13 then chkPanel scope r
  else if type = 0x16 then s.chkPfc scope i r
  else if type = 0x0F then
    firstCause [deny (match scope with
      | some p => i == 0 || declPart (s.task (i - 0x100)).decl != p
      | none => false) 0x010A]
  else if type = 0x14 then firstCause [deny scope.isSome 0x0004]
  else none

end Sys2Proof.Machine
end

