-- ==== Sys2Proof/Machine/SafetyCheck.lean ====
section
/-! DEFINITION. What station firmware checks of a staged safety set at its commit (R461, R471, R477 to R479). -/

namespace Sys2Proof.Machine

/-- The words of set `n` that a session has staged: parameter bytes at their offsets, 0 between them. -/
def stagedSet (stages : List Stage) (n : Nat) : List Word :=
  stages.foldl (fun acc st => match st with
    | .safety m off ws =>
      if m = n then
        let len := max acc.length (off / 4 + ws.length)
        (upFrom 0 len).map fun i => if off / 4 ≤ i ∧ i < off / 4 + ws.length then wAt ws (i - off / 4) else wAt acc i
      else acc
    | _ => acc) []

/-- The sets that a session has staged. -/
def stagedSets (stages : List Stage) : List Nat :=
  (upFrom 0 16).filter fun n => stages.any fun st => match st with | .safety m _ _ => m == n | _ => false

/-- A channel record of set 0 whose fields lie in their ranges. -/
def chanRecordOk (r : List Word) : Bool :=
  let c := wBits r 0 3 0
  let input := decide (4 ≤ c)
  bits (wAt r 0) 31 19 == 0 && decide (wBits r 0 9 5 ≤ 20) &&
    (if input then !outside 5 500 (wBits r 0 18 10) else wBits r 0 18 4 == 0) &&
    bits (wAt r 1) 31 11 == 0 &&
    (if 4 ≤ c ∧ c < 8 then !outside 10 2000 (wBits r 1 10 0) else wBits r 1 10 0 == 0) &&
    (upFrom 2 14).all fun i => wAt r i == 0

/-- Unused fields of an instance record are 0 (R478): a reset input of another source, an owner that is not valid, the vote of another
type than 3, the ramp and the speed fields of another type than 2, an EDM channel that is not used. -/
def unusedZero (r : List Word) : Bool :=
  (irReset r == 0 || irButton r == 0) && (wBit r 0 26 || wBits r 0 25 17 == 0) && (irType r == 3 || wBits r 4 2 0 == 0) &&
    (irType r == 2 || (irDelay r == 0 && (upFrom 10 6).all fun i => wAt r i == 0)) && (irEdmUsed r || wBits r 9 7 4 == 0)

/-- A speed source is point 0 of an encoder or a pickup of unit 6, with a nominal speed (R468). -/
def speedOk (r : List Word) (src nom : Nat) : Bool :=
  let a := (wAt r src).toNat
  if a = 0 then wAt r nom == 0
  else a / 2 ^ 14 % 16 == 6 && decide (4 ≤ a / 256 % 64) && decide (a / 256 % 64 < 8) && a % 256 == 0 && wAt r nom != 0

/-- An instance record whose fields lie in their ranges. -/
def instRecordOk (r : List Word) : Bool :=
  let t := irType r
  bits (wAt r 0) 31 27 == 0 && !outside 1 3 t && decide (irReset r ≤ 2) && decide (irVote r ≤ 2) &&
    decide (irDelay r ≤ 5000) && (t != 2 || !outside 10 60000 (irMaxStop r)) && (t == 2 || irMaxStop r == 0) &&
    bits (wAt r 9) 31 16 == 0 && decide (wBits r 9 7 4 ≤ 3) && (t == 2 || wBits r 9 3 0 == 0) &&
    (wBits r 9 15 9 == 0 || !outside 2 100 (wBits r 9 15 9)) && unusedZero r && speedOk r 10 12 && speedOk r 11 13

/-- The header and the records of set `n`. -/
def setFormOk (n : Nat) (ws : List Word) : Bool :=
  let rs := setRecords ws
  wAt ws 0 == 0x53414645 && wBits ws 1 3 0 == n && bits (wAt ws 1) 7 4 == 0 && bits (wAt ws 1) 31 16 == 0 &&
    ((upFrom 3 5).all fun i => wAt ws i == 0) && ws.length == 8 + 16 * wBits ws 1 15 8 &&
    rs.all (if n = 0 then chanRecordOk else instRecordOk)

/-- Whether two records of a list have one number. -/
def repeats (f : List Word → Nat) (rs : List (List Word)) : Bool :=
  (rs.map f).any fun i => decide (2 ≤ ((rs.map f).filter (· == i)).length)

/-- The unit of RIO whose node a point names. -/
def State.unitAt (s : State) (a : Nat) : Option (List Word) :=
  ((upFrom 16 240).map s.unitRec).find? fun w => !w.isEmpty && urNode w == a / 2 ^ 18

/-- A point of a safety-capable remote unit (R461, R472). -/
def State.remoteSafe (s : State) (a : Nat) : Bool :=
  match s.unitAt a with
  | some w => Config.safetyType (wBits w 1 15 0)
  | none => false

/-- A target of R461 whose record condition holds. -/
def State.targetOk (s : State) (a : Nat) : Bool :=
  let u := ptUnit a
  let c := ptChan a
  let r := s.rec_ 0x0A (u * 256 + c)
  if s.integralPt a then
    a % 256 == 0 &&
    (if u = 7 then decide (c < 4)
     else if u = 2 ∨ u = 3 then decide (c < 8) && !wBit r 0 1
     else if u = 5 then decide (c < 8) && wBits r 0 3 2 != 2
     else if u = 6 then decide (c < 4) && !wBit r 0 3
     else false)
  else s.remoteSafe a

/-- A demand input of R478: a safety input of unit 7, or a remote one. -/
def State.demandOk (s : State) (a : Nat) : Bool :=
  if s.integralPt a then ptUnit a == 7 && decide (8 ≤ ptChan a) && decide (ptChan a < 16) && a % 256 == 0 else s.remoteSafe a

/-- The bound of R471 for one path, µs. `chans`: the channel records of set 0 as they would stand. -/
def State.pathTime (s : State) (chans : List (List Word)) (input target : Nat) : Nat :=
  let f := match chans.find? fun r => wBits r 0 3 0 == ptChan input with
    | some r => wBits r 0 9 5 * 250
    | none => 3000
  match s.integralPt input, s.integralPt target with
  | true, true => f + 870
  | true, false => f + 1000 + Config.unitOutput (ptNode target)
  | false, true => Config.unitFilter (ptNode input) + 860
  | false, false => Config.unitFilter (ptNode input) + 990 + Config.unitOutput (ptNode target)

/-- Declared response time of an instance, µs. -/
def declaredTime (r : List Word) : Nat := (if wBits r 9 15 9 = 0 then 10 else wBits r 9 15 9) * 1000

/-- An envelope break of an SS1 instance reaches each delayed target within the declared time. -/
def State.envelopeTime (s : State) (target : Nat) : Nat :=
  500 + (if s.integralPt target then 120 else 250 + Config.unitOutput (ptNode target))

def State.tooSlow (s : State) (chans : List (List Word)) (r : List Word) : Bool :=
  let ts := irTargets r
  (irInputs r).any (fun i => ts.any fun t => decide (declaredTime r < s.pathTime chans i t.2)) ||
    (irType r == 2 && ts.any fun t => irDelayed r t.1 && decide (declaredTime r < s.envelopeTime t.2))

/-- Instances that another set than those staged holds. -/
def State.otherInsts (s : State) (stages : List Stage) : List Nat :=
  let staged := stagedSets stages
  (s.instRecs.filter fun e => !staged.contains e.1).map fun e => irInst e.2

/-- Instances enabled over all sets with the staged ones in force (R477). -/
def State.instsAfter (s : State) (stages : List Stage) : Nat :=
  let staged := stagedSets stages
  (s.instRecs.filter fun e => !staged.contains e.1 && irEn e.2).length +
    ((staged.filter (· != 0)).map fun n => ((setRecords (stagedSet stages n)).filter irEn).length).foldl (· + ·) 0

/-- What refuses the staged safety sets (R479): `auth` whether the session holds SAFE_AUTH. -/
def State.chkSafety (s : State) (stages : List Stage) (auth : Bool) : Option (Nat × Nat) :=
  let staged := stagedSets stages
  if staged.isEmpty then none
  else
    let chans := setRecords (if staged.contains 0 then stagedSet stages 0 else s.paramSet 0)
    let recs := (staged.filter (· != 0)).flatMap fun n => setRecords (stagedSet stages n)
    let other := s.otherInsts stages
    let on := recs.filter irEn
    let points := fun r => ((irTargets r).map (·.2)) ++ irInputs r
    let classL := decide (32 < s.instsAfter stages)
    firstCause [
      bad (!staged.all (fun n => setFormOk n (stagedSet stages n)) || repeats irInst recs ||
        recs.any (fun r => other.contains (irInst r)) ||
        (staged.contains 0 && repeats (fun r => wBits r 0 3 0) chans) ||
        on.any fun r => !(irInputs r).all s.demandOk ||
          [10, 11].any fun i => wAt r i != 0 && !s.integralPt (wAt r i).toNat) 0x01E0,
      bad (on.any fun r => !(irTargets r).all fun t => s.targetOk t.2) 0x01E1,
      bad (on.any fun r => (points r).any s.fibrePt) 0x0141,
      bad (on.any fun r => s.tooSlow chans r) 0x01E2,
      bad (on.any fun r => irType r == 2 && (wAt r 10 == 0 || !(irTargets r).any fun t => irDelayed r t.1)) 0x01E3,
      bad (on.any fun r => irReset r == 2 && (irType r != 3 || irEdmUsed r)) 0x01E4,
      deny (classL && (s.nv.passwords.isEmpty || !auth)) 0x01E5,
      (classL && decide (4096 ≤ s.nv.logSeq - s.nv.logArchived), stNoResource, 0x01E6)]

end Sys2Proof.Machine
end

