-- ==== Sys2Proof/Machine/RecApply.lean ====
section
/-! DEFINITION. What each configuration record does at the trade-cycle boundary at which it takes effect (R91). -/

namespace Sys2Proof.Machine

/-- The queues enabled, in all and by owner (QE_FREE1, PRT_USE_Q0). -/
def State.showQueues (s : State) : State :=
  let on := (upFrom 0 8192).filter s.qEn
  (upFrom 0 64).foldl (fun s p => s.put (Fld.PRT_USE_Q0_queues p) (on.filter fun q => s.qOwner q == p).length)
    (s.put Fld.QE_FREE1_queues on.length)

/-- Messages of queue `q` that no activation has taken freed, and counted as drops (R242). -/
def State.emptyQueue (s : State) (q : Nat) : State :=
  let ds := s.untaken q
  let s1 := ds.foldl (fun s d => s.dropMsg q d) s
  let x := s1.queue q
  s1.setQueue q { x with drops := x.drops + ds.length }

/-- A queue's record, a watch's, or a port page's, which applies at reset (R242, R248, R259). -/
def State.applyQueueRec (s : State) (i : Nat) (old : List Word) : State :=
  if i < 8192 then
    (if wBit old 0 8 && !s.qEn i then s.emptyQueue i else s).showQueues
  else if i < 0x2100 then s.setReg (Reg.QE_WATCH (i - 0x2000)) (wAt (s.rec_ 0x04 i) 0)
  else s

/-- A value of a record, or the default that 0 selects. -/
def orElse0 (v d : Nat) : Nat := if v = 0 then d else v

/-- The panel's record: station firmware writes the registers, which apply at the next frame (R546, R556). -/
def State.applyPanelRec (s : State) : State :=
  let r := s.rec_ 0x13 0
  let iseg := orElse0 (wBits r 1 7 0) 160
  let s1 := (((s.putShadow Fld.PNL_TIMING_fps .frm (orElse0 (wBits r 0 7 0) 100)).putShadow Fld.PNL_TIMING_mux .frm
    (orElse0 (wBits r 0 13 8) 63)).putShadow Fld.PNL_DRIVE_vpp .frm (orElse0 (wBits r 1 15 8) 40))
  match s1.pnl.base with
  | some _ => { s1 with pnl := { s1.pnl with base := some iseg } }
  | none => s1.putShadow Fld.PNL_DRIVE_iseg .frm iseg

/-- The witnesses that the pair record names (R208). -/
def State.applyPairRec (s : State) : State :=
  let r := s.rec_ 0x0F 0
  ((s.put Fld.RED_WIT_primary (wBits r 1 13 0)).put Fld.RED_WIT_second (wBits r 1 29 16)).put Fld.RED_WIT_second_en
    (wBits r 1 30 30)

/-- A record that has taken its place in the configuration; `old` is the one before it. -/
def State.applyRec (s : State) (type i : Nat) (old : List Word) : State :=
  if type = 0x04 then s.applyQueueRec i old
  else if type = 0x05 then
    (if i < 1024 then s.applyLoopRec i old else if 0x4000 ≤ i ∧ i < 0x8000 then s.applySecRec (i - 0x4000) else s)
  else if type = 0x06 then (if i < 64 then s.applyGenRec i old else if 0x100 ≤ i ∧ i < 0x140 then s.applyHomeRec (i - 0x100) old else s)
  else if type = 0x07 then
    (if i < 8 then s.applyDomRec i old else if 0x1000 ≤ i ∧ i < 0x2000 then s.applyActRec (i - 0x1000) old else s)
  else if type = 0x08 then s.applyPhRec i
  else if type = 0x09 then
    (if i = 0 then s.applyTimeRec else if 0x100 ≤ i then s.applyCmpRec (i - 0x100) old else s)
  else if type = 0x0A then s.applyFioRec i
  else if type = 0x0B then (if 0x100 ≤ i then s.applyUnitRec (i - 0x100) old else s)
  else if type = 0x0F then (if i = 0 then s.applyPairRec else s)
  else if type = 0x11 then (if i < 4 then s.applyCanRec i else s)
  else if type = 0x13 then s.applyPanelRec
  else if type = 0x14 then { s with nv := { s.nv with plan := wAt (s.rec_ 0x14 0) 0 } }
  else if type = 0x16 then s.applyPfcRec i old
  else s

/-- A debug register written through a record (R189). A value that a reserved field forbids is not written. -/
def State.applyDebugRec (s : State) (i : Nat) (w : Word) : State :=
  let k := 13 * 65536 + i
  (if k = Reg.LKS_DBGCTL then (s.writeCore k w 0 0).map fun s => s.debugControl w true else s.writeReg k w).getD s

/-- Whether a record takes a place in the configuration: a job, a debug write and an archive do not. -/
def keptRecord (type i : Nat) : Bool := !((type == 5 && decide (0xC000 ≤ i)) || type == 0x0C || type == 0x0E)

/-- What a stage changes in the configuration that placement and the checks read. -/
def State.stageCfg (s : State) : Stage → State
  | .record key ws =>
    if keptRecord (key / 2 ^ 24) (key % 2 ^ 24) then { s with cfg := SMap.set [] key ws s.cfg } else s
  | .declare t ws => s.setTask t { s.task t with decl := ws }
  | .pin t p w => s.setTask t { s.task t with pin := some (p, w) }
  | .budget p t us quota =>
    if t = 0xFFFF then
      { s with prt := { s.prt with partBudget := SMap.set none p (some (us / 50, quota)) s.prt.partBudget } }
    else s.setTask t { s.task t with budget := some us }
  | _ => s

/-- Class L entries up to a sequence archived (R482). -/
def State.archive (s : State) (seq mbx : Nat) : State :=
  let s1 := { s with nv := { s.nv with logArchived := max s.nv.logArchived (min seq s.nv.logSeq) } }
  (if s1.classL then s1.logSafety 4 0 0 0 mbx else s1).showSaf

/-- A force set or released, with its record (R172, R174). -/
def State.applyForce (s : State) (addr : Nat) (val : Word) (on : Bool) (output : Bool) (mbx : Nat) : State :=
  let rest := s.fw.forces.filter fun f => f.addr != addr
  let s1 := { s with fw := { s.fw with
    forces := if on then rest ++ ([⟨addr, val, output, lo32 s.time⟩] : List Force) else rest } }
  s1.record 1 174 addr (b1 (!on)) (b1 on) mbx [wd addr, val]

/-- Output points of the integral channels (R399, R417): the command or set-point, and the fault reset of a DO or an
H-bridge. -/
def outputPoint (unit chan point : Nat) : Bool :=
  ((unit == 2 || unit == 3) && decide (chan < 8) && (point == 0 || point == 4)) ||
    (unit == 5 && decide (chan < 8) && point == 0) || (unit == 6 && decide (chan < 4) && (point == 0 || point == 4))

/-- Whether a point address names an output point (R7, R172): one of an integral channel, or a point that has an owner. -/
def State.outputPt (s : State) (a : Nat) : Bool :=
  if s.integralPt a then outputPoint (ptUnit a) (ptChan a) (ptPoint a) else decide (0 < s.ownerCount a)

/-! ### Online changes (R168 to R171) -/

/-- Partitions in which two images differ (R169). -/
def changedParts (a b : ImageBody) : List Nat :=
  (upFrom 0 64).filter fun p => a.codeOf p != b.codeOf p || a.tasksOf p != b.tasksOf p

/-- Code bank in force of partition `p`. -/
def State.partBank (s : State) (p : Nat) : Nat := SMap.get 0 p s.fw.banks

/-- The shadow banks of the changed partitions loaded (R169). -/
def State.loadShadows (s : State) (b : ImageBody) (digest : Word) (parts : List Nat) : State :=
  parts.foldl (fun s p =>
    let at_ := s.codeBank p (1 - s.partBank p)
    let ws := b.bankWords digest p
    (s.setWords at_ ws).chargeDram 0 (dramLines at_ (4 * ws.length))) s

/-- Tasks that an online change takes out: nothing of them stays (R160, R169). -/
def State.removedBy (s : State) (o : Online) : List Nat :=
  s.declared.filter fun t => o.parts.contains (declPart (s.task t).decl) && !o.body.tasks.any fun a => a.task == t

/-- Tasks as the changed partitions of an online change give them. -/
def Online.tasks (o : Online) : List AppTask := o.body.tasks.filter fun a => o.parts.contains (declPart a.decl)

/-- Declarations as an online change leaves them, and the pairs that keep their places beside new ones (R170). -/
def State.onlineCfg (s : State) (o : Online) : State :=
  let s1 := (s.removedBy o).foldl (fun s t => s.setTask t { pin := (s.task t).pin }) s
  o.tasks.foldl (fun s a =>
    let x := s.task a.task
    let b := s.taskInst a.task
    let size := s.instSize b
    let old := if x.built && a.moves size then
        (if x.oldPair.isSome && !x.migrated then x.oldPair else some (b, 64 + 2 * mapBytes size + 2 * size))
      else x.oldPair
    s.setTask a.task { x with
      decl := a.decl, oldPair := old
      oldBase := if old.isSome then none else x.oldBase
      migrated := if old.isSome && x.built && a.moves size then false else x.migrated }) s1

/-- Whatever activation of task `t` is in progress ends (R134). -/
def State.endTask (s : State) (t : Nat) : State :=
  ((upFrom 0 8).foldl (fun s l => match (s.lane l).act with
    | some a => if a.task = t then s.endAct l else s
    | none => s) s).endSusp t

/-- The swap boundary (R170): the tasks of changed partitions take the new code at their next step 1, the shadow banks become
active. -/
def State.swap (s : State) : State :=
  match s.fw.online with
  | none => s
  | some o =>
    let gone := s.removedBy o
    let s0 := gone.foldl State.endTask s
    let s1 := gone.foldl State.showTask (s0.onlineCfg o)
    let s2 := o.tasks.foldl (fun s a =>
      let x := s.task a.task
      if x.built then s.setTask a.task { x with newApps := x.newApps ++ [a] }
      else s.setTask a.task { x with app := some a, newApps := [], bank := 1 - s.partBank (declPart a.decl) }) s1
    let s3 := o.parts.foldl (fun s p =>
      { s with fw := { s.fw with banks := SMap.set 0 p (1 - s.partBank p) s.fw.banks } }) s2
    { s3 with fw := { s3.fw with online := none, used := SMap.set 0 5 o.slot s3.fw.used } }

/-! ### A staged set -/

/-- The effect of one stage at the boundary of its commit; the configuration already holds the whole set. `was` is the
configuration before it. A job reaches the leeward module from the windward one (R283). -/
def State.applyOne (s was : State) (scope : Option Nat) (mbx : Nat) : Stage → State
  | .record key ws =>
    let type := key / 2 ^ 24
    let i := key % 2 ^ 24
    if type = 5 ∧ 0xC000 ≤ i then (if s.leeward then s else s.takeJob ws (scope.getD 0))
    else if type = 0x0E then s.applyDebugRec i (wAt ws 0)
    else if type = 0x0C then s.archive (wAt ws 0).toNat mbx
    else s.applyRec type i (was.rec_ type i)
  | .route k w => { s.setReg (Reg.SYS_EVM_SINK k) w with sys := { s.sys with divs := SMap.set 0 k 0 s.sys.divs } }
  | .declare t _ => s.showTask t
  | .force a v on => s.applyForce a v on (s.outputPt a) mbx
  | .timeStep ns => s.applyTimeStep ns
  | .online _ => s.swap
  | .archive ws => s.archive (wAt ws 0).toNat mbx
  | .confirm n v => { s with saf := { s.saf with confirmNext := s.saf.confirmNext ++ [(n, v)] } }
  | _ => s

/-- The staged safety sets written to parameter memory (R479, R482). -/
def State.applySets (s : State) (stages : List Stage) (mbx : Nat) : State :=
  (stagedSets stages).foldl (fun s n =>
    let ws := stagedSet stages n
    let before := if s.setLoaded n then setCheck (s.paramSet n) else 0
    let s1 := s.loadSet n ws
    if s1.classL then s1.logSafety 1 n before (setCheck ws) mbx else s1) s

/-- A staged set in force in full (R91). -/
def State.applyStages (s : State) (scope : Option Nat) (mbx : Nat) (stages : List Stage) : State :=
  let s1 := stages.foldl State.stageCfg s
  let s2 := stages.foldl (fun x st => x.applyOne s scope mbx st) s1
  s2.applySets stages mbx

end Sys2Proof.Machine
end

