-- ==== Sys2Proof/Machine/Commit.lean ====
section
/-! DEFINITION. Commits (R91, R92, R118, R125, R168 to R171): the check of a staged set, its two phases in a pair, and its
boundary. -/

namespace Sys2Proof.Machine

/-! ### The check (R91) -/

/-- The state as the accepted commits and another set would leave its configuration. -/
def State.scratch (s : State) (stages : List Stage) : State :=
  ((s.fw.commits.filter fun c => c.at_.isSome).flatMap (·.stages) ++ stages).foldl State.stageCfg s

/-- Point addresses that a record names. -/
def recordPoints (type i : Nat) (r : List Word) : List Nat :=
  let at_ := fun n => (wAt r n).toNat
  if type = 5 ∧ i < 1024 then
    ([0, 1, 2].filter fun n => srcKind r n == 1).map (fun n => at_ (3 + n)) ++ (if wBits r 12 31 30 = 1 then [at_ 13] else [])
  else if type = 6 ∧ i < 64 then
    (if wBit r 0 18 then [at_ 1] else []) ++ (if wBit r 0 20 then [at_ 14, at_ 15] else []) ++ [at_ 16].filter (· != 0)
  else if type = 6 ∧ 0x100 ≤ i ∧ i < 0x140 then (if wBits r 0 2 0 = 0 then [] else [at_ 1, at_ 2])
  else if type = 0x0D then
    (if wBit r 0 1 then [at_ 1] else []) ++
      ((upFrom 0 (min 24 (wBits r 0 13 9))).filter fun n => !(wAt r 27).getLsbD n).map fun n => at_ (3 + n)
  else if type = 7 ∧ 0x1000 ≤ i ∧ i < 0x2000 then (if actKind r = 4 then [at_ 2] else [])
  else if type = 8 ∧ 0x10 ≤ i ∧ i < 0x18 then [at_ 1]
  else if type = 8 ∧ 0x50 ≤ i ∧ i < 0x60 then [at_ 1, at_ 2, at_ 3]
  else if type = 0x10 ∧ 0x1000 ≤ i then [at_ 1]
  else []

/-- A point of units 9 to 15, which no bank has (R7). -/
def State.reservedUnit (s : State) (a : Nat) : Bool := s.modulePt a && decide (8 < ptUnit a)

/-- Points that the lists of a task name. -/
def listPoints (ls : List Slot) : List Nat :=
  ls.filterMap fun o => match o with
    | .point p _ => if p < 2 ^ 32 then some p else none
    | .queue _ _ _ => none

/-- What refuses the lists of a task whose declaration is `d` (R4, R7, R30, R219, R230): a cold task of criticality A or B or
with output points; an integral point of a fibre pair; a point of a reserved unit; an output point that has another owner, or
that is a module's own sample; an item that has a second writer; an input queue that another slot names too (R241). -/
def State.taskCause (x : State) (d : List Word) (a : AppTask) : Option (Nat × Nat) :=
  let outs := listPoints a.outputs
  let pts := listPoints a.inputs ++ outs
  firstCause [
    bad (wBit d 1 19 && (decide (declCrit d < 2) || !outs.isEmpty)) 0x0142,
    bad (pts.any x.fibrePt) 0x0141,
    bad (pts.any x.reservedUnit || outs.any x.samplePt || outs.any x.twoOwners ||
      (listItems a.outputs).any x.twoWriters) 0x0004,
    bad (a.inputs.any fun sl => match sl with | .queue q _ _ => decide (1 < x.inputSlots q) | .point _ _ => false) 0x0004]

/-- The tasks of some partitions as an image gives them. -/
def State.withApps (s : State) (b : ImageBody) (parts : List Nat) : State :=
  let mine := fun (d : List Word) => parts.contains (declPart d)
  let s1 := (s.declared.filter fun t => mine (s.task t).decl).foldl (fun s t => s.setTask t { s.task t with app := none }) s
  (b.tasks.filter fun a => mine a.decl).foldl (fun s a => s.setTask a.task { s.task a.task with decl := a.decl, app := some a }) s1

/-- What refuses the tasks of an image for some partitions. -/
def State.appsCause (s : State) (b : ImageBody) (parts : List Nat) : Option (Nat × Nat) :=
  let x := s.withApps b parts
  if x.tooSilent then some (stBadArg, 0x0140)
  else (b.tasks.filter fun a => parts.contains (declPart a.decl)).findSome? fun a => x.taskCause a.decl a

/-- The configuration that an image gives, in place of the one in force. -/
def State.withConfig (s : State) (b : ImageBody) : State :=
  { s with
    cfg := b.records.foldl (fun (m : List (Nat × List Word)) (e : Nat × List Word) => SMap.set [] e.1 e.2 m) []
    sys := { s.sys with node := b.node, peer := b.peer, vessel := b.vessel } }

/-- What refuses an image that is to be put in use (R3, R30, R101, R219, R230): its map, its windows, two owners of an output
point. -/
def State.imageCause (s : State) (type : Nat) (b : ImageBody) : Option (Nat × Nat) :=
  if type = 4 then
    let x := s.withConfig b
    let owned := b.records.flatMap fun e => recordPoints (e.1 / 2 ^ 24) (e.1 % 2 ^ 24) e.2
    firstCause [bad (!mapOk b.vessel || !x.roomFits || owned.any x.twoOwners || owned.any x.reservedUnit) 0x0004,
      bad x.tooSilent 0x0140]
  else if type = 5 then s.appsCause b (upFrom 0 64)
  else none

/-- Block and index of the items whose owner task a record names. -/
def ownedItems (type i : Nat) : Option (Nat × Nat) :=
  if type = 5 ∧ i < 1024 then some (4, i)
  else if type = 6 ∧ i < 64 then some (5, i)
  else if type = 7 ∧ 0x1000 ≤ i ∧ i < 0x2000 then some (6, i - 0x1000)
  else if type = 8 ∧ (i = 0x20 ∨ i = 0x21 ∨ (0x80 ≤ i ∧ i < 0xC0)) then some (7, i)
  else if type = 9 ∧ 0x100 ≤ i then some (8, i)
  else none

/-- What refuses one staged record: `x` holds the whole set. A record may not give the items of its slot a second writer (R30). -/
def State.chkStage (s x : State) (scope : Option Nat) : Stage → Option (Nat × Nat)
  | .record key ws =>
    let type := key / 2 ^ 24
    let i := key % 2 ^ 24
    let shared := match ownedItems type i with | some e => x.itemsShared e.1 e.2 | none => false
    if (recordPoints type i ws).any s.reservedUnit || shared then some (stBadArg, 0x0004) else x.chkRecord s scope type i ws
  | .declare t ws => x.taskCause ws ((x.task t).app.getD { task := t })
  | .budget _ _ _ _ => x.chkTotals
  | _ => none

/-- Whether a set changes declarations, window requests, partition values or budgets (R126). -/
def changesPlan (stages : List Stage) : Bool :=
  stages.any fun st => match st with
    | .record key _ => key / 2 ^ 24 == 2
    | .declare _ _ => true
    | .budget _ _ _ _ => true
    | _ => false

/-- Partitions that a set's placement stages name. -/
def planParts (stages : List Stage) : List Nat :=
  stages.flatMap fun st => match st with
    | .record key _ =>
      if key / 2 ^ 24 = 2 then [if key % 2 ^ 24 < 512 then key % 2 ^ 24 / 8 else key % 2 ^ 24 - 0x1000] else []
    | .declare _ ws => [declPart ws]
    | .budget p _ _ _ => [p]
    | _ => []

/-- Tasks that a run sheds. -/
def shedBy (r : Run) : List Nat :=
  (upFrom 0 (r.entries.length / 2)).filterMap fun i =>
    if wBits r.entries (2 * i) 15 13 = 3 then some (wBits r.entries (2 * i) 8 0) else none

/-- The placement of a set: none where no run is needed; the run, and whether it refuses the commit (R118). -/
def State.commitRun (s : State) (stages : List Stage) : Option (Run × Bool) :=
  if !changesPlan stages then none
  else
    let x := s.scratch stages
    let r := x.placementRun 4 false [] x.runMhz
    let parts := planParts stages
    let other := (shedBy r).any fun t => s.taskPlaced t && !parts.contains (declPart (x.task t).decl)
    some (r, r.result == 2 || other)

/-- The first refusal among a set's stages. -/
def State.chkStages (s : State) (scope : Option Nat) (stages : List Stage) : Option (Nat × Nat) :=
  let x := s.scratch stages
  stages.findSome? fun st => s.chkStage x scope st

/-- Whether a set changes a configuration that R224 judges: records, declarations, budgets. -/
def configures (stages : List Stage) : Bool :=
  stages.any fun st => match st with
    | .record _ _ => true
    | .declare _ _ => true
    | .budget _ _ _ _ => true
    | .safety _ _ _ => true
    | _ => false

/-- What refuses a staged set: status and reason. -/
def State.chkCommit (s : State) (scope : Option Nat) (auth : Bool) (stages : List Stage) : Option (Nat × Nat) :=
  match s.chkStages scope stages with
  | some c => some c
  | none =>
    match s.chkSafety stages auth with
    | some c => some c
    | none =>
      if configures stages && (s.scratch stages).tooSilent then some (stBadArg, 0x0140) else
      match s.commitRun stages with
      | some (_, true) => some (stBadArg, 0x0101)
      | _ => none

/-! ### The pair (R92) -/

/-- Kinds of a prepared set: the manual names the word and not its codes. -/
def setKind (stages : List Stage) : Nat :=
  if isOnline stages then 4
  else if stages.any (fun st => match st with | .safety _ _ _ => true | .confirm _ _ => true | _ => false) then 5
  else if stages.any (fun st => match st with | .force _ _ _ => true | _ => false) then 2
  else if stages.any (fun st => match st with | .timeStep _ => true | _ => false) then 3
  else 1

/-- A stage on the link: the manual gives the staged set no layout. -/
def stageWords : Stage → List Word
  | .record key ws => [1, wd key, wd ws.length] ++ ws
  | .route k w => [2, wd k, w]
  | .declare t ws => [3, wd t, wd ws.length] ++ ws
  | .pin t p w => [4, wd t, wd p, wd w]
  | .place c f r k => [5, wd c, wd (b1 f), wd r, wd k]
  | .budget p t us q => [6, wd p, wd t, wd us, wd q]
  | .safety n off ws => [7, wd n, wd off, wd ws.length] ++ ws
  | .force a v on => [8, wd a, v, wd (b1 on)]
  | .timeStep ns => [9, hi32 (unsigned 64 ns), lo32 (unsigned 64 ns)]
  | .online ses => [10, wd ses]
  | .archive ws => [11, wd ws.length] ++ ws
  | .confirm n v => [12, wd n, v]

/-- Request tag of a commit on the link. -/
def tagOf (d : Deferred) : Nat := (d.mbx * 65536 + d.id % 65536) % 2 ^ 32

/-- Whether a session's commit waits. -/
def State.sessionBusy (s : State) (ses : Nat) : Bool :=
  ses != 0 && s.fw.commits.any fun c => c.ses == ses && c.at_.isNone

/-- The plan of an accepted set, due at station time `at_` (R108). -/
def State.planFor (s : State) (stages : List Stage) (at_ : Nat) : State :=
  let needs := changesPlan stages || isOnline stages
  let s1 :=
    if needs then
      let x0 := s.scratch []
      let x := match s.fw.online with
        | some o => if isOnline stages then x0.onlineCfg o else x0
        | none => x0
      let r := x.placementRun 4 false [] x.runMhz
      let s2 := s.submit r (lo32 at_)
      s2.notify 0x0280 none [wd s2.prt.reportId, wd r.shedTasks, wd r.placedTasks]
    else s
  stages.foldl (fun s st => match st with
    | .place cause full report point =>
      let r := s.placementRun cause full [] (pointMhz point)
      if r.result = 2 ∨ r.totals = false then s
      else
        let s2 := (s.writePlan r.words (lo32 at_)).setOp point
        { s2 with prt := { s2.prt with planReport := some report, restore := r.restore } }
    | _ => s) s1

/-- Reply words of an accepted set: the boundary, for CFG_COMMIT and ONLINE_CHANGE (R95). -/
def acceptReply (stages : List Stage) (ses at_ : Nat) : List Word :=
  if ses != 0 || setKind stages == 4 then [lo32 at_] else []

/-- A set accepted: it applies at the first boundary at least 1 ms from now, its session closes, its sender is answered. -/
def State.acceptSet (s : State) (c : Commit) : State :=
  let at_ := s.boundaryAfter 1000000
  let rest := s.fw.commits.filter fun x => x.who != c.who
  let s1 := { s with
    fw := { s.fw with
      commits := rest ++ [{ c with at_ := some at_ }]
      sessions := if c.ses = 0 then s.fw.sessions else SMap.set none c.ses none s.fw.sessions }
    saf := { s.saf with auth := if c.ses = 0 then s.saf.auth else s.saf.auth.filter (· != c.ses) } }
  let s2 := s1.planFor c.stages at_
  if c.who.mbx < 68 then s2.respond c.who (okAns (acceptReply c.stages c.ses at_)) else s2

/-- A set that passed its check is carried (R92): by the two phases with a partner in STANDBY, alone otherwise. -/
def State.carry (s : State) (c : Commit) : State :=
  let online := setKind c.stages == 4
  if s.partnerStandby then
    let s1 := { s with fw := { s.fw with commits := s.fw.commits ++ [c] } }
    s1.send .link 0x0350 ([wd (setKind c.stages), wd (tagOf c.who)] ++ c.stages.flatMap stageWords)
  else if online then { s with fw := { s.fw with commits := s.fw.commits ++ [c] } }
  else s.acceptSet c

/-- The commit that waits for the acknowledgement of a tag. -/
def State.waiting (s : State) (tag : Nat) : Option Commit :=
  s.fw.commits.find? fun c => c.at_.isNone && tagOf c.who == tag

/-- PAIR_ACK (R92): the commit is scheduled; an online change waits for its own load too. -/
def State.pairAck (s : State) (tag : Nat) : State :=
  match s.waiting tag with
  | none => s
  | some c =>
    if setKind c.stages = 4 ∧ (match s.fw.online with | some o => o.loaded | none => false) = false then
      { s with fw := { s.fw with commits := s.fw.commits.map fun x => if x = c then { x with acked := true } else x } }
    else s.acceptSet c

/-- A commit that applies on neither module ends: its session keeps its stages (R91). -/
def State.endSet (s : State) (c : Commit) (a : Answer) : State :=
  let s1 := { s with fw := { s.fw with
    commits := s.fw.commits.filter (· != c)
    online := if setKind c.stages = 4 then none else s.fw.online } }
  -- a change of the operating point is never refused (R574): its run is asked for again
  let s2 := c.stages.foldl (fun s st => match st with
    | .place 2 full _ _ => s.askPlacement 2 full
    | _ => s) s1
  if c.who.mbx < 68 then s2.respond c.who a else s2

/-- PAIR_NACK (R92). -/
def State.pairNack (s : State) (tag : Nat) (detail : Word) : State :=
  match s.waiting tag with
  | none => s
  | some c => s.endSet c ⟨stAborted, 0, [detail]⟩

/-- No acknowledgement within 20 ms (R92). -/
def State.ackTimeout (s : State) (tag : Nat) : State :=
  match s.waiting tag with
  | none => s
  | some c => if c.acked then s else s.endSet c (errAns stTimeout 0 0xFFFF)

/-! ### The leeward module (R92) -/

/-- A prepared set acknowledged: it applies at this module's boundary too. -/
def State.acknowledge (s : State) (tag : Nat) (stages : List Stage) : State :=
  ({ s.send .link 0x0351 [wd tag] with red := { s.red with
      prepared := s.red.prepared.filter fun p => p.tag != tag } }).acceptSet ⟨0, none, stages, none, true, ⟨255, tag⟩⟩

/-- A prepared set refused with a detail word. -/
def State.refuseSet (s : State) (tag : Nat) (detail : Word) : State :=
  { s.send .link 0x0352 [wd tag, detail] with red := { s.red with
      prepared := s.red.prepared.filter fun p => p.tag != tag } }

/-- The online change that a session of checked images names. -/
def State.onlineOf (s : State) (ses : Nat) : Option Online :=
  match SMap.get none ses s.fw.images with
  | some x =>
    let g := s.imgSlot 5 x.slot
    if x.type = 5 ∧ x.checked = true ∧ g.ok = true then
      some { body := g.body, slot := x.slot, parts := changedParts (s.image 5).body g.body }
    else none
  | none => none

/-- A type-5 session that the windward module forwards. -/
def State.pairSession (s : State) (f : ImgSes → Bool) : Option Nat :=
  (upFrom 1 4).find? fun n => match SMap.get none n s.fw.images with
    | some x => x.type == 5 && x.who == 66 && f x
    | none => false

/-- PAIR_PREPARE (R92): checked and acknowledged; an online change is acknowledged when the shadow banks are loaded. -/
def State.pairPrepare (s : State) (tag : Nat) (stages : List Stage) : State :=
  if s.mode != mStandby then s
  else if setKind stages = 4 then
    match (s.pairSession fun x => x.checked && x.slot != s.usedSlot 5).bind s.onlineOf with
    | none => s.refuseSet tag 0xFFFF0000
    | some o => { s with
        fw := { s.fw with online := some o }
        red := { s.red with prepared := s.red.prepared ++ [⟨tag, 4, stages⟩] } }
  else
    match s.chkCommit none true stages with
    | some (_, reason) => s.refuseSet tag (wd (0xFFFF0000 + reason))
    | none => s.acknowledge tag stages

/-- A prepared set that was not acknowledged within 19 ms is dropped (R92). -/
def State.dropPrepared (s : State) (tag : Nat) : State :=
  if s.red.prepared.any fun p => p.tag == tag then
    let s1 := s.refuseSet tag (wd 0xFFFF0109)
    { s1 with fw := { s1.fw with online := none } }
  else s

/-- The shadow banks of an online change are loaded (R169): the leeward module acknowledges; the windward module schedules
the swap when its partner has, or alone. -/
def State.shadowsLoaded (s : State) : State :=
  match s.fw.online with
  | none => s
  | some o =>
    if o.loaded then s
    else
      let s1 := { s.loadShadows o.body (s.imgSlot 5 o.slot).digest o.parts with fw := { s.fw with online := some { o with loaded := true } } }
      match s1.red.prepared.find? fun p => p.kind == 4 with
      | some p => s1.acknowledge p.tag p.stages
      | none =>
        match s1.fw.commits.find? fun c => c.at_.isNone && setKind c.stages == 4 with
        | some c => if c.acked || !s1.partnerStandby then s1.acceptSet c else s1
        | none => s1

/-! ### The boundary -/

/-- CFG_APPLIED to those whom the session concerns (R89). -/
def State.tellApplied (s : State) (c : Commit) : State :=
  if c.ses = 0 then s else s.notify 0x0181 c.scope [wd c.ses, lo32 s.time]

/-- The commits that are due at this trade-cycle boundary, in the order of their acceptance (R91). -/
def State.applyCommits (s : State) : State :=
  let due := fun (c : Commit) => match c.at_ with | some t => decide (t ≤ s.time) | none => false
  let now := s.fw.commits.filter due
  let s0 := { s with fw := { s.fw with commits := s.fw.commits.filter fun c => !due c } }
  now.foldl (fun s c => (s.applyStages c.scope c.who.mbx c.stages).tellApplied c) s0

/-! ### Placement runs (R127) -/

/-- PLACEMENT_DONE: with a partner in STANDBY the plan is carried over the two phases (R108). No run acts in SELFTEST (R568). -/
def State.placementDone (s : State) : State :=
  match (if s.mode = mSelftest then [] else s.prt.placing) with
  | [] => s
  | x :: rest =>
    if !(s.partnerStandby && s.hasClaim) then s.endRun
    else
      let s0 := { s with prt := { s.prt with placing := rest } }
      let k := s0.runPoint x.cause
      let r := s0.placementRun x.cause x.halted [] (pointMhz k)
      let s1 := s0.fileReport r s0.nextSeq
      let id := s1.prt.reportId
      let s2 := s1.notify 0x0280 none [wd id, wd r.shedTasks, wd r.placedTasks]
      let bad := r.result == 2
      let s3 := { s2 with sys := { s2.sys with placeBad := bad || s2.bankFatal } }
      if bad then (if s3.runFaults x.cause then (s3.setOp k).fault44 130 id else s3.setOp k)
      else s3.carry ⟨0, none, [.place x.cause x.halted id k], none, false, ⟨255, id⟩⟩

end Sys2Proof.Machine
end

