-- ==== Sys2Proof/Machine/Boot.lean ====
section
/-! DEFINITION. Start-up (R47 to R55, R601 to R612): what the steps of boot do, the exit from BOOT, and the decision which
module takes the station. -/

namespace Sys2Proof.Machine

/-! ### The steps of boot (R49) -/

/-- Step 4: the configuration image, if it is valid, and the split mask (R52). -/
def State.bootConfig (s : State) : State :=
  let b := s.bootBody 4
  let mask := (match s.nv.splitReq with | some m => m | none => b.split) % 16
  let both := (upFrom 0 4).map fun p => if mask.testBit p then 3 * 4 ^ p else 0
  let s1 := { s with
    cfg := b.records.foldl (fun (m : List (Nat × List Word)) (e : Nat × List Word) => SMap.set [] e.1 e.2 m) []
    sys := { s.sys with cfgValid := s.bootValid 4, node := b.node, peer := b.peer, vessel := b.vessel, pliuz := b.pliuz }
    nv := { s.nv with splitReq := none }
    alm := { s.alm with cfg := b.alarms, squall := b.squall }
    red := { s.red with wits := (b.served.take 8).foldl (fun (m : List (Nat × WitRec)) (e : Nat × Nat) =>
      SMap.set {} e.1 { nodeE := e.1, nodeO := e.2 } m) [] } }
  let medium := wBit (s1.rec_ 0x0F 0) 0 0
  ((((({ s1 with sys := { s1.sys with medium := medium } }).put Fld.SYS_CFG_split mask).put Fld.SYS_CFG_split_req mask).put
    Fld.PRT_LANES_split (both.foldl (· + ·) 0)).flag Fld.RED_STATE_medium medium)

/-- The marks that MRAM keeps (R20, R186, R567): an unusable pair stays out, and so does one whose pair-local bank is
unusable. -/
def State.bootMarks (s : State) : State :=
  let bad := (upFrom 0 4).filter fun p => s.nv.pairMarks.testBit p || s.nv.bankMarks.testBit (6 + p)
  let good := 15 - (bad.map fun p => 2 ^ p).foldl (· + ·) 0
  let lanes := ((upFrom 0 4).map fun p =>
    if good.testBit p then (if s.fbit Fld.SYS_CFG_split p then 3 * 4 ^ p else 4 ^ p) else 0).foldl (· + ·) 0
  let s1 := (s.put Fld.LKS_CFG_usable good).put Fld.PRT_LANES_usable lanes
  let s2 := (upFrom 0 4).foldl (fun s p =>
    (s.put (Fld.LKS_PSTAT_state p) (if good.testBit p then (if s.fbit Fld.SYS_CFG_split p then 1 else 0) else 4)).put
      (Fld.LKS_PSTAT_fails p) (SMap.get 0 p s.nv.pairFails)) s1
  let s3 := ((s2.put Fld.BST_MARKS_pairs s2.nv.pairMarks).put Fld.BST_MARKS_banks s2.nv.bankMarks).put Fld.BST_MARKS_pins
    s2.nv.pinMarks
  if s3.nv.pairMarks ≠ 0 ∨ s3.nv.bankMarks ≠ 0 ∨ s3.nv.pinMarks ≠ 0 then s3.degrade else s3

/-- The bank-15 share and the DRAM area of each partition until the next reset (R101, R125). -/
def State.bootRooms (s : State) : State :=
  { s with prt := { s.prt with room := (upFrom 0 64).foldl (fun (m : List (Nat × (Nat × Nat))) p =>
      let r := s.rec_ 2 (0x1000 + p)
      SMap.set (0, 0) p ((wAt r 8).toNat, (wAt r 9).toNat) m) [] } }

/-- The ceilings, the right to counters and the windows of one partition (R101, R103). -/
def State.bootPart (s : State) (p : Nat) : State :=
  let r := s.rec_ 2 (0x1000 + p)
  let s1 := ((((s.setReg (Reg.PRT_CEIL_TIME p) (wAt r 0)).setReg (Reg.PRT_CEIL_DRAM p) (wAt r 1)).setReg (Reg.PRT_CEIL_Q0 p)
    (wAt r 2)).setReg (Reg.PRT_CEIL_Q1 p) (wAt r 3)).setReg (Reg.PRT_PFCRIGHT p) (wAt r 4)
  s1.writeWindows p 0 (s1.bootWins (s.bootBody 4).sysPage p)

/-- Step 5: the set-up of partition 0, and the agreed regions (R49, R101, R179). -/
def State.bootFirst (s : State) : State :=
  let region := fun (s : State) (k base size : Nat) =>
    (s.setReg (Reg.LKS_AGR_BASE k) (wd (2 ^ 31 + base / 4096))).setReg (Reg.LKS_AGR_SIZE k) (wd (size / 4096 - 1))
  region (region (region (region (s.bootRooms.bootPart 0) 0 0x40000000 0x160000) 1 0x10000000 0xA00000) 2 0x100000000
    0x120000) 3 (largeAddr 0) 0x10000000

/-- Step 8: the set-up of partitions 1 to 63 (R49). -/
def State.bootOthers (s : State) : State := (upFrom 1 63).foldl State.bootPart s

/-- What station firmware reads from MRAM at step 7 (R61, R213, R223, R498, R566, R572 to R576). -/
def State.bootNv (s : State) : State :=
  let s1 := (((s.setReg Reg.RED_VEERS s.nv.veers).put Fld.RED_LULL_last s.nv.lull).put Fld.RED_RESYNC_count s.nv.resyncs)
  let s2 := ((((s1.put Fld.AGE_OP_ageing s1.nv.ageingPoint).put Fld.AGE_OP_station s1.nv.ageingPoint).put Fld.AGE_ESR_base
    s1.nv.esrBase).put Fld.AGE_SCAP_base s1.nv.scapBase).put Fld.AGE_MOVES_ageing s1.nv.ageingMoves
  s2.fileCut.bootSafety.scanRing

/-- Registers that the die, the module and the backplane load at the release of reset (R61). -/
def State.loadFuses (s : State) : State :=
  let p := s.sys.pins
  let s1 := (s.put Fld.SYS_ID_die_rev (Config.dieRev % 256)).put Fld.SYS_ID_mod_rev (Config.modRev % 256)
  let s2 := (upFrom 0 22).foldl (fun s b => s.put (Fld.BLK_BLKID_irev b) (Config.irev b % 256)) s1
  let s3 := (((s2.put Fld.SYS_SLOT_slot p.slot).flag Fld.SYS_SLOT_even p.even).flag Fld.SYS_SLOT_pair p.pair).flag
    Fld.SYS_SLOT_partner_in p.partnerIn
  s3.sfp.foldl (fun s e => s.showCage e.1) s3

/-- Registers that the configuration loads (R61, R76, R195, R233, R391, R543). -/
def State.bootRegs (s : State) : State :=
  let s3 := (upFrom 0 68).foldl (fun s m =>
    ((s.flag (Fld.MBX_OWNER_en m) true).put (Fld.MBX_OWNER_part m) (if m < 64 then m else 0)).put (Fld.MBX_NTFMASK_classes m)
      (if m = 0 ∨ m = 64 then 0xFF else if m = 67 then 0x0D else 0)) s
  let s4 := (s3.put Fld.RED_PVER_major (Config.pverMajor % 256)).put Fld.RED_PVER_minor (Config.pverMinor % 256)
  let s5 := (upFrom 0 6).foldl (fun s p =>
    (s.put (Fld.TU_PORTCORR_ingress p) (unsigned 16 (if p < 4 then -328 else -72))).put (Fld.TU_PORTCORR_egress p)
      (if p < 4 then 196 else 56)) s4
  let gamma := [4, 17, 41, 76, 125, 186, 262, 351, 455, 574, 708, 857, 1022, 1203, 1400]
  let s6 := (upFrom 0 15).foldl (fun s g => s.put (Fld.PNL_GAMMA_width (g + 1)) (gamma.getD g 0)) s5
  let s7 := (upFrom 0 256).foldl (fun s i => s.setReg (Reg.PNL_PRE i) (Config.preEntry i)) s6
  let s8 := (upFrom 1 14).foldl (fun s k =>
    let r := s.rec_ 4 (0x2100 + k)
    (s.flag (Fld.QE_P_ID_en k) (wBit r 0 8)).put (Fld.QE_P_ID_part k) (wBits r 0 5 0)) s7
  s8.applyPairRec

/-- Step 7: the application image, if it is valid, and the placement, for the ceilings that step 8 writes (R49, R126). -/
def State.bootApp (s : State) : State :=
  let b := s.bootBody 5
  let s1 := b.tasks.foldl (fun s a => (s.setTask a.task { decl := a.decl, app := some a }).showTask a.task)
    ({ s with sys := { s.sys with appValid := s.bootValid 5 } })
  let s2 := b.code.foldl (fun s e => s.setWords (s.codeBank e.1 0) (b.bankWords (s.image 5).digest e.1)) s1
  let r := s2.bootOthers.placementRun 0 false [] s2.runMhz
  let s3 := s2.submit r 0
  { s3 with sys := { s3.sys with placeBad := r.result == 2 || s3.bankFatal } }

/-- The reset record of a cause that wrote none before (R54, R55): word 6 names a failing step. -/
def State.bootRecord (s : State) (step : Nat) : State :=
  let cause := s.fld Fld.SYS_RSTCAUSE_cause
  match s.nv.rstRec with
  | some ws =>
    let ws1 := ws.set 4 (wd s.nv.boots)
    s.writeResetRecord (if step = 0 then ws1 else ws1.set 6 (wd step))
  | none => if recordsBefore cause && step == 0 then s else s.writeResetRecord (s.resetWords cause step)

/-- An image that stands in its slot and fails its check. -/
def State.bootBad (s : State) (type : Nat) : Bool := (s.image type).size != 0 && !s.bootValid type

/-- What the reset record of this boot names: the step that failed, among them that of an image that fails its check (R49,
R51). -/
def State.bootDetail (s : State) (failed : Nat) : Nat :=
  if failed ≠ 0 then failed else if s.bootBad 4 then 4 else if s.bootBad 5 then 7 else 0

/-- The records of what the reset won over (R46). -/
def State.recordDropped (s : State) : State :=
  { s with evr := { s.evr with inbox := s.evr.inbox ++ s.nv.dropped }, nv := { s.nv with dropped := [] } }

/-- Step 7: the reset record, the persistent state, the registers and records of the configuration, the application. -/
def State.bootFirmware (s : State) (failed : Nat) : State :=
  let s1 := (s.bootRecord (s.bootDetail failed)).recordDropped.bootRegs.bootNv
  (s1.cfg.foldl (fun s e => s.applyRec (e.1 / 2 ^ 24) (e.1 % 2 ^ 24) []) s1).bootApp

/-- The steps of boot before step `n` (R49): the first three leave nothing that the model holds. -/
def State.bootTo (s : State) (n failed : Nat) : State :=
  let s4 := if 4 < n then s.bootConfig.bootMarks else s
  let s5 := if 5 < n then s4.bootFirst else s4
  let s7 := if 7 < n then s5.bootFirmware failed else s5.bootRecord failed
  if 8 < n then s7.bootOthers.flag Fld.PRT_LOCK_lock true else s7

/-- RESET_RELEASE (R49, R601): with a logic input present and PRES_S closed for 100 ms, steps 1 to 8, or up to a step that
fails. `bootB`, `fwB`: boot code, and station firmware, came
from slot B. -/
def State.releaseReset (s : State) (failed : Nat) (bootB fwB : Bool) : State :=
  if s.mode != mBoot || s.sys.wait != .booting || !s.sys.pins.seated || !(s.sys.pins.in0 || s.sys.pins.in1) then s
  else
    let s0 := { s.loadFuses with
      nv := { s.nv with boots := s.nv.boots + 1 }, pnl := { s.pnl with litFrom := s.clk, usedAt := s.clk, frameAt := s.clk } }
    let s1 := ((s0.put Fld.SYS_RSTCAUSE_boots (s0.nv.boots % 65536)).flag Fld.SYS_BOOT_fallback (bootB || fwB)).flag
      Fld.SYS_BOOT_slot bootB
    if 1 ≤ failed ∧ failed ≤ 8 then
      let s2 := (s1.bootTo failed failed).put Fld.SYS_BOOT_step (failed - 1)
      { s2 with sys := { s2.sys with wait := .stepFailed failed } }
    else
      let s2 := (s1.bootTo 9 0).put Fld.SYS_BOOT_step 8
      { s2 with sys := { s2.sys with wait := .none, startShown := true } }

/-! ### The exit from BOOT (R47, R612) -/

/-- The module stays in BOOT and waits; the seconds of a new wait begin again (R47). -/
def State.waitFor (s : State) (w : StartWait) : State :=
  { s with sys := { s.sys with wait := w, polls := if s.sys.wait = w then s.sys.polls else 0 } }

/-- The first mode is chosen: step 9 of boot is done. -/
def State.leaveBoot (s : State) (m : Nat) : State :=
  let s1 := { s.put Fld.SYS_BOOT_step 9 with
    sys := { s.sys with wait := .none, startShown := false, polls := 0 }, red := { s.red with ask := none } }
  if m = mActive then { s1 with sys := { s1.sys with modeAt := some (mActive, 255) } } else s1.enterMode m

/-- RESYNC entered at the end of boot: phase 1 begins (R228). -/
def State.beginResync (s : State) : State :=
  let s1 := (s.leaveBoot mResync).put Fld.RED_RESYNC_phase 1
  { s1 with red := { s1.red with resyncAt := s1.time } }

/-- The mode of the exit that holds for a module granted windward (exits 2, 4, 6, 7 and 8 of R612). -/
def State.exitMode (s : State) : Nat :=
  if s.sys.commReq || !s.sys.cfgValid || (s.bootBody 4).startCommission then mCommission
  else if s.sys.placeBad then mSafe
  else mActive

/-- The module is granted windward with claim `n` (R47, step 8). -/
def State.startWindward (s : State) (n : Word) : State := (s.raiseClaim n).leaveBoot s.exitMode

/-- The claim one above the highest that the module holds or has seen; at 0xFFFF_FFFF no claim can be raised (R213). -/
def State.startAbove (s : State) : State :=
  match claimAbove s.highClaim with
  | some n => s.startWindward n
  | none => s.waitFor .claimHeard

/-- WIT_ASK with cause `c` (R209): high word of station time first. -/
def State.askWords (s : State) (c : Nat) : List Word :=
  [wd s.stationNode, wd s.sys.node, s.highClaim, wd c, hi32 s.time, lo32 s.time]

/-- The module asks the witness for the grant at start-up (R47). -/
def State.startAsk (s : State) : State :=
  let s1 := { s with sys := { s.sys with wait := .asking, polls := 0 }, red := { s.red with ask := some ⟨2, false⟩ } }
  if s1.witnesses.isEmpty then s1 else s1.send (.witness s1.witPrimary) 0x0340 (s1.askWords 2)

/-- A partner's answer: its mode, and the claim it drives. -/
abbrev PeerAnswer := Option (Nat × Word)

/-- Steps 1 to 7 of R47. -/
def State.decideClaim (s : State) (ans : PeerAnswer) : State :=
  if !s.sys.pins.pair then s.startAbove
  else
    match ans with
    | none => s.startAsk
    | some (m, claim) =>
      if m = mActive then s.beginResync
      else if m = mBoot then (if s.sys.pins.even then s.startAsk else s.waitFor .odd)
      else if (m = mSafe ∨ m = mCommission) ∧ claim ≠ 0 then
        s.waitFor (if m = mSafe then .partnerSafe else .partnerCommission)
      else if m = mStandby ∨ m = mResync then (if s.sys.wait = .partnerStandby ∧ 10 ≤ s.sys.polls then s.startAsk
        else s.waitFor .partnerStandby)
      else s.startAsk

/-- What the module learns from an answer of its partner. -/
def State.learnPeer (s : State) (ans : PeerAnswer) : State :=
  match ans with
  | none => s.flag Fld.SYS_STAT_partner false
  | some (m, claim) =>
    { (s.flag Fld.SYS_STAT_partner true).setReg Reg.RED_CLAIM_PEER claim with red := { s.red with peerMode := m, peerClaimed := claim != 0 } }

/-- The exits of R612 in their order. -/
def State.decideExit (s0 : State) (ans : PeerAnswer) : State :=
  let s := s0.learnPeer ans
  let inPair := match ans with | some (m, _) => m == mActive || m == mStandby || m == mResync | none => false
  let active := match ans with | some (m, _) => m == mActive | none => false
  if s.nv.service then s.leaveBoot mService
  else if s.sys.commReq && inPair then s.leaveBoot mCommission
  else if active && s.sys.pins.pair then s.beginResync
  else if !s.sys.commReq && s.sys.cfgValid && !s.sys.appValid then s.leaveBoot mService
  else s.decideClaim ans

/-- BOOT_COMPLETE: boot has ended, and the partner has answered or not within 2 s (R47). -/
def State.bootComplete (s : State) (ans : PeerAnswer) : State :=
  if s.mode != mBoot || s.sys.wait != .none || s.fld Fld.SYS_BOOT_step != 8 then s
  else (if s.sys.pins.pair then s.decideExit ans else s.decideExit none)

/-- PARTNER_POLL: a module that waits asks again after a second (R47). -/
def State.partnerPoll (s0 : State) (ans : PeerAnswer) : State :=
  let waits := [StartWait.odd, .partnerSafe, .partnerCommission, .partnerStandby, .claimHeard]
  if s0.mode != mBoot then s0
  else if waits.contains s0.sys.wait then
    let s := (s0.advance 250000000)
    ({ s with sys := { s.sys with polls := s.sys.polls + 1 } }).decideExit ans
  else if s0.sys.wait = .witnessAbsent then
    let s := (s0.advance 250000000).learnPeer ans
    let s1 := { s with red := { s.red with ask := some ⟨2, false⟩ } }
    if s1.witnesses.isEmpty then s1 else s1.send (.witness s1.witPrimary) 0x0340 (s1.askWords 2)
  else s0

/-- WITNESS_ABSENT_TIMEOUT: no answer of the witness within 5 s (R47, step 10). -/
def State.witnessAbsent (s : State) : State := if s.sys.wait = .asking then s.waitFor .witnessAbsent else s

/-- A grant at start-up (R47, step 8). -/
def State.startGrant (s : State) (claim : Word) : State :=
  if s.mode == mBoot && s.red.ask.isSome then s.startWindward claim else s

/-- A refusal at start-up (R47, step 9). -/
def State.startRefuse (s : State) (witness reason : Nat) (highest : Word) : State :=
  if s.mode != mBoot || s.red.ask.isNone then s
  else
    let s0 := { s with red := { s.red with ask := none } }
    if reason = 1 then s0.waitFor .claimHeard
    else if reason = 2 then (s0.keepClaim highest).startAsk
    else (s0.record 3 47 witness 0 0 0xFF []).waitFor .notOfPair

/-- The witness override (R48): the module starts without the grant, with a record that names it. -/
def State.overrideWitness (s : State) : State :=
  if s.mode == mBoot && s.sys.wait == .witnessAbsent then
    (s.record 1 48 2 0 0 67 [wd s.sys.pins.slot]).startAbove
  else s

/-- The start mode override (R48). -/
def State.overrideStart (s : State) : State :=
  if s.mode == mBoot && s.sys.startShown && !s.sys.commReq then
    let s1 := s.record 1 48 1 0 0 67 [wd s.sys.pins.slot]
    { s1 with sys := { s1.sys with commReq := true } }
  else s

/-! ### Supply and resets (R54, R600) -/

/-- POWER_ON: the module comes out of reset with nothing of its running state; its record has no time. -/
def State.powerOn (s : State) : State :=
  let s1 := { s with sys := { s.sys with pins := { s.sys.pins with in0 := true, in1 := true } } }
  let s2 := s1.afterReset rcPowerOn
  { s2 with nv := { s2.nv with rstRec := some (s2.resetWords rcPowerOn 0) } }

/-- SUPPLY_LOSS: both inputs fall below 18 V, and neither is missing yet for that (R600). A windward module with its partner in STANDBY yields; staged records go to
MRAM, at least 1 500 of them and `more` beyond, and so do the retain ranges (R54, R160, R225, R503). -/
def State.supplyLoss (s : State) (more : Nat) : State :=
  if s.sys.holdup then s
  else
    let s1 := { s with sys := { s.sys with holdup := true } }
    let s2 := s1.put Fld.PNL_STAT_state 4
    let s3 := if s2.canYield && s2.hasClaim then s2.yieldVeer 2 else s2
    (s3.declared.foldl (fun s t => if s.taskPlaced t then s.saveRetain t else s) s3).flushStaging (1500 + more)

/-- The state that the reset record of a supply loss shows: a module in ACTIVE or COMMISSION without a partner in STANDBY is
in SAFE for that record only (R44). -/
def State.exhausted (s : State) : State :=
  if (s.mode == mActive || s.mode == mCommission) && !s.partnerStandby then s.put Fld.SYS_MODE_mode mSafe else s

/-- HOLDUP_EXPIRY: the 20 ms have run out, and both inputs have long been missing. What staging still holds is lost and
counted (R503). -/
def State.holdupExpiry (s : State) : State :=
  if s.sys.holdup then
    let x := s.exhausted
    ({ x with
      nv := { x.nv with evLost := s.evr.staging.length + s.evr.lost }
      sys := { x.sys with pins := { x.sys.pins with in0 := false, in1 := false } } }).resetModule rcSupply 0
  else s

/-- A hold-up that ends with the supply back: a panel that was off for it starts again (R545; log entry 158). -/
def State.endHoldup (s : State) : State :=
  let s1 := { s with sys := { s.sys with holdup := false } }
  if s1.fld Fld.PNL_STAT_state != 4 then s1
  else if s1.isSet Fld.PNL_DRIVE_pump then
    let s2 := s1.put Fld.PNL_STAT_state 1
    { s2 with pnl := { s2.pnl with rampAt := some s2.clk } }
  else s1.put Fld.PNL_STAT_state 0

/-- LOGIC_INPUT_CHANGE: input `n` goes missing or returns (R600). An input that returns ends the hold-up; with neither left
the hold-up runs. -/
def State.logicInput (s : State) (n : Nat) (present : Bool) : State :=
  let p := s.sys.pins
  let p1 := if n = 0 then { p with in0 := present } else { p with in1 := present }
  let was := if n = 0 then p.in0 else p.in1
  let s0 := { s with sys := { s.sys with pins := p1 } }
  let s1 := if present && s0.sys.holdup then s0.endHoldup else s0
  if was == present then s1
  else if present then s1.clearAlert 600 n
  else
    let s2 := (s1.note 1 600 n).raiseAlert 600 n
    if p1.in0 || p1.in1 then s2 else s2.supplyLoss 0

end Sys2Proof.Machine
end

