-- ==== Sys2Proof/Machine/ExecBoot.lean ====
section
/-! DEFINITION. The meanings of the commands of supply, resets and start-up (R42 to R55, R187, R600, R612). -/

namespace Sys2Proof.Machine

/-- An answer of the partner, as a command carries it. -/
def peerAnswer (a : Option (Fin 8 × Word)) : PeerAnswer := a.map fun x => (x.1.val, x.2)

/-- POWER_ON (R54, cause 0). -/
def execPowerOn (s : State) : Res :=
  s.powerOn.done

/-- SUPPLY_LOSS (R54, R225, R503): the staged records written in the hold-up beyond the 1 500 that R503 promises. -/
def execSupplyLoss (more : BitVec 16) (s : State) : Res :=
  (s.supplyLoss more.toNat).done

/-- HOLDUP_EXPIRY (R54, cause 1). -/
def execHoldupExpiry (s : State) : Res :=
  s.holdupExpiry.done

/-- LOGIC_INPUT_CHANGE (R600). -/
def execLogicInputChange (input : Fin 2) (present : Bool) (s : State) : Res :=
  (s.logicInput input present).done

/-- MGMT_WATCHDOG_EXPIRY (R54, cause 2). -/
def execMgmtWatchdogExpiry (s : State) : Res :=
  (s.resetModule rcWatchdog 0).done

/-- MGMT_LOCKSTEP_FAIL (R187; R54, cause 3). -/
def execMgmtLockstepFail (s : State) : Res :=
  (s.resetModule rcLockstep 0).done

/-- OVER_TEMP_RESET (R54, cause 10): the die temperature in 0.1 °C is the detail of the record (R55). -/
def execOverTempReset (temp : BitVec 16) (s : State) : Res :=
  ((s.put Fld.SYS_TEMP_now temp.toNat).resetModule rcTemp temp.toNat).done

/-- FATAL_ECC_RESET (R54, cause 9): the unit is the detail of the record (R55). -/
def execFatalEccReset (unit : BitVec 16) (s : State) : Res :=
  (s.resetModule rcEcc unit.toNat).done

/-- RESET_RELEASE (R49): the step that failed, 0 for none, and what came from slot B. -/
def execResetRelease (failed : Fin 9) (bootB fwB : Bool) (s : State) : Res :=
  (s.releaseReset failed bootB fwB).done

/-- BOOT_COMPLETE (R47, R612): the partner's answer within 2 s. -/
def execBootComplete (answer : Option (Fin 8 × Word)) (s : State) : Res :=
  (s.bootComplete (peerAnswer answer)).done

/-- PARTNER_POLL (R47). -/
def execPartnerPoll (answer : Option (Fin 8 × Word)) (s : State) : Res :=
  (s.partnerPoll (peerAnswer answer)).done

/-- WITNESS_ABSENT_TIMEOUT (R47, step 10). -/
def execWitnessAbsentTimeout (s : State) : Res :=
  s.witnessAbsent.done

/-- COMMISSION_CONFIRM_TIMEOUT (R43). -/
def execCommissionConfirmTimeout (s : State) : Res :=
  s.confirmTimeout.done

end Sys2Proof.Machine
end

