-- ==== Sys2Proof/Machine/ExecCode.lean ====
section
/-! DEFINITION. The meanings of the block-code instructions (R145 to R154), one for each row: each names the lane that
executes it and the instruction's fields. The instruction stands at the lane's pc. -/

namespace Sys2Proof.Machine

/-- ADDI (R145): g[d] := g[a] + the sign-extended immediate. -/
def execAddi (lane : Fin 8) (d a : Fin 32) (imm : BitVec 16) (s : State) : Res :=
  (s.immediate lane 3 d a imm.toNat fun x => x + imm.signExtend 64).done

/-- ANDI (R145): g[d] := g[a] AND the zero-extended immediate. -/
def execAndi (lane : Fin 8) (d a : Fin 32) (imm : BitVec 16) (s : State) : Res :=
  (s.immediate lane 4 d a imm.toNat fun x => x &&& imm.setWidth 64).done

/-- ORI (R145): g[d] := g[a] OR the zero-extended immediate. -/
def execOri (lane : Fin 8) (d a : Fin 32) (imm : BitVec 16) (s : State) : Res :=
  (s.immediate lane 5 d a imm.toNat fun x => x ||| imm.setWidth 64).done

/-- XORI (R145): g[d] := g[a] XOR the zero-extended immediate. -/
def execXori (lane : Fin 8) (d a : Fin 32) (imm : BitVec 16) (s : State) : Res :=
  (s.immediate lane 6 d a imm.toNat fun x => x ^^^ imm.setWidth 64).done

/-- LIT (R145): the literal word that follows, sign-extended. -/
def execLit (lane : Fin 8) (d : Fin 32) (literal : BitVec 32) (s : State) : Res :=
  (s.literal lane d literal).done

/-- LD (R145, R149). -/
def execLd (lane : Fin 8) (d : Fin 32) (base : Fin 8) (a : Fin 32) (t : Fin 8) (off : BitVec 10) (s : State) : Res :=
  (s.loadInstr lane d base a t off.toNat).done

/-- ST (R145, R149, R158). -/
def execSt (lane : Fin 8) (d : Fin 32) (base : Fin 8) (a : Fin 32) (t : Fin 8) (off : BitVec 10) (s : State) : Res :=
  State.doneOr (s.stKey lane base a t off.toNat) (s.storeInstr lane d base a t off.toNat)

/-- LEA (R145). -/
def execLea (lane : Fin 8) (d : Fin 32) (base : Fin 8) (a : Fin 32) (t : Fin 8) (off : BitVec 10) (s : State) : Res :=
  (s.lea lane d base a t off.toNat).done

/-- CHK (R145): traps BOUNDS where g[a] is not below g[b], unsigned. -/
def execChk (lane : Fin 8) (a b : Fin 32) (s : State) : Res :=
  (s.check lane a b).done

/-- TIME (R150). -/
def execTime (lane : Fin 8) (d : Fin 32) (s : State) : Res :=
  (s.timeInstr lane d).done

/-- BR (R145). -/
def execBr (lane : Fin 8) (disp : BitVec 26) (s : State) : Res :=
  (s.branch lane (fun _ => true) (fun _ => disp.toInt)).done

/-- BZ (R145). -/
def execBz (lane : Fin 8) (a : Fin 32) (disp : BitVec 21) (s : State) : Res :=
  (s.branch lane (fun e => e.get a == 0) (fun _ => disp.toInt)).done

/-- BNZ (R145). -/
def execBnz (lane : Fin 8) (a : Fin 32) (disp : BitVec 21) (s : State) : Res :=
  (s.branch lane (fun e => e.get a != 0) (fun _ => disp.toInt)).done

/-- JT (R145): entry min(g[a], n) of the table that follows. -/
def execJt (lane : Fin 8) (a : Fin 32) (n : BitVec 21) (s : State) : Res :=
  (s.branch lane (fun _ => true) (fun e => (min (e.get a).toNat n.toNat : Nat))).done

/-- CALL (R154). -/
def execCall (lane : Fin 8) (disp : BitVec 26) (s : State) : Res :=
  (s.call lane (encJ 0x14 disp.toNat) disp.toInt fun e => e.ib).done

/-- CALLFB (R154). -/
def execCallfb (lane : Fin 8) (a : Fin 32) (disp : BitVec 21) (s : State) : Res :=
  (s.call lane (encB 0x15 a disp.toNat) disp.toInt fun e => e.get a).done

/-- RET (R154). -/
def execRet (lane : Fin 8) (s : State) : Res :=
  (s.ret lane).done

/-- ENTER (R154). -/
def execEnter (lane : Fin 8) (imm : BitVec 16) (s : State) : Res :=
  (s.enter lane imm.toNat).done

/-- TRAP (R151): the trap USER with its code. -/
def execTrap (lane : Fin 8) (imm : BitVec 16) (s : State) : Res :=
  (s.userTrap lane imm.toNat).done

/-- BRK (R152). -/
def execBrk (lane : Fin 8) (s : State) : Res :=
  (s.brk lane).done

/-- NOP (R145). -/
def execNop (lane : Fin 8) (s : State) : Res :=
  (s.nopInstr lane).done

/-- ADD (R146). -/
def execAdd (lane : Fin 8) (d a b : Fin 32) (t : Fin 8) (s : State) : Res :=
  (s.alu lane d a b t 0x00 Alu.add).done

/-- SUB (R146). -/
def execSub (lane : Fin 8) (d a b : Fin 32) (t : Fin 8) (s : State) : Res :=
  (s.alu lane d a b t 0x01 Alu.sub).done

/-- MUL (R146). -/
def execMul (lane : Fin 8) (d a b : Fin 32) (t : Fin 8) (s : State) : Res :=
  (s.alu lane d a b t 0x02 Alu.mul).done

/-- DIV (R147). -/
def execDiv (lane : Fin 8) (d a b : Fin 32) (t : Fin 8) (s : State) : Res :=
  (s.divide lane d a b t 0x03 Alu.div).done

/-- MOD (R147). -/
def execMod (lane : Fin 8) (d a b : Fin 32) (t : Fin 8) (s : State) : Res :=
  (s.divide lane d a b t 0x04 Alu.mod).done

/-- ADDS (R146). -/
def execAdds (lane : Fin 8) (d a b : Fin 32) (t : Fin 8) (s : State) : Res :=
  (s.alu lane d a b t 0x05 Alu.adds).done

/-- SUBS (R146). -/
def execSubs (lane : Fin 8) (d a b : Fin 32) (t : Fin 8) (s : State) : Res :=
  (s.alu lane d a b t 0x06 Alu.subs).done

/-- MULS (R146). -/
def execMuls (lane : Fin 8) (d a b : Fin 32) (t : Fin 8) (s : State) : Res :=
  (s.alu lane d a b t 0x07 Alu.muls).done

/-- AND (R146). -/
def execAnd (lane : Fin 8) (d a b : Fin 32) (t : Fin 8) (s : State) : Res :=
  (s.alu lane d a b t 0x08 Alu.and_).done

/-- OR (R146). -/
def execOr (lane : Fin 8) (d a b : Fin 32) (t : Fin 8) (s : State) : Res :=
  (s.alu lane d a b t 0x09 Alu.or_).done

/-- XOR (R146). -/
def execXor (lane : Fin 8) (d a b : Fin 32) (t : Fin 8) (s : State) : Res :=
  (s.alu lane d a b t 0x0A Alu.xor_).done

/-- NOT (R146). -/
def execNot (lane : Fin 8) (d a : Fin 32) (t : Fin 8) (s : State) : Res :=
  (s.alu1 lane d a t 0x0B Alu.not_).done

/-- SHL (R146). -/
def execShl (lane : Fin 8) (d a b : Fin 32) (t : Fin 8) (s : State) : Res :=
  (s.alu lane d a b t 0x0C Alu.shl).done

/-- SHR (R146). -/
def execShr (lane : Fin 8) (d a b : Fin 32) (t : Fin 8) (s : State) : Res :=
  (s.alu lane d a b t 0x0D Alu.shr).done

/-- ROL (R146). -/
def execRol (lane : Fin 8) (d a b : Fin 32) (t : Fin 8) (s : State) : Res :=
  (s.alu lane d a b t 0x0E Alu.rol).done

/-- ROR (R146). -/
def execRor (lane : Fin 8) (d a b : Fin 32) (t : Fin 8) (s : State) : Res :=
  (s.alu lane d a b t 0x0F Alu.ror).done

/-- EQ (R146). -/
def execEq (lane : Fin 8) (d a b : Fin 32) (t : Fin 8) (s : State) : Res :=
  (s.alu lane d a b t 0x10 Alu.eq).done

/-- NE (R146). -/
def execNe (lane : Fin 8) (d a b : Fin 32) (t : Fin 8) (s : State) : Res :=
  (s.alu lane d a b t 0x11 Alu.ne).done

/-- LT (R146). -/
def execLt (lane : Fin 8) (d a b : Fin 32) (t : Fin 8) (s : State) : Res :=
  (s.alu lane d a b t 0x12 Alu.lt).done

/-- LE (R146). -/
def execLe (lane : Fin 8) (d a b : Fin 32) (t : Fin 8) (s : State) : Res :=
  (s.alu lane d a b t 0x13 Alu.le).done

/-- GT (R146). -/
def execGt (lane : Fin 8) (d a b : Fin 32) (t : Fin 8) (s : State) : Res :=
  (s.alu lane d a b t 0x14 Alu.gt).done

/-- GE (R146). -/
def execGe (lane : Fin 8) (d a b : Fin 32) (t : Fin 8) (s : State) : Res :=
  (s.alu lane d a b t 0x15 Alu.ge).done

/-- MIN (R146). -/
def execMin (lane : Fin 8) (d a b : Fin 32) (t : Fin 8) (s : State) : Res :=
  (s.alu lane d a b t 0x18 Alu.min_).done

/-- MAX (R146). -/
def execMax (lane : Fin 8) (d a b : Fin 32) (t : Fin 8) (s : State) : Res :=
  (s.alu lane d a b t 0x19 Alu.max_).done

/-- ABS (R146). -/
def execAbs (lane : Fin 8) (d a : Fin 32) (t : Fin 8) (s : State) : Res :=
  (s.alu1 lane d a t 0x1A Alu.abs).done

/-- NEG (R146). -/
def execNeg (lane : Fin 8) (d a : Fin 32) (t : Fin 8) (s : State) : Res :=
  (s.alu1 lane d a t 0x1B Alu.neg).done

/-- EXT (R146). -/
def execExt (lane : Fin 8) (d a : Fin 32) (t : Fin 8) (s : State) : Res :=
  (s.alu1 lane d a t 0x1C Alu.ext).done

/-- EXTS (R146). -/
def execExts (lane : Fin 8) (d a : Fin 32) (t : Fin 8) (s : State) : Res :=
  (s.alu1 lane d a t 0x1D Alu.exts).done

/-- SEL (R146): g[a] where g[d] was not 0, else g[b]. -/
def execSel (lane : Fin 8) (d a b : Fin 32) (t : Fin 8) (s : State) : Res :=
  (s.select lane d a b t).done

/-- FADD (R148). -/
def execFadd (lane : Fin 8) (d a b : Fin 32) (t : Fin 8) (s : State) : Res :=
  (s.fpu lane d a b t 0x00 Fpu.add).done

/-- FSUB (R148). -/
def execFsub (lane : Fin 8) (d a b : Fin 32) (t : Fin 8) (s : State) : Res :=
  (s.fpu lane d a b t 0x01 Fpu.sub).done

/-- FMUL (R148). -/
def execFmul (lane : Fin 8) (d a b : Fin 32) (t : Fin 8) (s : State) : Res :=
  (s.fpu lane d a b t 0x02 Fpu.mul).done

/-- FDIV (R148). -/
def execFdiv (lane : Fin 8) (d a b : Fin 32) (t : Fin 8) (s : State) : Res :=
  (s.fpu lane d a b t 0x03 Fpu.div).done

/-- FSQRT (R148). -/
def execFsqrt (lane : Fin 8) (d a : Fin 32) (t : Fin 8) (s : State) : Res :=
  (s.fpu1 lane d a t 0x04 Fpu.sqrt).done

/-- FABS (R148). -/
def execFabs (lane : Fin 8) (d a : Fin 32) (t : Fin 8) (s : State) : Res :=
  (s.fpu1 lane d a t 0x05 Fpu.abs).done

/-- FNEG (R148). -/
def execFneg (lane : Fin 8) (d a : Fin 32) (t : Fin 8) (s : State) : Res :=
  (s.fpu1 lane d a t 0x06 Fpu.neg).done

/-- FMIN (R148). -/
def execFmin (lane : Fin 8) (d a b : Fin 32) (t : Fin 8) (s : State) : Res :=
  (s.fpu lane d a b t 0x07 Fpu.min_).done

/-- FMAX (R148). -/
def execFmax (lane : Fin 8) (d a b : Fin 32) (t : Fin 8) (s : State) : Res :=
  (s.fpu lane d a b t 0x08 Fpu.max_).done

/-- FMAC (R148): g[d] + g[a] × g[b], rounded once. -/
def execFmac (lane : Fin 8) (d a b : Fin 32) (t : Fin 8) (s : State) : Res :=
  (s.fpu3 lane d a b t 0x09 Fpu.mac).done

/-- FEQ (R148). -/
def execFeq (lane : Fin 8) (d a b : Fin 32) (t : Fin 8) (s : State) : Res :=
  (s.fpu lane d a b t 0x10 Fpu.eq).done

/-- FLT (R148). -/
def execFlt (lane : Fin 8) (d a b : Fin 32) (t : Fin 8) (s : State) : Res :=
  (s.fpu lane d a b t 0x11 Fpu.lt).done

/-- FLE (R148). -/
def execFle (lane : Fin 8) (d a b : Fin 32) (t : Fin 8) (s : State) : Res :=
  (s.fpu lane d a b t 0x12 Fpu.le).done

/-- FUN (R148). -/
def execFun (lane : Fin 8) (d a b : Fin 32) (t : Fin 8) (s : State) : Res :=
  (s.fpu lane d a b t 0x13 Fpu.un).done

/-- F2I (R148). -/
def execF2i (lane : Fin 8) (d a : Fin 32) (t : Fin 8) (s : State) : Res :=
  (s.fpu1 lane d a t 0x18 (Fpu.f2i true)).done

/-- F2IT (R148). -/
def execF2it (lane : Fin 8) (d a : Fin 32) (t : Fin 8) (s : State) : Res :=
  (s.fpu1 lane d a t 0x19 (Fpu.f2i false)).done

/-- I2F (R148). -/
def execI2f (lane : Fin 8) (d a : Fin 32) (t : Fin 8) (s : State) : Res :=
  (s.fpu1 lane d a t 0x1A Fpu.i2f).done

/-- U2F (R148). -/
def execU2f (lane : Fin 8) (d a : Fin 32) (t : Fin 8) (s : State) : Res :=
  (s.fpu1 lane d a t 0x1B Fpu.u2f).done

/-- FWID (R148). -/
def execFwid (lane : Fin 8) (d a : Fin 32) (t : Fin 8) (s : State) : Res :=
  (s.fpu1 lane d a t 0x1C Fpu.wid).done

/-- FCLASS (R148). -/
def execFclass (lane : Fin 8) (d a : Fin 32) (t : Fin 8) (s : State) : Res :=
  (s.fpu1 lane d a t 0x1D Fpu.class_).done

/-- ILLEGAL_INSTRUCTION (R141): the word at pc is one that traps. -/
def execIllegalInstruction (lane : Fin 8) (instr : BitVec 32) (s : State) : Res :=
  (s.illegal lane instr).done

/-- FETCH_PROTECTION_FAULT (R100): pc stands outside every x window of the partition. -/
def execFetchProtectionFault (lane : Fin 8) (s : State) : Res :=
  (s.fetchFault lane).done

end Sys2Proof.Machine
end

