-- ==== Sys2Proof/Machine/Redundancy.lean ====
section
/-! DEFINITION. Station redundancy (R195 to R236): heartbeats, the link, running in step, the witness from both sides, veers,
resynchronisation, claims at the stages, presence contacts. -/

namespace Sys2Proof.Machine

/-! ### Heartbeats (R199 to R201) -/

/-- Whether RED sends heartbeats (R199). -/
def State.sendsHeartbeats (s : State) : Bool :=
  s.sys.pins.pair && !s.red.hbOff && (s.mode == mActive || s.mode == mStandby || s.mode == mResync)

/-- A heartbeat's 32 B: its fields, and a CRC-32C over them. The manual gives the fields no order (log entry 140). -/
def heartbeat (fields : List Word) : List Word :=
  let ws := (fields ++ List.replicate 7 0).take 7
  ws ++ [crc32c (wordBytes ws)]

/-- HEARTBEAT_SEND: at the next point of the 10 µs grid of station time, on both lanes; the first word tells the lane. -/
def State.sendHeartbeat (s : State) : State :=
  if !s.sendsHeartbeats then s
  else
    let s1 := s.runUntil ((s.time / 10000 + 1) * 10000)
    let n := (s1.red.hbTx + 1) % 65536
    let ws := heartbeat [wd n, wd s1.mode, s1.reg Reg.RED_CLAIM, wd s1.sys.cycles, wd s1.red.fwdRx, lo32 s1.time]
    (({ s1 with red := { s1.red with hbTx := n } }).send .link lkHeartbeat (0 :: ws)).send .link lkHeartbeat (1 :: ws)

/-- The round trip of a heartbeat: the present one is the mean of the last 64 (R197). -/
def State.takeTrip (s : State) (ns : Nat) : State :=
  let xs := (ns :: s.red.trips).take 64
  let s1 := { s with red := { s.red with trips := xs } }
  (s1.put Fld.RED_RTT_now (min 65535 (xs.foldl (· + ·) 0 / xs.length))).peak Fld.RED_RTT_max ns

/-- Acknowledgements open publish gates (R203). -/
def State.takeAck (s : State) (seq : Nat) : State :=
  ({ s with red := { s.red with fwdAck := max s.red.fwdAck seq } }).openGates

/-- Whether a claim of the partner resets this module (R217). -/
def State.losesTo (s : State) (claim : Word) : Bool :=
  s.mode == mActive && !s.handingOver && !s.yieldedInHoldup &&
    (decide ((s.reg Reg.RED_CLAIM).toNat < claim.toNat) ||
      (!s.sys.pins.even && claim != 0 && claim == s.reg Reg.RED_CLAIM))

/-- The partner has joined: the windward module forwards from now on (R228, phase 6). -/
def State.partnerJoined (s : State) : State :=
  let s1 := ({ s with red := { s.red with peerMode := mStandby } }).bump Fld.RED_RESYNC_count
  let s2 := s1.put Fld.RED_RESYNC_phase 0
  ({ s2 with nv := { s2.nv with resyncs := s2.fld Fld.RED_RESYNC_count } }).notify 0x0383 none [wd s2.sys.peer]

/-- What a windward module makes of the mode that its partner reports (R207, R228). -/
def State.peerModeSeen (s : State) (m : Nat) : State :=
  let old := s.red.peerMode
  let was := s.partnerStandby
  let s1 := { s with red := { s.red with peerMode := if s.handingOver then old else m, lost := false } }
  if s.handingOver then s1
  else if !s1.hasClaim then
    -- forces that the module holds for a windward module in COMMISSION go with that mode (R174)
    (if s1.mode == mStandby && old == mCommission && m != mCommission then s1.releaseForces else s1)
  else if was && m != mStandby && m != mActive then
    ({ s1 with red := { s1.red with peerMode := old } }).partnerLeft 2
  else if m != mStandby && m != mActive then s1.endCrossing
  else if !was && m == mStandby && s1.red.crossing && s1.red.veer.isNone then s1.answerVeers
  else if !was && m == mStandby && s1.fld Fld.RED_RESYNC_phase != 0 then s1.partnerJoined
  else s1

/-- The trade cycle of a module in STANDBY or RESYNC follows the windward module's (R201). The first heartbeat that carries a new
count tells that the cycle began as it was sent, half a round trip ago: an own start is moved to that instant, and one that has
yet to come comes now. The manual does not say how the start is told (DESIGN CHOICE, log entry 140). -/
def State.followCycle (s : State) (cycles trip : Nat) : State :=
  let s1 := { s with red := { s.red with hbCycles := some cycles } }
  let start := s.clk - trip / 8
  match s.red.hbCycles with
  | none => { s1 with sys := { s1.sys with cycles := cycles } }
  | some n =>
    if n = cycles then s1
    else if s.sys.cycles = cycles then { s1 with sys := { s1.sys with tc0 := start } }
    else { s1 with sys := { s1.sys with tc0 := start - s.tcyc, cycles := cycles - 1 } }

/-- HEARTBEAT_RECEIVE: a heartbeat with a valid CRC and the next sequence. -/
def State.takeHeartbeat (s : State) (seq mode : Nat) (claim : Word) (cycles ack : Nat) (timeLow : Word) (trip : Nat) :
    State :=
  let next := match s.red.hbRx with | some n => s.red.lost || seq == (n + 1) % 65536 | none => true
  if !s.sys.pins.pair || !next then s
  else
    let s1 := (((s.flag Fld.SYS_STAT_partner true).put Fld.RED_HB_run 0).setReg Reg.RED_CLAIM_PEER claim).takeTrip trip
    let s2 := { s1 with red := { s1.red with hbRx := some seq, hbAt := s1.time, peerClaimed := claim != 0 } }
    let s3 := s2.peerModeSeen mode
    if s3.losesTo claim then s3.veerLoser
    else if s3.followsPartner then
      let s4 := s3.followCycle cycles trip
      (s4.takeAck ack).measure refPartner ((timeLow - lo32 s4.time).toInt + (trip / 2 : Nat))
    else s3.takeAck ack

/-- The partner is lost at the fourth missed heartbeat (R45, R200, R211, R222). -/
def State.losePartner (s : State) : State :=
  let s1 := { s.flag Fld.SYS_STAT_partner false with red := { s.red with lost := true } }
  if s1.mode = mStandby then
    let s2 := s1.abandonStep.put Fld.RED_STATE_veer 1
    let s3 := { s2 with red := { s2.red with ask := some ⟨1, false⟩, veer := none } }
    if s3.witnesses.isEmpty then s3 else s3.send (.witness s3.witPrimary) 0x0340 (s3.askWords 1)
  else if s1.mode = mResync then
    (({ s1 with sys := { s1.sys with modeAt := none } }).put Fld.RED_RESYNC_phase 0).enterMode mSafe
  else if s1.inTest then s1.abortForPartner
  else if s1.hasClaim ∧ s.partnerStandby = true then s1.partnerLeft 1
  else if s1.hasClaim then s1.endCrossing.openGates
  else s1

/-- HEARTBEAT_MISSED: a grid interval ends without the next heartbeat (R200). -/
def State.missHeartbeat (s : State) : State :=
  match s.red.hbRx with
  | none => s
  | some n =>
    let run := s.fld Fld.RED_HB_run
    let s1 := s.runUntil (s.red.hbAt + (run + 1) * 10000)
    let s2 := (s1.bump Fld.RED_HB_missed).put Fld.RED_HB_run (min 4 (run + 1))
    let s3 := { s2 with red := { s2.red with hbRx := some ((n + 1) % 65536) } }
    if run + 1 = 4 ∧ s3.red.lost = false then s3.losePartner else s3

/-- HEARTBEAT_WATCHDOG_EXPIRY: no RED_HBKICK for 1 ms. -/
def State.stopHeartbeats (s : State) : State := { s with red := { s.red with hbOff := true } }

/-! ### The link (R196, R207) -/

/-- A resynchronisation begins again at phase 1 (R229). -/
def State.restartResync (s : State) : State :=
  let s1 := s.put Fld.RED_RESYNC_phase 1
  { s1 with
    red := { s1.red with resyncAt := s1.time, joined := false, mirror := [] }
    sys := { s1.sys with modeAt := if s1.mode = mResync then none else s1.sys.modeAt } }

/-- LINK_LANE_CHANGE. -/
def State.linkLane (s : State) (n : Nat) (up : Bool) : State :=
  let f := if n = 0 then Fld.RED_LINK_lane0 else Fld.RED_LINK_lane1
  if s.isSet f == up then s
  else
    let s1 := s.flag f up
    if up then s1
    else
      let s2 := (s1.note 3 196 n).degrade
      let dead := !s2.isSet Fld.RED_LINK_lane0 && !s2.isSet Fld.RED_LINK_lane1
      if dead && s2.fld Fld.RED_RESYNC_phase != 0 then s2.restartResync else s2

/-- LINK_CRC_BURST: frames rejected for CRC; more than 16 within 1 ms are a loss of step. -/
def State.crcBurst (s : State) (n : Nat) : State :=
  let near := (List.replicate (min n 17) s.time ++ s.red.crcAt).filter fun t => decide (s.time < t + 1000000)
  let s1 := { (s.bumpBy Fld.RED_LINK_crc_err n).flag Fld.RED_ERR_crc (decide (0 < n) || s.isSet Fld.RED_ERR_crc) with
    red := { s.red with crcAt := near.take 17 } }
  if near.length ≤ 16 then s1
  else if s1.mode = mStandby then s1.loseStep 8
  else if s1.hasClaim && s1.partnerStandby then (s1.send .link 0x0358 [0, 8, 0, 0]).partnerLeft 8
  else s1

/-! ### Forwarded items at the leeward module (R202 to R206) -/

/-- How a sampled point is compared: none where it is no sample (a time); 0 a digital point; otherwise the span of an analogue
one, of which the manual gives that of the current loop inputs alone: the others are free (R206, log entry 34). -/
def State.pointSpan (s : State) (u c p : Nat) : Option Nat :=
  if (u < 2 ∧ p = 3) ∨ (u = 4 ∧ p = 2) ∨ (u = 6 ∧ (c = 4 ∨ c = 5) ∧ p = 3) ∨ (u = 6 ∧ (c = 6 ∨ c = 7) ∧ p = 2) then none
  else if u = 4 ∧ p = 0 then some (if aiRange (s.chan 4 c).cfg = 0 then 16000000 else 12500000)
  else if ((u = 2 ∨ u = 3) ∧ p = 2) ∨ (u = 4 ∧ p = 3) ∨ (u = 5 ∧ (p = 1 ∨ p = 3)) ∨ (u = 6 ∧ c < 4 ∧ (p = 1 ∨ p = 3)) ∨
      (u = 6 ∧ (c = 6 ∨ c = 7) ∧ p = 0) ∨ u = 8 then some (Config.pointSpan u c p)
  else some 0

/-- Whether two values of an input point differ (R206): in any way for a digital point, by more than 0.5 % of its span for an
analogue one. -/
def State.pointDiffers (s : State) (a : Nat) (own given : Int) : Bool :=
  match s.pointSpan (ptUnit a) (ptChan a) (ptPoint a) with
  | none => false
  | some 0 => own != given
  | some span => decide (span < 200 * (own - given).natAbs)

/-- One point of a forwarded snapshot compared with this module's own sample. -/
def State.comparePoint (s : State) (t a : Nat) (wide : Bool) (ws : List Word) : State :=
  let own := (s.point (s.ownPoint (ptUnit a) (ptChan a) (ptPoint a))).val
  let key := t * 2 ^ 32 + a
  let differs := if wide then s.pointDiffers a own.toNat (wPair ws 0) else s.pointDiffers a (low32 own) (wInt ws 0)
  let run := if differs then min 4 (SMap.get 0 key s.red.disc + 1) else 0
  let s1 := { s with red := { s.red with disc := SMap.set 0 key run s.red.disc } }
  if run = 3 then (s1.bump Fld.RED_DISC_count).note 3 206 a else s1

/-- The input points of task `t` compared with the words of its forwarded snapshot. -/
def State.compareSnap (t : Nat) : List Slot → List Word → State → State
  | [], _, s => s
  | .point a w :: rest, ws, s =>
    State.compareSnap t rest (ws.drop (if w then 4 else 2))
      (if s.integralPt a then s.comparePoint t a w ws else s)
  | .queue q m z :: rest, ws, s => State.compareSnap t rest (ws.drop (slotBytes (.queue q m z) / 4)) s

/-- Lane `l` goes on after an item that it waited for. -/
def State.unstall (s : State) (l : Nat) : State :=
  let x := s.lane l
  s.setLane l { x with stalled := x.stalled && ((s.slowOfLane l).isSome || decide (16 ≤ x.agr.length)) }

/-- A CAN reference message that the windward module sent (R534). -/
def State.takeCanRef (s : State) (ws : List Word) : State :=
  let p := (wAt ws 0).toNat % 4
  let sof := wPair ws 2
  let s1 := (s.put (Fld.CAN_REF_seq p) (wAt ws 1).toNat).putSplit (Reg.CAN_REFTIME_HI p) (Reg.CAN_REFTIME_LO p) sof
  s1.setCanPort p { s1.canPort p with sof := sof, restart := false }

/-- What a forwarded item does: those that a lane waits for stand in the forward queue until their use. -/
def State.itemEffect (s : State) (i : FwdItem) : State :=
  let ws := i.ws
  let l := (wAt ws 0).toNat % 8
  let queued := ({ s with red := { s.red with queue := s.red.queue ++ [i] } }).showFwd
  if i.kind = fwSnapshot then
    let t := (wAt ws 0).toNat % 512
    let app := ((s.task t).app).getD { task := t }
    State.compareSnap t app.inputs (ws.drop 18) queued
  else if i.kind = fwEntry then queued.unstall l
  else if i.kind = fwEvent then queued.followEvents l
  else if i.kind = fwTrigger then s.triggerForwarded (wAt ws 0) (wAt ws 1) (wAt ws 2)
  else if i.kind = fwMarker then queued.takeMarker l
  else if i.kind = fwLoop then s.loopForwarded ws
  else if i.kind = fwGust then s.takeGust ws
  else if i.kind = 9 then s.takeUnitState ws
  else if i.kind = 10 then s.takeGroup ws
  else if i.kind = 11 then s.takeSafe ws.length ws
  else if i.kind = 12 then s.takeAlarm ws
  else if i.kind = fwSquall then s.takeSquall ws
  else if i.kind = 13 then s.takeCanRef ws
  else if i.kind = 14 then s.takeCkpt ws
  else if i.kind = fwMailbox then s.takeMailbox ws
  else if i.kind = fwJob then s.jobForwarded ws
  else if i.kind = fwGen then s.genForwarded ws
  else if i.kind = fwEnqueue ∨ i.kind = fwDequeue then s.takeQueueItem i.kind ws
  else s

/-- The loss of step of R205, in STANDBY. -/
def State.lagLoss (s : State) : State := if s.mode = mStandby then s.loseStep 4 else s

/-- FORWARD_ITEM_RECEIVE: the leeward RED acknowledges an item, then it acts. Across a commanded veer the former windward
module takes items too, and the new one those of the activations that began before the boundary (R226). Queue operations are taken
from phase 5 of a resynchronisation on, in which they wait for the end of that phase (R228, R253). -/
def State.receiveItem (s : State) (seq kind : Nat) (ws : List Word) : State :=
  let queueOp := kind == fwEnqueue || kind == fwDequeue
  let joining := s.mode == mResync && decide (5 ≤ s.fld Fld.RED_RESYNC_phase) && queueOp
  if kind = 11 ∧ s.windward = true ∧ s.partnerStandby = true then s.takeTrips ws.length ws
  else if s.mode != mStandby && !s.handingOver && !s.red.crossing && !joining then s
  else
    let gap := s.red.fwdRx != 0 && seq != s.red.fwdRx + 1
    let s1 := if gap then s.flag Fld.RED_ERR_sequence true else s
    let s2 := ({ s1 with red := { s1.red with fwdRx := seq } }).send .link lkAck [wd seq]
    let i : FwdItem := ⟨seq, kind, ws, s2.time⟩
    if 65536 < s2.fwdUnits + (4 * ws.length + 16 + 255) / 256 then (s2.flag Fld.RED_ERR_overflow true).lagLoss
    else if s2.mode != mStandby && !s2.handingOver && !queueOp &&
        (i.kind = 0 || fwMarker < i.kind || i.kind = fwTrigger) then s2
    else if joining && s2.fld Fld.RED_RESYNC_phase == 5 then
      ({ s2 with red := { s2.red with queue := s2.red.queue ++ [i] } }).showFwd
    else s2.itemEffect i

/-- LEEWARD_LAG_EXCEEDED: the clock moves on until the oldest item has waited for more than 1 ms. -/
def State.lagExceeded (s : State) : State :=
  match s.red.queue with
  | [] => s
  | i :: _ =>
    if s.mode != mStandby then s
    else
      let s1 := s.runUntil (i.at_ + 1000001)
      let us := min 65535 ((s1.time - i.at_) / 1000)
      ((s1.put Fld.RED_LAG_now us).peak Fld.RED_LAG_max us).lagLoss

/-! ### The witness, as the module that asks (R209 to R212) -/

/-- A message of the witness or of the partner shown to station firmware: on the request ring of its mailbox, taken at once
(R76, R209). -/
def State.seen (s : State) (m op : Nat) (tag : Nat) (ws : List Word) : State :=
  if !s.served m then s
  else
    let head := s.fld (Fld.MBX_REQ_HEAD_head m)
    let s1 := (s.setWords (reqSlot m head) ([wd (op + tag % 65536 * 65536), wd (4 * ws.length), wd (m * 256), 0] ++ ws)).ring m
      ((head + 1) % 65536) 0
    (s1.put (Fld.MBX_REQ_TAIL_tail m) (head + 1)).showRings m

/-- A witness frame with a wrong tag is discarded and counted (R208). -/
def State.witnessFrame (s : State) (ok : Bool) (op tag : Nat) (ws : List Word) (k : State → State) : State :=
  if ok then k (s.seen 65 op tag ws) else s.flag Fld.RED_ERR_tag true

/-- WITNESS_ASK_RETRY: first the secondary witness after 60 µs, then every witness every 1 ms (R211). -/
def State.askAgain (s : State) : State :=
  match s.red.ask with
  | none => s
  | some a =>
    if a.cause != 1 then s
    else
      let ws := s.askWords 1
      if a.second then s.toWitnesses 0x0340 ws
      else
        let s1 := { s with red := { s.red with ask := some { a with second := true } } }
        match s1.witSecondary with
        | some w => s1.send (.witness w) 0x0340 ws
        | none => s1

/-- WITNESS_GRANT_TIMEOUT: no grant within 2 s (R211). -/
def State.grantTimeout (s : State) : State :=
  match s.red.ask with
  | some a => if a.cause = 1 ∧ s.mode = mStandby then s.loseStep 1 else s
  | none => s

/-- WIT_GRANT (R47, R211 to R213): a claim above 0xFFFF_FFFE is not taken. -/
def State.takeGrant (s : State) (station : Nat) (claim : Word) : State :=
  match s.red.ask with
  | none => s
  | some a =>
    if station != s.stationNode || claim == 0xFFFFFFFF then s
    else if a.cause = 2 then s.startGrant claim
    else if s.mode != mStandby then s
    else
      let s1 := s.flag Fld.RED_LULL_late (decide (s.red.hbAt + 120000 < s.time))
      ({ s1 with red := { s1.red with lullFrom := some s1.red.hbAt } }).raiseStation claim 1

/-- WIT_REFUSE (R47, R211). -/
def State.takeRefuse (s : State) (witness station reason : Nat) (highest : Word) : State :=
  match s.red.ask with
  | none => s
  | some a =>
    if station != s.stationNode then s
    else if a.cause = 2 then s.startRefuse witness reason highest
    else if s.mode = mStandby then s.loseStep 1 else s

/-- WIT_PROBE: answered while the module sends heartbeats (R210). -/
def State.answerProbe (s : State) (witness station : Nat) (number : Word) : State :=
  if station == s.stationNode && s.sendsHeartbeats then
    s.send (.witness witness) 0x0342 [wd station, number, s.reg Reg.RED_CLAIM, wd s.mode]
  else s

/-- WIT_STATUS_TIMER: WIT_STATUS to each witness every 10 ms, and what station firmware shows of their reachability (R209,
R212). -/
def State.witStatus (s : State) (primary secondary : Bool) : State :=
  let s0 := s.runUntil ((s.time / 10000000 + 1) * 10000000)
  let s1 := s0.toWitnesses 0x0346 [wd s0.stationNode, s0.reg Reg.RED_CLAIM, wd s0.mode]
  let v :=
    if s1.witnesses.isEmpty then 0 else if primary then 1 else if secondary && s1.witSecondary.isSome then 2 else 3
  let good := v == 1 || v == 2
  let s2 := (s1.put Fld.RED_STATE_witness v).flag Fld.SYS_STAT_witness good
  if !s2.sys.pins.pair || good then s2.clearAlert 212 0 else s2.raiseAlert 212 0

/-- WIT_DEMOTE (R217). -/
def State.demoted (s : State) (station : Nat) : State :=
  if station == s.stationNode && s.mode == mActive && !s.yieldedInHoldup then s.veerLoser else s

/-! ### This module as a witness (R210) -/

def State.wit (s : State) (st : Nat) : WitRec := SMap.get {} st s.red.wits
def State.setWit (s : State) (st : Nat) (x : WitRec) : State :=
  { s with red := { s.red with wits := SMap.set {} st x s.red.wits } }
/-- Whether a node is a module of a station that this witness serves. -/
def State.isModule (s : State) (st node : Nat) : Bool :=
  s.red.wits.any (fun e => e.1 == st) && ((s.wit st).nodeE == node || (s.wit st).nodeO == node)

/-- An answer to an ask. -/
def State.witGrant (s : State) (st requester claim tag : Nat) : State :=
  let n := max (s.wit st).claim claim + 1
  (s.setWit st { s.wit st with claim := n, heard := some s.time, probe := none }).send (.witness requester) 0x0343
    [wd st, wd n, wd tag]
def State.witRefuse (s : State) (st requester reason : Nat) : State :=
  s.send (.witness requester) 0x0344 [wd st, wd reason, wd (s.wit st).claim]

/-- WIT_ASK at the witness. -/
def State.takeAsk (s : State) (st requester claim cause tag : Nat) : State :=
  let x := s.wit st
  if !s.isModule st requester then s.witRefuse st requester 3
  else if claim < x.claim then s.witRefuse st requester 2
  else if cause = 2 then
    let heard := match x.heard with | some t => decide (s.time ≤ t + 2000000000) | none => false
    if heard then s.witRefuse st requester 1 else s.witGrant st requester claim tag
  else
    let n := (s.red.probeNo + 1) % 2 ^ 32
    let other := if x.nodeE = requester then x.nodeO else x.nodeE
    (({ s with red := { s.red with probeNo := n } }).setWit st { x with probe := some ⟨requester, claim, tag, n⟩ }).send
      (.witness other) 0x0341 [wd st, wd n]

/-- WIT_PROBE_REPLY at the witness: the partner answered. -/
def State.takeProbeReply (s : State) (st number : Nat) : State :=
  match (s.wit st).probe with
  | none => s
  | some p =>
    if p.number != number then s
    else (s.setWit st { s.wit st with probe := none }).witRefuse st p.requester 1

/-- PROBE_WINDOW_EXPIRY: 30 µs without a reply. -/
def State.probeExpired (s : State) (st : Nat) : State :=
  match (s.wit st).probe with
  | none => s
  | some p => s.witGrant st p.requester p.claim p.tag

/-- A claim heard. -/
def State.hear (s : State) (st claim : Nat) : State :=
  if claim = 0 then s
  else
    let x := s.wit st
    s.setWit st { x with claim := max x.claim claim, heard := some s.time }

/-- WIT_CLAIMED at the witness: kind 4 from both modules within 1 s sets the record back to 0 (R216). -/
def State.takeClaimed (s : State) (node st claim kind : Nat) : State :=
  if !s.isModule st node then s
  else if kind != 4 then s.hear st claim
  else
    let x := s.wit st
    let y := if node = x.nodeE then { x with resetE := some s.time } else { x with resetO := some s.time }
    match y.resetE, y.resetO with
    | some a, some b =>
      if (a - b) + (b - a) ≤ 1000000000 then
        s.setWit st { y with claim := 0, heard := none, resetE := none, resetO := none }
      else s.setWit st y
    | _, _ => s.setWit st y

/-- WIT_STATUS at the witness: a claim below the record is demoted; claim 0 is none. -/
def State.takeStatus (s : State) (node st claim : Nat) : State :=
  if !s.isModule st node then s
  else if claim != 0 && decide (claim < (s.wit st).claim) then
    (s.setWit st { s.wit st with heard := some s.time }).send (.witness node) 0x0347 [wd st, wd (s.wit st).claim]
  else s.hear st claim

/-! ### Veers (R225 to R227) -/

/-- PAIR_YIELD at the leeward module: claim n + 1 (R225). -/
def State.takeYield (s : State) (claim : Word) : State :=
  match claimAbove claim with
  | none => s
  | some n =>
    if s.mode != mStandby then s
    else
      let s1 := s.abandonStep
      ({ s1 with red := { s1.red with lullFrom := some s1.time, veer := none } }).raiseStation n 2

/-- PAIR_VEER: phase 1 at the leeward module, phase 2 at the windward module (R226). -/
def State.pairVeer (s : State) (phase : Nat) (b : Word) : State :=
  if phase = 1 then
    if s.mode != mStandby then s
    else
      let at_ := s.boundaryAfter 1000000
      (({ s with red := { s.red with veer := some ⟨true, at_, ⟨255, 0⟩⟩ } }).put Fld.RED_STATE_veer 4).send .link 0x0357
        [2, lo32 at_]
  else if phase = 2 then
    match s.red.veer with
    | some v =>
      if v.acked || s.mode != mActive then s
      else { s with red := { s.red with veer := some { v with acked := true, at_ := s.time + (b - lo32 s.time).toNat } } }
    | none => s
  else s

/-- COMMANDED_VEER_TIMEOUT: no phase 2 within 20 ms (R226). -/
def State.veerTimeout (s : State) : State :=
  match s.red.veer with
  | some v =>
    if v.acked then s
    else (({ s with red := { s.red with veer := none }, sys := { s.sys with removal := false } }).put Fld.RED_STATE_veer 0).respond v.who
      (errAns stTimeout 0 0xFFFF)
  | none => s

/-- Boundary B at the leeward module (R226): claim n + 1 and ACTIVE. -/
def State.veerBoundary (s : State) : State :=
  match s.red.veer with
  | some v =>
    if !(v.acked && decide (v.at_ ≤ s.time) && s.mode == mStandby) then s
    else match claimAbove (s.reg Reg.RED_CLAIM_PEER) with
      | some n => ({ s with red := { s.red with veer := none, lullFrom := some s.time } }).raiseStation n 3
      | none => ({ s with red := { s.red with veer := none } }).put Fld.RED_STATE_veer 0
  | none => s

/-- The module waits in BOOT after removal began: no block code, no heartbeat, no mailbox. -/
def State.removed (s : State) : State :=
  let s1 := s.enterMode mBoot
  { s1 with sys := { s1.sys with wait := .removed, modeAt := none, removal := false } }

/-- The module leaves STANDBY or RESYNC for its removal (R235). -/
def State.leaveStandby (s : State) : State :=
  (((s.send .link 0x0358 [0, 7, 0, 0]).put Fld.RED_STATE_cause 7).put Fld.RED_RESYNC_phase 0).removed

/-- PAIR_VEER phase 1 sent for a commanded veer (R226). -/
def State.askVeer (s : State) (d : Deferred) : State :=
  (({ s with red := { s.red with veer := some ⟨false, 0, d⟩ } }).put Fld.RED_STATE_veer 4).send .link 0x0357 [1, 0]

/-- FORMER_WINDWARD_STANDBY: the claim has reached every stage (R94, R226). -/
def State.formerWindward (s : State) : State :=
  match s.red.veer with
  | none => s
  | some v =>
    if !(s.handingOver && s.mode == mActive) then s
    else
      let n := ((s.reg Reg.RED_CLAIM).toNat + 1) % 2 ^ 32
      let s0 := s.dropMode.setRoles 1
      let s1 := ({ s0 with red := { s0.red with
        veer := none, peerMode := mActive, joined := true, crossing := false } }).enterMode mStandby
      let s2 := s1.bestMaster.put Fld.RED_STATE_veer 0
      -- the new windward module answers mailboxes 0 to 63
      let s3 := (if v.who.mbx < 64 then s2 else s2.respond v.who (okAns [wd n])).handOver
      -- PREPARE REMOVAL takes the module out of STANDBY (R552)
      if s3.sys.removal then s3.leaveStandby
      else if s3.red.lost then s3.losePartner
      else s3

/-! ### Pair messages of lockstep pairs (R133, R185) -/

/-- PAIR_FALLBACK at the leeward module: the same fallback at the same boundary, for a pair that the partner has lost. -/
def State.takeFallback (s : State) (p : Nat) (at_ : Word) : State :=
  match SMap.get [] p s.prt.fallback with
  | [] => s
  | ws =>
    if !s.leeward then s
    else
      let s1 := s.writeFallback ws at_
      { s1 with red := { s1.red with peerBad := s1.red.peerBad ||| 2 ^ p } }

/-- The task that lane `l` of the windward module ran when it sent what this module has received of it last: that of the
activation on the lane here, and what the forwarded items that still wait change of it. -/
def State.ledOn (s : State) (l : Nat) : Option Nat :=
  s.red.queue.foldl (fun cur i =>
    let ev := (wAt i.ws 1).toNat
    if i.kind == fwSnapshot && wAt i.ws 1 == wd l then some (wAt i.ws 0).toNat
    else if wAt i.ws 0 != wd l then cur
    else if i.kind == fwMarker then none
    else if i.kind != fwEvent || ev == 3 then cur
    else if ev = 2 then some (wAt i.ws 4).toNat else none) ((s.lane l).act.map (·.task))

/-- PAIR_FAILMARK at the leeward module (R185): the same activation ends at the marked count, which the lane may have yet to
reach; nothing where the lane of the windward module ran none. -/
def State.takeFailmark (s : State) (l count : Nat) : State :=
  if !s.leeward then s
  else match s.ledOn l with
    | none => s
    | some t =>
      let i : FwdItem := ⟨s.red.fwdRx, fwEvent, [wd l, 4, lo32 count, hi32 count, wd t], s.time⟩
      (({ s with red := { s.red with queue := s.red.queue ++ [i] } }).showFwd).followEvents l

/-- PAIR_FAILREP at the windward module: its plans use only the pairs usable on both modules, and its fallback for that pair
is applied. -/
def State.takeFailrep (s : State) (p : Nat) : State :=
  if !s.hasClaim then s
  else
    let s1 := { s with red := { s.red with peerBad := s.red.peerBad ||| 2 ^ p } }
    let s2 := if s1.partnerStandby then s1.partnerLeft 6 else s1
    s2.replace p

/-! ### Resynchronisation (R228, R229) -/

/-- Digest of the image in use of a type. -/
def State.digest (s : State) (type : Nat) : Word := (s.image type).digest

/-- PAIR_RESYNC phase 1 as this module sends it: protocol version, and the digests of its images. -/
def State.contactWords (s : State) : List Word :=
  [1, wd (s.fld Fld.RED_PVER_major * 256 + s.fld Fld.RED_PVER_minor), s.digest 4, s.digest 5]

/-- Another major version of the pair protocol ends phase 1 at the windward module (R207, R228). -/
def State.wrongVersion (s : State) : State :=
  ((s.put Fld.RED_RESYNC_phase 0).put Fld.RED_STATE_cause 9).notify 0x0382 none [9]

/-- Phase 1 taken from the other module. -/
def State.takeContact (s : State) (d1 d2 d3 : Word) : State :=
  let s1 := (s.put Fld.RED_PVER_peer_major (bits d1 15 8)).put Fld.RED_PVER_peer_minor (bits d1 7 0)
  let s2 := { s1 with red := { s1.red with imagesDiffer := d2 != s1.digest 4 || d3 != s1.digest 5 } }
  if s2.mode = mResync then
    if bits d1 15 8 != s2.fld Fld.RED_PVER_major then s2.put Fld.RED_STATE_cause 9 else s2
  else if s2.windward && bits d1 15 8 != s2.fld Fld.RED_PVER_major then
    s2.wrongVersion
  else if s2.windward then ((s2.put Fld.RED_RESYNC_phase 1).setReg Reg.RED_RSBYTES_HI 0).setReg Reg.RED_RSBYTES_LO 0
  else s2

/-- PAIR_RESYNC: phase 0 says that the sender has left STANDBY, that its resynchronisation has failed, or that it has
stopped forwarding, and why. -/
def State.pairResync (s : State) (phase : Nat) (d1 d2 d3 : Word) : State :=
  if phase = 0 then
    if !s.hasClaim then (if s.mode = mStandby then s.loseStep d1.toNat else s)
    else if s.partnerStandby then s.partnerLeft d1.toNat
    else s.put Fld.RED_STATE_cause d1.toNat
  else if phase = 1 then
    let s1 := s.takeContact d1 d2 d3
    if s1.windward then s1.send .link 0x0358 s1.contactWords else s1
  else if phase ≤ 6 ∧ s.mode = mResync then s.put Fld.RED_RESYNC_phase phase
  else s

/-- Phase 3 at the leeward module. -/
def State.resyncState (s : State) (d : ResyncData) : State :=
  let old := s
  let s1 := { s with
    cfg := d.records
    nv := { s.nv with confirmed := d.confirmed, setWords := d.sets }
    saf := { s.saf with params := d.sets }
    fw := { s.fw with forces := d.forces, sessions := d.sessions }
    alm := d.alm.getD s.alm }
  let s2 := d.records.foldl (fun s (e : Nat × List Word) =>
    s.applyRec (e.1 / 2 ^ 24) (e.1 % 2 ^ 24) (old.rec_ (e.1 / 2 ^ 24) (e.1 % 2 ^ 24))) s1
  let s3 := d.routes.foldl (fun s (e : Nat × Word) => s.setReg (Reg.SYS_EVM_SINK (e.1 % 128)) e.2) s2
  let s4 := d.tasks.foldl (fun s (e : Nat × List Word) => s.setTask (e.1 % 512) { s.task (e.1 % 512) with decl := e.2 }) s3
  let k := d.active % 2
  let write := fun (s : State) (b : Nat) (ws : List (Nat × Word)) =>
    ws.foldl (fun s (e : Nat × Word) => s.setWord (b + e.1 % 0x8000) e.2) (s.zero b 0x8000)
  let s5 := ((write s4 (planArea k) d.plan).put Fld.PRT_PLANSTAT_active k).put Fld.AGE_OP_station (d.point % 4)
  let s6 := s5.put Fld.PRT_PLANSTAT_seq (bits (s5.word (planArea k + 4)) 15 0)
  let s7 := s6.declared.foldl (fun s t => (s.keepSusp t (s.taskLane t)).replanTask (s.pairOf t)) s6
  let s8 := if d.pendingPlan.isEmpty then s7
    else
      let x := write s7 (planArea (1 - k)) d.pendingPlan
      { x.flag Fld.PRT_PLANSTAT_pending true with prt := { x.prt with planNext := some (1 - k) } }
  (s8.setReg Reg.RED_CLAIM_PEER d.claim).showSaf

/-- What phase 4 gives the angle domains of the joining module: the arm state, the passed bits and the angles in force of the windward
module's actions, and its revolution counts, each taken at the domain's first REV boundary (R341). Its domains follow its own
inputs. -/
def State.joinAd (s : State) (d : Ad) : Ad :=
  { s.ad with
    acts := d.acts.map fun e =>
      let x := s.act7 e.1
      (e.1, { e.2 with
        late := x.late, dropped := x.dropped, coast := x.coast, jumped := x.jumped, fires := x.fires, last := x.last, comp := x.comp })
    doms := d.doms.foldl (fun m e => SMap.set {} e.1 { SMap.get {} e.1 m with revJoin := e.2.revJoin } m) s.ad.doms }

/-- Phases 4 and 5 at the leeward module. -/
def State.resyncBulk (s : State) (d : ResyncData) : State :=
  let s1 := d.cells.foldl (fun s (c : Nat × Byte) => s.setByte c.1 c.2) s
  let s2 := if d.gust.isEmpty then s1 else s1.takeGust d.gust
  { s2 with ce := d.ce.getD s2.ce, pg := d.pg.getD s2.pg, ad := (d.ad.map s2.joinAd).getD s2.ad, qe := d.qe.getD s2.qe }

/-- What the leeward module's joining changes besides its mode (R133, R228, phase 6). -/
def State.joinedStep (s : State) : State :=
  let s1 := (s.prepareFallbacks.put Fld.RED_RESYNC_phase 0).bump Fld.RED_RESYNC_count
  { s1 with
    nv := { s1.nv with resyncs := s1.fld Fld.RED_RESYNC_count }
    sys := { s1.sys with modeAt := none }
    red := { s1.red with joined := true, fwdRx := 0, queue := [], mirror := [] } }

/-- The leeward module joins: STANDBY at the boundary. -/
def State.joinStep (s : State) : State := (s.enterMode mStandby).bestMaster.joinedStep

/-- An image of the windward module put into the slot not in use, and selected (R228, phase 2). -/
def State.takeImage (s : State) (e : Nat × ImgSlot) : State :=
  let slot := 1 - s.usedSlot e.1
  { s with fw := { s.fw with
      store := SMap.set {} (e.1 * 2 + slot) { e.2 with ok := true, key := s.nv.key } s.fw.store
      used := SMap.set 0 e.1 slot s.fw.used } }

/-- A phase of this module's resynchronisation ends (R228). -/
def State.leewardPhase (s : State) (d : ResyncData) : State :=
  let p := s.fld Fld.RED_RESYNC_phase
  if p = 1 then
    if s.fld Fld.RED_PVER_peer_major ≠ s.fld Fld.RED_PVER_major then s.put Fld.RED_STATE_cause 9
    else s.joinTime.put Fld.RED_RESYNC_phase (if s.red.imagesDiffer then 2 else 3)
  else if p = 2 then
    -- images that do not pass the check are not selected (R51)
    if !d.imagesOk || d.images.any (fun e => e.1 == 5 && !e.2.body.entriesOk) then s.restartResync
    else (d.images.foldl State.takeImage s).resetModule rcCommanded 0
  else if p = 3 then (s.resyncState d).put Fld.RED_RESYNC_phase 4
  else if p = 4 then (s.resyncBulk d).put Fld.RED_RESYNC_phase 5
  else if p = 5 then
    let s0 := s.red.queue.foldl (fun s i => s.takeQueueItem i.kind i.ws) (s.resyncBulk d)
    let s1 := ({ s0 with red := { s0.red with queue := [] } }).put Fld.RED_RESYNC_phase 6
    { s1 with sys := { s1.sys with modeAt := some (mStandby, 255) } }
  else if p = 6 then (s.advance (s.sys.tc0 + s.tcyc - s.clk)).joinStep
  else s

/-- Words of a plan area that are not 0. -/
def State.areaCopy (s : State) (b : Nat) : List (Nat × Word) :=
  ((upFrom 0 8192).map fun i => (4 * i, s.word (b + 4 * i))).filter fun e => e.2 != 0

/-- What phase 3 carries (R228). -/
def State.stateCopy (s : State) : ResyncData :=
  { records := s.cfg, routes := (upFrom 0 120).map fun k => (k, s.reg (Reg.SYS_EVM_SINK k))
    tasks := s.declared.map fun t => (t, (s.task t).decl)
    active := s.fld Fld.PRT_PLANSTAT_active, point := s.fld Fld.AGE_OP_station
    plan := s.areaCopy s.planBase, pendingPlan := if s.prt.planNext.isSome then s.areaCopy s.idleArea else []
    forces := s.fw.forces, sets := s.nv.setWords, confirmed := s.nv.confirmed, sessions := s.fw.sessions
    alm := some s.alm, claim := s.reg Reg.RED_CLAIM }

/-- Tasks in step: placed, and not cold. -/
def State.inStepTasks (s : State) : List Nat := s.declared.filter fun t => s.taskPlaced t && !s.taskCold t

/-- Descriptors and buffers of the messages on the queues of application partitions. -/
def State.queueCells (s : State) : List (Nat × Byte) :=
  (s.qe.queues.filter fun e => decide (512 ≤ e.1)).flatMap fun e => e.2.msgs.flatMap fun d =>
    (upFrom (descAddr d) 32).map (fun a => (a, s.byte a)) ++ (s.descHandles d).flatMap fun h => match handleElem h with
      | some (0, i) => (upFrom (smallAddr i) 256).map fun a => (a, s.byte a)
      | some (_, i) => (upFrom (largeAddr i) (bits (s.descWord d 1) 16 0)).map fun a => (a, s.byte a)
      | none => []

/-- Action state and revolution counts for the joining module (R341). -/
def State.adCopy (s : State) : Ad :=
  { acts := s.ad.acts, doms := (upFrom 0 8).map fun d => (d, { revJoin := some (s.reg (Reg.AD_REV d)) }) }

/-- What phase 4 carries (R228). -/
def State.bulkCopy (s : State) : ResyncData :=
  { cells := s.inStepTasks.flatMap s.pairCells ++ s.queueCells
    ce := some s.ce, pg := some s.pg, ad := some s.adCopy, gust := s.gustWords, qe := some s.qe }

/-- What the windward module sends as phase `p` begins (R228). -/
def State.sendPhase (s : State) (p : Nat) : State :=
  if p = 2 then s.sendCopy lkImage 2 { images := [(4, s.image 4), (5, s.image 5)] }
  else if p = 3 then s.sendCopy lkBulk 3 s.stateCopy
  else if p = 4 then { s.sendCopy lkBulk 4 s.bulkCopy with red := { s.red with dirty := [] } }
  else if p = 5 then
    { s.sendCopy lkMirror 5 { cells := s.red.dirty.flatMap s.pairCells ++ s.queueCells, qe := some s.qe } with
      red := { s.red with dirty := [], mirror := s.inStepTasks } }
  else s

/-- A phase ends at the windward module, which sends the next one's message and what it carries; `bytes` were sent in phase 4.
Phase 5 does not end before each in-step task has committed. -/
def State.windwardPhase (s : State) (bytes : Nat) : State :=
  let p := s.fld Fld.RED_RESYNC_phase
  if p = 0 ∨ (p = 5 ∧ s.red.mirror ≠ []) then s
  else if p = 6 then s.partnerJoined
  else if p = 1 ∧ s.fld Fld.RED_PVER_peer_major ≠ s.fld Fld.RED_PVER_major then s.wrongVersion
  else
    let next := if p = 1 then (if s.red.imagesDiffer then 2 else 3) else if p = 2 then 1 else p + 1
    let s1 := if p = 4 then (s.setReg Reg.RED_RSBYTES_HI (hi32 bytes)).setReg Reg.RED_RSBYTES_LO (lo32 bytes) else s
    (((s1.put Fld.RED_RESYNC_phase next).send .link 0x0358 [wd next, 0, 0, 0]).sendPhase next).chargeDram 0
      (if p = 4 ∨ p = 5 then (bytes + 63) / 64 else 0)

/-- RESYNC_PHASE_COMPLETE. -/
def State.phaseComplete (s : State) (bytes : Nat) (d : ResyncData) : State :=
  if s.mode = mResync then s.leewardPhase d else if s.windward then s.windwardPhase bytes else s

/-- RESYNC_TIMEOUT: no join within 10 s of phase 1, phase 2 apart (R229). -/
def State.resyncTimeout (s : State) : State :=
  let p := s.fld Fld.RED_RESYNC_phase
  if p = 0 ∨ p = 2 then s
  else if s.mode = mResync then
    ((s.send .link 0x0358 [0, 10, 0, 0]).put Fld.RED_STATE_cause 10).restartResync
  else s

/-! ### Claims at the stages (R214 to R217) -/

/-- A frame of 40 bits on a claim line: a claim and its CRC-8 (R214). -/
def lineFrame (claim : Word) : BitVec 40 := claim ++ Config.claimCrc claim

/-- The frame that this module drives on its own line every 2 µs: CLAIM_E in the even slot, CLAIM_O in the odd one (R214). -/
def State.ownLine (s : State) : BitVec 40 := lineFrame (s.reg Reg.RED_CLAIM)

/-- CLAIM_FRAME_RECEIVE: a frame on a claim line at the stage of unit `u`, dropped where its CRC is wrong; one on the module's
own line carries what the module drives. A higher claim of the partner is also seen by this module. -/
def State.claimLine (s : State) (u : Nat) (mine : Bool) (frame : BitVec 40) : State :=
  if frame != lineFrame (frame.extractLsb' 8 32) then s
  else
    let claim := (if mine then s.ownLine else frame).extractLsb' 8 32
    let s1 := s.claimFrame u mine claim
    if mine || !s1.sys.pins.pair || s1.fibre then s1
    else
      let s2 := s1.setReg Reg.RED_CLAIM_PEER claim
      if s2.losesTo claim then s2.veerLoser else s2

/-- CLAIM_RESET_WINDOW_END: 100 ms of reset frames have passed (R216). -/
def State.claimResetEnd (s : State) : State :=
  if !s.red.resetting then s
  else
    let s1 := { s with red := { s.red with
      resetting := false
      stages := s.red.stages.map fun (x : Nat × OutStage) =>
        let silent := !s.wired || (x.2.own == 0 && x.2.other == 0)
        (x.1, if x.2.resetOk && silent then { x.2 with h := 0, resetOk := false } else { x.2 with resetOk := false }) } }
    let s2 := s1.unitsReset
    (s2.keepClaim 0).resetModule rcCommanded 0

/-- After claim 1 was raised: an alarm names each unit whose stages count it as a lower claim (R216). -/
def State.lowClaims (s : State) : State :=
  if s.reg Reg.RED_CLAIM != 1 then s
  else
    let s1 := (upFrom 0 9).foldl (fun s u =>
      if hasStage u && s.fld (Fld.FIO_LOWCLAIM_count u) != 0 then s.raiseAlert 216 u else s) s
    (upFrom 16 240).foldl (fun s u => if (s.runit u).low != 0 then s.raiseAlert 216 (256 + u) else s) s1

/-! ### Presence contacts (R234 to R236) -/

/-- PRES_S_OPEN (R235). -/
def State.presOpen (s : State) : State :=
  let s1 := { s with sys := { s.sys with pins := { s.sys.pins with presS := false, seated := false } } }
  if s1.sys.pins.pair && s1.hasClaim && s1.mode == mActive && s1.canYield then (s1.yieldVeer 3).removed
  else if s1.sys.pins.pair && (s1.mode == mStandby || s1.mode == mResync) then
    s1.leaveStandby
  else s1.note 3 235 0

/-- PRES_S_CLOSE (R235). -/
def State.presClose (s : State) : State :=
  let s1 := { s with sys := { s.sys with pins := { s.sys.pins with presS := true } } }
  if s1.sys.wait = .removed then s1.resetModule rcHotSwap 0 else s1

/-- INSERTION_DEBOUNCE: PRES_S closed for 100 ms (R236). -/
def State.inserted (s : State) : State :=
  if s.sys.pins.presS then { s with sys := { s.sys with pins := { s.sys.pins with seated := true } } } else s

end Sys2Proof.Machine
end

