-- ==== Sys2Proof/Machine/Connect.lean ====
section
/-! DEFINITION. What connectors and memory report (R20, R53, R195, R376, R509, R593, R598): optical modules, the witness
lines, the partner's presence, the oscillator, and a bank that scrubbing finds bad. -/

namespace Sys2Proof.Machine

/-! ### Optical modules (R598) -/

/-- Types that the cages take: those of R195 on a fibre pair, those of R509 otherwise. -/
def State.sfpAllowed (s : State) (type : Nat) : Bool := decide (type < (if s.fibre then 2 else 4))

def State.setCage (s : State) (n : Nat) (x : Sfp) : State := { s with sfp := SMap.set {} n x s.sfp }

/-- SFP_INSERT: identity and diagnostics read; no transmitter for one that declares more than 1.0 W or is of another type. -/
def State.sfpInsert (s : State) (n : Nat) (id : SfpIdent) (diag : List Word) : State :=
  let ok := decide (id.power ≤ 1000) && s.sfpAllowed id.type
  let s1 := (s.setCage n { present := true, tx := ok, diag := diag, readAt := s.clk }).showCage n
  if ok then s1 else s1.record 1 598 n 0 0 0xFF [wd id.power, wd id.type]

/-- SFP_DIAG_POLL: diagnostics of a module that is in, 1 s after the last; `alarm`: a value outside the module's own alarm thresholds. -/
def State.sfpPoll (s : State) (n : Nat) (diag : List Word) (alarm : Bool) : State :=
  if (s.cage n).present then
    let s0 := s.clkUntil ((s.cage n).readAt + 250000000)
    let s1 := s0.setCage n { s.cage n with diag := diag, readAt := s0.clk }
    if alarm then s1.raiseAlert 598 n else s1.clearAlert 598 n
  else s

/-! ### Backplane lines (R593) -/

/-- Whether the module drives its own witness line: while RED sends heartbeats, where the lines are wired. -/
def State.drivesWitLine (s : State) : Bool := s.sys.pins.pair && !s.fibre && s.sendsHeartbeats

/-- WITNESS_LINE_DISAGREE: recorded, and nothing is decided by it. The lines are not wired on a fibre pair. -/
def State.lineDisagrees (s : State) : State :=
  if s.sys.pins.pair && !s.fibre then s.note 3 593 0 else s

/-- PARTNER_PRESENCE_CHANGE (R234, R593). -/
def State.partnerPresence (s : State) (closed : Bool) : State :=
  ({ s with sys := { s.sys with pins := { s.sys.pins with partnerIn := closed } } }).flag Fld.SYS_SLOT_partner_in closed

/-- OSCILLATOR_WARM (R53): 30 minutes of warm-up are over. -/
def State.oscillatorWarm (s : State) : State := s.flag Fld.SYS_STAT_osc_warm true

/-! ### Memory banks (R20) -/

/-- Banks that hold a pair's local memory. -/
def localBank (b : Nat) : Bool := decide (6 ≤ b) && decide (b ≤ 9)

/-- ECC_SCRUB_ERROR: a bank marked unusable: bank 15's data goes to DRAM, a pair-local bank takes its pair out, and without
any other bank the station cannot run. -/
def State.bankLost (s : State) (b : Nat) : State :=
  if s.nv.bankMarks.testBit b then s
  else
    let marks := s.nv.bankMarks + 2 ^ b
    let s1 := (({ s with nv := { s.nv with bankMarks := marks } }).put Fld.BST_MARKS_banks marks).note 1 20 b
    let s2 := (s1.notify 0x0780 none [Config.degradedBank b]).degrade
    if b = 15 then s2.askPlacement 1 false
    else if localBank b then
      let p := b - 6
      if s2.pairUsable p then
        let s3 := (s2.markPair p).record 3 20 p 0 0 0xFF [wd b]
        let s4 := (s3.endAct (2 * p)).endAct (2 * p + 1)
        let s5 := { s4 with lks := { s4.lks with armed := SMap.set 0 p 0 s4.lks.armed } }
        if s5.leeward && !s5.red.lost then (s5.send .link 0x0355 [wd p]).loseStep 6 else s5.replace p
      else s2
    else s2.fault44 20 b

end Sys2Proof.Machine
end

