-- ==== Sys2Proof/Machine/ExecConnect.lean ====
section
/-! DEFINITION. The meanings of the commands of connectors and memory (R20, R53, R593, R598). -/

namespace Sys2Proof.Machine

/-- SFP_INSERT (R598): cage X7 or X8, what the module declares, its diagnostics. -/
def execSfpInsert (cage : Fin 2) (ident : SfpIdent) (diag : List Word) (s : State) : Res :=
  (s.sfpInsert cage ident diag).done

/-- SFP_DIAG_POLL (R598). -/
def execSfpDiagPoll (cage : Fin 2) (diag : List Word) (alarm : Bool) (s : State) : Res :=
  (s.sfpPoll cage diag alarm).done

/-- WITNESS_LINE_DISAGREE (R593). -/
def execWitnessLineDisagree (s : State) : Res :=
  s.lineDisagrees.done

/-- ECC_SCRUB_ERROR (R20). -/
def execEccScrubError (bank : Fin 16) (s : State) : Res :=
  (s.bankLost bank).done

/-- OSCILLATOR_WARM (R53). -/
def execOscillatorWarm (s : State) : Res :=
  s.oscillatorWarm.done

/-- PARTNER_PRESENCE_CHANGE (R593). -/
def execPartnerPresenceChange (closed : Bool) (s : State) : Res :=
  (s.partnerPresence closed).done

end Sys2Proof.Machine
end

