-- ==== Sys2Proof/Machine/Cycle.lean ====
section
/-! DEFINITION. What recurs with the trade cycle (R23, R24, R33, R37, R71, R72, R107, R108): its boundary, the 250 µs tick, the
50 µs grid. -/

namespace Sys2Proof.Machine

/-- A route loaded through its shadow restarts its divider (R37). -/
def State.takeRoutes (s : State) : State :=
  let hit := (upFrom 0 120).filter fun k => (s.shadowOf (Reg.SYS_EVM_SINK k) .cyc).isSome
  let s1 := s.takeShadows .cyc
  { s1 with sys := { s1.sys with divs := hit.foldl (fun m k => SMap.set 0 k 0 m) s1.sys.divs } }

/-- The scheduled mode change, and the joining of a module in RESYNC (R42, R228). -/
def State.boundaryMode (s : State) : State :=
  let s1 := s.scheduledMode
  if s.mode = mResync ∧ s1.mode = mStandby then s1.joinedStep else s1

/-- The clock of the next trade-cycle start is reached: CYC shadows, then commits, plan, veer and mode (R46, R71, R72). No commit and
no plan acts on a module in SELFTEST (R568). -/
def State.cycleStart (s : State) : State :=
  let next := s.sys.tc0 + s.tcyc
  let s1 := s.advance (next - s.clk)
  let s2 := { s1 with sys := { s1.sys with tc0 := next, tick := 0, cycles := s1.sys.cycles + 1 } }
  if s2.mode = mSelftest then s2.takeRoutes
  else ((s2.takeRoutes.applyCommits).applyConfirms).applyPlan.canJoins

/-- TRADE_CYCLE_BOUNDARY: source 0 fires under the new routes (R37). -/
def State.tradeCycle (s : State) : State :=
  (s.cycleStart.veerBoundary.boundaryMode.lowClaims).fire 0

/-- Whether source 1 triggers periodic tasks here (R24, R38). -/
def State.periodicTasks (s : State) (i : Nat) : State := if s.tasksTrigger then s.triggerPeriodic i else s

/-- TICK_250US: tick `tick` of the trade cycle, at its start plus so many times 250 µs. -/
def State.tick250 (s : State) : State :=
  let n := s.sys.tick
  let s1 := s.advance (s.sys.tc0 + n * 62500 - s.clk)
  let s2 := { s1 with sys := { s1.sys with tick := n + 1 } }
  (((s2.tickLoad.runDomains.agePhasors).ageField).fire 1).periodicTasks (n % (s.fld Fld.SYS_TCYC_len + 1))

/-- PLAN_READY_CHECK: at the next point of the 50 µs grid (R107). -/
def State.planReady (s : State) : State :=
  let n := (s.clk - s.sys.tc0) / 12500 + 1
  (s.advance (s.sys.tc0 + n * 12500 - s.clk)).checkPlan

end Sys2Proof.Machine
end

