-- ==== Sys2Proof/Machine/ExecCycle.lean ====
section
/-! DEFINITION. The meanings of the commands of the trade cycle, its plan and its online changes (R71, R33, R108, R127, R129,
R169). -/

namespace Sys2Proof.Machine

/-- TRADE_CYCLE_BOUNDARY (R71). -/
def execTradeCycleBoundary (s : State) : Res :=
  s.tradeCycle.done

/-- TICK_250US (R33). -/
def execTick250us (s : State) : Res :=
  s.tick250.done

/-- PLAN_READY_CHECK (R108). -/
def execPlanReadyCheck (s : State) : Res :=
  s.planReady.done

/-- PLACEMENT_DONE (R127). -/
def execPlacementDone (s : State) : Res :=
  s.placementDone.done

/-- INSTANCE_MOVE_DONE (R129). -/
def execInstanceMoveDone (task : Fin 512) (s : State) : Res :=
  (s.moveDone task).done

/-- SHADOW_BANK_LOADED (R169). -/
def execShadowBankLoaded (s : State) : Res :=
  s.shadowsLoaded.done

end Sys2Proof.Machine
end

