-- ==== Sys2Proof/Machine/ExecField.lean ====
section
/-! DEFINITION. The meanings of the commands of network time (R371 to R392), field I/O (R393 to R434) and remote I/O (R435
to R452). -/

namespace Sys2Proof.Machine

/-! ### Network time -/

/-- PTP_SYNC_MEASUREMENT (R378): the offset of the reference from station time and the path delay, ns. -/
def execPtpSyncMeasurement (port : Fin 6) (offset : BitVec 64) (delay : BitVec 32) (s : State) : Res :=
  (s.ptpMeasure port offset.toInt delay.toNat).done

/-- PTP_ANNOUNCE (R374). -/
def execPtpAnnounce (port : Fin 6) (clock : Announce) (s : State) : Res :=
  (s.takeAnnounce port clock).done

/-- REFERENCE_LOSS (R381). -/
def execReferenceLoss (s : State) : Res :=
  s.referenceLost.done

/-- LOCK_ACHIEVED (R373). -/
def execLockAchieved (s : State) : Res :=
  s.lockAchieved.done

/-- PPS_OUTPUT_EDGE (R385). -/
def execPpsOutputEdge (s : State) : Res :=
  s.ppsOutput.done

/-- PPS_INPUT_EDGE (R386): the age of the edge, ns. -/
def execPpsInputEdge (age : BitVec 16) (s : State) : Res :=
  (s.ppsInput (s.time - age.toNat)).done

/-- COMPARE_ARM (R387, R390): the TCMP item with its target and sequence. -/
def execCompareArm (compare : Fin 32) (target : BitVec 32) (seq : BitVec 8) (s : State) : Res :=
  (s.cmpItemTaken compare (BitVec.ofNat 64 (target.toNat + seq.toNat * 2 ^ 32))).done

/-- COMPARE_DISARM (R390): the TCMP item with bit 40. -/
def execCompareDisarm (compare : Fin 32) (seq : BitVec 8) (s : State) : Res :=
  (s.cmpItemTaken compare (BitVec.ofNat 64 (seq.toNat * 2 ^ 32 + 2 ^ 40))).done

/-- COMPARE_FIRE (R387). -/
def execCompareFire (compare : Fin 32) (s : State) : Res :=
  (s.cmpReached compare).done

/-- PERIODIC_COMPARE_FIRE (R388). -/
def execPeriodicCompareFire (compare : Fin 32) (s : State) : Res :=
  (s.gridReached compare).done

/-! ### Barrier links and supplies -/

/-- BARRIER_FRAME_SEND (R394). -/
def execBarrierFrameSend (s : State) : Res :=
  s.sendFrames.done

/-- BARRIER_FRAME_RECEIVE (R394): at the field side or at the logic side of a link; a frame of the field side carries
readings. -/
def execBarrierFrameReceive (unit : Fin 9) (field : Bool) (octets : List Byte) (readings : List Reading)
    (s : State) : Res :=
  (if field then s.fieldFrame unit octets else s.logicFrame unit octets readings).done

/-- LINK_DOWN (R395): declared by the field side or by the logic side. -/
def execLinkDown (unit : Fin 9) (field : Bool) (s : State) : Res :=
  (s.linkDown unit field).done

/-- FIO_WATCHDOG_EXPIRY (R396). -/
def execFioWatchdogExpiry (s : State) : Res :=
  s.stopFrames.done

/-- SILENCE_TIMEOUT (R397). -/
def execSilenceTimeout (unit : Fin 9) (s : State) : Res :=
  (s.silence unit).done

/-- FIELD_SUPPLY_CHANGE (R398, R455): the voltage of a supply held for 1 ms, mV. -/
def execFieldSupplyChange (supply : Fin 8) (mv : BitVec 16) (s : State) : Res :=
  let s1 := s.supplyChange supply mv.toNat
  (if s1.supply 7 = s.supply 7 then s1 else s1.safeSupply).done

/-! ### Digital inputs and outputs -/

/-- DI_SAMPLE (R403): mV and µA of each channel of bank A or B. -/
def execDiSample (bank : Fin 2) (inputs : List (Nat × Nat)) (s : State) : Res :=
  (s.diSampleBank bank inputs).done

/-- DO_OVERLOAD_LATCH (R405): by current limiting, or by temperature. -/
def execDoOverloadLatch (bank : Fin 2) (channel : Fin 8) (hot : Bool) (s : State) : Res :=
  (s.doOverload (2 + bank) channel hot).done

/-- DO_MISMATCH (R405): the readback 2 ms after the application. -/
def execDoMismatch (bank : Fin 2) (channel : Fin 8) (readback : Bool) (s : State) : Res :=
  (s.doMismatch (2 + bank) channel readback).done

/-- DO_OPEN_LOAD (R405): what the test finds. -/
def execDoOpenLoad (bank : Fin 2) (channel : Fin 8) (open_ : Bool) (s : State) : Res :=
  (s.doOpenLoad (2 + bank) channel open_).done

/-- GUST_SWITCH_ON_RELEASE (R406). -/
def execGustSwitchOnRelease (bank : Fin 2) (s : State) : Res :=
  (s.gustRelease (2 + bank)).done

/-- FAULT_RESET_ITEM (R407): for a DO channel or an H-bridge; `cool` says that the junction is below 125 °C. -/
def execFaultResetItem (unit : Fin 3) (channel : Fin 8) (seq : BitVec 8) (cool : Bool) (s : State) : Res :=
  (s.faultReset ([2, 3, 6].getD unit 2) (if unit = 2 then channel % 4 else channel) seq.toNat cool).done

/-! ### H-bridges, encoders and pickups -/

/-- PWM_PERIOD (R408): the current averaged over the period before in µA, whether overcurrent cut that period, and whether
within 2 µs of a switch-on. -/
def execPwmPeriod (channel : Fin 4) (current : BitVec 32) (cut early : Bool) (s : State) : Res :=
  (s.pwmPeriod channel current.toInt cut early).done

/-- SHOOT_THROUGH (R409). -/
def execShootThrough (channel : Fin 4) (s : State) : Res :=
  (s.shootThrough channel).done

/-- HBRIDGE_OPEN_COIL (R410). -/
def execHbridgeOpenCoil (channel : Fin 4) (s : State) : Res :=
  (s.openCoil channel).done

/-- STAGE_THERMAL_LATCH (R410). -/
def execStageThermalLatch (channel : Fin 4) (s : State) : Res :=
  (s.hbThermal channel).done

/-- STAGGER_RELEASE (R411). -/
def execStaggerRelease (channel : Fin 4) (s : State) : Res :=
  (s.staggerRelease 6 channel).done

/-- ENCODER_COUNT (R412): new levels of the lines A and B, and their age, ns. -/
def execEncoderCount (encoder : Fin 2) (a b : Bool) (age : BitVec 16) (s : State) : Res :=
  (s.encoderEdge encoder a b (s.time - age.toNat)).done

/-- ENCODER_INDEX (R412): the age of the Z edge, ns. -/
def execEncoderIndex (encoder : Fin 2) (age : BitVec 16) (s : State) : Res :=
  (s.encoderIndex encoder (s.time - age.toNat)).done

/-- ENCODER_LINE_FAULT (R413). -/
def execEncoderLineFault (encoder : Fin 2) (fault : Bool) (s : State) : Res :=
  (s.encoderLine encoder fault).done

/-- PICKUP_PULSE (R414): the age of the trigger, ns. -/
def execPickupPulse (pickup : Fin 2) (age : BitVec 16) (s : State) : Res :=
  (s.pickupPulse pickup (s.time - age.toNat)).done

/-- COIL_CHECK (R414): the resistance measured, Ω. -/
def execCoilCheck (pickup : Fin 2) (ohm : BitVec 20) (s : State) : Res :=
  (s.coilCheck pickup ohm.toNat).done

/-! ### Analogue inputs and outputs -/

/-- CONVERTER_START (R421). -/
def execConverterStart (converter : Fin 2) (s : State) : Res :=
  (s.aiStart converter).done

/-- FILTER_OUTPUT (R421): the current in nA, the transmitter supply's current in µA, and whether the input current limit acts. -/
def execFilterOutput (converter : Fin 2) (current : BitVec 32) (supply : BitVec 16) (limited : Bool) (s : State) : Res :=
  (s.filterOutput converter current.toInt supply.toNat limited).done

/-- AO_STAGGER_RELEASE (R426). -/
def execAoStaggerRelease (channel : Fin 8) (s : State) : Res :=
  (s.staggerRelease 5 channel).done

/-- COMPLIANCE_ADJUST (R427): the terminal voltage, mV. -/
def execComplianceAdjust (channel : Fin 8) (mv : BitVec 16) (s : State) : Res :=
  (s.compliance channel mv.toNat).done

/-- AO_READBACK (R428): the loop current, nA. -/
def execAoReadback (channel : Fin 8) (current : BitVec 32) (s : State) : Res :=
  (s.aoReadback channel current.toInt).done

/-- AO_THERMAL (R430): the junction temperature, 0.1 °C. -/
def execAoThermal (channel : Fin 8) (temp : BitVec 16) (s : State) : Res :=
  (s.aoThermal channel temp.toInt).done

/-! ### Remote I/O -/

/-- RING_CYCLE_END (R440): what returned. -/
def execRingCycleEnd (ring : Fin 2) (report : RingReport) (s : State) : Res :=
  (s.ringEnd ring report).done

/-- UNIT_FRAME_PROCESS (R437): this module's frame, with the safety telegrams in it (R472), or one of another master. -/
def execUnitFrameProcess (unit : Fin 256) (other : Option RFrame) (s : State) : Res :=
  let s1 := s.unitProcess unit other
  (if other.isNone then s1.unitTelegram unit else s1).done

/-- UNIT_APPLY_INSTANT (R437). -/
def execUnitApplyInstant (unit : Fin 256) (s : State) : Res :=
  ((s.unitApply unit).applyDue unit 0).done

/-- UNIT_LINK_DOWN (R439): on side A or B. -/
def execUnitLinkDown (unit : Fin 256) (sideB : Bool) (s : State) : Res :=
  (s.unitLink unit sideB true).done

/-- RING_RESTORE (R441): the link after a position. -/
def execRingRestore (ring : Fin 2) (position : Fin 128) (s : State) : Res :=
  (s.linkRestored ring position).done

/-- UNIT_MISSED_CYCLES (R442). -/
def execUnitMissedCycles (unit : Fin 256) (s : State) : Res :=
  (s.unitLost unit).done

/-- DISCOVERY (R443): the reports, the bytes of the frame and the sum of the hop delays, ns. -/
def execDiscovery (ring : Fin 2) (reports : List RReport) (bytes hopNs : BitVec 16) (s : State) : Res :=
  (s.discovery ring reports bytes.toNat hopNs.toNat).done

/-- FOREIGN_FRAME (R445): the claim and the slot parity of the frame. -/
def execForeignFrame (ring : Fin 2) (claim : BitVec 32) (even : Bool) (s : State) : Res :=
  (s.foreignFrame ring claim even).done

/-- UNIT_SILENCE_TIMEOUT (R446). -/
def execUnitSilenceTimeout (unit : Fin 256) (s : State) : Res :=
  (s.unitSilence unit).done

/-- RIO_SERVICE_MESSAGE (R438): the reply that the unit sends, if it sends one. -/
def execRioServiceMessage (queue : Fin 8192) (reply : Option (List Byte)) (s : State) : Res :=
  (s.serviceMessage queue reply).done

/-- UNIT_SUPPLY_LOSS (R446). -/
def execUnitSupplyLoss (unit : Fin 256) (s : State) : Res :=
  (s.unitDead unit).done

end Sys2Proof.Machine
end

