-- ==== Sys2Proof/Machine/ExecLanes.lean ====
section
/-! DEFINITION. The meanings of the commands of lanes, budgets and lockstep pairs (R25, R110 to R119, R159, R180, R182). -/

namespace Sys2Proof.Machine

/-- WINDOW_START (R110): the entry of the lane's slot table in force. -/
def execWindowStart (lane : Fin 8) (entry : Fin 256) (s : State) : Res :=
  match s.slowOfLane lane with
  | some a => State.doneOr a.key ((s.finishSlow lane).map fun s => s.windowStart lane entry)
  | none => (s.windowStart lane entry).done

/-- ACTIVATION_START (R25, R27). -/
def execActivationStart (lane : Fin 8) (s : State) : Res :=
  (s.startNext lane).done

/-- WINDOW_END (R111, R115). -/
def execWindowEnd (lane : Fin 8) (s : State) : Res :=
  match s.slowOfLane lane with
  | some a => State.doneOr a.key ((s.finishSlow lane).map fun s => s.windowEnd lane)
  | none => (s.windowEnd lane).done

/-- ACTIVATION_RESUME (R111). -/
def execActivationResume (lane : Fin 8) (s : State) : Res :=
  (s.resumeNext lane).done

/-- BUDGET_EXHAUSTED (R114, R116). -/
def execBudgetExhausted (lane : Fin 8) (s : State) : Res :=
  (s.budgetEnd lane).done

/-- MAP_COPY_COMPLETE (R159). -/
def execMapCopyComplete (task : Fin 512) (s : State) : Res :=
  (s.mapCopied task).done

/-- DRAM_CREDIT_WINDOW (R119). -/
def execDramCreditWindow (s : State) : Res :=
  s.creditWindow.done

/-- COMPARE_MISMATCH (R182): the lane and the kind of R177. A split engine has no checker, and fails by kind 9 alone. -/
def execCompareMismatch (lane : Fin 8) (kind : Fin 10) (s : State) : Res :=
  (s.mismatch lane kind).done

/-- AGREEMENT_BUFFER_FREE (R180). -/
def execAgreementBufferFree (lane : Fin 8) (s : State) : Res :=
  (s.freeAgreement lane).done

end Sys2Proof.Machine
end

