-- ==== Sys2Proof/Machine/Requests.lean ====
section
/-! DEFINITION. The command catalogue (R95): who may send each command, in which modes, with how many words, and the checks of
R613 up to the session. -/

namespace Sys2Proof.Machine

/-- What refuses a request: status, reason, argument index. -/
abbrev Refused := Option (Nat × Nat × Nat)

/-- No argument word is at fault. -/
def noArg : Nat := 0xFFFF

/-- The first of some causes that holds. -/
def firstRefused : List (Bool × Nat × Nat × Nat) → Refused
  | [] => none
  | (b, st, reason, arg) :: rest => if b then some (st, reason, arg) else firstRefused rest

/-- An argument out of its range, or an undescribed bit of it set. -/
def badArg (b : Bool) (arg : Nat) : Bool × Nat × Nat × Nat := (b, stBadArg, 0x0004, arg)

/-- The first word of a request with a bit that the catalogue does not describe. -/
def badBits (masks : List Nat) (ws : List Word) : Refused :=
  (undescribed masks ws 0).map fun n => (stBadArg, 0x0004, n)

/-- The kind of session that a command names. -/
inductive SessionArg where
  | none
  | config
  | image
  deriving DecidableEq, Repr

/-- One row of the catalogue. Senders: mailbox 0, 1 to 63, 64, 67. Modes: none where the command is executed in every mode in
which its mailbox is served. -/
structure CmdRow where
  op : Nat
  s : Bool
  a : Bool
  t : Bool
  k : Bool
  modes : List Nat
  lo : Nat
  hi : Nat
  session : SessionArg := .none
  deriving DecidableEq, Repr

def modesCAF : List Nat := [mCommission, mActive, mSafe]
def modesCA : List Nat := [mCommission, mActive]
def modesC : List Nat := [mCommission]

/-- The catalogue. -/
def catalogue : List CmdRow := [
  ⟨0x0101, true, false, true, true, [], 1, 1, .none⟩,
  ⟨0x0102, true, true, true, false, modesCAF, 1, 1, .none⟩,
  ⟨0x0103, true, true, true, false, modesCAF, 2, 58, .config⟩,
  ⟨0x0104, true, true, true, false, modesCAF, 1, 1, .config⟩,
  ⟨0x0105, true, true, true, false, modesCAF, 1, 1, .config⟩,
  ⟨0x0106, true, true, true, true, [], 2, 2, .none⟩,
  ⟨0x0107, true, true, true, false, modesCAF, 2, 2, .config⟩,
  ⟨0x0108, true, false, true, true, modesC, 3, 3, .none⟩,
  ⟨0x0109, false, false, true, false, modesC, 16, 16, .none⟩,
  ⟨0x0201, true, true, true, false, modesCA, 12, 12, .config⟩,
  ⟨0x0202, true, false, true, false, modesCA, 3, 3, .config⟩,
  ⟨0x0203, true, false, true, false, modesCA, 1, 1, .config⟩,
  ⟨0x0204, true, true, true, true, [], 2, 2, .none⟩,
  ⟨0x0205, true, false, true, false, modesCA, 5, 5, .config⟩,
  ⟨0x0301, true, false, true, true, [mActive], 0, 0, .none⟩,
  ⟨0x0302, true, true, true, true, [], 0, 0, .none⟩,
  ⟨0x0303, true, false, true, false, [mActive], 1, 1, .none⟩,
  ⟨0x0401, true, false, true, false, modesC, 3, 60, .config⟩,
  ⟨0x0402, true, true, true, true, [], 1, 1, .none⟩,
  ⟨0x0403, false, false, false, true, modesCA, 2, 2, .none⟩,
  ⟨0x0404, false, false, true, false, modesC, 9, 9, .none⟩,
  ⟨0x0501, true, true, true, true, [], 1, 1, .none⟩,
  ⟨0x0502, true, false, true, false, [], 1, 1, .none⟩,
  ⟨0x0601, true, true, true, true, [], 0, 0, .none⟩,
  ⟨0x0602, true, false, true, false, modesCAF, 2, 2, .none⟩,
  ⟨0x0701, true, true, true, true, [], 0, 0, .none⟩,
  ⟨0x0702, true, false, true, true, [], 1, 1, .none⟩,
  ⟨0x0703, true, true, true, false, [], 2, 2, .none⟩,
  ⟨0x0704, true, true, true, true, [], 1, 1, .none⟩,
  ⟨0x0705, true, true, true, true, [], 0, 60, .none⟩,
  ⟨0x0801, true, false, true, false, [mService, mCommission, mActive], 3, 3, .none⟩,
  ⟨0x0802, true, false, true, false, [mService, mCommission, mActive], 2, 58, .image⟩,
  ⟨0x0803, true, false, true, false, [mService, mCommission, mActive], 1, 1, .image⟩,
  ⟨0x0804, true, false, true, false, [mService], 2, 2, .none⟩,
  ⟨0x0805, true, false, true, false, modesCA, 1, 1, .image⟩]

/-- Whether an opcode is one of the witness and pair messages (R209). -/
def pairOpcode (op : Nat) : Bool :=
  (decide (0x0340 ≤ op) && decide (op ≤ 0x0347)) || (decide (0x0350 ≤ op) && decide (op ≤ 0x0358))

/-- Commands that a leeward module refuses (R93). -/
def leewardRefuses : List Nat :=
  [0x0102, 0x0103, 0x0104, 0x0105, 0x0107, 0x0108, 0x0109, 0x0201, 0x0202, 0x0203, 0x0205, 0x0401, 0x0403, 0x0404, 0x0602]

/-- What mailbox 64 serves before a project key is enrolled (R96). -/
def beforeEnrolment : List Nat :=
  [0x0101, 0x0106, 0x0109, 0x0204, 0x0302, 0x0402, 0x0501, 0x0601, 0x0701, 0x0703, 0x0705]

def CmdRow.permits (r : CmdRow) (m : Nat) : Bool :=
  if m = 0 then r.s else if m ≤ 63 then r.a else if m = 64 then r.t else if m = 67 then r.k else false

/-- The session of mailbox `m` with a number (R91). -/
def State.session (s : State) (m n : Nat) : Option Session :=
  match SMap.get none n s.fw.sessions with
  | some x => if x.mbx = m then some x else none
  | none => none

/-- The image session of mailbox `m` with a number. -/
def State.imgSession (s : State) (m n : Nat) : Option ImgSes :=
  match SMap.get none n s.fw.images with
  | some x => if x.who = m then some x else none
  | none => none

/-- Image types that a command of class 8 may name in the present mode: type 5 also in COMMISSION and ACTIVE (R95). -/
def State.imageMode (s : State) (type : Option Nat) : Bool :=
  s.mode == mService || type == some 5 || type == none

/-- Whether the mode permits a command, beyond the catalogue's list. -/
def State.modePermits (s : State) (r : CmdRow) (m : Nat) (ws : List Word) : Bool :=
  (r.modes.isEmpty || r.modes.contains s.mode) &&
    (if r.op = 0x0301 then s.partnerStandby
     else if r.op = 0x0801 then s.imageMode (some (wAt ws 0).toNat)
     else if r.op = 0x0802 ∨ r.op = 0x0803 then s.imageMode ((s.imgSession m (wAt ws 0).toNat).map (·.type))
     else true)

/-- Steps 3 to 8 of R613, with `n` payload words. -/
def State.refuses (s : State) (m op : Nat) (ws : List Word) : Refused :=
  match catalogue.find? fun r => r.op == op with
  | none => some (if pairOpcode op then (stDenied, 0x0006, noArg) else (stBadArg, 0x0001, noArg))
  | some r =>
    let ses := (wAt ws 0).toNat
    firstRefused [
      (!r.permits m || (m == 64 && s.nv.key.isEmpty && !beforeEnrolment.contains op), stDenied, 0x0006, noArg),
      ((s.mode == mStandby || s.mode == mResync) && leewardRefuses.contains op, stNotInMode, 0x0100, noArg),
      (!s.modePermits r m ws, stNotInMode, 0x0008, noArg),
      (decide (ws.length < r.lo) || decide (r.hi < ws.length), stBadArg, 0x0002, noArg),
      ((r.session == .config && (s.session m ses).isNone) || (r.session == .image && (s.imgSession m ses).isNone),
        stBadArg, 0x0005, 0)]

/-- Header fields of a slot (R83, R84). -/
def headerRefused (w1 w2 w3 : Word) : Refused :=
  let len := bits w1 15 0
  firstRefused [
    (bits w1 31 16 != 0 || bits w2 7 0 != 0 || w3 != 0, stBadArg, 0x0007, noArg),
    (len % 4 != 0 || decide (240 < len), stBadArg, 0x0002, noArg)]

end Sys2Proof.Machine
end

