-- ==== Sys2Proof/Machine/Sha.lean ====
section
/-! DEFINITION. SHA-256 over whole words, for the role password of R481: the manual names the function, and its rounds are those of
FIPS 180-4 (PRESUMED, log entry 151). -/

namespace Sys2Proof.Machine

def shaStart : List Word := [0x6A09E667, 0xBB67AE85, 0x3C6EF372, 0xA54FF53A, 0x510E527F, 0x9B05688C, 0x1F83D9AB, 0x5BE0CD19]

def shaRounds1 : List Word := [
  0x428A2F98, 0x71374491, 0xB5C0FBCF, 0xE9B5DBA5, 0x3956C25B, 0x59F111F1, 0x923F82A4, 0xAB1C5ED5,
  0xD807AA98, 0x12835B01, 0x243185BE, 0x550C7DC3, 0x72BE5D74, 0x80DEB1FE, 0x9BDC06A7, 0xC19BF174,
  0xE49B69C1, 0xEFBE4786, 0x0FC19DC6, 0x240CA1CC, 0x2DE92C6F, 0x4A7484AA, 0x5CB0A9DC, 0x76F988DA,
  0x983E5152, 0xA831C66D, 0xB00327C8, 0xBF597FC7, 0xC6E00BF3, 0xD5A79147, 0x06CA6351, 0x14292967]
def shaRounds2 : List Word := [
  0x27B70A85, 0x2E1B2138, 0x4D2C6DFC, 0x53380D13, 0x650A7354, 0x766A0ABB, 0x81C2C92E, 0x92722C85,
  0xA2BFE8A1, 0xA81A664B, 0xC24B8B70, 0xC76C51A3, 0xD192E819, 0xD6990624, 0xF40E3585, 0x106AA070,
  0x19A4C116, 0x1E376C08, 0x2748774C, 0x34B0BCB5, 0x391C0CB3, 0x4ED8AA4A, 0x5B9CCA4F, 0x682E6FF3,
  0x748F82EE, 0x78A5636F, 0x84C87814, 0x8CC70208, 0x90BEFFFA, 0xA4506CEB, 0xBEF9A3F7, 0xC67178F2]

/-- The schedule of a block, newest word first, `n` words longer. -/
def shaExpand : Nat → List Word → List Word
  | 0, w => w
  | n + 1, w =>
    let a := w.getD 1 0
    let b := w.getD 14 0
    let x := (a.rotateRight 17 ^^^ a.rotateRight 19 ^^^ (a >>> 10)) + w.getD 6 0 +
      (b.rotateRight 7 ^^^ b.rotateRight 18 ^^^ (b >>> 3)) + w.getD 15 0
    shaExpand n (x :: w)

/-- One round: the constant and the word of the schedule, added. -/
def shaRound (h : List Word) (kw : Word) : List Word :=
  match h with
  | [a, b, c, d, e, f, g, i] =>
    let t1 := i + (e.rotateRight 6 ^^^ e.rotateRight 11 ^^^ e.rotateRight 25) + ((e &&& f) ^^^ (~~~e &&& g)) + kw
    let t2 := (a.rotateRight 2 ^^^ a.rotateRight 13 ^^^ a.rotateRight 22) + ((a &&& b) ^^^ (a &&& c) ^^^ (b &&& c))
    [t1 + t2, a, b, c, d + t1, e, f, g]
  | _ => h

/-- A block of 16 words. -/
def shaBlock (h block : List Word) : List Word :=
  let w := (shaExpand 48 block.reverse).reverse
  let r := (List.zipWith (· + ·) (shaRounds1 ++ shaRounds2) w).foldl shaRound h
  List.zipWith (· + ·) h r

def shaBlocks : Nat → List Word → List Word → List Word
  | 0, h, _ => h
  | n + 1, h, ws => shaBlocks n (shaBlock h (ws.take 16)) (ws.drop 16)

/-- SHA-256 of a message of whole words. -/
def sha256 (ws : List Word) : List Word :=
  let n := ws.length
  let padded := ws ++ [0x80000000] ++ List.replicate ((16 - (n + 3) % 16) % 16) 0 ++ [hi32 (32 * n), lo32 (32 * n)]
  shaBlocks (padded.length / 16) shaStart padded

/-- The salted hash of a password as it stands in MRAM: the salt of two words, then SHA-256 over salt and password (R481). -/
def saltedHash (salt : Word64) (pw : List Word) : List Word :=
  let x := [hi32 salt.toNat, lo32 salt.toNat]
  x ++ sha256 (x ++ pw)

/-- Whether a password has the hash that is stored. -/
def passwordOk (stored pw : List Word) : Bool := stored.drop 2 == sha256 (stored.take 2 ++ pw)

end Sys2Proof.Machine
end

