-- ==== Sys2Proof/Machine/Commands.lean ====
section
/-! DEFINITION. What each command of the catalogue does (R90 to R95, R118, R124, R131, R172 to R175, R226, R231, R384, R479 to
R482, R504, R588, R614, R615): its checks from step 9 of R613 on, its effect and its answer. -/

namespace Sys2Proof.Machine

/-- A refusal answered; otherwise the command acts. -/
def State.unless (s : State) (d : Deferred) (r : Refused) (k : State → State) : State :=
  match r with
  | some (st, reason, arg) => s.respond d (errAns st reason arg)
  | none => k s

def State.answer (s : State) (d : Deferred) (ws : List Word) : State := s.respond d (okAns ws)
def State.refuse (s : State) (d : Deferred) (st reason arg : Nat) : State := s.respond d (errAns st reason arg)

/-- Argument word `i` as a number. -/
def argN (ws : List Word) (i : Nat) : Nat := (wAt ws i).toNat

/-- A partition that a sender in A does not own (R90). -/
def foreign (m p : Nat) : Bool := decide (1 ≤ m) && decide (m ≤ 63) && p != m

/-- The scope of a session: none for the whole station. -/
def scopeOf (x : Session) : Option Nat := if x.scope = 0xFF then none else some x.scope

def State.ses (s : State) (n : Nat) : Session := (SMap.get none n s.fw.sessions).getD { scope := 0xFF, mbx := 0 }

def State.setSession (s : State) (n : Nat) (x : Option Session) : State :=
  { s with fw := { s.fw with sessions := SMap.set none n x s.fw.sessions } }

/-- The manual does not say what a command gets that names a session whose commit waits for the acknowledgement or its load:
here BUSY, among the checks of step 10 of R613 (DESIGN CHOICE, log entry 137). -/
def State.held (s : State) (n : Nat) : Bool × Nat × Nat × Nat := (s.sessionBusy n, stBusy, 0, noArg)

/-- A stage added to a session (R91). -/
def State.stageIn (s : State) (n : Nat) (st : Stage) : State :=
  let x := s.ses n
  s.setSession n (some { x with stages := x.stages ++ [st] })

/-- A session ends, and its stages with it. -/
def State.endSession (s : State) (n : Nat) : State :=
  let s1 := s.setSession n none
  { s1 with saf := { s1.saf with auth := s1.saf.auth.filter (· != n) } }

/-- SESSION_TIMEOUT: no command for 60 s (R91). -/
def State.sessionTimeout (s : State) (n : Nat) : State :=
  if (SMap.get none n s.fw.sessions).isSome && !s.sessionBusy n then s.endSession n else s

/-! ### Class 0x01, configuration -/

def State.cmdModeReq (s : State) (d : Deferred) (ws : List Word) : State :=
  s.unless d (badBits [7] ws) fun s => s.modeRequest d (argN ws 0)

/-- The project key with which the sender in a mailbox is authenticated (R95). -/
def State.senderKey (s : State) (m : Nat) : List Word := if m = 64 then s.fw.connKey else []

def State.cmdOpen (s : State) (d : Deferred) (ws : List Word) : State :=
  let scope := argN ws 0
  let open_ := s.fw.sessions.filterMap (·.2)
  let clash := open_.any fun x => scope == 0xFF || x.scope == 0xFF || x.scope == scope
  s.unless d (firstRefused [
    badArg (decide (63 < scope) && scope != 0xFF) 0,
    (foreign d.mbx scope, stDenied, 0x010A, 0),
    (clash, stBusy, 0, noArg)]) fun s =>
    match (upFrom 1 15).find? fun n => (SMap.get none n s.fw.sessions).isNone with
    | none => s.refuse d stNoResource 0x0004 noArg
    | some n => (s.setSession n (some { scope := scope, mbx := d.mbx, key := s.senderKey d.mbx })).answer d [wd n]

/-- Whether a written record needs more than its session gives (R125, R189, R482): status and reason. -/
def State.writeRefused (s : State) (m n type i : Nat) (ws : List Word) : Refused :=
  let x := s.ses n
  let old := s.rec_ type i
  let owner := fun (r : List Word) => match s.recPart type i r with | some p => foreign m p | none => false
  firstRefused [
    s.held n,
    (type == 2 && x.scope != 0xFF, stDenied, 0x0105, 1),
    (owner ws || (!old.isEmpty && owner old), stDenied, 0x010A, 1),
    (type == 0x0C && (m != 64 || x.scope != 0xFF || !s.saf.auth.contains n), stDenied, 0x01E5, 1),
    (type == 0x0E && 0x0D0000 + i == Reg.LKS_DBGCTL && bit (wAt ws 0) 8 && !s.mayDebug, stNotInMode, 0x0130, noArg)]

def State.cmdWrite (s : State) (d : Deferred) (ws : List Word) : State :=
  let n := argN ws 0
  let type := wBits ws 1 31 24
  let i := wBits ws 1 23 0
  match recLayout type i with
  | none => s.refuse d stBadArg 0x0004 1
  | some ms =>
    let r := fullRecord ms (ws.drop 2)
    s.unless d ((undescribed ms (ws.drop 2) 0).map fun k => (stBadArg, 0x0004, k + 2)) fun s =>
      s.unless d (s.writeRefused d.mbx n type i r) fun s => (s.stageIn n (.record (recKey type i) r)).answer d []

def State.cmdCommit (s : State) (d : Deferred) (ws : List Word) : State :=
  let n := argN ws 0
  let x := s.ses n
  s.unless d (firstRefused [s.held n]) fun s =>
  match s.chkCommit (scopeOf x) (s.saf.auth.contains n) x.stages with
  | some (st, reason) =>
    let s1 := if reason = 0x0101 then (match s.commitRun x.stages with | some (r, _) => s.fileReport r s.nextSeq | none => s) else s
    s1.refuse d st reason noArg
  | none => s.carry ⟨n, scopeOf x, x.stages, none, false, d⟩

def State.cmdAbort (s : State) (d : Deferred) (ws : List Word) : State :=
  s.unless d (firstRefused [s.held (argN ws 0)]) fun s => (s.endSession (argN ws 0)).answer d []

/-- Words `k` onwards of a list of words kept by station firmware: how many there are, and those asked for. -/
def sliceOf (r : List Word) (k : Nat) : Nat × List Word := (r.length, (r.drop k).take 59)

/-- What CFG_READ finds (R175, R189, R287, R482, R570, R578, R614): the words of the record, and those from word `k` on. -/
def State.cfgView (s : State) (type i k : Nat) : Nat × List Word :=
  if type = 1 ∧ 0xF000 ≤ i ∧ i < 0xF100 then
    sliceOf (match s.fw.forces[i - 0xF000]? with
      | some f => [wd f.addr, f.val, wd (1 + 2 * b1 f.output), f.since]
      | none => [0, 0, 0, 0]) k
  else if type = 5 ∧ 0x8000 ≤ i ∧ i < 0x8004 then
    let a := captureAddr (i - 0x8000)
    if s.word a = 0x43415054 then
      let n := 16 + 4 * (s.word (a + 8)).toNat
      (n, s.words (a + 4 * k) (min 59 (n - k)))
    else (0, [])
  else if type = 0x0C ∧ 0x8000 ≤ i ∧ i < 0x9000 then
    let a := 0x800E00000 + (i - 0x8000) * 256
    if s.word (a + 252) = 0x56414C44 then (64, s.words (a + 4 * k) (min 59 (64 - k))) else (0, [])
  else if type = 0x0E then (if (recLayout type i).isSome then sliceOf [(s.readReg (0x0D0000 + i)).2] k else (0, []))
  else if type = 0x14 ∧ 0x100 ≤ i ∧ i < 0x104 then sliceOf (s.nv.reports.getD (i - 0x100) []) k
  else if type = 0x15 ∧ i = 0 then sliceOf s.nv.life k
  else sliceOf (s.rec_ type i) k

/-- The partition that owns what CFG_READ finds. -/
def State.viewPart (s : State) (type i : Nat) : Option Nat :=
  if type = 5 ∧ 0x8000 ≤ i ∧ i < 0x8004 then (s.job (i - 0x8000)).map (·.part) else s.recPart type i (s.rec_ type i)

def State.cmdRead (s : State) (d : Deferred) (ws : List Word) : State :=
  let type := wBits ws 0 31 24
  let i := wBits ws 0 23 0
  let off := argN ws 1
  let (n, r) := s.cfgView type i (off / 4)
  let own := match s.viewPart type i with | some p => foreign d.mbx p | none => false
  s.unless d (firstRefused [
    badArg (off % 4 != 0) 1,
    (n == 0, stEmpty, 0, noArg),
    badArg (decide (4 * n ≤ off)) 1,
    (own, stDenied, 0x010A, 0)]) fun s =>
    (if type = 0x0E then (s.readReg (0x0D0000 + i)).1 else s).answer d (wd (4 * n) :: r)

/-- Channels of AI converter `n` (R34). -/
def isConvPoint (n a : Nat) : Bool := ptUnit a == 4 && ptChan a / 4 == n

/-- Whether AI converter `n` belongs to another partition than `p` (R36). A converter's records have no partition (R433): it
counts as that of every partition with a task or a loop slot that reads one of its channels (DESIGN CHOICE, log 133). -/
def State.converterForeign (s : State) (n p : Nat) : Bool :=
  let reads := fun a => s.integralPt a && isConvPoint n a
  (s.declared.any fun t => declPart (s.task t).decl != p &&
    (match (s.task t).app with | some x => (listPoints x.inputs).any reads | none => false)) ||
  s.loopsOn.any fun i =>
    let r := s.loopRec i
    wBits r 1 27 22 != p && (upFrom 0 3).any fun k => srcKind r k == 1 && reads (wAt r (3 + k)).toNat

/-- Whether sink `k` serves a task, loop slot, converter or record trigger of another partition than `p` (R36). -/
def State.sinkForeign (s : State) (k p : Nat) : Bool :=
  if k < 64 then s.lineForeign k p
  else if k < 96 then
    (upFrom 0 1024).any fun i =>
      let r := s.loopRec i
      loopEn r && wBit r 1 21 && wBits r 1 20 16 == k - 64 && wBits r 1 27 22 != p
  else if k = 96 ∨ k = 97 then s.converterForeign (k - 96) p
  else if 104 ≤ k ∧ k < 120 then s.recordForeign (k - 104) p
  else false

def State.cmdRoute (s : State) (d : Deferred) (ws : List Word) : State :=
  let n := argN ws 0
  let k := wBits ws 1 7 0
  let other := match scopeOf (s.ses n) with | some p => s.sinkForeign k p | none => false
  s.unless d (badBits [allBits, 0x01FFFFFF] ws) fun s =>
    s.unless d (firstRefused [
      s.held n,
      (decide (120 ≤ k), stBadArg, 0x0111, 1),
      (other, stDenied, 0x0110, 1)]) fun s =>
      (s.stageIn n (.route k (wd (wBits ws 1 15 8 + 256 * wBits ws 1 24 24 + 65536 * wBits ws 1 23 16)))).answer d []

/-- Whether an address names a configured point: of an enabled channel, or of a configured remote unit. -/
def State.knownPoint (s : State) (a : Nat) : Bool :=
  if s.integralPt a then
    match channelPoints (ptUnit a) (ptChan a) with
    | some (n, _) => decide (ptPoint a < n) && chanEn (s.chan (ptUnit a) (ptChan a))
    | none => false
  else (s.unitAt a).isSome

/-- Whether a safety-function instance owns or consumes a point. -/
def State.safetyPoint (s : State) (a : Nat) : Bool :=
  s.instRecs.any fun e => irEn e.2 &&
    ((irTargets e.2).any (·.2 == a) || (irInputs e.2).contains a || (wAt e.2 10).toNat == a || (wAt e.2 11).toNat == a)

/-- Points whose force waits for a boundary. -/
def State.pendingForces (s : State) : List Nat :=
  s.fw.commits.flatMap fun c => c.stages.filterMap fun st => match st with | .force a _ true => some a | _ => none

def State.cmdForce (s : State) (d : Deferred) (ws : List Word) : State :=
  let a := argN ws 0
  let on := wBit ws 2 0
  let live := (s.fw.forces.map (·.addr)).filter (fun p => !s.pendingForces.contains p) ++ s.pendingForces.eraseDups
  s.unless d (badBits [allBits, allBits, 1] ws) fun s =>
    s.unless d (firstRefused [
      (s.unit78 a || s.safetyPoint a, stDenied, 0x0120, 0),
      (on && !live.contains a && decide (256 ≤ live.length), stNoResource, 0x0121, 0),
      (s.widePoint a, stBadArg, 0x0122, 0),
      (!s.knownPoint a, stBadArg, 0x0123, 0)]) fun s =>
      if !on && !live.contains a then s.answer d []
      else s.carry ⟨0, none, [.force a (wAt ws 1) on], none, false, d⟩

/-- KEY_ENROL: an enrolled key is replaced only within a station-wide session of mailbox 64 whose opener was authenticated with
that key. -/
def State.cmdKeyEnrol (s : State) (d : Deferred) (ws : List Word) : State :=
  let within := s.fw.sessions.any fun e => match e.2 with
    | some x => x.scope == 0xFF && x.mbx == 64 && x.key == s.nv.key
    | none => false
  s.unless d (firstRefused [(!s.nv.key.isEmpty && !within, stDenied, 0x0006, noArg)]) fun s =>
    ({ s with nv := { s.nv with key := ws } }).answer d [Config.keyDigest ws]

/-! ### Class 0x02, placement -/

/-- Task number of a declaration: that of its name in its partition, in force or staged, otherwise the lowest free one. -/
def State.declNumber (s : State) (n : Nat) (ds : List Word) : Option Nat :=
  let staged := fun (x : Session) => x.stages.filterMap fun st => match st with | .declare t ws => some (t, ws) | _ => none
  let same := fun (ws : List Word) => ws.drop 7 == ds.drop 7 && declPart ws == declPart ds
  match s.declared.find? fun t => same (s.task t).decl with
  | some t => some t
  | none =>
    match (staged (s.ses n)).find? fun e => same e.2 with
    | some e => some e.1
    | none =>
      let taken := (s.fw.sessions.filterMap (·.2)).flatMap fun x => (staged x).map (·.1)
      (upFrom 1 511).find? fun t => (s.task t).decl.isEmpty && !taken.contains t

/-- The first word of a name that is not ASCII, or not padded with zeros (R124). -/
def badName (name : List Word) : Option Nat :=
  let bs := wordBytes name
  (upFrom 0 name.length).find? fun k => (upFrom (4 * k) 4).any fun i =>
    let b := bs.getD i 0
    decide (128 ≤ b.toNat) || (b != 0 && decide (0 < i) && bs.getD (i - 1) 0 == 0)

/-- Described bits of a declaration's words d0 to d10. -/
def declMasks : List Nat :=
  [allBits, 0x07FFFFFF, 0x3F, allBits, 3, 0x301FF, allBits, allBits, allBits, allBits, allBits]

/-- What refuses a declaration (R124): `ds` its words d0 to d10, d0 being argument word 1. -/
def State.declRefused (s : State) (ds : List Word) : Refused :=
  let tc := s.fld Fld.SYS_TCYC_len + 1
  let per := wBits ds 0 15 0
  let budget := wBits ds 1 15 0
  let copy := (wBits ds 6 15 0 + 2047) / 2048
  match firstRefused [
    badArg (per == 0 || tc % per != 0 || decide (per ≤ wBits ds 0 31 16)) 1,
    badArg (budget == 0 || decide (per * 250 < budget) || decide (budget < copy + 2) ||
      (wBit ds 1 18 && decide (declCrit ds < 2))) 2,
    badArg (decide (64 * 2 ^ 20 < (wAt ds 3).toNat)) 4,
    badArg (decide (2 < wBits ds 4 1 0)) 5] with
  | some r => some r
  | none =>
    match undescribed declMasks ds 0 with
    | some k => some (stBadArg, 0x0004, k + 1)
    | none => (badName ((ds.drop 7).take 4)).map fun k => (stBadArg, 0x0004, k + 8)

def State.cmdDeclare (s : State) (d : Deferred) (ws : List Word) : State :=
  let n := argN ws 0
  let ds := ws.drop 1
  let p := declPart ds
  let other := foreign d.mbx p || (match scopeOf (s.ses n) with | some q => p != q | none => false)
  s.unless d (s.declRefused ds) fun s =>
    s.unless d (firstRefused [
      s.held n,
      (other, stDenied, 0x010A, 3),
      (wBit ds 1 19 && decide (declCrit ds < 2), stBadArg, 0x0142, 2)]) fun s =>
      match s.declNumber n ds with
      | none => s.refuse d stNoResource 0x0004 noArg
      | some t => (s.stageIn n (.declare t ds)).answer d [wd t]

def State.cmdPin (s : State) (d : Deferred) (ws : List Word) : State :=
  let pair := wBits ws 2 3 0
  s.unless d (badBits [allBits, allBits, 0xFF0F] ws) fun s =>
    s.unless d (firstRefused [
      badArg (decide (511 < argN ws 1)) 1,
      badArg (decide (4 ≤ pair) && decide (pair < 8)) 2,
      s.held (argN ws 0)]) fun s =>
      (s.stageIn (argN ws 0) (.pin (argN ws 1) pair (wBits ws 2 15 8))).answer d []

def State.cmdPlaceRun (s : State) (d : Deferred) (ws : List Word) : State :=
  s.unless d (firstRefused [s.held (argN ws 0)]) fun s => (s.askPlacement 3 true).answer d []

def State.cmdReport (s : State) (d : Deferred) (ws : List Word) : State :=
  let off := argN ws 1
  s.unless d (firstRefused [badArg (off % 4 != 0) 1]) fun s =>
    match s.prt.reports.find? fun e => e.1 == argN ws 0 with
    | none => s.refuse d stEmpty 0 noArg
    | some (_, r) =>
      s.unless d (firstRefused [badArg (decide (4 * r.length ≤ off)) 1]) fun s =>
        s.answer d (wd (4 * r.length) :: (r.drop (off / 4)).take 59)

def State.cmdBudget (s : State) (d : Deferred) (ws : List Word) : State :=
  let n := argN ws 0
  let p := argN ws 1
  let t := argN ws 2
  let us := argN ws 3
  let quota := argN ws 4
  let decl := (s.task t).decl
  let other := match scopeOf (s.ses n) with | some q => p != q | none => false
  let whole := t == 0xFFFF
  s.unless d (firstRefused [
    badArg (decide (63 < p)) 1,
    badArg (!whole && (decide (511 < t) || decl.isEmpty || declPart decl != p)) 2,
    badArg (if whole then decide (50 * s.fld (Fld.PRT_CEIL_TIME_time p) < us)
      else us == 0 || decide (wBits decl 0 15 0 * 250 < us)) 3,
    badArg (whole && decide (s.fld (Fld.PRT_CEIL_Q0_desc p) < quota)) 4,
    s.held n,
    (other, stDenied, 0x010A, 1)]) fun s => (s.stageIn n (.budget p t us quota)).answer d []

/-! ### Class 0x03, redundancy -/

def State.cmdVeer (s : State) (d : Deferred) : State :=
  s.unless d (firstRefused [
    (s.veering || s.sys.modeAt.isSome || s.fld Fld.RED_RESYNC_phase != 0, stBusy, 0, noArg),
    ((claimAbove (s.reg Reg.RED_CLAIM)).isNone, stDenied, 0x0143, noArg)]) fun s =>
    s.askVeer d

def State.cmdRedStatus (s : State) (d : Deferred) : State :=
  s.answer d [s.regView Reg.RED_STATE, s.reg Reg.RED_CLAIM, wd s.sys.peer, wd (s.fld Fld.RED_LULL_last)]

def State.cmdCheckpoint (s : State) (d : Deferred) (ws : List Word) : State :=
  let t := argN ws 0
  let cold := s.declared.filter fun t => wBit (s.task t).decl 1 19
  s.unless d (firstRefused [badArg (t != 0xFFFF && !cold.contains t) 0]) fun s =>
    ((if t = 0xFFFF then cold else [t]).foldl State.beginCkpt s).answer d []

/-! ### Class 0x04, safety -/

def State.cmdSafeLoad (s : State) (d : Deferred) (ws : List Word) : State :=
  let n := argN ws 0
  let set := argN ws 1
  let off := argN ws 2
  s.unless d (firstRefused [
    badArg (decide (15 < set)) 1,
    badArg (off % 4 != 0 || decide (32 + 64 * 255 < off + 4 * (ws.length - 3))) 2,
    s.held n,
    (s.classL && !s.saf.auth.contains n, stDenied, 0x01E5, noArg)]) fun s =>
    (s.stageIn n (.safety set off (ws.drop 3))).answer d []

def State.cmdSafeCheck (s : State) (d : Deferred) (ws : List Word) : State :=
  let n := argN ws 0
  s.unless d (firstRefused [badArg (decide (15 < n)) 0, (!s.setLoaded n, stEmpty, 0, noArg)]) fun s =>
    let v := setCheck (s.paramSet n)
    let ok := SMap.get none n s.nv.confirmed == some v && !s.saf.bad.contains n
    s.answer d [v, wd (b1 ok), wd (b1 s.classL)]

/-- A wrong entry of a check value: the third bars the set (R480). -/
def State.wrongEntry (s : State) (n : Nat) : State :=
  let k := SMap.get 0 n s.saf.wrong + 1
  { s with saf := { s.saf with
      wrong := SMap.set 0 n k s.saf.wrong
      barred := if 3 ≤ k ∧ !s.saf.barred.contains n then n :: s.saf.barred else s.saf.barred
      barredAt := if 3 ≤ k ∧ !s.saf.barred.contains n then SMap.set 0 n s.clk s.saf.barredAt else s.saf.barredAt } }

def State.cmdSafeConfirm (s : State) (d : Deferred) (ws : List Word) : State :=
  let n := argN ws 0
  s.unless d (firstRefused [
    badArg (decide (15 < n)) 0,
    (!s.setLoaded n, stEmpty, 0, noArg),
    (s.saf.barred.contains n, stDenied, 0, noArg)]) fun s =>
    if wAt ws 1 = setCheck (s.paramSet n) then
      ({ s with saf := { s.saf with wrong := SMap.set 0 n 0 s.saf.wrong } }).carry
        ⟨0, none, [.confirm n (wAt ws 1)], none, false, d⟩
    else (s.wrongEntry n).refuse d stIntegrity 0 1

/-- A wrong password: its record, and the fifth bars SAFE_AUTH (R481). -/
def State.wrongPassword (s : State) : State :=
  let k := s.saf.authWrong + 1
  ({ s with saf := { s.saf with
      authWrong := k, authBarred := s.saf.authBarred || decide (5 ≤ k), authAt := if 5 ≤ k then s.clk else s.saf.authAt } }).record 4 481 0 0 k 64 []

/-- The open sessions of mailbox 64 hold SAFE_AUTH. -/
def State.authOpen (s : State) : State :=
  let mine := (s.fw.sessions.filter fun e => match e.2 with | some x => x.mbx == 64 | none => false).map (·.1)
  { s with saf := { s.saf with auth := mine, authWrong := 0 } }

def State.cmdSafeAuth (s : State) (d : Deferred) (ws : List Word) : State :=
  s.unless d (firstRefused [
    badArg (decide (15 < argN ws 0)) 0,
    (s.saf.authBarred, stDenied, 0, noArg)]) fun s =>
    let pw := ws.drop 1
    match SMap.get [] 0 s.nv.passwords with
    | [] =>
      if s.nv.key.isEmpty then s.refuse d stDenied 0 noArg
      else
        let (salt, s0) := s.fresh
        let s1 := { s0 with nv := { s0.nv with passwords := SMap.set [] 0 (saltedHash salt pw) s0.nv.passwords } }
        ((s1.logSafety 3 (argN ws 0) 0 0 64).authOpen).answer d []
    | known => if passwordOk known pw then s.authOpen.answer d [] else s.wrongPassword.refuse d stIntegrity 0 1

/-! ### Classes 0x05 and 0x06, records and time -/

def State.cmdEvrRead (s : State) (d : Deferred) (ws : List Word) : State :=
  let n := argN ws 0
  s.unless d (firstRefused [badArg (decide (65535 < n)) 0, (!s.evValid n, stEmpty, 0, noArg)]) fun s =>
    s.answer d (s.evWords n)

def State.cmdFreeze (s : State) (d : Deferred) (ws : List Word) : State :=
  s.unless d (badBits [1] ws) fun s =>
    if wBit ws 0 0 then
      let (s1, n) := s.freezeRing
      s1.answer d [wd n]
    else
      let s1 := s.releaseRing true
      s1.answer d [wd (s1.fld Fld.EVR_NEWEST_slot)]

def State.cmdTimeStatus (s : State) (d : Deferred) : State :=
  s.answer d [hi32 s.time, lo32 s.time, s.reg Reg.TU_OFFSET,
    wd (b1 (s.isSet Fld.TU_STAT_holdover) + 2 * b1 (s.isSet Fld.TU_STAT_refused))]

def State.cmdTimeStep (s : State) (d : Deferred) (ws : List Word) : State :=
  let arg := signed 64 (wPair ws 0)
  let asked := decide (arg = -2 ^ 63)
  let last := match SMap.get none s.tuRef s.tu.seen with | some (_, o) => o | none => 0
  let ns := if asked then last else arg
  s.unless d (firstRefused [
    (asked && s.tuRef == refNone, stBadArg, 0x01B0, 0),
    (decide (2 ^ 62 < ns.natAbs), stBadArg, 0x01B1, 0)]) fun s =>
    s.carry ⟨0, none, [.timeStep ns], none, false, d⟩

/-! ### Class 0x07, diagnostics -/

def State.cmdDiag (s : State) (d : Deferred) : State :=
  s.answer d [s.regView Reg.SYS_MODE, s.regView Reg.SYS_STAT, s.reg Reg.SYS_RSTCAUSE, wd s.prt.reportId]

def State.cmdReset (s : State) (d : Deferred) (ws : List Word) : State :=
  if wAt ws 0 = 0xC8A5 then (s.answer d []).resetModule s.commandedCause 0
  else (s.record 1 615 0 0 0 d.mbx [wAt ws 0]).refuse d stBadArg 0x0004 0

/-- The 64-bit value of a counter index (R588). -/
def State.counterValue (s : State) (i : Nat) : List Word :=
  if i < 0x100 then [s.regView (Reg.PFC_CNT_HI i), s.regView (Reg.PFC_CNT_LO i)]
  else if i < 0x200 then [s.reg (Reg.PFC_SNAP_HI (i - 0x100)), s.reg (Reg.PFC_SNAP_LO (i - 0x100))]
  else if i < 0x300 then [s.reg (Reg.PFC_SHD_HI (i - 0x200)), s.reg (Reg.PFC_SHD_LO (i - 0x200))]
  else if i < 0x310 then [s.reg (Reg.PFC_GTIME_HI (i - 0x300)), s.reg (Reg.PFC_GTIME_LO (i - 0x300))]
  else [0, s.reg (Reg.PFC_GSEQ (i - 0x310))]

/-- The area of a counter index. -/
def counterArea (i : Nat) : Option Nat :=
  if i < 0x300 then some (i / 0x100)
  else if i < 0x306 then some 3
  else if 0x310 ≤ i ∧ i < 0x316 then some 4
  else none

def State.cmdCounters (s : State) (d : Deferred) (ws : List Word) : State :=
  let a := argN ws 0
  let n := argN ws 1
  let is_ := upFrom a (min n 28)
  let barred := is_.find? fun i => decide (d.mbx ≤ 63) && decide (i < 0x300) &&
    !bit (s.reg (Reg.PRT_PFCRIGHT d.mbx)) (i % 0x100 / 8)
  s.unless d (firstRefused [
    badArg (counterArea a).isNone 0,
    badArg (n == 0 || decide (28 < n) || counterArea (a + n - 1) != counterArea a) 1,
    (barred.isSome, stDenied, 0x0244, barred.getD 0)]) fun s => s.answer d (is_.flatMap s.counterValue)

def State.cmdNotify (s : State) (d : Deferred) (ws : List Word) : State :=
  s.unless d (badBits [0x1FE] ws) fun s =>
    (s.setReg (Reg.MBX_NTFMASK d.mbx) (wAt ws 0)).answer d [wAt ws 0]

/-! ### Class 0x08, images -/

def State.setImage (s : State) (n : Nat) (x : Option ImgSes) : State :=
  { s with fw := { s.fw with images := SMap.set none n x s.fw.images } }
def State.setSlot (s : State) (type slot : Nat) (x : ImgSlot) : State :=
  { s with fw := { s.fw with store := SMap.set {} (type * 2 + slot) x s.fw.store } }

/-- Image commands of a type-5 image forwarded to the leeward module (R168). -/
def State.forwardImage (s : State) (type op : Nat) (ws : List Word) : State :=
  if type = 5 ∧ s.partnerStandby = true then s.send .link op ws else s

/-- An image session opened on a slot, which it clears; a closed session on the same slot ends. -/
def State.openImage (s : State) (m n type slot size : Nat) : State :=
  let rest := s.fw.images.foldl (fun (l : List (Nat × Option ImgSes)) (e : Nat × Option ImgSes) =>
    match e.2 with
    | some x => if x.type = type ∧ x.slot = slot ∧ x.closed = true then SMap.set none e.1 none l else l
    | none => l) s.fw.images
  let s1 := { s with fw := { s.fw with images := rest } }
  (s1.setImage n (some { type := type, slot := slot, who := m })).setSlot type slot { size := size }

/-- The number a new session of a slot gets: the first that is free, or that of a closed session on the same slot. -/
def State.imageNumber (s : State) (type slot : Nat) : Option Nat :=
  (upFrom 1 4).find? fun n => match SMap.get none n s.fw.images with
    | none => true
    | some x => x.type == type && x.slot == slot && x.closed

def State.cmdImgOpen (s : State) (d : Deferred) (ws : List Word) : State :=
  let type := argN ws 0
  let slot := argN ws 1
  let held := s.fw.images.any fun e => match e.2 with
    | some x => x.type == type && x.slot == slot && !x.closed
    | none => false
  s.unless d (firstRefused [
    badArg (type == 0 || decide (5 < type)) 0,
    badArg (decide (1 < slot)) 1,
    (s.usedSlot type == slot || (s.fw.online.isSome && type == 5), stDenied, 0, noArg),
    (held, stBusy, 0, noArg)]) fun s =>
    match s.imageNumber type slot with
    | none => s.refuse d stNoResource 0x0004 noArg
    | some n => ((s.openImage d.mbx n type slot (argN ws 2)).forwardImage type 0x0801 ws).answer d [wd n]

/-- Bytes written into an open image. -/
def State.writeImage (s : State) (n off : Nat) (bs : List Byte) : State :=
  match SMap.get none n s.fw.images with
  | none => s
  | some x =>
    let g := s.imgSlot x.type x.slot
    let bytes := (upFrom 0 bs.length).foldl (fun m i => SMap.set 0 (off + i) (bs.getD i 0) m) g.bytes
    s.setSlot x.type x.slot { g with bytes := bytes }

/-- IMG_WRITE. The manual does not say what becomes of bytes past the size that IMG_OPEN declared: here they are dropped (DESIGN
CHOICE, log entry 137). -/
def State.cmdImgWrite (s : State) (d : Deferred) (ws : List Word) : State :=
  let n := argN ws 0
  let off := argN ws 1
  let x := (s.imgSession d.mbx n).getD { type := 0, slot := 0 }
  let g := s.imgSlot x.type x.slot
  let bs := wordBytes (ws.drop 2)
  s.unless d (firstRefused [
    (x.closed, stBadArg, 0x0005, 0),
    badArg (decide (g.size < off)) 1]) fun s =>
    ((s.writeImage n off (bs.take (g.size - off))).forwardImage x.type 0x0802 ws).answer d []

/-- An image session closed: the check of R51 starts. -/
def State.closeImage (s : State) (n : Nat) : State :=
  match SMap.get none n s.fw.images with
  | none => s
  | some x => s.setImage n (some { x with closed := true })

def State.cmdImgClose (s : State) (d : Deferred) (ws : List Word) : State :=
  let n := argN ws 0
  let x := (s.imgSession d.mbx n).getD { type := 0, slot := 0 }
  s.unless d (firstRefused [(x.closed, stBadArg, 0x0005, 0)]) fun s =>
    ((s.closeImage n).forwardImage x.type 0x0803 ws).answer d []

def State.cmdImgSelect (s : State) (d : Deferred) (ws : List Word) : State :=
  let type := argN ws 0
  let slot := argN ws 1
  s.unless d (firstRefused [
    badArg (type == 0 || decide (5 < type)) 0,
    badArg (decide (1 < slot)) 1,
    (!(s.imgSlot type slot).ok, stIntegrity, 0, noArg),
    match s.imageCause type (s.imgSlot type slot).body with
    | some (st, reason) => (true, st, reason, 1)
    | none => (false, 0, 0, 0)]) fun s =>
    ({ s with
      fw := { s.fw with used := SMap.set 0 type slot s.fw.used }
      sys := { s.sys with imgSel := true } }).answer d []

/-- Window requests and partition values that a record list holds. -/
def placeRecords (rs : List (Nat × List Word)) : List (Nat × List Word) := rs.filter fun e => e.1 / 2 ^ 24 == 2

/-- Whether a changed task's instance layout changes under an image. -/
def State.migrates (s : State) (a : AppTask) : Bool :=
  match (s.task a.task).app with
  | some old => a.moves (((wAt old.decl 3).toNat + 63) / 64 * 64)
  | none => false

/-- What refuses an online change (R168). -/
def State.onlineRefused (s : State) (n : Nat) : Refused :=
  let station := s.fw.sessions.any fun e => match e.2 with | some x => x.scope == 0xFF | none => false
  let veer := s.veering || s.red.ask.isSome || s.fld Fld.RED_RESYNC_phase != 0
  match s.onlineOf n with
  | none => firstRefused [
      (s.fw.online.isSome || station || veer, stBusy, 0, noArg),
      (true, stIntegrity, 0, noArg)]
  | some o =>
    let held := s.fw.sessions.any fun e => match e.2 with | some x => o.parts.contains x.scope | none => false
    let changed := o.body.tasks.filter fun a => o.parts.contains (declPart a.decl)
    let run := (s.onlineCfg o).placementRun 4 false [] s.runMhz
    firstRefused [
      (s.fw.online.isSome || station || held || veer, stBusy, 0, noArg),
      (placeRecords o.body.records != placeRecords (s.image 5).body.records, stBadArg, 0x012A, noArg),
      (match s.appsCause o.body o.parts with
        | some (st, reason) => (true, st, reason, noArg)
        | none => (false, 0, 0, 0)),
      (run.result == 2, stBadArg, 0x0129, noArg),
      (changed.any (fun a => s.migrates a && decide (s.slackOf a.task < ((wAt a.decl 3).toNat + 2047) / 2048)),
        stBadArg, 0x0128, noArg)]

def State.cmdOnline (s : State) (d : Deferred) (ws : List Word) : State :=
  let n := argN ws 0
  s.unless d (s.onlineRefused n) fun s =>
    ({ s with fw := { s.fw with online := s.onlineOf n } }).carry ⟨0, none, [.online n], none, false, d⟩

/-- IMAGE_CHECK_DONE: the check of a closed image ends; on a windward module that forwarded a type-5 image, the partner's
check counts too (R51, R168). -/
def State.imageChecked (s : State) (n : Nat) (ok partnerOk : Bool) (body : ImageBody) : State :=
  match SMap.get none n s.fw.images with
  | none => s
  | some x =>
    if !x.closed || x.checked then s
    else
      -- an entry that does not match its task's instance size fails the image (R166)
      let good := ok && (partnerOk || !(x.type == 5 && s.partnerStandby)) && (x.type != 5 || body.entriesOk)
      let g := s.imgSlot x.type x.slot
      let s1 := s.setSlot x.type x.slot { g with ok := good, key := s.nv.key, body := if good then body else g.body }
      let keep := good && x.type == 5
      (s1.setImage n (if keep then some { x with checked := true } else none)).notify 0x0880 none
        [wd n, wd (if good then stOk else stIntegrity)]

/-- An image command that the windward module forwards, on the leeward module (R168): its writes and its close are for the one
type-5 session that is open, whatever number the windward module gave it. -/
def State.pairImage (s : State) (op : Nat) (ws : List Word) : State :=
  if s.mode != mStandby then s
  else if op = 0x0801 then
    match s.imageNumber 5 (argN ws 1 % 2) with
    | some n => s.openImage 66 n 5 (argN ws 1 % 2) (argN ws 2)
    | none => s
  else match s.pairSession fun x => !x.closed with
    | none => s
    | some n =>
      if op = 0x0802 then
        let g := s.imgSlot 5 ((SMap.get none n s.fw.images).getD { type := 5, slot := 0 }).slot
        s.writeImage n (argN ws 1) ((wordBytes (ws.drop 2)).take (g.size - argN ws 1))
      else if op = 0x0803 then s.closeImage n
      else s

/-! ### One command -/

/-- A command executed (R95). -/
def State.runCommand (s : State) (d : Deferred) (op : Nat) (ws : List Word) : State :=
  if op = 0x0101 then s.cmdModeReq d ws
  else if op = 0x0102 then s.cmdOpen d ws
  else if op = 0x0103 then s.cmdWrite d ws
  else if op = 0x0104 then s.cmdCommit d ws
  else if op = 0x0105 then s.cmdAbort d ws
  else if op = 0x0106 then s.cmdRead d ws
  else if op = 0x0107 then s.cmdRoute d ws
  else if op = 0x0108 then s.cmdForce d ws
  else if op = 0x0109 then s.cmdKeyEnrol d ws
  else if op = 0x0201 then s.cmdDeclare d ws
  else if op = 0x0202 then s.cmdPin d ws
  else if op = 0x0203 then s.cmdPlaceRun d ws
  else if op = 0x0204 then s.cmdReport d ws
  else if op = 0x0205 then s.cmdBudget d ws
  else if op = 0x0301 then s.cmdVeer d
  else if op = 0x0302 then s.cmdRedStatus d
  else if op = 0x0303 then s.cmdCheckpoint d ws
  else if op = 0x0401 then s.cmdSafeLoad d ws
  else if op = 0x0402 then s.cmdSafeCheck d ws
  else if op = 0x0403 then s.cmdSafeConfirm d ws
  else if op = 0x0404 then s.cmdSafeAuth d ws
  else if op = 0x0501 then s.cmdEvrRead d ws
  else if op = 0x0502 then s.cmdFreeze d ws
  else if op = 0x0601 then s.cmdTimeStatus d
  else if op = 0x0602 then s.cmdTimeStep d ws
  else if op = 0x0701 then s.cmdDiag d
  else if op = 0x0702 then s.cmdReset d ws
  else if op = 0x0703 then s.cmdCounters d ws
  else if op = 0x0704 then s.cmdNotify d ws
  else if op = 0x0705 then s.answer d ws
  else if op = 0x0801 then s.cmdImgOpen d ws
  else if op = 0x0802 then s.cmdImgWrite d ws
  else if op = 0x0803 then s.cmdImgClose d ws
  else if op = 0x0804 then s.cmdImgSelect d ws
  else if op = 0x0805 then s.cmdOnline d ws
  else s

/-! ### Taking requests (R80 to R86) -/

/-- Whether station firmware takes a request of a mailbox now: in-step requests of a leeward module are not taken by it
(R93). -/
def State.canTake (s : State) (m : Nat) : Bool :=
  s.served m && decide (0 < s.reqCount m) && s.rspRoom m && (decide (64 ≤ m) || (s.mode != mStandby && s.mode != mResync))

/-- A request slot written and its doorbell rung, with the next sequence (R78, R85, R86). -/
def State.writeRequest (s : State) (m op tag : Nat) (ws : List Word) : State :=
  let n := s.reqCount m
  let head := s.fld (Fld.MBX_REQ_HEAD_head m)
  let base := match (s.mbox m).seqBase with | some b => b + 1 | none => 0
  let w2 := wd ((if m < 64 then 0 else m) * 256 + (base + n) % 65536 * 65536)
  (s.setWords (reqSlot m head) ([wd (op + tag * 65536), wd (4 * ws.length % 65536), w2, 0] ++ ws.take 60)).ring m
    ((head + 1) % 65536) (if m < 64 then m else 0)

/-- Station firmware reads the stream on when the request ring of mailbox 64 has room (R97). -/
def State.readStream (s : State) : State :=
  match s.fw.stream with
  | [] => s
  | (op, tag, ws) :: rest =>
    if 32 ≤ s.reqCount 64 then s
    else ({ s with fw := { s.fw with stream := rest } }).writeRequest 64 op tag ws

/-- What follows a request taken from mailbox 64: the stream is read on. -/
def State.following (m : Nat) (s : State) : State := if m = 64 then s.readStream else s

/-- The oldest request of a mailbox taken, checked in the order of R613, and executed. -/
def State.takeRequest (s : State) (m : Nat) : State :=
  if !s.canTake m then s
  else
    let tail := s.fld (Fld.MBX_REQ_TAIL_tail m)
    let a := reqSlot m tail
    let w := s.words a 4
    let op := wBits w 0 15 0
    let tag := wBits w 0 31 16
    let seq := wBits w 2 31 16
    let ws := s.words (a + 16) (min 60 (wBits w 1 15 0 / 4))
    let s1 := (s.put (Fld.MBX_REQ_TAIL_tail m) (tail + 1)).showRings m
    let s2 := s1.forward fwMailbox [wd (m + 0x100), wd tail, wAt w 0, wd seq]
    let (s3, d) := s2.joinLine m tag op
    let base := (s3.mbox m).seqBase
    State.following m <|
    if (match base with | some b => seq != (b + 1) % 65536 | none => false) then s3.refuse d stBadArg 0x0003 noArg
    else
      let s4 := s3.setMbox m { s3.mbox m with seqBase := some seq }
      s4.unless d (headerRefused (wAt w 1) (wAt w 2) (wAt w 3)) fun s =>
        s.unless d (s.refuses m op ws) fun s => s.runCommand d op ws

/-- MAILBOX_ROUND: at most one request of each mailbox, in ascending order after the one served first last time (R80). -/
def State.mailboxRound (s : State) : State :=
  let order := (upFrom 0 68).map fun i => (s.fw.roundNext + i) % 68
  match order.find? s.canTake with
  | none => s
  | some m0 =>
    let s1 := order.foldl State.takeRequest s
    { s1 with fw := { s1.fw with roundNext := (m0 + 1) % 68 } }

/-- A sender writes a request slot and rings the doorbell (R78, R79, R85, R86). On an empty ring the next round takes it, with
one request of each other mailbox that waits (R80). Pliuz sends over its connection; what a full ring does not take stays in the
stream (R97). -/
def State.request (s : State) (m op tag : Nat) (ws : List Word) : State :=
  if m = 64 ∧ s.fw.conn.isNone = true then s
  else if 32 ≤ s.reqCount m then
    if m = 64 then { s with fw := { s.fw with stream := s.fw.stream ++ [(op, tag, ws)] } } else s
  else
    let s1 := s.writeRequest m op tag ws
    if s.reqCount m = 0 then s1.mailboxRound else s1

end Sys2Proof.Machine
end

