-- ==== Sys2Proof/Machine/ExecMailbox.lean ====
section
/-! DEFINITION. The meanings of the mailbox commands (R76 to R97, R613 to R615). A command is a request that its sender writes
into a mailbox: it is taken at once where the ring is empty and served, and otherwise waits there for MAILBOX_ROUND. -/

namespace Sys2Proof.Machine

/-- MAILBOX_ROUND (R80). -/
def execMailboxRound (s : State) : Res :=
  s.mailboxRound.done

/-- SESSION_TIMEOUT (R91). -/
def execSessionTimeout (session : Fin 16) (s : State) : Res :=
  (s.sessionTimeout session).done

/-- MODE_REQ (R43). -/
def execModeReq (mbx : Fin 68) (tag : BitVec 16) (target : Word) (s : State) : Res :=
  (s.request mbx 0x0101 tag.toNat [target]).done

/-- CFG_OPEN (R91). -/
def execCfgOpen (mbx : Fin 68) (tag : BitVec 16) (scope : Word) (s : State) : Res :=
  (s.request mbx 0x0102 tag.toNat [scope]).done

/-- CFG_WRITE (R91). -/
def execCfgWrite (mbx : Fin 68) (tag : BitVec 16) (session typeIndex : Word) (rec_ : List Word) (s : State) : Res :=
  (s.request mbx 0x0103 tag.toNat ([session, typeIndex] ++ rec_)).done

/-- CFG_COMMIT (R91). -/
def execCfgCommit (mbx : Fin 68) (tag : BitVec 16) (session : Word) (s : State) : Res :=
  (s.request mbx 0x0104 tag.toNat [session]).done

/-- CFG_ABORT (R91). -/
def execCfgAbort (mbx : Fin 68) (tag : BitVec 16) (session : Word) (s : State) : Res :=
  (s.request mbx 0x0105 tag.toNat [session]).done

/-- CFG_READ (R90, R614). -/
def execCfgRead (mbx : Fin 68) (tag : BitVec 16) (typeIndex offset : Word) (s : State) : Res :=
  (s.request mbx 0x0106 tag.toNat [typeIndex, offset]).done

/-- EVM_ROUTE (R36). -/
def execEvmRoute (mbx : Fin 68) (tag : BitVec 16) (session route : Word) (s : State) : Res :=
  (s.request mbx 0x0107 tag.toNat [session, route]).done

/-- FORCE (R172, R173). -/
def execForce (mbx : Fin 68) (tag : BitVec 16) (addr value : Word) (s : State) : Res :=
  (s.request mbx 0x0108 tag.toNat [addr, value, 1]).done

/-- FORCE_RELEASE (R172). -/
def execForceRelease (mbx : Fin 68) (tag : BitVec 16) (addr value : Word) (s : State) : Res :=
  (s.request mbx 0x0108 tag.toNat [addr, value, 0]).done

/-- KEY_ENROL (R96). -/
def execKeyEnrol (mbx : Fin 68) (tag : BitVec 16) (key : List Word) (s : State) : Res :=
  (s.request mbx 0x0109 tag.toNat key).done

/-- TASK_DECLARE (R124). -/
def execTaskDeclare (mbx : Fin 68) (tag : BitVec 16) (session : Word) (decl : List Word) (s : State) : Res :=
  (s.request mbx 0x0201 tag.toNat (session :: decl)).done

/-- TASK_PIN (R131). -/
def execTaskPin (mbx : Fin 68) (tag : BitVec 16) (session task pin : Word) (s : State) : Res :=
  (s.request mbx 0x0202 tag.toNat [session, task, pin]).done

/-- PLACE_RUN (R127). -/
def execPlaceRun (mbx : Fin 68) (tag : BitVec 16) (session : Word) (s : State) : Res :=
  (s.request mbx 0x0203 tag.toNat [session]).done

/-- PLACE_REPORT (R135). -/
def execPlaceReport (mbx : Fin 68) (tag : BitVec 16) (report offset : Word) (s : State) : Res :=
  (s.request mbx 0x0204 tag.toNat [report, offset]).done

/-- BUDGET_SET (R118). -/
def execBudgetSet (mbx : Fin 68) (tag : BitVec 16) (session part task us quota : Word) (s : State) : Res :=
  (s.request mbx 0x0205 tag.toNat [session, part, task, us, quota]).done

/-- VEER_REQ (R226). -/
def execVeerReq (mbx : Fin 68) (tag : BitVec 16) (s : State) : Res :=
  (s.request mbx 0x0301 tag.toNat []).done

/-- RED_STATUS (R237). -/
def execRedStatus (mbx : Fin 68) (tag : BitVec 16) (s : State) : Res :=
  (s.request mbx 0x0302 tag.toNat []).done

/-- CHECKPOINT (R231). -/
def execCheckpoint (mbx : Fin 68) (tag : BitVec 16) (task : Word) (s : State) : Res :=
  (s.request mbx 0x0303 tag.toNat [task]).done

/-- SAFE_LOAD (R479). -/
def execSafeLoad (mbx : Fin 68) (tag : BitVec 16) (session set offset : Word) (params : List Word) (s : State) : Res :=
  (s.request mbx 0x0401 tag.toNat ([session, set, offset] ++ params)).done

/-- SAFE_CHECK (R479). -/
def execSafeCheck (mbx : Fin 68) (tag : BitVec 16) (set : Word) (s : State) : Res :=
  (s.request mbx 0x0402 tag.toNat [set]).done

/-- SAFE_CONFIRM (R480). -/
def execSafeConfirm (mbx : Fin 68) (tag : BitVec 16) (set value : Word) (s : State) : Res :=
  (s.request mbx 0x0403 tag.toNat [set, value]).done

/-- SAFE_AUTH (R481). -/
def execSafeAuth (mbx : Fin 68) (tag : BitVec 16) (set : Word) (password : List Word) (s : State) : Res :=
  (s.request mbx 0x0404 tag.toNat (set :: password)).done

/-- EVR_READ (R498). -/
def execEvrRead (mbx : Fin 68) (tag : BitVec 16) (index : Word) (s : State) : Res :=
  (s.request mbx 0x0501 tag.toNat [index]).done

/-- EVR_FREEZE (R504). -/
def execEvrFreeze (mbx : Fin 68) (tag : BitVec 16) (s : State) : Res :=
  (s.request mbx 0x0502 tag.toNat [1]).done

/-- EVR_RELEASE (R504). -/
def execEvrRelease (mbx : Fin 68) (tag : BitVec 16) (s : State) : Res :=
  (s.request mbx 0x0502 tag.toNat [0]).done

/-- TIME_STATUS (R95). -/
def execTimeStatus (mbx : Fin 68) (tag : BitVec 16) (s : State) : Res :=
  (s.request mbx 0x0601 tag.toNat []).done

/-- TIME_STEP (R384). -/
def execTimeStep (mbx : Fin 68) (tag : BitVec 16) (hi lo : Word) (s : State) : Res :=
  (s.request mbx 0x0602 tag.toNat [hi, lo]).done

/-- DIAG_STATUS (R95). -/
def execDiagStatus (mbx : Fin 68) (tag : BitVec 16) (s : State) : Res :=
  (s.request mbx 0x0701 tag.toNat []).done

/-- RESET (R615). -/
def execReset (mbx : Fin 68) (tag : BitVec 16) (key : Word) (s : State) : Res :=
  (s.request mbx 0x0702 tag.toNat [key]).done

/-- COUNTER_READ (R588). -/
def execCounterRead (mbx : Fin 68) (tag : BitVec 16) (first count : Word) (s : State) : Res :=
  (s.request mbx 0x0703 tag.toNat [first, count]).done

/-- NOTIFY_SET (R89). -/
def execNotifySet (mbx : Fin 68) (tag : BitVec 16) (mask : Word) (s : State) : Res :=
  (s.request mbx 0x0704 tag.toNat [mask]).done

/-- ECHO (R95). -/
def execEcho (mbx : Fin 68) (tag : BitVec 16) (payload : List Word) (s : State) : Res :=
  (s.request mbx 0x0705 tag.toNat payload).done

/-- IMG_OPEN (R95, R168). Mailbox 66: forwarded by the windward module. -/
def execImgOpen (mbx : Fin 68) (tag : BitVec 16) (type slot size : Word) (s : State) : Res :=
  (if mbx.val = 66 then s.pairImage 0x0801 [type, slot, size] else s.request mbx 0x0801 tag.toNat [type, slot, size]).done

/-- IMG_WRITE (R95, R168). Mailbox 66: forwarded by the windward module. -/
def execImgWrite (mbx : Fin 68) (tag : BitVec 16) (session offset : Word) (data : List Word) (s : State) : Res :=
  (if mbx.val = 66 then s.pairImage 0x0802 ([session, offset] ++ data) else s.request mbx 0x0802 tag.toNat ([session, offset] ++ data)).done

/-- IMG_CLOSE (R51, R168). Mailbox 66: forwarded by the windward module. -/
def execImgClose (mbx : Fin 68) (tag : BitVec 16) (session : Word) (s : State) : Res :=
  (if mbx.val = 66 then s.pairImage 0x0803 [session] else s.request mbx 0x0803 tag.toNat [session]).done

/-- IMG_SELECT (R95). -/
def execImgSelect (mbx : Fin 68) (tag : BitVec 16) (type slot : Word) (s : State) : Res :=
  (s.request mbx 0x0804 tag.toNat [type, slot]).done

/-- ONLINE_CHANGE (R168, R169). -/
def execOnlineChange (mbx : Fin 68) (tag : BitVec 16) (session : Word) (s : State) : Res :=
  (s.request mbx 0x0805 tag.toNat [session]).done

/-- IMAGE_CHECK_DONE (R51, R168): the result of the check, the partner's, and what the image holds. -/
def execImageCheckDone (session : Fin 5) (ok partnerOk : Bool) (body : ImageBody) (s : State) : Res :=
  (s.imageChecked session ok partnerOk body).done

/-- CHANGE_LOG_ARCHIVE (R482): CFG_WRITE of type 0x0C, index 0xFFFF, from mailbox 64. -/
def execChangeLogArchive (tag : BitVec 16) (session last : Word) (s : State) : Res :=
  (s.request 64 0x0103 tag.toNat [session, 0x0C00FFFF, last]).done

/-- PREPARE_ACK_TIMEOUT (R92). -/
def execPrepareAckTimeout (tag : Word) (s : State) : Res :=
  (s.ackTimeout tag.toNat).done

/-- PREPARE_DROP_TIMEOUT (R92). -/
def execPrepareDropTimeout (tag : Word) (s : State) : Res :=
  (s.dropPrepared tag.toNat).done

end Sys2Proof.Machine
end

