-- ==== Sys2Proof/Machine/ExecMotion.lean ====
section
/-! DEFINITION. The meanings of the commands of groups (R254 to R258), the control engine (R260 to R290), profile generators
(R294 to R311), angle domains (R312 to R343), phasors, synchronisers and the gust guard (R344 to R370). -/

namespace Sys2Proof.Machine

/-! ### Group transactions -/

/-- GROUP_REQUEST (R254): the coordinator takes the oldest request of a queue whose consumer it is. -/
def execGroupRequest (queue : Fin 8192) (s : State) : Res :=
  (s.groupRequest queue).done

/-- A ring cycle begins: COMMIT and PREPARE of groups and the safety telegrams go with its frame (R437, R472). -/
def State.ringCycleSent (s : State) (r : Nat) : State :=
  let s1 := s.ringCycle r
  if s1.mastersRing r then s1.sendTelegrams r else s1

/-- RING_CYCLE_START (R437). -/
def execRingCycleStart (ring : Fin 2) (s : State) : Res :=
  (s.ringCycleSent ring).done

/-- GROUP_PART_ANSWER (R255): 0 is PREPARED; a remote unit's reason otherwise. -/
def execGroupPartAnswer (group : Fin 256) (part reason : Fin 16) (s : State) : Res :=
  (s.groupAnswer group part reason).done

/-- GROUP_PREPARE_DEADLINE (R255). -/
def execGroupPrepareDeadline (group : Fin 256) (s : State) : Res :=
  (s.groupDeadline group).done

/-- GROUP_PART_REPORT (R256): 0 is APPLIED; a remote unit's reason otherwise. -/
def execGroupPartReport (group : Fin 256) (part reason : Fin 16) (s : State) : Res :=
  (s.groupReport group part reason).done

/-- GROUP_REPORT_WINDOW_END (R257). -/
def execGroupReportWindowEnd (group : Fin 256) (s : State) : Res :=
  (s.groupWindow group).done

/-- GROUP_OUTCOME_ENQUEUE (R257). -/
def execGroupOutcomeEnqueue (queue : Fin 8192) (s : State) : Res :=
  (s.sendOutcome queue).done

/-- UNIT_PREPARATION_EXPIRY (R258): the unit by its node's place in the remote-unit records. -/
def execUnitPreparationExpiry (unit : Fin 256) (s : State) : Res :=
  (s.dropPreparation unit).done

/-! ### Control engine -/

/-- LOOP_TRIGGER (R277). -/
def execLoopTrigger (slot : Fin 1024) (s : State) : Res :=
  (s.loopTrigger slot).done

/-- LOOP_RUN_DISPATCH (R278). -/
def execLoopRunDispatch (s : State) : Res :=
  s.dispatchRun.done

/-- LOOP_RUN_OUTPUT (R272). -/
def execLoopRunOutput (lane : Fin 4) (s : State) : Res :=
  (s.endRunOn lane).done

/-- The control engine takes the oldest message of a queue whose consumer it is; one that is no job is freed (R284), and so
at the leeward module, which takes the jobs that the windward one forwards (R283). -/
def State.injectionJob (s : State) (q : Nat) : State :=
  match s.front q with
  | none => s
  | some d =>
    if s.qConsumer q != 0x23 then s
    else if s.msgKind d != 4 || decide (s.msgLen d < 32) then s.consume q d
    else if s.leeward then s.consume q d
    else (s.consume q d).takeJob (s.msgWords d) (s.msgPart d)

/-- INJECTION_JOB (R284, R285). -/
def execInjectionJob (queue : Fin 8192) (s : State) : Res :=
  (s.injectionJob queue).done

/-- CAPTURE_DELIVERY_RETRY (R290). -/
def execCaptureDeliveryRetry (buffer : Fin 4) (s : State) : Res :=
  (s.deliverJob buffer 220).done

/-- A delivery given up after 1 s: the clock moves on to that instant, and the end message carries PARTIAL (R290). -/
def State.abandonDelivery (s : State) (b : Nat) : State :=
  match s.job b with
  | none => s
  | some x =>
    match x.deliver with
    | none => s
    | some (_, t0) =>
      let s1 := s.runUntil (t0 + 1000000000)
      ((s1.jobMsg x 2 0 (jobAnswer b stPartial x.reason 0xFFFF0000)).1.setJob b
        (some { x with deliver := none, status := stPartial })).flag (Fld.CE_JOB_deliver b) false

/-- CAPTURE_DELIVERY_ABANDON (R290). -/
def execCaptureDeliveryAbandon (buffer : Fin 4) (s : State) : Res :=
  (s.abandonDelivery buffer).done

/-! ### Profile generators -/

/-- PG_UPDATE (R294). -/
def execPgUpdate (gen : Fin 64) (s : State) : Res :=
  (s.updateGen gen).done

/-- PG_MOVE (R297, R303): TARGET and CMD published, and taken at the generator's trigger. -/
def execPgMove (gen : Fin 64) (seq : BitVec 8) (target : BitVec 64) (s : State) : Res :=
  (s.commandGen gen 1 seq.toNat target).done

/-- PG_VELOCITY (R299, R303). -/
def execPgVelocity (gen : Fin 64) (seq : BitVec 8) (target : BitVec 64) (s : State) : Res :=
  (s.commandGen gen 2 seq.toNat target).done

/-- PG_STOP (R303). -/
def execPgStop (gen : Fin 64) (seq : BitVec 8) (s : State) : Res :=
  (s.commandGen gen 3 seq.toNat 0).done

/-- PG_HOME (R307). -/
def execPgHome (gen : Fin 64) (seq : BitVec 8) (s : State) : Res :=
  (s.commandGen gen 4 seq.toNat 0).done

/-- PG_CLEAR (R303). -/
def execPgClear (gen : Fin 64) (seq : BitVec 8) (s : State) : Res :=
  (s.commandGen gen 5 seq.toNat 0).done

/-- LIMIT_SWITCH_EDGE (R305, R310): a sample of the positive, negative or home switch. -/
def execLimitSwitchEdge (gen : Fin 64) (which : Fin 3) (level : Bool) (s : State) : Res :=
  (s.sampleGen gen which level).done

/-! ### Angle domains -/

/-- A delivery to domain `d` of the kind that takes it (R315). -/
def State.domDelivery (s : State) (d ts : Nat) (x : Delivery) : State :=
  let r := s.domRec d
  let k := domKind r
  if !domEn r then s
  else match x with
    | .pulse => if k = 2 then s.deliverEdge d ts none else s
    | .reference => if k = 2 ∧ domUsesRef r = true then s.deliverRef d else s
    | .value a v => if k = 3 ∨ k = 4 then s.deliverEdge d ts (some (a.toNat, v.toInt)) else s
    | .count n => if k = 1 then s.deliverCount d ts n.toInt else s

/-- DOMAIN_DELIVERY (R316, R317): `age` is the time since the instant the delivery describes, ns. -/
def execDomainDelivery (domain : Fin 8) (age : BitVec 16) (delivery : Delivery) (s : State) : Res :=
  (s.domDelivery domain (s.time - age.toNat) delivery).done

/-- MISSING_EDGE (R318). -/
def execMissingEdge (domain : Fin 8) (s : State) : Res :=
  (s.missingEdge domain).done

/-- ENCODER_IDLE_TIMEOUT (R320). -/
def execEncoderIdleTimeout (domain : Fin 8) (s : State) : Res :=
  (s.encoderIdle domain).done

/-- COAST_LIMIT (R326). -/
def execCoastLimit (domain : Fin 8) (s : State) : Res :=
  (s.coastLimit domain).done

/-- The clock moves on until the domain of action slot `a` crosses its compensated angle (R330). -/
def State.actionFire (s : State) (a : Nat) (off : Bool) : State :=
  let r := s.actRec a
  if actEn r && s.actLive a && (!off || actKind r == 4) then s.runTo (actDom r) (s.actComp a off) else s

/-- ACTION_FIRE (R330): the on-edge or the off-edge of a live slot. -/
def execActionFire (slot : Fin 4096) (off : Bool) (s : State) : Res :=
  (s.actionFire slot off).done

/-- REV_BOUNDARY (R328): the clock moves on until the domain's angle wraps through 0. -/
def execRevBoundary (domain : Fin 8) (s : State) : Res :=
  (s.runTo domain 0).done

/-- ACTION_ARM (R334, R339): the word of the ARM item. -/
def execActionArm (slot : Fin 4096) (arm : BitVec 32) (s : State) : Res :=
  (s.armItem slot arm).done

/-! ### Phasors and synchronisers -/

/-- PHASOR_CYCLE_END (R346): results of a voltage triple and of the two current triples, and the age of the cycle's end,
ns. -/
def execPhasorCycleEnd (triple : Fin 3) (age : BitVec 32) (volts : TripleMeas) (currents : List TripleMeas)
    (s : State) : Res :=
  (s.phasorCycle triple (s.time - age.toNat) volts currents).done

/-- A SYNC item published with its word and taken in the same clock (R353). -/
def State.syncItemTaken (s : State) (c : Nat) (w : Word) : State :=
  (s.publish (syncItem c 0) (w.setWidth 64)).syncItemAt c w

/-- SYNC_ARM (R353). -/
def execSyncArm (channel : Fin 2) (seq : BitVec 8) (breaker : Fin 8) (deadBus : Bool) (s : State) : Res :=
  (s.syncItemTaken channel (wd (seq.toNat + breaker * 256 + 2048 + b1 deadBus * 4096))).done

/-- SYNC_DISARM (R362). -/
def execSyncDisarm (channel : Fin 2) (seq : BitVec 8) (s : State) : Res :=
  (s.syncItemTaken channel (wd seq.toNat)).done

/-- CLOSURE_DETECTED (R358): the age of the closure instant, ns. -/
def execClosureDetected (channel : Fin 2) (age : BitVec 32) (s : State) : Res :=
  (s.closure channel (s.time - age.toNat)).done

/-- CLOSURE_TIMEOUT (R358). -/
def execClosureTimeout (channel : Fin 2) (s : State) : Res :=
  (s.closureTimeout channel).done

/-- CLOSE_PULSE_END (R359). -/
def execClosePulseEnd (channel : Fin 2) (s : State) : Res :=
  (s.pulseEnd channel).done

/-- Station time at which a channel's arming runs out (R362). -/
def State.armEnd (s : State) (c : Nat) : Nat := (s.sync c).armedAt + wBits (s.chanRec c) 3 9 0 * 1000000000

/-- A channel's domain brought to the present clock. -/
def State.runSyncDom (s : State) (c : Nat) : State :=
  match s.syncDomain c with
  | some d => s.runDom d
  | none => s

/-- An armed channel's arming ends with cause 9. -/
def State.timeOutArm (s : State) (c : Nat) : State := if s.syncState c == 1 then s.disarmSync c 9 else s

/-- The arm timeout of a channel runs out (R362): the clock moves on to that instant, and a firing of the slot up to it and in its
clock comes first. -/
def State.armTimeout (s : State) (c : Nat) : State :=
  if s.syncState c == 1 then ((s.runUntil (s.armEnd c)).runSyncDom c).timeOutArm c else s

/-- SYNC_ARM_TIMEOUT (R362). -/
def execSyncArmTimeout (channel : Fin 2) (s : State) : Res :=
  (s.armTimeout channel).done

/-! ### Gust guard -/

/-- GUST_EVALUATION (R364). -/
def execGustEvaluation (s : State) : Res :=
  s.gustEvaluation.done

/-- GUST_REQUEST (R365). -/
def execGustRequest (slot : Fin 64) (seq : BitVec 8) (s : State) : Res :=
  (s.reqItem slot (wd (seq.toNat + 256))).done

/-- GUST_WITHDRAW (R365). -/
def execGustWithdraw (slot : Fin 64) (seq : BitVec 8) (s : State) : Res :=
  (s.reqItem slot (wd seq.toNat)).done

/-- BLACKOUT_ENTRY (R367): the blackout time has run out. -/
def execBlackoutEntry (s : State) : Res :=
  s.blackout.done

/-- LIVE_TIME_RESTART (R367). -/
def execLiveTimeRestart (s : State) : Res :=
  s.liveRestart.done

/-- RESTART_STEP_DELAY (R368). -/
def execRestartStepDelay (s : State) : Res :=
  s.stepDelay.done

/-- RESTART_STEP_TIMEOUT (R368). -/
def execRestartStepTimeout (s : State) : Res :=
  s.stepTimeout.done

/-- GROUP_PULSE_END (R448): the pulse at a point. -/
def execGroupPulseEnd (point : Word) (s : State) : Res :=
  (s.pulseOver point.toNat).done

end Sys2Proof.Machine
end

