-- ==== Sys2Proof/Machine/ExecNet.lean ====
section
/-! DEFINITION. The meanings of the commands of the Ethernet and serial ports (R509 to R526), of the connection of mailbox 64
(R96, R97) and of the CAN ports (R527 to R541). -/

namespace Sys2Proof.Machine

/-! ### Services -/

/-- SERVICE_FRAME_RECEIVE (R513): port, service, remote address, bytes, whether the frame is good, and the tag of a frame at
a PRP port. -/
def execServiceFrameReceive (port : Fin 6) (service : Fin 64) (addr : BitVec 32) (bytes : List Byte) (ok : Bool)
    (tag : Option PrpTag) (s : State) : Res :=
  (s.frameIn port service addr bytes ok tag).done

/-- SERVICE_FRAME_SEND (R513): a network service, or a serial port. -/
def execServiceFrameSend (serial : Bool) (service : Fin 64) (s : State) : Res :=
  (s.frameOut serial service).done

/-- PRP_SUPERVISION (R510): what was heard on each LAN since the last. -/
def execPrpSupervision (heardA heardB : Bool) (s : State) : Res :=
  (s.prpSupervise heardA heardB).done

/-- SENTENCE_450_RECEIVE (R515): `ok` says that the checksums are correct. -/
def execSentence450Receive (port : Fin 6) (service : Fin 64) (addr : BitVec 32) (bytes : List Byte) (ok : Bool)
    (tag : Option PrpTag) (s : State) : Res :=
  (s.sentence450 port service addr bytes ok tag).done

/-- MODBUS_CONNECT (R516): a connection opened or closed. -/
def execModbusConnect (port : Fin 6) (connection : BitVec 32) (opened : Bool) (s : State) : Res :=
  (s.mbConnect port connection.toNat opened).done

/-- MODBUS_READ_COILS (R517). -/
def execModbusReadCoils (from_ : ModbusFrom) (addr count : BitVec 16) (s : State) : Res :=
  (s.mbReadTable from_ 1 0 addr.toNat count.toNat 2000).done

/-- MODBUS_READ_DISCRETE_INPUTS (R517). -/
def execModbusReadDiscreteInputs (from_ : ModbusFrom) (addr count : BitVec 16) (s : State) : Res :=
  (s.mbReadTable from_ 2 1 addr.toNat count.toNat 2000).done

/-- MODBUS_READ_HOLDING_REGISTERS (R517). -/
def execModbusReadHoldingRegisters (from_ : ModbusFrom) (addr count : BitVec 16) (s : State) : Res :=
  (s.mbReadTable from_ 3 3 addr.toNat count.toNat 125).done

/-- MODBUS_READ_INPUT_REGISTERS (R517). -/
def execModbusReadInputRegisters (from_ : ModbusFrom) (addr count : BitVec 16) (s : State) : Res :=
  (s.mbReadTable from_ 4 2 addr.toNat count.toNat 125).done

/-- MODBUS_WRITE_SINGLE_COIL (R517). -/
def execModbusWriteSingleCoil (from_ : ModbusFrom) (addr : BitVec 16) (on : Bool) (s : State) : Res :=
  (s.mbWriteTable from_ 5 0 addr.toNat 1 [b1 on]).done

/-- MODBUS_WRITE_SINGLE_REGISTER (R517). -/
def execModbusWriteSingleRegister (from_ : ModbusFrom) (addr value : BitVec 16) (s : State) : Res :=
  (s.mbWriteTable from_ 6 3 addr.toNat 1 [value.toNat]).done

/-- MODBUS_WRITE_MULTIPLE_COILS (R517). -/
def execModbusWriteMultipleCoils (from_ : ModbusFrom) (addr : BitVec 16) (values : List Bool) (s : State) : Res :=
  (s.mbWriteTable from_ 15 0 addr.toNat 1968 (values.map b1)).done

/-- MODBUS_WRITE_MULTIPLE_REGISTERS (R517). -/
def execModbusWriteMultipleRegisters (from_ : ModbusFrom) (addr : BitVec 16) (values : List (BitVec 16))
    (s : State) : Res :=
  (s.mbWriteTable from_ 16 3 addr.toNat 123 (values.map BitVec.toNat)).done

/-- MODBUS_READ_WRITE_REGISTERS (R517). -/
def execModbusReadWriteRegisters (from_ : ModbusFrom) (readAddr readCount writeAddr : BitVec 16)
    (values : List (BitVec 16)) (s : State) : Res :=
  (s.mbReadWrite from_ readAddr.toNat readCount.toNat writeAddr.toNat (values.map BitVec.toNat)).done

/-- MODBUS_CLIENT_REQUEST (R518): a client service, or an RTU master port. -/
def execModbusClientRequest (serial : Bool) (service : Fin 64) (s : State) : Res :=
  (s.clientRequest serial service).done

/-- MODBUS_RESPONSE (R518). -/
def execModbusResponse (serial : Bool) (service : Fin 64) (port : Fin 6) (bytes : List Byte) (ok : Bool)
    (s : State) : Res :=
  (s.clientResponse serial service port bytes ok).done

/-- MODBUS_RESPONSE_TIMEOUT (R518). -/
def execModbusResponseTimeout (serial : Bool) (service : Fin 64) (s : State) : Res :=
  (s.clientTimeout serial service).done

/-- CLASSIC_PUBLISH_PERIOD (R519). -/
def execClassicPublishPeriod (service : Fin 64) (s : State) : Res :=
  (s.classicPublish service).done

/-- CLASSIC_BLOCK_RECEIVE (R519): the header's words and the payload. -/
def execClassicBlockReceive (port : Fin 6) (service : Fin 64) (addr : BitVec 32) (header : List (BitVec 32))
    (bytes : List Byte) (s : State) : Res :=
  (s.classicIn port service addr header bytes).done

/-- CLASSIC_SUBSCRIBE_TIMEOUT (R519). -/
def execClassicSubscribeTimeout (service : Fin 64) (s : State) : Res :=
  (s.classicLapse service).done

/-- GUST_NETWORK_REQUEST (R520): word 0 of the block. -/
def execGustNetworkRequest (port : Fin 6) (block : BitVec 32) (s : State) : Res :=
  (s.networkRequest port block).done

/-- GRANT_BLOCK_SEND (R520). -/
def execGrantBlockSend (slot : Fin 64) (s : State) : Res :=
  (s.sendGrant slot).done

/-- SERIAL_SENTENCE_RECEIVE (R522, R526): `check` 0 good, 1 a wrong checksum, 2 a framing, parity or overrun error; `zda` is the
second that a ZDA sentence names. -/
def execSerialSentenceReceive (port : Fin 4) (bytes : List Byte) (check : Fin 3) (zda : Option Nat) (s : State) : Res :=
  (s.serialIn port bytes check zda).done

/-- ETH_LINK_CHANGE (R376): the speed code of the link. -/
def execEthLinkChange (port : Fin 6) (up : Bool) (speed : Fin 8) (s : State) : Res :=
  (s.ethLink port up speed).done

/-! ### The connection of mailbox 64 -/

/-- Whether the module listens where a client comes (R38, R96): on the ports that the configuration enables, and on the network
device of the service port. -/
def State.listens (s : State) (port : Option (Fin 6)) : Bool :=
  match port with
  | none => s.isSet Fld.PNL_USB_function
  | some p => s.sys.pliuz.contains p.val && !s.portOff p

/-- Whether the handshake of a client is accepted (R96): the two cipher suites, and a certificate chained to the enrolled key, or
before a key is enrolled none on the service port in COMMISSION. In SELFTEST none is: the device key's copy is gone (R562). -/
def State.acceptsHello (s : State) (port : Option (Fin 6)) (h : PliuzHello) : Bool :=
  s.mode != mSelftest && decide (h.suite.val < 2) && h.p256 && (h.chained || (s.nv.key.isEmpty && port.isNone && s.mode == mCommission))

/-- A TLS connection that asks for mailbox 64 (R96, R97): a second one is closed with a record. Request and response sequences
start again (R86), and the responses that wait go over it. -/
def State.pliuzOpen (s : State) (addr : Word) (port : Option (Fin 6)) (h : PliuzHello) : State :=
  if !s.listens port || !s.acceptsHello port h then s
  else if s.fw.conn.isSome then s.record 2 97 0 0 0 64 [addr]
  else
    let s0 := s.setMbox 64 { s.mbox 64 with seqBase := none, rspSeq := 0 }
    let s1 := { s0 with fw := { s0.fw with
      conn := some addr.toNat, connService := port.isNone, connKey := if h.chained then s0.nv.key else [] } }
    let s2 := if port.isNone then s1.flag Fld.PNL_USB_configured true else s1
    (s2.handOut 64).releaseNtfs 64 16

/-- The connection of mailbox 64 closes; a session that it leaves open stays open, what the stream still held is lost (R97). -/
def State.pliuzClose (s : State) : State :=
  { s with fw := { s.fw with conn := none, connService := false, connKey := [], stream := [] } }

/-- PLIUZ_CONNECT (R96): opened from an address, with what the client comes with; or closed. -/
def execPliuzConnect (opened : Bool) (addr : BitVec 32) (port : Option (Fin 6)) (hello : PliuzHello) (s : State) : Res :=
  (if opened then s.pliuzOpen addr port hello else s.pliuzClose).done

/-- PLIUZ_IDLE_TIMEOUT (R97). -/
def execPliuzIdleTimeout (s : State) : Res :=
  s.pliuzClose.done

/-! ### CAN -/

/-- CAN_FRAME_RECEIVE (R531). -/
def execCanFrameReceive (port : Fin 4) (frame : CanRx) (s : State) : Res :=
  (s.canReceive port frame).done

/-- CAN_BUFFER_LOAD (R532): the two ordered buffers, and the urgent or reference buffer. -/
def execCanBufferLoad (port : Fin 4) (buffer : Fin 3) (s : State) : Res :=
  (s.canLoad port buffer).done

/-- CAN_ARBITRATION_OFFER (R533). -/
def execCanArbitrationOffer (port : Fin 4) (s : State) : Res :=
  (s.canOffer port).done

/-- CAN_FRAME_OUTCOME (R534): sent, arbitration lost, or an error; `ack` where the error is a missing acknowledgement; the
time since the start of frame, and the delay measured. -/
def execCanFrameOutcome (port : Fin 4) (buffer : Fin 3) (result : Fin 3) (ack : Bool) (age : BitVec 32)
    (tdc : BitVec 8) (s : State) : Res :=
  (s.canResult port buffer result ack age.toNat tdc.toNat).done

/-- CAN_TRANSMIT_TIMEOUT (R534). -/
def execCanTransmitTimeout (port : Fin 4) (buffer : Fin 3) (s : State) : Res :=
  (s.canTimeout port buffer).done

/-- CAN_BUS_OFF (R535). -/
def execCanBusOff (port : Fin 4) (s : State) : Res :=
  (s.canBusOff port).done

/-- CAN_RECOVERY_START (R535). -/
def execCanRecoveryStart (port : Fin 4) (s : State) : Res :=
  (s.canRecover port).done

/-- CAN_RECOVERY_COMPLETE (R535). -/
def execCanRecoveryComplete (port : Fin 4) (s : State) : Res :=
  (s.canRecovered port).done

/-- CAN_PROTOCOL_EXCEPTION (R529). -/
def execCanProtocolException (port : Fin 4) (s : State) : Res :=
  (s.canException port).done

/-- CAN_DETECTION_DWELL (R536). -/
def execCanDetectionDwell (port : Fin 4) (s : State) : Res :=
  (s.canDwell port).done

/-- CAN_REFERENCE_INSTANT (R537). -/
def execCanReferenceInstant (port : Fin 4) (s : State) : Res :=
  (s.canReference port).done

/-- CAN_REFERENCE_LATE (R537). -/
def execCanReferenceLate (port : Fin 4) (s : State) : Res :=
  (s.canRefLate port).done

end Sys2Proof.Machine
end

