-- ==== Sys2Proof/Machine/Panel.lean ====
section
/-! DEFINITION. The front panel (R542 to R557): frames, the charge pump, wear, keys and chords, the slider, the service port. -/

namespace Sys2Proof.Machine

/-! ### Frames (R542 to R546) -/

/-- Column offset of the hourly pixel shift (R548). -/
def shiftOffset (n : Nat) : Int := [0, 1, 2, 1, 0, -1, -2, -1].getD (n % 8) 0

/-- The image that the columns show: what station firmware drew, moved by the pixel shift. -/
def shiftImage (n : Nat) (image : List (Nat × Nat)) : List (Nat × Nat) :=
  image.foldl (fun (m : List (Nat × Nat)) (e : Nat × Nat) =>
    let c : Int := (e.1 % 256 : Nat) + shiftOffset n
    if c < 0 ∨ 255 < c then m else SMap.set 0 (e.1 / 256 * 256 + c.toNat) e.2 m) []

/-- Display clocks of one row time (R542). -/
def State.rowTime (s : State) : Nat := 10000000 / (s.fld Fld.PNL_TIMING_fps * (s.fld Fld.PNL_TIMING_mux + 1))

/-- Whether the columns are driven: the pump runs and the drive is on (R545). -/
def State.driving (s : State) : Bool := s.fld Fld.PNL_STAT_state == 2 && s.isSet Fld.PNL_DRIVE_on

/-- Level of the pixel scanned in the same column just before (R544). -/
def State.levelBefore (s : State) (px : Nat) : Nat :=
  if px < 256 then SMap.get 0 px s.pnl.lastRow else SMap.get 0 (px - 256) s.pnl.image

/-- Pulse width of a lit pixel before the cut: its level's width times its wear gain (R543, R547). -/
def State.pulseAsked (s : State) (px level : Nat) : Nat :=
  s.fld (Fld.PNL_GAMMA_width level) * SMap.get 128 px s.pnl.gains / 128

/-- The longest pulse of a pixel: from the end of its precharge to 20 clocks before the end of the row time. -/
def State.pulseRoom (s : State) (px level : Nat) : Nat :=
  s.rowTime - 20 - s.fld (Fld.PNL_PRE_time (16 * s.levelBefore px + level))

/-- One lit pixel of a frame: its drive accumulated, and its cut counted (R543, R547). -/
def State.lightPixel (s : State) (px level : Nat) : State :=
  let ask := s.pulseAsked px level
  let room := s.pulseRoom px level
  let s1 := if room < ask then s.bump Fld.PNL_CNT_clip else s
  { s1 with pnl := { s1.pnl with
      acc := SMap.set 0 px (SMap.get 0 px s1.pnl.acc + min ask room * s1.fld Fld.PNL_DRIVE_iseg) s1.pnl.acc } }

/-- The frame in progress completes on the values in force when it began (R546): rows from the multiplex ratio upward stay
dark. -/
def State.endFrame (s : State) : State :=
  let rows := s.fld Fld.PNL_TIMING_mux + 1
  let s1 :=
    if s.driving then
      let x := s.pnl.image.foldl (fun (s : State) (e : Nat × Nat) =>
        if e.1 / 256 < rows ∧ e.2 ≠ 0 then s.lightPixel e.1 e.2 else s) s
      { x with pnl := { x.pnl with
          lastRow := (x.pnl.image.filter fun e => e.1 / 256 == rows - 1).map fun e => (e.1 % 256, e.2) } }
    else { s with pnl := { s.pnl with lastRow := [] } }
  s1.wrapInc Fld.PNL_STAT_frames

/-- FRAME_BOUNDARY (R542, R546): the frame has lasted its row times, the shadows and the wear gains that wait take effect, and the
frame that begins shows what station firmware has drawn. A display clock is 25 fabric clocks. -/
def State.frameBoundary (s : State) (image : List (Nat × Nat)) : State :=
  let s0 := s.clkUntil (s.pnl.frameAt + (s.fld Fld.PNL_TIMING_mux + 1) * s.rowTime * 25)
  let s1 := s0.endFrame.takeShadows .frm
  { s1 with pnl := { s1.pnl with
      frameAt := s1.clk
      gains := s1.pnl.gainPend.foldl (fun (m : List (Nat × Nat)) (e : Nat × Nat) => SMap.set 128 e.1 e.2 m) s1.pnl.gains
      gainPend := []
      image := shiftImage s1.pnl.shift image } }

/-! ### The charge pump (R545) -/

/-- PUMP_RAMP_END: 20 ms after the switch-on. -/
def State.rampEnd (s : State) : State :=
  if s.fld Fld.PNL_STAT_state = 1 then
    (match s.pnl.rampAt with | some t => s.clkUntil (t + 5000000) | none => s).put Fld.PNL_STAT_state 2
  else s

/-- PUMP_FAULT: pump and columns off, and a record; a second fault within 60 s leaves it off with an alarm. -/
def State.pumpFault (s : State) : State :=
  let st := s.fld Fld.PNL_STAT_state
  if st = 1 ∨ st = 2 then
    let s1 := (s.put Fld.PNL_STAT_state 3).note 1 545 0
    let again := match s.pnl.faultAt with | some t => decide (s.time < t + 60000000000) | none => false
    let s2 := { s1 with pnl := { s1.pnl with faultAt := some s.time, barred := again } }
    if again then s2.raiseAlert 545 0 else s2
  else s

/-- PUMP_RESTART: 1 s after the fault, once. -/
def State.pumpRestart (s : State) : State :=
  match s.pnl.faultAt with
  | none => s
  | some t =>
    if s.fld Fld.PNL_STAT_state = 3 ∧ s.pnl.barred = false then
      let s1 := (s.runUntil (t + 1000000000)).put Fld.PNL_STAT_state 1
      { s1 with pnl := { s1.pnl with rampAt := some s1.clk } }
    else s

/-! ### Wear (R547, R548) -/

/-- PIXEL_SHIFT. -/
def State.pixelShift (s : State) : State := { s with pnl := { s.pnl with shift := (s.pnl.shift + 1) % 8 } }

/-- WEAR_HOURLY_READ: every accumulator read, and added to its pixel's history. -/
def State.wearRead (s : State) : State :=
  let hist := s.pnl.acc.foldl (fun (m : List (Nat × Nat)) (e : Nat × Nat) =>
    SMap.set 0 e.1 (SMap.get 0 e.1 m + s.wearFrames e.1) m) s.nv.wearHist
  { s.put Fld.PNL_WEARADDR_pixel 0 with
    nv := { s.nv with wearHist := hist }
    pnl := { s.pnl with acc := [] } }

/-- The largest wear gain, among those in force and those that wait. -/
def State.worstGain (s : State) : Nat := ((s.pnl.gains ++ s.pnl.gainPend).map (·.2)).foldl max 128

/-- WEAR_GAIN_UPDATE: gains written, for the next frame, and the wear of the most-worn pixel judged (R571). -/
def State.wearGains (s : State) (gains : List (Nat × Nat)) : State :=
  let s1 := { s with pnl := { s.pnl with
    gainPend := gains.foldl (fun (m : List (Nat × Nat)) (e : Nat × Nat) => SMap.set 0 e.1 e.2 m) s.pnl.gainPend } }
  s1.judgeSource srcOled (decide (224 ≤ s1.worstGain)) (decide (255 ≤ s1.worstGain))

/-! ### Keys (R549, R550) -/

def keyMenu : Nat := 0
def keyBack : Nat := 1
def keyUp : Nat := 2
def keyDown : Nat := 3
def keyEnter : Nat := 4
def keyAck : Nat := 5

/-- Two keys that form a chord (R550): it is named by the key beside Menu. -/
def chordOf (a b : Nat) : Option Nat :=
  let (x, y) := if a ≤ b then (a, b) else (b, a)
  if x = keyMenu ∧ (y = keyBack ∨ y = keyEnter) then some y else none

/-- What stands at the cursor: an alarm for Ack, and the menu entry PREPARE REMOVAL for Enter. -/
structure Cursor where
  alarm : Nat
  removal : Bool
  deriving DecidableEq, Repr

/-- PREPARE REMOVAL (R42, R552): the commanded veer of a windward module; out of STANDBY or RESYNC when it stands there. -/
def State.prepareRemoval (s : State) : State :=
  let s0 := { s with sys := { s.sys with removal := true } }
  if s0.mode = mStandby ∨ s0.mode = mResync then s0.leaveStandby
  else if s0.windward && s0.partnerStandby && s0.red.veer.isNone && s0.sys.modeAt.isNone &&
      (claimAbove (s0.reg Reg.RED_CLAIM)).isSome then s0.askVeer ⟨255, 0⟩
  else s

/-- A key taken (R549): what station firmware does for it. In SELFTEST the keys are locked (R38). -/
def State.takeKey (s : State) (k : Nat) (c : Cursor) : State :=
  if s.mode = mSelftest then s
  else
    let s1 := (s.putBit Fld.PNL_KEYS_taken k true).undim
    if k = keyAck then s1.alarmCommand ⟨c.alarm, acAck, 1, 0⟩
    else if k = keyEnter then (if c.removal then s1.prepareRemoval else s1.confirmMode)
    else s1

/-- Keys pressed while another is held, or beside it without a chord (R549). -/
def State.ignoreKeys (s : State) (n : Nat) : State := s.bumpBy Fld.PNL_CNT_ignored n

/-- A key that becomes pressed ends a touch (R551). -/
def State.endTouch (s : State) : State :=
  let s1 := if s.isSet Fld.PNL_SLIDER_touch then { s with pnl := { s.pnl with blocked := true } } else s
  s1.flag Fld.PNL_SLIDER_touch false

/-- The panel in use now: the dim time starts again (R548). -/
def State.used (s : State) : State := { s with pnl := { s.pnl with usedAt := s.clk } }

/-- KEY_PRESS: the keys that become pressed in one sample. -/
def State.keyPress (s : State) (keys : Nat) (c : Cursor) : State :=
  let down := s.fld Fld.PNL_KEYS_down
  let new := (upFrom 0 6).filter fun k => keys.testBit k && !down.testBit k
  if new.isEmpty then s
  else
    let s1 := ((s.put Fld.PNL_KEYS_down (new.foldl (fun m k => m + 2 ^ k) down)).endTouch.undim).used
    let hold := fun (s : State) (f : Option Nat) (ch : Option Nat) => { s with pnl := { s.pnl with
      first := f, chord := ch, chordAt := s.clk, keyNext := s.clk + 125000000 } }
    match s1.pnl.first, new with
    | none, [k] => (hold s1 (some k) none).takeKey k c
    | none, [a, b] =>
      match chordOf a b with
      | some y => ((hold s1 (some keyMenu) (some y)).takeKey keyMenu c).putBit Fld.PNL_KEYS_taken y true
      | none => s1.ignoreKeys 2
    | none, ks => s1.ignoreKeys ks.length
    | some f, ks =>
      match s1.pnl.chord, ks with
      | none, [k] =>
        match chordOf f k with
        | some y => (hold s1 (some f) (some y)).putBit Fld.PNL_KEYS_taken k true
        | none => s1.ignoreKeys 1
      | _, ks => s1.ignoreKeys ks.length

/-- KEY_REPEAT: Up or Down, held for 500 ms, and every 100 ms from then on. -/
def State.keyRepeat (s : State) (up : Bool) (c : Cursor) : State :=
  let k := if up then keyUp else keyDown
  if s.pnl.first = some k ∧ s.pnl.chord.isNone = true then
    let s1 := (s.clkUntil s.pnl.keyNext).used
    { s1 with pnl := { s1.pnl with keyNext := s1.clk + 25000000 } }.takeKey k c
  else s

/-- KEY_RELEASE: a released key holds nothing, and a chord ends with either of its keys. -/
def State.keyRelease (s : State) (k : Nat) : State :=
  let s1 := s.putBit Fld.PNL_KEYS_down k false
  if s.pnl.first = some k then { s1 with pnl := { s1.pnl with first := none, chord := none } }
  else if s.pnl.chord = some k ∨ (k = keyMenu ∧ s.pnl.chord.isSome = true) then
    { s1 with pnl := { s1.pnl with chord := none } }
  else s1

/-- CHORD_PANEL_RESET: Menu and Back held for 10 s; the key scanner drives the reset itself. -/
def State.panelReset (s : State) : State :=
  if s.pnl.chord = some keyBack then (s.clkUntil (s.pnl.chordAt + 2500000000)).resetModule rcPanel 0 else s

/-- CHORD_WITNESS_OVERRIDE: Menu and Enter held for 3 s. -/
def State.chordOverride (s : State) : State :=
  if s.pnl.chord = some keyEnter ∧ s.mode = mBoot ∧ s.sys.wait = .witnessAbsent then
    (s.clkUntil (s.pnl.chordAt + 750000000)).overrideWitness
  else s

/-- START_MODE_OVERRIDE: Menu alone. -/
def State.menuOverride (s : State) : State :=
  if s.pnl.first = some keyMenu ∧ s.pnl.chord.isNone = true then s.overrideStart else s

/-! ### The slider (R551) -/

/-- The zone of a position, coming from zone `z`: a boundary is crossed only 8 counts past it. -/
def zoneFrom (z pos : Nat) : Nat :=
  if (z + 1) * 64 + 8 ≤ pos then (pos - 8) / 64
  else if pos + 8 ≤ z * 64 then (pos + 7) / 64
  else z

/-- SLIDER_TOUCH: a report of the slider; `width` in counts. -/
def State.slider (s : State) (touched : Bool) (pos width : Nat) : State :=
  let off := s.flag Fld.PNL_SLIDER_touch false
  if !touched then { off with pnl := { off.pnl with blocked := false, wet := false } }
  else if s.fld Fld.PNL_KEYS_down ≠ 0 ∨ s.pnl.blocked = true then off
  else if 192 < width then
    let s1 := if s.pnl.wet then off else off.bump Fld.PNL_CNT_wet
    { s1 with pnl := { s1.pnl with wet := true } }
  else
    let z := if s.isSet Fld.PNL_SLIDER_touch then zoneFrom (s.fld Fld.PNL_SLIDER_zone) pos else pos / 64
    (((s.flag Fld.PNL_SLIDER_touch true).put Fld.PNL_SLIDER_zone z).put Fld.PNL_SLIDER_pos pos).undim.used

/-! ### The service port (R555) -/

/-- USB_ATTACH: VBUS has stood above 4.0 V for 100 ms. -/
def State.usbAttach (s : State) (flip : Bool) : State :=
  if s.isSet Fld.PNL_USB_attached then s
  else
    let s1 := ((s.flag Fld.PNL_USB_attached true).flag Fld.PNL_USB_flip flip).bump Fld.PNL_USB_attaches
    (s1.record 1 555 1 0 0 0xFF []).usbFollow

/-- USB_DETACH: VBUS has fallen below 3.5 V. -/
def State.usbDetach (s : State) : State :=
  if s.isSet Fld.PNL_USB_attached then
    ((s.flag Fld.PNL_USB_attached false).record 1 555 0 0 0 0xFF []).usbFollow
  else s

end Sys2Proof.Machine
end

