-- ==== Sys2Proof/Machine/ExecPanel.lean ====
section
/-! DEFINITION. The meanings of the commands of the front panel and the service port (R542 to R557). -/

namespace Sys2Proof.Machine

/-- FRAME_BOUNDARY (R546): the levels that station firmware has drawn for the frame that begins, by row × 256 + column. -/
def execFrameBoundary (image : List (Fin 16384 × Fin 16)) (s : State) : Res :=
  (s.frameBoundary (image.map fun e => (e.1.val, e.2.val))).done

/-- PUMP_FAULT (R545). -/
def execPumpFault (s : State) : Res :=
  s.pumpFault.done

/-- PUMP_RESTART (R545). -/
def execPumpRestart (s : State) : Res :=
  s.pumpRestart.done

/-- KEY_PRESS (R549): the keys that become pressed in one sample, and what stands at the cursor. -/
def execKeyPress (keys : BitVec 6) (alarm : Fin 2048) (removal : Bool) (s : State) : Res :=
  (s.keyPress keys.toNat ⟨alarm, removal⟩).done

/-- KEY_REPEAT (R549): Up or Down. -/
def execKeyRepeat (up : Bool) (s : State) : Res :=
  (s.keyRepeat up ⟨0, false⟩).done

/-- CHORD_PANEL_RESET (R550). -/
def execChordPanelReset (s : State) : Res :=
  s.panelReset.done

/-- CHORD_WITNESS_OVERRIDE (R48, R550). -/
def execChordWitnessOverride (s : State) : Res :=
  s.chordOverride.done

/-- START_MODE_OVERRIDE (R48, R550). -/
def execStartModeOverride (s : State) : Res :=
  s.menuOverride.done

/-- SLIDER_TOUCH (R551): touched or not, the position, and the width of the contact in counts. -/
def execSliderTouch (touched : Bool) (pos width : Fin 1024) (s : State) : Res :=
  (s.slider touched pos width).done

/-- DIM_TIMEOUT (R548). -/
def execDimTimeout (s : State) : Res :=
  s.dim.done

/-- PIXEL_SHIFT (R548). -/
def execPixelShift (s : State) : Res :=
  s.pixelShift.done

/-- WEAR_HOURLY_READ (R547). -/
def execWearHourlyRead (s : State) : Res :=
  s.wearRead.done

/-- WEAR_GAIN_UPDATE (R547): pixels and their new gains above 128. -/
def execWearGainUpdate (gains : List (Fin 16384 × Fin 128)) (s : State) : Res :=
  (s.wearGains (gains.map fun e => (e.1.val, 128 + e.2.val))).done

/-- USB_ATTACH (R555): the CC contact in use. -/
def execUsbAttach (flip : Bool) (s : State) : Res :=
  (s.usbAttach flip).done

/-- USB_DETACH (R555). -/
def execUsbDetach (s : State) : Res :=
  s.usbDetach.done

/-- PUMP_RAMP_END (R545). -/
def execPumpRampEnd (s : State) : Res :=
  s.rampEnd.done

/-- KEY_RELEASE (R549). -/
def execKeyRelease (key : Fin 6) (s : State) : Res :=
  (s.keyRelease key).done

end Sys2Proof.Machine
end

