-- ==== Sys2Proof/Machine/ExecRedundancy.lean ====
section
/-! DEFINITION. The meanings of the commands of station redundancy (R92, R133, R185, R195 to R236): heartbeats and the link,
items in step, the witness messages, the pair messages, resynchronisation, claims and presence contacts. -/

namespace Sys2Proof.Machine

/-! ### Heartbeats and the link -/

/-- HEARTBEAT_SEND (R199). -/
def execHeartbeatSend (s : State) : Res :=
  s.sendHeartbeat.done

/-- HEARTBEAT_RECEIVE (R197, R200, R217): what the heartbeat carries, and the round trip measured with it in ns. -/
def execHeartbeatReceive (seq : BitVec 16) (mode : Fin 8) (claim cycles ack timeLow : Word) (trip : BitVec 16) (s : State) : Res :=
  (s.takeHeartbeat seq.toNat mode claim cycles.toNat ack.toNat timeLow trip.toNat).done

/-- HEARTBEAT_MISSED (R45, R200, R211, R222). -/
def execHeartbeatMissed (s : State) : Res :=
  s.missHeartbeat.done

/-- HEARTBEAT_WATCHDOG_EXPIRY (R199). -/
def execHeartbeatWatchdogExpiry (s : State) : Res :=
  s.stopHeartbeats.done

/-- LINK_LANE_CHANGE (R196, R229). -/
def execLinkLaneChange (lane : Fin 2) (up : Bool) (s : State) : Res :=
  (s.linkLane lane up).done

/-- LINK_CRC_BURST (R207, cause 8): frames rejected for CRC. -/
def execLinkCrcBurst (n : BitVec 16) (s : State) : Res :=
  (s.crcBurst n.toNat).done

/-! ### Running in step -/

/-- FORWARD_ITEM_RECEIVE (R202, R205, R206). -/
def execForwardItemReceive (seq : Word) (kind : Fin 32) (ws : List Word) (s : State) : Res :=
  (s.receiveItem seq.toNat kind ws).done

/-- FORWARD_ACK_RECEIVE (R202, R203): RED acknowledges items. -/
def execForwardAckReceive (seq : Word) (s : State) : Res :=
  (s.takeAck seq.toNat).done

/-- COMPLETION_MARKER (R204): lane, task, activation number and signature. -/
def execCompletionMarker (seq : Word) (lane : Fin 8) (task : Fin 512) (number sigLo sigHi : Word) (s : State) : Res :=
  (s.receiveItem seq.toNat fwMarker [wd lane, wd task, number, sigLo, sigHi]).done

/-- LEEWARD_LAG_EXCEEDED (R205; R207, cause 4). -/
def execLeewardLagExceeded (s : State) : Res :=
  s.lagExceeded.done

/-! ### The witness -/

/-- WITNESS_ASK_RETRY (R211). -/
def execWitnessAskRetry (s : State) : Res :=
  s.askAgain.done

/-- WITNESS_GRANT_TIMEOUT (R211). -/
def execWitnessGrantTimeout (s : State) : Res :=
  s.grantTimeout.done

/-- WIT_ASK at the witness (R210). `ok`: the tag of the frame is right (R208). -/
def execWitAsk (ok : Bool) (station requester : Fin 16384) (claim cause : Word) (stamp : AskStamp) (s : State) : Res :=
  let time := stamp.time.toNat
  (s.witnessFrame ok 0x0340 stamp.tag.toNat [wd station, wd requester, claim, cause, hi32 time, lo32 time] fun s =>
    s.takeAsk station requester claim.toNat cause.toNat stamp.tag.toNat).done

/-- WIT_PROBE (R210): answered while heartbeats are sent. -/
def execWitProbe (ok : Bool) (witness station : Fin 16384) (number : Word) (s : State) : Res :=
  (s.witnessFrame ok 0x0341 0 [wd station, number] fun s => s.answerProbe witness station number).done

/-- WIT_PROBE_REPLY at the witness (R210). -/
def execWitProbeReply (ok : Bool) (station : Fin 16384) (number claim : Word) (mode : Fin 8) (s : State) : Res :=
  (s.witnessFrame ok 0x0342 0 [wd station, number, claim, wd mode] fun s =>
    s.takeProbeReply station number.toNat).done

/-- PROBE_WINDOW_EXPIRY at the witness (R210). -/
def execProbeWindowExpiry (station : Fin 16384) (s : State) : Res :=
  (s.probeExpired station).done

/-- WIT_GRANT (R47, R211 to R213). -/
def execWitGrant (ok : Bool) (station : Fin 16384) (claim : Word) (tag : BitVec 16) (s : State) : Res :=
  (s.witnessFrame ok 0x0343 tag.toNat [wd station, claim, wd tag.toNat] fun s => s.takeGrant station claim).done

/-- WIT_REFUSE (R47, R211). -/
def execWitRefuse (ok : Bool) (witness station : Fin 16384) (reason highest : Word) (s : State) : Res :=
  (s.witnessFrame ok 0x0344 0 [wd station, reason, highest] fun s =>
    s.takeRefuse witness station reason.toNat highest).done

/-- WIT_CLAIMED at the witness (R210, R216). -/
def execWitClaimed (ok : Bool) (node station : Fin 16384) (claim kind : Word) (s : State) : Res :=
  (s.witnessFrame ok 0x0345 0 [wd station, claim, kind] fun s =>
    s.takeClaimed node station claim.toNat kind.toNat).done

/-- WIT_STATUS at the witness (R210). -/
def execWitStatus (ok : Bool) (node station : Fin 16384) (claim : Word) (mode : Fin 8) (s : State) : Res :=
  (s.witnessFrame ok 0x0346 0 [wd station, claim, wd mode] fun s => s.takeStatus node station claim.toNat).done

/-- WIT_STATUS_TIMER (R209, R212): which witness is reachable. -/
def execWitStatusTimer (primary secondary : Bool) (s : State) : Res :=
  (s.witStatus primary secondary).done

/-- WIT_DEMOTE (R217). -/
def execWitDemote (ok : Bool) (station : Fin 16384) (claim : Word) (s : State) : Res :=
  (s.witnessFrame ok 0x0347 0 [wd station, claim] fun s => s.demoted station).done

/-! ### Pair messages -/

/-- A pair message, shown to station firmware on mailbox 66 and then taken (R209). -/
def State.pairMessage (s : State) (op : Nat) (ws : List Word) (k : State → State) : State := k (s.seen 66 op 0 ws)

/-- PAIR_PREPARE (R92). -/
def execPairPrepare (tag : Word) (stages : List Stage) (s : State) : Res :=
  (s.pairMessage 0x0350 ([wd (setKind stages), tag] ++ stages.flatMap stageWords) fun s => s.pairPrepare tag.toNat stages).done

/-- PAIR_ACK (R92). -/
def execPairAck (tag : Word) (s : State) : Res :=
  (s.pairMessage 0x0351 [tag] fun s => s.pairAck tag.toNat).done

/-- PAIR_NACK (R92). -/
def execPairNack (tag detail : Word) (s : State) : Res :=
  (s.pairMessage 0x0352 [tag, detail] fun s => s.pairNack tag.toNat detail).done

/-- PAIR_FALLBACK (R133). -/
def execPairFallback (index : Fin 4) (boundary : Word) (s : State) : Res :=
  (s.pairMessage 0x0353 [wd index, boundary] fun s => s.takeFallback index boundary).done

/-- PAIR_FAILMARK (R185). -/
def execPairFailmark (lane : Fin 8) (count : Word) (s : State) : Res :=
  (s.pairMessage 0x0354 [wd lane, count] fun s => s.takeFailmark lane count.toNat).done

/-- PAIR_FAILREP (R185). -/
def execPairFailrep (pair : Fin 4) (s : State) : Res :=
  (s.pairMessage 0x0355 [wd pair] fun s => s.takeFailrep pair).done

/-- PAIR_YIELD (R225). -/
def execPairYield (claim cause : Word) (s : State) : Res :=
  (s.pairMessage 0x0356 [claim, cause] fun s => s.takeYield claim).done

/-- PAIR_VEER (R226). -/
def execPairVeer (phase boundary : Word) (s : State) : Res :=
  (s.pairMessage 0x0357 [phase, boundary] fun s => s.pairVeer phase.toNat boundary).done

/-- COMMANDED_VEER_TIMEOUT (R226). -/
def execCommandedVeerTimeout (s : State) : Res :=
  s.veerTimeout.done

/-- FORMER_WINDWARD_STANDBY (R226). -/
def execFormerWindwardStandby (s : State) : Res :=
  s.formerWindward.done

/-! ### Resynchronisation -/

/-- PAIR_RESYNC (R228). -/
def execPairResync (phase : Fin 8) (d1 d2 d3 : Word) (s : State) : Res :=
  (s.pairMessage 0x0358 [wd phase, d1, d2, d3] fun s => s.pairResync phase d1 d2 d3).done

/-- RESYNC_PHASE_COMPLETE (R228): the bytes that the windward module sent in phase 4, and what the phase brought to the leeward
module. -/
def execResyncPhaseComplete (bytes : BitVec 64) (data : ResyncData) (s : State) : Res :=
  (s.phaseComplete bytes.toNat data).done

/-- RESYNC_TIMEOUT (R229). -/
def execResyncTimeout (s : State) : Res :=
  s.resyncTimeout.done

/-! ### Claims at the stages, checkpoints, presence contacts -/

/-- CLAIM_FRAME_RECEIVE (R214 to R217): a frame on a claim line at the stage of a unit. -/
def execClaimFrameReceive (unit : Fin 9) (mine : Bool) (frame : BitVec 40) (s : State) : Res :=
  (s.claimLine unit mine frame).done

/-- STAGE_TURN_ON (R215). -/
def execStageTurnOn (unit : Fin 9) (s : State) : Res :=
  (s.stageTurnOn unit).done

/-- CLAIM_RESET_WINDOW_END (R216). -/
def execClaimResetWindowEnd (s : State) : Res :=
  s.claimResetEnd.done

/-- CHECKPOINT_COPY_DONE (R231). -/
def execCheckpointCopyDone (task : Fin 512) (s : State) : Res :=
  (s.ckptDone task).done

/-- PRES_S_OPEN (R235). -/
def execPresSOpen (s : State) : Res :=
  s.presOpen.done

/-- PRES_S_CLOSE (R235). -/
def execPresSClose (s : State) : Res :=
  s.presClose.done

/-- INSERTION_DEBOUNCE (R236). -/
def execInsertionDebounce (s : State) : Res :=
  s.inserted.done

end Sys2Proof.Machine
end

