-- ==== Sys2Proof/Machine/ExecRegs.lean ====
section
/-! DEFINITION. The meanings of the register commands (R10, R42, R50, R54, R62 to R75, R78, R189 to R193, R199, R213, R216,
R244 to R247, R396, R473, R479, R545, R547, R574). The management pair makes each, but where a command names a lane. A
register is named by its word index in the register space; a keyed command carries the word written. -/

namespace Sys2Proof.Machine

/-- An access of the management pair as a command. -/
def State.accessed (s : State) (k : Nat) (write : Bool) (v : Word) : Res :=
  match s.slowDone 0 with
  | none => State.doneOr (s.slowKeyOf 0) none
  | some s1 => State.doneOr k (s1.mgmtAccess k write v)

/-- A write of the management pair as a command: its last access has completed before (R68). -/
def State.wrote (s : State) (k : Nat) (v : Word) : Res := s.accessed k true v

/-- REGISTER_WRITE (R71). -/
def execRegisterWrite (reg : BitVec 19) (value : BitVec 32) (s : State) : Res :=
  s.accessed (4 * reg.toNat) true value

/-- RC_READ (R63). -/
def execRcRead (reg : BitVec 19) (s : State) : Res :=
  s.accessed (4 * reg.toNat) false 0

/-- SLOW_ACCESS_DONE (R68). -/
def execSlowAccessDone (master : Fin 16) (s : State) : Res :=
  State.doneOr (s.slowKeyOf master) (s.slowDone master)

/-- SLOW_ACCESS_TIMEOUT (R69). -/
def execSlowAccessTimeout (master : Fin 16) (s : State) : Res :=
  (s.slowTimeout master).done

/-- SYS_RST (R54). -/
def execSysRst (word : BitVec 32) (s : State) : Res :=
  s.wrote Reg.SYS_RST word

/-- SYS_MODE_SET (R42). -/
def execSysModeSet (word : BitVec 32) (s : State) : Res :=
  s.wrote Reg.SYS_MODE_SET word

/-- PRT_LOCK_SET (R50). -/
def execPrtLockSet (s : State) : Res :=
  s.wrote Reg.PRT_LOCK 1

/-- A mailbox index written by the management pair, or by the task that runs on a lane, as its block admits it (R98). -/
def State.mailboxWrite (s : State) (k : Nat) (writer : Option (Fin 8)) (v : Word) : Option State :=
  match writer with
  | none => s.mgmtAccess k true v
  | some l =>
    match (s.lane l).act with
    | none => some s
    | some a =>
      match s.admits a.part k true with
      | .full => s.writeCore k v a.part (s.laneMaster l)
      | .empty => some s
      | .fault kind => some (s.protLane l kind (0x40000000 + k))

/-- MBX_REQ_HEAD_WRITE (R78). -/
def execMbxReqHeadWrite (mbx : Fin 72) (writer : Option (Fin 8)) (head : BitVec 16) (s : State) : Res :=
  State.doneOr (Reg.MBX_REQ_HEAD mbx) (s.mailboxWrite (Reg.MBX_REQ_HEAD mbx) writer (head.setWidth 32))

/-- MBX_RSP_TAIL_WRITE (R78). -/
def execMbxRspTailWrite (mbx : Fin 72) (writer : Option (Fin 8)) (tail : BitVec 16) (s : State) : Res :=
  State.doneOr (Reg.MBX_RSP_TAIL mbx) (s.mailboxWrite (Reg.MBX_RSP_TAIL mbx) writer (tail.setWidth 32))

/-- QE_ALLOCREQ (R244, R245): kind 0 a small buffer, 1 a large buffer, 2 a descriptor. -/
def execQeAllocreq (kind : Fin 3) (part : Fin 64) (s : State) : Res :=
  s.wrote Reg.QE_ALLOCREQ (wd (kind + part * 65536))

/-- QE_FREEBUF (R247). -/
def execQeFreebuf (handle : BitVec 16) (s : State) : Res :=
  s.wrote Reg.QE_FREEBUF (handle.setWidth 32)

/-- QE_ENQ (R246). -/
def execQeEnq (desc : BitVec 14) (s : State) : Res :=
  s.wrote Reg.QE_ENQ (desc.setWidth 32)

/-- QE_DEQREQ (R244). -/
def execQeDeqreq (queue : Fin 8192) (s : State) : Res :=
  s.wrote Reg.QE_DEQREQ (wd queue)

/-- FIO_KICK (R396). -/
def execFioKick (word : BitVec 32) (s : State) : Res :=
  s.wrote Reg.FIO_KICK word

/-- RED_HBKICK (R199). -/
def execRedHbkick (word : BitVec 32) (s : State) : Res :=
  s.wrote Reg.RED_HBKICK word

/-- CLAIM_DROP (R216): RED_CLAIMCTL with its key and drop. -/
def execClaimDrop (key : BitVec 16) (s : State) : Res :=
  s.wrote Reg.RED_CLAIMCTL (wd (key.toNat * 65536 + 2))

/-- CLAIM_RAISE (R213): RED_CLAIMCTL with its key and raise. -/
def execClaimRaise (key : BitVec 16) (s : State) : Res :=
  s.wrote Reg.RED_CLAIMCTL (wd (key.toNat * 65536 + 1))

/-- LKS_INJECT (R193). -/
def execLksInject (pair : Fin 4) (word : BitVec 32) (s : State) : Res :=
  s.wrote (Reg.LKS_INJECT pair) word

/-- DEBUG_ATTACH (R189). -/
def execDebugAttach (lane : Fin 8) (s : State) : Res :=
  s.wrote Reg.LKS_DBGCTL (wd (256 + lane))

/-- DEBUG_DETACH (R192). -/
def execDebugDetach (s : State) : Res :=
  s.wrote Reg.LKS_DBGCTL 0

/-- A command of LKS_DBGCTL to the attached lane. -/
def State.debugCommand (s : State) (cmd steps : Nat) : Res :=
  match s.lks.attached with
  | none => s.done
  | some l => s.wrote Reg.LKS_DBGCTL (wd (steps * 65536 + cmd * 512 + 256 + l))

/-- DEBUG_HALT (R190). -/
def execDebugHalt (s : State) : Res :=
  s.debugCommand 1 0

/-- DEBUG_RESUME (R191). -/
def execDebugResume (s : State) : Res :=
  s.debugCommand 2 0

/-- DEBUG_STEP (R191). -/
def execDebugStep (steps : BitVec 16) (s : State) : Res :=
  s.debugCommand 3 steps.toNat

/-- DEBUG_REG_WRITE (R190): LKS_DBGSEL, then LKS_DBGDATA. -/
def execDebugRegWrite (reg : Fin 36) (half : Bool) (value : BitVec 32) (s : State) : Res :=
  State.doneOr Reg.LKS_DBGDATA
    ((s.mgmtAccess Reg.LKS_DBGSEL true (wd (reg + 256 * b1 half))).bind fun s => s.mgmtAccess Reg.LKS_DBGDATA true value)

/-- DEBUG_MEM_ACCESS (R190): the word index of the address; a write where a value is given. -/
def execDebugMemAccess (addr : BitVec 38) (value : Option (BitVec 32)) (s : State) : Res :=
  let a := addr.toNat * 4
  State.doneOr Reg.LKS_DBGMEM
    (((s.mgmtAccess Reg.LKS_DBGADDR_LO true (lo32 a)).bind fun s => s.mgmtAccess Reg.LKS_DBGADDR_HI true (hi32 a)).bind
      fun s => s.mgmtAccess Reg.LKS_DBGMEM value.isSome (value.getD 0))

/-- SAF_PDATA_WRITE (R479): the word at SAF_PADDR. -/
def execSafPdataWrite (value : BitVec 32) (s : State) : Res :=
  s.wrote Reg.SAF_PDATA value

/-- SAF_TEST (R473). -/
def execSafTest (word : BitVec 32) (s : State) : Res :=
  s.wrote Reg.SAF_TEST word

/-- AGE_OPSET (R574). -/
def execAgeOpset (word : BitVec 32) (s : State) : Res :=
  s.wrote Reg.AGE_OPSET word

/-- PNL_PUMP_TOGGLE (R545): the pump bit written 0, then 1, each a slow access that the next one waits for (R68). -/
def execPnlPumpToggle (s : State) : Res :=
  let word := fun (on : Bool) =>
    setBits (setBits ((s.shadowOf Reg.PNL_DRIVE .frm).getD (s.reg Reg.PNL_DRIVE)) 31 18 0) 16 16 (b1 on)
  State.doneOr Reg.PNL_DRIVE
    ((s.mgmtAccess Reg.PNL_DRIVE true (word false)).bind fun s => s.mgmtAccess Reg.PNL_DRIVE true (word true))

/-- PNL_WEARDATA_READ (R547): the accumulator of the addressed pixel, a slow access whose end returns it to the
management pair (R68). -/
def execPnlWeardataRead (s : State) : Res :=
  s.accessed Reg.PNL_WEARDATA false 0

end Sys2Proof.Machine
end

