-- ==== Sys2Proof/Machine/ExecSafety.lean ====
section
/-! DEFINITION. The meanings of the commands of the safety block (R453 to R484), the alarm manager (R485 to R495) and the
event recorder (R496 to R508). -/

namespace Sys2Proof.Machine

/-! ### Safety block -/

/-- SAFETY_EVALUATION (R453). -/
def execSafetyEvaluation (s : State) : Res :=
  s.safetyEval.done

/-- SAFETY_INPUT_SAMPLE (R456): the closed contacts of channels 4 to 15 of both channels as bits, and which test source is
dark. -/
def execSafetyInputSample (a b : BitVec 12) (darkA darkB : Bool) (s : State) : Res :=
  (s.sampleInputs a.toNat b.toNat darkA darkB).done

/-- TEST_SOURCE_PULSE (R456): the channels 4 to 15 that read closed in the pulse, and those that never read open. -/
def execTestSourcePulse (closed never : BitVec 12) (s : State) : Res :=
  (s.testPulse closed.toNat never.toNat).done

/-- DISCREPANCY_TIMEOUT (R457): safety and EDM inputs 0 to 11 are channels 4 to 15. -/
def execDiscrepancyTimeout (input : Fin 12) (s : State) : Res :=
  (s.discrepancy (4 + input)).done

/-- STO_TEST_PULSE (R458): the switch, and its terminal in the dark pulse and outside it. -/
def execStoTestPulse (output : Fin 4) (switchB inPulse outside : Bool) (s : State) : Res :=
  (s.stoTest output switchB inPulse outside).done

/-- SAFETY_DEMAND_ITEM (R464). -/
def execSafetyDemandItem (inst : Fin 256) (demand : Bool) (s : State) : Res :=
  (s.demandItemTaken inst demand).done

/-- SAFETY_RESET_ITEM (R465). -/
def execSafetyResetItem (inst : Fin 256) (seq : BitVec 8) (s : State) : Res :=
  (s.resetItemTaken inst seq.toNat).done

/-- SAFETY_TELEGRAM_RECEIVE (R472): of a channel group of a remote unit. -/
def execSafetyTelegramReceive (unit : Fin 256) (group : Fin 16) (counter : BitVec 16) (crcOk : Bool)
    (values : List SafeValue) (s : State) : Res :=
  (s.telegram unit group counter.toNat crcOk values).done

/-- SAFETY_WATCHDOG_EXPIRY (R472): at SAF, or at the unit. -/
def execSafetyWatchdogExpiry (unit : Fin 256) (group : Fin 16) (atUnit : Bool) (s : State) : Res :=
  (s.telegramLost unit group atUnit).done

/-- PARAMETER_CRC_CHECK (R474). -/
def execParameterCrcCheck (s : State) : Res :=
  s.crcCheck.done

/-- The 60 s of a set whose entries are refused end (R480): the clock moves on to that instant. -/
def State.confirmAgain (s0 : State) (n : Nat) : State :=
  let s := if s0.saf.barred.contains n then s0.advance (SMap.get 0 n s0.saf.barredAt + 15000000000 - s0.clk) else s0
  { s with saf := { s.saf with barred := s.saf.barred.filter (· != n), wrong := SMap.set 0 n 0 s.saf.wrong } }

/-- CONFIRM_LOCKOUT_END (R480). -/
def execConfirmLockoutEnd (set : Fin 16) (s : State) : Res :=
  (s.confirmAgain set).done

/-- SAFE_AUTH is accepted again 15 min after the fifth wrong password (R481): the clock moves on to that instant. -/
def State.authAgain (s0 : State) : State :=
  let s := if s0.saf.authBarred then s0.advance (s0.saf.authAt + 225000000000 - s0.clk) else s0
  { s with saf := { s.saf with authWrong := 0, authBarred := false } }

/-- AUTH_LOCKOUT_END (R481). -/
def execAuthLockoutEnd (s : State) : Res :=
  s.authAgain.done

/-- EDM_EXERCISE_DUE (R483). -/
def execEdmExerciseDue (inst : Fin 256) (s : State) : Res :=
  (s.edmUnexercised inst).done

/-! ### Alarm manager -/

/-- ALARM_EVALUATION (R485). -/
def execAlarmEvaluation (s : State) : Res :=
  s.evalAlarms.done

/-- ALARM_ITEM (R485). -/
def execAlarmItem (alarm : Fin 2048) (present : Bool) (s : State) : Res :=
  (s.alarmItemTaken alarm present).done

/-- Where a command to an alarm comes from (R490): false the panel, true Pliuz. -/
def origin (pliuz : Bool) : Nat := if pliuz then 2 else 1

/-- ALARM_ACKNOWLEDGE (R490): from the panel or from Pliuz. -/
def execAlarmAcknowledge (alarm : Fin 2048) (pliuz : Bool) (s : State) : Res :=
  (s.alarmCommand ⟨alarm, acAck, origin pliuz, 0⟩).done

/-- ALARM_SILENCE (R490). -/
def execAlarmSilence (alarm : Fin 2048) (pliuz : Bool) (s : State) : Res :=
  (s.alarmCommand ⟨alarm, acSilence, origin pliuz, 0⟩).done

/-- ALARM_SHELVE (R490): for a number of minutes. -/
def execAlarmShelve (alarm : Fin 2048) (pliuz : Bool) (minutes : BitVec 16) (s : State) : Res :=
  (s.alarmCommand ⟨alarm, acShelve, origin pliuz, minutes.toNat⟩).done

/-- ALARM_UNSHELVE (R490). -/
def execAlarmUnshelve (alarm : Fin 2048) (pliuz : Bool) (s : State) : Res :=
  (s.alarmCommand ⟨alarm, acUnshelve, origin pliuz, 0⟩).done

/-- ACN_RECEIVE (R490, R492): acknowledge, silence, shelve, unshelve or a transfer of responsibility. -/
def execAcnReceive (ident : BitVec 32) (instance_ : BitVec 16) (command : Fin 5) (s : State) : Res :=
  (s.bridgeCommand ident instance_.toNat command).done

/-- SILENCE_EXPIRY (R488). -/
def execSilenceExpiry (alarm : Fin 2048) (s : State) : Res :=
  (s.silenceOver alarm).done

/-- SHELVE_EXPIRY (R488). -/
def execShelveExpiry (alarm : Fin 2048) (s : State) : Res :=
  (s.shelveOver alarm).done

/-- ESCALATION (R491). -/
def execEscalation (alarm : Fin 2048) (s : State) : Res :=
  (s.escalate alarm).done

/-- ALC_TIMER (R492). -/
def execAlcTimer (s : State) : Res :=
  s.alcDue.done

/-- HBT_TIMER (R492). -/
def execHbtTimer (s : State) : Res :=
  s.sendHbt.done

/-- FLOOD_LEAVE (R494). -/
def execFloodLeave (s : State) : Res :=
  s.leaveFlood.done

/-- HELD_ALF_RELEASE (R494). -/
def execHeldAlfRelease (s : State) : Res :=
  s.releaseHeld.done

/-- CHATTER_END (R495). -/
def execChatterEnd (alarm : Fin 2048) (s : State) : Res :=
  (s.chatterOver alarm).done

/-! ### Event recorder -/

/-- The register entries of definition `d` read in entry order, each by an access of its own (R57, R500). -/
def State.readEntries (s : State) (d : Nat) : State × List (Nat × Word) :=
  (upFrom 0 24).foldl (fun (x : State × List (Nat × Word)) i =>
    if (wBits (x.1.evRec d) 27 23 0).testBit i then
      let (s1, w) := x.1.readCore ((wAt (x.1.evRec d) (3 + i)).toNat - 0x40000000) 0 0
      (s1, x.2 ++ [(i, w)])
    else x) (s, [])

/-- A capture ends: its register entries are read, and its record is made. -/
def State.endCapture (s : State) (d : Nat) : State :=
  let (s1, regs) := s.readEntries d
  s1.captureDone d regs

/-- The definitions with a capture whose snapshot clock was at station time `t`, in ascending number. -/
def State.capturesAt (s : State) (t : Nat) : List Nat :=
  (upFrom 0 256).filter fun d => match (s.evDef d).capture with | some c => c.snap == t | none => false

/-- The capture of definition `d` ends; those of its snapshot clock with a lower number come before it (R501). -/
def State.captureEnd (s : State) (d : Nat) : State :=
  match (s.evDef d).capture with
  | some c => (((s.capturesAt c.snap).filter (· < d)).foldl State.endCapture s).endCapture d
  | none => s

/-- Before a message of station firmware that was made at station time `t`: the captures of that clock end (R501). -/
def State.capturesFirst (s : State) (t : Nat) : State := (s.capturesAt t).foldl State.endCapture s

/-- The oldest message of station firmware goes to EVR. -/
def State.firmwareRecord (s : State) : State :=
  match s.evr.inbox with
  | m :: _ => (s.capturesFirst m.time).takeFirmware
  | [] => s

/-- Station firmware's messages taken until those made at station time `t` have gone. -/
def State.firmwareFirst (t : Nat) : Nat → State → State
  | 0, s => s
  | n + 1, s => if s.evr.inbox.any (fun m => m.time == t) then State.firmwareFirst t n s.firmwareRecord else s

/-- The oldest message of queue `q` goes to EVR, after the trigger records and station firmware's of the clock in which it was enqueued
(R501). -/
def State.applicationRecord (s : State) (q : Nat) : State :=
  match s.front q with
  | some d =>
    if s.qConsumer q != 0x24 then s
    else
      let t := s.time - (lo32 s.time - s.msgTime d).toNat
      let s1 := s.capturesFirst t
      (State.firmwareFirst t s1.evr.inbox.length s1).takeApplication q
  | none => s

/-- TRIGGER_CAPTURE (R500). -/
def execTriggerCapture (definition : Fin 256) (s : State) : Res :=
  (s.captureEnd definition).done

/-- RECORD_MESSAGE (R501): the oldest message of station firmware, or of a queue whose consumer is EVR. -/
def execRecordMessage (queue : Option (Fin 8192)) (s : State) : Res :=
  (match queue with | none => s.firmwareRecord | some q => s.applicationRecord q).done

/-- STAGING_WRITE (R498). -/
def execStagingWrite (s : State) : Res :=
  s.drainStaging.done

/-- FREEZE_TIMEOUT (R504). -/
def execFreezeTimeout (s : State) : Res :=
  s.freezeTimeout.done

end Sys2Proof.Machine
end

