-- ==== Sys2Proof/Machine/Dispatch.lean ====
section
/-! DEFINITION. One arm for each command: the meaning it has. -/

namespace Sys2Proof.Machine

/-- The effect of a command on everything but the queue. -/
def exec (i : Instr) (s : State) : Host.Outcome State Fault Refusal :=
  match i with
  | .tradeCycleBoundary => Sys2Proof.Machine.execTradeCycleBoundary s
  | .tick250us => Sys2Proof.Machine.execTick250us s
  | .windowStart lane entry => Sys2Proof.Machine.execWindowStart lane entry s
  | .activationStart lane => Sys2Proof.Machine.execActivationStart lane s
  | .windowEnd lane => Sys2Proof.Machine.execWindowEnd lane s
  | .activationResume lane => Sys2Proof.Machine.execActivationResume lane s
  | .budgetExhausted lane => Sys2Proof.Machine.execBudgetExhausted lane s
  | .mapCopyComplete task => Sys2Proof.Machine.execMapCopyComplete task s
  | .addi lane d a imm => Sys2Proof.Machine.execAddi lane d a imm s
  | .andi lane d a imm => Sys2Proof.Machine.execAndi lane d a imm s
  | .ori lane d a imm => Sys2Proof.Machine.execOri lane d a imm s
  | .xori lane d a imm => Sys2Proof.Machine.execXori lane d a imm s
  | .lit lane d literal => Sys2Proof.Machine.execLit lane d literal s
  | .ld lane d base a t off => Sys2Proof.Machine.execLd lane d base a t off s
  | .st lane d base a t off => Sys2Proof.Machine.execSt lane d base a t off s
  | .lea lane d base a t off => Sys2Proof.Machine.execLea lane d base a t off s
  | .chk lane a b => Sys2Proof.Machine.execChk lane a b s
  | .time lane d => Sys2Proof.Machine.execTime lane d s
  | .br lane disp => Sys2Proof.Machine.execBr lane disp s
  | .bz lane a disp => Sys2Proof.Machine.execBz lane a disp s
  | .bnz lane a disp => Sys2Proof.Machine.execBnz lane a disp s
  | .jt lane a n => Sys2Proof.Machine.execJt lane a n s
  | .call lane disp => Sys2Proof.Machine.execCall lane disp s
  | .callfb lane a disp => Sys2Proof.Machine.execCallfb lane a disp s
  | .ret lane => Sys2Proof.Machine.execRet lane s
  | .enter lane imm => Sys2Proof.Machine.execEnter lane imm s
  | .trap lane imm => Sys2Proof.Machine.execTrap lane imm s
  | .brk lane => Sys2Proof.Machine.execBrk lane s
  | .nop lane => Sys2Proof.Machine.execNop lane s
  | .add lane d a b t => Sys2Proof.Machine.execAdd lane d a b t s
  | .sub lane d a b t => Sys2Proof.Machine.execSub lane d a b t s
  | .mul lane d a b t => Sys2Proof.Machine.execMul lane d a b t s
  | .div lane d a b t => Sys2Proof.Machine.execDiv lane d a b t s
  | .mod lane d a b t => Sys2Proof.Machine.execMod lane d a b t s
  | .adds lane d a b t => Sys2Proof.Machine.execAdds lane d a b t s
  | .subs lane d a b t => Sys2Proof.Machine.execSubs lane d a b t s
  | .muls lane d a b t => Sys2Proof.Machine.execMuls lane d a b t s
  | .and lane d a b t => Sys2Proof.Machine.execAnd lane d a b t s
  | .or lane d a b t => Sys2Proof.Machine.execOr lane d a b t s
  | .xor lane d a b t => Sys2Proof.Machine.execXor lane d a b t s
  | .not lane d a t => Sys2Proof.Machine.execNot lane d a t s
  | .shl lane d a b t => Sys2Proof.Machine.execShl lane d a b t s
  | .shr lane d a b t => Sys2Proof.Machine.execShr lane d a b t s
  | .rol lane d a b t => Sys2Proof.Machine.execRol lane d a b t s
  | .ror lane d a b t => Sys2Proof.Machine.execRor lane d a b t s
  | .eq lane d a b t => Sys2Proof.Machine.execEq lane d a b t s
  | .ne lane d a b t => Sys2Proof.Machine.execNe lane d a b t s
  | .lt lane d a b t => Sys2Proof.Machine.execLt lane d a b t s
  | .le lane d a b t => Sys2Proof.Machine.execLe lane d a b t s
  | .gt lane d a b t => Sys2Proof.Machine.execGt lane d a b t s
  | .ge lane d a b t => Sys2Proof.Machine.execGe lane d a b t s
  | .min lane d a b t => Sys2Proof.Machine.execMin lane d a b t s
  | .max lane d a b t => Sys2Proof.Machine.execMax lane d a b t s
  | .abs lane d a t => Sys2Proof.Machine.execAbs lane d a t s
  | .neg lane d a t => Sys2Proof.Machine.execNeg lane d a t s
  | .ext lane d a t => Sys2Proof.Machine.execExt lane d a t s
  | .exts lane d a t => Sys2Proof.Machine.execExts lane d a t s
  | .sel lane d a b t => Sys2Proof.Machine.execSel lane d a b t s
  | .fadd lane d a b t => Sys2Proof.Machine.execFadd lane d a b t s
  | .fsub lane d a b t => Sys2Proof.Machine.execFsub lane d a b t s
  | .fmul lane d a b t => Sys2Proof.Machine.execFmul lane d a b t s
  | .fdiv lane d a b t => Sys2Proof.Machine.execFdiv lane d a b t s
  | .fsqrt lane d a t => Sys2Proof.Machine.execFsqrt lane d a t s
  | .fabs lane d a t => Sys2Proof.Machine.execFabs lane d a t s
  | .fneg lane d a t => Sys2Proof.Machine.execFneg lane d a t s
  | .fmin lane d a b t => Sys2Proof.Machine.execFmin lane d a b t s
  | .fmax lane d a b t => Sys2Proof.Machine.execFmax lane d a b t s
  | .fmac lane d a b t => Sys2Proof.Machine.execFmac lane d a b t s
  | .feq lane d a b t => Sys2Proof.Machine.execFeq lane d a b t s
  | .flt lane d a b t => Sys2Proof.Machine.execFlt lane d a b t s
  | .fle lane d a b t => Sys2Proof.Machine.execFle lane d a b t s
  | .fun lane d a b t => Sys2Proof.Machine.execFun lane d a b t s
  | .f2i lane d a t => Sys2Proof.Machine.execF2i lane d a t s
  | .f2it lane d a t => Sys2Proof.Machine.execF2it lane d a t s
  | .i2f lane d a t => Sys2Proof.Machine.execI2f lane d a t s
  | .u2f lane d a t => Sys2Proof.Machine.execU2f lane d a t s
  | .fwid lane d a t => Sys2Proof.Machine.execFwid lane d a t s
  | .fclass lane d a t => Sys2Proof.Machine.execFclass lane d a t s
  | .registerWrite reg value => Sys2Proof.Machine.execRegisterWrite reg value s
  | .rcRead reg => Sys2Proof.Machine.execRcRead reg s
  | .slowAccessDone master => Sys2Proof.Machine.execSlowAccessDone master s
  | .slowAccessTimeout master => Sys2Proof.Machine.execSlowAccessTimeout master s
  | .sysRst word => Sys2Proof.Machine.execSysRst word s
  | .sysModeSet word => Sys2Proof.Machine.execSysModeSet word s
  | .prtLockSet => Sys2Proof.Machine.execPrtLockSet s
  | .mbxReqHeadWrite mbx writer head => Sys2Proof.Machine.execMbxReqHeadWrite mbx writer head s
  | .mbxRspTailWrite mbx writer tail => Sys2Proof.Machine.execMbxRspTailWrite mbx writer tail s
  | .qeAllocreq kind part => Sys2Proof.Machine.execQeAllocreq kind part s
  | .qeFreebuf handle => Sys2Proof.Machine.execQeFreebuf handle s
  | .qeEnq desc => Sys2Proof.Machine.execQeEnq desc s
  | .qeDeqreq queue => Sys2Proof.Machine.execQeDeqreq queue s
  | .fioKick word => Sys2Proof.Machine.execFioKick word s
  | .redHbkick word => Sys2Proof.Machine.execRedHbkick word s
  | .claimDrop key => Sys2Proof.Machine.execClaimDrop key s
  | .claimRaise key => Sys2Proof.Machine.execClaimRaise key s
  | .lksInject pair word => Sys2Proof.Machine.execLksInject pair word s
  | .debugAttach lane => Sys2Proof.Machine.execDebugAttach lane s
  | .debugDetach => Sys2Proof.Machine.execDebugDetach s
  | .debugHalt => Sys2Proof.Machine.execDebugHalt s
  | .debugResume => Sys2Proof.Machine.execDebugResume s
  | .debugStep steps => Sys2Proof.Machine.execDebugStep steps s
  | .debugRegWrite reg half value => Sys2Proof.Machine.execDebugRegWrite reg half value s
  | .debugMemAccess addr value => Sys2Proof.Machine.execDebugMemAccess addr value s
  | .safPdataWrite value => Sys2Proof.Machine.execSafPdataWrite value s
  | .safTest word => Sys2Proof.Machine.execSafTest word s
  | .ageOpset word => Sys2Proof.Machine.execAgeOpset word s
  | .pnlPumpToggle => Sys2Proof.Machine.execPnlPumpToggle s
  | .pnlWeardataRead => Sys2Proof.Machine.execPnlWeardataRead s
  | .mailboxRound => Sys2Proof.Machine.execMailboxRound s
  | .sessionTimeout session => Sys2Proof.Machine.execSessionTimeout session s
  | .modeReq mbx tag target => Sys2Proof.Machine.execModeReq mbx tag target s
  | .cfgOpen mbx tag scope => Sys2Proof.Machine.execCfgOpen mbx tag scope s
  | .cfgWrite mbx tag session typeIndex rec_ => Sys2Proof.Machine.execCfgWrite mbx tag session typeIndex rec_ s
  | .cfgCommit mbx tag session => Sys2Proof.Machine.execCfgCommit mbx tag session s
  | .cfgAbort mbx tag session => Sys2Proof.Machine.execCfgAbort mbx tag session s
  | .cfgRead mbx tag typeIndex offset => Sys2Proof.Machine.execCfgRead mbx tag typeIndex offset s
  | .evmRoute mbx tag session route => Sys2Proof.Machine.execEvmRoute mbx tag session route s
  | .force mbx tag addr value => Sys2Proof.Machine.execForce mbx tag addr value s
  | .forceRelease mbx tag addr value => Sys2Proof.Machine.execForceRelease mbx tag addr value s
  | .keyEnrol mbx tag key => Sys2Proof.Machine.execKeyEnrol mbx tag key s
  | .taskDeclare mbx tag session decl => Sys2Proof.Machine.execTaskDeclare mbx tag session decl s
  | .taskPin mbx tag session task pin => Sys2Proof.Machine.execTaskPin mbx tag session task pin s
  | .placeRun mbx tag session => Sys2Proof.Machine.execPlaceRun mbx tag session s
  | .placeReport mbx tag report offset => Sys2Proof.Machine.execPlaceReport mbx tag report offset s
  | .budgetSet mbx tag session part task us quota => Sys2Proof.Machine.execBudgetSet mbx tag session part task us quota s
  | .veerReq mbx tag => Sys2Proof.Machine.execVeerReq mbx tag s
  | .redStatus mbx tag => Sys2Proof.Machine.execRedStatus mbx tag s
  | .checkpoint mbx tag task => Sys2Proof.Machine.execCheckpoint mbx tag task s
  | .safeLoad mbx tag session set offset params => Sys2Proof.Machine.execSafeLoad mbx tag session set offset params s
  | .safeCheck mbx tag set => Sys2Proof.Machine.execSafeCheck mbx tag set s
  | .safeConfirm mbx tag set value => Sys2Proof.Machine.execSafeConfirm mbx tag set value s
  | .safeAuth mbx tag set password => Sys2Proof.Machine.execSafeAuth mbx tag set password s
  | .evrRead mbx tag index => Sys2Proof.Machine.execEvrRead mbx tag index s
  | .evrFreeze mbx tag => Sys2Proof.Machine.execEvrFreeze mbx tag s
  | .evrRelease mbx tag => Sys2Proof.Machine.execEvrRelease mbx tag s
  | .timeStatus mbx tag => Sys2Proof.Machine.execTimeStatus mbx tag s
  | .timeStep mbx tag hi lo => Sys2Proof.Machine.execTimeStep mbx tag hi lo s
  | .diagStatus mbx tag => Sys2Proof.Machine.execDiagStatus mbx tag s
  | .reset mbx tag key => Sys2Proof.Machine.execReset mbx tag key s
  | .counterRead mbx tag first count => Sys2Proof.Machine.execCounterRead mbx tag first count s
  | .notifySet mbx tag mask => Sys2Proof.Machine.execNotifySet mbx tag mask s
  | .echo mbx tag payload => Sys2Proof.Machine.execEcho mbx tag payload s
  | .imgOpen mbx tag type slot size => Sys2Proof.Machine.execImgOpen mbx tag type slot size s
  | .imgWrite mbx tag session offset data => Sys2Proof.Machine.execImgWrite mbx tag session offset data s
  | .imgClose mbx tag session => Sys2Proof.Machine.execImgClose mbx tag session s
  | .imgSelect mbx tag type slot => Sys2Proof.Machine.execImgSelect mbx tag type slot s
  | .onlineChange mbx tag session => Sys2Proof.Machine.execOnlineChange mbx tag session s
  | .imageCheckDone session ok partnerOk body => Sys2Proof.Machine.execImageCheckDone session ok partnerOk body s
  | .changeLogArchive tag session last => Sys2Proof.Machine.execChangeLogArchive tag session last s
  | .prepareAckTimeout tag => Sys2Proof.Machine.execPrepareAckTimeout tag s
  | .prepareDropTimeout tag => Sys2Proof.Machine.execPrepareDropTimeout tag s
  | .powerOn => Sys2Proof.Machine.execPowerOn s
  | .supplyLoss more => Sys2Proof.Machine.execSupplyLoss more s
  | .holdupExpiry => Sys2Proof.Machine.execHoldupExpiry s
  | .logicInputChange input present => Sys2Proof.Machine.execLogicInputChange input present s
  | .mgmtWatchdogExpiry => Sys2Proof.Machine.execMgmtWatchdogExpiry s
  | .mgmtLockstepFail => Sys2Proof.Machine.execMgmtLockstepFail s
  | .overTempReset temp => Sys2Proof.Machine.execOverTempReset temp s
  | .fatalEccReset unit => Sys2Proof.Machine.execFatalEccReset unit s
  | .resetRelease failed bootB fwB => Sys2Proof.Machine.execResetRelease failed bootB fwB s
  | .bootComplete answer => Sys2Proof.Machine.execBootComplete answer s
  | .partnerPoll answer => Sys2Proof.Machine.execPartnerPoll answer s
  | .witnessAbsentTimeout => Sys2Proof.Machine.execWitnessAbsentTimeout s
  | .commissionConfirmTimeout => Sys2Proof.Machine.execCommissionConfirmTimeout s
  | .planReadyCheck => Sys2Proof.Machine.execPlanReadyCheck s
  | .placementDone => Sys2Proof.Machine.execPlacementDone s
  | .instanceMoveDone task => Sys2Proof.Machine.execInstanceMoveDone task s
  | .dramCreditWindow => Sys2Proof.Machine.execDramCreditWindow s
  | .compareMismatch lane kind => Sys2Proof.Machine.execCompareMismatch lane kind s
  | .agreementBufferFree lane => Sys2Proof.Machine.execAgreementBufferFree lane s
  | .heartbeatSend => Sys2Proof.Machine.execHeartbeatSend s
  | .heartbeatReceive seq mode claim cycles ack timeLow trip => Sys2Proof.Machine.execHeartbeatReceive seq mode claim cycles ack timeLow trip s
  | .heartbeatMissed => Sys2Proof.Machine.execHeartbeatMissed s
  | .heartbeatWatchdogExpiry => Sys2Proof.Machine.execHeartbeatWatchdogExpiry s
  | .linkLaneChange lane up => Sys2Proof.Machine.execLinkLaneChange lane up s
  | .linkCrcBurst n => Sys2Proof.Machine.execLinkCrcBurst n s
  | .forwardItemReceive seq kind ws => Sys2Proof.Machine.execForwardItemReceive seq kind ws s
  | .forwardAckReceive seq => Sys2Proof.Machine.execForwardAckReceive seq s
  | .completionMarker seq lane task number sigLo sigHi => Sys2Proof.Machine.execCompletionMarker seq lane task number sigLo sigHi s
  | .leewardLagExceeded => Sys2Proof.Machine.execLeewardLagExceeded s
  | .witnessAskRetry => Sys2Proof.Machine.execWitnessAskRetry s
  | .witnessGrantTimeout => Sys2Proof.Machine.execWitnessGrantTimeout s
  | .witAsk ok station requester claim cause stamp => Sys2Proof.Machine.execWitAsk ok station requester claim cause stamp s
  | .witProbe ok witness station number => Sys2Proof.Machine.execWitProbe ok witness station number s
  | .witProbeReply ok station number claim mode => Sys2Proof.Machine.execWitProbeReply ok station number claim mode s
  | .probeWindowExpiry station => Sys2Proof.Machine.execProbeWindowExpiry station s
  | .witGrant ok station claim tag => Sys2Proof.Machine.execWitGrant ok station claim tag s
  | .witRefuse ok witness station reason highest => Sys2Proof.Machine.execWitRefuse ok witness station reason highest s
  | .witClaimed ok node station claim kind => Sys2Proof.Machine.execWitClaimed ok node station claim kind s
  | .witStatus ok node station claim mode => Sys2Proof.Machine.execWitStatus ok node station claim mode s
  | .witStatusTimer primary secondary => Sys2Proof.Machine.execWitStatusTimer primary secondary s
  | .witDemote ok station claim => Sys2Proof.Machine.execWitDemote ok station claim s
  | .pairPrepare tag stages => Sys2Proof.Machine.execPairPrepare tag stages s
  | .pairAck tag => Sys2Proof.Machine.execPairAck tag s
  | .pairNack tag detail => Sys2Proof.Machine.execPairNack tag detail s
  | .pairFallback index boundary => Sys2Proof.Machine.execPairFallback index boundary s
  | .pairFailmark lane count => Sys2Proof.Machine.execPairFailmark lane count s
  | .pairFailrep pair => Sys2Proof.Machine.execPairFailrep pair s
  | .pairYield claim cause => Sys2Proof.Machine.execPairYield claim cause s
  | .pairVeer phase boundary => Sys2Proof.Machine.execPairVeer phase boundary s
  | .commandedVeerTimeout => Sys2Proof.Machine.execCommandedVeerTimeout s
  | .formerWindwardStandby => Sys2Proof.Machine.execFormerWindwardStandby s
  | .pairResync phase d1 d2 d3 => Sys2Proof.Machine.execPairResync phase d1 d2 d3 s
  | .resyncPhaseComplete bytes data => Sys2Proof.Machine.execResyncPhaseComplete bytes data s
  | .resyncTimeout => Sys2Proof.Machine.execResyncTimeout s
  | .claimFrameReceive unit mine frame => Sys2Proof.Machine.execClaimFrameReceive unit mine frame s
  | .stageTurnOn unit => Sys2Proof.Machine.execStageTurnOn unit s
  | .claimResetWindowEnd => Sys2Proof.Machine.execClaimResetWindowEnd s
  | .checkpointCopyDone task => Sys2Proof.Machine.execCheckpointCopyDone task s
  | .presSOpen => Sys2Proof.Machine.execPresSOpen s
  | .presSClose => Sys2Proof.Machine.execPresSClose s
  | .insertionDebounce => Sys2Proof.Machine.execInsertionDebounce s
  | .groupRequest queue => Sys2Proof.Machine.execGroupRequest queue s
  | .ringCycleStart ring => Sys2Proof.Machine.execRingCycleStart ring s
  | .groupPartAnswer group part reason => Sys2Proof.Machine.execGroupPartAnswer group part reason s
  | .groupPrepareDeadline group => Sys2Proof.Machine.execGroupPrepareDeadline group s
  | .groupPartReport group part reason => Sys2Proof.Machine.execGroupPartReport group part reason s
  | .groupReportWindowEnd group => Sys2Proof.Machine.execGroupReportWindowEnd group s
  | .groupOutcomeEnqueue queue => Sys2Proof.Machine.execGroupOutcomeEnqueue queue s
  | .unitPreparationExpiry unit => Sys2Proof.Machine.execUnitPreparationExpiry unit s
  | .loopTrigger slot => Sys2Proof.Machine.execLoopTrigger slot s
  | .loopRunDispatch => Sys2Proof.Machine.execLoopRunDispatch s
  | .loopRunOutput lane => Sys2Proof.Machine.execLoopRunOutput lane s
  | .injectionJob queue => Sys2Proof.Machine.execInjectionJob queue s
  | .captureDeliveryRetry buffer => Sys2Proof.Machine.execCaptureDeliveryRetry buffer s
  | .captureDeliveryAbandon buffer => Sys2Proof.Machine.execCaptureDeliveryAbandon buffer s
  | .pgUpdate gen => Sys2Proof.Machine.execPgUpdate gen s
  | .pgMove gen seq target => Sys2Proof.Machine.execPgMove gen seq target s
  | .pgVelocity gen seq target => Sys2Proof.Machine.execPgVelocity gen seq target s
  | .pgStop gen seq => Sys2Proof.Machine.execPgStop gen seq s
  | .pgHome gen seq => Sys2Proof.Machine.execPgHome gen seq s
  | .pgClear gen seq => Sys2Proof.Machine.execPgClear gen seq s
  | .limitSwitchEdge gen which level => Sys2Proof.Machine.execLimitSwitchEdge gen which level s
  | .domainDelivery domain age delivery => Sys2Proof.Machine.execDomainDelivery domain age delivery s
  | .missingEdge domain => Sys2Proof.Machine.execMissingEdge domain s
  | .encoderIdleTimeout domain => Sys2Proof.Machine.execEncoderIdleTimeout domain s
  | .coastLimit domain => Sys2Proof.Machine.execCoastLimit domain s
  | .actionFire slot off => Sys2Proof.Machine.execActionFire slot off s
  | .revBoundary domain => Sys2Proof.Machine.execRevBoundary domain s
  | .actionArm slot arm => Sys2Proof.Machine.execActionArm slot arm s
  | .phasorCycleEnd triple age volts currents => Sys2Proof.Machine.execPhasorCycleEnd triple age volts currents s
  | .syncArm channel seq breaker deadBus => Sys2Proof.Machine.execSyncArm channel seq breaker deadBus s
  | .syncDisarm channel seq => Sys2Proof.Machine.execSyncDisarm channel seq s
  | .closureDetected channel age => Sys2Proof.Machine.execClosureDetected channel age s
  | .closureTimeout channel => Sys2Proof.Machine.execClosureTimeout channel s
  | .closePulseEnd channel => Sys2Proof.Machine.execClosePulseEnd channel s
  | .syncArmTimeout channel => Sys2Proof.Machine.execSyncArmTimeout channel s
  | .gustEvaluation => Sys2Proof.Machine.execGustEvaluation s
  | .gustRequest slot seq => Sys2Proof.Machine.execGustRequest slot seq s
  | .gustWithdraw slot seq => Sys2Proof.Machine.execGustWithdraw slot seq s
  | .blackoutEntry => Sys2Proof.Machine.execBlackoutEntry s
  | .liveTimeRestart => Sys2Proof.Machine.execLiveTimeRestart s
  | .restartStepDelay => Sys2Proof.Machine.execRestartStepDelay s
  | .restartStepTimeout => Sys2Proof.Machine.execRestartStepTimeout s
  | .ptpSyncMeasurement port offset delay => Sys2Proof.Machine.execPtpSyncMeasurement port offset delay s
  | .ptpAnnounce port clock => Sys2Proof.Machine.execPtpAnnounce port clock s
  | .referenceLoss => Sys2Proof.Machine.execReferenceLoss s
  | .lockAchieved => Sys2Proof.Machine.execLockAchieved s
  | .ppsOutputEdge => Sys2Proof.Machine.execPpsOutputEdge s
  | .ppsInputEdge age => Sys2Proof.Machine.execPpsInputEdge age s
  | .compareArm compare target seq => Sys2Proof.Machine.execCompareArm compare target seq s
  | .compareDisarm compare seq => Sys2Proof.Machine.execCompareDisarm compare seq s
  | .compareFire compare => Sys2Proof.Machine.execCompareFire compare s
  | .periodicCompareFire compare => Sys2Proof.Machine.execPeriodicCompareFire compare s
  | .barrierFrameSend => Sys2Proof.Machine.execBarrierFrameSend s
  | .barrierFrameReceive unit field octets readings => Sys2Proof.Machine.execBarrierFrameReceive unit field octets readings s
  | .linkDown unit field => Sys2Proof.Machine.execLinkDown unit field s
  | .fioWatchdogExpiry => Sys2Proof.Machine.execFioWatchdogExpiry s
  | .silenceTimeout unit => Sys2Proof.Machine.execSilenceTimeout unit s
  | .fieldSupplyChange supply mv => Sys2Proof.Machine.execFieldSupplyChange supply mv s
  | .diSample bank inputs => Sys2Proof.Machine.execDiSample bank inputs s
  | .doOverloadLatch bank channel hot => Sys2Proof.Machine.execDoOverloadLatch bank channel hot s
  | .doMismatch bank channel readback => Sys2Proof.Machine.execDoMismatch bank channel readback s
  | .doOpenLoad bank channel open_ => Sys2Proof.Machine.execDoOpenLoad bank channel open_ s
  | .gustSwitchOnRelease bank => Sys2Proof.Machine.execGustSwitchOnRelease bank s
  | .faultResetItem unit channel seq cool => Sys2Proof.Machine.execFaultResetItem unit channel seq cool s
  | .pwmPeriod channel current cut early => Sys2Proof.Machine.execPwmPeriod channel current cut early s
  | .shootThrough channel => Sys2Proof.Machine.execShootThrough channel s
  | .hbridgeOpenCoil channel => Sys2Proof.Machine.execHbridgeOpenCoil channel s
  | .stageThermalLatch channel => Sys2Proof.Machine.execStageThermalLatch channel s
  | .staggerRelease channel => Sys2Proof.Machine.execStaggerRelease channel s
  | .encoderCount encoder a b age => Sys2Proof.Machine.execEncoderCount encoder a b age s
  | .encoderIndex encoder age => Sys2Proof.Machine.execEncoderIndex encoder age s
  | .encoderLineFault encoder fault => Sys2Proof.Machine.execEncoderLineFault encoder fault s
  | .pickupPulse pickup age => Sys2Proof.Machine.execPickupPulse pickup age s
  | .coilCheck pickup ohm => Sys2Proof.Machine.execCoilCheck pickup ohm s
  | .converterStart converter => Sys2Proof.Machine.execConverterStart converter s
  | .filterOutput converter current supply limited => Sys2Proof.Machine.execFilterOutput converter current supply limited s
  | .aoStaggerRelease channel => Sys2Proof.Machine.execAoStaggerRelease channel s
  | .complianceAdjust channel mv => Sys2Proof.Machine.execComplianceAdjust channel mv s
  | .aoReadback channel current => Sys2Proof.Machine.execAoReadback channel current s
  | .aoThermal channel temp => Sys2Proof.Machine.execAoThermal channel temp s
  | .ringCycleEnd ring report => Sys2Proof.Machine.execRingCycleEnd ring report s
  | .unitFrameProcess unit other => Sys2Proof.Machine.execUnitFrameProcess unit other s
  | .unitApplyInstant unit => Sys2Proof.Machine.execUnitApplyInstant unit s
  | .unitLinkDown unit sideB => Sys2Proof.Machine.execUnitLinkDown unit sideB s
  | .ringRestore ring position => Sys2Proof.Machine.execRingRestore ring position s
  | .unitMissedCycles unit => Sys2Proof.Machine.execUnitMissedCycles unit s
  | .discovery ring reports bytes hopNs => Sys2Proof.Machine.execDiscovery ring reports bytes hopNs s
  | .foreignFrame ring claim even => Sys2Proof.Machine.execForeignFrame ring claim even s
  | .unitSilenceTimeout unit => Sys2Proof.Machine.execUnitSilenceTimeout unit s
  | .rioServiceMessage queue reply => Sys2Proof.Machine.execRioServiceMessage queue reply s
  | .groupPulseEnd point => Sys2Proof.Machine.execGroupPulseEnd point s
  | .safetyEvaluation => Sys2Proof.Machine.execSafetyEvaluation s
  | .safetyInputSample a b darkA darkB => Sys2Proof.Machine.execSafetyInputSample a b darkA darkB s
  | .testSourcePulse closed never => Sys2Proof.Machine.execTestSourcePulse closed never s
  | .discrepancyTimeout input => Sys2Proof.Machine.execDiscrepancyTimeout input s
  | .stoTestPulse output switchB inPulse outside => Sys2Proof.Machine.execStoTestPulse output switchB inPulse outside s
  | .safetyDemandItem inst demand => Sys2Proof.Machine.execSafetyDemandItem inst demand s
  | .safetyResetItem inst seq => Sys2Proof.Machine.execSafetyResetItem inst seq s
  | .safetyTelegramReceive unit group counter crcOk values => Sys2Proof.Machine.execSafetyTelegramReceive unit group counter crcOk values s
  | .safetyWatchdogExpiry unit group atUnit => Sys2Proof.Machine.execSafetyWatchdogExpiry unit group atUnit s
  | .parameterCrcCheck => Sys2Proof.Machine.execParameterCrcCheck s
  | .confirmLockoutEnd set => Sys2Proof.Machine.execConfirmLockoutEnd set s
  | .authLockoutEnd => Sys2Proof.Machine.execAuthLockoutEnd s
  | .edmExerciseDue inst => Sys2Proof.Machine.execEdmExerciseDue inst s
  | .alarmEvaluation => Sys2Proof.Machine.execAlarmEvaluation s
  | .alarmItem alarm present => Sys2Proof.Machine.execAlarmItem alarm present s
  | .alarmAcknowledge alarm pliuz => Sys2Proof.Machine.execAlarmAcknowledge alarm pliuz s
  | .alarmSilence alarm pliuz => Sys2Proof.Machine.execAlarmSilence alarm pliuz s
  | .alarmShelve alarm pliuz minutes => Sys2Proof.Machine.execAlarmShelve alarm pliuz minutes s
  | .alarmUnshelve alarm pliuz => Sys2Proof.Machine.execAlarmUnshelve alarm pliuz s
  | .acnReceive ident instance_ command => Sys2Proof.Machine.execAcnReceive ident instance_ command s
  | .silenceExpiry alarm => Sys2Proof.Machine.execSilenceExpiry alarm s
  | .shelveExpiry alarm => Sys2Proof.Machine.execShelveExpiry alarm s
  | .escalation alarm => Sys2Proof.Machine.execEscalation alarm s
  | .alcTimer => Sys2Proof.Machine.execAlcTimer s
  | .hbtTimer => Sys2Proof.Machine.execHbtTimer s
  | .floodLeave => Sys2Proof.Machine.execFloodLeave s
  | .heldAlfRelease => Sys2Proof.Machine.execHeldAlfRelease s
  | .chatterEnd alarm => Sys2Proof.Machine.execChatterEnd alarm s
  | .triggerCapture definition => Sys2Proof.Machine.execTriggerCapture definition s
  | .recordMessage queue => Sys2Proof.Machine.execRecordMessage queue s
  | .stagingWrite => Sys2Proof.Machine.execStagingWrite s
  | .freezeTimeout => Sys2Proof.Machine.execFreezeTimeout s
  | .serviceFrameReceive port service addr bytes ok tag => Sys2Proof.Machine.execServiceFrameReceive port service addr bytes ok tag s
  | .serviceFrameSend serial service => Sys2Proof.Machine.execServiceFrameSend serial service s
  | .prpSupervision heardA heardB => Sys2Proof.Machine.execPrpSupervision heardA heardB s
  | .sentence450Receive port service addr bytes ok tag => Sys2Proof.Machine.execSentence450Receive port service addr bytes ok tag s
  | .modbusConnect port connection opened => Sys2Proof.Machine.execModbusConnect port connection opened s
  | .modbusReadCoils from_ addr count => Sys2Proof.Machine.execModbusReadCoils from_ addr count s
  | .modbusReadDiscreteInputs from_ addr count => Sys2Proof.Machine.execModbusReadDiscreteInputs from_ addr count s
  | .modbusReadHoldingRegisters from_ addr count => Sys2Proof.Machine.execModbusReadHoldingRegisters from_ addr count s
  | .modbusReadInputRegisters from_ addr count => Sys2Proof.Machine.execModbusReadInputRegisters from_ addr count s
  | .modbusWriteSingleCoil from_ addr on => Sys2Proof.Machine.execModbusWriteSingleCoil from_ addr on s
  | .modbusWriteSingleRegister from_ addr value => Sys2Proof.Machine.execModbusWriteSingleRegister from_ addr value s
  | .modbusWriteMultipleCoils from_ addr values => Sys2Proof.Machine.execModbusWriteMultipleCoils from_ addr values s
  | .modbusWriteMultipleRegisters from_ addr values => Sys2Proof.Machine.execModbusWriteMultipleRegisters from_ addr values s
  | .modbusReadWriteRegisters from_ readAddr readCount writeAddr values => Sys2Proof.Machine.execModbusReadWriteRegisters from_ readAddr readCount writeAddr values s
  | .modbusClientRequest serial service => Sys2Proof.Machine.execModbusClientRequest serial service s
  | .modbusResponse serial service port bytes ok => Sys2Proof.Machine.execModbusResponse serial service port bytes ok s
  | .modbusResponseTimeout serial service => Sys2Proof.Machine.execModbusResponseTimeout serial service s
  | .classicPublishPeriod service => Sys2Proof.Machine.execClassicPublishPeriod service s
  | .classicBlockReceive port service addr header bytes => Sys2Proof.Machine.execClassicBlockReceive port service addr header bytes s
  | .classicSubscribeTimeout service => Sys2Proof.Machine.execClassicSubscribeTimeout service s
  | .gustNetworkRequest port block => Sys2Proof.Machine.execGustNetworkRequest port block s
  | .grantBlockSend slot => Sys2Proof.Machine.execGrantBlockSend slot s
  | .serialSentenceReceive port bytes check zda => Sys2Proof.Machine.execSerialSentenceReceive port bytes check zda s
  | .pliuzConnect opened addr port hello => Sys2Proof.Machine.execPliuzConnect opened addr port hello s
  | .pliuzIdleTimeout => Sys2Proof.Machine.execPliuzIdleTimeout s
  | .canFrameReceive port frame => Sys2Proof.Machine.execCanFrameReceive port frame s
  | .canBufferLoad port buffer => Sys2Proof.Machine.execCanBufferLoad port buffer s
  | .canArbitrationOffer port => Sys2Proof.Machine.execCanArbitrationOffer port s
  | .canFrameOutcome port buffer result ack age tdc => Sys2Proof.Machine.execCanFrameOutcome port buffer result ack age tdc s
  | .canTransmitTimeout port buffer => Sys2Proof.Machine.execCanTransmitTimeout port buffer s
  | .canBusOff port => Sys2Proof.Machine.execCanBusOff port s
  | .canRecoveryStart port => Sys2Proof.Machine.execCanRecoveryStart port s
  | .canRecoveryComplete port => Sys2Proof.Machine.execCanRecoveryComplete port s
  | .canProtocolException port => Sys2Proof.Machine.execCanProtocolException port s
  | .canDetectionDwell port => Sys2Proof.Machine.execCanDetectionDwell port s
  | .canReferenceInstant port => Sys2Proof.Machine.execCanReferenceInstant port s
  | .canReferenceLate port => Sys2Proof.Machine.execCanReferenceLate port s
  | .frameBoundary image => Sys2Proof.Machine.execFrameBoundary image s
  | .pumpFault => Sys2Proof.Machine.execPumpFault s
  | .pumpRestart => Sys2Proof.Machine.execPumpRestart s
  | .keyPress keys alarm removal => Sys2Proof.Machine.execKeyPress keys alarm removal s
  | .keyRepeat up => Sys2Proof.Machine.execKeyRepeat up s
  | .chordPanelReset => Sys2Proof.Machine.execChordPanelReset s
  | .chordWitnessOverride => Sys2Proof.Machine.execChordWitnessOverride s
  | .startModeOverride => Sys2Proof.Machine.execStartModeOverride s
  | .sliderTouch touched pos width => Sys2Proof.Machine.execSliderTouch touched pos width s
  | .dimTimeout => Sys2Proof.Machine.execDimTimeout s
  | .pixelShift => Sys2Proof.Machine.execPixelShift s
  | .wearHourlyRead => Sys2Proof.Machine.execWearHourlyRead s
  | .wearGainUpdate gains => Sys2Proof.Machine.execWearGainUpdate gains s
  | .usbAttach flip => Sys2Proof.Machine.execUsbAttach flip s
  | .usbDetach => Sys2Proof.Machine.execUsbDetach s
  | .selftestImageReady ok => Sys2Proof.Machine.execSelftestImageReady ok s
  | .selftestItemDone pass sig word contacts => Sys2Proof.Machine.execSelftestItemDone pass sig word contacts s
  | .selftestConditionFail clock supply temp => Sys2Proof.Machine.execSelftestConditionFail clock supply temp s
  | .pathMonitorRead delays partner => Sys2Proof.Machine.execPathMonitorRead delays partner s
  | .thermalPointStep temp => Sys2Proof.Machine.execThermalPointStep temp s
  | .esrMeasure esr enough => Sys2Proof.Machine.execEsrMeasure esr enough s
  | .scapTest holdup => Sys2Proof.Machine.execScapTest holdup s
  | .stageCycleRead cycles => Sys2Proof.Machine.execStageCycleRead cycles s
  | .lifeReportUpdate => Sys2Proof.Machine.execLifeReportUpdate s
  | .sfpInsert cage ident diag => Sys2Proof.Machine.execSfpInsert cage ident diag s
  | .sfpDiagPoll cage diag alarm => Sys2Proof.Machine.execSfpDiagPoll cage diag alarm s
  | .witnessLineDisagree => Sys2Proof.Machine.execWitnessLineDisagree s
  | .illegalInstruction lane instr => Sys2Proof.Machine.execIllegalInstruction lane instr s
  | .fetchProtectionFault lane => Sys2Proof.Machine.execFetchProtectionFault lane s
  | .eccScrubError bank => Sys2Proof.Machine.execEccScrubError bank s
  | .oscillatorWarm => Sys2Proof.Machine.execOscillatorWarm s
  | .shadowBankLoaded => Sys2Proof.Machine.execShadowBankLoaded s
  | .unitSupplyLoss unit => Sys2Proof.Machine.execUnitSupplyLoss unit s
  | .pumpRampEnd => Sys2Proof.Machine.execPumpRampEnd s
  | .keyRelease key => Sys2Proof.Machine.execKeyRelease key s
  | .partnerPresenceChange closed => Sys2Proof.Machine.execPartnerPresenceChange closed s
  | .ethLinkChange port up speed => Sys2Proof.Machine.execEthLinkChange port up speed s

end Sys2Proof.Machine
end

