-- ==== Sys2Proof/Machine/CodeWords.lean ====
section
/-! DEFINITION. The command that a code word spells on a lane, field by field (R141 to R148), and the words of a command. The
commands of block code carry their fields already split; this is how the words in a code bank split into them. -/

namespace Sys2Proof.Machine

/-- Field [hi:lo] of a code word as a number below 2^(hi - lo + 1). -/
def regField (w : Word) (lo : Nat) : Fin 32 := Fin.ofNat 32 (bits w (lo + 4) lo)
def typeField (w : Word) (lo : Nat) : Fin 8 := Fin.ofNat 8 (bits w (lo + 2) lo)
def immField (w : Word) (n : Nat) : BitVec n := w.setWidth n

/-- An operation of format R with two operands, and one with its field b 0 (R142). -/
def twoOf (w : Word) (c : Fin 32 → Fin 32 → Fin 32 → Fin 8 → Instr) : Option Instr :=
  some <| c (regField w 21) (regField w 16) (regField w 11) (typeField w 8)
def oneOf (w : Word) (c : Fin 32 → Fin 32 → Fin 8 → Instr) : Option Instr :=
  if bits w 15 11 = 0 then some (c (regField w 21) (regField w 16) (typeField w 8)) else none

/-- An access of format M. -/
def accessOf (w : Word) (c : Fin 32 → Fin 8 → Fin 32 → Fin 8 → BitVec 10 → Instr) : Option Instr :=
  some <| c (regField w 21) (typeField w 18) (regField w 13) (typeField w 10) (immField w 10)

/-- A word whose bits [hi:0] have to be 0. -/
def zeroBelow (w : Word) (hi : Nat) (c : Instr) : Option Instr := if bits w hi 0 = 0 then some c else none

/-- The integer operation that func names (R146), the floating one (R148). -/
def aluCommand (l : Fin 8) (w : Word) : Option Instr :=
  match bits w 7 0 with
  | 0x00 => twoOf w (.add l)
  | 0x01 => twoOf w (.sub l)
  | 0x02 => twoOf w (.mul l)
  | 0x03 => twoOf w (.div l)
  | 0x04 => twoOf w (.mod l)
  | 0x05 => twoOf w (.adds l)
  | 0x06 => twoOf w (.subs l)
  | 0x07 => twoOf w (.muls l)
  | 0x08 => twoOf w (.and l)
  | 0x09 => twoOf w (.or l)
  | 0x0A => twoOf w (.xor l)
  | 0x0C => twoOf w (.shl l)
  | 0x0D => twoOf w (.shr l)
  | 0x0E => twoOf w (.rol l)
  | 0x0F => twoOf w (.ror l)
  | 0x10 => twoOf w (.eq l)
  | 0x11 => twoOf w (.ne l)
  | 0x12 => twoOf w (.lt l)
  | 0x13 => twoOf w (.le l)
  | 0x14 => twoOf w (.gt l)
  | 0x15 => twoOf w (.ge l)
  | 0x18 => twoOf w (.min l)
  | 0x19 => twoOf w (.max l)
  | 0x1E => twoOf w (.sel l)
  | 0x0B => oneOf w (.not l)
  | 0x1A => oneOf w (.abs l)
  | 0x1B => oneOf w (.neg l)
  | 0x1C => oneOf w (.ext l)
  | 0x1D => oneOf w (.exts l)
  | _ => none

def fpuCommand (l : Fin 8) (w : Word) : Option Instr :=
  match bits w 7 0 with
  | 0x00 => twoOf w (.fadd l)
  | 0x01 => twoOf w (.fsub l)
  | 0x02 => twoOf w (.fmul l)
  | 0x03 => twoOf w (.fdiv l)
  | 0x07 => twoOf w (.fmin l)
  | 0x08 => twoOf w (.fmax l)
  | 0x09 => twoOf w (.fmac l)
  | 0x10 => twoOf w (.feq l)
  | 0x11 => twoOf w (.flt l)
  | 0x12 => twoOf w (.fle l)
  | 0x13 => twoOf w (.fun l)
  | 0x04 => oneOf w (.fsqrt l)
  | 0x05 => oneOf w (.fabs l)
  | 0x06 => oneOf w (.fneg l)
  | 0x18 => oneOf w (.f2i l)
  | 0x19 => oneOf w (.f2it l)
  | 0x1A => oneOf w (.i2f l)
  | 0x1B => oneOf w (.u2f l)
  | 0x1C => oneOf w (.fwid l)
  | 0x1D => oneOf w (.fclass l)
  | _ => none

/-- The command that the code word `w` spells on lane `l`, with the word that follows it (R145); none for a word that traps
ILLEGAL, which ILLEGAL_INSTRUCTION carries whole. -/
def codeCommand (l : Fin 8) (w next : Word) : Option Instr :=
  let d := regField w 21
  let a := regField w 16
  match bits w 31 26 with
  | 0x01 => aluCommand l w
  | 0x02 => fpuCommand l w
  | 0x03 => some (.addi l d a (immField w 16))
  | 0x04 => some (.andi l d a (immField w 16))
  | 0x05 => some (.ori l d a (immField w 16))
  | 0x06 => some (.xori l d a (immField w 16))
  | 0x07 => zeroBelow w 20 (.lit l d next)
  | 0x08 => accessOf w (.ld l)
  | 0x09 => accessOf w (.st l)
  | 0x0A => accessOf w (.lea l)
  | 0x0B =>
    if bits w 25 21 = 0 ∧ bits w 10 0 = 0 then some (.chk l a (regField w 11)) else none
  | 0x0C => zeroBelow w 20 (.time l d)
  | 0x10 => some (.br l (immField w 26))
  | 0x11 => some (.bz l d (immField w 21))
  | 0x12 => some (.bnz l d (immField w 21))
  | 0x13 => some (.jt l d (immField w 21))
  | 0x14 => some (.call l (immField w 26))
  | 0x15 => some (.callfb l d (immField w 21))
  | 0x16 => zeroBelow w 25 (.ret l)
  | 0x17 => if bits w 25 16 = 0 then some (.enter l (immField w 16)) else none
  | 0x18 => if bits w 25 16 = 0 then some (.trap l (immField w 16)) else none
  | 0x19 => zeroBelow w 25 (.brk l)
  | 0x3F => zeroBelow w 25 (.nop l)
  | _ => none

/-- The words of a command of block code: its lane, and the instruction word with what follows it (R142). -/
def codeWords : Instr → Option (Fin 8 × List Word)
  | .addi l d a imm => some (l, [encI 0x03 d a imm.toNat])
  | .andi l d a imm => some (l, [encI 0x04 d a imm.toNat])
  | .ori l d a imm => some (l, [encI 0x05 d a imm.toNat])
  | .xori l d a imm => some (l, [encI 0x06 d a imm.toNat])
  | .lit l d v => some (l, [encI 0x07 d 0 0, v])
  | .ld l d base a t off => some (l, [encM 0x08 d base a t off.toNat])
  | .st l d base a t off => some (l, [encM 0x09 d base a t off.toNat])
  | .lea l d base a t off => some (l, [encM 0x0A d base a t off.toNat])
  | .chk l a b => some (l, [encR 0x0B 0 a b 0 0])
  | .time l d => some (l, [encI 0x0C d 0 0])
  | .br l disp => some (l, [encJ 0x10 disp.toNat])
  | .bz l a disp => some (l, [encB 0x11 a disp.toNat])
  | .bnz l a disp => some (l, [encB 0x12 a disp.toNat])
  | .jt l a n => some (l, [encB 0x13 a n.toNat])
  | .call l disp => some (l, [encJ 0x14 disp.toNat])
  | .callfb l a disp => some (l, [encB 0x15 a disp.toNat])
  | .ret l => some (l, [encJ 0x16 0])
  | .enter l imm => some (l, [encI 0x17 0 0 imm.toNat])
  | .trap l imm => some (l, [encI 0x18 0 0 imm.toNat])
  | .brk l => some (l, [encJ 0x19 0])
  | .nop l => some (l, [encJ 0x3F 0])
  | .add l d a b t => some (l, [encR 1 d a b t 0x00])
  | .sub l d a b t => some (l, [encR 1 d a b t 0x01])
  | .mul l d a b t => some (l, [encR 1 d a b t 0x02])
  | .div l d a b t => some (l, [encR 1 d a b t 0x03])
  | .mod l d a b t => some (l, [encR 1 d a b t 0x04])
  | .adds l d a b t => some (l, [encR 1 d a b t 0x05])
  | .subs l d a b t => some (l, [encR 1 d a b t 0x06])
  | .muls l d a b t => some (l, [encR 1 d a b t 0x07])
  | .and l d a b t => some (l, [encR 1 d a b t 0x08])
  | .or l d a b t => some (l, [encR 1 d a b t 0x09])
  | .xor l d a b t => some (l, [encR 1 d a b t 0x0A])
  | .shl l d a b t => some (l, [encR 1 d a b t 0x0C])
  | .shr l d a b t => some (l, [encR 1 d a b t 0x0D])
  | .rol l d a b t => some (l, [encR 1 d a b t 0x0E])
  | .ror l d a b t => some (l, [encR 1 d a b t 0x0F])
  | .eq l d a b t => some (l, [encR 1 d a b t 0x10])
  | .ne l d a b t => some (l, [encR 1 d a b t 0x11])
  | .lt l d a b t => some (l, [encR 1 d a b t 0x12])
  | .le l d a b t => some (l, [encR 1 d a b t 0x13])
  | .gt l d a b t => some (l, [encR 1 d a b t 0x14])
  | .ge l d a b t => some (l, [encR 1 d a b t 0x15])
  | .min l d a b t => some (l, [encR 1 d a b t 0x18])
  | .max l d a b t => some (l, [encR 1 d a b t 0x19])
  | .sel l d a b t => some (l, [encR 1 d a b t 0x1E])
  | .fadd l d a b t => some (l, [encR 2 d a b t 0x00])
  | .fsub l d a b t => some (l, [encR 2 d a b t 0x01])
  | .fmul l d a b t => some (l, [encR 2 d a b t 0x02])
  | .fdiv l d a b t => some (l, [encR 2 d a b t 0x03])
  | .fmin l d a b t => some (l, [encR 2 d a b t 0x07])
  | .fmax l d a b t => some (l, [encR 2 d a b t 0x08])
  | .fmac l d a b t => some (l, [encR 2 d a b t 0x09])
  | .feq l d a b t => some (l, [encR 2 d a b t 0x10])
  | .flt l d a b t => some (l, [encR 2 d a b t 0x11])
  | .fle l d a b t => some (l, [encR 2 d a b t 0x12])
  | .fun l d a b t => some (l, [encR 2 d a b t 0x13])
  | .not l d a t => some (l, [encR 1 d a 0 t 0x0B])
  | .abs l d a t => some (l, [encR 1 d a 0 t 0x1A])
  | .neg l d a t => some (l, [encR 1 d a 0 t 0x1B])
  | .ext l d a t => some (l, [encR 1 d a 0 t 0x1C])
  | .exts l d a t => some (l, [encR 1 d a 0 t 0x1D])
  | .fsqrt l d a t => some (l, [encR 2 d a 0 t 0x04])
  | .fabs l d a t => some (l, [encR 2 d a 0 t 0x05])
  | .fneg l d a t => some (l, [encR 2 d a 0 t 0x06])
  | .f2i l d a t => some (l, [encR 2 d a 0 t 0x18])
  | .f2it l d a t => some (l, [encR 2 d a 0 t 0x19])
  | .i2f l d a t => some (l, [encR 2 d a 0 t 0x1A])
  | .u2f l d a t => some (l, [encR 2 d a 0 t 0x1B])
  | .fwid l d a t => some (l, [encR 2 d a 0 t 0x1C])
  | .fclass l d a t => some (l, [encR 2 d a 0 t 0x1D])
  | _ => none

end Sys2Proof.Machine
end

