-- ==== Sys2Proof/Safety.lean ====
section
/-! DEFINITION. What claims say of a state and of a step: the canonical form of memory, the mirrors that every command
keeps, a lane that can execute, and a safe step. -/

namespace Sys2Proof.Machine

/-- The canonical form of memory: addresses strictly rising, no byte equal to what an unlisted address reads as. -/
def Memory.wf (m : List Host.Cell) : Bool := SMap.wf 0 m

/-- A register file in canonical form. -/
def State.regsWf (s : State) : Bool := SMap.wf 0 s.regs

/-- The mirrors of a state agree with what they show: SYS_STAT.claim and RED_CLAIM (R56), SYS_STAT.forcing and the forces
(R174), LKS_CFG.split and SYS_CFG.split (R194), SYS_BOOT.prt_lock and PRT_LOCK (R50), the free counts of QE (R259), and the
FORCE lamp, which follows SYS_STAT.forcing after the lamp test (R553, R554). -/
structure State.Mirrors (s : State) : Prop where
  claim : s.isSet Fld.SYS_STAT_claim = (s.reg Reg.RED_CLAIM != 0)
  forcing : s.isSet Fld.SYS_STAT_forcing = !s.fw.forces.isEmpty
  split : s.fld Fld.LKS_CFG_split = s.fld Fld.SYS_CFG_split
  lock : s.fld Fld.SYS_BOOT_prt_lock = s.fld Fld.PRT_LOCK_lock
  desc : s.fld Fld.QE_FREE1_desc = 16384 - s.qe.desc.length
  small : s.fld Fld.QE_FREE0_small = 32768 - s.qe.small.length
  large : s.fld Fld.QE_FREE0_large = 4096 - s.qe.large.length
  lamp : 250000000 ≤ s.clk → s.isSet Fld.PNL_LED_force = s.isSet Fld.SYS_STAT_forcing

/-- A step that is not stopped. -/
def Safe (o : Res) : Prop := ∃ t, o = .next t

/-- Lane `l` executes an instruction undisturbed: an activation that runs code fetches from an x window, with a DRAM credit where
the fetch takes one; no compare mismatch is injected; no debugger, no counter and no forwarded item watches it. -/
structure State.Clean (s : State) (l : Nat) (a : Act) : Prop where
  act : (s.lane l).act = some a
  runs : s.runsCode = true
  halted : a.halted = false
  gate : a.gate = false
  stalled : (s.lane l).stalled = false
  fetch : s.allows a.part 30 (s.lane l).eng.pc.toNat = true
  fed : (s.fetchCost l a.part (s.lane l).eng.pc.toNat).isSome = true
  armed : SMap.get 0 (l / 2) s.lks.armed = 0
  attached : s.lks.attached = none
  counters : s.pfc = []
  own : s.led a = false
  queue : s.red.queue = []

/-- General register `r` of lane `l`, and the address `n` bytes after its pc. -/
def State.gpr (s : State) (l r : Nat) : Word64 := (s.lane l).eng.get r
def State.pcPlus (s : State) (l n : Nat) : BitVec 40 := (s.lane l).eng.pc + BitVec.ofNat 40 n

/-- The fields that the mirrors of every command write. -/
def mirrored : List Fld :=
  [Fld.ETH_PSTAT_station 0, Fld.ETH_PSTAT_station 1, Fld.SER_STAT_drv 0, Fld.SER_STAT_drv 1, Fld.SER_STAT_drv 2,
   Fld.SER_STAT_drv 3, Fld.SER_STAT_proto 0, Fld.SER_STAT_proto 1, Fld.SER_STAT_proto 2, Fld.SER_STAT_proto 3,
   Fld.SYS_STAT_claim, Fld.SYS_STAT_forcing, Fld.SYS_BOOT_prt_lock, Fld.LKS_CFG_split, Fld.RED_STATE_state,
   Fld.RED_STATE_pair, Fld.QE_FREE0_small, Fld.QE_FREE0_large, Fld.QE_FREE1_desc, ⟨Reg.PNL_LED, 11, 0⟩, Fld.PNL_LED_pwr,
   Fld.PNL_LED_force]

/-- A field that shares no bit with a mirror. -/
def Fld.clear (f : Fld) : Bool :=
  decide (f.hi < 32) && mirrored.all fun g => f.key != g.key || decide (f.hi < g.lo) || decide (g.hi < f.lo)

/-- A register that holds no mirror. -/
def plainReg (k : Nat) : Bool := mirrored.all fun g => k != g.key

/-- Between `s` and `t`, lane `l` has executed one instruction that gives register `d` the value `v` and control to `pc`:
g0 discards; every other register, the instance base, the constant base and the stack base, every other lane, memory, the live
images and every register of the module that holds no mirror are as before. An instruction that writes no register is one that
writes g0. -/
structure Ran (s t : State) (l d : Nat) (v : Word64) (pc : BitVec 40) : Prop where
  value : (t.lane l).eng.get d = if d = 0 then 0 else v
  others : ∀ r, r ≠ d → (t.lane l).eng.get r = (s.lane l).eng.get r
  pc : (t.lane l).eng.pc = pc
  bases : (t.lane l).eng.ib = (s.lane l).eng.ib ∧ (t.lane l).eng.cb = (s.lane l).eng.cb ∧
    (t.lane l).eng.sb = (s.lane l).eng.sb
  lanes : ∀ k, k ≠ l → t.lane k = s.lane k
  count : (t.lane l).act.map (·.count) = (s.lane l).act.map (·.count + 1)
  mem : t.mem = s.mem
  images : t.pts = s.pts ∧ t.outs = s.outs
  regs : ∀ k, plainReg k = true → t.reg k = s.reg k

/-- Between `s` and `t`, lane `l` has executed one instruction that stores the `n` low bytes of `v` from address `x` upward
and gives control to the next word: its registers, every other lane, every other byte of memory, the live images and every
register of the module that holds no mirror are as before. -/
structure Stored (s t : State) (l x n : Nat) (v : Nat) : Prop where
  item : t.bytes x n = leBytes n v
  mem : ∀ y, y < x ∨ x + n ≤ y → t.byte y = s.byte y
  eng : (t.lane l).eng = { (s.lane l).eng with pc := s.pcPlus l 4 }
  lanes : ∀ k, k ≠ l → t.lane k = s.lane k
  images : t.pts = s.pts ∧ t.outs = s.outs
  regs : ∀ k, plainReg k = true → t.reg k = s.reg k

/-- Between `s` and `t`, activation `a` on lane `l` has ended by a trap of code `code` on the instruction word `w`: the lane
runs nothing, the event record of R152 stands, with the offset of pc in the code bank and a code of the user, and the task
counts one trap more. -/
structure Trapped (s t : State) (l : Nat) (a : Act) (code user : Nat) (w : Word) : Prop where
  ended : (t.lane l).act = none
  record : ⟨1, 0x700 + Config.eventLow 152 % 256, s.time, [wd a.task, wd 0, wd 0, wd 0xFF, wd code,
    wd ((s.lane l).eng.pc.toNat - s.bankBase a.task), w, wd user]⟩ ∈ t.evr.inbox
  traps : (t.task a.task).traps = (s.task a.task).traps + 1

/-! ### Results of block code under a type (R143, R146), in bit vectors -/

/-- The low bits of a register that a type names, extended by the type's sign. -/
def typed (t : Nat) (x : Word64) : Word64 :=
  if t < 4 then (x.setWidth (8 * 2 ^ (t % 4))).signExtend 64 else (x.setWidth (8 * 2 ^ (t % 4))).setWidth 64

/-- A register's number under a type. -/
def typedInt (t : Nat) (x : Word64) : Int := if t < 4 then (typed t x).toInt else ((typed t x).toNat : Int)

/-- A number held at the limits of a type: −2^(w−1) to 2^(w−1) − 1 for an I type of w bits, 0 to 2^w − 1 for a U type. -/
def limited (t : Nat) (v : Int) : Word64 :=
  let w := 8 * 2 ^ (t % 4)
  let lo : Int := if t < 4 then -2 ^ (w - 1) else 0
  let hi : Int := if t < 4 then 2 ^ (w - 1) - 1 else 2 ^ w - 1
  BitVec.ofInt 64 (max lo (min hi v))

/-- 1 for true. -/
def truth (b : Bool) : Word64 := if b then 1 else 0

/-- Less than, under a type. -/
def typedLt (t : Nat) (x y : Word64) : Bool := if t < 4 then (typed t x).slt (typed t y) else (typed t x).ult (typed t y)

/-- A command answers a next state of which something holds. -/
def Completes (o : Res) (p : State → Prop) : Prop := ∃ t, o = .next t ∧ p t

/-! ### Register writes (R10, R60) -/

/-- Whether a write of `v` to register `k` gives every reserved field the 0 that it holds. -/
def State.keepsReserved (s : State) (k : Nat) (v : Word) : Bool :=
  match s.regInfo k with
  | some r => !r.writable || !r.reservedWrite v
  | none => true

/-- The word of LKS_DBGCTL that gives a command to the attached lane. -/
def State.debugWord (s : State) (cmd steps : Nat) : List (Nat × Word) :=
  match s.lks.attached with
  | some l => [(Reg.LKS_DBGCTL, wd (steps * 65536 + cmd * 512 + 256 + l))]
  | none => []

/-- The registers that a command writes itself, and what it gives them: that of REGISTER_WRITE, those of the commands that are one
write, the register that an ST names, LKS_DBGCTL for the attached lane, the one at the debug memory address, and PNL_DRIVE. The other commands that write a
register give it a word of its own fields alone. -/
def putsOf (s : State) : Instr → List (Nat × Word)
  | .registerWrite reg v =>
    (4 * reg.toNat, v) :: if 4 * reg.toNat = Reg.LKS_DBGMEM then [(s.debugAddr - 0x40000000, v)] else []
  | .sysRst w => [(Reg.SYS_RST, w)]
  | .sysModeSet w => [(Reg.SYS_MODE_SET, w)]
  | .fioKick w => [(Reg.FIO_KICK, w)]
  | .redHbkick w => [(Reg.RED_HBKICK, w)]
  | .lksInject p w => [(Reg.LKS_INJECT p, w)]
  | .safTest w => [(Reg.SAF_TEST, w)]
  | .ageOpset w => [(Reg.AGE_OPSET, w)]
  | .st l d base a t off => [(s.stKey l base a t off.toNat, (s.gpr l d).setWidth 32)]
  | .debugHalt => s.debugWord 1 0
  | .debugResume => s.debugWord 2 0
  | .debugStep n => s.debugWord 3 n.toNat
  | .debugMemAccess addr (some v) => [(4 * addr.toNat - 0x40000000, v), (s.debugAddr - 0x40000000, v)]
  | .pnlPumpToggle =>
    [(Reg.PNL_DRIVE, setBits ((s.shadowOf Reg.PNL_DRIVE .frm).getD (s.reg Reg.PNL_DRIVE)) 31 18 0)]
  | _ => []

/-- Commands that begin with an access of a master, whose pending slow access completes before (R68, R70). -/
def endsSlow : Instr → Bool
  | .windowStart .. | .windowEnd .. | .registerWrite .. | .rcRead .. | .slowAccessDone .. | .sysRst .. | .sysModeSet ..
  | .prtLockSet | .mbxReqHeadWrite .. | .mbxRspTailWrite .. | .qeAllocreq .. | .qeFreebuf .. | .qeEnq .. | .qeDeqreq ..
  | .fioKick .. | .redHbkick .. | .claimDrop .. | .claimRaise .. | .lksInject .. | .debugAttach .. | .debugDetach | .debugHalt
  | .debugResume | .debugStep .. | .debugRegWrite .. | .debugMemAccess .. | .safPdataWrite .. | .safTest .. | .ageOpset ..
  | .pnlPumpToggle | .pnlWeardataRead => true
  | _ => false

/-! ### Mailboxes -/

/-- The request that a mailbox command writes: its mailbox, its opcode, its tag and its argument words (R95). -/
def asks : Instr → Option (Nat × Nat × Nat × List Word)
  | .modeReq m tag target => some (m, 0x0101, tag.toNat, [target])
  | .cfgOpen m tag scope => some (m, 0x0102, tag.toNat, [scope])
  | .cfgWrite m tag session typeIndex r => some (m, 0x0103, tag.toNat, [session, typeIndex] ++ r)
  | .changeLogArchive tag session last => some (64, 0x0103, tag.toNat, [session, 0x0C00FFFF, last])
  | .cfgCommit m tag session => some (m, 0x0104, tag.toNat, [session])
  | .cfgAbort m tag session => some (m, 0x0105, tag.toNat, [session])
  | .cfgRead m tag typeIndex offset => some (m, 0x0106, tag.toNat, [typeIndex, offset])
  | .evmRoute m tag session route => some (m, 0x0107, tag.toNat, [session, route])
  | .force m tag addr value => some (m, 0x0108, tag.toNat, [addr, value, 1])
  | .forceRelease m tag addr value => some (m, 0x0108, tag.toNat, [addr, value, 0])
  | .keyEnrol m tag key => some (m, 0x0109, tag.toNat, key)
  | .taskDeclare m tag session decl => some (m, 0x0201, tag.toNat, session :: decl)
  | .taskPin m tag session task pin => some (m, 0x0202, tag.toNat, [session, task, pin])
  | .placeRun m tag session => some (m, 0x0203, tag.toNat, [session])
  | .placeReport m tag report offset => some (m, 0x0204, tag.toNat, [report, offset])
  | .budgetSet m tag session part task us quota => some (m, 0x0205, tag.toNat, [session, part, task, us, quota])
  | .veerReq m tag => some (m, 0x0301, tag.toNat, [])
  | .redStatus m tag => some (m, 0x0302, tag.toNat, [])
  | .checkpoint m tag task => some (m, 0x0303, tag.toNat, [task])
  | .safeLoad m tag session set offset params => some (m, 0x0401, tag.toNat, [session, set, offset] ++ params)
  | .safeCheck m tag set => some (m, 0x0402, tag.toNat, [set])
  | .safeConfirm m tag set value => some (m, 0x0403, tag.toNat, [set, value])
  | .safeAuth m tag set password => some (m, 0x0404, tag.toNat, set :: password)
  | .evrRead m tag index => some (m, 0x0501, tag.toNat, [index])
  | .evrFreeze m tag => some (m, 0x0502, tag.toNat, [1])
  | .evrRelease m tag => some (m, 0x0502, tag.toNat, [0])
  | .timeStatus m tag => some (m, 0x0601, tag.toNat, [])
  | .timeStep m tag hi lo => some (m, 0x0602, tag.toNat, [hi, lo])
  | .diagStatus m tag => some (m, 0x0701, tag.toNat, [])
  | .reset m tag key => some (m, 0x0702, tag.toNat, [key])
  | .counterRead m tag first count => some (m, 0x0703, tag.toNat, [first, count])
  | .notifySet m tag mask => some (m, 0x0704, tag.toNat, [mask])
  | .echo m tag payload => some (m, 0x0705, tag.toNat, payload)
  | .imgOpen m tag type slot size => some (m, 0x0801, tag.toNat, [type, slot, size])
  | .imgWrite m tag session offset data => some (m, 0x0802, tag.toNat, [session, offset] ++ data)
  | .imgClose m tag session => some (m, 0x0803, tag.toNat, [session])
  | .imgSelect m tag type slot => some (m, 0x0804, tag.toNat, [type, slot])
  | .onlineChange m tag session => some (m, 0x0805, tag.toNat, [session])
  | _ => none

/-- A mailbox from which the next round takes a request and no other: served in the present mode, taken by this module, its
sender connected, with an empty request ring, room for a response, and no request waiting for its answer. -/
structure State.Open (s : State) (m : Nat) : Prop where
  who : m < 68
  conn : m = 64 → s.fw.conn.isSome = true
  alone : ∀ j, j ≠ m → s.canTake j = false
  served : s.served m = true
  inStep : m < 64 → s.mode ≠ mStandby ∧ s.mode ≠ mResync
  empty : s.reqCount m = 0
  room : s.rspCount m < 32
  line : (s.mbox m).line = []

/-- Between `s` and `u`, one response with a status and a payload was placed on the response ring of mailbox `m`, with the
opcode and the tag of its request, the mailbox's next response sequence and its stamp; the index stands one further. -/
def Answered (s u : State) (m op tag status : Nat) (pay : List Word) : Prop :=
  let h := s.fld (Fld.MBX_RSP_HEAD_head m)
  u.words (rspSlot m h) (4 + pay.length) = [wd (op + tag * 65536), wd (4 * pay.length),
    wd (status + m * 256 + (s.mbox m).rspSeq % 65536 * 65536), 0] ++ pay ∧
  u.fld (Fld.MBX_RSP_HEAD_head m) = (h + 1) % 65536

/-! ### The whole block -/

/-- Nothing is in flight: no activation runs, stands halted or is suspended or abandoned, no job or group is under way, and no
request waits for its answer. -/
structure State.AtRest (s : State) : Prop where
  lanes : s.prt.lanes = []
  susp : ∀ t, (s.task t).susp = none
  abandoned : s.red.abandoned = []
  jobs : s.ce.jobs = []
  groups : s.qe.groups = []
  lines : ∀ m, (s.mbox m).line = []

/-- Between `s` and `u` no register has changed but those of `keys` and those that hold mirrors; memory, the records in force,
the live images and the queue of commands are as before. -/
structure Kept (s u : State) (keys : List Nat) : Prop where
  regs : ∀ k, plainReg k = true → k ∉ keys → u.reg k = s.reg k
  mem : u.mem = s.mem
  cfg : u.cfg = s.cfg
  images : u.pts = s.pts ∧ u.outs = s.outs
  pending : u.pending = s.pending

/-- As `Kept`, but for the `n` bytes of memory from `a` upward. -/
structure KeptOff (s u : State) (keys : List Nat) (a n : Nat) : Prop where
  regs : ∀ k, plainReg k = true → k ∉ keys → u.reg k = s.reg k
  mem : ∀ y, y < a ∨ a + n ≤ y → u.byte y = s.byte y
  cfg : u.cfg = s.cfg
  images : u.pts = s.pts ∧ u.outs = s.outs
  pending : u.pending = s.pending

/-- Between `s` and `u` the module was reset for a cause (R42, R49, R54, R61): BOOT; the cause; every other register at its
reset value; SRAM and DRAM zeroed; no session, no record in force, no plan; the image store, the claim in MRAM, the contacts
and the queue of commands kept. -/
structure ResetBy (s u : State) (cause : Nat) : Prop where
  mode : u.mode = mBoot
  cause : u.fld Fld.SYS_RSTCAUSE_cause = cause
  regs : ∀ k, plainReg k = true → k ≠ Reg.SYS_RSTCAUSE → k ≠ Reg.SYS_SLOT → u.reg k = State.reset.reg k
  zeroed : ∀ a, a < 0x800000000 → u.byte a = 0
  ended : u.fw.sessions = [] ∧ u.cfg = [] ∧ u.prt = {} ∧ u.pts = [] ∧ u.outs = []
  store : u.fw.store = s.fw.store ∧ u.fw.used = s.fw.used
  claim : u.nv.claim = s.nv.claim
  slot : u.sys.pins.slot = s.sys.pins.slot ∧ u.sys.pins.pair = s.sys.pins.pair ∧ u.sys.pins.presS = s.sys.pins.presS
  pending : u.pending = s.pending

/-- Between `s` and `u` the module has sent one message to the outside, and no other. -/
def Sends (s u : State) (chan : Chan) (what : Nat) (ws : List Word) : Prop := u.sent = ⟨chan, what, ws⟩ :: s.sent

/-- What the module has sent elsewhere than on the link. -/
def State.outside (s : State) : List Sent := s.sent.filter (·.chan != .link)

/-- Between `s` and `u` the module has sent one message elsewhere than on the link, and no other: what it does to a queue may
also be mirrored on the link (R253). -/
def Emits (s u : State) (chan : Chan) (what : Nat) (ws : List Word) : Prop :=
  chan ≠ .link ∧ u.outside = ⟨chan, what, ws⟩ :: s.outside

end Sys2Proof.Machine
end

