-- ==== Sys2Proof/WellFormed.lean ====
section
/-! DEFINITION. Well-formed commands: operands that their types do not bound already lie within what the manual lets the
command carry. -/

namespace Sys2Proof

open Sys2Proof.Machine

/-- Results of a triple fit their channel: points 0 to 9, and 30 of harmonics (R347, R348). -/
def wfMeas (m : TripleMeas) : Bool :=
  decide (m.points.length ≤ 10) && (match m.harmonics with | some h => decide (h.length ≤ 30) | none => true)

/-- A reading names a channel of a unit and a kind (R6). -/
def wfReading (r : Reading) : Bool := decide (r.chan < 64) && decide (r.kind ≤ 1)

/-- A ring's report has at most two copies of each position's section, of units that a ring holds, in at most 512 octets (R7, R437,
R438). -/
def wfReport (r : RingReport) : Bool :=
  decide (r.sections.length ≤ 240) && r.sections.all fun x => decide (x.unit < 256) && decide (x.octets.length ≤ 512)

/-- The data set of a PTP announce: one octet for each priority, the class and the accuracy, and two for the variance. -/
def wfAnnounce (a : Announce) : Bool :=
  decide (a.priority1 < 256) && decide (a.clockClass < 256) && decide (a.accuracy < 256) && decide (a.variance < 65536) &&
    decide (a.priority2 < 256) && decide (a.steps < 65536)

/-- A frame of the other ring side carries at most as many values as a unit has points. -/
def wfFrame (f : RFrame) : Bool := match f.vals with | some vs => decide (vs.length ≤ 1024) | none => true

/-- A payload has at most 240 bytes (R83); a mismatch has a kind from 1 (R177), as a forwarded item has; 24 path monitors
(R572); a CAN frame has at most 64 bytes (R531); a Modbus request writes at most 1 968 coils or 123 registers. -/
def Instr.wf : Instr → Bool
  | .cfgWrite _ _ _ _ r => decide (2 + r.length ≤ 60)
  | .keyEnrol _ _ k => decide (k.length ≤ 60)
  | .taskDeclare _ _ _ d => decide (1 + d.length ≤ 60)
  | .safeLoad _ _ _ _ _ p => decide (3 + p.length ≤ 60)
  | .safeAuth _ _ _ p => decide (1 + p.length ≤ 60)
  | .echo _ _ p => decide (p.length ≤ 60)
  | .imgWrite _ _ _ _ d => decide (2 + d.length ≤ 60)
  | .compareMismatch _ kind => decide (1 ≤ kind.val)
  | .forwardItemReceive _ kind _ => (decide (1 ≤ kind.val) && decide (kind.val < 16)) || decide (21 ≤ kind.val)
  | .phasorCycleEnd _ _ v cs => wfMeas v && decide (cs.length ≤ 2) && cs.all wfMeas
  | .ptpAnnounce _ c => wfAnnounce c
  | .barrierFrameReceive _ _ _ rs => rs.all wfReading
  | .diSample _ xs => decide (xs.length ≤ 16)
  | .ringCycleEnd _ r => wfReport r
  | .unitFrameProcess _ other => (match other with | some f => wfFrame f | none => true)
  | .discovery _ rs _ _ => decide (rs.length ≤ 120) && rs.all fun r => decide (1 ≤ r.pos) && decide (r.pos ≤ 120) && decide (r.node < 16384)
  | .rioServiceMessage _ r => (match r with | some bs => decide (bs.length ≤ 256) | none => true)
  | .safetyTelegramReceive _ _ _ _ vs => decide (vs.length ≤ 64)
  | .serviceFrameReceive _ _ _ bs _ _ => decide (bs.length ≤ 1500)
  | .sentence450Receive _ _ _ bs _ _ => decide (bs.length ≤ 1500)
  | .modbusWriteMultipleCoils _ _ vs => decide (vs.length ≤ 1968)
  | .modbusWriteMultipleRegisters _ _ vs => decide (vs.length ≤ 123)
  | .modbusReadWriteRegisters _ _ _ _ vs => decide (vs.length ≤ 121)
  | .modbusResponse _ _ _ bs _ => decide (bs.length ≤ 260)
  | .classicBlockReceive _ _ _ h bs => decide (h.length ≤ 8) && decide (bs.length ≤ 1500)
  | .serialSentenceReceive _ bs _ _ => decide (bs.length ≤ 256)
  | .canFrameReceive _ f => decide (f.data.length ≤ 64) && decide (f.err ≤ 3)
  | .frameBoundary image => decide (image.length ≤ 16384)
  | .wearGainUpdate gains => decide (gains.length ≤ 16384)
  | .pathMonitorRead delays _ => decide (delays.length = 24)
  | .sfpInsert _ id _ => decide (id.type < 5)
  | .tradeCycleBoundary .. | .tick250us .. | .windowStart .. | .activationStart .. | .windowEnd ..
  | .activationResume .. | .budgetExhausted .. | .mapCopyComplete .. | .addi .. | .andi .. | .ori .. | .xori ..
  | .lit .. | .ld .. | .st .. | .lea .. | .chk .. | .time .. | .br .. | .bz .. | .bnz .. | .jt .. | .call ..
  | .callfb .. | .ret .. | .enter .. | .trap .. | .brk .. | .nop .. | .add .. | .sub .. | .mul .. | .div .. | .mod ..
  | .adds .. | .subs .. | .muls .. | .and .. | .or .. | .xor .. | .not .. | .shl .. | .shr .. | .rol .. | .ror ..
  | .eq .. | .ne .. | .lt .. | .le .. | .gt .. | .ge .. | .min .. | .max .. | .abs .. | .neg .. | .ext .. | .exts ..
  | .sel .. | .fadd .. | .fsub .. | .fmul .. | .fdiv .. | .fsqrt .. | .fabs .. | .fneg .. | .fmin .. | .fmax ..
  | .fmac .. | .feq .. | .flt .. | .fle .. | .fun .. | .f2i .. | .f2it .. | .i2f .. | .u2f .. | .fwid .. | .fclass ..
  | .registerWrite .. | .rcRead .. | .slowAccessDone .. | .slowAccessTimeout .. | .sysRst .. | .sysModeSet ..
  | .prtLockSet .. | .mbxReqHeadWrite .. | .mbxRspTailWrite .. | .qeAllocreq .. | .qeFreebuf .. | .qeEnq ..
  | .qeDeqreq .. | .fioKick .. | .redHbkick .. | .claimDrop .. | .claimRaise .. | .lksInject .. | .debugAttach ..
  | .debugDetach .. | .debugHalt .. | .debugResume .. | .debugStep .. | .debugRegWrite .. | .debugMemAccess ..
  | .safPdataWrite .. | .safTest .. | .ageOpset .. | .pnlPumpToggle .. | .pnlWeardataRead .. | .mailboxRound ..
  | .sessionTimeout .. | .modeReq .. | .cfgOpen .. | .cfgCommit .. | .cfgAbort .. | .cfgRead .. | .evmRoute ..
  | .force .. | .forceRelease .. | .taskPin .. | .placeRun .. | .placeReport .. | .budgetSet .. | .veerReq ..
  | .redStatus .. | .checkpoint .. | .safeCheck .. | .safeConfirm .. | .evrRead .. | .evrFreeze .. | .evrRelease ..
  | .timeStatus .. | .timeStep .. | .diagStatus .. | .reset .. | .counterRead .. | .notifySet .. | .imgOpen ..
  | .imgClose .. | .imgSelect .. | .onlineChange .. | .imageCheckDone .. | .changeLogArchive ..
  | .prepareAckTimeout .. | .prepareDropTimeout .. | .powerOn .. | .supplyLoss .. | .holdupExpiry ..
  | .logicInputChange .. | .mgmtWatchdogExpiry .. | .mgmtLockstepFail .. | .overTempReset .. | .fatalEccReset ..
  | .resetRelease .. | .bootComplete .. | .partnerPoll .. | .witnessAbsentTimeout .. | .commissionConfirmTimeout ..
  | .planReadyCheck .. | .placementDone .. | .instanceMoveDone .. | .dramCreditWindow .. | .agreementBufferFree ..
  | .heartbeatSend .. | .heartbeatReceive .. | .heartbeatMissed .. | .heartbeatWatchdogExpiry .. | .linkLaneChange ..
  | .linkCrcBurst .. | .forwardAckReceive .. | .completionMarker .. | .leewardLagExceeded .. | .witnessAskRetry ..
  | .witnessGrantTimeout .. | .witAsk .. | .witProbe .. | .witProbeReply .. | .probeWindowExpiry .. | .witGrant ..
  | .witRefuse .. | .witClaimed .. | .witStatus .. | .witStatusTimer .. | .witDemote .. | .pairPrepare ..
  | .pairAck .. | .pairNack .. | .pairFallback .. | .pairFailmark .. | .pairFailrep .. | .pairYield .. | .pairVeer ..
  | .commandedVeerTimeout .. | .formerWindwardStandby .. | .pairResync .. | .resyncPhaseComplete ..
  | .resyncTimeout .. | .claimFrameReceive .. | .stageTurnOn .. | .claimResetWindowEnd .. | .checkpointCopyDone ..
  | .presSOpen .. | .presSClose .. | .insertionDebounce .. | .groupRequest .. | .ringCycleStart ..
  | .groupPartAnswer .. | .groupPrepareDeadline .. | .groupPartReport .. | .groupReportWindowEnd ..
  | .groupOutcomeEnqueue .. | .unitPreparationExpiry .. | .loopTrigger .. | .loopRunDispatch .. | .loopRunOutput ..
  | .injectionJob .. | .captureDeliveryRetry .. | .captureDeliveryAbandon .. | .pgUpdate .. | .pgMove ..
  | .pgVelocity .. | .pgStop .. | .pgHome .. | .pgClear .. | .limitSwitchEdge .. | .domainDelivery ..
  | .missingEdge .. | .encoderIdleTimeout .. | .coastLimit .. | .actionFire .. | .revBoundary .. | .actionArm ..
  | .syncArm .. | .syncDisarm .. | .closureDetected .. | .closureTimeout .. | .closePulseEnd .. | .syncArmTimeout ..
  | .gustEvaluation .. | .gustRequest .. | .gustWithdraw .. | .blackoutEntry .. | .liveTimeRestart ..
  | .restartStepDelay .. | .restartStepTimeout .. | .ptpSyncMeasurement .. | .referenceLoss .. | .lockAchieved ..
  | .ppsOutputEdge .. | .ppsInputEdge .. | .compareArm .. | .compareDisarm .. | .compareFire ..
  | .periodicCompareFire .. | .barrierFrameSend .. | .linkDown .. | .fioWatchdogExpiry .. | .silenceTimeout ..
  | .fieldSupplyChange .. | .doOverloadLatch .. | .doMismatch .. | .doOpenLoad .. | .gustSwitchOnRelease ..
  | .faultResetItem .. | .pwmPeriod .. | .shootThrough .. | .hbridgeOpenCoil .. | .stageThermalLatch ..
  | .staggerRelease .. | .encoderCount .. | .encoderIndex .. | .encoderLineFault .. | .pickupPulse .. | .coilCheck ..
  | .converterStart .. | .filterOutput .. | .aoStaggerRelease .. | .complianceAdjust .. | .aoReadback ..
  | .aoThermal .. | .unitApplyInstant .. | .unitLinkDown .. | .ringRestore .. | .unitMissedCycles ..
  | .foreignFrame .. | .unitSilenceTimeout .. | .groupPulseEnd .. | .safetyEvaluation .. | .safetyInputSample ..
  | .testSourcePulse .. | .discrepancyTimeout .. | .stoTestPulse .. | .safetyDemandItem .. | .safetyResetItem ..
  | .safetyWatchdogExpiry .. | .parameterCrcCheck .. | .confirmLockoutEnd .. | .authLockoutEnd ..
  | .edmExerciseDue .. | .alarmEvaluation .. | .alarmItem .. | .alarmAcknowledge .. | .alarmSilence ..
  | .alarmShelve .. | .alarmUnshelve .. | .acnReceive .. | .silenceExpiry .. | .shelveExpiry .. | .escalation ..
  | .alcTimer .. | .hbtTimer .. | .floodLeave .. | .heldAlfRelease .. | .chatterEnd .. | .triggerCapture ..
  | .recordMessage .. | .stagingWrite .. | .freezeTimeout .. | .serviceFrameSend .. | .prpSupervision ..
  | .modbusConnect .. | .modbusReadCoils .. | .modbusReadDiscreteInputs .. | .modbusReadHoldingRegisters ..
  | .modbusReadInputRegisters .. | .modbusWriteSingleCoil .. | .modbusWriteSingleRegister ..
  | .modbusClientRequest .. | .modbusResponseTimeout .. | .classicPublishPeriod .. | .classicSubscribeTimeout ..
  | .gustNetworkRequest .. | .grantBlockSend .. | .pliuzConnect .. | .pliuzIdleTimeout .. | .canBufferLoad ..
  | .canArbitrationOffer .. | .canFrameOutcome .. | .canTransmitTimeout .. | .canBusOff .. | .canRecoveryStart ..
  | .canRecoveryComplete .. | .canProtocolException .. | .canDetectionDwell .. | .canReferenceInstant ..
  | .canReferenceLate .. | .pumpFault .. | .pumpRestart .. | .keyPress .. | .keyRepeat .. | .chordPanelReset ..
  | .chordWitnessOverride .. | .startModeOverride .. | .sliderTouch .. | .dimTimeout .. | .pixelShift ..
  | .wearHourlyRead .. | .usbAttach .. | .usbDetach .. | .selftestImageReady .. | .selftestItemDone ..
  | .selftestConditionFail .. | .thermalPointStep .. | .esrMeasure .. | .scapTest .. | .stageCycleRead ..
  | .lifeReportUpdate .. | .sfpDiagPoll .. | .witnessLineDisagree .. | .illegalInstruction ..
  | .fetchProtectionFault .. | .eccScrubError .. | .oscillatorWarm .. | .shadowBankLoaded .. | .unitSupplyLoss ..
  | .pumpRampEnd .. | .keyRelease .. | .partnerPresenceChange .. | .ethLinkChange .. => true

end Sys2Proof
end

