-- ==== Sys2Proof/Certificates/Slice0/Obligations.lean ====
section
/-! DEFINITION. The statements for the provers: what each command does, what it leaves alone, and what every step keeps. -/

open Sys2Proof Sys2Proof.Machine

/-- A step runs the command at the front of the queue. For every command c, every rest of the queue and every state whose
queue is c followed by that rest: step is exec of c on the state with the queue's rest, whatever its outcome. With an
empty queue the step answers a next state in which one fabric clock has passed (the model's choice, log entry 1) and
the queue is still empty. (00_scope.md, R23) -/
def Obligations.StepRunsTheFrontCommand : Prop :=
  ∀ (s : State) (c : Instr) (rest : List Instr),
    (s.pending = c :: rest → step s = exec c { s with pending := rest }) ∧
    (s.pending = [] → Completes (step s) fun t => t.clk = s.clk + 1 ∧ t.pending = [])

/-- Every step, from every state, leaves the mirrors in agreement with what they mirror. For every state s, reached or
not, and every next state t that a step of s answers, whichever command stood in front: SYS_STAT.claim is 1 exactly
when RED_CLAIM drives a claim, SYS_STAT.forcing exactly when a force stands, LKS_CFG.split shows SYS_CFG.split,
SYS_BOOT.prt_lock shows PRT_LOCK, QE_FREE0 and QE_FREE1 are the capacities less what is taken, and after the lamp test
the FORCE lamp follows SYS_STAT.forcing. (R56, R174, R194, R50, R259, R553, R554) -/
def Obligations.EveryStepKeepsTheMirrors : Prop :=
  ∀ s t : State, step s = .next t → t.Mirrors

/-- Results of the wrapping integer operations, under every type, and all they leave alone. On a lane that executes
undisturbed, for every type and every choice of registers (g0 included): ADD, SUB, MUL, AND, OR, XOR, NOT, NEG, EXT
and SHL complete; g[d] is the result wrapped at the type's width and extended by the type's sign, pc moves one word
on, and every other register of the lane, every other lane, memory, the live images and every register of the module
that holds no mirror are as before. (R139, R143, R146) -/
def Obligations.WrappingArithmeticResults : Prop :=
  ∀ (s : State) (l : Fin 8) (a : Act) (d x y : Fin 32) (t : Fin 8), s.Clean l a →
    let p := s.gpr l x
    let q := s.gpr l y
    let gives := fun (v : Word64) (u : State) => Ran s u l d (typed t v) (s.pcPlus l 4)
    Completes (exec (.add l d x y t) s) (gives (p + q)) ∧
    Completes (exec (.sub l d x y t) s) (gives (p - q)) ∧
    Completes (exec (.mul l d x y t) s) (gives (p * q)) ∧
    Completes (exec (.and l d x y t) s) (gives (p &&& q)) ∧
    Completes (exec (.or l d x y t) s) (gives (p ||| q)) ∧
    Completes (exec (.xor l d x y t) s) (gives (p ^^^ q)) ∧
    Completes (exec (.not l d x t) s) (gives (~~~p)) ∧
    Completes (exec (.neg l d x t) s) (gives (-p)) ∧
    Completes (exec (.ext l d x t) s) (gives p) ∧
    Completes (exec (.shl l d x y t) s) (gives (p <<< (q.toNat % (8 * 2 ^ (t.val % 4)))))

/-- Results of the saturating integer operations and of MIN and MAX, under every type. On a lane that executes
undisturbed, for every type and every choice of registers: ADDS, SUBS and MULS give the exact result held at the
limits of the type, ABS the absolute value so held, EXTS the whole register as a signed value so held, and MIN and MAX
the lesser and the greater operand in the type's order. Nothing else changes but pc. (R143, R146) -/
def Obligations.SaturatingResults : Prop :=
  ∀ (s : State) (l : Fin 8) (a : Act) (d x y : Fin 32) (t : Fin 8), s.Clean l a →
    let p := s.gpr l x
    let q := s.gpr l y
    let gives := fun (v : Word64) (u : State) => Ran s u l d v (s.pcPlus l 4)
    Completes (exec (.adds l d x y t) s) (gives (limited t (typedInt t p + typedInt t q))) ∧
    Completes (exec (.subs l d x y t) s) (gives (limited t (typedInt t p - typedInt t q))) ∧
    Completes (exec (.muls l d x y t) s) (gives (limited t (typedInt t p * typedInt t q))) ∧
    Completes (exec (.abs l d x t) s) (gives (limited t (typedInt t p).natAbs)) ∧
    Completes (exec (.exts l d x t) s) (gives (limited t p.toInt)) ∧
    Completes (exec (.min l d x y t) s) (gives (if typedLt t p q then typed t p else typed t q)) ∧
    Completes (exec (.max l d x y t) s) (gives (if typedLt t p q then typed t q else typed t p))

/-- Results of right shift, rotates, compares and SEL, under every type. On a lane that executes undisturbed, for every
type and every choice of registers: SHR is arithmetic for I types and logical for U types, with the count modulo the
width; ROL and ROR rotate the low bits that the type names; EQ, NE, LT, LE, GT and GE give 1 or 0 in the type's order;
SEL takes g[a] where g[d] was not 0 before, else g[b]. Nothing else changes but pc. (R143, R146) -/
def Obligations.ShiftsRotatesAndComparesResults : Prop :=
  ∀ (s : State) (l : Fin 8) (a : Act) (d x y : Fin 32) (t : Fin 8), s.Clean l a →
    let p := s.gpr l x
    let q := s.gpr l y
    let w := 8 * 2 ^ (t.val % 4)
    let n := q.toNat % w
    let gives := fun (v : Word64) (u : State) => Ran s u l d v (s.pcPlus l 4)
    Completes (exec (.shr l d x y t) s)
      (gives (if t.val < 4 then (typed t p).sshiftRight n else typed t p >>> n)) ∧
    Completes (exec (.rol l d x y t) s) (gives (typed t (((p.setWidth w).rotateLeft n).setWidth 64))) ∧
    Completes (exec (.ror l d x y t) s) (gives (typed t (((p.setWidth w).rotateRight n).setWidth 64))) ∧
    Completes (exec (.eq l d x y t) s) (gives (truth (typed t p == typed t q))) ∧
    Completes (exec (.ne l d x y t) s) (gives (truth (typed t p != typed t q))) ∧
    Completes (exec (.lt l d x y t) s) (gives (truth (typedLt t p q))) ∧
    Completes (exec (.le l d x y t) s) (gives (truth (!typedLt t q p))) ∧
    Completes (exec (.gt l d x y t) s) (gives (truth (typedLt t q p))) ∧
    Completes (exec (.ge l d x y t) s) (gives (truth (!typedLt t p q))) ∧
    Completes (exec (.sel l d x y t) s) (gives (typed t (if s.gpr l d = 0 then q else p)))

/-- DIV and MOD give the truncated quotient and its remainder, and trap DIV_ZERO on a zero divisor. On a lane that
executes undisturbed, for every type and every choice of registers: with a divisor that is not 0 under the type, DIV
gives the quotient truncated toward zero (the most negative value by -1 gives itself) and MOD the remainder with the
sign of the dividend; with a divisor of 0 under the type, both trap DIV_ZERO: the activation ends, the event record of
R152 carries the trap code and the instruction word, and the task counts one trap more. The task has not had two such
endings in a row before (the third one's response is another statement's). (R147) -/
def Obligations.DivisionResultsAndTrap : Prop :=
  ∀ (s : State) (l : Fin 8) (a : Act) (d x y : Fin 32) (t : Fin 8), s.Clean l a →
    let p := typed t (s.gpr l x)
    let q := typed t (s.gpr l y)
    let gives := fun (v : Word64) (u : State) => Ran s u l d (typed t v) (s.pcPlus l 4)
    (q ≠ 0 →
      Completes (exec (.div l d x y t) s) (gives (if t.val < 4 then p.sdiv q else p / q)) ∧
      Completes (exec (.mod l d x y t) s) (gives (if t.val < 4 then p.srem q else p % q))) ∧
    (q = 0 → (s.task a.task).traps ≠ 2 →
      Completes (exec (.div l d x y t) s) (fun u => Trapped s u l a 2 0 (encR 1 d x y t 3)) ∧
      Completes (exec (.mod l d x y t) s) (fun u => Trapped s u l a 2 0 (encR 1 d x y t 4)))

/-- Results of the immediate instructions, LIT, LEA, NOP and of CHK that passes. On a lane that executes undisturbed: ADDI
adds the sign-extended immediate, ANDI, ORI and XORI combine with the zero-extended one; LIT loads the sign-extended
literal word and passes over it; LEA gives the location of its operand, for every base but the reserved 7 and for
field a 0 with a base other than 3 and 4; NOP changes nothing but pc; CHK with g[a] below g[b], unsigned, changes
nothing but pc. (R142, R144, R145) -/
def Obligations.ImmediateAndMoveResults : Prop :=
  ∀ (s : State) (l : Fin 8) (a : Act) (d x y : Fin 32) (imm : BitVec 16) (w : BitVec 32) (base t : Fin 8)
      (off : BitVec 10), s.Clean l a →
    let p := s.gpr l x
    let gives := fun (v : Word64) (u : State) => Ran s u l d v (s.pcPlus l 4)
    Completes (exec (.addi l d x imm) s) (gives (p + imm.signExtend 64)) ∧
    Completes (exec (.andi l d x imm) s) (gives (p &&& imm.setWidth 64)) ∧
    Completes (exec (.ori l d x imm) s) (gives (p ||| imm.setWidth 64)) ∧
    Completes (exec (.xori l d x imm) s) (gives (p ^^^ imm.setWidth 64)) ∧
    Completes (exec (.lit l d w) s) (fun u => Ran s u l d (w.signExtend 64) (s.pcPlus l 8)) ∧
    (base.val ≠ 7 → (base.val = 3 ∨ base.val = 4 ∨ x.val = 0) →
      Completes (exec (.lea l d base x t off) s)
        (gives (BitVec.ofNat 64 (s.baseValue a (s.lane l).eng base x + off.toNat * 2 ^ (t.val % 4))))) ∧
    Completes (exec (.nop l) s) (fun u => Ran s u l 0 0 (s.pcPlus l 4)) ∧
    (p < s.gpr l y → Completes (exec (.chk l x y) s) fun u => Ran s u l 0 0 (s.pcPlus l 4))

/-- Results of the floating instructions, which trap ILLEGAL under every type but F32 and F64. On a lane that executes
undisturbed, with t 2 or 3: FADD to FCLASS complete and g[d] holds the operation's result, rounded once, by the
model's exact arithmetic; FABS clears and FNEG inverts the sign bit alone; a NaN operand of FADD, FSUB, FMUL, FDIV,
FSQRT and FMAC gives the default quiet NaN; FEQ, FLT and FLE of a NaN give 0 and FUN gives 1. Nothing else changes but
pc. Under any other type each of the twenty traps ILLEGAL. (R148) -/
def Obligations.FloatingResults : Prop :=
  ∀ (s : State) (l : Fin 8) (a : Act) (d x y : Fin 32) (t : Fin 8), s.Clean l a →
    let p := s.gpr l x
    let q := s.gpr l y
    let gives := fun (v : Word64) (u : State) => Ran s u l d v (s.pcPlus l 4)
    let low : Word64 := if t.val = 2 then 0xFFFFFFFF else 0xFFFFFFFFFFFFFFFF
    let sign : Word64 := if t.val = 2 then 0x80000000 else 0x8000000000000000
    let quiet : Word64 := if t.val = 2 then 0x7FC00000 else 0x7FF8000000000000
    let nan := fun (v : Word64) => (fVal t v).isNan
    let any := nan p || nan q
    (t.val = 2 ∨ t.val = 3 →
      Completes (exec (.fadd l d x y t) s) (gives (if any then quiet else Fpu.add t p q)) ∧
      Completes (exec (.fsub l d x y t) s) (gives (if any then quiet else Fpu.sub t p q)) ∧
      Completes (exec (.fmul l d x y t) s) (gives (if any then quiet else Fpu.mul t p q)) ∧
      Completes (exec (.fdiv l d x y t) s) (gives (if any then quiet else Fpu.div t p q)) ∧
      Completes (exec (.fsqrt l d x t) s) (gives (if nan p then quiet else Fpu.sqrt t p)) ∧
      Completes (exec (.fabs l d x t) s) (gives (p &&& low &&& ~~~sign)) ∧
      Completes (exec (.fneg l d x t) s) (gives ((p &&& low) ^^^ sign)) ∧
      Completes (exec (.fmin l d x y t) s)
        (gives (if nan p && nan q then quiet else if nan p || !nan q && !Fpu.below t p q then q &&& low else p &&& low)) ∧
      Completes (exec (.fmax l d x y t) s)
        (gives (if nan p && nan q then quiet else if nan p || !nan q && !Fpu.below t q p then q &&& low else p &&& low)) ∧
      Completes (exec (.fmac l d x y t) s)
        (gives (if any || nan (s.gpr l d) then quiet else Fpu.mac t (s.gpr l d) p q)) ∧
      Completes (exec (.feq l d x y t) s) (gives (truth (!any && fCmp (fVal t p) (fVal t q) == 0))) ∧
      Completes (exec (.flt l d x y t) s) (gives (truth (!any && fCmp (fVal t p) (fVal t q) == -1))) ∧
      Completes (exec (.fle l d x y t) s) (gives (truth (!any && fCmp (fVal t p) (fVal t q) != 1))) ∧
      Completes (exec (.fun l d x y t) s) (gives (truth any)) ∧
      Completes (exec (.f2i l d x t) s) (gives (if nan p then 0 else Fpu.f2i true t p)) ∧
      Completes (exec (.f2it l d x t) s) (gives (if nan p then 0 else Fpu.f2i false t p)) ∧
      Completes (exec (.i2f l d x t) s) (gives (fRoundInt t p.toInt 0 false)) ∧
      Completes (exec (.u2f l d x t) s) (gives (fRoundInt t p.toNat 0 false)) ∧
      Completes (exec (.fwid l d x t) s) (gives (fOf (5 - t) (fVal t p))) ∧
      Completes (exec (.fclass l d x t) s) (gives (Fpu.class_ t p))) ∧
    (t.val ≠ 2 ∧ t.val ≠ 3 → (s.task a.task).traps ≠ 2 →
      let two : List (Instr × Nat) := [(.fadd l d x y t, 0), (.fsub l d x y t, 1), (.fmul l d x y t, 2), (.fdiv l d x y t, 3),
          (.fmin l d x y t, 7), (.fmax l d x y t, 8), (.fmac l d x y t, 9), (.feq l d x y t, 16),
          (.flt l d x y t, 17), (.fle l d x y t, 18), (.fun l d x y t, 19)]
      let one : List (Instr × Nat) := [(.fsqrt l d x t, 4), (.fabs l d x t, 5), (.fneg l d x t, 6), (.f2i l d x t, 24), (.f2it l d x t, 25),
          (.i2f l d x t, 26), (.u2f l d x t, 27), (.fwid l d x t, 28), (.fclass l d x t, 29)]
      (∀ c ∈ two, Completes (exec c.1 s) fun u => Trapped s u l a 1 0 (encR 2 d x y t c.2)) ∧
      ∀ c ∈ one, Completes (exec c.1 s) fun u => Trapped s u l a 1 0 (encR 2 d x 0 t c.2))

/-- Where the branches and the jump table give control, and that they change nothing else. On a lane that executes
undisturbed: BR gives control disp words after the next instruction; BZ and BNZ do so where g[a] is 0, or is not, and
else go on to the next instruction; JT gives control min(g[a], n) words after the next instruction. No register,
memory or other lane changes. (R142, R145) -/
def Obligations.BranchesGiveControl : Prop :=
  ∀ (s : State) (l : Fin 8) (a : Act) (x : Fin 32) (far : BitVec 26) (disp n : BitVec 21), s.Clean l a →
    let gives := fun (pc : BitVec 40) (u : State) => Ran s u l 0 0 pc
    let next := s.pcPlus l 4
    Completes (exec (.br l far) s) (gives (next + 4 * far.signExtend 40)) ∧
    Completes (exec (.bz l x disp) s) (gives (if s.gpr l x = 0 then next + 4 * disp.signExtend 40 else next)) ∧
    Completes (exec (.bnz l x disp) s) (gives (if s.gpr l x = 0 then next else next + 4 * disp.signExtend 40)) ∧
    Completes (exec (.jt l x n) s)
      (gives (next + BitVec.ofNat 40 (4 * min (s.gpr l x).toNat n.toNat)))

/-- What LD reads and ST writes, through instance data, memory, an agreed region and registers, and that nothing else
changes. On a lane that executes undisturbed, at a location that meets no trap, whose windows admit it and whose DRAM
credit, where one is charged, is granted: LD through base 0 or 4 extends the item of the working copy; LD through
another base, outside registers and agreed regions, extends the item at the location; bytes of a stack that the
activation has not stored hold some value from then on. ST through another base stores
the low bytes of g[d] at the location, which the model's own location function computes, and every other byte of
memory is as before; ST through base 0 or 4 writes the working copy, which then reads the stored bytes, and leaves
every committed byte of the instance as before. A load from an agreed region, and a 32-bit load from a register
outside the slow domains that the partition may read, on a lane with room in its agreement buffer, give g[d] what the
region or the register shows, extended by the type, and add one entry with the activation's instruction count to the
buffer; with 16 entries waiting the lane stalls instead. A store to a register that its block discards, or to the boot
ROM, changes nothing but pc; a load through base 0 or 4 that no window admits ends the activation. (R59, R100, R143, R144, R149, R158, R161, R180) -/
def Obligations.LoadsAndStores : Prop :=
  ∀ (s s0 s1 : State) (l : Fin 8) (a : Act) (d r : Fin 32) (base t : Fin 8) (off : BitVec 10), s.Clean l a →
    s.fetchCost l a.part (s.lane l).eng.pc.toNat = some s0 →
    let x := s.location a (s.lane l).eng base r t off.toNat
    let n := 2 ^ (t.val % 4)
    let b := s.taskInst a.task
    let inst := base.val = 0 ∨ base.val = 4
    (s.accessTrap a base r n x false = none →
      (inst → s.denied a.part (s.workAddr b x) false = none → s0.dramCost l a.part (s.workAddr b x) = some s1 →
        Completes (exec (.ld l d base r t off) s) fun u =>
          Ran s u l d (extend t (s.item (s.workAddr b x) n)) (s.pcPlus l 4)) ∧
      (inst → (s.denied a.part (s.workAddr b x) false).isSome = true → (s.task a.task).traps ≠ 2 →
        Completes (exec (.ld l d base r t off) s) fun u => (u.lane l).act = none) ∧
      (¬inst → s.denied a.part x false = none → regionOf x ≠ some 2 → s.agreed x = false → s.defined x n = true →
          s0.dramCost l a.part x = some s1 →
        Completes (exec (.ld l d base r t off) s) fun u => Ran s u l d (extend t (s.item x n)) (s.pcPlus l 4)) ∧
      (¬inst → s.denied a.part x false = none → s.agreed x = false → s.defined x n = false →
        Completes (exec (.ld l d base r t off) s) fun u => u.gpr l d = (if d = 0 then 0 else extend t (u.item x n)) ∧
          u.defined x n = true ∧ (u.lane l).eng.pc = s.pcPlus l 4 ∧ (∀ y, y < x ∨ x + n ≤ y → u.byte y = s.byte y) ∧
          ∀ k, k ≠ d.val → u.gpr l k = s.gpr l k) ∧
      (¬inst → s.denied a.part x false = none → regionOf x ≠ some 2 → s.agreed x = true → s.laneSplit l = false →
          s.defined x n = true → s0.dramCost l a.part x = some s1 →
        ((s.lane l).agr.length < 16 → Completes (exec (.ld l d base r t off) s) fun u =>
          u.gpr l d = (if d = 0 then 0 else extend t (s.item x n)) ∧ u.mem = s.mem ∧ (u.lane l).eng.pc = s.pcPlus l 4 ∧
          (u.lane l).agr = (s.lane l).agr ++ [⟨a.count, 3, BitVec.ofNat 64 (s.item x n)⟩] ∧
          ∀ k, k ≠ l.val → u.lane k = s.lane k) ∧
        (16 ≤ (s.lane l).agr.length → Completes (exec (.ld l d base r t off) s) fun u =>
          u.lane l = { s.lane l with stalled := true } ∧ u.mem = s.mem)) ∧
      (¬inst → s.denied a.part x false = none → regionOf x = some 2 → s.laneSplit l = false → t.val % 4 = 2 →
        ∀ ri, s.regInfo (x - 0x40000000) = some ri → ri.slow = false → plainReg (x - 0x40000000) = true →
          x - 0x40000000 < 0x160000 → x - 0x40000000 ≠ Reg.LKS_DBGDATA → x - 0x40000000 ≠ Reg.LKS_DBGMEM →
        (s.admits a.part (x - 0x40000000) false = .full → (s.lane l).agr.length < 16 →
          let v := s.regView (x - 0x40000000) &&& ~~~(accMask ri.fields .wo)
          Completes (exec (.ld l d base r t off) s) fun u =>
            u.gpr l d = (if d = 0 then 0 else extend t v.toNat) ∧ u.mem = s.mem ∧ (u.lane l).eng.pc = s.pcPlus l 4 ∧
            (u.lane l).agr = (s.lane l).agr ++ [⟨a.count, 3, v.setWidth 64⟩]) ∧
        (s.admits a.part (x - 0x40000000) false = .empty → (s.lane l).agr.length < 16 →
          Completes (exec (.ld l d base r t off) s) fun u => u.gpr l d = 0 ∧ u.mem = s.mem ∧
            (u.lane l).eng.pc = s.pcPlus l 4))) ∧
    (s.accessTrap a base r n x true = none →
      (¬inst → s.denied a.part x true = none → regionOf x ≠ some 2 → regionOf x ≠ some 0 →
          s0.dramCost l a.part x = some s1 →
        Completes (exec (.st l d base r t off) s) fun u => Stored s u l x n (s.gpr l d).toNat) ∧
      (¬inst → s.denied a.part x true = none → regionOf x = some 0 →
        Completes (exec (.st l d base r t off) s) fun u => Ran s u l 0 0 (s.pcPlus l 4)) ∧
      (¬inst → s.denied a.part x true = none → regionOf x = some 2 → (∃ ri, s.regInfo (x - 0x40000000) = some ri ∧ ri.slow = false) → s.admits a.part (x - 0x40000000) true = .empty →
        Completes (exec (.st l d base r t off) s) fun u => Ran s u l 0 0 (s.pcPlus l 4)) ∧
      (inst → s.denied a.part (s.storeAddr b x) true = none → s0.dramCost l a.part (s.storeAddr b x) = some s1 →
          x + n ≤ s.instSize b → s.instSize b % 64 = 0 →
        Completes (exec (.st l d base r t off) s) fun u =>
          u.bytes (u.workAddr b x) n = leBytes n (s.gpr l d).toNat ∧
          (∀ o, o < s.instSize b → u.byte (u.commAddr b o) = s.byte (s.commAddr b o)) ∧
          (∀ y, y < b + 0x40 ∨ b + 0x40 + 2 * mapBytes (s.instSize b) + 2 * s.instSize b ≤ y → u.byte y = s.byte y) ∧
          (u.lane l).eng = { (s.lane l).eng with pc := s.pcPlus l 4 } ∧ ∀ k, k ≠ l.val → u.lane k = s.lane k))

/-- What CALL, CALLFB, ENTER and RET do to the stack and to the lane. On a lane that executes undisturbed: CALL and CALLFB
write a link record at F = sb + fs, with the address of the next instruction, ib, sb and 0, set sb to F + 32 and give
control to the target, CALLFB with ib := g[a]; ENTER writes its immediate times 8 at sb - 8; RET from a record whose
return address is not 0 restores pc, ib and sb; RET from the root frame is the completion: the activation leaves the
lane and the count of completed activations rises. Conditions: an aligned stack inside its limits, not code, that the
windows admit. Every byte outside the record, or the size, is as before. (R154, R28) -/
def Obligations.CallsAndFrames : Prop :=
  ∀ (s : State) (l : Fin 8) (a : Act) (x : Fin 32) (far : BitVec 26) (disp : BitVec 21) (imm : BitVec 16), s.Clean l a →
    let e := (s.lane l).eng
    let sb := e.sb.toNat
    let f := sb + s.item (sb - 8) 8
    sb % 8 = 0 → s.stackStart l a.part + 32 ≤ sb →
    (s.denied a.part (sb - 8) false = none → s.defined (sb - 8) 8 = true → f % 8 = 0 → f + 64 ≤ s.stackLimit l a.part →
      s.allows a.part 30 f = false → s.allows a.part 30 (f + 24) = false →
      (∀ i ∈ [0, 8, 16, 24], s.denied a.part ((f + i) % 2 ^ 64) true = none) →
      let rec_ := fun (u : State) => u.bytes f 8 = leBytes 8 (s.pcPlus l 4).toNat ∧
        u.bytes (f + 8) 8 = leBytes 8 e.ib.toNat ∧ u.bytes (f + 16) 8 = leBytes 8 sb ∧ u.bytes (f + 24) 8 = leBytes 8 0 ∧
        ∀ y, y < f ∨ f + 32 ≤ y → u.byte y = s.byte y
      Completes (exec (.call l far) s) (fun u => rec_ u ∧ (u.lane l).eng =
        { e with pc := s.pcPlus l 4 + 4 * far.signExtend 40, sb := BitVec.ofNat 40 (f + 32) }) ∧
      Completes (exec (.callfb l x disp) s) (fun u => rec_ u ∧ (u.lane l).eng =
        { e with pc := s.pcPlus l 4 + 4 * disp.signExtend 40, sb := BitVec.ofNat 40 (f + 32), ib := s.gpr l x })) ∧
    (sb + imm.toNat * 8 + 64 ≤ s.stackLimit l a.part → s.allows a.part 30 (sb - 8) = false →
      s.denied a.part (sb - 8) true = none →
      Completes (exec (.enter l imm) s) fun u => Stored s u l (sb - 8) 8 (imm.toNat * 8)) ∧
    (sb ≤ s.stackLimit l a.part → (∀ i ∈ [0, 8, 16, 24], s.denied a.part (sb - 32 + i) false = none) →
      (∀ i ∈ [0, 8, 16, 24], s.defined (sb - 32 + i) 8 = true) →
      (s.item (sb - 32) 8 ≠ 0 →
        Completes (exec (.ret l) s) fun u => u.mem = s.mem ∧ (u.lane l).eng = { e with
          pc := BitVec.ofNat 40 (s.item (sb - 32) 8), ib := BitVec.ofNat 64 (s.item (sb - 24) 8),
          sb := BitVec.ofNat 40 (s.item (sb - 16) 8) }) ∧
      (s.item (sb - 32) 8 = 0 → s.awaits a = false → a.taken = [] → (s.task a.task).app = none → a.task < 512 →
        Completes (exec (.ret l) s) fun u => (u.lane l).act = none ∧
          u.fld (Fld.PRT_TACT_done a.task) = (s.fld (Fld.PRT_TACT_done a.task) + 1) % 2 ^ 32))

/-- TRAP, BRK, CHK that fails, words that trap ILLEGAL and a denied fetch end the activation. On a lane that executes
undisturbed, by a task that has not had two such endings in a row: TRAP traps USER with its code, BRK with no debugger
traps BREAK, CHK with g[a] not below g[b] traps BOUNDS, and a word that R141 makes illegal traps ILLEGAL: each ends
the activation with the event record of R152 and one trap more on the task's count. With a debugger attached to the
lane in COMMISSION, BRK halts the lane instead. At a pc that no x window holds, the fetch is a protection fault that
ends the activation and counts likewise. A code word splits into fields as R142 lays them out: the words of every
instruction, with all its operands, spell that instruction again, and a word that spells none is one that R141 makes
illegal. (R100, R141, R142, R145, R146, R148, R151, R152) -/
def Obligations.TrapsEndTheActivation : Prop :=
  (∀ (c : Instr) (l : Fin 8) (w : Word) (ws : List Word), codeWords c = some (l, w :: ws) →
    codeCommand l w (ws.headD 0) = some c) ∧
  (∀ (l : Fin 8) (w next : Word), codeCommand l w next = none → illegalWord w = true) ∧
  ∀ (s : State) (l : Fin 8) (a : Act) (x y : Fin 32) (imm : BitVec 16) (w : BitVec 32),
    (s.task a.task).traps ≠ 2 →
    (s.Clean l a →
      Completes (exec (.trap l imm) s) (fun u => Trapped s u l a 8 imm.toNat (encI 0x18 0 0 imm.toNat)) ∧
      Completes (exec (.brk l) s) (fun u => Trapped s u l a 9 0 (encJ 0x19 0)) ∧
      (s.gpr l y ≤ s.gpr l x →
        Completes (exec (.chk l x y) s) fun u => Trapped s u l a 4 0 (encR 0x0B 0 x y 0 0)) ∧
      (illegalWord w = true →
        Completes (exec (.illegalInstruction l w) s) fun u => Trapped s u l a 1 0 w)) ∧
    (s.ready l = some a → s.allows a.part 30 (s.lane l).eng.pc.toNat = true → s.lks.haltReq = false →
      s.lks.attached = some l.val → s.mode = mCommission → SMap.get 0 (l / 2) s.lks.armed = 0 → s.pfc = [] →
      s.red.queue = [] → s.lks.steps = 0 → (s.fetchCost l a.part (s.lane l).eng.pc.toNat).isSome = true →
      Completes (exec (.brk l) s) fun u => (u.lane l).act.map (·.halted) = some true ∧ u.mem = s.mem) ∧
    (s.ready l = some a → s.allows a.part 30 (s.lane l).eng.pc.toNat = false → s.lks.attached = none →
      Completes (exec (.fetchProtectionFault l) s) fun u => (u.lane l).act = none ∧
        (u.task a.task).traps = (s.task a.task).traps + 1)

/-- TIME loads station time and leaves it in the agreement buffer. On a lane of an unsplit pair that executes undisturbed,
with room in its agreement buffer: TIME gives g[d] the station time, adds one entry with the activation's instruction
count, kind 3 and that value, moves pc one word on, and leaves memory and every other lane as before. With 16 entries
waiting the lane stalls instead and nothing else changes. (R59, R150, R180) -/
def Obligations.TimeIsAnAgreedValue : Prop :=
  ∀ (s : State) (l : Fin 8) (a : Act) (d : Fin 32), s.Clean l a → s.laneSplit l = false →
    let v := BitVec.ofNat 64 s.time
    ((s.lane l).agr.length < 16 → Completes (exec (.time l d) s) fun u =>
      u.gpr l d = (if d = 0 then 0 else v) ∧ (u.lane l).agr = (s.lane l).agr ++ [⟨a.count, 3, v⟩] ∧
      (u.lane l).eng.pc = s.pcPlus l 4 ∧ u.mem = s.mem ∧ (∀ r, r ≠ d.val → u.gpr l r = s.gpr l r) ∧
      ∀ k, k ≠ l.val → u.lane k = s.lane k) ∧
    (16 ≤ (s.lane l).agr.length → Completes (exec (.time l d) s) fun u =>
      u.lane l = { s.lane l with stalled := true } ∧ u.mem = s.mem ∧ ∀ k, k ≠ l.val → u.lane k = s.lane k)

/-- What the keyed register commands do with their key, and that they do nothing without it. For every state: SYS_RST with
its key resets the module into BOOT with cause COMMANDED, or IMAGE_END from SERVICE after an IMG_SELECT, and with
another key only files a record; SYS_MODE_SET with its key schedules the mode; FIO_KICK and RED_HBKICK with their keys
restart their watchdogs; RED_CLAIMCTL with its key raises the claim last written to MRAM or drops the claim, and with
another key leaves it (of a management pair whose last access has ended); LKS_INJECT with its key arms a pair in COMMISSION; SAF_TEST with its key inverts the next
decision in COMMISSION alone; AGE_OPSET with its key names the station point of the next plan. (R42, R54, R193, R199,
R213, R216, R396, R473, R574) -/
def Obligations.KeyedRegisterCommands : Prop :=
  ∀ (s : State) (m : Fin 8) (p : Fin 4) (op : Fin 4) (key : BitVec 16) (low : BitVec 1), s.slowOf 0 = none →
    Completes (exec (.sysRst 0xC8A50001) s) (fun u => u.mode = mBoot ∧ u.pending = s.pending ∧ u.nv.claim = s.nv.claim ∧
      u.fld Fld.SYS_RSTCAUSE_cause = (if s.mode = mService ∧ s.sys.imgSel = true then 7 else 4)) ∧
    (key ≠ 0xC8A5 → Completes (exec (.sysRst (key ++ (low.setWidth 16))) s) fun u =>
      u.mode = s.mode ∧ u.evr.inbox.length = s.evr.inbox.length + 1) ∧
    Completes (exec (.sysModeSet (wd (0x3D6E0000 + m.val))) s) (fun u => u.sys.modeAt = some (m.val, 255) ∧ u.mode = s.mode) ∧
    Completes (exec (.fioKick 0x5C3E0000) s) (fun u => u.fio.sending = true ∧ u.outs = s.outs) ∧
    Completes (exec (.redHbkick 0xB3A10000) s) (fun u => u.red.hbOff = false ∧ u.reg Reg.RED_CLAIM = s.reg Reg.RED_CLAIM) ∧
    Completes (exec (.claimRaise 0x7E1D) s) (fun u => u.reg Reg.RED_CLAIM = s.nv.claim) ∧
    Completes (exec (.claimDrop 0x7E1D) s) (fun u => u.reg Reg.RED_CLAIM = 0 ∧ u.nv.claim = s.nv.claim) ∧
    (key ≠ 0x7E1D →
      Completes (exec (.claimRaise key) s) (fun u => u.reg Reg.RED_CLAIM = s.reg Reg.RED_CLAIM) ∧
      Completes (exec (.claimDrop key) s) (fun u => u.reg Reg.RED_CLAIM = s.reg Reg.RED_CLAIM)) ∧
    (s.mode = mCommission → s.fbit Fld.LKS_CFG_split p = false → s.pairUsable p = true →
      Completes (exec (.lksInject p (wd (0x1A5C0011 + m.val))) s) fun u => SMap.get 0 p.val u.lks.armed = m.val + 1) ∧
    (s.mode ≠ mCommission → Completes (exec (.lksInject p (wd (0x1A5C0011 + m.val))) s) fun u => u.lks = s.lks) ∧
    Completes (exec (.safTest 0x6B2D0001) s) (fun u => u.saf.flip = (s.saf.flip || decide (s.mode = mCommission))) ∧
    Completes (exec (.ageOpset (wd (0x9C470000 + op.val))) s) (fun u =>
      u.prt.opNext = some op.val ∧ u.isSet Fld.AGE_OP_pending = true ∧ u.fld Fld.AGE_OP_station = s.fld Fld.AGE_OP_station)

/-- What a register write loads, what it refuses, and where it stops. A write of the management pair, with none of its
accesses waiting in a slow domain: to a selection register of CE, PG, AD, PH, RIO, SAF, EVR or QE, a value inside the
field's range reads back, a value of the field outside its range changes nothing and latches the block's range error,
and a value beyond the field stops with the fault reservedField, since R10 calls its effect undefined; to a register
of PRT while PRT_LOCK is set, the register keeps its value; to an address that no table names, the block latches a
decode error; to a register of a slow domain, the access waits there. PRT_LOCK_SET sets the lock, and a second one
leaves it set. (R10, R19, R50, R62, R68, R71) -/
def Obligations.RegisterWritesLoadOrRefuse : Prop :=
  ∀ (s : State) (v : Word) (k w lo hi : Nat), s.slowOf 0 = none →
    let write := exec (.registerWrite (BitVec.ofNat 19 (k / 4)) v) s
    ((k, w, lo, hi) ∈ [(Reg.CE_SLOTSEL, 10, 0, 1023), (Reg.PG_GENSEL, 6, 0, 63), (Reg.AD_ACTSEL, 12, 0, 4095),
        (Reg.PH_SEL, 3, 0, 4), (Reg.RIO_UNITSEL, 8, 16, 255), (Reg.SAF_INSTSEL, 8, 0, 255), (Reg.EVR_DEFSEL, 8, 0, 255),
        (Reg.QE_QSEL, 13, 0, 8191)] →
      (lo ≤ v.toNat ∧ v.toNat ≤ hi → Completes write fun u => u.fld ⟨k, w - 1, 0⟩ = v.toNat ∧ u.mem = s.mem ∧
        ∀ j, plainReg j = true → j ≠ k → u.reg j = s.reg j) ∧
      (v.toNat < 2 ^ w ∧ (v.toNat < lo ∨ hi < v.toNat) → Completes write fun u => u.reg k = s.reg k ∧
        u.isSet (Fld.BLK_ACCERR_range (k / 65536)) = true) ∧
      (2 ^ w ≤ v.toNat → write = .fault (.reservedField k))) ∧
    (s.isSet Fld.PRT_LOCK_lock = true →
      k ∈ [Reg.PRT_WIN_BASE 3 1, Reg.PRT_WIN_SIZE 63 15, Reg.PRT_LANES, Reg.PRT_LOCK] →
      Completes write fun u => u.reg k = s.reg k) ∧
    (k % 4 = 0 → k < 0x160000 → s.regInfo k = none → Completes write fun u =>
      u.isSet (Fld.BLK_ACCERR_decode (k / 65536)) = true ∧ u.mem = s.mem) ∧
    (k ∈ [Reg.PNL_TIMING, Reg.PNL_DRIVE, Reg.PNL_WEARADDR] → Completes write fun u =>
      u.sys.slow = s.sys.slow ++ [⟨0, 0, k, true, v, none, none⟩] ∧ u.reg k = s.reg k) ∧
    Completes (exec .prtLockSet s) fun u => u.isSet Fld.PRT_LOCK_lock = true

/-- What a register read returns and clears, and how a slow access ends. A read of the management pair, with none of its
accesses waiting, of a register outside the slow domains and the debug port: it returns the word in view without the
write-only fields, and clears the clear-on-read fields of the register and nothing else of it. A slow read that
completes leaves the slow domain and returns the word in view; one that times out leaves it, returns 0, and latches
the block's timeout error; that of a lane whose activation has ended returns nothing. PNL_WEARDATA_READ begins a slow read, whose end restarts the pixel's accumulator and moves the
address on; PNL_PUMP_TOGGLE has switched the pump off and begun the slow write that switches it on again.
(R10, R63, R64, R68, R69, R545, R547) -/
def Obligations.RegisterReadsClearWhatTheyReturn : Prop :=
  ∀ (s : State) (k : Nat) (r : RegInfo) (m : Fin 16) (a : SlowAcc),
    (s.slowOf 0 = none → s.regInfo k = some r → r.slow = false → k < 0x160000 → k % 4 = 0 → plainReg k = true →
      k ≠ Reg.LKS_DBGDATA → k ≠ Reg.LKS_DBGMEM →
      Completes (exec (.rcRead (BitVec.ofNat 19 (k / 4))) s) fun u =>
        u.sys.rdata = s.regView k &&& ~~~(accMask r.fields .wo) ∧ u.reg k = s.reg k &&& ~~~(accMask r.fields .rc) ∧
        u.mem = s.mem) ∧
    (s.slowOf m = some a → a.lane = none → a.write = false → s.regInfo a.key = some r → r.slow = true →
      a.key ≠ Reg.LKS_DBGDATA → a.key ≠ Reg.LKS_DBGMEM →
      Completes (exec (.slowAccessDone m) s) fun u =>
        u.sys.slow = s.sys.slow.filter (·.master != m.val) ∧
        u.sys.rdata = (if m = 0 then s.regView a.key &&& ~~~(accMask r.fields .wo) else s.sys.rdata)) ∧
    (s.slowOf m = some a → a.lane = none → a.write = false →
      Completes (exec (.slowAccessTimeout m) s) fun u => u.sys.slow = s.sys.slow.filter (·.master != m.val) ∧
        u.sys.rdata = (if m = 0 then 0 else s.sys.rdata) ∧ (a.key < 0x160000 → u.isSet (Fld.BLK_ACCERR_timeout (a.key / 65536)) = true)) ∧
    (let px := s.fld Fld.PNL_WEARADDR_pixel
    let drive := (s.shadowOf Reg.PNL_DRIVE .frm).getD (s.reg Reg.PNL_DRIVE)
    (s.slowOf 0 = none → Completes (exec .pnlWeardataRead s) fun u =>
      u.sys.slow = s.sys.slow ++ [⟨0, 0, Reg.PNL_WEARDATA, false, 0, none, none⟩] ∧ u.pnl.acc = s.pnl.acc ∧
      u.sys.rdata = s.sys.rdata) ∧
    (s.slowOf 0 = some ⟨0, 0, Reg.PNL_WEARDATA, false, 0, none, none⟩ → Completes (exec (.slowAccessDone 0) s) fun u =>
      u.sys.rdata = wd (s.wearFrames px * 256 + SMap.get 128 px s.pnl.gains) ∧ SMap.get 0 px u.pnl.acc = 0 ∧
      u.fld Fld.PNL_WEARADDR_pixel = (px + 1) % 2 ^ 14) ∧
    (s.slowOf 0 = none → bits drive 15 8 ≤ 80 → Completes (exec .pnlPumpToggle s) fun u =>
      u.isSet Fld.PNL_DRIVE_pump = false ∧ ∃ w, bit w 16 = true ∧ bits w 15 8 = bits drive 15 8 ∧
        u.sys.slow = s.sys.slow ++ [⟨0, 0, Reg.PNL_DRIVE, true, w, none, none⟩]) ∧
    ∀ w, s.slowOf 0 = some ⟨0, 0, Reg.PNL_DRIVE, true, w, none, none⟩ → bits w 31 18 = 0 → bits w 15 8 ≤ 80 →
      bit w 16 = true → Completes (exec (.slowAccessDone 0) s) fun u => u.isSet Fld.PNL_DRIVE_pump = true ∧
        (s.isSet Fld.PNL_DRIVE_pump = false → s.sys.holdup = false → u.fld Fld.PNL_STAT_state = 1 ∧ u.pnl.barred = false))

/-- What the request and response indices of a mailbox do when they are written. For every mailbox: a request head that
moves forward by no more than the free slots stands, rings the mailbox's doorbell and names partition 0 for the
management pair; a head that moves further changes nothing and latches the range error of MBX. A response tail that
moves forward by no more than the occupied slots stands. A task on a lane whose partition may not reach the mailbox
meets a protection fault, and its activation ends. (R62, R78, R98) -/
def Obligations.MailboxIndicesRing : Prop :=
  ∀ (s : State) (m : Fin 72) (h : BitVec 16) (l : Fin 8) (a : Act),
    let free := 32 - s.reqCount m
    let step := (h.toNat + 65536 - s.fld (Fld.MBX_REQ_HEAD_head m)) % 65536
    let back := (h.toNat + 65536 - s.fld (Fld.MBX_RSP_TAIL_tail m)) % 65536
    (s.slowOf 0 = none →
    (step ≤ free → Completes (exec (.mbxReqHeadWrite m none h) s) fun u => u.fld (Fld.MBX_REQ_HEAD_head m) = h.toNat ∧
      u.fbit (Fld.MBX_DOORBELL_ring (m / 32)) (m % 32) = true ∧ u.fld (Fld.MBX_STAT_part m) = 0 ∧ u.mem = s.mem) ∧
    (free < step → Completes (exec (.mbxReqHeadWrite m none h) s) fun u =>
      u.fld (Fld.MBX_REQ_HEAD_head m) = s.fld (Fld.MBX_REQ_HEAD_head m) ∧ u.isSet (Fld.BLK_ACCERR_range 2) = true) ∧
    (back ≤ s.rspCount m → Completes (exec (.mbxRspTailWrite m none h) s) fun u =>
      u.fld (Fld.MBX_RSP_TAIL_tail m) = h.toNat)) ∧
    ((s.lane l).act = some a → a.part ≠ m.val → (s.task a.task).traps ≠ 2 →
      Completes (exec (.mbxReqHeadWrite m (some l) h) s) (fun u => (u.lane l).act = none) ∧
      Completes (exec (.mbxRspTailWrite m (some l) h) s) (fun u => (u.lane l).act = none))

/-- What the allocation, free, enqueue and dequeue ports of the queue engine do. For every partition and kind of element:
an allocation with a free element and use below the quota answers the handle of the lowest free element, charges it to
the partition and raises its use by one; without, it answers EMPTY. Freeing a buffer that is allocated takes it off
the table and lowers its partition's use. A dequeue of an enabled queue answers its oldest untaken message, which
leaves the queue; of an empty or disabled one, EMPTY (with no slow access of the management pair waiting). An enqueue on a queue with room appends the descriptor; one whose handles are no handles is out of range. (R239,
R240, R244, R245, R247) -/
def Obligations.QueueEnginePort : Prop :=
  ∀ (s : State) (kind : Fin 3) (p : Fin 64) (h : BitVec 16) (q : Fin 8192) (i d : Nat) (e : BitVec 14),
    s.slowOf 0 = none →
    (s.freeElem kind = some i → s.fld (useFld kind p) < s.quotaOf kind p →
      Completes (exec (.qeAllocreq kind p) s) fun u => u.reg Reg.QE_ALLOCRES = wd (handleOf kind i) ∧
        u.chargeOf kind i = p.val + 1 ∧ u.fld (useFld kind p) = (s.fld (useFld kind p) + 1) % 2 ^ (useFld kind p).width) ∧
    (s.freeElem kind = none ∨ s.quotaOf kind p ≤ s.fld (useFld kind p) →
      Completes (exec (.qeAllocreq kind p) s) fun u => u.reg Reg.QE_ALLOCRES = 0x1FFFF ∧ u.qe = s.qe) ∧
    (handleElem h.toNat = some (kind.val, i) → s.chargeOf kind i = p.val + 1 →
      Completes (exec (.qeFreebuf h) s) fun u => u.chargeOf kind i = 0 ∧
        u.fld (useFld kind p) = s.fld (useFld kind p) - 1) ∧
    (s.qEn q = true → s.front q = some d →
      Completes (exec (.qeDeqreq q) s) fun u => u.reg Reg.QE_DEQRES = wd d ∧
        (u.queue q).msgs = (s.queue q).msgs.filter (· != d)) ∧
    (s.qEn q = false ∨ s.front q = none →
      Completes (exec (.qeDeqreq q) s) fun u => u.reg Reg.QE_DEQRES = 0x8000 ∧ u.qe = s.qe) ∧
    (let k := bits (s.descWord e.toNat 0) 28 16
     ((s.descHandles e.toNat).all handleOk = false → Completes (exec (.qeEnq e) s) fun u => u.qe = s.qe ∧
       u.isSet (Fld.BLK_ACCERR_range 3) = true) ∧
     ((s.descHandles e.toNat).all handleOk = true → s.qEn k = true → s.depth k + (s.queue k).reserved < s.qLimit k →
      Completes (exec (.qeEnq e) s) fun u => (u.queue k).msgs = (s.queue k).msgs ++ [e.toNat] ∧
        (u.queue k).seq = ((s.queue k).seq + 1) % 65536))

/-- What the debugger commands do to the attached lane. Attach takes the lane where R189 allows it and no lane is held;
detach lets it go, clears a waiting halt and step count, and ends a halted activation without publish; halt stops a
lane that stands ready, through the agreement buffer, where an injected mismatch of kind 8 fails the pair instead; resume and step let a halted activation go on, a step for its count, a count of 0 being out of
range; a register write replaces
one half of a general register of the halted activation; a memory access in a window that permits it reads or writes
one word, outside register space, and leaves every other byte. (R189, R190, R191, R192) -/
def Obligations.DebuggerCommands : Prop :=
  ∀ (s : State) (l : Fin 8) (a : Act) (n : BitVec 16) (r : Fin 32) (half : Bool) (v : BitVec 32) (w : BitVec 38),
    s.slowOf 0 = none →
    (s.mayDebug = true → s.lks.attached = none →
      Completes (exec (.debugAttach l) s) fun u => u.lks.attached = some l.val ∧ u.isSet Fld.LKS_DBGSTAT_attached = true) ∧
    (s.mayDebug = false → Completes (exec (.debugAttach l) s) fun u => u.lks.attached = s.lks.attached) ∧
    Completes (exec .debugDetach s) (fun u => u.lks.attached = none) ∧
    (s.lks.attached = some l.val → (s.lane l).act = some a →
      (a.halted = true → Completes (exec .debugDetach s) fun u => u.lks.attached = none ∧ u.lks.haltReq = false ∧
        u.lks.steps = 0 ∧ (u.lane l).act = none) ∧
      (s.ready l = some a → SMap.get 0 (l / 2) s.lks.armed = 0 → Completes (exec .debugHalt s) fun u =>
        (u.lane l).act = some { a with halted := true } ∧ ∃ v, v ∈ (u.lane l).agr ∧ v.count = a.count ∧ v.kind = 20) ∧
      (s.ready l = some a → s.laneSplit l = false → s.pairUsable (l / 2) = true → SMap.get 0 (l / 2) s.lks.armed = 8 →
        Completes (exec .debugHalt s) fun u => (u.lane l).act = none ∧ u.pairUsable (l / 2) = false ∧
          u.fld (Fld.LKS_FAILINFO_kind (l / 2)) = 10) ∧
      (s.ready l = none → Completes (exec .debugHalt s) fun u => u.lks.haltReq = true ∧ u.lane l = s.lane l) ∧
      (a.halted = true →
        Completes (exec .debugResume s) (fun u => (u.lane l).act = some { a with halted := false } ∧ u.lks.steps = 0) ∧
        (n ≠ 0 → Completes (exec (.debugStep n) s) fun u =>
          (u.lane l).act = some { a with halted := false } ∧ u.lks.steps = n.toNat) ∧
        (n = 0 → Completes (exec (.debugStep n) s) fun u => u.lane l = s.lane l ∧
          u.isSet (Fld.BLK_ACCERR_range 13) = true) ∧
        (r ≠ 0 → Completes (exec (.debugRegWrite (r.castLE (by decide)) half v) s) fun u => u.gpr l r =
          (if half then v ++ (s.gpr l r).setWidth 32 else ((s.gpr l r).extractLsb' 32 32) ++ v)) ∧
        (let x := 4 * w.toNat
        regionOf x ≠ some 2 →
          (s.denied a.part x false = none → s.defined x 4 = true → Completes (exec (.debugMemAccess w none) s) fun u =>
            u.sys.rdata = wd (s.item x 4) ∧ u.mem = s.mem) ∧
          (s.denied a.part x true = none → regionOf x ≠ some 0 →
            Completes (exec (.debugMemAccess w (some v)) s) fun u =>
              u.bytes x 4 = leBytes 4 v.toNat ∧ ∀ y, y < x ∨ x + 4 ≤ y → u.byte y = s.byte y))))

/-- What windows, suspension, resumption and budgets do to the activation on a lane. A valid entry of the slot table opens
its partition's window on a usable lane and clears the lane's registers. A window that ends takes its partition off
the lane and suspends an unfinished activation with its registers; a suspended one resumes with them in a window of
its partition. A pending task starts with count 0 in the open window. A spent budget ends the activation without
publish and raises the overrun alarm. (R25, R27, R110, R111, R114, R115, R116) -/
def Obligations.LaneWindowsAndBudgets : Prop :=
  ∀ (s : State) (l : Fin 8) (e : Fin 256) (a : Act) (eng : Engine) (p n v0 t : Nat) (tr : Trig), s.leeward = false →
    (s.slowOfLane l = none → (s.lane l).window = none → s.laneUsable l = true →
      (s.laneEntries s.planBase l)[e.val]? = some (v0, n, p, true) →
      Completes (exec (.windowStart l e) s) fun u => (u.lane l).window = some p ∧ (u.lane l).eng = {} ∧
        (u.lane l).openAt = s.sys.tc0 + 12500 * v0 + 1500) ∧
    (s.slowOfLane l = none → (s.lane l).window = some p → (s.lane l).act = none →
      Completes (exec (.windowEnd l) s) fun u => (u.lane l).window = none ∧ (u.lane l).act = none) ∧
    (s.slowOfLane l = none → (s.lane l).window = some p → s.windowStop l = none → (s.lane l).act = some a → s.led a = false →
      s.fld (Fld.PRT_RUNUSED_used l) < a.budget → SMap.get 0 (l / 2) s.lks.armed = 0 →
      Completes (exec (.windowEnd l) s) fun u => (u.lane l).window = none ∧ (u.lane l).act = none ∧
        (u.task a.task).susp = some ({ a with used := s.fld (Fld.PRT_RUNUSED_used l) }, (s.lane l).eng)) ∧
    (s.runsCode = true → (s.lane l).act = none → (s.lane l).window = some p → s.suspendedOn l p = some t →
      (s.task t).susp = some (a, eng) → a.halted = false → s.led a = false → SMap.get 0 (l / 2) s.lks.armed = 0 →
      Completes (exec (.activationResume l) s) fun u => (u.lane l).act = some a ∧ (u.lane l).eng = eng ∧
        (u.task t).susp = none) ∧
    (s.runsCode = true → s.laneUsable l = true → (s.lane l).act = none → (s.lane l).window = some p →
      s.refreshDomains.suspendedOn l p = none → s.refreshDomains.lane l = s.lane l → s.refreshDomains.leeward = false →
      s.refreshDomains.red.crossing = false → s.refreshDomains.gaveUp = false →
      (s.refreshDomains.advance ((s.lane l).openAt - s.refreshDomains.clk)).nextTask l p = some (t, tr) →
      Completes (exec (.activationStart l) s) fun u =>
        (u.lane l).act.map (fun b => (b.task, b.count, b.halted, b.gate)) = some (t, 0, false, false) ∧
        (u.task t).pending = none ∧ (u.lane l).eng.g = []) ∧
    ((s.lane l).act = some a → a.halted = false → s.led a = false → s.slowOfLane l = none →
      s.fld (Fld.PRT_TSTAT_consec a.task) < 2 → a.task < 512 → a.taken = [] → a.resv = [] →
      (∀ x ∈ s.prt.lanes, x.1 < 8) → s.pfc = [] → SMap.get 0 (l / 2) s.lks.armed = 0 →
      Completes (exec (.budgetExhausted l) s) fun u => (u.lane l).act = none ∧ alertId 116 a.task ∈ u.sys.alerts)

/-- What the map copy, the credit window, the agreement buffer and a compare mismatch do. The end of a map copy makes the
working map the committed one and touches no other byte. A credit window clears the partitions' use, shows it as the
last, and lets those that waited go on. A freed agreement entry is the oldest. A mismatch on a usable, unsplit pair
marks the pair unusable, disarms it, and ends what runs on both its lanes; on a split pair, kinds other than 9 do
nothing. (R119, R159, R177, R180, R182, R186) -/
def Obligations.LaneUpkeepCommands : Prop :=
  ∀ (s : State) (t : Fin 512) (p : Fin 64) (l : Fin 8) (kind : Fin 10),
    (let b := s.taskInst t
     let k := s.instSel b
     let m := mapBytes (s.instSize b)
     (s.task t).copying = true → Completes (exec (.mapCopyComplete t) s) fun u => (u.task t).copying = false ∧
       u.bytes (s.mapBase b (1 - k)) m = s.bytes (s.mapBase b k) m ∧
       ∀ y, y < s.mapBase b (1 - k) ∨ s.mapBase b (1 - k) + m ≤ y → u.byte y = s.byte y) ∧
    ((s.task t).copying = false → Completes (exec (.mapCopyComplete t) s) fun u => u.mem = s.mem) ∧
    (let used := SMap.get 0 p.val s.prt.dram
     let spent := s.dramCredits p.val
     Completes (exec .dramCreditWindow s) (fun u => SMap.get 0 p.val u.prt.dram = used - spent ∧ u.prt.waiting = [] ∧
      u.mem = s.mem ∧ u.fld (Fld.PRT_USE_DRAM_last p) = min spent used % 2 ^ (Fld.PRT_USE_DRAM_last p).width ∧
      (spent < used → s.prt.waiting.contains p.val = false →
        u.fld (Fld.PRT_USE_DRAM_stalls p) = satInc 16 (s.fld (Fld.PRT_USE_DRAM_stalls p))))) ∧
    Completes (exec (.agreementBufferFree l) s) (fun u => (u.lane l).agr = (s.lane l).agr.drop 1 ∧ u.mem = s.mem ∧
      ∀ k, k ≠ l.val → u.lane k = s.lane k) ∧
    (s.laneSplit l = false → s.pairUsable (l / 2) = true → s.leeward = false →
      Completes (exec (.compareMismatch l kind) s) fun u =>
        u.nv.pairMarks.testBit (l / 2) = true ∧ SMap.get 0 (l / 2) u.lks.armed = 0 ∧
        (u.lane (2 * (l / 2))).act = none ∧ (u.lane (2 * (l / 2) + 1)).act = none) ∧
    (s.laneSplit l = true → kind ≠ 9 → Completes (exec (.compareMismatch l kind) s) fun u =>
      u.prt = s.prt ∧ u.lks = s.lks ∧ u.mem = s.mem)

/-- A request that R613 refuses before its own checks is answered with that status, and nothing it asks for happens. For
every command of the catalogue (all 38 mailbox rows), from a partition, Pliuz or the panel, at a mailbox that takes it
at once: where the checks of R613 up to the session refuse it, the response carries the refusal's status, its reason
and its argument index, with the request's opcode and tag; the sessions, the records in force, the scheduled mode, the
forces and the image store are as before. (R79, R81, R83, R87, R95, R613) -/
def Obligations.RefusedRequestsAreAnswered : Prop :=
  ∀ (s : State) (c : Instr) (m op tag st reason arg : Nat) (ws : List Word), asks c = some (m, op, tag, ws) →
    ws.length ≤ 60 → s.Open m → s.refuses m op ws = some (st, reason, arg) →
    Completes (exec c s) fun u => Answered s u m op tag st [wd (reason + arg * 65536)] ∧ u.fw.sessions = s.fw.sessions ∧
      u.cfg = s.cfg ∧ u.sys.modeAt = s.sys.modeAt ∧ u.fw.forces = s.fw.forces ∧ u.fw.store = s.fw.store

/-- What the query commands answer, and that they change neither records nor sessions. At a mailbox that takes the request
at once, not refused by R613: ECHO answers its payload; TIME_STATUS station time, offset and flags; DIAG_STATUS mode,
status, reset cause and the last placement report; RED_STATUS state, claim, partner and the last lull; CFG_READ the
record's length and its words from the offset; PLACE_REPORT likewise of a report that is held; SAFE_CHECK the check
value of a loaded set and whether it is confirmed; EVR_READ the words of a valid record; COUNTER_READ the counters of
one area to Pliuz. A report, a set or a record that is not there is answered EMPTY. (R87, R88, R95, R135, R237, R588,
R614) -/
def Obligations.QueriesAnswerWhatStands : Prop :=
  ∀ (s : State) (m : Fin 68) (tag : BitVec 16) (x y : Word) (pay : List Word), s.Open m →
    let ok := fun (op : Nat) (ws : List Word) (u : State) =>
      Answered s u m op tag.toNat 0 ws ∧ u.cfg = s.cfg ∧ u.fw.sessions = s.fw.sessions
    let empty := fun (op : Nat) (u : State) => Answered s u m op tag.toNat 0x0C [wd 0xFFFF0000]
    (s.refuses m 0x0705 pay = none → pay.length ≤ 60 → Completes (exec (.echo m tag pay) s) (ok 0x0705 pay)) ∧
    (s.refuses m 0x0601 [] = none → Completes (exec (.timeStatus m tag) s) (ok 0x0601 [hi32 s.time, lo32 s.time,
      s.reg Reg.TU_OFFSET, wd (b1 (s.isSet Fld.TU_STAT_holdover) + 2 * b1 (s.isSet Fld.TU_STAT_refused))])) ∧
    (s.refuses m 0x0701 [] = none → Completes (exec (.diagStatus m tag) s) (ok 0x0701 [s.reg Reg.SYS_MODE,
      s.reg Reg.SYS_STAT, s.reg Reg.SYS_RSTCAUSE, wd s.prt.reportId])) ∧
    (s.refuses m 0x0302 [] = none → Completes (exec (.redStatus m tag) s) (ok 0x0302 [s.reg Reg.RED_STATE,
      s.reg Reg.RED_CLAIM, wd s.sys.peer, wd (s.fld Fld.RED_LULL_last)])) ∧
    (s.refuses m 0x0106 [x, y] = none →
      (let r := s.rec_ 0x10 (x.toNat % 16)
       x.toNat / 16 = 0x100000 → m.val = 64 → y.toNat = 0 → r ≠ [] → r.length ≤ 59 →
        Completes (exec (.cfgRead m tag x y) s) (ok 0x0106 (wd (4 * r.length) :: r)))) ∧
    (s.refuses m 0x0204 [x, y] = none →
      (s.prt.reports.find? (·.1 == x.toNat) = none → y.toNat % 4 = 0 →
        Completes (exec (.placeReport m tag x y) s) (empty 0x0204)) ∧
      (y.toNat % 4 ≠ 0 → Completes (exec (.placeReport m tag x y) s) fun u =>
        Answered s u m 0x0204 tag.toNat 0x03 [wd 0x00010004]) ∧
      (∀ r, s.prt.reports.find? (·.1 == x.toNat) = some (x.toNat, r) → y.toNat % 4 = 0 → y.toNat < 4 * r.length →
        Completes (exec (.placeReport m tag x y) s)
          (ok 0x0204 (wd (4 * r.length) :: (r.drop (y.toNat / 4)).take 59)))) ∧
    (s.refuses m 0x0402 [x] = none → x.toNat < 16 →
      (s.setLoaded x.toNat = false → Completes (exec (.safeCheck m tag x) s) (empty 0x0402)) ∧
      (s.setLoaded x.toNat = true → Completes (exec (.safeCheck m tag x) s) (ok 0x0402 [setCheck (s.paramSet x.toNat),
        wd (b1 (SMap.get none x.toNat s.nv.confirmed == some (setCheck (s.paramSet x.toNat)) && !s.saf.bad.contains x.toNat)),
        wd (b1 s.classL)]))) ∧
    (s.refuses m 0x0501 [x] = none → x.toNat < 65536 → s.evValid x.toNat = false →
      Completes (exec (.evrRead m tag x) s) (empty 0x0501)) ∧
    (s.refuses m 0x0501 [x] = none → x.toNat < 65536 → s.evValid x.toNat = true → (s.evWords x.toNat).length ≤ 60 →
      Completes (exec (.evrRead m tag x) s) (ok 0x0501 (s.evWords x.toNat))) ∧
    (s.refuses m 0x0703 [x, y] = none → m.val = 64 → x.toNat + y.toNat ≤ 0x100 → 0 < y.toNat → y.toNat ≤ 28 →
      Completes (exec (.counterRead m tag x y) s) (ok 0x0703 ((upFrom x.toNat y.toNat).flatMap s.counterValue)))

/-- What CFG_OPEN, the staging commands, CFG_ABORT and the session time-out do to a session. At a mailbox that takes the
request at once, not refused by R613 nor by the command's own checks: CFG_OPEN opens the lowest free session with its
scope and mailbox and answers its number; CFG_WRITE, EVM_ROUTE, TASK_DECLARE, TASK_PIN, BUDGET_SET and SAFE_LOAD, and
CFG_WRITE of the archive command, add one stage to their session and answer OK; CFG_ABORT and the time-out end a
session. Nothing takes force: the records stay as they are. (R36, R87, R91, R95, R118, R124, R131, R479, R482) -/
def Obligations.SessionCommandsStage : Prop :=
  ∀ (s : State) (m : Fin 68) (tag : BitVec 16) (n x y z q : Word) (r : List Word) (ses : Fin 16), s.Open m →
    s.sessionBusy n.toNat = false →
    let staged := fun (op : Nat) (st : Stage) (pay : List Word) (u : State) =>
      u.ses n.toNat = { s.ses n.toNat with stages := (s.ses n.toNat).stages ++ [st] } ∧ u.cfg = s.cfg ∧
      Answered s u m op tag.toNat 0 pay
    (∀ k, s.refuses m 0x0102 [x] = none → (x.toNat ≤ 63 ∨ x.toNat = 0xFF) → foreign m x.toNat = false →
      ((s.fw.sessions.filterMap (·.2)).all fun y => x.toNat != 0xFF && y.scope != 0xFF && y.scope != x.toNat) = true →
      ((upFrom 1 15).find? fun n => (SMap.get none n s.fw.sessions).isNone) = some k →
      Completes (exec (.cfgOpen m tag x) s) fun u => SMap.get none k u.fw.sessions = some { scope := x.toNat, mbx := m.val, key := s.senderKey m } ∧
        u.cfg = s.cfg ∧ Answered s u m 0x0102 tag.toNat 0 [wd k]) ∧
    (let type := bits x 31 24
     let i := bits x 23 0
     ∀ ms, s.refuses m 0x0103 ([n, x] ++ r) = none → recLayout type i = some ms → undescribed ms r 0 = none →
      s.writeRefused m n.toNat type i (fullRecord ms r) = none → r.length ≤ 58 →
      Completes (exec (.cfgWrite m tag n x r) s) (staged 0x0103 (.record (recKey type i) (fullRecord ms r)) [])) ∧
    (s.refuses m 0x0107 [n, x] = none → x.toNat < 2 ^ 25 → bits x 7 0 < 120 → (s.ses n.toNat).scope = 0xFF →
      Completes (exec (.evmRoute m tag n x) s) (staged 0x0107
        (.route (bits x 7 0) (wd (bits x 15 8 + 256 * bits x 24 24 + 65536 * bits x 23 16))) [])) ∧
    (∀ t, s.refuses m 0x0201 (n :: r) = none → s.declRefused r = none → foreign m (declPart r) = false →
      (s.ses n.toNat).scope = 0xFF → wBit r 1 19 = false → s.declNumber n.toNat r = some t → r.length ≤ 59 →
      Completes (exec (.taskDeclare m tag n r) s) (staged 0x0201 (.declare t r) [wd t])) ∧
    (s.refuses m 0x0202 [n, x, y] = none → x.toNat ≤ 511 → (y.toNat ≤ 3 ∨ 8 ≤ y.toNat ∧ y.toNat ≤ 15) →
      Completes (exec (.taskPin m tag n x y) s) (staged 0x0202 (.pin x.toNat y.toNat 0) [])) ∧
    (s.refuses m 0x0205 [n, x, 0xFFFF, y, z] = none → x.toNat ≤ 63 → y.toNat ≤ 50 * s.fld (Fld.PRT_CEIL_TIME_time x.toNat) →
      z.toNat ≤ s.fld (Fld.PRT_CEIL_Q0_desc x.toNat) → (s.ses n.toNat).scope = 0xFF →
      Completes (exec (.budgetSet m tag n x 0xFFFF y z) s) (staged 0x0205 (.budget x.toNat 0xFFFF y.toNat z.toNat) [])) ∧
    (s.refuses m 0x0401 ([n, x, y] ++ r) = none → x.toNat ≤ 15 → y.toNat % 4 = 0 → y.toNat + 4 * r.length ≤ 32 + 64 * 255 →
      (s.classL = false ∨ s.saf.auth.contains n.toNat = true) → r.length ≤ 57 →
      Completes (exec (.safeLoad m tag n x y r) s) (staged 0x0401 (.safety x.toNat y.toNat r) [])) ∧
    (m.val = 64 → s.refuses m 0x0103 [n, 0x0C00FFFF, q] = none → (s.ses n.toNat).scope = 0xFF →
      s.saf.auth.contains n.toNat = true → Completes (exec (.changeLogArchive tag n q) s) fun u =>
        (u.ses n.toNat).stages.length = (s.ses n.toNat).stages.length + 1) ∧
    (s.refuses m 0x0105 [n] = none → Completes (exec (.cfgAbort m tag n) s) fun u =>
      SMap.get none n.toNat u.fw.sessions = none ∧ u.cfg = s.cfg ∧ Answered s u m 0x0105 tag.toNat 0 []) ∧
    (s.sessionBusy ses = false → Completes (exec (.sessionTimeout ses) s) fun u =>
      SMap.get none ses.val u.fw.sessions = none ∧ u.cfg = s.cfg ∧ u.mem = s.mem)

/-- What the commands that act at once or at the next boundary do. At a mailbox that takes the request at once, not
refused by R613 nor by the command's own checks, and with no partner in step for those carried by two phases: MODE_REQ
schedules the mode, asks for the Enter key, resets or is refused as R43 says; CFG_COMMIT closes its session and sets
its stages for the first boundary at least 1 ms ahead; FORCE, FORCE_RELEASE, TIME_STEP and a SAFE_CONFIRM that agrees
are set for that boundary too; RESET with its key resets into BOOT; KEY_ENROL keeps the key; PLACE_RUN asks for a run;
EVR_FREEZE and EVR_RELEASE freeze and release the ring; NOTIFY_SET sets the mask. (R43, R91, R95, R127, R172, R384,
R480, R504, R89, R615) -/
def Obligations.MailboxCommandsAct : Prop :=
  ∀ (s : State) (m : Fin 68) (tag : BitVec 16) (n x y : Word) (key : List Word), s.Open m →
    let who : Deferred := ⟨m, (s.mbox m).nextId⟩
    let done := fun (op : Nat) (pay : List Word) (u : State) => Answered s u m op tag.toNat 0 pay
    let due := s.boundaryAfter 1000000
    let set := fun (stages : List Stage) (u : State) => ∃ c ∈ u.fw.commits, c.stages = stages ∧ c.at_ = some due
    (s.refuses m 0x0101 [x] = none → x.toNat < 8 →
      (s.judgeMode x.toNat = .schedule → Completes (exec (.modeReq m tag x) s) fun u =>
        u.sys.modeAt = some (x.toNat, m.val) ∧ u.mode = s.mode ∧ done 0x0101 [] u) ∧
      (s.judgeMode x.toNat = .confirm → Completes (exec (.modeReq m tag x) s) fun u =>
        u.sys.confirm = some who ∧ u.sys.modeAt = s.sys.modeAt ∧
        u.fld (Fld.MBX_RSP_HEAD_head m) = s.fld (Fld.MBX_RSP_HEAD_head m)) ∧
      (s.judgeMode x.toNat = .reset → Completes (exec (.modeReq m tag x) s) fun u => u.mode = mBoot) ∧
      ∀ st reason, s.judgeMode x.toNat = .refuse st reason → Completes (exec (.modeReq m tag x) s) fun u =>
        Answered s u m 0x0101 tag.toNat st [wd (reason + 0xFFFF0000)] ∧ u.sys.modeAt = s.sys.modeAt) ∧
    (s.partnerStandby = false → s.refuses m 0x0104 [n] = none → setKind (s.ses n.toNat).stages ≠ 4 →
      s.sessionBusy n.toNat = false → s.chkCommit (scopeOf (s.ses n.toNat)) (s.saf.auth.contains n.toNat) (s.ses n.toNat).stages = none →
      Completes (exec (.cfgCommit m tag n) s) fun u => set (s.ses n.toNat).stages u ∧
        (n.toNat ≠ 0 → SMap.get none n.toNat u.fw.sessions = none) ∧ u.cfg = s.cfg) ∧
    (s.partnerStandby = false → s.refuses m 0x0108 [x, y, 1] = none → s.unit78 x.toNat = false →
      s.safetyPoint x.toNat = false → s.fw.forces = [] → s.pendingForces = [] → s.widePoint x.toNat = false →
      s.knownPoint x.toNat = true → Completes (exec (.force m tag x y) s) fun u =>
        set [.force x.toNat y true] u ∧ u.fw.forces = s.fw.forces ∧ done 0x0108 [] u) ∧
    (s.partnerStandby = false → s.refuses m 0x0108 [x, y, 0] = none → s.unit78 x.toNat = false →
      s.safetyPoint x.toNat = false → (s.fw.forces.map (·.addr)).contains x.toNat = true → s.pendingForces = [] →
      s.widePoint x.toNat = false → s.knownPoint x.toNat = true →
      Completes (exec (.forceRelease m tag x y) s) fun u =>
        set [.force x.toNat y false] u ∧ u.fw.forces = s.fw.forces ∧ done 0x0108 [] u) ∧
    (s.partnerStandby = false → s.refuses m 0x0602 [0, y] = none →
      Completes (exec (.timeStep m tag 0 y) s) fun u => set [.timeStep y.toNat] u ∧ done 0x0602 [] u) ∧
    (s.partnerStandby = false → s.refuses m 0x0403 [x, y] = none → x.toNat ≤ 15 → s.setLoaded x.toNat = true →
      s.saf.barred.contains x.toNat = false → y = setCheck (s.paramSet x.toNat) →
      Completes (exec (.safeConfirm m tag x y) s) fun u => set [.confirm x.toNat y] u ∧ done 0x0403 [] u ∧
        SMap.get 0 x.toNat u.saf.wrong = 0) ∧
    (s.refuses m 0x0403 [x, y] = none → x.toNat ≤ 15 → s.setLoaded x.toNat = true → s.saf.barred.contains x.toNat = false →
      y ≠ setCheck (s.paramSet x.toNat) → Completes (exec (.safeConfirm m tag x y) s) fun u =>
        SMap.get 0 x.toNat u.saf.wrong = SMap.get 0 x.toNat s.saf.wrong + 1 ∧
        Answered s u m 0x0403 tag.toNat 0x0A [wd 0x10000] ∧ u.fw.commits = s.fw.commits) ∧
    (s.refuses m 0x0702 [0xC8A5] = none → Completes (exec (.reset m tag 0xC8A5) s) fun u => u.mode = mBoot) ∧
    (s.refuses m 0x0109 key = none → s.nv.key = [] → Completes (exec (.keyEnrol m tag key) s) fun u =>
      u.nv.key = key ∧ done 0x0109 [Config.keyDigest key] u) ∧
    (s.refuses m 0x0109 key = none → s.nv.key ≠ [] → s.fw.sessions = [] →
      Completes (exec (.keyEnrol m tag key) s) fun u => u.nv.key = s.nv.key ∧
        Answered s u m 0x0109 tag.toNat 0x02 [wd 0xFFFF0006]) ∧
    (s.refuses m 0x0203 [n] = none → s.sessionBusy n.toNat = false → Completes (exec (.placeRun m tag n) s) fun u =>
      u.prt.placing = s.prt.placing ++ [⟨3, true, 0⟩] ∧ done 0x0203 [] u) ∧
    (s.refuses m 0x0502 [1] = none → Completes (exec (.evrFreeze m tag) s) fun u => u.isSet Fld.EVR_STAT_frozen = true) ∧
    (s.refuses m 0x0502 [0] = none → Completes (exec (.evrRelease m tag) s) fun u => u.isSet Fld.EVR_STAT_frozen = false) ∧
    (s.refuses m 0x0704 [x] = none → x.toNat < 512 → x.toNat % 2 = 0 → Completes (exec (.notifySet m tag x) s) fun u =>
      u.reg (Reg.MBX_NTFMASK m) = x ∧ done 0x0704 [x] u)

/-- Heartbeats are sent, taken in their order and missed; the link is watched. HEARTBEAT_SEND sends the next sequence,
mode, claim and counts with a CRC-32C on both lanes of the link and nothing where the module sends no heartbeats. HEARTBEAT_RECEIVE discards a
heartbeat out of sequence; a first one shows the partner, ends the run of missed ones and tells the partner's claim; a
claim above its own makes an ACTIVE module a veer loser. HEARTBEAT_MISSED counts, and at the fourth in a row the
partner is lost: a leeward module asks the witness. HEARTBEAT_WATCHDOG_EXPIRY stops heartbeats. LINK_LANE_CHANGE shows
the lane, and a lane down degrades the station. LINK_CRC_BURST counts; more than 16 within 1 ms end STANDBY. (R45,
R196, R197, R199, R200, R207, R211, R217, R222) -/
def Obligations.HeartbeatsAndLink : Prop :=
  ∀ (s : State),
    (s.sendsHeartbeats = true → Completes (exec .heartbeatSend s) fun u => u.red.hbTx = (s.red.hbTx + 1) % 65536 ∧
      ∃ t, let ws := [wd u.red.hbTx, wd u.mode, u.reg Reg.RED_CLAIM, wd s.sys.cycles, wd s.red.fwdRx, t, 0]
        let hb := ws ++ [crc32c (wordBytes ws)]
        u.sent = ⟨.link, 16, 1 :: hb⟩ :: ⟨.link, 16, 0 :: hb⟩ :: s.sent) ∧
    (s.sendsHeartbeats = false → Completes (exec .heartbeatSend s) fun u => u.red = s.red ∧ u.sent = s.sent) ∧
    (∀ (seq trip : BitVec 16) (mode : Fin 8) (claim cycles ack t : Word), s.sys.pins.pair = true →
      let c := exec (.heartbeatReceive seq mode claim cycles ack t trip) s
      (∀ n, s.red.hbRx = some n → s.red.lost = false → seq.toNat ≠ (n + 1) % 65536 →
        Completes c fun u => u.red = s.red ∧ u.sent = s.sent ∧ u.mode = s.mode ∧ Kept s u []) ∧
      (s.prt.lanes = [] → s.red.hbRx = none → s.mode = mActive → s.red.veer = none → s.sys.holdup = false →
        (claim.toNat < (s.reg Reg.RED_CLAIM).toNat → Completes c fun u => u.mode = mActive ∧ u.red.hbRx = some seq.toNat ∧
          u.red.lost = false ∧ u.reg Reg.RED_CLAIM_PEER = claim ∧ u.reg Reg.RED_CLAIM = s.reg Reg.RED_CLAIM ∧
          u.isSet Fld.SYS_STAT_partner = true ∧ u.fld Fld.RED_HB_run = 0) ∧
        ((s.reg Reg.RED_CLAIM).toNat < claim.toNat → Completes c fun u => u.mode = mBoot ∧
          u.fld Fld.SYS_RSTCAUSE_cause = rcVeerLoser ∧ u.reg Reg.RED_CLAIM = 0))) ∧
    (s.red.hbRx = none → Completes (exec .heartbeatMissed s) fun u => u.red = s.red ∧ u.mode = s.mode ∧ Kept s u []) ∧
    (∀ n, s.red.hbRx = some n → s.prt.lanes = [] →
      (s.fld Fld.RED_HB_run ≠ 3 → Completes (exec .heartbeatMissed s) fun u => u.red.hbRx = some ((n + 1) % 65536) ∧
        u.fld Fld.RED_HB_run = min 4 (s.fld Fld.RED_HB_run + 1) ∧ u.red.lost = s.red.lost ∧ u.mode = s.mode ∧
        u.fld Fld.RED_HB_missed = satInc 16 (s.fld Fld.RED_HB_missed)) ∧
      (s.fld Fld.RED_HB_run = 3 → s.red.lost = false → s.mode = mActive → s.partnerStandby = false →
        Completes (exec .heartbeatMissed s) fun u => u.red.lost = true ∧ u.isSet Fld.SYS_STAT_partner = false ∧
          u.mode = mActive ∧ u.reg Reg.RED_CLAIM = s.reg Reg.RED_CLAIM) ∧
      (s.fld Fld.RED_HB_run = 3 → s.red.lost = false → s.mode = mStandby → s.AtRest →
        Completes (exec .heartbeatMissed s) fun u => u.red.lost = true ∧ u.red.ask = some ⟨1, false⟩ ∧
          u.fld Fld.RED_STATE_veer = 1 ∧ u.mode = mStandby)) ∧
    Completes (exec .heartbeatWatchdogExpiry s) (fun u => u.sendsHeartbeats = false ∧ u.red = { s.red with hbOff := true } ∧
      Kept s u []) ∧
    (∀ (lane : Fin 2) (up : Bool),
      let f := if lane.val = 0 then Fld.RED_LINK_lane0 else Fld.RED_LINK_lane1
      Completes (exec (.linkLaneChange lane up) s) fun u => u.isSet f = up ∧ u.mode = s.mode ∧
        (up = false → s.isSet f = true → u.isSet Fld.SYS_STAT_degraded = true) ∧ u.mem = s.mem ∧ u.cfg = s.cfg) ∧
    (∀ n : BitVec 16, s.mode ≠ mStandby → s.partnerStandby = false → Completes (exec (.linkCrcBurst n) s) fun u =>
      u.fld Fld.RED_LINK_crc_err = min 65535 (s.fld Fld.RED_LINK_crc_err + n.toNat) ∧
      (n ≠ 0 → u.isSet Fld.RED_ERR_crc = true) ∧ u.mode = s.mode ∧ Kept s u [Reg.RED_LINK, Reg.RED_ERR]) ∧
    (∀ n : BitVec 16, s.mode = mStandby → 16 < n.toNat → Completes (exec (.linkCrcBurst n) s) fun u =>
      u.mode = mResync ∧ u.fld Fld.RED_STATE_cause = 8 ∧ u.red.queue = [])

/-- What the leeward module does with forwarded items, and the windward module with their acknowledgement. A module that
is not in STANDBY takes no forwarded item outside a commanded veer, but the windward module a trip of the leeward one, which
holds on both. In STANDBY, where the forward queue has room, an
item is acknowledged on the link with its sequence; a checkpoint is kept under its task; a completion marker whose
lane runs nothing stands in the queue; an item that overflows the queue ends STANDBY for cause 4, and so does an item
that has waited for more than 1 ms. FORWARD_ACK_RECEIVE keeps the highest sequence acknowledged. CHECKPOINT_COPY_DONE
ends the copy, keeps the checkpoint in MRAM where its record says so, and forwards it. (R202, R203, R204, R205, R207,
R231) -/
def Obligations.ItemsInStep : Prop :=
  ∀ (s : State) (seq : Word),
    (s.mode ≠ mStandby → s.handingOver = false → s.red.crossing = false → ∀ (k : Fin 32) (ws : List Word) (lane : Fin 8) (t : Fin 512) (n lo hi : Word),
      (s.mode ≠ mResync ∨ k.val < 21 → k.val ≠ 11 → Completes (exec (.forwardItemReceive seq k ws) s) fun u => u.red = s.red ∧ u.sent = s.sent ∧ Kept s u []) ∧
      (s.windward = false ∨ s.partnerStandby = false → s.mode ≠ mResync ∨ k.val < 21 →
        Completes (exec (.forwardItemReceive seq k ws) s) fun u => u.red = s.red ∧ u.sent = s.sent ∧ Kept s u []) ∧
      (s.windward = true → s.partnerStandby = true → ∀ i st : Nat, i < 256 → st < 6 → (s.inst i).state ≠ siOff →
        ws = [wd i, wd st, 1, 0, 0, 0] → Completes (exec (.forwardItemReceive seq 11 ws) s) fun u =>
          (u.inst i).state = (if safeRank st ≤ safeRank (s.inst i).state then (s.inst i).state else st)) ∧
      Completes (exec (.completionMarker seq lane t n lo hi) s) fun u => u.red = s.red ∧ u.sent = s.sent ∧ Kept s u []) ∧
    (s.mode = mStandby →
      (∀ ws : List Word, s.fwdUnits + (4 * ws.length + 271) / 256 ≤ 65536 →
        Completes (exec (.forwardItemReceive seq 14 ws) s) fun u => SMap.get [] (wAt ws 1).toNat u.red.ckpts = ws ∧
          u.red.fwdRx = seq.toNat ∧ Sends s u .link 17 [wd seq.toNat] ∧ u.mode = mStandby ∧ Kept s u [Reg.RED_ERR]) ∧
      (∀ (k : Fin 32) (ws : List Word), 65536 < s.fwdUnits + (4 * ws.length + 271) / 256 →
        Completes (exec (.forwardItemReceive seq k ws) s) fun u => u.mode = mResync ∧ u.fld Fld.RED_STATE_cause = 4 ∧
          u.red.queue = []) ∧
      (∀ (lane : Fin 8) (t : Fin 512) (n lo hi : Word), s.fwdUnits + 1 ≤ 65536 → (s.lane lane).act = none →
        Completes (exec (.completionMarker seq lane t n lo hi) s) fun u => u.red.queue = s.red.queue ++
          [⟨seq.toNat, 5, [wd lane, wd t, n, lo, hi], s.time⟩] ∧ u.red.fwdRx = seq.toNat ∧
          Sends s u .link 17 [wd seq.toNat] ∧ u.prt = s.prt ∧ Kept s u [Reg.RED_ERR, Reg.RED_FWD]) ∧
      (∀ i r, s.red.queue = i :: r → (∀ e ∈ s.prt.lanes, e.1 < 8) → Completes (exec .leewardLagExceeded s) fun u =>
        u.mode = mResync ∧ u.fld Fld.RED_STATE_cause = 4 ∧ u.red.queue = [])) ∧
    (s.red.queue = [] ∨ s.mode ≠ mStandby → Completes (exec .leewardLagExceeded s) fun u => u.red = s.red ∧ Kept s u []) ∧
    (s.prt.lanes = [] → Completes (exec (.forwardAckReceive seq) s) fun u =>
      u.red = { s.red with fwdAck := max s.red.fwdAck seq.toNat } ∧ Kept s u []) ∧
    (∀ t : Fin 512, (s.red.copies.any (·.task == t)) = true → Completes (exec (.checkpointCopyDone t) s) fun u =>
      (u.red.copies.any (·.task == t)) = false ∧
      (ckptPersist (s.ckptRec t) = true → SMap.get [] t.val u.nv.ckpts = s.ckptWords t) ∧
      (s.partnerStandby = true → Sends s u .link 14 (wd (s.red.fwdTx + 1) :: s.ckptWords t)) ∧
      (if ckptPersist (s.ckptRec t) then KeptOff s u [] (s.ckptPlace t) (4 * (s.ckptWords t).length) else Kept s u [])) ∧
    (∀ t : Fin 512, (s.red.copies.any (·.task == t)) = false → Completes (exec (.checkpointCopyDone t) s) fun u =>
      u.red = s.red ∧ u.nv = s.nv ∧ u.sent = s.sent)

/-- What a module does with the messages of its witness: asks, grants, refusals, probes, demotions. A witness frame with a
wrong tag is discarded and counted in RED_ERR.tag. With an ask after the loss of its partner: WITNESS_ASK_RETRY asks
the secondary witness, then every witness; a grant to a module in STANDBY, with nothing in flight, makes it ACTIVE
with the granted claim, written to MRAM too; a refusal or the time-out of 2 s sends it to RESYNC for cause 1; a grant
or a refusal that names another station does nothing. A probe is answered while heartbeats are sent. WIT_STATUS_TIMER
shows which witness is reachable and says so to each. WIT_DEMOTE makes an ACTIVE module of the named station a veer
loser. (R47, R208, R209, R210, R211, R212, R213, R217) -/
def Obligations.TheModuleAtItsWitness : Prop :=
  ∀ (s : State) (number claim reason : Word) (time : BitVec 64) (tag : BitVec 16) (n node : Fin 16384) (mode : Fin 8),
    (∀ c ∈ [Instr.witGrant false n claim tag, .witRefuse false node n reason claim, .witProbe false node n number,
        .witDemote false n claim, .witAsk false n node claim reason ⟨time, tag⟩, .witProbeReply false n number claim mode,
        .witClaimed false node n claim reason, .witStatus false node n claim mode],
      Completes (exec c s) fun u => u.isSet Fld.RED_ERR_tag = true ∧ u.red = s.red ∧ u.nv = s.nv ∧ u.sent = s.sent ∧
        Kept s u [Reg.RED_ERR]) ∧
    (s.red.ask = none ∨ s.red.ask = some ⟨2, false⟩ → Completes (exec .witnessAskRetry s) fun u =>
      u.red = s.red ∧ u.sent = s.sent ∧ Kept s u []) ∧
    (∀ x, s.red.ask = some ⟨1, false⟩ → s.witSecondary = some x → Completes (exec .witnessAskRetry s) fun u =>
      u.red.ask = some ⟨1, true⟩ ∧ Sends s u (.witness x) 0x0340 (s.askWords 1) ∧ Kept s u []) ∧
    (s.red.ask = some ⟨1, true⟩ → Completes (exec .witnessAskRetry s) fun u => u.red = s.red ∧
      u.sent = (s.witnesses.map fun x => ⟨.witness x, 0x0340, s.askWords 1⟩).reverse ++ s.sent ∧ Kept s u []) ∧
    (∀ b, s.red.ask = some ⟨1, b⟩ → s.mode = mStandby →
      (∀ c ∈ [Instr.witnessGrantTimeout, .witRefuse true node (Fin.ofNat 16384 s.stationNode) reason claim],
        s.stationNode < 16384 → Completes (exec c s) fun u => u.mode = mResync ∧ u.fld Fld.RED_STATE_cause = 1 ∧
          u.red.ask = none ∧ u.reg Reg.RED_CLAIM = 0) ∧
      (claim ≠ 0xFFFFFFFF → n.val = s.stationNode → Completes (exec (.witGrant true n claim tag) s) fun u =>
        u.nv.claim = claim ∧ u.red.ask = none ∧ (s.AtRest → u.mode = mActive ∧ u.reg Reg.RED_CLAIM = claim ∧
          u.fld Fld.RED_VEERS_fault = satInc 12 (s.fld Fld.RED_VEERS_fault)))) ∧
    (n.val ≠ s.stationNode → ∀ c ∈ [Instr.witGrant true n claim tag, .witRefuse true node n reason claim,
        .witDemote true n claim, .witProbe true node n number], Completes (exec c s) fun u =>
      u.red = s.red ∧ u.nv = s.nv ∧ u.sent = s.sent ∧ u.mode = s.mode ∧ u.cfg = s.cfg ∧ u.prt = s.prt) ∧
    (n.val = s.stationNode → s.sendsHeartbeats = true → Completes (exec (.witProbe true node n number) s) fun u =>
      Sends s u (.witness node) 0x0342 [wd n, number, s.reg Reg.RED_CLAIM, wd s.mode] ∧ u.red = s.red) ∧
    (n.val = s.stationNode → s.mode = mActive → s.sys.holdup = false → Completes (exec (.witDemote true n claim) s) fun u =>
      u.mode = mBoot ∧ u.fld Fld.SYS_RSTCAUSE_cause = rcVeerLoser) ∧
    (∀ p q : Bool, Completes (exec (.witStatusTimer p q) s) fun u =>
      let v := if s.witnesses.isEmpty then 0 else if p then 1 else if q && s.witSecondary.isSome then 2 else 3
      u.fld Fld.RED_STATE_witness = v ∧ u.isSet Fld.SYS_STAT_witness = (v == 1 || v == 2) ∧
      (u.sent = s.sent ↔ s.witnesses = []))

/-- What a module that serves as witness answers and records. With a right tag: an ask of a node that is no module of a
served station is refused with reason 3, one below the record with reason 2; an ask after a fault probes the other
module; an ask at start-up is refused with reason 1 where a claim was heard within 2 s and granted otherwise, one
above the higher of record and claim. A probe's reply refuses the ask with reason 1; its window's end grants it. A
claim heard raises the record; claim resets of both modules within 1 s set it back to 0; a status below the record is
demoted. (R209, R210, R216) -/
def Obligations.TheModuleAsWitness : Prop :=
  ∀ (s : State) (n node : Fin 16384) (claim cause number kind : Word) (time : BitVec 64) (tag : BitVec 16) (mode : Fin 8),
    let x := s.wit n
    let member := s.isModule n node
    let ask := exec (.witAsk true n node claim cause ⟨time, tag⟩) s
    let refused := fun (reason : Nat) (u : State) => u.red = s.red ∧
      Sends s u (.witness node) 0x0344 [wd n, wd reason, wd x.claim]
    let granted := fun (dest c tg : Nat) (u : State) => (u.wit n).claim = max x.claim c + 1 ∧ (u.wit n).heard = some s.time ∧
      (u.wit n).probe = none ∧ Sends s u (.witness dest) 0x0343 [wd n, wd (max x.claim c + 1), wd tg] ∧
      ∀ m, m ≠ n.val → u.wit m = s.wit m
    let heard := match x.heard with | some t => decide (s.time ≤ t + 2000000000) | none => false
    (member = false → Completes ask (refused 3)) ∧
    (member = true → claim.toNat < x.claim → Completes ask (refused 2)) ∧
    (member = true → x.claim ≤ claim.toNat → cause = 2 → heard = true → Completes ask (refused 1)) ∧
    (member = true → x.claim ≤ claim.toNat → cause = 2 → heard = false →
      Completes ask (granted node claim.toNat tag.toNat)) ∧
    (member = true → x.claim ≤ claim.toNat → cause ≠ 2 → Completes ask fun u =>
      (u.wit n).probe = some ⟨node, claim.toNat, tag.toNat, u.red.probeNo⟩ ∧ u.red.probeNo = (s.red.probeNo + 1) % 2 ^ 32 ∧
      Sends s u (.witness (if x.nodeE = node.val then x.nodeO else x.nodeE)) 0x0341 [wd n, wd u.red.probeNo]) ∧
    (∀ p, x.probe = some p →
      Completes (exec (.probeWindowExpiry n) s) (granted p.requester p.claim p.tag) ∧
      (number.toNat = p.number → Completes (exec (.witProbeReply true n number claim mode) s) fun u =>
        (u.wit n).probe = none ∧ (u.wit n).claim = x.claim ∧
        Sends s u (.witness p.requester) 0x0344 [wd n, wd 1, wd x.claim]) ∧
      (number.toNat ≠ p.number → Completes (exec (.witProbeReply true n number claim mode) s) fun u =>
        u.red = s.red ∧ u.sent = s.sent)) ∧
    (x.probe = none → Completes (exec (.probeWindowExpiry n) s) fun u => u.red = s.red ∧ u.sent = s.sent) ∧
    (member = true → kind ≠ 4 → claim ≠ 0 → Completes (exec (.witClaimed true node n claim kind) s) fun u =>
      (u.wit n).claim = max x.claim claim.toNat ∧ (u.wit n).heard = some s.time) ∧
    (member = true → kind = 4 → x.resetE = some s.time → x.resetO = some s.time →
      Completes (exec (.witClaimed true node n claim kind) s) fun u => (u.wit n).claim = 0 ∧ (u.wit n).heard = none) ∧
    (member = true → claim ≠ 0 → claim.toNat < x.claim → Completes (exec (.witStatus true node n claim mode) s) fun u =>
      Sends s u (.witness node) 0x0347 [wd n, wd x.claim] ∧ (u.wit n).claim = x.claim) ∧
    (member = true → claim ≠ 0 → x.claim ≤ claim.toNat → Completes (exec (.witStatus true node n claim mode) s) fun u =>
      (u.wit n).claim = claim.toNat ∧ (u.wit n).heard = some s.time ∧ u.sent = s.sent)

/-- What the messages of the other module of a pair do. PAIR_PREPARE of a set of forces in STANDBY is acknowledged and set
for the first boundary at least 1 ms ahead, one of an online change whose image is not there is refused; outside
STANDBY it does nothing. PAIR_ACK accepts the waiting set, PAIR_NACK and the time-out end it. PAIR_FALLBACK writes the
same fallback for the same boundary; PAIR_FAILMARK is followed by the leeward module; PAIR_FAILREP marks the pair.
PAIR_YIELD raises the claim one above and, with nothing in flight, makes the module ACTIVE; PAIR_VEER offers and
agrees on a boundary; its time-out ends the asking; FORMER_WINDWARD_STANDBY goes to STANDBY with claim 0, where the
partner is heard and no removal follows. PREPARE_DROP_TIMEOUT refuses a prepared set on the link and forgets it, and
does nothing for a tag that is not there. (R91, R92, R94, R133, R185, R213, R225, R226) -/
def Obligations.PairMessages : Prop :=
  ∀ (s : State) (tag x y : Word),
    let due := s.boundaryAfter 1000000
    (∀ fs : List (Nat × Word × Bool), fs ≠ [] → s.mode = mStandby → s.fw.commits = [] →
      let stages := fs.map fun (f : Nat × Word × Bool) => Stage.force f.1 f.2.1 f.2.2
      Completes (exec (.pairPrepare tag stages) s) fun u =>
        Sends s u .link 0x0351 [wd tag.toNat] ∧ u.fw.commits = [⟨0, none, stages, some due, true, ⟨255, tag.toNat⟩⟩]) ∧
    (∀ n, s.mode = mStandby → s.pairSession (fun z => z.checked && z.slot != s.usedSlot 5) = none →
      Completes (exec (.pairPrepare tag [.online n]) s) fun u => Sends s u .link 0x0352 [wd tag.toNat, wd 0xFFFF0000] ∧
        u.fw.commits = s.fw.commits) ∧
    (∀ stages, s.mode ≠ mStandby → Completes (exec (.pairPrepare tag stages) s) fun u => u.sent = s.sent ∧ u.fw = s.fw ∧
      u.red = s.red) ∧
    (∀ c, s.waiting tag.toNat = some c →
      (setKind c.stages ≠ 4 → Completes (exec (.pairAck tag) s) fun u => { c with at_ := some due } ∈ u.fw.commits ∧
        (c.ses ≠ 0 → SMap.get none c.ses u.fw.sessions = none)) ∧
      (Completes (exec (.pairNack tag x) s) fun u => u.fw.commits = s.fw.commits.filter (· != c) ∧
        u.fw.sessions = s.fw.sessions ∧ u.cfg = s.cfg) ∧
      (c.acked = false → Completes (exec (.prepareAckTimeout tag) s) fun u =>
        u.fw.commits = s.fw.commits.filter (· != c) ∧ u.fw.sessions = s.fw.sessions ∧ u.cfg = s.cfg)) ∧
    (s.waiting tag.toNat = none → ∀ c ∈ [Instr.pairAck tag, .pairNack tag x, .prepareAckTimeout tag],
      Completes (exec c s) fun u => u.fw.commits = s.fw.commits ∧ u.cfg = s.cfg ∧ u.fw.sessions = s.fw.sessions) ∧
    (∀ p : Fin 4, s.mode = mStandby → SMap.get [] p.val s.prt.fallback ≠ [] →
      Completes (exec (.pairFallback p x) s) fun u => u.word (s.idleArea + 8) = x ∧
        u.word (s.idleArea + 0x3C) = 0x504C5244 ∧ u.prt.planReport = none) ∧
    (∀ lane : Fin 8, s.mode ≠ mStandby ∨ ((s.lane lane).act = none ∧ s.red.queue = []) →
      Completes (exec (.pairFailmark lane x) s) fun u => u.prt = s.prt ∧ u.red = s.red) ∧
    (∀ (lane : Fin 8) a, s.mode = mStandby → (s.lane lane).act = some a → s.red.queue = [] → a.task < 512 →
      x.toNat ≤ a.count → a.taken = [] → a.resv = [] →
      Completes (exec (.pairFailmark lane x) s) fun u => (u.lane lane).act = none ∧ u.red.queue = []) ∧
    (∀ p : Fin 4, s.prt.lanes = [] →
      (s.hasClaim = true → Completes (exec (.pairFailrep p) s) fun u => u.red.peerBad = s.red.peerBad ||| 2 ^ p.val) ∧
      (s.hasClaim = false → Completes (exec (.pairFailrep p) s) fun u => u.red = s.red)) ∧
    (s.mode = mStandby → x.toNat < 0xFFFFFFFE → Completes (exec (.pairYield x y) s) fun u => u.nv.claim = x + 1 ∧
      (s.AtRest → u.mode = mActive ∧ u.reg Reg.RED_CLAIM = x + 1)) ∧
    (s.mode ≠ mStandby → Completes (exec (.pairYield x y) s) fun u => u.nv.claim = s.nv.claim ∧ u.mode = s.mode) ∧
    (s.mode = mStandby → Completes (exec (.pairVeer 1 y) s) fun u => u.red.veer = some ⟨true, due, ⟨255, 0⟩⟩ ∧
      Sends s u .link 0x0357 [2, lo32 due]) ∧
    (∀ v, s.red.veer = some v → v.acked = false →
      (s.mode = mActive → Completes (exec (.pairVeer 2 y) s) fun u =>
        u.red.veer = some { v with acked := true, at_ := s.time + (y - lo32 s.time).toNat } ∧ u.mode = mActive) ∧
      (v.who.mbx < 68 → Completes (exec .commandedVeerTimeout s) fun u => u.red.veer = none ∧
        u.fld Fld.RED_STATE_veer = 0 ∧ u.sys.removal = false)) ∧
    (s.handingOver = true → s.mode = mActive → s.sys.removal = false → s.red.lost = false → s.AtRest →
      Completes (exec .formerWindwardStandby s) fun u => u.mode = mStandby ∧ u.reg Reg.RED_CLAIM = 0 ∧ u.red.veer = none ∧
        u.red.joined = true ∧ u.fw.conn = none) ∧
    (s.handingOver = false → Completes (exec .formerWindwardStandby s) fun u => u.red = s.red ∧ u.mode = s.mode ∧ Kept s u []) ∧
    ((s.red.prepared.any fun p => p.tag == tag.toNat) = true → Completes (exec (.prepareDropTimeout tag) s) fun u =>
      Sends s u .link 0x0352 [wd tag.toNat, wd 0xFFFF0109] ∧
      u.red.prepared = s.red.prepared.filter (fun p => p.tag != tag.toNat) ∧ u.fw.online = none ∧ Kept s u []) ∧
    ((s.red.prepared.any fun p => p.tag == tag.toNat) = false → Completes (exec (.prepareDropTimeout tag) s) fun u =>
      u.red = s.red ∧ u.fw = s.fw ∧ u.sent = s.sent ∧ Kept s u [])

/-- The phases of a resynchronisation, and the presence contact. PAIR_RESYNC phase 0 tells why the partner left, and takes
a leeward module out of STANDBY (log entry 30); phase 1 tells its protocol version and is answered by the windward
module; phases 2 to 6 show in RED_RESYNC at the leeward module. RESYNC_PHASE_COMPLETE moves the leeward module from
phase to phase and, with nothing in flight, at phase 6 into STANDBY; the windward module counts the bytes of phase 4.
RESYNC_TIMEOUT begins again at phase 1 for cause 10, phase 2 apart. Opening PRES_S takes a module out of STANDBY or
RESYNC, or out of ACTIVE with its partner in STANDBY, into BOOT, where it waits; closing it then resets the module;
INSERTION_DEBOUNCE seats it. (R207, R228, R229, R234, R235, R236) -/
def Obligations.ResynchronisationAndContacts : Prop :=
  ∀ (s : State) (d1 d2 d3 : Word),
    (s.hasClaim = true → s.partnerStandby = false → Completes (exec (.pairResync 0 d1 d2 d3) s) fun u =>
      u.fld Fld.RED_STATE_cause = d1.toNat % 256 ∧ u.sent = s.sent) ∧
    (s.hasClaim = false → s.mode = mStandby → Completes (exec (.pairResync 0 d1 d2 d3) s) fun u => u.mode = mResync ∧
      u.fld Fld.RED_STATE_cause = d1.toNat % 256 ∧ u.red.queue = []) ∧
    (Completes (exec (.pairResync 1 d1 d2 d3) s) fun u => u.fld Fld.RED_PVER_peer_major = bits d1 15 8 ∧
      u.fld Fld.RED_PVER_peer_minor = bits d1 7 0 ∧ (s.windward = true → Sends s u .link 0x0358 s.contactWords)) ∧
    (∀ p : Fin 8, 2 ≤ p.val → p.val ≤ 6 → s.mode = mResync → Completes (exec (.pairResync p d1 d2 d3) s) fun u =>
      u.fld Fld.RED_RESYNC_phase = p ∧ u.mode = mResync) ∧
    (∀ (n : BitVec 64) (d : ResyncData), s.mode = mResync →
      let c := exec (.resyncPhaseComplete n d) s
      (s.fld Fld.RED_RESYNC_phase = 1 → s.fld Fld.RED_PVER_peer_major = s.fld Fld.RED_PVER_major → Completes c fun u =>
        u.fld Fld.RED_RESYNC_phase = if s.red.imagesDiffer then 2 else 3) ∧
      (s.fld Fld.RED_RESYNC_phase = 1 → s.fld Fld.RED_PVER_peer_major ≠ s.fld Fld.RED_PVER_major → Completes c fun u =>
        u.fld Fld.RED_RESYNC_phase = 1 ∧ u.fld Fld.RED_STATE_cause = 9) ∧
      (s.fld Fld.RED_RESYNC_phase = 2 → d.imagesOk = true → (∀ e ∈ d.images, e.1 = 5 → e.2.body.entriesOk = true) →
        Completes c fun u => u.mode = mBoot ∧
        u.fld Fld.SYS_RSTCAUSE_cause = rcCommanded) ∧
      (s.fld Fld.RED_RESYNC_phase = 2 → d.imagesOk = false → Completes c fun u => u.mode = mResync ∧
        u.fld Fld.RED_RESYNC_phase = 1 ∧ u.fw = s.fw) ∧
      (s.fld Fld.RED_RESYNC_phase = 4 → Completes c fun u => u.fld Fld.RED_RESYNC_phase = 5) ∧
      (s.fld Fld.RED_RESYNC_phase = 5 → Completes c fun u => u.fld Fld.RED_RESYNC_phase = 6 ∧
        u.sys.modeAt = some (mStandby, 255)) ∧
      (s.fld Fld.RED_RESYNC_phase = 6 → s.AtRest → Completes c fun u => u.mode = mStandby ∧ u.red.joined = true ∧
        u.fld Fld.RED_RESYNC_phase = 0 ∧ u.fld Fld.RED_RESYNC_count = satInc 16 (s.fld Fld.RED_RESYNC_count))) ∧
    (∀ (n : BitVec 64) (d : ResyncData), s.mode ≠ mResync → s.windward = true → s.fld Fld.RED_RESYNC_phase = 4 →
      Completes (exec (.resyncPhaseComplete n d) s) fun u => u.reg Reg.RED_RSBYTES_HI = hi32 n.toNat ∧
        u.reg Reg.RED_RSBYTES_LO = lo32 n.toNat ∧ u.fld Fld.RED_RESYNC_phase = 5 ∧ Sends s u .link 0x0358 [5, 0, 0, 0]) ∧
    (s.mode = mResync → s.fld Fld.RED_RESYNC_phase ≠ 0 → s.fld Fld.RED_RESYNC_phase ≠ 2 →
      Completes (exec .resyncTimeout s) fun u => u.fld Fld.RED_RESYNC_phase = 1 ∧ u.fld Fld.RED_STATE_cause = 10 ∧
        Sends s u .link 0x0358 [0, 10, 0, 0]) ∧
    (s.mode ≠ mResync ∨ s.fld Fld.RED_RESYNC_phase = 0 ∨ s.fld Fld.RED_RESYNC_phase = 2 →
      Completes (exec .resyncTimeout s) fun u => u.red = s.red ∧ u.sent = s.sent ∧ Kept s u []) ∧
    (s.sys.pins.pair = true → s.AtRest → s.mode = mStandby ∨ s.mode = mResync → Completes (exec .presSOpen s) fun u =>
      u.mode = mBoot ∧ u.sys.wait = .removed ∧ u.sys.pins.presS = false ∧ ⟨.link, 0x0358, [0, 7, 0, 0]⟩ ∈ u.sent) ∧
    (s.sys.pins.pair = true → s.AtRest → s.mode = mActive → s.hasClaim = true → s.partnerStandby = true →
      Completes (exec .presSOpen s) fun u => u.mode = mBoot ∧ u.sys.wait = .removed ∧ u.reg Reg.RED_CLAIM = 0 ∧
        ⟨.link, 0x0356, [s.reg Reg.RED_CLAIM, wd 3]⟩ ∈ u.sent) ∧
    (s.sys.pins.pair = false → Completes (exec .presSOpen s) fun u => u.mode = s.mode ∧ u.sys.pins.presS = false ∧
      u.sys.pins.seated = false ∧ Kept s u []) ∧
    (s.sys.wait ≠ .removed → Completes (exec .presSClose s) fun u => u.mode = s.mode ∧ u.sys.pins.presS = true ∧ Kept s u []) ∧
    (s.sys.wait = .removed → Completes (exec .presSClose s) fun u => u.mode = mBoot ∧
      u.fld Fld.SYS_RSTCAUSE_cause = rcHotSwap ∧ u.sys.pins.presS = true) ∧
    (Completes (exec .insertionDebounce s) fun u => u.sys.pins.seated = (s.sys.pins.presS || s.sys.pins.seated) ∧ Kept s u [])

/-- What a stage makes of the claims on its claim lines, and the claim reset. With claim lines that reach it, a stage
keeps the claim that its line carries, the module's own on one line and the other module's on the other; a frame with a wrong
CRC does nothing. With a live supply: a
claim of its own below the other module's puts it off; its own claim, in its frames too, that is the highest seen
makes an off stage wait to drive. STAGE_TURN_ON makes it drive then, and nothing where it does not wait. At the end of
the 100 ms of a claim reset the record in MRAM is 0, a stage whose two conditions held has no highest claim, and the
module resets. (R213, R214, R215, R216, R217, R219) -/
def Obligations.ClaimsAtTheStages : Prop :=
  ∀ (s : State) (u : Fin 9) (seen : Word),
    (hasStage u = true → s.wired = true →
      let x := s.stage u
      (let claim := s.reg Reg.RED_CLAIM
       Completes (exec (.claimFrameReceive u true (lineFrame seen)) s) fun t => (t.stage u).own = claim ∧
        (t.stage u).other = x.other ∧ (t.stage u).frame = x.frame ∧
        (s.supply u ≠ 2 → claim.toNat < x.other.toNat → (t.stage u).mode = smOff) ∧
        (s.supply u ≠ 2 → (s.link u).fieldUp = true → claim ≠ 0 → x.frame = claim → x.h.toNat ≤ claim.toNat →
          x.other.toNat < claim.toNat → x.mode = smOff → (t.stage u).winning = true ∧ (t.stage u).mode = smOff)) ∧
      (s.mode ≠ mActive → s.fio.queue = [] → Completes (exec (.claimFrameReceive u false (lineFrame seen)) s) fun t =>
        (t.stage u).other = seen ∧ (t.stage u).own = x.own ∧ (t.stage u).frame = x.frame ∧ t.reg Reg.RED_CLAIM_PEER = seen ∧
        (s.supply u ≠ 2 → x.own.toNat < seen.toNat → (t.stage u).mode = smOff) ∧ t.mode = s.mode) ∧
      (s.mode = mActive → s.fio.queue = [] → s.red.veer = none → s.sys.holdup = false → (s.reg Reg.RED_CLAIM).toNat < seen.toNat →
        Completes (exec (.claimFrameReceive u false (lineFrame seen)) s) fun t => t.mode = mBoot ∧
          t.fld Fld.SYS_RSTCAUSE_cause = rcVeerLoser)) ∧
    (hasStage u = false ∨ s.sys.pins.pair = false → Completes (exec (.claimFrameReceive u true (lineFrame seen)) s) fun t =>
      t.red = s.red ∧ Kept s t []) ∧
    (∀ (mine : Bool) (f : BitVec 40), (∀ c, f ≠ lineFrame c) → Completes (exec (.claimFrameReceive u mine f) s) fun t =>
      t.red = s.red ∧ t.sent = s.sent ∧ Kept s t []) ∧
    (hasStage u = true → (s.stage u).winning = true → Completes (exec (.stageTurnOn u) s) fun t =>
      (t.stage u).mode = smDrive ∧ (t.stage u).winning = false ∧ (t.stage u).h = (s.stage u).h) ∧
    ((s.stage u).winning = false → Completes (exec (.stageTurnOn u) s) fun t => t.red = s.red ∧ Kept s t []) ∧
    (s.red.resetting = true → Completes (exec .claimResetWindowEnd s) fun t => t.nv.claim = 0 ∧ t.mode = mBoot ∧
      t.reg Reg.RED_CLAIM = 0 ∧ t.fld Fld.SYS_RSTCAUSE_cause = rcCommanded ∧ t.red.resetting = false ∧
      ∀ e ∈ t.red.stages, e.2.resetOk = false) ∧
    (s.red.resetting = false → Completes (exec .claimResetWindowEnd s) fun t => t.red = s.red ∧ t.nv = s.nv ∧ Kept s t [])

/-- Images, the online change, SAFE_AUTH, VEER_REQ, CHECKPOINT and the round of the mailboxes. At a mailbox that takes the
request at once, not refused by R613 nor by the command's own checks: IMG_OPEN clears its slot and opens the first
session; IMG_WRITE writes its bytes up to the slot's size and no other byte; IMG_CLOSE closes the session; IMG_SELECT
selects the slot; ONLINE_CHANGE without a partner in step waits with its set; SAFE_AUTH enrols a first password, opens
with the right one and counts a wrong one; VEER_REQ asks the partner; CHECKPOINT starts the copy of a cold task. A
leeward module takes the image commands that its partner forwards. IMAGE_CHECK_DONE marks the slot by its result.
MAILBOX_ROUND serves the first mailbox after the one served first last time. (R51, R80, R81, R83, R86, R95, R168,
R226, R231, R481) -/
def Obligations.ImagesAndOtherRequests : Prop :=
  ∀ (s : State) (m : Fin 68) (tag : BitVec 16) (n x y : Word) (r : List Word),
    let done := fun (op : Nat) (pay : List Word) (u : State) => Answered s u m op tag.toNat 0 pay
    (s.Open m → s.refuses m 0x0801 [n, x, y] = none → 1 ≤ n.toNat → n.toNat ≤ 5 → x.toNat ≤ 1 →
      s.usedSlot n.toNat ≠ x.toNat → s.fw.online = none → s.fw.images = [] →
      Completes (exec (.imgOpen m tag n x y) s) fun u => u.imgSlot n.toNat x.toNat = { size := y.toNat } ∧
        u.fw.images = [(1, some { type := n.toNat, slot := x.toNat, who := m })] ∧ done 0x0801 [1] u) ∧
    (∀ z, s.Open m → s.refuses m 0x0802 ([n, x] ++ r) = none → s.imgSession m n.toNat = some z → z.closed = false →
      let g := s.imgSlot z.type z.slot
      x.toNat ≤ g.size → r.length ≤ 56 → Completes (exec (.imgWrite m tag n x r) s) fun u =>
        (∀ j, SMap.get 0 j (u.imgSlot z.type z.slot).bytes =
          if x.toNat ≤ j ∧ j < x.toNat + min (4 * r.length) (g.size - x.toNat)
          then (wordBytes r).getD (j - x.toNat) 0 else SMap.get 0 j g.bytes) ∧
        u.fw.images = s.fw.images ∧ done 0x0802 [] u) ∧
    (∀ z, s.Open m → s.refuses m 0x0803 [n] = none → s.imgSession m n.toNat = some z → z.closed = false →
      Completes (exec (.imgClose m tag n) s) fun u => SMap.get none n.toNat u.fw.images = some { z with closed := true } ∧
        u.fw.store = s.fw.store ∧ done 0x0803 [] u) ∧
    (s.Open m → s.refuses m 0x0804 [n, x] = none → 1 ≤ n.toNat → n.toNat ≤ 5 → x.toNat ≤ 1 →
      (s.imgSlot n.toNat x.toNat).ok = true → Completes (exec (.imgSelect m tag n x) s) fun u =>
        u.usedSlot n.toNat = x.toNat ∧ u.sys.imgSel = true ∧ u.fw.store = s.fw.store ∧ done 0x0804 [] u) ∧
    (∀ o, s.Open m → s.refuses m 0x0805 [n] = none → s.partnerStandby = false → s.onlineRefused n.toNat = none →
      s.onlineOf n.toNat = some o → Completes (exec (.onlineChange m tag n) s) fun u => u.fw.online = some o ∧
        (∃ c ∈ u.fw.commits, c.stages = [.online n.toNat] ∧ c.at_ = none) ∧ u.cfg = s.cfg) ∧
    (s.mode = mStandby → s.fw.images = [] → Completes (exec (.imgOpen 66 tag n x y) s) fun u =>
      u.imgSlot 5 (x.toNat % 2) = { size := y.toNat } ∧
      u.fw.images = [(1, some { type := 5, slot := x.toNat % 2, who := 66 })]) ∧
    (s.mode ≠ mStandby → ∀ c ∈ [Instr.imgOpen 66 tag n x y, .imgWrite 66 tag n x r, .imgClose 66 tag n],
      Completes (exec c s) fun u => u.fw = s.fw ∧ u.sent = s.sent ∧ Kept s u []) ∧
    (s.Open 64 → s.refuses 64 0x0404 (n :: r) = none → n.toNat ≤ 15 → s.saf.authBarred = false → r ≠ [] →
      let known := SMap.get [] 0 s.nv.passwords
      let mine := (s.fw.sessions.filter fun e => match e.2 with | some z => z.mbx == 64 | none => false).map (·.1)
      (known = [] → Completes (exec (.safeAuth 64 tag n r) s) fun u => (∃ salt, SMap.get [] 0 u.nv.passwords = saltedHash salt r) ∧
        u.saf.auth = mine ∧ Answered s u 64 0x0404 tag.toNat 0 []) ∧
      (known ≠ [] → passwordOk known r = true → Completes (exec (.safeAuth 64 tag n r) s) fun u => u.nv = s.nv ∧ u.saf.auth = mine ∧
        u.saf.authWrong = 0 ∧ Answered s u 64 0x0404 tag.toNat 0 []) ∧
      (known ≠ [] → passwordOk known r = false → Completes (exec (.safeAuth 64 tag n r) s) fun u =>
        u.saf.authWrong = s.saf.authWrong + 1 ∧ u.saf.auth = s.saf.auth ∧ u.nv = s.nv ∧
        Answered s u 64 0x0404 tag.toNat 0x0A [wd 0x10000])) ∧
    (s.Open m → s.refuses m 0x0301 [] = none → s.veering = false → s.sys.modeAt = none → s.fld Fld.RED_RESYNC_phase = 0 →
      (s.reg Reg.RED_CLAIM).toNat < 0xFFFFFFFE → Completes (exec (.veerReq m tag) s) fun u =>
        u.red.veer = some ⟨false, 0, ⟨m, (s.mbox m).nextId⟩⟩ ∧ u.fld Fld.RED_STATE_veer = 4 ∧
        ⟨.link, 0x0357, [1, 0]⟩ ∈ u.sent ∧ u.mode = s.mode) ∧
    (s.Open m → s.refuses m 0x0303 [n] = none → n.toNat < 512 → wBit (s.task n.toNat).decl 1 19 = true →
      Completes (exec (.checkpoint m tag n) s) fun u => ⟨n.toNat, s.commits n.toNat⟩ ∈ u.red.copies ∧
        done 0x0303 [] u) ∧
    (∀ (k : Fin 5) (ok : Bool) (b : ImageBody) z, SMap.get none k.val s.fw.images = some z → z.closed = true →
      z.checked = false → Completes (exec (.imageCheckDone k ok true b) s) fun u => 
        let good := ok && (z.type != 5 || b.entriesOk)
        (u.imgSlot z.type z.slot).ok = good ∧
        SMap.get none k.val u.fw.images = (if good && z.type == 5 then some { z with checked := true } else none) ∧
        (u.imgSlot z.type z.slot).body = if good then b else (s.imgSlot z.type z.slot).body) ∧
    ((∀ k, s.canTake k = false) → Completes (exec .mailboxRound s) fun u => u.fw = s.fw ∧ Kept s u []) ∧
    (∀ (k w2 : Nat), (∀ j, j ≠ 64 → s.canTake j = false) → s.canTake 64 = true → (s.mbox 64).line = [] → k ≤ 60 →
      (s.mbox 64).seqBase = none →
      let t := s.fld (Fld.MBX_REQ_TAIL_tail 64)
      let ws := s.words (reqSlot 64 t + 16) k
      s.words (reqSlot 64 t) 4 = [wd (0x0705 + tag.toNat * 65536), wd (4 * k), wd (0x4000 + w2 % 65536 * 65536), 0] →
      s.refuses 64 0x0705 ws = none → Completes (exec .mailboxRound s) fun u =>
        Answered s u 64 0x0705 tag.toNat 0 ws ∧ u.fld (Fld.MBX_REQ_TAIL_tail 64) = (t + 1) % 65536 ∧ u.fw.roundNext = 65)

/-- What each cause of a reset leaves, and what the loss of the supplies does. POWER_ON, MGMT_WATCHDOG_EXPIRY,
MGMT_LOCKSTEP_FAIL, OVER_TEMP_RESET, FATAL_ECC_RESET and, in a hold-up, HOLDUP_EXPIRY reset the module for causes 0,
2, 3, 10, 9 and 1: BOOT, every register at its reset value but the cause and the slot, volatile memory zeroed, no
session, record, plan or point; the image store, the claim in MRAM and the contacts stay. A cause that writes no
record before the reset leaves its words for boot; the supply cause writes them to the ring first. SUPPLY_LOSS begins
the hold-up, and a windward module with its partner in STANDBY yields. LOGIC_INPUT_CHANGE follows the input, raises or
clears its alarm, and ends a hold-up; with the last input missing the hold-up runs. (R42, R49, R54, R55, R61, R225, R503, R600) -/
def Obligations.ResetsAndSupplies : Prop :=
  ∀ (s : State) (x : BitVec 16),
    (Completes (exec .powerOn s) fun u => ResetBy s u rcPowerOn ∧ u.sys.pins.in0 = true ∧ u.sys.pins.in1 = true) ∧
    (Completes (exec .mgmtWatchdogExpiry s) fun u => ResetBy s u rcWatchdog ∧ u.nv.rstRec = some (s.resetWords rcWatchdog 0)) ∧
    (Completes (exec .mgmtLockstepFail s) fun u => ResetBy s u rcLockstep ∧ u.nv.rstRec = some (s.resetWords rcLockstep 0)) ∧
    (Completes (exec (.overTempReset x) s) fun u => ResetBy s u rcTemp ∧
      (u.nv.rstRec.getD []).getD 6 0 = wd x.toNat) ∧
    (Completes (exec (.fatalEccReset x) s) fun u => ResetBy s u rcEcc ∧ u.nv.rstRec = some (s.resetWords rcEcc x.toNat)) ∧
    (s.sys.holdup = true → Memory.wf s.mem = true → s.nv.rstIdx < 256 → Completes (exec .holdupExpiry s) fun u =>
      ResetBy s u rcSupply ∧ u.sys.pins.in0 = false ∧ u.sys.pins.in1 = false ∧ u.nv.rstIdx = (s.nv.rstIdx + 1) % 256 ∧
      u.words (0x800F00000 + s.nv.rstIdx * 32) 8 = s.exhausted.resetWords rcSupply 0 ++ [0x52455354]) ∧
    (s.sys.holdup = false → Completes (exec .holdupExpiry s) fun u => u.mode = s.mode ∧ u.sys = s.sys ∧ Kept s u []) ∧
    (s.sys.holdup = false → s.partnerStandby = false ∨ s.hasClaim = false → Completes (exec (.supplyLoss x) s) fun u =>
      u.sys.holdup = true ∧ u.sys.pins = s.sys.pins ∧ u.fld Fld.PNL_STAT_state = 4 ∧
      u.evr.staging = s.evr.staging.drop (1500 + x.toNat) ∧ u.reg Reg.RED_CLAIM = s.reg Reg.RED_CLAIM ∧ u.mode = s.mode) ∧
    (s.sys.holdup = false → s.partnerStandby = true → s.hasClaim = true → s.red.veer = none → s.AtRest →
      Completes (exec (.supplyLoss x) s) fun u => u.sys.holdup = true ∧ u.reg Reg.RED_CLAIM = 0 ∧
        Sends s u .link 0x0356 [s.reg Reg.RED_CLAIM, 2]) ∧
    (s.sys.holdup = true → Completes (exec (.supplyLoss x) s) fun u => u.sys = s.sys ∧ u.evr = s.evr ∧ Kept s u []) ∧
    (∀ n : Fin 2, Completes (exec (.logicInputChange n true) s) fun u =>
      u.sys.pins.in0 = (s.sys.pins.in0 || n.val == 0) ∧ u.sys.pins.in1 = (s.sys.pins.in1 || n.val == 1) ∧
      u.sys.holdup = false ∧ ((if n.val = 0 then s.sys.pins.in0 else s.sys.pins.in1) = false →
        u.sys.alerts.contains (alertId 600 n) = false) ∧ u.mode = s.mode ∧ Kept s u [Reg.PNL_STAT]) ∧
    (∀ n : Fin 2, let one := exec (.logicInputChange n false) s
      ((if n.val = 0 then s.sys.pins.in0 else s.sys.pins.in1) = false → Completes one fun u => u.sys = s.sys ∧ Kept s u []) ∧
      ((if n.val = 0 then s.sys.pins.in0 else s.sys.pins.in1) = true →
        ((if n.val = 0 then s.sys.pins.in1 else s.sys.pins.in0) = true → Completes one fun u =>
          u.sys.pins.in0 = (n.val == 1) ∧ u.sys.pins.in1 = (n.val == 0) ∧ u.sys.holdup = s.sys.holdup ∧
          u.sys.alerts.contains (alertId 600 n) = true ∧ u.mode = s.mode ∧ Kept s u []) ∧
        ((if n.val = 0 then s.sys.pins.in1 else s.sys.pins.in0) = false →
          s.partnerStandby = false ∨ s.hasClaim = false → Completes one fun u =>
            u.sys.pins.in0 = false ∧ u.sys.pins.in1 = false ∧ u.sys.holdup = true ∧ u.mode = s.mode)))

/-- From the release of reset to the first mode. RESET_RELEASE counts a boot; a step that fails leaves the module waiting
at it; otherwise step 8 is done, PRT is locked and the start mode shows; outside a booting BOOT it does nothing.
BOOT_COMPLETE of a module outside a pair: SERVICE where it is asked for or an application is missing, else the claim
one above the highest known, to MRAM too, with COMMISSION, SAFE or, at the next boundary, ACTIVE by R612. In a pair:
RESYNC beside an ACTIVE partner, a witness ask with no answer. PARTNER_POLL asks again; WITNESS_ABSENT_TIMEOUT waits
for an override; COMMISSION_CONFIRM_TIMEOUT drops a request that waits for the Enter key. (R43, R47, R48, R49, R50,
R52, R213, R228, R612) -/
def Obligations.StartUp : Prop :=
  ∀ (s : State) (c : Word) (p q : Bool) (f : Fin 9) (ans : Option (Fin 8 × Word)),
    (s.mode = mBoot → s.sys.wait = .booting → s.sys.pins.seated = true → (s.sys.pins.in0 || s.sys.pins.in1) = true →
      (1 ≤ f.val → f.val ≤ 8 → Completes (exec (.resetRelease f p q) s) fun u => u.sys.wait = .stepFailed f ∧
        u.fld Fld.SYS_BOOT_step = f.val - 1 ∧ u.nv.boots = s.nv.boots + 1 ∧ u.mode = mBoot) ∧
      (Completes (exec (.resetRelease 0 p q) s) fun u => u.sys.wait = .none ∧ u.fld Fld.SYS_BOOT_step = 8 ∧
        u.nv.boots = s.nv.boots + 1 ∧ u.sys.startShown = true ∧ u.isSet Fld.PRT_LOCK_lock = true)) ∧
    (s.mode ≠ mBoot ∨ s.sys.wait ≠ .booting ∨ s.sys.pins.seated = false ∨ (s.sys.pins.in0 || s.sys.pins.in1) = false →
      Completes (exec (.resetRelease f p q) s) fun u =>
      u.sys = s.sys ∧ u.nv = s.nv ∧ Kept s u []) ∧
    (s.mode = mBoot → s.sys.wait = .none → s.fld Fld.SYS_BOOT_step = 8 →
      let go := exec (.bootComplete ans) s
      (s.nv.service = true → Completes go fun u => u.mode = mService ∧ u.reg Reg.RED_CLAIM = 0) ∧
      (s.nv.service = false → s.sys.pins.pair = false → s.highClaim.toNat < 0xFFFFFFFE →
        let n := s.highClaim + 1
        (s.sys.commReq = false → s.sys.cfgValid = true → s.sys.appValid = false →
          Completes go fun u => u.mode = mService ∧ u.reg Reg.RED_CLAIM = 0 ∧ u.nv.claim = s.nv.claim) ∧
        (s.sys.commReq = true ∨ s.sys.cfgValid = false → Completes go fun u =>
          u.mode = mCommission ∧ u.reg Reg.RED_CLAIM = n ∧ u.nv.claim = n) ∧
        (s.sys.commReq = false → s.sys.cfgValid = true → s.sys.appValid = true → (s.image 4).body.startCommission = false →
          (s.sys.placeBad = true → Completes go fun u => u.mode = mSafe ∧ u.reg Reg.RED_CLAIM = n ∧ u.nv.claim = n) ∧
          (s.sys.placeBad = false → Completes go fun u => u.mode = mBoot ∧ u.sys.modeAt = some (mActive, 255) ∧
            u.reg Reg.RED_CLAIM = n ∧ u.nv.claim = n ∧ u.fld Fld.SYS_BOOT_step = 9))) ∧
      (s.nv.service = false → s.sys.pins.pair = true → s.sys.commReq = false →
        (ans = some (3, c) → Completes go fun u => u.mode = mResync ∧ u.fld Fld.RED_RESYNC_phase = 1 ∧
          u.reg Reg.RED_CLAIM_PEER = c ∧ u.reg Reg.RED_CLAIM = 0) ∧
        (ans = none → s.sys.cfgValid = false ∨ s.sys.appValid = true → Completes go fun u => u.mode = mBoot ∧
          u.sys.wait = .asking ∧ u.red.ask = some ⟨2, false⟩ ∧ (s.witnesses = [] ↔ u.sent = s.sent)))) ∧
    (s.mode ≠ mBoot → ∀ x ∈ [Instr.bootComplete ans, .partnerPoll ans], Completes (exec x s) fun u => u.sys = s.sys ∧
      u.red = s.red ∧ u.nv = s.nv ∧ Kept s u []) ∧
    (s.mode = mBoot → s.sys.wait = .odd → s.sys.pins.pair = true → s.nv.service = false → s.sys.commReq = false →
      s.prt.lanes = [] → Completes (exec (.partnerPoll (some (3, c))) s) fun u => u.mode = mResync ∧
        u.fld Fld.RED_RESYNC_phase = 1 ∧ u.clk = s.clk + 250000000) ∧
    (s.mode = mBoot → s.sys.wait = .witnessAbsent → s.prt.lanes = [] → Completes (exec (.partnerPoll ans) s) fun u =>
      u.mode = mBoot ∧ u.sys.wait = .witnessAbsent ∧ u.red.ask = some ⟨2, false⟩) ∧
    (Completes (exec .witnessAbsentTimeout s) fun u =>
      u.sys.wait = (if s.sys.wait = .asking then .witnessAbsent else s.sys.wait) ∧ u.red = s.red ∧ Kept s u []) ∧
    (∀ d, s.sys.confirm = some d → d.mbx < 68 → Completes (exec .commissionConfirmTimeout s) fun u => u.sys.confirm = none ∧
      u.sys.modeAt = s.sys.modeAt ∧ u.mode = s.mode ∧ u.cfg = s.cfg) ∧
    (s.sys.confirm = none → Completes (exec .commissionConfirmTimeout s) fun u => u.sys = s.sys ∧ u.fw = s.fw ∧ Kept s u [])

/-- The trade-cycle boundary, its ticks, the check of a plan, and the end of a placement run. With no commit,
confirmation, plan or veer due: TRADE_CYCLE_BOUNDARY moves the clock to the next cycle start, counts the cycle and
restarts its ticks; with nothing in flight, a scheduled mode whose transition stands takes force there. TICK_250US
counts the tick. PLAN_READY_CHECK without the ready mark changes no plan state; with it, result 0 alone makes the plan
the next one, an area without its magic word is result 1, and a late plan takes a leeward module out of STANDBY. PLACEMENT_DONE takes the oldest run off the list.
INSTANCE_MOVE_DONE builds the new pair and forgets the old place, unless the task is in progress. SHADOW_BANK_LOADED
marks the online change loaded. (R23, R33, R42, R46, R71, R92, R107, R108, R127, R129, R135, R169) -/
def Obligations.TradeCycleAndPlans : Prop :=
  ∀ (s : State),
    (s.fw.commits = [] → s.saf.confirmNext = [] → s.prt.planNext = none → s.red.veer = none → s.pfc = [] →
      (s.sys.modeAt = none → Completes (exec .tradeCycleBoundary s) fun u => u.sys.tc0 = s.sys.tc0 + s.tcyc ∧
        u.sys.cycles = s.sys.cycles + 1 ∧ u.sys.tick = 0 ∧ u.clk = max s.clk (s.sys.tc0 + s.tcyc) ∧ u.cfg = s.cfg) ∧
      (∀ m, s.sys.modeAt = some (m, 255) → s.AtRest → boundaryMove s.mode m = true → s.mode ≠ mStandby → m ≠ mSelftest →
        s.partnerStandby = false → Completes (exec .tradeCycleBoundary s) fun u => u.mode = m ∧ u.sys.modeAt = none ∧
          u.fld Fld.SYS_MODE_prev = s.mode ∧ u.sys.tc0 = s.sys.tc0 + s.tcyc ∧
          (keepsClaim m = false → u.reg Reg.RED_CLAIM = 0)) ∧
      (∀ m, s.sys.modeAt = some (m, 255) → s.AtRest → boundaryMove s.mode m = false →
        Completes (exec .tradeCycleBoundary s) fun u => u.mode = s.mode ∧ u.sys.modeAt = none)) ∧
    (s.prt.lanes = [] → Completes (exec .tick250us s) fun u => u.sys.tick = s.sys.tick + 1 ∧ u.sys.tc0 = s.sys.tc0 ∧
      u.clk = max s.clk (s.sys.tc0 + s.sys.tick * 62500) ∧ u.cfg = s.cfg) ∧
    (s.prt.lanes = [] →
      let b := s.idleArea
      (s.word (b + 0x3C) ≠ 0x504C5244 ∨ s.prt.planNext.isSome = true → Completes (exec .planReadyCheck s) fun u =>
        u.prt = s.prt ∧ Kept s u []) ∧
      (s.word (b + 0x3C) = 0x504C5244 → s.prt.planNext = none → s.mode = mStandby → s.AtRest →
        Completes (exec .planReadyCheck s) fun u => (u.fld Fld.PRT_PLANSTAT_result = 11 → u.mode = mResync ∧
          u.fld Fld.RED_STATE_cause = 5) ∧ (u.fld Fld.PRT_PLANSTAT_result ≠ 11 → u.mode = mStandby)) ∧
      (s.word (b + 0x3C) = 0x504C5244 → s.prt.planNext = none → s.mode ≠ mStandby → Completes (exec .planReadyCheck s) fun u =>
        u.prt.planNext = (if u.fld Fld.PRT_PLANSTAT_result = 0 then some (1 - s.fld Fld.PRT_PLANSTAT_active) else none) ∧
        (s.word b ≠ 0x504C414E → u.fld Fld.PRT_PLANSTAT_result = 1) ∧ u.mem = s.mem ∧
        Kept s u [Reg.PRT_PLANSTAT])) ∧
    (∀ x r, s.mode ≠ mSelftest → s.prt.placing = x :: r → s.partnerStandby = false → Completes (exec .placementDone s) fun u =>
      u.prt.placing = r ∧ u.prt.reportId = (s.prt.reportId + 1) % 65536 ∧
      (u.prt.reports.head?.map (·.1)) = some u.prt.reportId) ∧
    (s.prt.placing = [] ∨ s.mode = mSelftest → Completes (exec .placementDone s) fun u => u.prt = s.prt ∧ Kept s u []) ∧
    (∀ (t : Fin 512) b, (s.task t).oldBase = some b →
      (s.inProgress.contains t.val = false → Completes (exec (.instanceMoveDone t) s) fun u => (u.task t).oldBase = none ∧
        (∀ nb, s.planInst t = some nb → u.word nb = 0x494E5354 ∧ u.word (nb + 12) = wd t)) ∧
      (s.inProgress.contains t.val = true → Completes (exec (.instanceMoveDone t) s) fun u => u.prt = s.prt ∧
        Kept s u [])) ∧
    (∀ t : Fin 512, (s.task t).oldBase = none → Completes (exec (.instanceMoveDone t) s) fun u => u.prt = s.prt ∧
      Kept s u []) ∧
    (∀ o, s.fw.online = some o → o.loaded = false → s.red.prepared = [] → s.fw.commits = [] →
      Completes (exec .shadowBankLoaded s) fun u => u.fw.online = some { o with loaded := true } ∧
        u.prt = { s.prt with dram := u.prt.dram }) ∧
    (∀ o (tag : Nat), s.fw.online = some o → o.loaded = false → s.red.prepared = [⟨tag, 4, [.force 0 0 true]⟩] →
      Completes (exec .shadowBankLoaded s) fun u => Sends s u .link 0x0351 [wd tag] ∧ u.red.prepared = []) ∧
    (s.fw.online = none → Completes (exec .shadowBankLoaded s) fun u => u.fw = s.fw ∧ Kept s u [])

/-- Optical modules, the witness lines, the partner’s presence, the oscillator and a bank that scrubbing finds bad.
SFP_INSERT keeps what the module declares, shows it in ETH_PSTAT and RED_LINK and lights its transmitter only at 1.0 W or less and for an allowed type;
SFP_DIAG_POLL, 1 s after the last read, keeps the diagnostics of a module that is in and raises or clears its alarm. WITNESS_LINE_DISAGREE is
recorded on a copper pair and decides nothing. OSCILLATOR_WARM and PARTNER_PRESENCE_CHANGE show in SYS_STAT and
SYS_SLOT. ECC_SCRUB_ERROR marks the bank in MRAM once; bank 15 asks for a placement run, a bank of a usable pair takes
the pair out, any other bank of an ACTIVE module without a partner in step ends in SAFE. (R20, R44, R53, R184, R195,
R234, R509, R593, R598) -/
def Obligations.ConnectorsAndBanks : Prop :=
  ∀ (s : State) (n : Fin 2) (id : SfpIdent) (diag : List Word) (b : Bool),
    (Completes (exec (.sfpInsert n id diag) s) fun u =>
      u.cage n = { present := true, tx := decide (id.power ≤ 1000) && s.sfpAllowed id.type, diag := diag, readAt := s.clk } ∧
      u.isSet (Fld.ETH_PSTAT_sfp (4 + n)) = true ∧ bit (u.reg Reg.RED_LINK) (2 + n) = true ∧
      (∀ k, k ≠ n.val → u.cage k = s.cage k) ∧ Kept s u [Reg.ETH_PSTAT (4 + n), Reg.RED_LINK]) ∧
    ((s.cage n).present = true → s.pfc = [] → s.prt.lanes = [] → Completes (exec (.sfpDiagPoll n diag b) s) fun u =>
      u.cage n = { s.cage n with diag := diag, readAt := u.clk } ∧ u.clk = max s.clk ((s.cage n).readAt + 250000000) ∧ u.sys.alerts.contains (alertId 598 n) = b ∧ Kept s u []) ∧
    ((s.cage n).present = false → Completes (exec (.sfpDiagPoll n diag b) s) fun u => u.sfp = s.sfp ∧ u.sys = s.sys ∧
      Kept s u []) ∧
    (Completes (exec .witnessLineDisagree s) fun u => u.evr.inbox.length =
        s.evr.inbox.length + (if s.sys.pins.pair && !s.fibre then 1 else 0) ∧ u.red = s.red ∧ u.mode = s.mode ∧ Kept s u []) ∧
    (Completes (exec .oscillatorWarm s) fun u => u.isSet Fld.SYS_STAT_osc_warm = true ∧ u.sys = s.sys ∧ Kept s u []) ∧
    (Completes (exec (.partnerPresenceChange b) s) fun u => u.sys.pins.partnerIn = b ∧
      u.isSet Fld.SYS_SLOT_partner_in = b ∧ u.mode = s.mode ∧ Kept s u [Reg.SYS_SLOT]) ∧
    (∀ k : Fin 16,
      let marked := exec (.eccScrubError k) s
      (s.nv.bankMarks.testBit k = true → Completes marked fun u => u.nv = s.nv ∧ u.prt = s.prt ∧ u.mode = s.mode ∧
        Kept s u []) ∧
      (s.nv.bankMarks.testBit k = false →
        (k.val = 15 → Completes marked fun u => u.nv.bankMarks = s.nv.bankMarks + 2 ^ 15 ∧
          u.prt.placing = s.prt.placing ++ [⟨1, false, 0⟩] ∧ u.isSet Fld.SYS_STAT_degraded = true ∧ u.mode = s.mode) ∧
        (∀ p, p < 4 → k.val = 6 + p → s.pairUsable p = true → s.mode ≠ mStandby → s.prt.lanes = [] →
          Completes marked fun u => u.nv.bankMarks = s.nv.bankMarks + 2 ^ k.val ∧ u.pairUsable p = false ∧
            u.nv.pairMarks.testBit p = true ∧ u.isSet Fld.SYS_STAT_degraded = true) ∧
        (k.val < 6 ∨ 9 < k.val ∧ k.val < 15 → s.mode = mActive → s.partnerStandby = false → s.handingOver = false →
          s.taking = false → s.AtRest → Completes marked fun u => u.mode = mSafe ∧ u.nv.bankMarks = s.nv.bankMarks + 2 ^ k.val ∧
            u.reg Reg.RED_CLAIM = s.reg Reg.RED_CLAIM)))

/-- The structural self-test from its image to its end, and what station firmware measures of ageing. SELFTEST_IMAGE_READY
with a good image begins the first item, with a bad one ends the test in a reset; SELFTEST_ITEM_DONE keeps a pair's
result and signature, marks it in MRAM and begins the next item, and at the last one ends in the reset SELFTEST_END.
SELFTEST_CONDITION_FAIL shows its measures and, in a test, a deviation beyond 1 % of the clock aborts it. Outside the
modes that measure, the ageing commands do nothing; in them PATH_MONITOR_READ lowers the ageing point by the worst
delay, THERMAL_POINT_STEP steps down at once and up after a minute, ESR_MEASURE and SCAP_TEST keep their first value
as base, STAGE_CYCLE_READ adds weighted cycles, and LIFE_REPORT_UPDATE adds a day. (R560, R561, R563, R567, R568,
R570, R572, R573, R575, R576, R577, R578) -/
def Obligations.SelfTestAndAgeing : Prop :=
  ∀ (s : State) (sig : Word) (w : BitVec 17) (cs : List (Fin 256)) (x y z : BitVec 16) (ds : List (BitVec 16)) (k : Fin 4),
    (s.mode = mSelftest → s.fld Fld.BST_STAT_state = 1 →
      (s.testPlan % 16 ≠ 0 → s.bstConditions = true → Completes (exec (.selftestImageReady true) s) fun u =>
        u.fld Fld.BST_STAT_item = 1 ∧ u.fld Fld.BST_STAT_state = 2 ∧ u.bst.todo = s.testItems.tail ∧ u.mode = mSelftest) ∧
      (s.testPlan % 16 ≠ 0 → s.bstConditions = false → Completes (exec (.selftestImageReady true) s) fun u => u.mode = mBoot ∧
        u.fld Fld.SYS_RSTCAUSE_cause = rcSelftest ∧ u.nv.cut = none) ∧
      Completes (exec (.selftestImageReady false) s) fun u => u.mode = mBoot ∧
        u.fld Fld.SYS_RSTCAUSE_cause = rcSelftest ∧ u.nv.cut = none ∧ u.nv.reports.tail = s.nv.reports.take 3) ∧
    (s.mode ≠ mSelftest → ∀ (p : Bool), ∀ c ∈ [Instr.selftestImageReady p, .selftestItemDone p sig w cs],
      Completes (exec c s) fun u => u.bst = s.bst ∧ u.nv = s.nv ∧ u.mode = s.mode ∧ Kept s u []) ∧
    (∀ (p : Bool) (r : List (Nat × Nat × Bool)), s.testing = true → s.fld Fld.BST_STAT_item = 2 →
      s.fld Fld.BST_STAT_target < 4 → s.bst.todo = (3, 0, true) :: r → s.bstConditions = true →
      let t := s.fld Fld.BST_STAT_target
      Completes (exec (.selftestItemDone p sig w cs) s) fun u => u.fld (Fld.BST_PAIR_result t) = b1 (!p) ∧
        u.reg (Reg.BST_SIG t) = sig ∧ u.nv.pairMarks.testBit t = !p ∧ u.fld Fld.BST_STAT_item = 3 ∧
        u.fld Fld.BST_STAT_target = 0 ∧ u.fld Fld.BST_STAT_state = 3 ∧ u.mode = mSelftest) ∧
    (∀ p : Bool, s.testing = true → s.bst.todo = [] → Completes (exec (.selftestItemDone p sig w cs) s) fun u =>
      u.mode = mBoot ∧ u.fld Fld.SYS_RSTCAUSE_cause = rcSelftest ∧ u.nv.cut = none) ∧
    (s.testing = false → Completes (exec (.selftestConditionFail x y z) s) fun u => u.fld Fld.BST_COND_clock = x.toNat ∧
      u.fld Fld.BST_COND_supply = y.toNat ∧ u.fld Fld.SYS_TEMP_now = z.toNat ∧ u.mode = s.mode ∧
      Kept s u [Reg.BST_COND, Reg.SYS_TEMP]) ∧
    (s.testing = true → 100 < x.toInt.natAbs → Completes (exec (.selftestConditionFail x y z) s) fun u => u.mode = mBoot ∧
      u.fld Fld.SYS_RSTCAUSE_cause = rcSelftest) ∧
    (s.ages = false → ∀ c ∈ [Instr.pathMonitorRead ds k, .esrMeasure x true, .scapTest x,
        .stageCycleRead [], .lifeReportUpdate], Completes (exec c s) fun u => u.nv = s.nv ∧ u.age = s.age ∧ u.prt = s.prt ∧
      Kept s u []) ∧
    (s.mode = mBoot ∨ s.mode = mSelftest → Completes (exec (.thermalPointStep x) s) fun u => u.fld Fld.AGE_TEMP_now = x.toNat ∧
      u.nv = s.nv ∧ u.age = s.age ∧ u.prt = s.prt ∧ Kept s u [Reg.AGE_TEMP]) ∧
    (s.mode ≠ mBoot → s.mode ≠ mSelftest → 650 ≤ x.toInt → s.fld Fld.AGE_OP_thermal < 3 → Completes (exec (.thermalPointStep x) s)
      fun u => u.fld Fld.AGE_OP_thermal = 3 ∧ u.isSet Fld.SYS_STAT_step_down = true ∧ u.fld Fld.AGE_TEMP_now = x.toNat) ∧
    (s.ages = true →
      (s.age.worst = [] → Completes (exec (.pathMonitorRead ds k) s) fun u =>
        let worst := ((ds.take 24).map (·.toNat)).foldl max 0
        u.nv.ageingPoint = max s.nv.ageingPoint (delayPoint worst) ∧ u.age.worst = [worst] ∧
        u.nv.pathBase = (if s.nv.pathBase = 0 then worst else s.nv.pathBase) ∧ u.fld Fld.AGE_OP_partner = k ∧
        (1175 < worst → srcPath ∈ u.nv.ended ∧ u.isSet Fld.SYS_STAT_degraded = true)) ∧
      (x.toInt ≤ 520 → s.fld Fld.AGE_OP_thermal = 1 →
        (s.age.coolSince = none → Completes (exec (.thermalPointStep x) s) fun u => u.fld Fld.AGE_OP_thermal = 1 ∧
          u.age.coolSince = some s.time ∧ u.prt = s.prt) ∧
        ∀ t, s.age.coolSince = some t → s.prt.lanes = [] → Completes (exec (.thermalPointStep x) s) fun u =>
          u.fld Fld.AGE_OP_thermal = 0 ∧ u.age.coolSince = none ∧ u.isSet Fld.SYS_STAT_step_down = false) ∧
      (s.sys.pins.in0 = true → s.sys.pins.in1 = true → Completes (exec (.esrMeasure x true) s) fun u =>
        let base := if s.nv.esrBase = 0 then x.toNat else s.nv.esrBase
        u.nv.esrBase = base ∧ u.fld Fld.AGE_ESR_esr = x.toNat ∧ (2 * base ≤ x.toNat → srcBulk ∈ u.nv.ended)) ∧
      (s.skipsScap = false → Completes (exec (.scapTest x) s) fun u => u.fld Fld.AGE_SCAP_holdup = x.toNat ∧
        u.nv.scapBase = (if s.nv.scapBase = 0 then x.toNat else s.nv.scapBase) ∧
        (x.toNat < 200 → u.isSet Fld.SYS_STAT_degraded = true ∧ srcScap ∈ u.nv.ended)) ∧
      (s.skipsScap = true → Completes (exec (.scapTest x) s) fun u => u.nv = s.nv ∧ Kept s u [Reg.AGE_MOVES]) ∧
      (∀ c : StageCycles, Completes (exec (.stageCycleRead [c]) s) fun u =>
        SMap.get 0 c.stage u.nv.stageCycles = SMap.get 0 c.stage s.nv.stageCycles + c.weight ∧ Kept s u []) ∧
      Completes (exec .lifeReportUpdate s) fun u => u.nv.day = s.nv.day + 1 ∧ u.nv.life.length = 26 ∧
        (∀ k, plainReg k = true → u.reg k = s.reg k) ∧ u.cfg = s.cfg ∧ u.pts = s.pts ∧ u.outs = s.outs ∧
        ∀ x, x < 0x800F10000 ∨ 0x801000000 ≤ x → u.byte x = s.byte x)

/-- A group from its request to its one outcome. GROUP_REQUEST without a message, or on a queue of another consumer,
changes nothing. A well-formed request makes a group: integral parts asked at once, the deadline, the reply queue; an
ill-formed one waits as a BAD_ARG outcome behind another of its reply queue. RING_CYCLE_START commits a decided group
with an apply time 250 µs after the cycle's start. GROUP_PART_ANSWER records PREPARED, decides at the last one, and
ends the group at a reason. The deadline ends it ABORTED, with reason 4 for silent parts. A report records APPLIED or
FAILED; the window ends the group, PARTIAL where a remote part is silent. An outcome goes to its queue when the queue
takes it. An expired preparation is dropped. A pulse's end restores its point. A module whose networks are silent, as the leeward
one, only holds the table. (R254, R255, R256, R257, R258, R448) -/
def Obligations.GroupTransactions : Prop :=
  ∀ (s : State) (q : Fin 8192) (g : Fin 256),
    (s.front q = none ∨ s.qConsumer q ≠ 0x25 → Completes (exec (.groupRequest q) s) fun u => u.qe = s.qe ∧ Kept s u []) ∧
    (∀ d, s.front q = some d → s.qConsumer q = 0x25 → s.leeward = false → s.msgKind d = 6 → s.qe.groups.length < 256 →
      s.qe.nextGroup < 256 → s.group s.qe.nextGroup = none →
      let ws := s.msgWords d
      let n := wBits ws 0 4 0
      let dl := wBits ws 1 16 0
      (1 ≤ n → n ≤ 16 → 16 + 16 * n ≤ s.msgLen d → dl = 0 ∨ (250 ≤ dl ∧ dl ≤ 100000) → wAt ws 2 = 0 →
        (∀ i < n, memberOk ws i = true) → Completes (exec (.groupRequest q) s) fun u =>
          (∃ x, u.group s.qe.nextGroup = some x ∧ x.phase = 1 ∧ x.taken = s.time ∧
            x.deadline = s.time + (if dl = 0 then 2000 else dl) * 1000 ∧ x.asked = 0 ∧ x.reply = wBits ws 3 12 0 ∧
            x.partition = s.msgPart d ∧ x.maker = SMap.get 0 d s.qe.makers ∧ (∀ p ∈ x.parts, p.phase = (if p.unit < 16 then 1 else 0) ∧ p.reported = false ∧
              ∀ m ∈ p.members, s.memberUnit m.point = p.unit ∧ m ∈ reqMembers ws n) ∧
            (∀ m ∈ reqMembers ws n, ∃ p ∈ x.parts, m ∈ p.members)) ∧
          (u.queue q).msgs = (s.queue q).msgs.filter (· != d) ∧ u.qe.nextGroup = (s.qe.nextGroup + 1) % 256) ∧
      (n = 0 ∨ 16 < n ∨ (dl ≠ 0 ∧ dl < 250) ∨ 100000 < dl → s.qe.outcomes.any (fun o => o.1 == wBits ws 3 12 0) = true →
        Completes (exec (.groupRequest q) s) fun u => u.qe.groups = s.qe.groups ∧
          ∃ k ps, u.qe.outcomes = s.qe.outcomes ++ [(wBits ws 3 12 0, outcomeWords stBadArg (k % 256) ps s.time)])) ∧
    (∀ (r : Fin 2) x, s.netSilent = false → s.group g = some x → x.phase = 2 → x.asked = 0 → Completes (exec (.ringCycleStart r) s) fun u =>
      u.group g = some { x with
        phase := 3, apply := u.time + 250000
        parts := x.parts.map fun p => if p.phase = 2 then { p with phase := 4 } else p }) ∧
    (∀ (i told : Fin 16), (s.group g = none → Completes (exec (.groupPartAnswer g i told) s) fun u => u.qe = s.qe ∧ Kept s u []) ∧
      (∀ x p, s.netSilent = false → s.group g = some x → x.parts[i.val]? = some p → x.phase = 1 → p.phase = 1 →
        (s.partAnswer g x p told = 0 → Completes (exec (.groupPartAnswer g i told) s) fun u => ∃ y, u.group g = some y ∧
          y.parts = (x.withPart i fun p => { p with phase := 2 }).parts ∧ y.reply = x.reply ∧
          y.phase = (if y.parts.all (fun p => p.phase == 2) then 2 else 1)) ∧
        (∀ why, s.partAnswer g x p told = why → why ≠ 0 → s.qe.outcomes.any (fun o => o.1 == x.reply) = true →
          Completes (exec (.groupPartAnswer g i told) s) fun u => u.group g = none ∧
            u.fld Fld.QE_GRPOUT_aborted = satInc 16 (s.fld Fld.QE_GRPOUT_aborted) ∧
            u.qe.outcomes = s.qe.outcomes ++ [(x.reply, outcomeWords stAborted g
              (x.withPart i fun p => { p with phase := 3, reason := why }).parts s.time)]))) ∧
    (∀ x, s.netSilent = false → s.group g = some x → x.phase = 1 → Completes (exec (.groupPrepareDeadline g) s) fun u => u.group g = none ∧
      (s.qe.outcomes.any (fun o => o.1 == x.reply) = true → u.qe.outcomes = s.qe.outcomes ++ [(x.reply, outcomeWords stAborted g
        (x.parts.map fun p => if p.phase ≤ 1 then { p with reason := 4 } else p) u.time)])) ∧
    (s.group g = none ∨ s.netSilent = true → ∀ (i told : Fin 16), ∀ c ∈ [Instr.groupPartAnswer g i told, .groupPrepareDeadline g,
        .groupPartReport g i told, .groupReportWindowEnd g], Completes (exec c s) fun u => u.qe = s.qe ∧ Kept s u []) ∧
    (∀ (i told : Fin 16) x p, s.netSilent = false → s.group g = some x → x.parts[i.val]? = some p → x.phase = 3 → p.phase = 4 → 16 ≤ p.unit →
      x.apply ≤ s.time → (∃ j y, x.parts[j]? = some y ∧ j ≠ i.val ∧ y.reported = false) →
      (told.val ≠ 0 → Completes (exec (.groupPartReport g i told) s) fun u => u.group g =
        some (x.withPart i fun p => { p with phase := 6, reason := told, reported := true })) ∧
      (told.val = 0 → Completes (exec (.groupPartReport g i told) s) fun u => u.group g =
        some (x.withPart i fun p => { p with phase := 5, reported := true }) ∧
        ∀ m, p.members = [m] → (SMap.get ⟨0, 0, 0⟩ (m.point % 2 ^ 18) (u.runit p.unit).outs).val = m.val.setWidth 64)) ∧
    (∀ x, s.netSilent = false → s.group g = some x → x.phase = 3 → Completes (exec (.groupReportWindowEnd g) s) fun u => u.group g = none ∧
      ((∃ p ∈ x.parts, 16 ≤ p.unit ∧ p.reported = false) → s.qe.outcomes.any (fun o => o.1 == x.reply) = true →
        ∃ ps, u.qe.outcomes = s.qe.outcomes ++ [(x.reply, outcomeWords stPartial g ps x.apply)])) ∧
    (s.qe.outcomes.find? (fun o => o.1 == q.val) = none → Completes (exec (.groupOutcomeEnqueue q) s) fun u => u.qe = s.qe ∧ Kept s u []) ∧
    (∀ o, s.qe.outcomes.find? (fun o => o.1 == q.val) = some o →
      let took := (s.deliver q ⟨7, 0x25, wordBytes o.2, 0, 0⟩).2
      (took = true → Completes (exec (.groupOutcomeEnqueue q) s) fun u => u.qe.outcomes = s.qe.outcomes.erase o ∧
        (u.queue q).seq = ((s.queue q).seq + 1) % 65536 ∧ u.qe.groups = s.qe.groups) ∧
      (took = false → Completes (exec (.groupOutcomeEnqueue q) s) fun u => u.qe = s.qe ∧ Kept s u [])) ∧
    (∀ n : Fin 256, Completes (exec (.unitPreparationExpiry n) s) fun u => u.group g = (s.group g).map fun x => { x with
      parts := x.parts.map fun p => if p.unit = n.val ∧ (p.phase = 2 ∨ p.phase = 4) then { p with phase := 7 } else p }) ∧
    (∀ p : Pulse, p ∈ s.qe.pulses → p.unit < 16 → (∀ x ∈ s.qe.pulses, x.point = p.point → x = p) → p.point < 2 ^ 32 →
      Completes (exec (.groupPulseEnd (wd p.point)) s) fun u => (u.out p.point).val = p.back ∧
        u.qe.pulses = s.qe.pulses.erase p ∧ ∀ y, y ≠ p.point → u.out y = s.out y) ∧
    (∀ a : Word, (∀ x ∈ s.qe.pulses, x.point ≠ a.toNat) → Completes (exec (.groupPulseEnd a) s) fun u => u.qe = s.qe ∧ Kept s u [])

/-- Loop slots from trigger to output, and injection jobs. LOOP_TRIGGER of a disabled slot, or of a module that does not
act, changes nothing. A second trigger of one clock changes nothing; one that finds a run pending counts a skip, in a job's
buffer too; else it takes a MODE item published in an earlier clock, which stops a job at OFF and HOLD, in OFF latches nothing and
otherwise latches the sources, the mode and the limits. LOOP_RUN_DISPATCH gives the next pending run to a free lane, no earlier than
16 ns after its trigger. Of memory only the slot's run state changes, which bank 5 then holds. LOOP_RUN_OUTPUT ends the run: none in OFF; u kept in HOLD
and at a bad source of policy 0; the configured output at policy 1; else within the limits, and within the rate of the
last output; a point target receives the converted output. INJECTION_JOB frees a message that is no job, and any at the leeward module, stores an
accepted job, leaves a refused one, and a cancel aborts a job with reason 5. CAPTURE_DELIVERY_RETRY and
CAPTURE_DELIVERY_ABANDON treat the delivery. (R268, R270, R272, R273, R274, R275, R277, R278, R284, R288, R289, R290) -/
def Obligations.ControlLoopsAndJobs : Prop :=
  ∀ (s : State),
    (∀ i : Fin 1024,
      (loopEn (s.loopRec i) = false ∨ s.takesTriggers = false →
        Completes (exec (.loopTrigger i) s) fun u => u.ce = s.ce ∧ Kept s u []) ∧
      (loopEn (s.loopRec i) = true → s.takesTriggers = true →
        (s.triggeredNow i = true → Completes (exec (.loopTrigger i) s) fun u => u.ce = s.ce ∧ Kept s u []) ∧
        (∀ l, s.triggeredNow i = false → (s.loop i).pending = some l → Completes (exec (.loopTrigger i) s) fun u =>
          u.loop i = { s.loop i with skipped := satInc 16 (s.loop i).skipped } ∧
          u.words (loopRunAddr i) 8 = u.runWords i ∧
          (∀ b x, s.jobOn i = some (b, x) → u.job b = some { x with skips := x.skips + 1 }) ∧
          (s.jobOn i = none → KeptOff s u [Reg.CE_SKIPCNT] (loopRunAddr i) 32)) ∧
        (s.triggeredNow i = false → (s.loop i).pending = none →
          (∀ k ∈ [liMANUAL, liOUTLO, liOUTHI], (s.outBefore (loopItem i k)).q ≠ 0) →
          ((s.out (loopItem i liMODE)).q = 0 → (s.out (loopItem i liMODE)).time ≠ s.time →
            Completes (exec (.loopTrigger i) s) fun u =>
              (u.loop i).mode = (s.out (loopItem i liMODE)).val.toNat % 4 ∧ (u.out (loopItem i liMODE)).q = 1 ∧
              (u.loop i).u = (s.loop i).u ∧ u.pts = s.pts ∧
              (∀ b x, s.jobOn i = some (b, x) → (u.loop i).mode = 0 ∨ (u.loop i).mode = 3 →
                ∃ y, u.job b = some y ∧ y.active = false ∧ y.reason = 3) ∧
              (s.jobOn i = none → ∀ y, y < loopRunAddr i ∨ loopRunAddr i + 32 ≤ y → u.byte y = s.byte y)) ∧
          ((s.outBefore (loopItem i liMODE)).q ≠ 0 →
            ((s.loop i).mode = 0 → Completes (exec (.loopTrigger i) s) fun u =>
              u.loop i = { s.loop i with runMode := 0 } ∧
              (s.jobOn i = none → KeptOff s u [] (loopRunAddr i) 32)) ∧
            ((s.loop i).mode ≠ 0 → Completes (exec (.loopTrigger i) s) fun u =>
              u.loop i = { s.loop i with pending := some (s.loopLatch i), runMode := (s.loop i).mode } ∧
              u.words (loopRunAddr i) 8 = u.runWords i ∧
              (s.jobOn i = none → KeptOff s u [Reg.CE_STAT] (loopRunAddr i) 32)))))) ∧
    (∀ n i l, s.freeCeLane = some n → s.nextRun = some i → (s.loop i).pending = some l → Completes (exec .loopRunDispatch s) fun u =>
      SMap.get 0 n u.ce.lanes = i + 1 ∧ (u.loop i).running = some { l with start := u.clk } ∧ (u.loop i).pending = none ∧
      l.clk + 4 ≤ u.clk ∧ s.clk ≤ u.clk ∧ (u.loop i).u = (s.loop i).u ∧ u.fbit Fld.CE_STAT_busy n = true ∧
      u.words (loopRunAddr i) 8 = u.runWords i ∧
      (l.clk + 4 ≤ s.clk → u.clk = s.clk ∧ KeptOff s u [Reg.CE_STAT] (loopRunAddr i) 32)) ∧
    (s.freeCeLane = none ∨ s.nextRun = none → Completes (exec .loopRunDispatch s) fun u => u.ce = s.ce ∧ Kept s u []) ∧
    (∀ n : Fin 4, (SMap.get 0 n.val s.ce.lanes = 0 → Completes (exec (.loopRunOutput n) s) fun u => u.ce = s.ce ∧ Kept s u []) ∧
      (∀ k l, SMap.get 0 n.val s.ce.lanes = k + 1 → (s.loop k).running = some l →
        (l.mode = 0 → Completes (exec (.loopRunOutput n) s) fun u => SMap.get 0 n.val u.ce.lanes = 0 ∧
          u.loop k = { s.loop k with running := none } ∧ KeptOff s u [Reg.CE_STAT] (loopRunAddr k) 32) ∧
        (l.mode ≠ 0 → Completes (exec (.loopRunOutput n) s) fun u => SMap.get 0 n.val u.ce.lanes = 0 ∧
          (u.loop k).running = none ∧ (u.loop k).runs = ((s.loop k).runs + 1) % 2 ^ 32 ∧
          (l.mode = 3 ∨ (l.bad = true ∧ loopPolicy l.recs = 0) → (u.loop k).u = (s.loop k).u) ∧
          (l.mode ≠ 3 → l.bad = true → loopPolicy l.recs = 1 → (u.loop k).u = clampI l.lo l.hi (wInt l.recs 19)) ∧
          (l.mode = 1 ∨ l.mode = 2 → l.bad = false → l.lo ≤ l.hi →
            ((wAt l.recs 18) = 0 → l.lo ≤ (u.loop k).u ∧ (u.loop k).u ≤ l.hi) ∧
            (∀ rate : Int, rate = (wAt l.recs 18).toNat → rate ≠ 0 →
              (s.loop k).u - rate ≤ (u.loop k).u ∧ (u.loop k).u ≤ (s.loop k).u + rate)) ∧
          (wBits l.recs 12 31 30 = 1 → (u.out (wAt l.recs 13).toNat).val =
            BitVec.ofNat 64 (unsigned 32 (outConv l.recs (u.loop k).u)))))) ∧
    (∀ q : Fin 8192,
      (s.front q = none ∨ s.qConsumer q ≠ 0x23 → Completes (exec (.injectionJob q) s) fun u => u.ce = s.ce ∧ u.qe = s.qe ∧ Kept s u []) ∧
      (∀ d, s.front q = some d → s.qConsumer q = 0x23 → (∀ e ∈ s.qe.desc ++ s.qe.small ++ s.qe.large, e.2 ≤ 64) →
        (s.msgKind d ≠ 4 ∨ s.msgLen d < 32 → Completes (exec (.injectionJob q) s) fun u => u.ce = s.ce ∧
          (u.queue q).msgs = (s.queue q).msgs.filter (· != d)) ∧
        (s.leeward = true → Completes (exec (.injectionJob q) s) fun u => u.ce = s.ce ∧
          (u.queue q).msgs = (s.queue q).msgs.filter (· != d)) ∧
        (s.leeward = false → s.msgKind d = 4 → 32 ≤ s.msgLen d →
          let ws := s.msgWords d
          let b := wBits ws 0 15 14
          (wBit ws 0 16 = false → s.jobCheck ws (s.msgPart d) = none → Completes (exec (.injectionJob q) s) fun u =>
            (∃ y, u.job b = some y ∧ y.words = ws ∧ y.num = s.ce.nextJob ∧ y.part = s.msgPart d) ∧
            (wBit ws 7 13 = true → u.job b = some { words := ws, num := s.ce.nextJob, part := s.msgPart d }) ∧
            u.ce.nextJob = (s.ce.nextJob + 1) % 65536) ∧
          (wBit ws 0 16 = false → (s.jobCheck ws (s.msgPart d)).isSome = true → Completes (exec (.injectionJob q) s) fun u =>
            (u.job b).map (fun y => (y.words, y.num)) = (s.job b).map (fun y => (y.words, y.num)) ∧
            (wBit ws 7 13 = true → u.job b = s.job b) ∧ u.ce.nextJob = (s.ce.nextJob + 1) % 65536) ∧
          (∀ x, wBit ws 0 16 = true → s.job b = some x → x.active = true → Completes (exec (.injectionJob q) s) fun u =>
            ∃ y, u.job b = some y ∧ y.active = false ∧ y.status = 8 ∧ y.reason = 5 ∧ y.words = x.words)))) ∧
    (∀ b : Fin 4,
      (s.job b = none ∨ (∃ x, s.job b = some x ∧ x.deliver = none) → ∀ c ∈ [Instr.captureDeliveryRetry b, .captureDeliveryAbandon b],
        Completes (exec c s) fun u => u.ce = s.ce ∧ Kept s u []) ∧
      (∀ x e, s.job b = some x → x.deliver = some e →
        (wBit x.words 7 13 = true → Completes (exec (.captureDeliveryRetry b) s) fun u =>
          u.job b = some { x with deliver := none } ∧ u.fld (Fld.CE_JOB_deliver b) = 0) ∧
        (s.leeward = false → wBit x.words 7 13 = false → s.qEn (wBits x.words 7 12 0) = false →
          Completes (exec (.captureDeliveryRetry b) s) fun u =>
          u.job b = some x) ∧
        (Completes (exec (.captureDeliveryAbandon b) s) fun u =>
          u.job b = some { x with deliver := none, status := 7 } ∧ u.fld (Fld.CE_JOB_deliver b) = 0)))

/-- Commands, updates and switches of profile generators. A disabled generator, and one of a module that takes no
triggers of its own, is not moved by an update, a switch or a command. A command of a sequence already taken does nothing; any other
is recorded; in OFF each is turned away and counted. No command moves P, V or A. MOVE takes a target inside the soft
limits and refuses one outside; VELOCITY is held at vmax; STOP ends in STANDSTILL or STOPPING, and fails a homing with
cause 4; HOME begins a homing; CLEAR releases the latched switches. A resting generator stays where it is; the last
update of a profile ends on its target. A debounced travel limit ahead of a moving axis latches its position and state
LIMIT. (R294, R296, R297, R298, R299, R303, R304, R305, R308, R312) -/
def Obligations.ProfileGenerators : Prop :=
  ∀ (s : State) (g : Fin 64) (q : BitVec 8) (t : BitVec 64),
    let r := s.genRec g
    let h := s.homeRec g
    let x := s.gen g
    let cmds := [Instr.pgMove g q t, .pgVelocity g q t, .pgStop g q, .pgHome g q, .pgClear g q]
    let fresh := x.seqTaken = false ∨ x.seq ≠ q.toNat
    (genEn r = false ∨ s.takesTriggers = false →
      (∀ (w : Fin 3) (b : Bool), ∀ c ∈ [Instr.pgUpdate g, .limitSwitchEdge g w b],
        Completes (exec c s) fun u => u.pg = s.pg ∧ Kept s u []) ∧
      (∀ c ∈ cmds, Completes (exec c s) fun u => u.pg = s.pg ∧ u.mem = s.mem ∧ u.pts = s.pts)) ∧
    (Completes (exec (.pgMove g q t) s) fun u => (u.out (genItem g 0)).val = t ∧
      (u.out (genItem g 2)).val = BitVec.ofNat 64 (256 + q.toNat)) ∧
    (Completes (exec (.pgVelocity g q t) s) fun u => (u.out (genItem g 1)).val = t ∧
      (u.out (genItem g 2)).val = BitVec.ofNat 64 (512 + q.toNat)) ∧
    (genEn r = true → s.takesTriggers = true →
      (x.seqTaken = true → x.seq = q.toNat → ∀ c ∈ cmds, Completes (exec c s) fun u => u.gen g = x) ∧
      (∀ c ∈ cmds, Completes (exec c s) fun u => (u.gen g).p = x.p ∧ (u.gen g).v = x.v ∧ (u.gen g).a = x.a ∧
        (u.gen g).seq = q.toNat ∧ (∀ k : Fin 64, k ≠ g → u.gen k = s.gen k) ∧ u.mem = s.mem ∧
        (wBit r 0 18 = true → (u.out (wAt r 1).toNat).val = BitVec.ofNat 64 (unsigned 64 (to32 x.p)))) ∧
      (fresh → x.state = gsOff → ∀ c ∈ cmds, Completes (exec c s) fun u => (u.gen g).cmderr = true ∧ (u.gen g).state = gsOff ∧
        u.fld Fld.PG_CMDERR_cmd = satInc Fld.PG_CMDERR_cmd.width (s.fld Fld.PG_CMDERR_cmd)) ∧
      (fresh → 1 ≤ x.state → x.state ≤ 4 →
        (softOut r (t.toInt * 2 ^ 32) = false → Completes (exec (.pgMove g q t) s) fun u => (u.gen g).target = t.toInt * 2 ^ 32 ∧
          (u.gen g).state = gsMove ∧ (u.gen g).tgterr = false ∧ (u.gen g).cmderr = false) ∧
        (softOut r (t.toInt * 2 ^ 32) = true → Completes (exec (.pgMove g q t) s) fun u => (u.gen g).tgterr = true ∧
          (u.gen g).target = x.target ∧ (u.gen g).state = x.state ∧ (u.gen g).plan = x.plan) ∧
        (Completes (exec (.pgVelocity g q t) s) fun u => (u.gen g).state = gsVelocity ∧
          (0 ≤ x.vmax → (u.gen g).vtarget = clampI (-x.vmax) x.vmax (t.toInt * 2 ^ 32) ∧
            ((u.gen g).cmderr = true ↔ x.vmax < (t.toInt * 2 ^ 32).natAbs))) ∧
        (Completes (exec (.pgStop g q) s) fun u => (u.gen g).plan = stopPhases x (genPeriod r) ∧ (u.gen g).endVel = 0 ∧
          (u.gen g).state = if x.v = 0 ∧ x.a = 0 then gsStandstill else gsStopping)) ∧
      (fresh → x.state = gsHoming → (Completes (exec (.pgStop g q) s) fun u => (u.gen g).state = gsStopping ∧
          (u.gen g).hState = 9 ∧ (u.gen g).hCause = 4) ∧
        ∀ c ∈ [Instr.pgMove g q t, .pgVelocity g q t, .pgHome g q, .pgClear g q], Completes (exec c s) fun u =>
          u.gen g = { x with seq := q.toNat, seqTaken := true, cmderr := true }) ∧
      (fresh → x.state ≠ gsOff → x.state ≠ gsHoming →
        (Completes (exec (.pgHome g q) s) fun u => (u.gen g).state = gsHoming ∧ (u.gen g).hState = 1 ∧ (u.gen g).hCause = 0 ∧
          (u.gen g).hMode = wBits h 0 2 0) ∧
        (Completes (exec (.pgClear g q) s) fun u => (u.gen g).limpos = false ∧ (u.gen g).limneg = false ∧
          (u.gen g).state = (if x.state = gsLimit then (if x.v = 0 ∧ x.a = 0 then gsStandstill else gsStopping) else x.state))) ∧
      (x.state = gsStandstill → x.v = 0 → x.a = 0 → x.plan = [] → x.replan = false → (s.genPub g 2).q = 3 →
        Completes (exec (.pgUpdate g) s) fun u => (u.gen g).p = x.p ∧ (u.gen g).v = 0 ∧ (u.gen g).a = 0 ∧
          (u.gen g).state = gsStandstill) ∧
      (∀ j e, x.state = gsMove → x.plan = [⟨1, j⟩] → x.endPos = some e → x.endVel = 0 → x.replan = false → x.slowing = false →
        (s.genPub g 2).q = 3 → x.vmax = s.genLimit g 3 2 → x.amax = s.genLimit g 4 4 → x.dmax = s.genLimit g 5 6 →
        x.jmax = s.genLimit g 6 8 → Completes (exec (.pgUpdate g) s) fun u => (u.gen g).p = e ∧ (u.gen g).v = 0 ∧
          (u.gen g).a = 0 ∧ (u.gen g).state = gsStandstill) ∧
      (∀ b, s.switchOn g 0 b = true → x.state ≠ gsHoming → wBit r 0 20 = true → x.swPos.run = true → x.swPos.level = false →
        x.swPos.hold = false → wBits r 0 28 21 ≤ x.swPos.count + 1 → 0 < x.v →
        Completes (exec (.limitSwitchEdge g 0 b) s) fun u => (u.gen g).state = gsLimit ∧ (u.gen g).limpos = true ∧
          (u.gen g).limneg = x.limneg ∧ (u.gen g).latch = x.swPos.runP ∧ (u.gen g).p = x.p ∧ (u.gen g).v = x.v) ∧
      (∀ (w : Fin 3) b, x.state ≠ gsHoming → w.val = 2 → Completes (exec (.limitSwitchEdge g w b) s) fun u =>
        (u.gen g).state = x.state ∧ (u.gen g).p = x.p ∧ (u.gen g).plan = x.plan ∧ u.mem = s.mem))

/-- Deliveries, coasting, stopping, arming and firing. A delivery to a disabled domain, or of a kind the domain does not
take, changes nothing. A reference is seen, in ACQUIRE once the count stands. A pulse too early in LOCKED is rejected
and counted; the first in ACQUIRE sets the last edge; the one that completes the acquire count locks; a count locks a
domain without a reference. MISSING_EDGE begins COAST; ENCODER_IDLE_TIMEOUT lowers the speed, to 0 after 200 ms;
COAST_LIMIT stops the domain. REV_BOUNDARY moves the clock to the wrap and counts it. ACTION_FIRE of a slot that is
not live does nothing; a live one-shot slot ahead of a running domain fires once. ACTION_ARM arms, disarms, suspends
or resumes, once for each sequence. (R315, R318, R320, R325, R326, R328, R330, R334, R336, R339) -/
def Obligations.AngleDomainsAndActions : Prop :=
  ∀ (s : State) (d : Fin 8) (g : BitVec 16) (a : Fin 4096) (w : Word),
    let r := s.domRec d
    let x := s.dom d
    let ts := s.time - g.toNat
    let ra := s.actRec a
    let y := s.act7 a
    (∀ v : Delivery, (domEn r = false ∨ (match v with
        | .pulse => domKind r ≠ 2
        | .reference => domKind r ≠ 2 ∨ domUsesRef r = false
        | .value _ _ => domKind r ≠ 3 ∧ domKind r ≠ 4
        | .count _ => domKind r ≠ 1)) → Completes (exec (.domainDelivery d g v) s) fun u => u.ad = s.ad ∧ Kept s u []) ∧
    (domEn r = true → domKind r = 2 →
      (domUsesRef r = true → Completes (exec (.domainDelivery d g .reference) s) fun u =>
        u.dom d = { x with refSeen := x.state ≠ dsAcquire ∨ domAcquire r ≤ x.run } ∧ Kept s u []) ∧
      (x.state = dsLocked → 100 * (ts - x.last.getD ts) < (100 - domWindow r) * x.interval →
        Completes (exec (.domainDelivery d g .pulse) s) fun u => u.dom d = x ∧
          u.fld (Fld.AD_EDGES_rejected d) = satInc (Fld.AD_EDGES_rejected d).width (s.fld (Fld.AD_EDGES_rejected d)) ∧
          Kept s u [Reg.AD_EDGES d, Reg.AD_DSTAT d, Reg.AD_SPEED d, Reg.AD_ANGLE d, Reg.AD_SUMMARY0]) ∧
      (x.state = dsAcquire → x.last = none → x.interval = 0 → Completes (exec (.domainDelivery d g .pulse) s) fun u =>
        (u.dom d).state = dsAcquire ∧ (u.dom d).last = some ts ∧ (u.dom d).run = 0 ∧ ∀ k, k ≠ d.val → u.dom k = s.dom k) ∧
      (∀ t, x.state = dsAcquire → x.last = some t → x.interval ≠ 0 → within (domWindow r) (ts - t) x.interval = true →
        domUsesRef r = false → domAcquire r ≤ x.run + 1 → Completes (exec (.domainDelivery d g .pulse) s) fun u =>
          (u.dom d).state = dsLocked ∧ (u.dom d).last = some ts ∧ (u.dom d).interval = ts - t ∧ (u.dom d).valid = true)) ∧
    (domEn r = true → domKind r = 1 → domUsesRef r = false → x.state = dsAcquire → Completes
      (exec (.domainDelivery d g (.count w)) s) fun u => (u.dom d).state = dsLocked ∧ (u.dom d).zero = w.toInt ∧
        (u.dom d).edge = 0 ∧ (u.dom d).last = some ts) ∧
    (domEn r = true → domKind r = 3 ∨ domKind r = 4 → x.state = dsStopped → ∀ v, Completes
      (exec (.domainDelivery d g (.value w v)) s) fun u => (u.dom d).state = dsAcquire ∧ (u.dom d).last = some ts ∧
        (u.dom d).run = 0) ∧
    (x.state = dsLocked → 2 ≤ domKind r → domKind r ≤ 4 → Completes (exec (.missingEdge d) s) fun u =>
      (u.dom d).state = dsCoast ∧ (u.dom d).run = 0 ∧ (u.dom d).adj = none) ∧
    (x.state ≠ dsLocked ∨ domKind r < 2 ∨ 4 < domKind r → Completes (exec (.missingEdge d) s) fun u => u.ad = s.ad ∧ Kept s u []) ∧
    (domKind r ≠ 1 ∨ x.state ≠ dsLocked → Completes (exec (.encoderIdleTimeout d) s) fun u => u.ad = s.ad ∧ Kept s u []) ∧
    (∀ t, domKind r = 1 → x.state = dsLocked → x.last = some t →
      (200000000 ≤ s.time - t → Completes (exec (.encoderIdleTimeout d) s) fun u => (u.dom d).inc = 0 ∧ (u.dom d).adj = none) ∧
      (s.time - t < 200000000 → 2 * x.interval ≤ s.time - t → 0 < s.time - t → Completes (exec (.encoderIdleTimeout d) s) fun u =>
        (u.dom d).inc = if x.back then -incFor 1 (domN r) (s.time - t) else incFor 1 (domN r) (s.time - t))) ∧
    (x.state = dsCoast ∨ x.state = dsReacquire → Completes (exec (.coastLimit d) s) fun u =>
      (u.dom d).state = dsStopped ∧ (u.dom d).inc = 0) ∧
    (x.state ≠ dsCoast → x.state ≠ dsReacquire → Completes (exec (.coastLimit d) s) fun u => u.ad = s.ad ∧ Kept s u []) ∧
    (domTracks x = false → Completes (exec (.revBoundary d) s) fun u => u.ad = s.ad ∧ u.clk = s.clk ∧ Kept s u []) ∧
    (domKind r = 3 ∨ domKind r = 4 → x.state = dsLocked → x.back = false → x.adj = none → 0 < x.inc → x.inc < 2 ^ 62 →
      x.asOf = s.clk → 0 ≤ x.ang → x.ang < turn →
      (s.actsOf d = [] → s.pfc = [] → s.prt.lanes = [] → Completes (exec (.revBoundary d) s) fun u => s.clk < u.clk ∧
        (u.dom d).revAt = some (u.time, false) ∧ u.reg (Reg.AD_REV d) = s.reg (Reg.AD_REV d) + 1) ∧
      (a.val ∈ s.actsOf d → actEn ra = true → actDom ra = d.val → actKind ra = 0 → actRepeats ra = false → actDir ra ≠ 1 →
        a.val < 4094 → actDir ra < 3 → y.live = true → y.armed = false → y.atRev = false → (s.out (actItem a 0)).q ≠ 0 →
        Completes (exec (.actionFire a false) s) fun u => (u.act7 a).fires = (y.fires + 1) % 2 ^ 32 ∧
          (u.act7 a).live = false ∧ s.clk < u.clk)) ∧
    (∀ off : Bool, actEn ra = false ∨ s.actLive a = false ∨ (off = true ∧ actKind ra ≠ 4) →
      Completes (exec (.actionFire a off) s) fun u => u.ad = s.ad ∧ u.clk = s.clk ∧ Kept s u []) ∧
    (Completes (exec (.actionArm a w) s) fun u => (u.out (actItem a 2)).val = w.setWidth 64 ∧ u.mem = s.mem) ∧
    (domTracks (s.dom (actDom ra)) = false → actEn ra = false ∨ (y.seqTaken = true ∧ y.seq = bits w 23 16) →
      Completes (exec (.actionArm a w) s) fun u => u.ad = s.ad) ∧
    (actEn ra = true → y.seqTaken = false ∨ y.seq ≠ bits w 23 16 →
      (actRepeats ra = true → Completes (exec (.actionArm a w) s) fun u => (u.act7 a).suspended = bit w 25 ∧
        (u.act7 a).seq = bits w 23 16) ∧
      (actRepeats ra = false → bit w 25 = true → Completes (exec (.actionArm a w) s) fun u => (u.act7 a).live = false ∧
        (u.act7 a).armed = false ∧ (u.act7 a).held = none ∧ (u.act7 a).seq = bits w 23 16) ∧
      (actRepeats ra = false → bit w 25 = false → bit w 24 = true →
        ((s.dom (actDom ra)).state = dsAcquire → Completes (exec (.actionArm a w) s) fun u => (u.act7 a).held = some true ∧
          (u.act7 a).live = false ∧ (u.act7 a).rev = bits w 15 0) ∧
        ((s.dom (actDom ra)).state = dsLocked → Completes (exec (.actionArm a w) s) fun u => (u.act7 a).live = true ∧
          (u.act7 a).rev = bits w 15 0) ∧
        ((s.dom (actDom ra)).state = dsStopped → actPolicy ra = 2 → Completes (exec (.actionArm a w) s) fun u =>
          (u.act7 a).live = false ∧ (u.act7 a).dropped = true)))

/-- A phasor cycle, and a synchroniser channel from arming to the end of the close pulse. PHASOR_CYCLE_END of a disabled
triple changes nothing; otherwise its results enter its points. SYNC_ARM of a new sequence arms a channel with its
breaker and enables its slot; one that is closing takes cause 13 alone. SYNC_DISARM ends arming with cause 12. A
sequence already taken, or a disabled channel, is ignored. CLOSURE_DETECTED in CLOSING learns a valid time or counts
an invalid one, and ends in CLOSED; CLOSURE_TIMEOUT drops the close point with cause 11 and an alarm; CLOSE_PULSE_END
drops it; SYNC_ARM_TIMEOUT ends arming with cause 9. In any other state each changes nothing. (R346, R353, R356, R358,
R359, R360, R362) -/
def Obligations.PhasorsAndSynchronisers : Prop :=
  ∀ (s : State) (c : Fin 2) (q : BitVec 8) (b : Fin 8) (dead : Bool) (age : BitVec 32),
    let on := wBit (s.chanRec c) 0 0
    let fresh := (s.sync c).seqTaken = false ∨ s.fld (Fld.PH_SYNCSTAT_seq c) ≠ q.toNat
    let br := s.syncBreaker c
    (∀ (t : Fin 3) (m : TripleMeas) cs,
      (tripleEn (s.phRec t) = false → Completes (exec (.phasorCycleEnd t age m cs) s) fun u => u.ph = s.ph ∧ Kept s u []) ∧
      (tripleEn (s.phRec t) = true → (Instr.phasorCycleEnd t age m cs).wf = true → s.sys.node < 2 ^ 14 → Completes (exec (.phasorCycleEnd t age m cs) s) fun u =>
        (u.triple t).ended = some (s.time - age.toNat) ∧
        ∀ p v, m.points[p]? = some v → (u.point (s.phPoint t p)).val = BitVec.ofInt 64 v)) ∧
    (on = true → fresh → (∀ d, s.syncDomain c = some d → domTracks (s.dom d) = false ∨ s.clk ≤ (s.dom d).asOf) →
      (s.syncState c < 2 → Completes (exec (.syncArm c q b dead) s) fun u => u.syncState c = 1 ∧
        u.fld (Fld.PH_SYNCSTAT_cause c) = 0 ∧ u.syncBreaker c = b ∧ u.fld (Fld.PH_SYNCSTAT_seq c) = q.toNat ∧
        (u.sync c).deadOk = dead ∧ (u.sync c).armedAt = s.time ∧ actEn (u.actRec (4094 + c)) = true) ∧
      (2 ≤ s.syncState c → Completes (exec (.syncArm c q b dead) s) fun u => u.syncState c = s.syncState c ∧
        u.fld (Fld.PH_SYNCSTAT_cause c) = 13 ∧ u.syncBreaker c = br ∧ u.cfg = s.cfg) ∧
      (s.syncState c = 1 → Completes (exec (.syncDisarm c q) s) fun u => u.syncState c = 0 ∧
        u.fld (Fld.PH_SYNCSTAT_cause c) = 12 ∧ actEn (u.actRec (4094 + c)) = false) ∧
      (s.syncState c ≠ 1 → Completes (exec (.syncDisarm c q) s) fun u => u.syncState c = s.syncState c ∧
        u.fld (Fld.PH_SYNCSTAT_seq c) = q.toNat ∧ u.cfg = s.cfg)) ∧
    (on = false ∨ ((s.sync c).seqTaken = true ∧ s.fld (Fld.PH_SYNCSTAT_seq c) = q.toNat) →
      ∀ x ∈ [Instr.syncArm c q b dead, .syncDisarm c q], Completes (exec x s) fun u => u.ph = s.ph ∧ u.ad = s.ad ∧
        (u.out (syncItem c 0)).q = 0 ∧ u.mem = s.mem ∧ u.cfg = s.cfg ∧ ∀ k, plainReg k = true → u.reg k = s.reg k) ∧
    (s.syncState c ≠ 2 → ∀ x ∈ [Instr.closureDetected c age, .closureTimeout c], Completes (exec x s) fun u =>
      u.ph = s.ph ∧ u.nv = s.nv ∧ Kept s u []) ∧
    (s.syncState c = 2 →
      let t := (s.time - age.toNat - ((s.sync c).closeAt + 10000)) / 15625 * 15625
      (10000000 ≤ t → t ≤ 104000000 → Completes (exec (.closureDetected c age) s) fun u => u.syncState c = 3 ∧
        SMap.get [] br u.nv.closing = (t :: SMap.get [] br s.nv.closing).take 8 ∧
        u.fld (Fld.PH_TCLLAST_last c) = (t + 500) / 1000 ∧ (u.sync c).closedAt = some (s.time - age.toNat)) ∧
      (t < 10000000 ∨ 104000000 < t → Completes (exec (.closureDetected c age) s) fun u => u.syncState c = 3 ∧
        u.nv.closing = s.nv.closing ∧ u.fld (Fld.PH_SYNCCNT_invalid c) = satInc 8 (s.fld (Fld.PH_SYNCCNT_invalid c))) ∧
      (Completes (exec (.closureTimeout c) s) fun u => u.syncState c = 0 ∧
        (s.time < (s.sync c).closeAt + 2000 * s.learned br + 100000000 → s.clk < u.clk) ∧ u.fld (Fld.PH_SYNCSTAT_cause c) = 11 ∧
        (u.out (s.closePoint br)).val = 0 ∧ u.sys.alerts.contains (alertId 358 br) = true ∧ u.cfg = s.cfg)) ∧
    (s.syncState c < 2 → Completes (exec (.closePulseEnd c) s) fun u => u.ph = s.ph ∧ Kept s u []) ∧
    (2 ≤ s.syncState c → Completes (exec (.closePulseEnd c) s) fun u => u.syncState c = 0 ∧
      u.fld (Fld.PH_SYNCSTAT_cause c) = s.fld (Fld.PH_SYNCSTAT_cause c) ∧ (u.out (s.closePoint br)).val = 0 ∧
      (s.pulseEndAt c ≤ s.time → u.clk = s.clk)) ∧
    (s.syncState c = 1 → (∀ d, s.syncDomain c = some d → domTracks (s.dom d) = false) → Completes (exec (.syncArmTimeout c) s) fun u => u.syncState c = 0 ∧
      u.fld (Fld.PH_SYNCSTAT_cause c) = 9 ∧ actEn (u.actRec (4094 + c)) = false ∧ u.mem = s.mem) ∧
    (s.syncState c ≠ 1 → Completes (exec (.syncArmTimeout c) s) fun u => u.ph = s.ph ∧ u.ad = s.ad ∧ Kept s u [])

/-- Grants, requests, blackout and restart. GUST_EVALUATION of a disabled guard or a leeward module changes nothing. In
NORMAL it grants the first request in order when its demand fits and its spacing has passed, and not otherwise; a
reservation whose hold has passed is dropped. GUST_REQUEST waits, is refused beyond the configured capacity, or is
blocked in BLACKOUT, once for each sequence; GUST_WITHDRAW returns a request to IDLE. BLACKOUT_ENTRY on a dead bus
blocks every request and counts; LIVE_TIME_RESTART on a live one begins the first enabled step. RESTART_STEP_DELAY
makes the step wait for capacity; RESTART_STEP_TIMEOUT passes to the next step, or ends the restart where the step
says so. (R364, R365, R366, R367, R368) -/
def Obligations.GustGuardRequestsAndRestart : Prop :=
  ∀ (s : State) (r : Fin 64) (q : BitVec 8),
    let on := wBit s.gustRec 0 0
    let x := s.gslot r
    let fresh := x.seqTaken = false ∨ x.seq ≠ q.toNat
    (on = false ∨ s.windward = false → ∀ c ∈ [Instr.gustEvaluation, .blackoutEntry, .liveTimeRestart],
      Completes (exec c s) fun u => u.ph = s.ph ∧ Kept s u []) ∧
    (on = true → s.windward = true → s.gust = guNormal → (∀ e ∈ s.ph.slots, e.2.resv = none) → s.grantOrder.head? = some r.val →
      ((reqDemand (s.reqRec r) : Int) ≤ s.keepP.spare → s.ph.lastGrant = none → Completes (exec .gustEvaluation s) fun u =>
        u.gslot r = { x with state := rqGranted, count := (x.count + 1) % 256,
                             resv := some (s.time + reqHold (s.reqRec r), reqDemand (s.reqRec r)) } ∧
        u.ph.lastGrant = some s.time ∧ u.fld Fld.PH_GCNT_grants = satInc 16 (s.fld Fld.PH_GCNT_grants) ∧
        ∀ k, k ≠ r.val → u.gslot k = s.gslot k) ∧
      (s.keepP.spare < (reqDemand (s.reqRec r) : Int) ∨ (∃ t, s.ph.lastGrant = some t ∧ s.time < t + s.grantSpacing) →
        Completes (exec .gustEvaluation s) fun u => (∀ k, u.gslot k = s.gslot k) ∧ u.ph.lastGrant = s.ph.lastGrant ∧
          u.fld Fld.PH_GSTEP_first = r)) ∧
    (∀ e y, on = true → s.windward = true → s.gust = guNormal → s.ph.slots = [(r.val, y)] → y.resv = some e → e.1 ≤ s.time →
      Completes (exec .gustEvaluation s) fun u => u.gslot r = { y with resv := none, state := rqIdle }) ∧
    (wBit (s.reqRec r) 0 0 = false ∨ (x.seqTaken = true ∧ x.seq = q.toNat) →
      ∀ c ∈ [Instr.gustRequest r q, .gustWithdraw r q], Completes (exec c s) fun u => u.ph = s.ph ∧ u.mem = s.mem ∧
        u.pts = s.pts ∧ (u.out (gustItem r 0)).q = 0 ∧ ∀ k, plainReg k = true → u.reg k = s.reg k) ∧
    (wBit (s.reqRec r) 0 0 = true → fresh →
      let all := ((upFrom 0 16).map fun g => if wBit (s.genRecord g) 0 0 then genCapacity (s.genRecord g) else 0).foldl (· + ·) 0
      (x.state ≠ rqWaiting → x.state ≠ rqGranted → Completes (exec (.gustRequest r q) s) fun u =>
        (u.gslot r).seq = q.toNat ∧ (u.gslot r).state = (if s.gust = guBlackout then rqBlocked
          else if all < reqDemand (s.reqRec r) then rqRefused else rqWaiting) ∧
        ((u.gslot r).state = rqWaiting → (u.gslot r).order = s.ph.nextOrder ∧ u.ph.nextOrder = s.ph.nextOrder + 1) ∧
        (u.point (gustItem r 1)).val = BitVec.ofNat 64 ((u.gslot r).state + x.count % 256 * 256)) ∧
      (x.state = rqWaiting ∨ x.state = rqGranted →
        (Completes (exec (.gustRequest r q) s) fun u => u.gslot r = { x with seq := q.toNat, seqTaken := true }) ∧
        (Completes (exec (.gustWithdraw r q) s) fun u => (u.gslot r).state = rqIdle ∧ (u.gslot r).resv = none)) ∧
      (x.state ≠ rqWaiting → x.state ≠ rqGranted → Completes (exec (.gustWithdraw r q) s) fun u =>
        u.gslot r = { x with seq := q.toNat, seqTaken := true }) ∧
      ∀ c ∈ [Instr.gustRequest r q, .gustWithdraw r q], Completes (exec c s) fun u => ∀ k, k ≠ r.val → u.gslot k = s.gslot k) ∧
    (on = true → s.windward = true → SMap.wf {} s.ph.slots = true →
      (s.gust ≠ guBlackout → s.busBelow (lowPct s.gustRec) = true →
        Completes (exec .blackoutEntry s) fun u => u.gust = guBlackout ∧ u.fld Fld.PH_GSTEP_step = 0xFF ∧
          u.fld Fld.PH_GCNT_blackouts = satInc 8 (s.fld Fld.PH_GCNT_blackouts) ∧ ∀ k, (u.gslot k).resv = none ∧
            (u.gslot k).state = if (s.gslot k).state = rqWaiting ∨ (s.gslot k).state = rqGranted then rqBlocked else (s.gslot k).state) ∧
      (s.gust = guBlackout → s.busBelow (livePct s.gustRec) = false →
        Completes (exec .liveTimeRestart s) fun u =>
          (∀ k, (u.gslot k).state = if (s.gslot k).state = rqBlocked then rqIdle else (s.gslot k).state) ∧
          (∀ n < 64, wBit (s.stepRec n) 0 0 = true → (∀ k < n, wBit (s.stepRec k) 0 0 = false) →
            u.gust = guRestart ∧ u.fld Fld.PH_GSTEP_step = n) ∧
          ((∀ n < 64, wBit (s.stepRec n) 0 0 = false) → u.gust = guNormal ∧ u.fld Fld.PH_GSTEP_step = 0xFF))) ∧
    (s.gust = guBlackout ∨ s.busBelow (lowPct s.gustRec) = false →
      Completes (exec .blackoutEntry s) fun u => u.ph = s.ph ∧ Kept s u []) ∧
    (s.gust ≠ guBlackout ∨ s.busBelow (livePct s.gustRec) = true →
      Completes (exec .liveTimeRestart s) fun u => u.ph = s.ph ∧ Kept s u []) ∧
    (s.gust ≠ guRestart ∨ s.windward = false → ∀ c ∈ [Instr.restartStepDelay, .restartStepTimeout],
      Completes (exec c s) fun u => u.ph = s.ph ∧ Kept s u []) ∧
    (s.gust = guRestart → s.windward = true →
      let k := s.fld Fld.PH_GSTEP_step
      (Completes (exec .restartStepDelay s) fun u => u.ph = { s.ph with stepReady := true } ∧ u.gust = guRestart ∧
        u.mem = s.mem ∧ u.cfg = s.cfg ∧ (s.delayEnd ≤ s.time → u.clk = s.clk ∧ Kept s u [])) ∧
      (Completes (exec .restartStepTimeout s) fun u => u.ph.stepReady = false ∧
        u.fld Fld.PH_GCNT_timeouts = satInc 8 (s.fld Fld.PH_GCNT_timeouts) ∧
        (wBit (s.stepRec k) 0 7 = true → u.gust = guNormal ∧ u.fld Fld.PH_GSTEP_step = 0xFF) ∧
        (∀ n < 64, wBit (s.stepRec k) 0 7 = false → k < n → wBit (s.stepRec n) 0 0 = true →
          (∀ j, k < j → j < n → wBit (s.stepRec j) 0 0 = false) → u.gust = guRestart ∧ u.fld Fld.PH_GSTEP_step = n)))

/-- Barrier frames, links, silence and field supplies. BARRIER_FRAME_SEND sends one frame on each of the nine links, and
none in BOOT or when stopped. A frame at the field side counts when its check value and its sequence are right, and
restarts the count when not; sixteen bring the link up; one taken by a stage gives it its claim. At the logic side a
bad frame is counted. LINK_DOWN takes the side's link down, counted at the logic side. FIO_WATCHDOG_EXPIRY stops the
frames. SILENCE_TIMEOUT gives a stage without its link the silence mode. FIELD_SUPPLY_CHANGE moves the supply to the
state of its voltage, with its changed bit and its alarm. (R394, R395, R396, R397, R398) -/
def Obligations.BarrierLinksAndSupplies : Prop :=
  ∀ (s : State) (n : Fin 9) (bs : List Byte) (rs : List Reading) (fs : Bool) (k : Fin 8) (mv : BitVec 16),
    let l := s.link n
    let seq := (bs.getD 1 0).toNat
    let inSeq := (match l.fieldSeq with | some i => seq == (i + 1) % 256 | none => true)
    (s.fio.sending = false ∨ s.mode = mBoot → Completes (exec .barrierFrameSend s) fun u => u.fio = s.fio ∧ u.sent = s.sent ∧
      Kept s u []) ∧
    (s.fio.sending = true → s.mode ≠ mBoot → Completes (exec .barrierFrameSend s) fun u =>
      (∀ i < 9, u.link i = { s.link i with tx := ((s.link i).tx + 1) % 256 }) ∧ (∃ ms, u.sent = ms ++ s.sent ∧ ms.length = 9) ∧
      Kept s u []) ∧
    (frameOk bs = false ∨ inSeq = false → Completes (exec (.barrierFrameReceive n true bs rs) s) fun u =>
      u.link n = { l with okField := 0, fieldSeq := some seq } ∧ u.red = s.red ∧ Kept s u []) ∧
    (frameOk bs = true → inSeq = true → Completes (exec (.barrierFrameReceive n true bs rs) s) fun u =>
      u.link n = { l with okField := l.okField + 1, fieldUp := l.fieldUp || decide (16 ≤ l.okField + 1), fieldSeq := some seq, fieldAt := s.time } ∧
      (hasStage n = true → l.fieldUp = true → bs.getD 0 0 ≠ Config.resetFrameType → (u.stage n).frame = frameClaim bs) ∧
      (hasStage n = false → u.red = s.red ∧ Kept s u [])) ∧
    (frameOk bs = false ∨ 128 ≤ (l.tx + 256 - seq) % 256 → Completes (exec (.barrierFrameReceive n false bs rs) s) fun u =>
      u.link n = { l with okLogic := 0 } ∧ Kept s u [Reg.FIO_LINKCNT n] ∧
      u.fld (Fld.FIO_LINKCNT_crc n) = satInc (Fld.FIO_LINKCNT_crc n).width (s.fld (Fld.FIO_LINKCNT_crc n))) ∧
    (frameOk bs = true → (l.tx + 256 - seq) % 256 < 128 → Completes (exec (.barrierFrameReceive n false bs rs) s) fun u =>
      u.link n = { l with okLogic := l.okLogic + 1, up := l.up || decide (16 ≤ l.okLogic + 1),
                          ever := l.ever || l.up || decide (16 ≤ l.okLogic + 1) }) ∧
    (l.fieldUp = true → Completes (exec (.linkDown n true) s) fun u => u.link n = { l with fieldUp := false, okField := 0 }) ∧
    (l.up = true → Completes (exec (.linkDown n false) s) fun u =>
      u.link n = { l with up := false, okLogic := 0, downAt := s.time } ∧ u.fbit Fld.FIO_LINK_up n = false ∧
      u.fld (Fld.FIO_LINKCNT_downs n) = satInc (Fld.FIO_LINKCNT_downs n).width (s.fld (Fld.FIO_LINKCNT_downs n))) ∧
    ((if fs then l.fieldUp else l.up) = false → Completes (exec (.linkDown n fs) s) fun u => u.fio = s.fio ∧ u.red = s.red ∧ Kept s u []) ∧
    (Completes (exec .fioWatchdogExpiry s) fun u => u.fio = { s.fio with sending := false } ∧ u.mem = s.mem ∧
      (s.fio.sending = false ∨ s.fio.kickAt + 2000000 ≤ s.time → Kept s u [])) ∧
    (hasStage n = false ∨ l.fieldUp = true ∨ (s.stage n).mode = smDead → Completes (exec (.silenceTimeout n) s) fun u =>
      u.fio = s.fio ∧ u.red = s.red ∧ Kept s u []) ∧
    (hasStage n = true → l.fieldUp = false → (s.stage n).mode ≠ smDead → Completes (exec (.silenceTimeout n) s) fun u =>
      u.stage n = { s.stage n with mode := smSilence, winning := false } ∧ u.fbit Fld.FIO_LINK_silence n = true ∧
      (l.fieldAt + bankSilence (SMap.get [] n.val s.fio.banks) * 1000000 ≤ s.time → u.clk = s.clk)) ∧
    (Completes (exec (.fieldSupplyChange k mv) s) fun u => u.supply k = supplyState (s.supply k) mv.toNat ∧
      u.fld (Fld.FIO_FSUPV_mv k) = mv.toNat ∧
      (supplyState (s.supply k) mv.toNat ≠ s.supply k → u.fbit Fld.FIO_FSUP_changed k = true ∧
        (u.sys.alerts.contains (alertId 398 k) = true ↔ supplyState (s.supply k) mv.toNat ≠ 0)) ∧
      (supplyState (s.supply k) mv.toNat = s.supply k → u.fio = s.fio ∧ u.sys = s.sys ∧ Kept s u [Reg.FIO_FSUPV k]))

/-- Digital inputs and outputs, H-bridges, encoders and pickups. DI_SAMPLE gives each enabled channel its raw level by its
thresholds, and its level after the debounce count. An overload or a hot junction latches and switches a DO off; a
mismatch and the open-load test mark a channel of a driving stage; a waiting switch-on is released under the limit. A
fault reset counts once for each sequence and clears a thermal latch when cool. A PWM period counts cuts and latches
an early one or the third; shoot-through, low current and a hot stage mark an H-bridge; the stagger ends. An encoder
step counts; two lines at once is illegal and loses count; an index latches the count; a line fault is marked. A
pickup pulse counts unless it is too soon; the coil check marks it open or short. (R403, R405, R406, R407, R408, R409,
R410, R411, R412, R413, R414) -/
def Obligations.DigitalAndMotionChannels : Prop :=
  ∀ (s : State) (b : Fin 2) (c8 : Fin 8) (c4 : Fin 4) (e : Fin 2) (g : BitVec 16),
    let x := s.chan (2 + b) c8
    let drv := (s.stage (2 + b)).mode = smDrive ∧ chanEn x = true
    let h := s.chan 6 c4
    let n := s.chan 6 (4 + e)
    let p := s.chan 6 (6 + e)
    let ts := s.time - g.toNat
    (∀ (ins : List (Nat × Nat)) (c : Fin 16), Completes (exec (.diSample b ins) s) fun u =>
      let d := s.chan b c
      let v := ins.getD c (0, 0)
      (chanEn d = false → u.chan b c = d) ∧
      (chanEn d = true → ((u.chan b c).ts = s.time ∧ (v.1 ≤ 5000 → (u.chan b c).raw = wBit d.cfg 0 10) ∧
        (15000 ≤ v.1 → 2000 ≤ v.2 → (u.chan b c).raw = !wBit d.cfg 0 10) ∧
        ((u.chan b c).raw = d.raw → (u.chan b c).run = d.run + 1) ∧
        ((u.chan b c).raw ≠ d.level → wBits d.cfg 0 8 1 ≤ (u.chan b c).run →
          (u.chan b c).level = (u.chan b c).raw ∧ (u.chan b c).count = d.count + 1) ∧
        ((u.chan b c).run < wBits d.cfg 0 8 1 → (u.chan b c).level = d.level ∧ (u.chan b c).count = d.count)))) ∧
    (x.force = 0 → Completes (exec (.doOverloadLatch b c8 false) s) fun u => u.fio = s.fio ∧ Kept s u []) ∧
    (∀ hot : Bool, x.force ≠ 0 ∨ hot = true → x.waits = true ∨ c8.val ∉ s.gustQueue (2 + b) →
      Completes (exec (.doOverloadLatch b c8 hot) s) fun u => (u.chan (2 + b) c8).force = 0 ∧
        (u.chan (2 + b) c8).has (if hot then fbThermal else fbShort) = true) ∧
    (∀ v : Bool, (¬ drv → ∀ i ∈ [Instr.doMismatch b c8 v, .doOpenLoad b c8 v], Completes (exec i s) fun u =>
        u.fio = s.fio ∧ Kept s u []) ∧
      (drv → Completes (exec (.doMismatch b c8 v) s) fun u => (u.chan (2 + b) c8).readback = b1 v ∧
        ((u.chan (2 + b) c8).has fbMismatch = true ↔ (b1 v : Int) ≠ x.force) ∧ (u.chan (2 + b) c8).force = x.force) ∧
      (drv → wBit x.cfg 0 2 = true → Completes (exec (.doOpenLoad b c8 v) s) fun u =>
        (u.chan (2 + b) c8).has fbOpen = v ∧ (u.chan (2 + b) c8).force = x.force)) ∧
    (s.gustQueue (2 + b) = [] → Completes (exec (.gustSwitchOnRelease b) s) fun u => u.fio = s.fio ∧ Kept s u []) ∧
    (s.gustQueue (2 + b) = [c8.val] → (s.recentOns (2 + b)).length < s.fld (Fld.FIO_DO_GUST_limit (2 + b)) →
      Completes (exec (.gustSwitchOnRelease b) s) fun u => (u.chan (2 + b) c8).force = 1 ∧ (u.chan (2 + b) c8).waits = false ∧
        u.gustQueue (2 + b) = [] ∧ u.clk = s.clk) ∧
    (∀ (i : Fin 3) (q : BitVec 8) (cool : Bool),
      let un := [2, 3, 6].getD i 2
      let ch := if i = 2 then c8.val % 4 else c8.val
      let f := s.chan un ch
      let sq := match s.forceOf (ptAddr s.stationNode un ch 4) with
        | some z => if z.output then z.val.toNat % 256 else q.toNat
        | none => q.toNat
      Completes (exec (.faultResetItem i c8 q cool) s) fun u => (u.out (ptAddr s.stationNode un ch 4)).val = BitVec.ofNat 64 q.toNat ∧
        (f.seq = some sq → u.chan un ch = f ∧ u.fio = s.fio) ∧
        (f.seq ≠ some sq → (u.chan un ch).seq = some sq ∧ (cool = true → (u.chan un ch).has fbThermal = false) ∧
          (un = 6 → (u.chan un ch).has fbOvercur = false) ∧ (un ≠ 6 → f.rx = 0 → (u.chan un ch).has fbShort = false))) ∧
    (∀ (ua : BitVec 32) (cut early : Bool), Completes (exec (.pwmPeriod c4 ua cut early) s) fun u =>
      (u.chan 6 c4).readback = ua.toInt ∧ (u.chan 6 c4).ts = s.time ∧ (u.chan 6 c4).cuts = (if cut then h.cuts + 1 else 0) ∧
      (cut = true → early = true ∨ 2 ≤ h.cuts → (u.chan 6 c4).has fbOvercur = true ∧ (u.chan 6 c4).force = 0 ∧
        (u.chan 6 c4).duty = 0)) ∧
    (Completes (exec (.shootThrough c4) s) fun u => (u.chan 6 c4).has fbShoot = true ∧ (u.chan 6 c4).force = 0 ∧
      (u.chan 6 c4).latchAt = s.time ∧ u.fld (Fld.FIO_HB_CNT_shoot c4) =
        satInc (Fld.FIO_HB_CNT_shoot c4).width (s.fld (Fld.FIO_HB_CNT_shoot c4))) ∧
    (100000 ≤ h.force.natAbs → h.readback.natAbs < 20000 → Completes (exec (.hbridgeOpenCoil c4) s) fun u =>
      (u.chan 6 c4).has fbOpen = true ∧ (u.chan 6 c4).force = h.force) ∧
    (h.force.natAbs < 100000 ∨ 20000 ≤ h.readback.natAbs → Completes (exec (.hbridgeOpenCoil c4) s) fun u =>
      u.fio = s.fio ∧ Kept s u []) ∧
    (Completes (exec (.stageThermalLatch c4) s) fun u => (u.chan 6 c4).has fbThermal = true ∧ (u.chan 6 c4).force = 0) ∧
    (s.okAt 6 ≠ none → Completes (exec (.staggerRelease c4) s) fun u => (u.chan 6 c4).has fbHeldoff = false) ∧
    (s.okAt 6 = none → Completes (exec (.staggerRelease c4) s) fun u => u.fio = s.fio ∧ Kept s u []) ∧
    (∀ a z : Bool, chanEn n = false → Completes (exec (.encoderCount e a z g) s) fun u => u.fio = s.fio ∧ Kept s u []) ∧
    (chanEn n = true →
      (∀ a z : Bool, a ≠ n.a → z ≠ n.b → Completes (exec (.encoderCount e a z g) s) fun u => (u.chan 6 (4 + e)).has fbLost = true ∧
        (u.chan 6 (4 + e)).count = n.count ∧ u.fld (Fld.FIO_ENC_STAT_illegal e) =
          satInc (Fld.FIO_ENC_STAT_illegal e).width (s.fld (Fld.FIO_ENC_STAT_illegal e))) ∧
      (n.a = false → n.b = false → n.since = 0 ∨ n.since + 125 ≤ ts → Completes (exec (.encoderCount e true false g) s) fun u =>
        (u.chan 6 (4 + e)).quad = (if wBit n.cfg 0 12 then n.quad - 1 else n.quad + 1) ∧
        ((u.chan 6 (4 + e)).quad / (encEdges n.cfg : Nat) ≠ n.count →
          (u.chan 6 (4 + e)).count = (u.chan 6 (4 + e)).quad / (encEdges n.cfg : Nat) ∧ (u.chan 6 (4 + e)).ts = ts))) ∧
    (chanEn n = true → wBit n.cfg 0 11 = true → Completes (exec (.encoderIndex e g) s) fun u => (u.chan 6 (4 + e)).latch = n.count) ∧
    (chanEn n = false ∨ wBit n.cfg 0 11 = false → Completes (exec (.encoderIndex e g) s) fun u => u.fio = s.fio ∧ Kept s u []) ∧
    (∀ f : Bool, Completes (exec (.encoderLineFault e f) s) fun u => (u.chan 6 (4 + e)).has fbLine = f ∧
      (f = true → (u.chan 6 (4 + e)).has fbLost = true) ∧ (u.chan 6 (4 + e)).count = n.count) ∧
    (chanEn p = false → Completes (exec (.pickupPulse e g) s) fun u => u.fio = s.fio ∧ Kept s u []) ∧
    (chanEn p = true → (p.count ≠ 0 → ts < p.ts + 40000 → Completes (exec (.pickupPulse e g) s) fun u => u.fio = s.fio ∧
        u.fld (Fld.FIO_PK_STAT_rejected e) = satInc (Fld.FIO_PK_STAT_rejected e).width (s.fld (Fld.FIO_PK_STAT_rejected e)) ∧
        Kept s u [Reg.FIO_PK_STAT e]) ∧
      (p.count = 0 ∨ p.ts + 40000 ≤ ts → Completes (exec (.pickupPulse e g) s) fun u => (u.chan 6 (6 + e)).count = p.count + 1 ∧
        (u.chan 6 (6 + e)).ts = ts)) ∧
    (∀ ohm : BitVec 20, (chanEn p = true → wBit p.cfg 0 1 = true → s.sys.pins.pair = false ∨ s.sys.pins.even = true →
        Completes (exec (.coilCheck e ohm) s) fun u => ((u.chan 6 (6 + e)).has fbOpen = true ↔ 20000 < ohm.toNat) ∧
          ((u.chan 6 (6 + e)).has fbShort = true ↔ ohm.toNat < 20) ∧ u.fld (Fld.FIO_PK_COIL_ohm e) = ohm.toNat) ∧
      (chanEn p = false ∨ wBit p.cfg 0 1 = false ∨ (s.sys.pins.pair = true ∧ s.sys.pins.even = false) →
        Completes (exec (.coilCheck e ohm) s) fun u => u.fio = s.fio ∧ Kept s u []))

/-- Converters, and the analogue output stages. CONVERTER_START begins a pass of a triggered converter at its lowest
enabled channel, and counts a start that meets a pass. FILTER_OUTPUT counts the outputs of a dwell, and the last one
is a sample of its channel, with the transmitter supply's current where that supply is on. AO_STAGGER_RELEASE lets a
channel drive once the field supply has been OK. COMPLIANCE_ADJUST moves the supply of a sourcing
channel by at most 2 V toward 2.5 V above its terminal. AO_READBACK records the current, and in a driving stage marks
a mismatch that has lasted 20 ms. AO_THERMAL switches the stage off at 145 °C and back at 125 °C. (R417, R421, R426,
R427, R428, R430) -/
def Obligations.AnalogueChannels : Prop :=
  ∀ (s : State) (k : Fin 2) (c : Fin 8) (i : BitVec 32) (mv : BitVec 16),
    let v := s.aiConv k
    let x := s.chan 5 c
    (s.convMode k ≠ 2 → Completes (exec (.converterStart k) s) fun u => u.fio = s.fio ∧ Kept s u []) ∧
    (s.convMode k = 2 → v.busy = true → Completes (exec (.converterStart k) s) fun u => u.fio = s.fio ∧
      u.fld (Fld.FIO_AI_CONV_skipped k) = satInc (Fld.FIO_AI_CONV_skipped k).width (s.fld (Fld.FIO_AI_CONV_skipped k)) ∧
      Kept s u [Reg.FIO_AI_CONV k]) ∧
    (∀ a, s.convMode k = 2 → v.busy = false → (s.convChans k).head? = some a → Completes (exec (.converterStart k) s) fun u =>
      (u.aiConv k).busy = true ∧ (u.aiConv k).chan = a ∧ (u.aiConv k).outs = 0 ∧ u.fio.chans = s.fio.chans) ∧
    (∀ lim : Bool,
      (s.convMode k ≠ 1 → v.busy = false → Completes (exec (.filterOutput k i mv lim) s) fun u => u.fio = s.fio ∧ Kept s u []) ∧
      (∀ a, s.convMode k = 1 → s.convChans k = [a] → Completes (exec (.filterOutput k i mv lim) s) fun u =>
        (u.chan 4 a).count = (s.chan 4 a).count + 1 ∧ (u.chan 4 a).taken = true ∧
        (u.chan 4 a).aux = (if wBit (s.chan 4 a).cfg 0 8 && s.supply 4 != 2 then (mv.toNat : Int) else 0) ∧
        ((s.chan 4 a).invalid = 0 → aiRange (s.chan 4 a).cfg = 0 → (u.chan 4 a).force = clampI (-25000000) 25000000 i.toInt)) ∧
      (s.convMode k ≠ 1 → v.busy = true →
        let cfg := v.cfgs.getD (v.chan - 4 * k) []
        let n := aiOrder cfg + (if aiRange cfg = v.range then 0 else 1)
        (v.outs < n → Completes (exec (.filterOutput k i mv lim) s) fun u => u.aiConv k = { v with outs := v.outs + 1 } ∧
          u.fio.chans = s.fio.chans) ∧
        (n ≤ v.outs → Completes (exec (.filterOutput k i mv lim) s) fun u =>
          (u.chan 4 v.chan).count = (s.chan 4 v.chan).count + 1 ∧ (u.aiConv k).outs = 0 ∧ (u.aiConv k).range = aiRange cfg))) ∧
    (s.okAt 5 ≠ none → Completes (exec (.aoStaggerRelease c) s) fun u => (u.chan 5 c).has fbHeldoff = false) ∧
    (s.okAt 5 = none → Completes (exec (.aoStaggerRelease c) s) fun u => u.fio = s.fio ∧ Kept s u []) ∧
    (Completes (exec (.complianceAdjust c mv) s) fun u => (u.chan 5 c).force = x.force ∧ (u.chan 5 c).aux =
      if wBit x.cfg 0 1 then (mv.toNat : Int) else clampI (x.aux - 2000) (x.aux + 2000) (clampI 5000 21000 ((mv.toNat : Int) + 2500))) ∧
    ((s.stage 5).mode ≠ smDrive ∨ chanEn x = false → Completes (exec (.aoReadback c i) s) fun u =>
      u.chan 5 c = { x with readback := i.toInt }) ∧
    ((s.stage 5).mode = smDrive → chanEn x = true → Completes (exec (.aoReadback c i) s) fun u =>
      (u.chan 5 c).readback = i.toInt ∧ (u.chan 5 c).force = x.force ∧
      (∀ t, x.has fbMismatch = false → x.misSince = some t → t + 20000000 ≤ s.time → 200000 < (i.toInt - x.force).natAbs →
        (u.chan 5 c).has fbMismatch = true ∧ u.fld Fld.FIO_AO_CNT_mismatch = satInc Fld.FIO_AO_CNT_mismatch.width
          (s.fld Fld.FIO_AO_CNT_mismatch)) ∧
      (x.has fbMismatch = false → (i.toInt - x.force).natAbs ≤ 200000 → (u.chan 5 c).has fbMismatch = false)) ∧
    (1450 ≤ mv.toInt → x.has fbThermal = false → Completes (exec (.aoThermal c mv) s) fun u =>
      (u.chan 5 c).has fbThermal = true ∧ (u.chan 5 c).force = 0 ∧ (u.chan 5 c).temp = mv.toInt ∧
      u.fld Fld.FIO_AO_CNT_thermal = satInc Fld.FIO_AO_CNT_thermal.width (s.fld Fld.FIO_AO_CNT_thermal)) ∧
    (mv.toInt ≤ 1250 → x.has fbThermal = true → Completes (exec (.aoThermal c mv) s) fun u =>
      (u.chan 5 c).has fbThermal = false ∧ ((u.chan 5 c).has fbHeldoff = true ↔ c.val ≠ 0)) ∧
    (¬ (1450 ≤ mv.toInt ∧ x.has fbThermal = false) → ¬ (mv.toInt ≤ 1250 ∧ x.has fbThermal = true) →
      Completes (exec (.aoThermal c mv) s) fun u => u.chan 5 c = { x with temp := mv.toInt })

/-- Ring cycles, discovery and the remote units of a ring. RING_CYCLE_END of a ring that sent nothing changes nothing;
otherwise each unit's section is taken or counted as missed, and a ring whose copies did not return is down with its
alarm. A unit takes a frame whose claim is not below H, and refuses a lower one or that of the odd module at an equal
claim; it applies what it took at the apply instant. UNIT_LINK_DOWN, RING_RESTORE, UNIT_SILENCE_TIMEOUT and
UNIT_SUPPLY_LOSS change that unit alone. Eight missed cycles lose an OPERATIONAL unit. DISCOVERY makes a matching unit
OPERATIONAL, loads parameters, or reports a mismatch. A foreign frame of a higher claim resets the module. A service
message goes out, or is freed by a leeward module. (R215, R217, R437, R438, R439, R440, R441, R442, R443, R445, R446,
R449) -/
def Obligations.RemoteUnitsAndRings : Prop :=
  ∀ (s : State) (r : Fin 2) (n : Fin 256),
    let x := s.runit n
    (∀ rep : RingReport,
      ((s.rioRing r).sent = false → s.leeward = false → Completes (exec (.ringCycleEnd r rep) s) fun u => u.rio = s.rio ∧ Kept s u []) ∧
      ((s.rioRing r).sent = true → n.val ∈ s.ringUnits r →
        (rep.section n = none → Completes (exec (.ringCycleEnd r rep) s) fun u =>
          (u.runit n).missRun = x.missRun + 1 ∧ (u.runit n).okRun = 0 ∧ (u.runit n).missed = satInc 16 x.missed ∧
          (u.runit n).state = x.state) ∧
        (∀ sec, rep.section n = some sec → Completes (exec (.ringCycleEnd r rep) s) fun u =>
          (u.runit n).missRun = 0 ∧ (u.runit n).okRun = x.okRun + 1 ∧ (u.runit n).copyb = sec.copyB ∧ (u.runit n).turn = sec.turn ∧
          (u.runit n).state = if x.state = ruLost ∧ 16 ≤ x.okRun + 1 then ruFound else x.state)) ∧
      ((s.rioRing r).sent = true → rep.aBack = false → rep.bBack = false → Completes (exec (.ringCycleEnd r rep) s) fun u =>
        u.fld (Fld.RIO_RING_STAT_state r) = rsDown ∧
        (s.fld (Fld.RIO_RING_STAT_state r) ≠ rsDown → u.sys.alerts.contains (alertId 440 r) = true))) ∧
    ((s.rioRing (urRing (s.unitRec n))).sent = false → Completes (exec (.unitFrameProcess n none) s) fun u => u.rio = s.rio ∧ Kept s u []) ∧
    (∀ f : RFrame, f.reset = false →
      (x.h.toNat ≤ f.claim.toNat → f.claim ≠ 0 → ¬ (f.claim = x.h ∧ x.hEven = true ∧ f.even = false) →
        Completes (exec (.unitFrameProcess n (some f)) s) fun u => u.runit n = { x with
          framed := s.time, last := f.claim, h := f.claim, hEven := f.even, heard := s.time, resetOk := false, tk := f.tk
          took := f.vals.getD [], driving := x.driving && f.vals.isSome } ∧ Kept s u []) ∧
      (f.claim.toNat < x.h.toNat ∨ (f.claim = x.h ∧ x.hEven = true ∧ f.even = false) →
        Completes (exec (.unitFrameProcess n (some f)) s) fun u => (u.runit n).h = x.h ∧ (u.runit n).took = [] ∧
          (u.runit n).outs = x.outs ∧ Kept s u [])) ∧
    (s.qe.groups = [] →
      (x.took = [] → Completes (exec (.unitApplyInstant n) s) fun u => u.runit n = x ∧ Kept s u []) ∧
      (∀ v, x.took = [v] → Completes (exec (.unitApplyInstant n) s) fun u => (u.runit n).driving = true ∧ (u.runit n).took = [] ∧
        (u.runit n).silence = false ∧ SMap.get ⟨0, 0, 0⟩ v.point (u.runit n).outs =
          (if (SMap.get ⟨0, 0, 0⟩ v.point x.outs).publ = v.publ then SMap.get ⟨0, 0, 0⟩ v.point x.outs else v))) ∧
    (∀ b : Bool, Completes (exec (.unitLinkDown n b) s) fun u =>
      u.runit n = (if b then { x with downB := true } else { x with downA := true }) ∧ Kept s u []) ∧
    (∀ p : Fin 128, Completes (exec (.ringRestore r p) s) fun u => Kept s u [] ∧
      (n.val ∉ s.ringUnits r → u.runit n = x) ∧
      (n.val ∈ s.ringUnits r → u.runit n = if urPos (s.unitRec n) = p then { x with downB := false }
        else if urPos (s.unitRec n) = p + 1 then { x with downA := false } else x)) ∧
    (x.state = ruOperational → 8 ≤ x.missRun → Completes (exec (.unitMissedCycles n) s) fun u => (u.runit n).state = ruLost ∧
      u.fbit (Fld.RIO_OPER_oper (n / 32)) (n % 32) = false) ∧
    (x.state ≠ ruOperational ∨ x.missRun < 8 → Completes (exec (.unitMissedCycles n) s) fun u => u.rio = s.rio ∧ Kept s u []) ∧
    (∀ (b h : BitVec 16) (ds : List RReport),
      (s.mastersRing r = false → Completes (exec (.discovery r ds b h) s) fun u => u.rio = s.rio ∧ Kept s u []) ∧
      (∀ d, s.mastersRing r = true → ds = [d] → (s.ringUnits r).find? (fun v => urPos (s.unitRec v) == d.pos) = some n.val →
        x.state ≤ 2 →
        let w := s.unitRec n
        Completes (exec (.discovery r ds b h) s) fun u => (u.runit n).serial = d.serial ∧ (u.runit n).node = d.node ∧
          (d.type = wBits w 1 15 0 → d.node = urNode w → d.crc = wAt w 3 → (u.runit n).state = ruOperational ∧
            u.sys.alerts.contains (alertId 443 n) = false) ∧
          (d.type = wBits w 1 15 0 → d.node = urNode w → d.crc ≠ wAt w 3 → (u.runit n).state = ruLoading) ∧
          (d.type ≠ wBits w 1 15 0 → (u.runit n).state = ruMismatch ∧ u.sys.alerts.contains (alertId 443 n) = true))) ∧
    (∀ (c : BitVec 32) (e : Bool),
      (s.mode ≠ mActive → Completes (exec (.foreignFrame r c e) s) fun u => u.rio = s.rio ∧ Kept s u []) ∧
      (s.mode = mActive → s.sys.holdup = false → s.handingOver = false → c.toNat < (s.reg Reg.RED_CLAIM).toNat ∨ (c = s.reg Reg.RED_CLAIM ∧ e = false) →
        Completes (exec (.foreignFrame r c e) s) fun u => u.rio = s.rio ∧ u.mode = mActive ∧ Kept s u [Reg.RIO_RING_CNT r] ∧
          u.fld (Fld.RIO_RING_CNT_foreign r) = satInc 8 (s.fld (Fld.RIO_RING_CNT_foreign r))) ∧
      (s.mode = mActive → s.sys.holdup = false → s.handingOver = false → (s.reg Reg.RED_CLAIM).toNat < c.toNat →
        Completes (exec (.foreignFrame r c e) s) fun u =>
        ResetBy s u rcVeerLoser)) ∧
    (Completes (exec (.unitSilenceTimeout n) s) fun u => u.runit n = { x with driving := false, took := [] } ∧
      (x.heard + urSilence (s.unitRec n) * 1000000 ≤ s.time → Kept s u [])) ∧
    (Completes (exec (.unitSupplyLoss n) s) fun u => (u.runit n).h = 0 ∧ (u.runit n).outs = [] ∧ (u.runit n).driving = false ∧
      (u.runit n).took = [] ∧ (u.runit n).state = x.state ∧ Kept s u []) ∧
    (∀ (q : Fin 8192) (reply : Option (List Byte)),
      (s.front q = none ∨ (s.qConsumer q ≠ 0x20 ∧ s.qConsumer q ≠ 0x21) → Completes (exec (.rioServiceMessage q reply) s) fun u =>
        u.qe = s.qe ∧ u.sent = s.sent ∧ Kept s u []) ∧
      (∀ d, s.front q = some d → s.qConsumer q = 0x20 ∨ s.qConsumer q = 0x21 →
        (s.leeward = true → Completes (exec (.rioServiceMessage q reply) s) fun u => u.outside = s.outside ∧
          (u.queue q).msgs = (s.queue q).msgs.filter (· != d)) ∧
        (s.leeward = false → reply = none → Completes (exec (.rioServiceMessage q reply) s) fun u =>
          u.outside = ⟨.rio (s.qConsumer q - 0x20), 438, wd 1 :: s.msgWords d⟩ ::
            ⟨.rio (s.qConsumer q - 0x20), 438, wd 0 :: s.msgWords d⟩ :: s.outside ∧
          (u.queue q).msgs = (s.queue q).msgs.filter (· != d))))

/-- References, the servo, lock, PPS and the time compares. A measurement at a disabled port sets the path delay alone.
One of the reference in force steers when it is within the threshold, is counted as an outlier when not, and the third
outlier refuses the step; three that agree in FREERUN set station time. An Announce is kept, and a port that hears the
best clock is SLAVE. REFERENCE_LOSS takes the next reference in order, or begins holdover. LOCK_ACHIEVED locks. PPS
edges are timed, and at the event matrix an input edge fires source 4: a sink that it is routed to counts it in its
divider or acts, and a shadow sink copies its group's counter, its time and its count, but not within 100 µs of the
last. A compare is armed, disarmed, suspended, late, or outside its window, once for each sequence;
COMPARE_FIRE and PERIODIC_COMPARE_FIRE move the clock on to the instant, a grid point for a periodic one. (R373, R374,
R378, R379, R381, R383, R385, R386, R387, R388, R390, R585) -/
def Obligations.NetworkTime : Prop :=
  ∀ (s : State) (p : Fin 6) (off : BitVec 64) (dly : BitVec 32) (n : Fin 32) (t : BitVec 32) (q : BitVec 8) (g : BitVec 16),
    let o := off.toInt - s.ingressShift p
    let r := s.cmpRec n
    let x := s.cmp n
    let on := wBit s.timeRec 0 0 = true ∧ wBit s.timeRec 1 p = true
    let inForce := s.tuRef = p.val ∧ s.candidate p = true ∧ s.tu.barred ≠ some p.val
    let fresh := x.seqTaken = false ∨ s.fld (Fld.TU_CMPCTL_seq n) ≠ q.toNat
    let d := signed 32 ((t.toNat + 2 ^ 32 - s.time % 2 ^ 32) % 2 ^ 32)
    (¬ on → Completes (exec (.ptpSyncMeasurement p off dly) s) fun u => u.tu = s.tu ∧ Kept s u [Reg.TU_PORTSTAT p] ∧
      u.fld (Fld.TU_PORTSTAT_delay p) = min dly.toNat (2 ^ 24 - 1)) ∧
    (on → inForce → s.tuState = tsLocked →
      (o.natAbs ≤ jumpThreshold s.timeRec → Completes (exec (.ptpSyncMeasurement p off dly) s) fun u =>
        u.reg Reg.TU_OFFSET = wordOf (sat32 o) ∧ u.tuState = tsLocked ∧ u.tu.outRun = 0 ∧ u.tu.lastAcc = s.time ∧
        -200000000 ≤ (u.reg Reg.TU_RATE).toInt ∧ (u.reg Reg.TU_RATE).toInt ≤ 200000000 ∧ u.time = s.time) ∧
      (jumpThreshold s.timeRec < o.natAbs → s.tu.outRun < 2 → Completes (exec (.ptpSyncMeasurement p off dly) s) fun u =>
        u.tu.outRun = s.tu.outRun + 1 ∧ u.tuState = tsLocked ∧ u.reg Reg.TU_RATE = s.reg Reg.TU_RATE ∧
        u.fld Fld.TU_CNT_outlier = satInc Fld.TU_CNT_outlier.width (s.fld Fld.TU_CNT_outlier)) ∧
      (jumpThreshold s.timeRec < o.natAbs → 2 ≤ s.tu.outRun → s.isSet Fld.TU_STAT_refused = false → s.pfc = [] →
        Completes (exec (.ptpSyncMeasurement p off dly) s) fun u => u.tu.barred = some p.val ∧ u.tuState = tsRefused ∧
          u.isSet Fld.TU_STAT_refused = true ∧ u.time = s.time)) ∧
    (∀ a b, on → inForce → s.tuState = tsFreerun → s.tu.firsts = [a, b] → (a - b).natAbs ≤ 1000 → (o - a).natAbs ≤ 1000 →
      (o - b).natAbs ≤ 1000 → Completes (exec (.ptpSyncMeasurement p off dly) s) fun u =>
        u.time = ((s.time : Int) + o).toNat % 2 ^ 64) ∧
    (∀ c : Announce, Completes (exec (.ptpAnnounce p c) s) fun u => SMap.get none p.val u.tu.announces = some c ∧
      u.time = s.time ∧ u.mode = s.mode ∧
      (on → s.tu.announces = [] → (p.val < 4 → s.isSet (Fld.ETH_PSTAT_link p) = true) → s.followsPartner = false →
        s.ownClock.better c = false → u.fld (Fld.TU_PORTSTAT_state p) = 9)) ∧
    (s.tuRef = refNone → Completes (exec .referenceLoss s) fun u => u.tu = s.tu ∧ Kept s u []) ∧
    let s' := s.runUntil s.lossAt
    (∀ k, s.tuRef ≠ refNone → s.refOrder.find? (fun r => r != s.tuRef && s.tu.barred != some r && s'.refPresent r) = some k →
      Completes (exec .referenceLoss s) fun u => u.tuRef = k ∧ u.tuState = s.tuState) ∧
    (s.tuRef ≠ refNone → (∀ k ∈ s.refOrder, k ≠ s.tuRef → s'.refPresent k = false) → s.tuState = tsAcquire ∨ s.tuState = tsLocked →
      s.pfc = [] → Completes (exec .referenceLoss s) fun u => u.tuState = tsHoldover ∧ u.tuRef = refNone ∧
        u.tu.holdFrom = s'.time ∧ u.isSet Fld.SYS_STAT_holdover = true) ∧
    (∀ k, s.tuState = tsAcquire → s.tu.okSince = some k → Completes (exec .lockAchieved s) fun u => u.tuState = tsLocked ∧
      u.mem = s.mem ∧ u.cfg = s.cfg ∧ (k + 10000000000 ≤ s.time → Kept s u [Reg.TU_STAT])) ∧
    (s.tuState ≠ tsAcquire ∨ s.tu.okSince = none → Completes (exec .lockAchieved s) fun u => u.tu = s.tu ∧ Kept s u []) ∧
    (wBit s.timeRec 5 16 = false ∨ s.tuState = tsFreerun → Completes (exec .ppsOutputEdge s) fun u => u.tu = s.tu ∧ Kept s u []) ∧
    (wBit s.timeRec 5 16 = true → s.tuState ≠ tsFreerun → s.tu.ppsOut = none → Completes (exec .ppsOutputEdge s) fun u =>
      s.clk ≤ u.clk ∧ ∃ k, u.tu.ppsOut = some (k * 1000000000) ∧ s.time ≤ k * 1000000000 ∧ k * 1000000000 < s.time + 1000000000) ∧
    (∀ (c : Fin 256) (x : PfcCnt), s.pfc = [(c.val, x)] → x.cls ≠ 1 → isCondition x.cls = false → bits x.ev 6 4 = 1 →
      x.last ≠ s.clk + 1 → x.wasAt ≠ s.clk + 1 → ppsReference s.timeRec = false → s.ad.reached = [] →
      let k := s.reg (Reg.SYS_EVM_SINK 100)
      let n := SMap.get 0 100 s.sys.divs
      let edge := exec (.ppsInputEdge g) s
      bit k 8 = true → bits k 7 0 = 4 →
      (∀ i < 120, i ≠ 100 → (bit (s.reg (Reg.SYS_EVM_SINK i)) 8 && bits (s.reg (Reg.SYS_EVM_SINK i)) 7 0 == 4) = false) →
      (n < bits k 23 16 → Completes edge fun u => u.sys.divs = SMap.set 0 100 (n + 1) s.sys.divs ∧ u.pfc = s.pfc ∧
        u.isSet (⟨Reg.SYS_EVM_FIRED 0, 4, 4⟩) = true ∧ u.reg (Reg.PFC_GSEQ 0) = s.reg (Reg.PFC_GSEQ 0)) ∧
      (bits k 23 16 ≤ n → SMap.get none 0 s.pfcAt = none → Completes edge fun u => SMap.get 0 100 u.sys.divs = 0 ∧
        u.reg (Reg.PFC_SHD_HI c) = hi32 x.count ∧ u.reg (Reg.PFC_SHD_LO c) = lo32 x.count ∧ u.pfc = s.pfc ∧
        u.reg (Reg.PFC_GTIME_HI 0) = hi32 s.time ∧ u.reg (Reg.PFC_GTIME_LO 0) = lo32 s.time ∧
        u.fld (Fld.PFC_GSEQ_count 0) = (s.fld (Fld.PFC_GSEQ_count 0) + 1) % 2 ^ 16) ∧
      (∀ t, bits k 23 16 ≤ n → SMap.get none 0 s.pfcAt = some t → s.clk < t + 25000 → Completes edge fun u =>
        u.fld (Fld.PFC_GSEQ_missed 0) = satInc (Fld.PFC_GSEQ_missed 0).width (s.fld (Fld.PFC_GSEQ_missed 0)) ∧
        u.reg (Reg.PFC_SHD_LO c) = s.reg (Reg.PFC_SHD_LO c) ∧ u.pfc = s.pfc)) ∧
    (s.pfc = [] → ppsReference s.timeRec = false → Completes (exec (.ppsInputEdge g) s) fun u =>
      u.tu.ppsLast = some (s.time - g.toNat) ∧ u.reg Reg.TU_PPSIN_LO = lo32 (s.time - g.toNat) ∧
      u.reg Reg.TU_PPSIN_HI = hi32 (s.time - g.toNat) ∧ u.time = s.time) ∧
    (∀ l, s.pfc = [] → ppsReference s.timeRec = true → s.tu.ppsLast = some l →
      100000 < (((s.time - g.toNat : Nat) : Int) - l - 1000000000).natAbs → Completes (exec (.ppsInputEdge g) s) fun u =>
        u.fld Fld.TU_CNT_outlier = satInc Fld.TU_CNT_outlier.width (s.fld Fld.TU_CNT_outlier) ∧ u.time = s.time) ∧
    (cmpEn r = false ∨ ¬ fresh → ∀ c ∈ [Instr.compareArm n t q, .compareDisarm n q], Completes (exec c s) fun u =>
      u.tu = s.tu ∧ u.mem = s.mem ∧ u.pts = s.pts ∧ (u.out (cmpItem n 0)).q = 0 ∧ ∀ k, plainReg k = true → u.reg k = s.reg k) ∧
    (cmpEn r = true → fresh → cmpPeriodic r = true →
      (Completes (exec (.compareArm n t q) s) fun u => u.isSet (Fld.TU_CMPCTL_suspended n) = false) ∧
      (Completes (exec (.compareDisarm n q) s) fun u => u.isSet (Fld.TU_CMPCTL_suspended n) = true)) ∧
    (cmpEn r = true → fresh → cmpPeriodic r = false →
      (Completes (exec (.compareDisarm n q) s) fun u => u.isSet (Fld.TU_CMPCTL_armed n) = false ∧
        u.fld (Fld.TU_CMPCTL_seq n) = q.toNat) ∧
      (0 < d → d ≤ 2100000000 → Completes (exec (.compareArm n t q) s) fun u => u.isSet (Fld.TU_CMPCTL_armed n) = true ∧
        u.isSet (Fld.TU_CMPCTL_window n) = false ∧ (u.cmp n).target = s.time + d.toNat ∧ u.reg (Reg.TU_CMPT n) = t ∧
        u.fld (Fld.TU_CMPCTL_seq n) = q.toNat) ∧
      (2100000000 < d.natAbs → Completes (exec (.compareArm n t q) s) fun u => u.isSet (Fld.TU_CMPCTL_window n) = true ∧
        u.isSet (Fld.TU_CMPCTL_armed n) = s.isSet (Fld.TU_CMPCTL_armed n)) ∧
      (d ≤ 0 → d.natAbs ≤ 2100000000 → s.pfc = [] → Completes (exec (.compareArm n t q) s) fun u =>
        u.isSet (Fld.TU_CMPCTL_armed n) = false ∧ (cmpPolicy r = 0 → u.isSet (Fld.TU_CMPCTL_late n) = true) ∧
        (cmpPolicy r ≠ 0 → u.isSet (Fld.TU_CMPCTL_dropped n) = true))) ∧
    (s.isSet (Fld.TU_CMPCTL_armed n) = false → Completes (exec (.compareFire n) s) fun u => u.tu = s.tu ∧ Kept s u []) ∧
    (s.isSet (Fld.TU_CMPCTL_armed n) = true → s.pfc = [] → s.prt.lanes = [] → Completes (exec (.compareFire n) s) fun u =>
      u.isSet (Fld.TU_CMPCTL_armed n) = false ∧ u.fbit Fld.TU_CMPFIRED_fired n = true ∧ s.clk ≤ u.clk ∧
      u.time = (s.runUntil x.target).time) ∧
    (cmpEn r = false ∨ cmpPeriodic r = false ∨ s.isSet (Fld.TU_CMPCTL_suspended n) = true →
      Completes (exec (.periodicCompareFire n) s) fun u => u.tu = s.tu ∧ Kept s u []) ∧
    (cmpEn r = true → cmpPeriodic r = true → s.isSet (Fld.TU_CMPCTL_suspended n) = false →
      Completes (exec (.periodicCompareFire n) s) fun u => ∃ k, (u.cmp n).lastGrid = some k ∧ s.time ≤ k ∧
        k % cmpPeriod r = cmpPhase r % cmpPeriod r ∧ s.clk ≤ u.clk)

/-- The evaluation of the safety instances. SAFETY_EVALUATION runs at a multiple of 500 µs of the fabric clock; outside
COMMISSION, ACTIVE, STANDBY and SAFE it evaluates nothing. In those modes, for a station of one instance: one not
enabled is OFF; one whose set fails its background check is in LOCKOUT; one whose set is not confirmed is UNCONFIRMED;
one confirmed at last is TRIPPED; RUN goes to TRIPPED, or for SS1 to STOPPING, on a DEMAND item; it stays in RUN
without a demand; a new RESET sequence takes TRIPPED to RUN in COMMISSION and ACTIVE, and in no other mode. (R453,
R462, R463, R464, R465, R466, R474, R475) -/
def Obligations.SafetyInstances : Prop :=
  ∀ (s : State) (n : Nat) (r : List Word),
    let i := irInst r
    let x := s.inst i
    let ok := s.setConfirmed n = true ∧ (s.names7 r = true → s.setConfirmed 0 = true)
    let quiet := irInputs r = [] ∧ irEdmUsed r = false ∧ (∀ t ∈ irTargets r, s.isSto t.2 = false) ∧ s.supply 7 ≠ 1 ∧
      s.supply 7 ≠ 2 ∧ (s.out (demandItem i)).val.getLsbD 0 = false
    let new := irReset r = 1 ∧ (s.out (resetItem i)).q ≠ 3 ∧
      (x.seqTaken = false ∨ (s.out (resetItem i)).val.toNat % 256 ≠ x.rseq)
    s.prt.lanes = [] →
    (safEvaluates s.mode = false → Completes (exec .safetyEvaluation s) fun u => u.saf = { s.saf with evalAt := some u.clk } ∧
      u.clk % 125000 = 0 ∧ s.clk ≤ u.clk ∧ u.clk ≤ s.clk + 125000 ∧ Kept s u []) ∧
    (safEvaluates s.mode = true → s.saf.flip = false → s.instRecs = [(n, r)] →
      (Completes (exec .safetyEvaluation s) fun u => u.mode = s.mode ∧ u.cfg = s.cfg ∧ u.outs = s.outs ∧
        u.clk % 125000 = 0 ∧ s.clk ≤ u.clk ∧ u.clk ≤ s.clk + 125000) ∧
      (irEn r = false → Completes (exec .safetyEvaluation s) fun u => (u.inst i).state = siOff) ∧
      (irEn r = true → n ∈ s.saf.bad → Completes (exec .safetyEvaluation s) fun u => (u.inst i).state = siLockout ∧
        ∀ t ∈ irTargets r, t.2 ∈ u.saf.held) ∧
      (irEn r = true → n ∉ s.saf.bad → ¬ ok → Completes (exec .safetyEvaluation s) fun u => (u.inst i).state = siUnconfirmed ∧
        ∀ t ∈ irTargets r, t.2 ∈ u.saf.held) ∧
      (irEn r = true → ok → irEdmUsed r = false →
        (x.state = siRun → (s.out (demandItem i)).val.getLsbD 0 = true → Completes (exec .safetyEvaluation s) fun u =>
          (u.inst i).demand = true ∧ (irType r = 2 → (u.inst i).state = siStopping) ∧
          (irType r ≠ 2 → (u.inst i).state = siTripped ∧ ∀ t ∈ irTargets r, t.2 ∈ u.saf.held)) ∧
        (x.state = siRun → quiet → s.isSet Fld.SAF_STAT_fault = false → s.mode ≠ mSafe →
          Completes (exec .safetyEvaluation s) fun u => (u.inst i).state = siRun ∧ (u.inst i).demand = false ∧ u.saf.held = []) ∧
        (x.state = siTripped → quiet → new →
          (safResets s.mode = true → Completes (exec .safetyEvaluation s) fun u => (u.inst i).state = siRun ∧
            (u.inst i).rseq = (s.out (resetItem i)).val.toNat % 256) ∧
          (safResets s.mode = false → Completes (exec .safetyEvaluation s) fun u => (u.inst i).state = siTripped)) ∧
        (x.state = siOff ∨ x.state = siUnconfirmed → irReset r = 1 → (s.out (resetItem i)).q = 3 →
          Completes (exec .safetyEvaluation s) fun u => (u.inst i).state = siTripped)))

/-- Safety inputs, their tests, telegrams and the background check. A sample of an input without a record changes nothing
of it; with one it is kept, but for a channel in its dark pulse, and a channel open for the filter makes the decision
demand. A test pulse that reads closed latches cross-short, one that never opens test failure, an outrun discrepancy
time discrepancy, each with demand. An STO output that fails its switch test goes off. Items are published. A telegram
counts with a valid CRC and the next counter. A lost watchdog expires the group or puts the unit's outputs safe. A set
that no longer has its confirmed check value locks its instances out. The lockouts of confirmation and SAFE_AUTH end.
An EDM not exercised is reported. SAF_PDATA writes a parameter word only during a commit of safety sets in COMMISSION.
(R455, R456, R457, R458, R464, R465, R472, R474, R480, R481, R483, R484) -/
def Obligations.SafetyInputsAndTelegrams : Prop :=
  ∀ s : State,
    (∀ (a b : BitVec 12) (da db : Bool) (c : Fin 12),
      (s.safeRec (4 + c) = [] → Completes (exec (.safetyInputSample a b da db) s) fun u => u.safeIn (4 + c) = s.safeIn (4 + c) ∧
        u.mode = s.mode ∧ u.mem = s.mem ∧ u.cfg = s.cfg) ∧
      (s.safeRec (4 + c) ≠ [] → Completes (exec (.safetyInputSample a b da db) s) fun u =>
        (u.safeIn (4 + c)).rawA = (if da then (s.safeIn (4 + c)).rawA else a.getLsbD c) ∧
        (u.safeIn (4 + c)).rawB = (if db then (s.safeIn (4 + c)).rawB else b.getLsbD c) ∧
        (a.getLsbD c = false → da = false → (s.safeIn (4 + c)).demA = true →
          filterSamples (s.safeRec (4 + c)) ≤ (s.safeIn (4 + c)).nA + 1 → (u.safeIn (4 + c)).dem = true) ∧
        (inputFault (s.chan 7 (4 + c)) = true → (s.safeIn (4 + c)).seenDem = false → (u.safeIn (4 + c)).dem = true) ∧
        u.mode = s.mode ∧ u.mem = s.mem ∧ u.cfg = s.cfg)) ∧
    (∀ (k m : BitVec 12) (c : Fin 12), s.safeRec (4 + c) ≠ [] →
      Completes (exec (.testSourcePulse k m) s) fun u => u.mem = s.mem ∧ u.cfg = s.cfg ∧
        (k.getLsbD c = true → (u.chan 7 (4 + c)).has fbCrossshort = true ∧ (u.safeIn (4 + c)).dem = true) ∧
        (m.getLsbD c = true → (u.chan 7 (4 + c)).has fbTestfail = true ∧ (u.safeIn (4 + c)).dem = true)) ∧
    (∀ c : Fin 12,
      ((s.safeIn (4 + c)).diffSince = none → Completes (exec (.discrepancyTimeout c) s) fun u => u.saf = s.saf ∧ u.fio = s.fio ∧
        Kept s u []) ∧
      (∀ t, (s.safeIn (4 + c)).diffSince = some t → Completes (exec (.discrepancyTimeout c) s) fun u =>
        (u.chan 7 (4 + c)).has fbDiscrepancy = true ∧ (u.safeIn (4 + c)).dem = true ∧
        t + discrepancyClks (s.safeRec (4 + c)) ≤ u.clk)) ∧
    (∀ (c : Fin 4) (b p o : Bool),
      let bad := if (s.chan 7 c).force ≠ 0 then p = true ∨ o = false
        else o = true ∧ (s.sys.pins.pair = false ∨ (s.stage 7).mode = smDrive)
      (bad → Completes (exec (.stoTestPulse c b p o) s) fun u => (u.chan 7 c).has fbStuck = true ∧ (u.chan 7 c).force = 0 ∧
        u.saf = s.saf ∧ u.mem = s.mem ∧ u.cfg = s.cfg) ∧
      (¬ bad → Completes (exec (.stoTestPulse c b p o) s) fun u => (u.chan 7 c).force = (s.chan 7 c).force ∧
        (if b then (u.chan 7 c).raw else (u.chan 7 c).level) = o ∧ u.evr = s.evr ∧ u.saf = s.saf ∧ u.mem = s.mem ∧ u.cfg = s.cfg)) ∧
    (∀ (i : Fin 256) (d : Bool) (q : BitVec 8),
      (Completes (exec (.safetyDemandItem i d) s) fun u => (u.out (demandItem i)).val = (if d then 1 else 0) ∧
        (u.out (demandItem i)).q = 0 ∧ u.saf = s.saf) ∧
      (Completes (exec (.safetyResetItem i q) s) fun u => (u.out (resetItem i)).val = q.setWidth 64 ∧
        (u.out (resetItem i)).q = 0 ∧ u.saf = s.saf)) ∧
    (∀ (un : Fin 256) (g : Fin 16) (k : BitVec 16) (v : SafeValue),
      let key := un.val * 16 + g.val
      let x := SMap.get {} key s.saf.groups
      let a := urNode (s.unitRec un) * 2 ^ 18 + v.chan % 1024 * 256
      let next := x.counter = none ∨ ∃ c, x.counter = some c ∧ k.toNat = (c + 1) % 65536
      (Completes (exec (.safetyTelegramReceive un g k false [v]) s) fun u => u.saf = s.saf ∧ Kept s u []) ∧
      (next → Completes (exec (.safetyTelegramReceive un g k true [v]) s) fun u =>
        SMap.get {} key u.saf.groups = ⟨some k.toNat, false, s.clk⟩ ∧ SMap.get {} a u.saf.remotes = ⟨v.run, v.fault, key⟩ ∧ Kept s u []) ∧
      (¬ next → Completes (exec (.safetyTelegramReceive un g k true [v]) s) fun u => u.saf.remotes = s.saf.remotes ∧
        SMap.get {} key u.saf.groups = ⟨some k.toNat, x.expired, x.heardAt⟩ ∧ Kept s u []) ∧
      (Completes (exec (.safetyWatchdogExpiry un g true) s) fun u => u.runit un = { s.runit un with safeOut := true } ∧
        u.saf = s.saf ∧ ((s.runit un).teleAt + safetyWatchdog ≤ s.clk → Kept s u [])) ∧
      (Completes (exec (.safetyWatchdogExpiry un g false) s) fun u =>
        SMap.get {} key u.saf.groups = { x with expired := true } ∧ u.rio = s.rio ∧
        (x.heardAt + safetyWatchdog ≤ s.clk → Kept s u []))) ∧
    (∀ (n : Fin 16) (v : Word),
      (SMap.get none n s.nv.confirmed = some v → s.setLoaded n = true → n.val ∉ s.saf.bad →
        setCheck (s.paramSet n) ≠ v → Completes (exec .parameterCrcCheck s) fun u => n.val ∈ u.saf.bad ∧
          ∀ r, (n.val, r) ∈ s.instRecs → irEn r = true → (u.inst (irInst r)).state = siLockout) ∧
      (SMap.get none n s.nv.confirmed = none → n.val ∉ s.saf.bad → Completes (exec .parameterCrcCheck s) fun u =>
        n.val ∉ u.saf.bad) ∧
      (Completes (exec (.confirmLockoutEnd n) s) fun u => n.val ∉ u.saf.barred ∧ SMap.get 0 n u.saf.wrong = 0 ∧
        u.saf.insts = s.saf.insts ∧ (n.val ∉ s.saf.barred → Kept s u []))) ∧
    (Completes (exec .authLockoutEnd s) fun u => u.saf = { s.saf with authWrong := 0, authBarred := false } ∧
      (s.saf.authBarred = false → Kept s u []) ∧ (s.saf.authBarred = true → u.clk = max s.clk (s.saf.authAt + 225000000000))) ∧
    (∀ (i : Fin 256),
      (∀ n r, s.instRecs.find? (fun e => irInst e.2 == i.val) = some (n, r) → irEn r = true → irEdmUsed r = true →
        Completes (exec (.edmExerciseDue i) s) fun u => i.val ∈ u.saf.edmDue ∧ u.isSet Fld.SAF_STAT_edmdue = true ∧
          u.sys.alerts.contains (alertId 483 i) = true ∧ u.saf.insts = s.saf.insts) ∧
      (s.instRecs.find? (fun e => irInst e.2 == i.val) = none → Completes (exec (.edmExerciseDue i) s) fun u =>
        u.saf = s.saf ∧ u.sys = s.sys ∧ Kept s u [])) ∧
    (∀ v : Word, s.slowOf 0 = none →
      let during := s.fw.commits.any fun c => c.stages.any fun st => match st with | .safety _ _ _ => true | _ => false
      let n := s.fld Fld.SAF_PADDR_set
      let w := s.fld Fld.SAF_PADDR_word
      (s.mode = mCommission → during = true → Completes (exec (.safPdataWrite v) s) fun u => (u.paramSet n).getD w 0 = v ∧
        (∀ k, k ≠ w → (u.paramSet n).getD k 0 = (s.paramSet n).getD k 0) ∧ (∀ k, k ≠ n → u.paramSet k = s.paramSet k) ∧
        u.fld Fld.SAF_PADDR_word = (w + 1) % 2 ^ Fld.SAF_PADDR_word.width ∧ u.fld Fld.SAF_PADDR_set = n) ∧
      (s.mode ≠ mCommission ∨ during = false → Completes (exec (.safPdataWrite v) s) fun u => u.saf = s.saf ∧
        u.fld Fld.SAF_PADDR_word = w))

/-- Alarms, their commands and timers, and the event recorder. ALARM_EVALUATION of a module that evaluates none leaves the
alarms; in one that does, an item-source alarm changes its condition after its delay and moves by the table of states;
the commands waiting are taken first. A command without authority is refused, and from the bridge answered; with it,
it waits. SILENCE_EXPIRY, SHELVE_EXPIRY, ESCALATION, CHATTER_END, FLOOD_LEAVE, HELD_ALF_RELEASE act on what is running
and on nothing else; ALC and HBT go out from the windward module alone. A capture ends in one record; messages become
staged records, lost and counted where staging is full; the oldest record is written to its slot unless the ring is
frozen; a freeze ends at its time-out. (R485, R486, R488, R489, R490, R491, R492, R494, R495, R500, R501, R504) -/
def Obligations.AlarmsAndRecords : Prop :=
  ∀ (s : State) (i : Fin 2048) (pl : Bool),
    let x := s.alarm i
    let og := if pl then 2 else 1
    let queued := fun (u : State) (q : AlmCmd) => u.alm = { s.alm with cmds := s.alm.cmds ++ [q] } ∧ u.evr = s.evr ∧ Kept s u []
    (s.prt.lanes = [] → s.evaluatesAlarms = false → Completes (exec .alarmEvaluation s) fun u => u.alm = { s.alm with evalAt := u.alm.evalAt } ∧
      u.evr = s.evr ∧ u.clk = (s.runUntil s.alarmGrid).clk ∧ Kept s u []) ∧
    (∀ c, s.prt.lanes = [] → s.evaluatesAlarms = true → s.alm.cfg = [(i.val, c)] → i.val ≠ 2047 → x.chattering = false →
      let item := (s.out (alarmItem i)).val.getLsbD 0
      let ends := fun (st : Nat) => Completes (exec .alarmEvaluation s) fun u => (u.alarm i).state = st ∧ u.mode = s.mode ∧
        u.outs = s.outs ∧ u.mem = s.mem ∧ u.alm.cmds = []
      (c.en = false → s.alm.cmds = [] → ends asOut) ∧
      (c.en = true → c.suppress = none → c.point = none → s.alm.cmds = [] →
        (item = true → x.cond = false → c.onDelay ≤ x.count * 10 → (x.state = asNormal → c.priority ≠ 3 → ends asUnack) ∧
          (x.state = asNormal → c.priority = 3 → ends asAck) ∧ (x.state = asRectified → ends asUnack)) ∧
        (item = true → x.cond = false → x.count * 10 < c.onDelay → x.state = asNormal → ends asNormal ∧
          Completes (exec .alarmEvaluation s) fun u => (u.alarm i).count = x.count + 1) ∧
        (item = false → x.cond = true → c.offDelay ≤ x.count * 10 → (x.state = asUnack ∨ x.state = asSilenced → ends asRectified) ∧
          (x.state = asAck → ends asNormal)) ∧
        (item = false → x.cond = false → x.state = asShelved → ends asShelved)) ∧
      (c.en = true → c.suppress = none → c.point = none → item = true → x.cond = true →
        (s.alm.cmds = [⟨i, acAck, 1, 0⟩] → x.state = asUnack ∨ x.state = asSilenced → ends asAck) ∧
        (s.alm.cmds = [⟨i, acSilence, 1, 0⟩] → x.state = asUnack → ends asSilenced) ∧
        (s.alm.cmds = [⟨i, acShelve, 1, 5⟩] → x.state ≤ 4 → ends asShelved) ∧
        (s.alm.cmds = [⟨i, acUnshelve, 1, 0⟩] → x.state = asShelved → c.priority ≠ 3 → ends asUnack))) ∧
    (∀ b, Completes (exec (.alarmItem i b) s) fun u => (u.out (alarmItem i)).val = (if b then 1 else 0) ∧ u.alm = s.alm ∧
      u.mem = s.mem) ∧
    (Completes (exec (.alarmAcknowledge i pl) s) fun u => queued u ⟨i, acAck, og, 0⟩) ∧
    (Completes (exec (.alarmSilence i pl) s) fun u => queued u ⟨i, acSilence, og, 0⟩) ∧
    (Completes (exec (.alarmUnshelve i pl) s) fun u => queued u ⟨i, acUnshelve, og, 0⟩) ∧
    (∀ m : BitVec 16, let c := s.alarmCfg i
      (1 ≤ c.priority → c.category ≠ 0 → m ≠ 0 → m ≤ 1440 → Completes (exec (.alarmShelve i pl m) s) fun u =>
        queued u ⟨i, acShelve, og, m.toNat⟩) ∧
      (c.priority = 0 ∨ c.category = 0 ∨ m = 0 ∨ 1440 < m → Completes (exec (.alarmShelve i pl m) s) fun u => u.alm = s.alm ∧
        u.evr.inbox.length = s.evr.inbox.length + 1 ∧ Kept s u [])) ∧
    (∀ (id : BitVec 32) (n : BitVec 16) (k : Fin 5),
      let named := s.alarmList.find? fun j => (s.alarmCfg j).ident == id && (s.alarmCfg j).inst == n.toNat
      let may := fun j => (k.val = acAck ∧ (s.alarmCfg j).category = 1) ∨ k.val = acSilence ∨ k.val = acTransfer
      (∀ j, named = some j → may j → Completes (exec (.acnReceive id n k) s) fun u => queued u ⟨j, k, 3, 0⟩) ∧
      (named = none ∨ (∃ j, named = some j ∧ ¬ may j) → Completes (exec (.acnReceive id n k) s) fun u => u.alm = s.alm ∧
        Kept s u [Reg.ETH_TX 0, Reg.ETH_TX 1] ∧ (s.windward = true → ∃ w, u.sent = s.framesOn [0, 1] 4922 (s.alertTag ++ [w, wd k]) ++ s.sent ∧
          (named = none → w = id)))) ∧
    (x.silenceEnd = none → Completes (exec (.silenceExpiry i) s) fun u => u.alm = s.alm ∧ Kept s u []) ∧
    (s.leeward = true → ∀ c ∈ [Instr.silenceExpiry i, .shelveExpiry i, .escalation i, .floodLeave, .heldAlfRelease, .chatterEnd i],
      Completes (exec c s) fun u => u.alm = s.alm ∧ Kept s u []) ∧
    (s.leeward = false → x.silenceEnd.isSome = true → x.state = asSilenced → Completes (exec (.silenceExpiry i) s) fun u =>
      (u.alarm i).state = asUnack ∧ (u.alarm i).silenceEnd = none) ∧
    (x.shelveEnd = none → Completes (exec (.shelveExpiry i) s) fun u => u.alm = s.alm ∧ Kept s u []) ∧
    (s.leeward = false → x.shelveEnd.isSome = true → x.state = asShelved → Completes (exec (.shelveExpiry i) s) fun u =>
      (u.alarm i).state = (if x.cond = false then asNormal else if (s.alarmCfg i).priority = 3 then asAck else asUnack) ∧
      (u.alarm i).shelveEnd = none) ∧
    (x.escalateEnd = none → Completes (exec (.escalation i) s) fun u => u.alm = s.alm ∧ Kept s u []) ∧
    (s.leeward = false → x.escalateEnd.isSome = true → x.state = asUnack → Completes (exec (.escalation i) s) fun u => u.alarm i = { x with
      escalateEnd := some (u.time + (s.alarmCfg i).escalate * 60000000000) }) ∧
    (s.windward = false → ∀ c ∈ [Instr.alcTimer, .hbtTimer], Completes (exec c s) fun u => u.sent = s.sent ∧ u.alm = s.alm ∧
      Kept s u []) ∧
    (s.windward = true → (Completes (exec .hbtTimer s) fun u => 
        u.sent = s.framesOn [0, 1] 4923 (s.alertTag ++ [wd s.stationNode]) ++ s.sent ∧
        u.clk = max s.clk (s.alm.hbtAt + 15000000000) ∧ u.mem = s.mem) ∧
      (Completes (exec .alcTimer s) fun u => u.clk = max s.clk (s.alm.alcAt + 7500000000) ∧ u.mem = s.mem ∧
        u.sent = s.framesOn [0, 1] 4921 (s.alertTag ++ s.alm.alarms.flatMap fun e =>
          if 1 ≤ e.2.state ∧ e.2.state ≤ 4 then [(s.alarmCfg e.1).ident, wd e.2.state] else []) ++ s.sent)) ∧
    (s.alm.flood = false ∨ s.alm.belowSince = none → Completes (exec .floodLeave s) fun u => u.alm = s.alm ∧ Kept s u []) ∧
    (s.leeward = false → s.alm.flood = true → s.alm.belowSince.isSome = true → Completes (exec .floodLeave s) fun u => u.alm.flood = false ∧
      u.alm.held = [] ∧ (∀ j ∈ u.alm.owed, j ∈ s.alm.held ∧ (s.alarm j).held = true) ∧
      (s.alm.held = [] → s.windward = true →
        u.outside = s.framesOn [0, 1] 492 (s.alertTag ++ [s.alm.squall.ident, 0, 0, 2, 1]) ++ s.outside)) ∧
    (s.alm.owed = [] → Completes (exec .heldAlfRelease s) fun u => u.alm = s.alm ∧ Kept s u []) ∧
    (∀ j js, s.leeward = false → s.alm.owed = j :: js → Completes (exec .heldAlfRelease s) fun u => u.alm.owed = js ∧ (u.alarm j).held = false ∧
      (u.alarm j).state = (s.alarm j).state) ∧
    (x.chattering = false ∨ x.absentSince = none → Completes (exec (.chatterEnd i) s) fun u => u.alm = s.alm ∧ Kept s u []) ∧
    (s.leeward = false → x.chattering = true → x.absentSince.isSome = true → Completes (exec (.chatterEnd i) s) fun u =>
      u.alarm i = { x with chattering := false, acts := [] }) ∧
    (∀ d : Fin 256,
      ((s.evDef d).capture = none → Completes (exec (.triggerCapture d) s) fun u => u.evr = s.evr ∧ Kept s u []) ∧
      (∀ c, (s.evDef d).capture = some c → s.capturesAt c.snap = [d.val] → wBits (s.evRec d) 27 23 0 = 0 → wBit (s.evRec d) 0 8 = false →
        s.evr.staging.length < 16384 → Completes (exec (.triggerCapture d) s) fun u => (u.evDef d).capture = none ∧
          ∃ w, u.evr.staging = s.evr.staging ++ [w] ∧ wAt w 1 = s.evr.seq + 1 ∧ wAt w 2 = hi32 c.time ∧ wAt w 3 = lo32 c.time ∧
            bits (wAt w 0) 31 16 = d)) ∧
    (s.evr.inbox = [] → Completes (exec (.recordMessage none) s) fun u => u.evr = s.evr ∧ Kept s u []) ∧
    (∀ m ms, s.evr.inbox = m :: ms → s.capturesAt m.time = [] → (∀ q, s.evrQueue = some q → (s.deliver q ⟨5, 0, m.bytes, 0, 0⟩).2 = false →
        Completes (exec (.recordMessage none) s) fun u => u.evr.inbox = s.evr.inbox ∧ u.evr.staging = s.evr.staging)) ∧
    (∀ m ms, s.evr.inbox = m :: ms → s.capturesAt m.time = [] → s.evrQueue = none →
      (s.evr.staging.length < 16384 → Completes (exec (.recordMessage none) s) fun u => u.evr.inbox = ms ∧
        u.evr.seq = s.evr.seq + 1 ∧ ∃ w, u.evr.staging = s.evr.staging ++ [w] ∧ wAt w 1 = s.evr.seq + 1 ∧
          wAt w 2 = hi32 m.time ∧ wAt w 3 = lo32 m.time) ∧
      (16384 ≤ s.evr.staging.length → Completes (exec (.recordMessage none) s) fun u => u.evr = { s.evr with
        inbox := ms, lost := s.evr.lost + 1 } ∧ u.isSet Fld.EVR_STAT_full = true)) ∧
    (∀ q : Fin 8192,
      (s.front q = none ∨ s.qConsumer q ≠ 0x24 → Completes (exec (.recordMessage (some q)) s) fun u => u.evr = s.evr ∧ u.qe = s.qe ∧
        Kept s u []) ∧
      (∀ d, s.front q = some d → s.qConsumer q = 0x24 → s.evr.inbox = [] → (∀ t, s.capturesAt t = []) →
        Completes (exec (.recordMessage (some q)) s) fun u =>
        (u.queue q).msgs = (s.queue q).msgs.filter (· != d) ∧ (s.leeward = true → u.evr = s.evr) ∧
        (s.leeward = false → s.evr.staging.length < 16384 → ∃ w, u.evr.staging = s.evr.staging ++ [w] ∧
          wAt w 1 = s.evr.seq + 1 ∧ bits (wAt w 0) 7 0 = 3))) ∧
    (s.isSet Fld.EVR_STAT_frozen = true ∨ s.isSet Fld.EVR_STAT_ready = false ∨ s.evr.staging = [] →
      Completes (exec .stagingWrite s) fun u => u.evr = s.evr ∧ Kept s u []) ∧
    (∀ r rs, s.isSet Fld.EVR_STAT_frozen = false → s.isSet Fld.EVR_STAT_ready = true → s.evr.staging = r :: rs → r.length = 31 →
      Completes (exec .stagingWrite s) fun u => u.evr.staging = rs ∧ u.reg Reg.EVR_SEQ = wAt r 1 ∧
        u.fld Fld.EVR_NEWEST_slot = (wAt r 1).toNat % 65536 ∧ u.words (evSlot (wAt r 1).toNat) 31 = r ∧
        u.word (evSlot (wAt r 1).toNat + 124) = 0x45565244) ∧
    (s.isSet Fld.EVR_STAT_frozen = false → Completes (exec .freezeTimeout s) fun u => u.evr = s.evr ∧ Kept s u []) ∧
    (s.isSet Fld.EVR_STAT_frozen = true → Completes (exec .freezeTimeout s) fun u => u.isSet Fld.EVR_STAT_frozen = false ∧
      u.evr.staging = s.evr.staging)

/-- Frames, PRP, serial sentences, classic blocks, network requests and the connection of mailbox 64. With no performance
counter enabled. A bad frame is counted; one with the wrong LAN or seen before is discarded; one for no enabled
service of its port is not delivered; a good one joins the receive queue that takes it, as do sentences and classic
blocks. The windward module sends the oldest message of an enabled sentence service; one whose networks are silent frees it unsent, and a
port that is off in BOOT or SELFTEST receives nothing. PRP supervision goes out on both LANs. A publication sends the
newest payload, in SAFE with the values at the stages in the places of its output points; a lapsed subscription is told once. A
network request acts at a slot marked for it, and the grant is sent. Mailbox 64 takes one connection, chained to the
enrolled key or over the service port in COMMISSION. A link change shows. (R96, R97, R253, R510, R513, R514, R515,
R519, R520, R522) -/
def Obligations.NetworkFramesAndConnections : Prop :=
  ∀ (s : State) (p : Fin 6) (k : Fin 64) (addr : Word) (bytes : List Byte) (t : Option PrpTag),
    let r := s.svcRec k
    let room := fun (q : Nat) => s.qEn q = true ∧ s.depth q + (s.queue q).reserved < s.qLimit q ∧ s.qe.desc = [] ∧ s.qe.small = [] ∧
      (∀ j ≤ 2, s.fld (useFld j (s.qOwner q)) < s.quotaOf j (s.qOwner q)) ∧ ∀ w < 32, s.isSet (Fld.QE_WATCH_en w) = false
    let joins := fun (u : State) (q : Nat) => (u.queue q).msgs = (s.queue q).msgs ++ [0]
    let gone := fun (u : State) (q d : Nat) => (u.queue q).msgs = (s.queue q).msgs.filter (· != d)
    s.pfc = [] → bytes.length ≤ 256 →
    (s.portOff p = true → ∀ c ∈ [Instr.serviceFrameReceive p k addr bytes true t, .sentence450Receive p k addr bytes true t,
        .classicBlockReceive p k addr [] bytes, .gustNetworkRequest p addr], Completes (exec c s) fun u => u.qe = s.qe ∧
          u.eth = s.eth ∧ u.sent = s.sent ∧ Kept s u []) ∧
    (s.portOff p = false → ∀ c ∈ [fun ok : Bool => Instr.serviceFrameReceive p k addr bytes ok t, fun ok : Bool => .sentence450Receive p k addr bytes ok t],
      (Completes (exec (c false) s) fun u => u.qe = s.qe ∧ u.eth = s.eth ∧ Kept s u [Reg.ETH_FRAMES p, Reg.ETH_RX p] ∧
        u.fld (Fld.ETH_RX_errors p) = satInc 16 (s.fld (Fld.ETH_RX_errors p))) ∧
      (∀ g, t = some g → p.val < 2 → g.lanB ≠ (p.val == 1) → Completes (exec (c true) s) fun u => u.qe = s.qe ∧
        u.fld Fld.ETH_PRP_wronglan = satInc 8 (s.fld Fld.ETH_PRP_wronglan)) ∧
      (∀ g τ, t = some g → p.val < 2 → g.lanB = (p.val == 1) → (g.source, g.seq, τ) ∈ s.eth.seen → s.time < τ + 400000000 →
        Completes (exec (c true) s) fun u => u.qe = s.qe ∧ u.fld Fld.ETH_PRP_dup = satInc 16 (s.fld Fld.ETH_PRP_dup)) ∧
      (s.netSilent = true ∨ svEn r = false ∨ p.val ∉ svcPorts r → Completes (exec (c true) s) fun u => u.qe = s.qe ∧ u.mem = s.mem ∧
        u.mode = s.mode) ∧
      (∀ q, t = none ∨ 2 ≤ p.val → s.netSilent = false → svEn r = true → p.val ∈ svcPorts r → rxQueue r = some q → room q →
        Completes (exec (c true) s) fun u => joins u q)) ∧
    (∀ b : Bool, let z := s.anyRec b k
      (txQueue z = none ∨ (∃ q, txQueue z = some q ∧ s.front q = none) → Completes (exec (.serviceFrameSend b k) s) fun u =>
        u.qe = s.qe ∧ u.sent = s.sent ∧ Kept s u []) ∧
      (∀ q d, txQueue z = some q → s.front q = some d →
        (s.netSilent = true ∨ svEn z = false → Completes (exec (.serviceFrameSend b k) s) fun u => gone u q d ∧ u.outside = s.outside) ∧
        (s.netSilent = false → svEn z = true → b = true → sendsSentences b z = true → (s.msgBytes d).length ≤ 82 →
          Completes (exec (.serviceFrameSend b k) s) fun u => gone u q d ∧ Emits s u (.ser (k % 4)) 522 (s.msgWords d)) ∧
        (s.netSilent = false → svEn z = true → b = true → sendsSentences b z = true → 82 < (s.msgBytes d).length →
          Completes (exec (.serviceFrameSend b k) s) fun u => gone u q d ∧ u.outside = s.outside) ∧
        (s.netSilent = false → svEn z = true → sendsSentences b z = false → Completes (exec (.serviceFrameSend b k) s) fun u =>
          u.qe = s.qe ∧ u.sent = s.sent ∧ Kept s u []) ∧
        (s.netSilent = false → svEn z = true → b = false → svProto z = 1 →
          let far := if s.msgUser d 1 = 0 then wAt z 3 else s.msgUser d 1
          Completes (exec (.serviceFrameSend b k) s) fun u => gone u q d ∧ u.outside = s.framesOn (svcPorts z) 515
            ([far, wAt z 4, wAt s.stationRec 1, wd (s.eth.lines + 1)] ++ s.msgWords d) ++ s.outside))) ∧
    (∀ a b : Bool, s.portOff 0 = false → Completes (exec (.prpSupervision a b) s) fun u => Kept s u [Reg.ETH_PRP, Reg.ETH_TX 0, Reg.ETH_TX 1] ∧
      u.sent = s.framesOn [0, 1] 510 [wd s.sys.node] ++ s.sent ∧
      (a = true → u.eth.lanA = some s.time ∧ u.isSet Fld.ETH_PRP_lana = true) ∧
      (a = false → s.eth.lanA = none → u.isSet Fld.ETH_PRP_lana = false) ∧
      (b = true → u.eth.lanB = some s.time ∧ u.isSet Fld.ETH_PRP_lanb = true) ∧
      (b = false → s.eth.lanB = none → u.isSet Fld.ETH_PRP_lanb = false)) ∧
    (∀ (n : Fin 4) (z : Option Nat), let w := s.serRec n
      let on := svEn w = true ∧ sendsSentences true w = true
      (∀ x, ¬ on → Completes (exec (.serialSentenceReceive n bytes x z) s) fun u => u.qe = s.qe ∧ u.tu = s.tu ∧ Kept s u []) ∧
      (on → s.busOff = false → (Completes (exec (.serialSentenceReceive n bytes 1 z) s) fun u => u.qe = s.qe ∧ u.tu = s.tu ∧
        Kept s u [Reg.SER_CNT n] ∧ u.fld (Fld.SER_CNT_check n) = satInc 16 (s.fld (Fld.SER_CNT_check n))) ∧
        Completes (exec (.serialSentenceReceive n bytes 2 z) s) fun u => u.qe = s.qe ∧ u.tu = s.tu ∧
          Kept s u [Reg.SER_CNT n] ∧ u.fld (Fld.SER_CNT_framing n) = satInc 8 (s.fld (Fld.SER_CNT_framing n))) ∧
      (on → bytes.length ≤ 82 → s.busOff = false → s.netSilent = true → Completes (exec (.serialSentenceReceive n bytes 0 z) s) fun u =>
        u.qe = s.qe ∧ u.tu = s.tu ∧ Kept s u [Reg.SER_RX n]) ∧
      (∀ q, on → bytes.length ≤ 82 → s.netSilent = false → rxQueue w = some q → room q →
        Completes (exec (.serialSentenceReceive n bytes 0 z) s) fun u => joins u q ∧
          (∀ y, z = some y → wBits s.timeRec 4 3 2 = n → u.tu.zda = some (y, s.time)))) ∧
    (let pub := svEn r = true ∧ svProto r = 4 ∧ wBit r 0 16 = true ∧ s.netSilent = false
     (txQueue r = none → Completes (exec (.classicPublishPeriod k) s) fun u => u.qe = s.qe ∧ u.sent = s.sent ∧ Kept s u []) ∧
     (∀ q, txQueue r = some q →
      (¬ pub → Completes (exec (.classicPublishPeriod k) s) fun u => u.outside = s.outside ∧ u.eth = s.eth) ∧
      (∀ b d, pub → b.length ≤ classicMax → (s.untaken q = [] ∧ (s.svc k).newest = some b ∨ s.untaken q = [d] ∧ s.msgBytes d = b) →
        (∀ e ∈ s.qe.desc ++ s.qe.small ++ s.qe.large, e.2 ≤ 64) →
        Completes (exec (.classicPublishPeriod k) s) fun u => (u.svc k).newest = some b ∧
          (u.svc k).sent = ((s.svc k).sent + 1) % 65536 ∧
          u.outside = s.framesOn (svcPorts r) 519 (s.classicBlock r (wBits r 4 31 16) (((s.svc k).sent + 1) % 65536)
            (s.safePayload k b)) ++ s.outside))) ∧
    (∀ head : List Word,
      let sub := svEn r = true ∧ svProto r = 4 ∧ wBit r 0 16 = false ∧ s.netSilent = false
      let good := wBits head 0 15 0 = 0x4A43 ∧ wBits head 0 23 16 = wBits r 0 18 17 ∧ wBits head 1 31 16 = wBits r 4 31 16 ∧
        wBits head 2 31 16 = bytes.length ∧ wAt head 3 = crc32c (wordBytes (head.take 3) ++ bytes) ∧
        (s.svc k).got ≠ some (wBits head 2 15 0)
      (¬ sub → Completes (exec (.classicBlockReceive p k addr head bytes) s) fun u => u.qe = s.qe ∧ u.eth = s.eth ∧
        Kept s u [Reg.ETH_FRAMES p]) ∧
      (sub → ¬ good → Completes (exec (.classicBlockReceive p k addr head bytes) s) fun u => u.qe = s.qe ∧ u.eth = s.eth ∧
        u.fld (Fld.ETH_RX_errors p) = satInc 16 (s.fld (Fld.ETH_RX_errors p))) ∧
      (∀ q, sub → good → rxQueue r = some q → room q → Completes (exec (.classicBlockReceive p k addr head bytes) s) fun u =>
        joins u q ∧ (u.svc k).got = some (wBits head 2 15 0) ∧ (u.svc k).lapsed = false) ∧
      (¬ sub ∨ (s.svc k).lapsed = true → Completes (exec (.classicSubscribeTimeout k) s) fun u => u.qe = s.qe ∧ u.eth = s.eth ∧
        Kept s u []) ∧
      (∀ q, sub → (s.svc k).lapsed = false → rxQueue r = some q → room q → Completes (exec (.classicSubscribeTimeout k) s) fun u =>
        joins u q ∧ (u.svc k).lapsed = true)) ∧
    (let slot := bits addr 5 0
     (s.netSilent = true → Completes (exec (.gustNetworkRequest p addr) s) fun u => u.ph = s.ph ∧ u.sent = s.sent ∧
      Kept s u [Reg.ETH_FRAMES p]) ∧
     (s.netSilent = false → wBit (s.reqRec slot) 0 21 = false → Completes (exec (.gustNetworkRequest p addr) s) fun u =>
      u.ph = s.ph ∧ u.sent = s.sent ∧ Kept s u [Reg.ETH_FRAMES p, Reg.ETH_RX p] ∧
      u.fld (Fld.ETH_RX_errors p) = satInc 16 (s.fld (Fld.ETH_RX_errors p))) ∧
     (s.netSilent = false → wBit (s.reqRec slot) 0 21 = true → Completes (exec (.gustNetworkRequest p addr) s) fun u =>
      (u.out (gustItem slot 0)).val = (wd (bits addr 15 8 + 256 * bits addr 16 16)).setWidth 64) ∧
     (s.servesStation = false ∨ wBit (s.reqRec k) 0 21 = false → Completes (exec (.grantBlockSend k) s) fun u => u.sent = s.sent ∧
      Kept s u []) ∧
     (s.servesStation = true → wBit (s.reqRec k) 0 21 = true → Completes (exec (.grantBlockSend k) s) fun u =>
      Kept s u [Reg.ETH_TX 0, Reg.ETH_TX 1] ∧ u.sent = s.framesOn [0, 1] 520 (s.blockWords 3 0xF002 ((s.eth.grants + 1) % 65536)
        (wordBytes [lo32 (s.point (gustItem k 1)).val.toNat])) ++ s.sent)) ∧
    (∀ (origin : Option (Fin 6)) (h : PliuzHello),
      let barred := (origin = none ∧ s.isSet Fld.PNL_USB_function = false) ∨ ∃ p, origin = some p ∧
        (p.val ∉ s.sys.pliuz ∨ s.mode = mBoot ∨ (s.mode = mSelftest ∧ 2 ≤ p.val))
      let ok := s.mode ≠ mSelftest ∧ h.suite.val < 2 ∧ h.p256 = true ∧
        (h.chained = true ∨ (s.nv.key = [] ∧ origin = none ∧ s.mode = mCommission))
      (barred ∨ ¬ ok → Completes (exec (.pliuzConnect true addr origin h) s) fun u => u.fw = s.fw ∧ Kept s u []) ∧
      (¬ barred → ok → s.fw.conn.isSome = true → Completes (exec (.pliuzConnect true addr origin h) s) fun u => u.fw = s.fw ∧
        u.evr.inbox.length = s.evr.inbox.length + 1 ∧ Kept s u []) ∧
      (¬ barred → ok → s.fw.conn = none → (s.mbox 64).held = [] → Completes (exec (.pliuzConnect true addr origin h) s) fun u =>
        u.fw.conn = some addr.toNat ∧ u.fw.connService = origin.isNone ∧ (u.mbox 64).rspSeq = 0 ∧
        (u.mbox 64).seqBase = none ∧ u.rspCount 64 = 0 ∧ u.fw.delivered.length = s.fw.delivered.length + s.rspCount 64 ∧
        Kept s u [Reg.PNL_USB, Reg.MBX_RSP_TAIL 64, Reg.MBX_STAT 64]) ∧
      (∀ c ∈ [Instr.pliuzConnect false addr origin h, .pliuzIdleTimeout], Completes (exec c s) fun u => u.fw.conn = none ∧
        u.fw.sessions = s.fw.sessions ∧ u.fw.stream = [] ∧ Kept s u [])) ∧
    (∀ (b : Bool) (v : Fin 8), Completes (exec (.ethLinkChange p b v) s) fun u => u.isSet (Fld.ETH_PSTAT_link p) = b ∧
      u.fld (Fld.ETH_PSTAT_speed p) = (if b then v.val % 4 else 0) ∧
      (b = false → SMap.get none p u.tu.announces = none ∧ SMap.get none p u.tu.seen = none))

/-- Modbus: connections, reads, writes, and requests of this module. With no performance counter enabled. A connection
opens while the station is served, the ninth is reset, and closes. A request that this module does not serve is not
answered. A read of a bad quantity answers exception 3, of an address without an entry exception 2, of an entry its
value, and input register 0 the station status. A write to an address without a writable entry answers exception 2, a
bad quantity exception 3, and a good one is one message for its queue and an answer. A client or master sends its
oldest message as one request and opens a transaction; the response, or the lack of one, closes it and reaches the
receive queue. (R514, R516, R517, R518) -/
def Obligations.ModbusServerAndClients : Prop :=
  ∀ (s : State) (f : ModbusFrom) (a n v : BitVec 16),
    let room := fun (q : Nat) => s.qEn q = true ∧ s.depth q + (s.queue q).reserved < s.qLimit q ∧ s.qe.desc = [] ∧ s.qe.small = [] ∧
      (∀ j ≤ 2, s.fld (useFld j (s.qOwner q)) < s.quotaOf j (s.qOwner q)) ∧ ∀ w < 32, s.isSet (Fld.QE_WATCH_en w) = false
    let joins := fun (u : State) (q : Nat) => (u.queue q).msgs = (s.queue q).msgs ++ [0]
    let answers := fun (u : State) (ws : List Word) => u.outside = (if f.ser then [⟨.ser (f.port % 4), 517, ws⟩]
      else s.framesOn (netPorts (f.port % 6)) 517 ws) ++ s.outside
    let ok := fun (u : State) (fc : Nat) (ws : List Word) => answers u (wd f.conn :: wd f.unit :: wd fc :: ws)
    let no := fun (u : State) (fc e : Nat) => answers u [wd f.conn, wd f.unit, wd (fc + 128), wd e]
    let absent := fun (t a : Nat) => s.mbEntry t a = none ∧ s.mbSecond t a = false
    s.pfc = [] → s.prt.lanes = [] →
    (∀ (p : Fin 6) (c : Word),
      (Completes (exec (.modbusConnect p c false) s) fun u => u.eth = { s.eth with conns := s.eth.conns.filter (· != c.toNat) } ∧
        u.sent = s.sent ∧ Kept s u []) ∧
      (s.mbListens p = false ∨ c.toNat ∈ s.eth.conns → Completes (exec (.modbusConnect p c true) s) fun u => u.eth = s.eth ∧
        u.sent = s.sent ∧ Kept s u []) ∧
      (s.mbListens p = true → c.toNat ∉ s.eth.conns → Completes (exec (.modbusConnect p c true) s) fun u =>
        Kept s u ((netPorts p).map Reg.ETH_TX) ∧
        if 8 ≤ s.eth.conns.length then u.eth.conns = s.eth.conns ∧ u.sent = s.framesOn (netPorts p) 516 [c] ++ s.sent
        else u.eth = { s.eth with conns := c.toNat :: s.eth.conns } ∧ u.sent = s.sent)) ∧
    (∀ e ∈ [(fun m : BitVec 16 => Instr.modbusReadCoils f a m, 1, 0, 2000), (fun m => .modbusReadDiscreteInputs f a m, 2, 1, 2000),
        (fun m => .modbusReadHoldingRegisters f a m, 3, 3, 125), (fun m => .modbusReadInputRegisters f a m, 4, 2, 125)],
      let fc : Nat := e.2.1
      let t : Nat := e.2.2.1
      (s.mbServed f = false → Completes (exec (e.1 n) s) fun u => u.sent = s.sent ∧ u.qe = s.qe ∧ u.mem = s.mem) ∧
      (s.mbServed f = true → n = 0 ∨ e.2.2.2 < n.toNat ∨ 65536 < a.toNat + n.toNat → Completes (exec (e.1 n) s) fun u =>
        no u fc 3 ∧ u.qe = s.qe ∧ u.mem = s.mem) ∧
      (s.mbServed f = true → absent t a.toNat → ¬ (t = 2 ∧ a = 0) → Completes (exec (e.1 1) s) fun u => no u fc 2 ∧ u.qe = s.qe) ∧
      (∀ r, s.mbServed f = true → s.mbEntry t a.toNat = some r → (t < 2 ∨ mbWide r = false) → ¬ (t = 2 ∧ a = 0) →
        Completes (exec (e.1 1) s) fun u => ok u fc [wd (mbValue t (s.modbusValue (wAt r 1).toNat))] ∧ u.qe = s.qe ∧ u.mem = s.mem)) ∧
    (s.mbServed f = true → Completes (exec (.modbusReadInputRegisters f 0 1) s) fun u => ok u 4 [wd s.statusByte]) ∧
    (∀ b : Bool, ∀ e ∈ [(Instr.modbusWriteSingleCoil f a b, 5, 0, [wd (b1 b)]), (.modbusWriteSingleRegister f a v, 6, 3, [wd v.toNat]),
        (.modbusWriteMultipleCoils f a [b], 15, 0, [1]), (.modbusWriteMultipleRegisters f a [v], 16, 3, [1])],
      let fc : Nat := e.2.1
      let t : Nat := e.2.2.1
      (s.mbServed f = false → Completes (exec e.1 s) fun u => u.sent = s.sent ∧ u.qe = s.qe ∧ u.mem = s.mem) ∧
      (s.mbServed f = true → absent t a.toNat ∨ (∃ r, s.mbEntry t a.toNat = some r ∧ mbQueue r = none) →
        Completes (exec e.1 s) fun u => no u fc 2 ∧ u.qe = s.qe ∧ u.mem = s.mem) ∧
      (∀ r q, s.mbServed f = true → s.mbEntry t a.toNat = some r → (t < 2 ∨ mbWide r = false) → mbQueue r = some q → room q →
        Completes (exec e.1 s) fun u => joins u q ∧ ok u fc (wd a.toNat :: e.2.2.2))) ∧
    (s.mbServed f = true → ∀ e ∈ [(Instr.modbusWriteMultipleCoils f a [], 15), (.modbusWriteMultipleRegisters f a [], 16)],
      Completes (exec e.1 s) fun u => no u e.2 3 ∧ u.qe = s.qe) ∧
    (s.mbServed f = false → Completes (exec (.modbusReadWriteRegisters f a n v [v]) s) fun u => u.sent = s.sent ∧ u.qe = s.qe) ∧
    (s.mbServed f = true → n = 0 ∨ 125 < n.toNat ∨ 65536 < a.toNat + n.toNat →
      Completes (exec (.modbusReadWriteRegisters f a n v [v]) s) fun u => no u 23 3 ∧ u.qe = s.qe) ∧
    (∀ r w q, s.mbServed f = true → s.mbEntry 3 v.toNat = some w → mbWide w = false → mbQueue w = some q → room q →
      s.mbEntry 3 a.toNat = some r → mbWide r = false → Completes (exec (.modbusReadWriteRegisters f a 1 v [n]) s) fun u =>
        joins u q ∧ ok u 23 [wd (s.modbusValue (wAt r 1).toNat % 65536)]) ∧
    (∀ (b : Bool) (k : Fin 64) (p : Fin 6) (bytes : List Byte) (g : Bool),
      let z := s.anyRec b k
      let i := svcIndex b k
      (txQueue z = none ∨ (∃ q, txQueue z = some q ∧ (s.front q = none ∨
        (s.netSilent = false ∧ (isMaster b z = false ∨ (s.svc i).opened.isSome = true)))) →
        Completes (exec (.modbusClientRequest b k) s) fun u => u.qe = s.qe ∧ u.eth = s.eth ∧ u.sent = s.sent ∧ Kept s u []) ∧
      (∀ q d, txQueue z = some q → s.front q = some d →
        (s.netSilent = true → Completes (exec (.modbusClientRequest b k) s) fun u => u.outside = s.outside ∧ u.eth = s.eth ∧
          (u.queue q).msgs = (s.queue q).msgs.filter (· != d)) ∧
        (s.netSilent = false → isMaster b z = true → (s.svc i).opened = none →
          Completes (exec (.modbusClientRequest b k) s) fun u => (u.queue q).msgs = (s.queue q).msgs.filter (· != d) ∧
            (u.svc i).opened = some (bits (s.msgUser d 1) 7 0, s.time) ∧
            let ws := wd (bits (s.msgUser d 1) 7 0) :: s.msgWords d
            u.outside = (if b then [⟨.ser (k % 4), 518, ws⟩] else s.framesOn (svcPorts z) 518 ws) ++ s.outside)) ∧
      ((s.svc i).opened = none → (Completes (exec (.modbusResponse b k p bytes g) s) fun u => u.qe = s.qe ∧ u.eth = s.eth) ∧
        Completes (exec (.modbusResponseTimeout b k) s) fun u => u.qe = s.qe ∧ u.eth = s.eth ∧ Kept s u []) ∧
      (∀ o, (s.svc i).opened = some o →
        (g = false → Completes (exec (.modbusResponse b k p bytes g) s) fun u => u.qe = s.qe ∧ u.eth = s.eth) ∧
        ((if b then s.busOff else s.portOff p) = true → Completes (exec (.modbusResponse b k p bytes g) s) fun u => u.qe = s.qe ∧
          u.eth = s.eth ∧ Kept s u []) ∧
        (g = true → s.netSilent = true → (if b then s.busOff else s.portOff p) = false →
          Completes (exec (.modbusResponse b k p bytes g) s) fun u => (u.svc i).opened = none ∧ u.qe = s.qe) ∧
        (∀ q, g = true → s.netSilent = false → rxQueue z = some q → room q → bytes.length ≤ 256 →
          Completes (exec (.modbusResponse b k p bytes g) s) fun u => (u.svc i).opened = none ∧ joins u q) ∧
        (∀ q, s.netSilent = false → rxQueue z = some q → room q → Completes (exec (.modbusResponseTimeout b k) s) fun u =>
          (u.svc i).opened = none ∧ joins u q ∧ s.clk ≤ u.clk)))

/-- Reception, transmission, errors, bus-off, detection and reference messages of the CAN ports. An enabled counter of a
port's frames goes up by one with a valid one. The rest is with no performance counter enabled and no report queue. A port that is off or not on the bus takes no frame; a valid frame is counted and
delivered through the first filter that matches, a bad one counts as an error, and a leeward port only listens. A
buffer takes the oldest message of its queue; at bus idle the port offers the loaded frame of lowest arbitration
field; each outcome ends the buffer or leaves it waiting. Bus-off empties the buffers; the port returns or is held;
recovery makes it error-active. A detecting port counts valid frames and moves from candidate to candidate. A time
master loads its reference message at each instant, and drops a late one. (R529, R530, R531, R532, R533, R534, R535,
R536, R537, R539, R581) -/
def Obligations.CanPorts : Prop :=
  ∀ (s : State) (p : Fin 4),
    let st := s.canState p
    let r := s.canRec p
    let x := s.canPort p
    let room := fun (q : Nat) => s.qEn q = true ∧ s.depth q + (s.queue q).reserved < s.qLimit q ∧ s.qe.desc = [] ∧ s.qe.small = [] ∧
      (∀ j ≤ 2, s.fld (useFld j (s.qOwner q)) < s.quotaOf j (s.qOwner q)) ∧ ∀ w < 32, s.isSet (Fld.QE_WATCH_en w) = false
    let up := fun (u : State) (f : Fld) => u.fld f = satInc f.width (s.fld f)
    let on := st = csActive ∨ st = csPassive
    let still := fun (u : State) => u.can = s.can ∧ u.qe = s.qe ∧ u.sent = s.sent ∧ Kept s u []
    (∀ (c : Nat) (y : PfcCnt) (f : CanRx), s.pfc = [(c, y)] → y.cls = 16 → y.arg = p.val → y.level = false →
      y.last ≠ s.clk + 1 → s.isSet ⟨Reg.PRT_LOCK, 0, 0⟩ = true → st = csLeeward → f.err = 0 →
      Completes (exec (.canFrameReceive p f) s) fun u => ∃ z, u.pfc = [(c, z)] ∧ z.count = (y.count + 1) % 2 ^ 64 ∧ u.qe = s.qe) ∧
    (s.pfc = [] → s.prt.lanes = [] → caReport r = none → (∀ e ∈ s.qe.desc ++ s.qe.small ++ s.qe.large, e.2 ≤ 64) →
    (∀ f : CanRx,
      (st = csOff ∨ st = csReturning ∨ st = csHeld → Completes (exec (.canFrameReceive p f) s) fun u => still u) ∧
      (st = csLeeward → f.err = 0 → Completes (exec (.canFrameReceive p f) s) fun u => u.qe = s.qe ∧ u.can = s.can ∧
        Kept s u [Reg.CAN_RXCNT p] ∧ u.fld (Fld.CAN_RXCNT_rx p) = (s.fld (Fld.CAN_RXCNT_rx p) + 1) % 2 ^ 32) ∧
      (on → f.err = 1 → Completes (exec (.canFrameReceive p f) s) fun u => up u (Fld.CAN_ERRCNT_crc p) ∧
        up u (Fld.CAN_STAT_rec p) ∧ u.qe = s.qe) ∧
      (on → f.err = 0 → s.canFilter p f.user0 = none → Completes (exec (.canFrameReceive p f) s) fun u =>
        up u (Fld.CAN_DROP_unmatched p) ∧ u.qe = s.qe ∧ u.fld (Fld.CAN_RXCNT_rx p) = (s.fld (Fld.CAN_RXCNT_rx p) + 1) % 2 ^ 32) ∧
      (∀ k, on → f.err = 0 → s.canFilter p f.user0 = some k →
        let q := wBits (s.rec_ 0x11 (0x100 + 0x40 * p + k)) 2 12 0
        f.data.length ≤ 64 → room q → Completes (exec (.canFrameReceive p f) s) fun u => (u.queue q).msgs = (s.queue q).msgs ++ [0]) ∧
      (on → f.err = 0 → caMaster r = true → bits f.user0 29 0 = caRefWord r →
        Completes (exec (.canFrameReceive p f) s) fun u => up u (Fld.CAN_REF_conflict p) ∧
          u.sys.alerts.contains (alertId 537 p) = true) ∧
      (st = csDetecting → s.fld (Fld.CAN_ABD_state p) = 1 →
        (f.err = 3 → Completes (exec (.canFrameReceive p f) s) fun u => up u (Fld.CAN_ABD_dataerr p) ∧ u.can = s.can) ∧
        (f.err ≠ 3 → f.err ≠ 0 → Completes (exec (.canFrameReceive p f) s) fun u => (u.canPort p).run = 0 ∧ Kept s u []) ∧
        (f.err = 0 → x.run < 3 → Completes (exec (.canFrameReceive p f) s) fun u => (u.canPort p).run = x.run + 1 ∧ Kept s u []) ∧
        (f.err = 0 → 3 ≤ x.run → Completes (exec (.canFrameReceive p f) s) fun u => u.fld (Fld.CAN_ABD_state p) = 2 ∧
          u.fld (Fld.CAN_ABDRATE_rate p) = wBits r (8 + s.fld (Fld.CAN_ABD_cand p)) 20 0))) ∧
    (∀ b : Fin 3, let q := if b.val < 2 then caTx r else if caMaster r then none else caUrgent r
      (q = none ∨ (∃ n, q = some n ∧ s.front n = none) → Completes (exec (.canBufferLoad p b) s) fun u => still u) ∧
      (∀ n d, q = some n → s.front n = some d →
        (s.netSilent = true → Completes (exec (.canBufferLoad p b) s) fun u => u.can = s.can ∧
          (u.queue n).msgs = (s.queue n).msgs.filter (· != d)) ∧
        (s.netSilent = false → ¬ on ∨ (s.canBuf p b).isSome = true → Completes (exec (.canBufferLoad p b) s) fun u => still u) ∧
        (s.netSilent = false → on → s.canBuf p b = none →
          let good := canSendable r (s.msgUser d 0) (s.msgUser d 1) (s.msgBytes d).length
          Completes (exec (.canBufferLoad p b) s) fun u => (u.queue n).msgs = (s.queue n).msgs.filter (· != d) ∧
            (good = true → u.canBuf p b = some ⟨s.msgUser d 0, s.msgUser d 1, s.msgBytes d, some d, bits (s.descWord d 3) 15 0, s.time,
              x.next, 1⟩) ∧
            (good = false → u.canBuf p b = none ∧ up u (Fld.CAN_TXFAIL_busoff p))))) ∧
    (let begun := fun (u : State) (b : Nat) (f : CanFrame) => u.canBuf p b = some { f with phase := 2 } ∧
        Sends s u (.can p) 533 ([f.user0, f.user1, wd f.data.length] ++ bytesWords ((f.data.length + 3) / 4) f.data)
     (¬ on → st ≠ csIntegrating → Completes (exec (.canArbitrationOffer p) s) fun u => still u) ∧
     (on → (∃ b f, b < 3 ∧ s.canBuf p b = some f ∧ f.phase = 2) ∨ (∀ b < 3, s.canBuf p b = none) →
      Completes (exec (.canArbitrationOffer p) s) fun u => still u) ∧
     (∀ b f, on → b < 3 → s.canBuf p b = some f → f.phase ≠ 2 → (∀ j < 3, j ≠ b → s.canBuf p j = none) →
      Completes (exec (.canArbitrationOffer p) s) fun u => begun u b f) ∧
     (∀ b f, on → caOrder r = false → b < 3 → s.canBuf p b = some f → f.phase ≠ 2 →
      (∀ j g, j < 3 → j ≠ b → s.canBuf p j = some g → g.phase ≠ 2 ∧ arbField f < arbField g) →
      Completes (exec (.canArbitrationOffer p) s) fun u => begun u b f)) ∧
    (∀ (b res : Fin 3) (ack : Bool) (age : BitVec 32) (tdc : BitVec 8),
      (s.canBuf p b = none ∨ (∃ f, s.canBuf p b = some f ∧ f.phase ≠ 2) → Completes (exec (.canFrameOutcome p b res ack age tdc) s)
        fun u => still u) ∧
      (∀ f, s.canBuf p b = some f → f.phase = 2 →
        let once := bit f.user1 2 && f.desc.isSome
        (Completes (exec (.canFrameOutcome p b 0 ack age tdc) s) fun u => u.canBuf p b = none ∧
          u.fld (Fld.CAN_TXCNT_tx p) = (s.fld (Fld.CAN_TXCNT_tx p) + 1) % 2 ^ 32 ∧
          u.fld (Fld.CAN_STAT_tec p) = s.fld (Fld.CAN_STAT_tec p) - 1 ∧
          (f.desc = none → u.fld (Fld.CAN_REF_seq p) = (s.fld (Fld.CAN_REF_seq p) + 1) % 256 ∧
            (u.canPort p).sof = s.time - age.toNat ∧ (u.canPort p).restart = false)) ∧
        (Completes (exec (.canFrameOutcome p b 1 ack age tdc) s) fun u =>
          (once = true → u.canBuf p b = none ∧ up u (Fld.CAN_TXFAIL_lost p)) ∧
          (once = false → u.canBuf p b = some { f with phase := 3 })) ∧
        (s.fld (Fld.CAN_STAT_tec p) ≤ 247 → Completes (exec (.canFrameOutcome p b 2 ack age tdc) s) fun u =>
          u.fld (Fld.CAN_STAT_tec p) = s.fld (Fld.CAN_STAT_tec p) + (if ack = true ∧ st = csPassive then 0 else 8) ∧
          up u (if ack then Fld.CAN_ERRCNT_ack p else Fld.CAN_ERRCNT_frame p) ∧
          (once = true → u.canBuf p b = none ∧ up u (Fld.CAN_TXFAIL_error p)) ∧
          (once = false → u.canBuf p b = some { f with phase := 3 })) ∧
        (on → ¬ (ack = true ∧ st = csPassive) → 247 < s.fld (Fld.CAN_STAT_tec p) → Completes (exec (.canFrameOutcome p b 2 ack age tdc) s) fun u =>
          u.canBuf p b = none ∧ (u.canState p = csReturning ∨ u.canState p = csHeld))) ∧
      ((∀ f, s.canBuf p b = some f → f.desc = none) → Completes (exec (.canTransmitTimeout p b) s) fun u => still u) ∧
      (∀ f, s.canBuf p b = some f → f.desc.isSome = true → Completes (exec (.canTransmitTimeout p b) s) fun u =>
        u.canBuf p b = none ∧ up u (Fld.CAN_TXFAIL_timeout p) ∧ s.clk ≤ u.clk)) ∧
    (¬ on → st ≠ csIntegrating → Completes (exec (.canBusOff p) s) fun u => still u) ∧
    (on ∨ st = csIntegrating →
      let offs := s.time :: x.offs.filter fun t => decide (s.time < t + 60000000000)
      Completes (exec (.canBusOff p) s) fun u => (∀ b < 3, u.canBuf p b = none) ∧ up u (Fld.CAN_ERRCNT_busoff p) ∧
        (u.canPort p).offs = offs ∧ u.sys.alerts.contains (alertId 535 p) = true ∧
        u.canState p = if caStorm r < offs.length ∨ caReturn r = false then csHeld else csReturning) ∧
    (st ≠ csReturning → ∀ c ∈ [Instr.canRecoveryStart p, .canRecoveryComplete p], Completes (exec c s) fun u => still u) ∧
    (st = csReturning → (Completes (exec (.canRecoveryStart p) s) fun u => (u.canPort p).recovering = true ∧
        u.canState p = csReturning ∧ s.clk ≤ u.clk) ∧
      (x.recovering = false → Completes (exec (.canRecoveryComplete p) s) fun u => still u) ∧
      (x.recovering = true → Completes (exec (.canRecoveryComplete p) s) fun u => u.canState p = csActive ∧
        u.fld (Fld.CAN_STAT_tec p) = 0 ∧ u.fld (Fld.CAN_STAT_rec p) = 0 ∧ (u.canPort p).recovering = false ∧
        u.sys.alerts.contains (alertId 535 p) = false)) ∧
    (let ex := caPex r = true ∨ caFd r = true
     (st = csOff ∨ st = csReturning ∨ st = csHeld → Completes (exec (.canProtocolException p) s) fun u => still u) ∧
     (on → ex → Completes (exec (.canProtocolException p) s) fun u => up u (Fld.CAN_PEX_pex p) ∧ u.canState p = csIntegrating) ∧
     (on → ¬ ex → Completes (exec (.canProtocolException p) s) fun u => up u (Fld.CAN_ERRCNT_frame p) ∧ up u (Fld.CAN_STAT_rec p)) ∧
     (st = csDetecting → ¬ ex → Completes (exec (.canProtocolException p) s) fun u => (u.canPort p).run = 0 ∧ Kept s u [])) ∧
    (st ≠ csDetecting ∨ s.fld (Fld.CAN_ABD_state p) ≠ 1 → Completes (exec (.canDetectionDwell p) s) fun u => still u) ∧
    (st = csDetecting → s.fld (Fld.CAN_ABD_state p) = 1 →
      let used := (upFrom 0 8).filter fun i => wBits r (8 + i) 20 0 != 0
      let next := used.find? fun i => decide (s.fld (Fld.CAN_ABD_cand p) < i)
      (∀ i, next = some i → Completes (exec (.canDetectionDwell p) s) fun u => u.fld (Fld.CAN_ABD_cand p) = i ∧
        (u.canPort p).run = 0) ∧
      (next = none → Completes (exec (.canDetectionDwell p) s) fun u => u.fld (Fld.CAN_ABD_cand p) = used.headD 0 ∧
        up u (Fld.CAN_ABD_passes p))) ∧
    (caMaster r = false ∨ caPeriod r = 0 → Completes (exec (.canReferenceInstant p) s) fun u => still u) ∧
    (caMaster r = true → caPeriod r ≠ 0 → on ∨ st = csIntegrating → s.canBuf p 2 = none →
      Completes (exec (.canReferenceInstant p) s) fun u => s.clk ≤ u.clk ∧ ∃ f, u.canBuf p 2 = some f ∧ f.desc = none ∧
        f.phase = 1 ∧ f.user0 = wd (caRefWord r) ∧ f.data.length = 8 ∧
        f.data.head? = some (BitVec.ofNat 8 (s.fld (Fld.CAN_REF_seq p) + 1)) ∧ f.loaded = u.time) ∧
    (caMaster r = true → (s.canBuf p 2).isSome = true → Completes (exec (.canReferenceInstant p) s) fun u => u.can = s.can ∧
      u.qe = s.qe ∧ u.sent = s.sent) ∧
    ((∀ f, s.canBuf p 2 = some f → f.desc.isSome = true ∨ f.phase = 2) → Completes (exec (.canReferenceLate p) s) fun u => still u) ∧
    (∀ f, s.canBuf p 2 = some f → f.desc = none → f.phase ≠ 2 → Completes (exec (.canReferenceLate p) s) fun u =>
      u.canBuf p 2 = none ∧ up u (Fld.CAN_REF_late p) ∧ s.clk ≤ u.clk))

/-- Frames, the charge pump, wear, keys and chords, the slider and the service port. FRAME_BOUNDARY ends a frame, whose
lit pixels wear while the columns are driven, and begins the next on the image drawn and on what waited. A pump fault
switches pump and columns off, for good with a second within 60 s; PUMP_RESTART and PUMP_RAMP_END move its state. One
key pressed alone is taken; a second is part of a chord or is ignored; a release ends both; the chords and the start
mode key act while they are held. The slider reports position and zone, not under a key, nor when wet. Dimming is
asked for outside SAFE; the pixel shift goes on by one; the hourly read moves wear to the history; new gains wait. A
plug attaches and detaches. (R48, R543, R545, R546, R547, R548, R549, R550, R551, R555) -/
def Obligations.FrontPanel : Prop :=
  ∀ s : State,
    let same := fun u : State => u.pnl = { s.pnl with lamps := u.pnl.lamps }
    (∀ image : List (Fin 16384 × Fin 16),
      let px := image.map fun e => (e.1.val, e.2.val)
      (s.shadow = [] → Completes (exec (.frameBoundary image) s) fun u => u.pnl.image = shiftImage s.pnl.shift px ∧
        u.pnl.gainPend = [] ∧ (s.driving = false → u.pnl.lastRow = [] ∧ u.pnl.acc = s.pnl.acc) ∧
        u.fld Fld.PNL_STAT_frames = (s.fld Fld.PNL_STAT_frames + 1) % 65536 ∧ u.mem = s.mem ∧ u.mode = s.mode) ∧
      (∀ k g, s.pnl.gainPend = [(k, g)] → s.shadow = [] → Completes (exec (.frameBoundary image) s) fun u =>
        SMap.get 128 k u.pnl.gains = g ∧ ∀ j, j ≠ k → SMap.get 128 j u.pnl.gains = SMap.get 128 j s.pnl.gains) ∧
      (∀ k v, s.driving = true → s.pnl.image = [(k, v)] → v ≠ 0 → k / 256 < s.fld Fld.PNL_TIMING_mux + 1 → s.shadow = [] →
        Completes (exec (.frameBoundary image) s) fun u => SMap.get 0 k u.pnl.acc =
            SMap.get 0 k s.pnl.acc + min (s.pulseAsked k v) (s.pulseRoom k v) * s.fld Fld.PNL_DRIVE_iseg ∧
          (s.pulseRoom k v < s.pulseAsked k v → u.fld Fld.PNL_CNT_clip = satInc 16 (s.fld Fld.PNL_CNT_clip)))) ∧
    (let st := s.fld Fld.PNL_STAT_state
     let again := match s.pnl.faultAt with | some t => decide (s.time < t + 60000000000) | none => false
     (st ≠ 1 → st ≠ 2 → Completes (exec .pumpFault s) fun u => same u ∧ u.evr = s.evr ∧ Kept s u []) ∧
     (st = 1 ∨ st = 2 → Completes (exec .pumpFault s) fun u => u.fld Fld.PNL_STAT_state = 3 ∧ u.pnl.faultAt = some s.time ∧
      u.pnl.barred = again ∧ (again = true → u.sys.alerts.contains (alertId 545 0) = true) ∧
      u.evr.inbox.length = s.evr.inbox.length + 1 ∧ Kept s u [Reg.PNL_STAT]) ∧
     (st ≠ 3 ∨ s.pnl.barred = true ∨ s.pnl.faultAt = none → Completes (exec .pumpRestart s) fun u => u.pnl.faultAt = s.pnl.faultAt ∧
      Kept s u []) ∧
     (∀ t, st = 3 → s.pnl.barred = false → s.pnl.faultAt = some t → Completes (exec .pumpRestart s) fun u =>
      u.fld Fld.PNL_STAT_state = 1 ∧ u.clk = (s.runUntil (t + 1000000000)).clk) ∧
     (st ≠ 1 → Completes (exec .pumpRampEnd s) fun u => Kept s u []) ∧
     (st = 1 → Completes (exec .pumpRampEnd s) fun u => u.fld Fld.PNL_STAT_state = 2 ∧ u.mem = s.mem ∧
      (∀ t, s.pnl.rampAt = some t → u.clk = max s.clk (t + 5000000)) ∧ (s.prt.lanes = [] → Kept s u [Reg.PNL_STAT]))) ∧
    (∀ (keys : BitVec 6) (a : Fin 2048) (m : Bool) (k : Fin 6),
      let press := exec (.keyPress keys a m) s
      ((∀ j : Fin 6, keys.getLsbD j = true → (s.fld Fld.PNL_KEYS_down).testBit j = true) → Completes press fun u => same u ∧
        u.alm = s.alm ∧ Kept s u []) ∧
      (keys = BitVec.ofNat 6 (2 ^ k.val) → s.fld Fld.PNL_KEYS_down = 0 → s.pnl.first = none → s.mode ≠ mSelftest →
        k.val ≠ keyEnter → Completes press fun u => u.pnl.first = some k.val ∧ u.pnl.chord = none ∧
          u.fld Fld.PNL_KEYS_down = 2 ^ k.val ∧ u.fbit Fld.PNL_KEYS_taken k = true ∧ u.isSet Fld.PNL_SLIDER_touch = false ∧
          u.alm.cmds = (if k.val = keyAck then s.alm.cmds ++ [⟨a, acAck, 1, 0⟩] else s.alm.cmds) ∧ u.mode = s.mode) ∧
      (∀ f, keys = BitVec.ofNat 6 (2 ^ k.val) → (s.fld Fld.PNL_KEYS_down).testBit k = false → s.pnl.first = some f →
        s.pnl.chord = none →
        (chordOf f k = none → Completes press fun u => u.pnl.first = some f ∧ u.pnl.chord = none ∧ u.alm = s.alm ∧
          u.fld Fld.PNL_CNT_ignored = (if s.fld Fld.PNL_CNT_ignored + 1 < 256 then s.fld Fld.PNL_CNT_ignored + 1 else 255)) ∧
        (∀ y, chordOf f k = some y → Completes press fun u => u.pnl.first = some f ∧ u.pnl.chord = some y ∧ u.alm = s.alm ∧
          u.fbit Fld.PNL_KEYS_taken k = true)) ∧
      (Completes (exec (.keyRelease k) s) fun u => (u.fld Fld.PNL_KEYS_down).testBit k = false ∧ Kept s u [Reg.PNL_KEYS] ∧
        (s.pnl.first = some k.val → u.pnl.first = none ∧ u.pnl.chord = none) ∧
        (s.pnl.first ≠ some k.val → s.pnl.chord = some k.val → u.pnl.first = s.pnl.first ∧ u.pnl.chord = none))) ∧
    (∀ b : Bool, let k := if b then keyUp else keyDown
      (s.pnl.first = some k → s.pnl.chord = none → s.mode ≠ mSelftest → Completes (exec (.keyRepeat b) s) fun u =>
        u.fbit Fld.PNL_KEYS_taken k = true ∧ u.pnl.first = some k ∧ u.alm = s.alm ∧ u.clk = max s.clk s.pnl.keyNext) ∧
      (s.pnl.first ≠ some k ∨ s.pnl.chord.isSome = true → Completes (exec (.keyRepeat b) s) fun u => same u ∧ Kept s u [])) ∧
    (s.pnl.chord = some keyBack → Completes (exec .chordPanelReset s) fun u => ResetBy s u rcPanel) ∧
    (s.pnl.chord ≠ some keyBack → Completes (exec .chordPanelReset s) fun u => u.mode = s.mode ∧ u.sys = s.sys ∧ Kept s u []) ∧
    (s.pnl.chord ≠ some keyEnter ∨ s.mode ≠ mBoot ∨ s.sys.wait ≠ .witnessAbsent → Completes (exec .chordWitnessOverride s) fun u =>
      u.mode = s.mode ∧ u.sys = s.sys ∧ Kept s u []) ∧
    (s.pnl.chord = some keyEnter → s.mode = mBoot → s.sys.wait = .witnessAbsent → s.nv.service = false → s.sys.commReq = true →
      s.highClaim.toNat < 0xFFFFFFFE → Completes (exec .chordWitnessOverride s) fun u => u.nv.claim = s.highClaim + 1 ∧ u.reg Reg.RED_CLAIM = s.highClaim + 1 ∧
        u.mode = mCommission) ∧
    (let shown := s.pnl.first = some keyMenu ∧ s.pnl.chord = none ∧ s.mode = mBoot ∧ s.sys.startShown = true ∧ s.sys.commReq = false
     (¬ shown → Completes (exec .startModeOverride s) fun u => u.sys = s.sys ∧ Kept s u []) ∧
     (shown → Completes (exec .startModeOverride s) fun u => u.sys = { s.sys with commReq := true } ∧
      u.evr.inbox.length = s.evr.inbox.length + 1 ∧ Kept s u [])) ∧
    (∀ q w : Fin 1024,
      (Completes (exec (.sliderTouch false q w) s) fun u => u.isSet Fld.PNL_SLIDER_touch = false ∧
        u.pnl = { s.pnl with blocked := false, wet := false, lamps := u.pnl.lamps } ∧ Kept s u [Reg.PNL_SLIDER]) ∧
      (s.fld Fld.PNL_KEYS_down ≠ 0 ∨ s.pnl.blocked = true → Completes (exec (.sliderTouch true q w) s) fun u =>
        u.isSet Fld.PNL_SLIDER_touch = false ∧ same u ∧ Kept s u [Reg.PNL_SLIDER]) ∧
      (s.fld Fld.PNL_KEYS_down = 0 → s.pnl.blocked = false →
        (192 < w.val → Completes (exec (.sliderTouch true q w) s) fun u => u.isSet Fld.PNL_SLIDER_touch = false ∧ u.pnl.wet = true ∧
          u.fld Fld.PNL_CNT_wet = (if s.pnl.wet then s.fld Fld.PNL_CNT_wet else satInc 8 (s.fld Fld.PNL_CNT_wet))) ∧
        (w.val ≤ 192 → Completes (exec (.sliderTouch true q w) s) fun u => u.isSet Fld.PNL_SLIDER_touch = true ∧
          u.fld Fld.PNL_SLIDER_pos = q ∧ (s.isSet Fld.PNL_SLIDER_touch = false → u.fld Fld.PNL_SLIDER_zone = q.val / 64) ∧
          (s.isSet Fld.PNL_SLIDER_touch = true → s.fld Fld.PNL_SLIDER_zone * 64 < q.val + 8 →
            q.val < (s.fld Fld.PNL_SLIDER_zone + 1) * 64 + 8 → u.fld Fld.PNL_SLIDER_zone = s.fld Fld.PNL_SLIDER_zone)))) ∧
    (s.mode = mSafe ∨ s.pnl.base.isSome = true → Completes (exec .dimTimeout s) fun u => same u ∧ Kept s u []) ∧
    (s.mode ≠ mSafe → s.pnl.base = none → Completes (exec .dimTimeout s) fun u => u.isSet Fld.PNL_STAT_dimmed = true ∧
      (s.prt.lanes = [] → Kept s u [Reg.PNL_STAT]) ∧ u.clk = max s.clk (s.pnl.usedAt + s.dimTime * 15000000000) ∧
      ∃ i, u.pnl.base = some i ∧ i < 256 ∧
        ∃ w, u.shadowOf Reg.PNL_DRIVE .frm = some w ∧ bits w 7 0 = i * s.dimLevel / 100 % 256) ∧
    (Completes (exec .pixelShift s) fun u => u.pnl.shift = (s.pnl.shift + 1) % 8 ∧ u.pnl.image = s.pnl.image ∧ Kept s u []) ∧
    (∀ k v, s.pnl.acc = [(k, v)] → Completes (exec .wearHourlyRead s) fun u => u.pnl.acc = [] ∧
      SMap.get 0 k u.nv.wearHist = SMap.get 0 k s.nv.wearHist + s.wearFrames k ∧ u.fld Fld.PNL_WEARADDR_pixel = 0 ∧
      (∀ j, j ≠ k → SMap.get 0 j u.nv.wearHist = SMap.get 0 j s.nv.wearHist) ∧ Kept s u [Reg.PNL_WEARADDR]) ∧
    (∀ (k : Fin 16384) (g : Fin 128), Completes (exec (.wearGainUpdate [(k, g)]) s) fun u =>
      SMap.get 0 k.val u.pnl.gainPend = 128 + g.val ∧ u.pnl.gains = s.pnl.gains ∧ u.mode = s.mode) ∧
    (∀ b : Bool,
      (s.isSet Fld.PNL_USB_attached = true → Completes (exec (.usbAttach b) s) fun u => u.fw = s.fw ∧ u.evr = s.evr ∧ Kept s u []) ∧
      (s.isSet Fld.PNL_USB_attached = false → Completes (exec (.usbAttach b) s) fun u => u.isSet Fld.PNL_USB_attached = true ∧
        u.isSet Fld.PNL_USB_flip = b ∧ u.fld Fld.PNL_USB_attaches = satInc 16 (s.fld Fld.PNL_USB_attaches) ∧
        u.isSet Fld.PNL_USB_function = (s.mode == mCommission || s.mode == mService) ∧
        u.evr.inbox.length = s.evr.inbox.length + 1 ∧ Kept s u [Reg.PNL_USB])) ∧
    (s.isSet Fld.PNL_USB_attached = false → Completes (exec .usbDetach s) fun u => u.fw = s.fw ∧ u.evr = s.evr ∧ Kept s u []) ∧
    (s.isSet Fld.PNL_USB_attached = true → Completes (exec .usbDetach s) fun u => u.isSet Fld.PNL_USB_attached = false ∧
      u.isSet Fld.PNL_USB_function = false ∧ u.isSet Fld.PNL_USB_configured = false ∧
      (s.fw.connService = true → u.fw.conn = none) ∧ Kept s u [Reg.PNL_USB])

/-- CFG_READ of no record is answered EMPTY, and of a bad offset BAD_ARG. At a mailbox that takes the request at once, not
refused by R613: a CFG_READ with a byte offset that is not a multiple of 4, or that lies at or beyond the size of the
record, is answered BAD_ARG with reason 0x0004 and argument index 1, the first of them before any record is looked for
(R613, step 9); of a type and index for which no record is in force it is otherwise answered EMPTY. No record changes.
(R614) -/
def Obligations.ReadOfARecordThatIsNotThere : Prop :=
  ∀ (s : State) (m : Fin 68) (tag : BitVec 16) (x y : Word), s.Open m → s.refuses m 0x0106 [x, y] = none →
    let n := (s.cfgView (bits x 31 24) (bits x 23 0) (y.toNat / 4)).1
    (n = 0 → y.toNat % 4 = 0 → Completes (exec (.cfgRead m tag x y) s) fun u =>
      Answered s u m 0x0106 tag.toNat 0x0C [wd 0xFFFF0000] ∧ u.cfg = s.cfg) ∧
    (y.toNat % 4 ≠ 0 ∨ n ≠ 0 ∧ 4 * n ≤ y.toNat → Completes (exec (.cfgRead m tag x y) s) fun u =>
      Answered s u m 0x0106 tag.toNat 0x03 [wd 0x00010004] ∧ u.cfg = s.cfg)

/-- A module in ACTIVE resets at once with cause VEER_LOSER on a claim above its own or a demotion. A module in ACTIVE
that is not handing over, nor in the hold-up of a lost supply (R225), resets into BOOT with cause VEER_LOSER and
drives no claim when it sees a claim above its own from its partner, on a claim line or in a heartbeat taken in its
order, and when it receives WIT_DEMOTE for its station; in the odd slot an equal claim of the partner resets it in the
same way, on a claim line or in a heartbeat, and in the even slot it does not. (R217) -/
def Obligations.AHigherClaimResetsTheLoser : Prop :=
  ∀ (s : State) (claim c2 c3 c4 : Word) (u : Fin 9) (seq trip : BitVec 16),
    let own := s.reg Reg.RED_CLAIM
    let lost := fun t : State => t.mode = mBoot ∧ t.fld Fld.SYS_RSTCAUSE_cause = rcVeerLoser ∧ t.reg Reg.RED_CLAIM = 0
    let line := exec (.claimFrameReceive u false (lineFrame claim)) s
    let beat := exec (.heartbeatReceive seq 3 claim c2 c3 c4 trip) s
    s.mode = mActive → s.sys.pins.pair = true → s.handingOver = false → s.sys.holdup = false → s.prt.lanes = [] → s.fio.queue = [] →
    (s.fibre = false →
      (own.toNat < claim.toNat → Completes line lost) ∧
      (s.sys.pins.even = false → own ≠ 0 → claim = own → Completes line lost) ∧
      (s.sys.pins.even = true → claim = own → Completes line fun t => t.mode = mActive ∧ t.reg Reg.RED_CLAIM = own)) ∧
    (s.red.hbRx = none ∨ s.red.lost = true ∨ s.red.hbRx = some ((seq - 1).toNat) →
      (own.toNat < claim.toNat → Completes beat lost) ∧
      (s.sys.pins.even = false → own ≠ 0 → claim = own → Completes beat lost) ∧
      (s.sys.pins.even = true → claim = own → Completes beat fun t => t.mode = mActive)) ∧
    (∀ k : Fin 16384, k.val = s.stationNode → Completes (exec (.witDemote true k claim) s) lost)

/-- Every command of the table, each constructor of Instr, completes, and only a reserved field given another value stops
one. Every command, from every state with no slow register access pending, answers a next state when the registers that it
writes itself get 0 in their reserved fields; a command that writes none answers a next state from every state, pending
accesses or not, unless it is one that first completes them. SLOW_ACCESS_DONE, WINDOW_START and WINDOW_END with an access
pending complete when its value keeps the reserved fields. In every case the answer is a next state, or the fault
reservedField with the register that it names: the effect that R10 calls undefined. No command is refused. (R10) -/
def Obligations.OnlyReservedFieldsStop : Prop :=
  ∀ (c : Instr) (s : State),
    (s.sys.slow = [] ∨ endsSlow c = false → (∀ w ∈ putsOf s c, s.keepsReserved w.1 w.2 = true) → ∃ t, exec c s = .next t) ∧
    (∀ (m : Fin 16) a, s.slowOf m = some a → a.key ≠ Reg.LKS_DBGMEM → s.keepsReserved a.key a.val = true →
      ∃ t, exec (.slowAccessDone m) s = .next t) ∧
    (∀ (l : Fin 8) (e : Fin 256) a, s.slowOfLane l = some a → s.keepsReserved a.key a.val = true →
      (∃ t, exec (.windowStart l e) s = .next t) ∧ ∃ t, exec (.windowEnd l) s = .next t) ∧
    ((∃ t, exec c s = .next t) ∨ ∃ k, exec c s = .fault (.reservedField k))

/-- The state after reset: canonical memory and registers, agreeing mirrors, nothing in flight. After reset the module is
in BOOT, drives no claim and waits for the release of reset; memory and the register file are in canonical form, the
mirrors agree with what they mirror, no command waits and nothing is in flight; SRAM, DRAM and MRAM read 0 (the
contents of an MRAM that nothing has written are the model's choice, log entry 4). (R49, R50, R54, R56) -/
def Obligations.ResetLeavesTheBlockAtRest : Prop :=
  Memory.wf State.reset.mem = true ∧ State.reset.regsWf = true ∧ State.reset.Mirrors ∧ State.reset.AtRest ∧
    State.reset.pending = [] ∧ State.reset.mode = mBoot ∧ State.reset.reg Reg.RED_CLAIM = 0 ∧
    State.reset.sys.wait = .booting ∧ (∀ a, State.reset.byte a = 0) ∧ State.reset.cfg = [] ∧ State.reset.fw.forces = []
end

