-- ==== Sys2Proof/Laws/SMap.lean ====
section
/-! SUPPORT. The laws of the sparse table: a read after a write, on any list, and the canonical form kept. -/

namespace Sys2Proof.Machine

@[simp] theorem SMap.get_nil {α : Type} (d : α) (k : Nat) : SMap.get d k [] = d := rfl

theorem SMap.get_above_self {α : Type} (d : α) (k : Nat) (m : List (Nat × α)) :
    SMap.get d k (SMap.above k m) = d := by
  induction m with
  | nil => rfl
  | cons e m ih =>
    obtain ⟨j, w⟩ := e
    by_cases h : j ≤ k
    · simp [SMap.above, h, ih]
    · have : k < j := by omega
      simp [SMap.above, h, SMap.get, this]

theorem SMap.get_above_lt {α : Type} (d : α) {i k : Nat} (hik : i < k) (m : List (Nat × α)) :
    SMap.get d i (SMap.above k m) = d := by
  induction m with
  | nil => rfl
  | cons e m ih =>
    obtain ⟨j, w⟩ := e
    by_cases h : j ≤ k
    · simp [SMap.above, h, ih]
    · have : i < j := by omega
      simp [SMap.above, h, SMap.get, this]

theorem SMap.get_above_gt {α : Type} (d : α) {i k : Nat} (hik : k < i) (m : List (Nat × α)) :
    SMap.get d i (SMap.above k m) = SMap.get d i m := by
  induction m with
  | nil => rfl
  | cons e m ih =>
    obtain ⟨j, w⟩ := e
    by_cases h : j ≤ k
    · have h1 : ¬ i < j := by omega
      have h2 : ¬ i = j := by omega
      simp [SMap.above, h, ih, SMap.get, h1, h2]
    · simp [SMap.above, h]

/-- A read of the key written. -/
@[simp] theorem SMap.get_set_same {α : Type} [DecidableEq α] (d : α) (k : Nat) (v : α) (m : List (Nat × α)) :
    SMap.get d k (SMap.set d k v m) = v := by
  induction m with
  | nil => by_cases hv : v = d <;> simp [SMap.set, SMap.get, hv]
  | cons e m ih =>
    obtain ⟨j, w⟩ := e
    simp only [SMap.set]
    split
    · split <;> simp_all [SMap.get]
    · split
      · next hk =>
        subst hk
        split
        · next hv => subst hv; exact SMap.get_above_self _ _ _
        · simp [SMap.get]
      · next h1 h2 => simp [SMap.get, h1, h2, ih]

/-- A read of another key. -/
theorem SMap.get_set_ne {α : Type} [DecidableEq α] (d : α) {k i : Nat} (v : α) (hne : i ≠ k) (m : List (Nat × α)) :
    SMap.get d i (SMap.set d k v m) = SMap.get d i m := by
  induction m with
  | nil => by_cases hv : v = d <;> simp [SMap.set, SMap.get, hv, hne]
  | cons e m ih =>
    obtain ⟨j, w⟩ := e
    simp only [SMap.set]
    split
    · next hkj =>
      split
      · rfl
      · by_cases hik : i < k
        · have : i < j := by omega
          simp [SMap.get, hik, this]
        · simp [SMap.get, hik, hne]
    · split
      · next hkj hk =>
        subst hk
        split
        · by_cases hik : i < k
          · simp [SMap.get, hik, SMap.get_above_lt d hik m]
          · have : k < i := by omega
            simp [SMap.get, hik, hne, SMap.get_above_gt d this m]
        · by_cases hik : i < k <;> simp [SMap.get, hik, hne]
      · by_cases hij : i < j
        · simp [SMap.get, hij]
        · by_cases he : i = j
          · simp [SMap.get, he]
          · simp [SMap.get, hij, he, ih]

/-- What a table holds at any key after a write. -/
theorem SMap.get_set {α : Type} [DecidableEq α] (d : α) (k i : Nat) (v : α) (m : List (Nat × α)) :
    SMap.get d i (SMap.set d k v m) = if i = k then v else SMap.get d i m := by
  by_cases h : i = k
  · subst h; simp
  · simp [h, SMap.get_set_ne d v h m]

theorem SMap.above_of_wfFrom {α : Type} [DecidableEq α] (d : α) (k : Nat) (m : List (Nat × α))
    (h : SMap.wfFrom d (some k) m = true) : SMap.above k m = m := by
  cases m with
  | nil => rfl
  | cons e m =>
    obtain ⟨j, w⟩ := e
    simp only [SMap.wfFrom, Bool.and_eq_true, decide_eq_true_eq] at h
    have : ¬ j ≤ k := by omega
    simp [SMap.above, this]

/-- A write keeps the canonical form. -/
theorem SMap.wf_set {α : Type} [DecidableEq α] (d : α) (k : Nat) (v : α) :
    ∀ (m : List (Nat × α)), SMap.wf d m = true → SMap.wf d (SMap.set d k v m) = true := by
  have relax : ∀ (m : List (Nat × α)) (a b : Nat), SMap.wfFrom d (some a) m = true → b ≤ a →
      SMap.wfFrom d (some b) m = true := by
    intro m a b h hab
    cases m with
    | nil => rfl
    | cons e m =>
      obtain ⟨j, w⟩ := e
      simp only [SMap.wfFrom, Bool.and_eq_true, decide_eq_true_eq] at h ⊢
      exact ⟨⟨by omega, h.1.2⟩, h.2⟩
  suffices ∀ (m : List (Nat × α)) (lo : Option Nat), SMap.wfFrom d lo m = true →
      (∀ l, lo = some l → l < k) → SMap.wfFrom d lo (SMap.set d k v m) = true from
    fun m h => this m none h (by simp)
  intro m
  induction m with
  | nil =>
    intro lo _ hl
    by_cases hv : v = d
    · simp [SMap.set, hv, SMap.wfFrom]
    · cases lo <;> simp_all [SMap.set, SMap.wfFrom]
  | cons e m ih =>
    obtain ⟨j, w⟩ := e
    intro lo h hl
    simp only [SMap.set]
    split
    · next hkj =>
      split
      · exact h
      · next hv =>
        simp only [SMap.wfFrom, Bool.and_eq_true, decide_eq_true_eq] at h ⊢
        refine ⟨⟨?_, hv⟩, ⟨hkj, h.1.2⟩, h.2⟩
        cases lo with
        | none => rfl
        | some l => simpa using hl l rfl
    · split
      · next hk =>
        subst hk
        split
        · simp only [SMap.wfFrom, Bool.and_eq_true] at h
          rw [SMap.above_of_wfFrom d k m h.2]
          cases lo with
          | none =>
            cases m with
            | nil => rfl
            | cons e m =>
              obtain ⟨a, b⟩ := e
              have := h.2
              simp only [SMap.wfFrom, Bool.and_eq_true] at this ⊢
              exact ⟨⟨trivial, this.1.2⟩, this.2⟩
          | some l => exact relax m k l h.2 (Nat.le_of_lt (hl l rfl))
        · next hv =>
          simp only [SMap.wfFrom, Bool.and_eq_true, decide_eq_true_eq] at h ⊢
          exact ⟨⟨h.1.1, hv⟩, h.2⟩
      · next h1 h2 =>
        simp only [SMap.wfFrom, Bool.and_eq_true, decide_eq_true_eq] at h ⊢
        refine ⟨h.1, ih (some j) h.2 ?_⟩
        intro l hl'
        cases hl'
        omega

theorem SMap.wf_upd {α : Type} [DecidableEq α] (d : α) (k : Nat) (f : α → α) (m : List (Nat × α))
    (h : SMap.wf d m = true) : SMap.wf d (SMap.upd d k f m) = true :=
  SMap.wf_set d k _ m h

theorem SMap.wf_nil {α : Type} [DecidableEq α] (d : α) : SMap.wf d ([] : List (Nat × α)) = true :=
  rfl

/-- What a filter keeps of a canonical table is canonical. -/
theorem SMap.wf_filter {α : Type} [DecidableEq α] (d : α) (p : Nat × α → Bool) (m : List (Nat × α))
    (h : SMap.wf d m = true) : SMap.wf d (m.filter p) = true := by
  have relax : ∀ (m : List (Nat × α)) (lo : Option Nat) (a : Nat), SMap.wfFrom d (some a) m = true →
      (∀ l, lo = some l → l ≤ a) → SMap.wfFrom d lo m = true := by
    intro m lo a h hl
    cases m with
    | nil => rfl
    | cons e m =>
      obtain ⟨j, w⟩ := e
      simp only [SMap.wfFrom, Bool.and_eq_true, decide_eq_true_eq] at h ⊢
      refine ⟨⟨?_, h.1.2⟩, h.2⟩
      cases lo with
      | none => rfl
      | some l => have := hl l rfl; simp; omega
  suffices ∀ (m : List (Nat × α)) (lo : Option Nat), SMap.wfFrom d lo m = true →
      SMap.wfFrom d lo (m.filter p) = true from this m none h
  intro m
  induction m with
  | nil => intro lo _; rfl
  | cons e m ih =>
    obtain ⟨j, w⟩ := e
    intro lo h
    simp only [SMap.wfFrom, Bool.and_eq_true] at h
    by_cases hp : p (j, w)
    · simp only [List.filter, hp, SMap.wfFrom, Bool.and_eq_true]
      exact ⟨h.1, ih (some j) h.2⟩
    · simp only [List.filter, hp]
      refine ih lo ?_
      refine relax m lo j h.2 ?_
      intro l hl
      subst hl
      have := h.1.1
      simp at this
      omega

end Sys2Proof.Machine
end

