-- ==== Sys2Proof/Laws/State.lean ====
section
/-! SUPPORT. What each update leaves of each field of the state: one lemma a field. -/

namespace Sys2Proof.Machine

/-! ### setReg -/

@[simp] theorem State.setReg_pending (s : State) (k : Nat) (v : Word) : (s.setReg k v).pending = s.pending := rfl
@[simp] theorem State.setReg_clk (s : State) (k : Nat) (v : Word) : (s.setReg k v).clk = s.clk := rfl
@[simp] theorem State.setReg_time (s : State) (k : Nat) (v : Word) : (s.setReg k v).time = s.time := rfl
@[simp] theorem State.setReg_timeFrac (s : State) (k : Nat) (v : Word) : (s.setReg k v).timeFrac = s.timeFrac := rfl
@[simp] theorem State.setReg_free (s : State) (k : Nat) (v : Word) : (s.setReg k v).free = s.free := rfl
@[simp] theorem State.setReg_shadow (s : State) (k : Nat) (v : Word) : (s.setReg k v).shadow = s.shadow := rfl
@[simp] theorem State.setReg_holding (s : State) (k : Nat) (v : Word) : (s.setReg k v).holding = s.holding := rfl
@[simp] theorem State.setReg_peaked (s : State) (k : Nat) (v : Word) : (s.setReg k v).peaked = s.peaked := rfl
@[simp] theorem State.setReg_mem (s : State) (k : Nat) (v : Word) : (s.setReg k v).mem = s.mem := rfl
@[simp] theorem State.setReg_cfg (s : State) (k : Nat) (v : Word) : (s.setReg k v).cfg = s.cfg := rfl
@[simp] theorem State.setReg_pts (s : State) (k : Nat) (v : Word) : (s.setReg k v).pts = s.pts := rfl
@[simp] theorem State.setReg_outs (s : State) (k : Nat) (v : Word) : (s.setReg k v).outs = s.outs := rfl
@[simp] theorem State.setReg_outsPrev (s : State) (k : Nat) (v : Word) : (s.setReg k v).outsPrev = s.outsPrev := rfl
@[simp] theorem State.setReg_sent (s : State) (k : Nat) (v : Word) : (s.setReg k v).sent = s.sent := rfl
@[simp] theorem State.setReg_sys (s : State) (k : Nat) (v : Word) : (s.setReg k v).sys = s.sys := rfl
@[simp] theorem State.setReg_nv (s : State) (k : Nat) (v : Word) : (s.setReg k v).nv = s.nv := rfl
@[simp] theorem State.setReg_fw (s : State) (k : Nat) (v : Word) : (s.setReg k v).fw = s.fw := rfl
@[simp] theorem State.setReg_prt (s : State) (k : Nat) (v : Word) : (s.setReg k v).prt = s.prt := rfl
@[simp] theorem State.setReg_lks (s : State) (k : Nat) (v : Word) : (s.setReg k v).lks = s.lks := rfl
@[simp] theorem State.setReg_red (s : State) (k : Nat) (v : Word) : (s.setReg k v).red = s.red := rfl
@[simp] theorem State.setReg_qe (s : State) (k : Nat) (v : Word) : (s.setReg k v).qe = s.qe := rfl
@[simp] theorem State.setReg_evr (s : State) (k : Nat) (v : Word) : (s.setReg k v).evr = s.evr := rfl
@[simp] theorem State.setReg_alm (s : State) (k : Nat) (v : Word) : (s.setReg k v).alm = s.alm := rfl
@[simp] theorem State.setReg_ce (s : State) (k : Nat) (v : Word) : (s.setReg k v).ce = s.ce := rfl
@[simp] theorem State.setReg_pg (s : State) (k : Nat) (v : Word) : (s.setReg k v).pg = s.pg := rfl
@[simp] theorem State.setReg_ad (s : State) (k : Nat) (v : Word) : (s.setReg k v).ad = s.ad := rfl
@[simp] theorem State.setReg_ph (s : State) (k : Nat) (v : Word) : (s.setReg k v).ph = s.ph := rfl
@[simp] theorem State.setReg_tu (s : State) (k : Nat) (v : Word) : (s.setReg k v).tu = s.tu := rfl
@[simp] theorem State.setReg_fio (s : State) (k : Nat) (v : Word) : (s.setReg k v).fio = s.fio := rfl
@[simp] theorem State.setReg_rio (s : State) (k : Nat) (v : Word) : (s.setReg k v).rio = s.rio := rfl
@[simp] theorem State.setReg_saf (s : State) (k : Nat) (v : Word) : (s.setReg k v).saf = s.saf := rfl
@[simp] theorem State.setReg_eth (s : State) (k : Nat) (v : Word) : (s.setReg k v).eth = s.eth := rfl
@[simp] theorem State.setReg_can (s : State) (k : Nat) (v : Word) : (s.setReg k v).can = s.can := rfl
@[simp] theorem State.setReg_pnl (s : State) (k : Nat) (v : Word) : (s.setReg k v).pnl = s.pnl := rfl
@[simp] theorem State.setReg_bst (s : State) (k : Nat) (v : Word) : (s.setReg k v).bst = s.bst := rfl
@[simp] theorem State.setReg_age (s : State) (k : Nat) (v : Word) : (s.setReg k v).age = s.age := rfl
@[simp] theorem State.setReg_sfp (s : State) (k : Nat) (v : Word) : (s.setReg k v).sfp = s.sfp := rfl
@[simp] theorem State.setReg_pfc (s : State) (k : Nat) (v : Word) : (s.setReg k v).pfc = s.pfc := rfl
@[simp] theorem State.setReg_pfcAt (s : State) (k : Nat) (v : Word) : (s.setReg k v).pfcAt = s.pfcAt := rfl

/-! ### put -/

@[simp] theorem State.put_pending (s : State) (f : Fld) (v : Nat) : (s.put f v).pending = s.pending := rfl
@[simp] theorem State.put_clk (s : State) (f : Fld) (v : Nat) : (s.put f v).clk = s.clk := rfl
@[simp] theorem State.put_time (s : State) (f : Fld) (v : Nat) : (s.put f v).time = s.time := rfl
@[simp] theorem State.put_timeFrac (s : State) (f : Fld) (v : Nat) : (s.put f v).timeFrac = s.timeFrac := rfl
@[simp] theorem State.put_free (s : State) (f : Fld) (v : Nat) : (s.put f v).free = s.free := rfl
@[simp] theorem State.put_shadow (s : State) (f : Fld) (v : Nat) : (s.put f v).shadow = s.shadow := rfl
@[simp] theorem State.put_holding (s : State) (f : Fld) (v : Nat) : (s.put f v).holding = s.holding := rfl
@[simp] theorem State.put_peaked (s : State) (f : Fld) (v : Nat) : (s.put f v).peaked = s.peaked := rfl
@[simp] theorem State.put_mem (s : State) (f : Fld) (v : Nat) : (s.put f v).mem = s.mem := rfl
@[simp] theorem State.put_cfg (s : State) (f : Fld) (v : Nat) : (s.put f v).cfg = s.cfg := rfl
@[simp] theorem State.put_pts (s : State) (f : Fld) (v : Nat) : (s.put f v).pts = s.pts := rfl
@[simp] theorem State.put_outs (s : State) (f : Fld) (v : Nat) : (s.put f v).outs = s.outs := rfl
@[simp] theorem State.put_outsPrev (s : State) (f : Fld) (v : Nat) : (s.put f v).outsPrev = s.outsPrev := rfl
@[simp] theorem State.put_sent (s : State) (f : Fld) (v : Nat) : (s.put f v).sent = s.sent := rfl
@[simp] theorem State.put_sys (s : State) (f : Fld) (v : Nat) : (s.put f v).sys = s.sys := rfl
@[simp] theorem State.put_nv (s : State) (f : Fld) (v : Nat) : (s.put f v).nv = s.nv := rfl
@[simp] theorem State.put_fw (s : State) (f : Fld) (v : Nat) : (s.put f v).fw = s.fw := rfl
@[simp] theorem State.put_prt (s : State) (f : Fld) (v : Nat) : (s.put f v).prt = s.prt := rfl
@[simp] theorem State.put_lks (s : State) (f : Fld) (v : Nat) : (s.put f v).lks = s.lks := rfl
@[simp] theorem State.put_red (s : State) (f : Fld) (v : Nat) : (s.put f v).red = s.red := rfl
@[simp] theorem State.put_qe (s : State) (f : Fld) (v : Nat) : (s.put f v).qe = s.qe := rfl
@[simp] theorem State.put_evr (s : State) (f : Fld) (v : Nat) : (s.put f v).evr = s.evr := rfl
@[simp] theorem State.put_alm (s : State) (f : Fld) (v : Nat) : (s.put f v).alm = s.alm := rfl
@[simp] theorem State.put_ce (s : State) (f : Fld) (v : Nat) : (s.put f v).ce = s.ce := rfl
@[simp] theorem State.put_pg (s : State) (f : Fld) (v : Nat) : (s.put f v).pg = s.pg := rfl
@[simp] theorem State.put_ad (s : State) (f : Fld) (v : Nat) : (s.put f v).ad = s.ad := rfl
@[simp] theorem State.put_ph (s : State) (f : Fld) (v : Nat) : (s.put f v).ph = s.ph := rfl
@[simp] theorem State.put_tu (s : State) (f : Fld) (v : Nat) : (s.put f v).tu = s.tu := rfl
@[simp] theorem State.put_fio (s : State) (f : Fld) (v : Nat) : (s.put f v).fio = s.fio := rfl
@[simp] theorem State.put_rio (s : State) (f : Fld) (v : Nat) : (s.put f v).rio = s.rio := rfl
@[simp] theorem State.put_saf (s : State) (f : Fld) (v : Nat) : (s.put f v).saf = s.saf := rfl
@[simp] theorem State.put_eth (s : State) (f : Fld) (v : Nat) : (s.put f v).eth = s.eth := rfl
@[simp] theorem State.put_can (s : State) (f : Fld) (v : Nat) : (s.put f v).can = s.can := rfl
@[simp] theorem State.put_pnl (s : State) (f : Fld) (v : Nat) : (s.put f v).pnl = s.pnl := rfl
@[simp] theorem State.put_bst (s : State) (f : Fld) (v : Nat) : (s.put f v).bst = s.bst := rfl
@[simp] theorem State.put_age (s : State) (f : Fld) (v : Nat) : (s.put f v).age = s.age := rfl
@[simp] theorem State.put_sfp (s : State) (f : Fld) (v : Nat) : (s.put f v).sfp = s.sfp := rfl
@[simp] theorem State.put_pfc (s : State) (f : Fld) (v : Nat) : (s.put f v).pfc = s.pfc := rfl
@[simp] theorem State.put_pfcAt (s : State) (f : Fld) (v : Nat) : (s.put f v).pfcAt = s.pfcAt := rfl

/-! ### flag -/

@[simp] theorem State.flag_pending (s : State) (f : Fld) (b : Bool) : (s.flag f b).pending = s.pending := rfl
@[simp] theorem State.flag_clk (s : State) (f : Fld) (b : Bool) : (s.flag f b).clk = s.clk := rfl
@[simp] theorem State.flag_time (s : State) (f : Fld) (b : Bool) : (s.flag f b).time = s.time := rfl
@[simp] theorem State.flag_timeFrac (s : State) (f : Fld) (b : Bool) : (s.flag f b).timeFrac = s.timeFrac := rfl
@[simp] theorem State.flag_free (s : State) (f : Fld) (b : Bool) : (s.flag f b).free = s.free := rfl
@[simp] theorem State.flag_shadow (s : State) (f : Fld) (b : Bool) : (s.flag f b).shadow = s.shadow := rfl
@[simp] theorem State.flag_holding (s : State) (f : Fld) (b : Bool) : (s.flag f b).holding = s.holding := rfl
@[simp] theorem State.flag_peaked (s : State) (f : Fld) (b : Bool) : (s.flag f b).peaked = s.peaked := rfl
@[simp] theorem State.flag_mem (s : State) (f : Fld) (b : Bool) : (s.flag f b).mem = s.mem := rfl
@[simp] theorem State.flag_cfg (s : State) (f : Fld) (b : Bool) : (s.flag f b).cfg = s.cfg := rfl
@[simp] theorem State.flag_pts (s : State) (f : Fld) (b : Bool) : (s.flag f b).pts = s.pts := rfl
@[simp] theorem State.flag_outs (s : State) (f : Fld) (b : Bool) : (s.flag f b).outs = s.outs := rfl
@[simp] theorem State.flag_outsPrev (s : State) (f : Fld) (b : Bool) : (s.flag f b).outsPrev = s.outsPrev := rfl
@[simp] theorem State.flag_sent (s : State) (f : Fld) (b : Bool) : (s.flag f b).sent = s.sent := rfl
@[simp] theorem State.flag_sys (s : State) (f : Fld) (b : Bool) : (s.flag f b).sys = s.sys := rfl
@[simp] theorem State.flag_nv (s : State) (f : Fld) (b : Bool) : (s.flag f b).nv = s.nv := rfl
@[simp] theorem State.flag_fw (s : State) (f : Fld) (b : Bool) : (s.flag f b).fw = s.fw := rfl
@[simp] theorem State.flag_prt (s : State) (f : Fld) (b : Bool) : (s.flag f b).prt = s.prt := rfl
@[simp] theorem State.flag_lks (s : State) (f : Fld) (b : Bool) : (s.flag f b).lks = s.lks := rfl
@[simp] theorem State.flag_red (s : State) (f : Fld) (b : Bool) : (s.flag f b).red = s.red := rfl
@[simp] theorem State.flag_qe (s : State) (f : Fld) (b : Bool) : (s.flag f b).qe = s.qe := rfl
@[simp] theorem State.flag_evr (s : State) (f : Fld) (b : Bool) : (s.flag f b).evr = s.evr := rfl
@[simp] theorem State.flag_alm (s : State) (f : Fld) (b : Bool) : (s.flag f b).alm = s.alm := rfl
@[simp] theorem State.flag_ce (s : State) (f : Fld) (b : Bool) : (s.flag f b).ce = s.ce := rfl
@[simp] theorem State.flag_pg (s : State) (f : Fld) (b : Bool) : (s.flag f b).pg = s.pg := rfl
@[simp] theorem State.flag_ad (s : State) (f : Fld) (b : Bool) : (s.flag f b).ad = s.ad := rfl
@[simp] theorem State.flag_ph (s : State) (f : Fld) (b : Bool) : (s.flag f b).ph = s.ph := rfl
@[simp] theorem State.flag_tu (s : State) (f : Fld) (b : Bool) : (s.flag f b).tu = s.tu := rfl
@[simp] theorem State.flag_fio (s : State) (f : Fld) (b : Bool) : (s.flag f b).fio = s.fio := rfl
@[simp] theorem State.flag_rio (s : State) (f : Fld) (b : Bool) : (s.flag f b).rio = s.rio := rfl
@[simp] theorem State.flag_saf (s : State) (f : Fld) (b : Bool) : (s.flag f b).saf = s.saf := rfl
@[simp] theorem State.flag_eth (s : State) (f : Fld) (b : Bool) : (s.flag f b).eth = s.eth := rfl
@[simp] theorem State.flag_can (s : State) (f : Fld) (b : Bool) : (s.flag f b).can = s.can := rfl
@[simp] theorem State.flag_pnl (s : State) (f : Fld) (b : Bool) : (s.flag f b).pnl = s.pnl := rfl
@[simp] theorem State.flag_bst (s : State) (f : Fld) (b : Bool) : (s.flag f b).bst = s.bst := rfl
@[simp] theorem State.flag_age (s : State) (f : Fld) (b : Bool) : (s.flag f b).age = s.age := rfl
@[simp] theorem State.flag_sfp (s : State) (f : Fld) (b : Bool) : (s.flag f b).sfp = s.sfp := rfl
@[simp] theorem State.flag_pfc (s : State) (f : Fld) (b : Bool) : (s.flag f b).pfc = s.pfc := rfl
@[simp] theorem State.flag_pfcAt (s : State) (f : Fld) (b : Bool) : (s.flag f b).pfcAt = s.pfcAt := rfl

/-! ### putBit -/

@[simp] theorem State.putBit_pending (s : State) (f : Fld) (n : Nat) (b : Bool) : (s.putBit f n b).pending = s.pending := rfl
@[simp] theorem State.putBit_clk (s : State) (f : Fld) (n : Nat) (b : Bool) : (s.putBit f n b).clk = s.clk := rfl
@[simp] theorem State.putBit_time (s : State) (f : Fld) (n : Nat) (b : Bool) : (s.putBit f n b).time = s.time := rfl
@[simp] theorem State.putBit_timeFrac (s : State) (f : Fld) (n : Nat) (b : Bool) : (s.putBit f n b).timeFrac = s.timeFrac := rfl
@[simp] theorem State.putBit_free (s : State) (f : Fld) (n : Nat) (b : Bool) : (s.putBit f n b).free = s.free := rfl
@[simp] theorem State.putBit_shadow (s : State) (f : Fld) (n : Nat) (b : Bool) : (s.putBit f n b).shadow = s.shadow := rfl
@[simp] theorem State.putBit_holding (s : State) (f : Fld) (n : Nat) (b : Bool) : (s.putBit f n b).holding = s.holding := rfl
@[simp] theorem State.putBit_peaked (s : State) (f : Fld) (n : Nat) (b : Bool) : (s.putBit f n b).peaked = s.peaked := rfl
@[simp] theorem State.putBit_mem (s : State) (f : Fld) (n : Nat) (b : Bool) : (s.putBit f n b).mem = s.mem := rfl
@[simp] theorem State.putBit_cfg (s : State) (f : Fld) (n : Nat) (b : Bool) : (s.putBit f n b).cfg = s.cfg := rfl
@[simp] theorem State.putBit_pts (s : State) (f : Fld) (n : Nat) (b : Bool) : (s.putBit f n b).pts = s.pts := rfl
@[simp] theorem State.putBit_outs (s : State) (f : Fld) (n : Nat) (b : Bool) : (s.putBit f n b).outs = s.outs := rfl
@[simp] theorem State.putBit_outsPrev (s : State) (f : Fld) (n : Nat) (b : Bool) : (s.putBit f n b).outsPrev = s.outsPrev := rfl
@[simp] theorem State.putBit_sent (s : State) (f : Fld) (n : Nat) (b : Bool) : (s.putBit f n b).sent = s.sent := rfl
@[simp] theorem State.putBit_sys (s : State) (f : Fld) (n : Nat) (b : Bool) : (s.putBit f n b).sys = s.sys := rfl
@[simp] theorem State.putBit_nv (s : State) (f : Fld) (n : Nat) (b : Bool) : (s.putBit f n b).nv = s.nv := rfl
@[simp] theorem State.putBit_fw (s : State) (f : Fld) (n : Nat) (b : Bool) : (s.putBit f n b).fw = s.fw := rfl
@[simp] theorem State.putBit_prt (s : State) (f : Fld) (n : Nat) (b : Bool) : (s.putBit f n b).prt = s.prt := rfl
@[simp] theorem State.putBit_lks (s : State) (f : Fld) (n : Nat) (b : Bool) : (s.putBit f n b).lks = s.lks := rfl
@[simp] theorem State.putBit_red (s : State) (f : Fld) (n : Nat) (b : Bool) : (s.putBit f n b).red = s.red := rfl
@[simp] theorem State.putBit_qe (s : State) (f : Fld) (n : Nat) (b : Bool) : (s.putBit f n b).qe = s.qe := rfl
@[simp] theorem State.putBit_evr (s : State) (f : Fld) (n : Nat) (b : Bool) : (s.putBit f n b).evr = s.evr := rfl
@[simp] theorem State.putBit_alm (s : State) (f : Fld) (n : Nat) (b : Bool) : (s.putBit f n b).alm = s.alm := rfl
@[simp] theorem State.putBit_ce (s : State) (f : Fld) (n : Nat) (b : Bool) : (s.putBit f n b).ce = s.ce := rfl
@[simp] theorem State.putBit_pg (s : State) (f : Fld) (n : Nat) (b : Bool) : (s.putBit f n b).pg = s.pg := rfl
@[simp] theorem State.putBit_ad (s : State) (f : Fld) (n : Nat) (b : Bool) : (s.putBit f n b).ad = s.ad := rfl
@[simp] theorem State.putBit_ph (s : State) (f : Fld) (n : Nat) (b : Bool) : (s.putBit f n b).ph = s.ph := rfl
@[simp] theorem State.putBit_tu (s : State) (f : Fld) (n : Nat) (b : Bool) : (s.putBit f n b).tu = s.tu := rfl
@[simp] theorem State.putBit_fio (s : State) (f : Fld) (n : Nat) (b : Bool) : (s.putBit f n b).fio = s.fio := rfl
@[simp] theorem State.putBit_rio (s : State) (f : Fld) (n : Nat) (b : Bool) : (s.putBit f n b).rio = s.rio := rfl
@[simp] theorem State.putBit_saf (s : State) (f : Fld) (n : Nat) (b : Bool) : (s.putBit f n b).saf = s.saf := rfl
@[simp] theorem State.putBit_eth (s : State) (f : Fld) (n : Nat) (b : Bool) : (s.putBit f n b).eth = s.eth := rfl
@[simp] theorem State.putBit_can (s : State) (f : Fld) (n : Nat) (b : Bool) : (s.putBit f n b).can = s.can := rfl
@[simp] theorem State.putBit_pnl (s : State) (f : Fld) (n : Nat) (b : Bool) : (s.putBit f n b).pnl = s.pnl := rfl
@[simp] theorem State.putBit_bst (s : State) (f : Fld) (n : Nat) (b : Bool) : (s.putBit f n b).bst = s.bst := rfl
@[simp] theorem State.putBit_age (s : State) (f : Fld) (n : Nat) (b : Bool) : (s.putBit f n b).age = s.age := rfl
@[simp] theorem State.putBit_sfp (s : State) (f : Fld) (n : Nat) (b : Bool) : (s.putBit f n b).sfp = s.sfp := rfl
@[simp] theorem State.putBit_pfc (s : State) (f : Fld) (n : Nat) (b : Bool) : (s.putBit f n b).pfc = s.pfc := rfl
@[simp] theorem State.putBit_pfcAt (s : State) (f : Fld) (n : Nat) (b : Bool) : (s.putBit f n b).pfcAt = s.pfcAt := rfl

/-! ### bump -/

@[simp] theorem State.bump_pending (s : State) (f : Fld) : (s.bump f).pending = s.pending := rfl
@[simp] theorem State.bump_clk (s : State) (f : Fld) : (s.bump f).clk = s.clk := rfl
@[simp] theorem State.bump_time (s : State) (f : Fld) : (s.bump f).time = s.time := rfl
@[simp] theorem State.bump_timeFrac (s : State) (f : Fld) : (s.bump f).timeFrac = s.timeFrac := rfl
@[simp] theorem State.bump_free (s : State) (f : Fld) : (s.bump f).free = s.free := rfl
@[simp] theorem State.bump_shadow (s : State) (f : Fld) : (s.bump f).shadow = s.shadow := rfl
@[simp] theorem State.bump_holding (s : State) (f : Fld) : (s.bump f).holding = s.holding := rfl
@[simp] theorem State.bump_peaked (s : State) (f : Fld) : (s.bump f).peaked = s.peaked := rfl
@[simp] theorem State.bump_mem (s : State) (f : Fld) : (s.bump f).mem = s.mem := rfl
@[simp] theorem State.bump_cfg (s : State) (f : Fld) : (s.bump f).cfg = s.cfg := rfl
@[simp] theorem State.bump_pts (s : State) (f : Fld) : (s.bump f).pts = s.pts := rfl
@[simp] theorem State.bump_outs (s : State) (f : Fld) : (s.bump f).outs = s.outs := rfl
@[simp] theorem State.bump_outsPrev (s : State) (f : Fld) : (s.bump f).outsPrev = s.outsPrev := rfl
@[simp] theorem State.bump_sent (s : State) (f : Fld) : (s.bump f).sent = s.sent := rfl
@[simp] theorem State.bump_sys (s : State) (f : Fld) : (s.bump f).sys = s.sys := rfl
@[simp] theorem State.bump_nv (s : State) (f : Fld) : (s.bump f).nv = s.nv := rfl
@[simp] theorem State.bump_fw (s : State) (f : Fld) : (s.bump f).fw = s.fw := rfl
@[simp] theorem State.bump_prt (s : State) (f : Fld) : (s.bump f).prt = s.prt := rfl
@[simp] theorem State.bump_lks (s : State) (f : Fld) : (s.bump f).lks = s.lks := rfl
@[simp] theorem State.bump_red (s : State) (f : Fld) : (s.bump f).red = s.red := rfl
@[simp] theorem State.bump_qe (s : State) (f : Fld) : (s.bump f).qe = s.qe := rfl
@[simp] theorem State.bump_evr (s : State) (f : Fld) : (s.bump f).evr = s.evr := rfl
@[simp] theorem State.bump_alm (s : State) (f : Fld) : (s.bump f).alm = s.alm := rfl
@[simp] theorem State.bump_ce (s : State) (f : Fld) : (s.bump f).ce = s.ce := rfl
@[simp] theorem State.bump_pg (s : State) (f : Fld) : (s.bump f).pg = s.pg := rfl
@[simp] theorem State.bump_ad (s : State) (f : Fld) : (s.bump f).ad = s.ad := rfl
@[simp] theorem State.bump_ph (s : State) (f : Fld) : (s.bump f).ph = s.ph := rfl
@[simp] theorem State.bump_tu (s : State) (f : Fld) : (s.bump f).tu = s.tu := rfl
@[simp] theorem State.bump_fio (s : State) (f : Fld) : (s.bump f).fio = s.fio := rfl
@[simp] theorem State.bump_rio (s : State) (f : Fld) : (s.bump f).rio = s.rio := rfl
@[simp] theorem State.bump_saf (s : State) (f : Fld) : (s.bump f).saf = s.saf := rfl
@[simp] theorem State.bump_eth (s : State) (f : Fld) : (s.bump f).eth = s.eth := rfl
@[simp] theorem State.bump_can (s : State) (f : Fld) : (s.bump f).can = s.can := rfl
@[simp] theorem State.bump_pnl (s : State) (f : Fld) : (s.bump f).pnl = s.pnl := rfl
@[simp] theorem State.bump_bst (s : State) (f : Fld) : (s.bump f).bst = s.bst := rfl
@[simp] theorem State.bump_age (s : State) (f : Fld) : (s.bump f).age = s.age := rfl
@[simp] theorem State.bump_sfp (s : State) (f : Fld) : (s.bump f).sfp = s.sfp := rfl
@[simp] theorem State.bump_pfc (s : State) (f : Fld) : (s.bump f).pfc = s.pfc := rfl
@[simp] theorem State.bump_pfcAt (s : State) (f : Fld) : (s.bump f).pfcAt = s.pfcAt := rfl

/-! ### bumpBy -/

@[simp] theorem State.bumpBy_pending (s : State) (f : Fld) (n : Nat) : (s.bumpBy f n).pending = s.pending := rfl
@[simp] theorem State.bumpBy_clk (s : State) (f : Fld) (n : Nat) : (s.bumpBy f n).clk = s.clk := rfl
@[simp] theorem State.bumpBy_time (s : State) (f : Fld) (n : Nat) : (s.bumpBy f n).time = s.time := rfl
@[simp] theorem State.bumpBy_timeFrac (s : State) (f : Fld) (n : Nat) : (s.bumpBy f n).timeFrac = s.timeFrac := rfl
@[simp] theorem State.bumpBy_free (s : State) (f : Fld) (n : Nat) : (s.bumpBy f n).free = s.free := rfl
@[simp] theorem State.bumpBy_shadow (s : State) (f : Fld) (n : Nat) : (s.bumpBy f n).shadow = s.shadow := rfl
@[simp] theorem State.bumpBy_holding (s : State) (f : Fld) (n : Nat) : (s.bumpBy f n).holding = s.holding := rfl
@[simp] theorem State.bumpBy_peaked (s : State) (f : Fld) (n : Nat) : (s.bumpBy f n).peaked = s.peaked := rfl
@[simp] theorem State.bumpBy_mem (s : State) (f : Fld) (n : Nat) : (s.bumpBy f n).mem = s.mem := rfl
@[simp] theorem State.bumpBy_cfg (s : State) (f : Fld) (n : Nat) : (s.bumpBy f n).cfg = s.cfg := rfl
@[simp] theorem State.bumpBy_pts (s : State) (f : Fld) (n : Nat) : (s.bumpBy f n).pts = s.pts := rfl
@[simp] theorem State.bumpBy_outs (s : State) (f : Fld) (n : Nat) : (s.bumpBy f n).outs = s.outs := rfl
@[simp] theorem State.bumpBy_outsPrev (s : State) (f : Fld) (n : Nat) : (s.bumpBy f n).outsPrev = s.outsPrev := rfl
@[simp] theorem State.bumpBy_sent (s : State) (f : Fld) (n : Nat) : (s.bumpBy f n).sent = s.sent := rfl
@[simp] theorem State.bumpBy_sys (s : State) (f : Fld) (n : Nat) : (s.bumpBy f n).sys = s.sys := rfl
@[simp] theorem State.bumpBy_nv (s : State) (f : Fld) (n : Nat) : (s.bumpBy f n).nv = s.nv := rfl
@[simp] theorem State.bumpBy_fw (s : State) (f : Fld) (n : Nat) : (s.bumpBy f n).fw = s.fw := rfl
@[simp] theorem State.bumpBy_prt (s : State) (f : Fld) (n : Nat) : (s.bumpBy f n).prt = s.prt := rfl
@[simp] theorem State.bumpBy_lks (s : State) (f : Fld) (n : Nat) : (s.bumpBy f n).lks = s.lks := rfl
@[simp] theorem State.bumpBy_red (s : State) (f : Fld) (n : Nat) : (s.bumpBy f n).red = s.red := rfl
@[simp] theorem State.bumpBy_qe (s : State) (f : Fld) (n : Nat) : (s.bumpBy f n).qe = s.qe := rfl
@[simp] theorem State.bumpBy_evr (s : State) (f : Fld) (n : Nat) : (s.bumpBy f n).evr = s.evr := rfl
@[simp] theorem State.bumpBy_alm (s : State) (f : Fld) (n : Nat) : (s.bumpBy f n).alm = s.alm := rfl
@[simp] theorem State.bumpBy_ce (s : State) (f : Fld) (n : Nat) : (s.bumpBy f n).ce = s.ce := rfl
@[simp] theorem State.bumpBy_pg (s : State) (f : Fld) (n : Nat) : (s.bumpBy f n).pg = s.pg := rfl
@[simp] theorem State.bumpBy_ad (s : State) (f : Fld) (n : Nat) : (s.bumpBy f n).ad = s.ad := rfl
@[simp] theorem State.bumpBy_ph (s : State) (f : Fld) (n : Nat) : (s.bumpBy f n).ph = s.ph := rfl
@[simp] theorem State.bumpBy_tu (s : State) (f : Fld) (n : Nat) : (s.bumpBy f n).tu = s.tu := rfl
@[simp] theorem State.bumpBy_fio (s : State) (f : Fld) (n : Nat) : (s.bumpBy f n).fio = s.fio := rfl
@[simp] theorem State.bumpBy_rio (s : State) (f : Fld) (n : Nat) : (s.bumpBy f n).rio = s.rio := rfl
@[simp] theorem State.bumpBy_saf (s : State) (f : Fld) (n : Nat) : (s.bumpBy f n).saf = s.saf := rfl
@[simp] theorem State.bumpBy_eth (s : State) (f : Fld) (n : Nat) : (s.bumpBy f n).eth = s.eth := rfl
@[simp] theorem State.bumpBy_can (s : State) (f : Fld) (n : Nat) : (s.bumpBy f n).can = s.can := rfl
@[simp] theorem State.bumpBy_pnl (s : State) (f : Fld) (n : Nat) : (s.bumpBy f n).pnl = s.pnl := rfl
@[simp] theorem State.bumpBy_bst (s : State) (f : Fld) (n : Nat) : (s.bumpBy f n).bst = s.bst := rfl
@[simp] theorem State.bumpBy_age (s : State) (f : Fld) (n : Nat) : (s.bumpBy f n).age = s.age := rfl
@[simp] theorem State.bumpBy_sfp (s : State) (f : Fld) (n : Nat) : (s.bumpBy f n).sfp = s.sfp := rfl
@[simp] theorem State.bumpBy_pfc (s : State) (f : Fld) (n : Nat) : (s.bumpBy f n).pfc = s.pfc := rfl
@[simp] theorem State.bumpBy_pfcAt (s : State) (f : Fld) (n : Nat) : (s.bumpBy f n).pfcAt = s.pfcAt := rfl

/-! ### wrapInc -/

@[simp] theorem State.wrapInc_pending (s : State) (f : Fld) : (s.wrapInc f).pending = s.pending := rfl
@[simp] theorem State.wrapInc_clk (s : State) (f : Fld) : (s.wrapInc f).clk = s.clk := rfl
@[simp] theorem State.wrapInc_time (s : State) (f : Fld) : (s.wrapInc f).time = s.time := rfl
@[simp] theorem State.wrapInc_timeFrac (s : State) (f : Fld) : (s.wrapInc f).timeFrac = s.timeFrac := rfl
@[simp] theorem State.wrapInc_free (s : State) (f : Fld) : (s.wrapInc f).free = s.free := rfl
@[simp] theorem State.wrapInc_shadow (s : State) (f : Fld) : (s.wrapInc f).shadow = s.shadow := rfl
@[simp] theorem State.wrapInc_holding (s : State) (f : Fld) : (s.wrapInc f).holding = s.holding := rfl
@[simp] theorem State.wrapInc_peaked (s : State) (f : Fld) : (s.wrapInc f).peaked = s.peaked := rfl
@[simp] theorem State.wrapInc_mem (s : State) (f : Fld) : (s.wrapInc f).mem = s.mem := rfl
@[simp] theorem State.wrapInc_cfg (s : State) (f : Fld) : (s.wrapInc f).cfg = s.cfg := rfl
@[simp] theorem State.wrapInc_pts (s : State) (f : Fld) : (s.wrapInc f).pts = s.pts := rfl
@[simp] theorem State.wrapInc_outs (s : State) (f : Fld) : (s.wrapInc f).outs = s.outs := rfl
@[simp] theorem State.wrapInc_outsPrev (s : State) (f : Fld) : (s.wrapInc f).outsPrev = s.outsPrev := rfl
@[simp] theorem State.wrapInc_sent (s : State) (f : Fld) : (s.wrapInc f).sent = s.sent := rfl
@[simp] theorem State.wrapInc_sys (s : State) (f : Fld) : (s.wrapInc f).sys = s.sys := rfl
@[simp] theorem State.wrapInc_nv (s : State) (f : Fld) : (s.wrapInc f).nv = s.nv := rfl
@[simp] theorem State.wrapInc_fw (s : State) (f : Fld) : (s.wrapInc f).fw = s.fw := rfl
@[simp] theorem State.wrapInc_prt (s : State) (f : Fld) : (s.wrapInc f).prt = s.prt := rfl
@[simp] theorem State.wrapInc_lks (s : State) (f : Fld) : (s.wrapInc f).lks = s.lks := rfl
@[simp] theorem State.wrapInc_red (s : State) (f : Fld) : (s.wrapInc f).red = s.red := rfl
@[simp] theorem State.wrapInc_qe (s : State) (f : Fld) : (s.wrapInc f).qe = s.qe := rfl
@[simp] theorem State.wrapInc_evr (s : State) (f : Fld) : (s.wrapInc f).evr = s.evr := rfl
@[simp] theorem State.wrapInc_alm (s : State) (f : Fld) : (s.wrapInc f).alm = s.alm := rfl
@[simp] theorem State.wrapInc_ce (s : State) (f : Fld) : (s.wrapInc f).ce = s.ce := rfl
@[simp] theorem State.wrapInc_pg (s : State) (f : Fld) : (s.wrapInc f).pg = s.pg := rfl
@[simp] theorem State.wrapInc_ad (s : State) (f : Fld) : (s.wrapInc f).ad = s.ad := rfl
@[simp] theorem State.wrapInc_ph (s : State) (f : Fld) : (s.wrapInc f).ph = s.ph := rfl
@[simp] theorem State.wrapInc_tu (s : State) (f : Fld) : (s.wrapInc f).tu = s.tu := rfl
@[simp] theorem State.wrapInc_fio (s : State) (f : Fld) : (s.wrapInc f).fio = s.fio := rfl
@[simp] theorem State.wrapInc_rio (s : State) (f : Fld) : (s.wrapInc f).rio = s.rio := rfl
@[simp] theorem State.wrapInc_saf (s : State) (f : Fld) : (s.wrapInc f).saf = s.saf := rfl
@[simp] theorem State.wrapInc_eth (s : State) (f : Fld) : (s.wrapInc f).eth = s.eth := rfl
@[simp] theorem State.wrapInc_can (s : State) (f : Fld) : (s.wrapInc f).can = s.can := rfl
@[simp] theorem State.wrapInc_pnl (s : State) (f : Fld) : (s.wrapInc f).pnl = s.pnl := rfl
@[simp] theorem State.wrapInc_bst (s : State) (f : Fld) : (s.wrapInc f).bst = s.bst := rfl
@[simp] theorem State.wrapInc_age (s : State) (f : Fld) : (s.wrapInc f).age = s.age := rfl
@[simp] theorem State.wrapInc_sfp (s : State) (f : Fld) : (s.wrapInc f).sfp = s.sfp := rfl
@[simp] theorem State.wrapInc_pfc (s : State) (f : Fld) : (s.wrapInc f).pfc = s.pfc := rfl
@[simp] theorem State.wrapInc_pfcAt (s : State) (f : Fld) : (s.wrapInc f).pfcAt = s.pfcAt := rfl

/-! ### send -/

@[simp] theorem State.send_pending (s : State) (c : Chan) (w : Nat) (ws : List Word) : (s.send c w ws).pending = s.pending := rfl
@[simp] theorem State.send_clk (s : State) (c : Chan) (w : Nat) (ws : List Word) : (s.send c w ws).clk = s.clk := rfl
@[simp] theorem State.send_time (s : State) (c : Chan) (w : Nat) (ws : List Word) : (s.send c w ws).time = s.time := rfl
@[simp] theorem State.send_timeFrac (s : State) (c : Chan) (w : Nat) (ws : List Word) : (s.send c w ws).timeFrac = s.timeFrac := rfl
@[simp] theorem State.send_free (s : State) (c : Chan) (w : Nat) (ws : List Word) : (s.send c w ws).free = s.free := rfl
@[simp] theorem State.send_regs (s : State) (c : Chan) (w : Nat) (ws : List Word) : (s.send c w ws).regs = s.regs := rfl
@[simp] theorem State.send_shadow (s : State) (c : Chan) (w : Nat) (ws : List Word) : (s.send c w ws).shadow = s.shadow := rfl
@[simp] theorem State.send_holding (s : State) (c : Chan) (w : Nat) (ws : List Word) : (s.send c w ws).holding = s.holding := rfl
@[simp] theorem State.send_peaked (s : State) (c : Chan) (w : Nat) (ws : List Word) : (s.send c w ws).peaked = s.peaked := rfl
@[simp] theorem State.send_mem (s : State) (c : Chan) (w : Nat) (ws : List Word) : (s.send c w ws).mem = s.mem := rfl
@[simp] theorem State.send_cfg (s : State) (c : Chan) (w : Nat) (ws : List Word) : (s.send c w ws).cfg = s.cfg := rfl
@[simp] theorem State.send_pts (s : State) (c : Chan) (w : Nat) (ws : List Word) : (s.send c w ws).pts = s.pts := rfl
@[simp] theorem State.send_outs (s : State) (c : Chan) (w : Nat) (ws : List Word) : (s.send c w ws).outs = s.outs := rfl
@[simp] theorem State.send_outsPrev (s : State) (c : Chan) (w : Nat) (ws : List Word) : (s.send c w ws).outsPrev = s.outsPrev := rfl
@[simp] theorem State.send_sys (s : State) (c : Chan) (w : Nat) (ws : List Word) : (s.send c w ws).sys = s.sys := rfl
@[simp] theorem State.send_nv (s : State) (c : Chan) (w : Nat) (ws : List Word) : (s.send c w ws).nv = s.nv := rfl
@[simp] theorem State.send_fw (s : State) (c : Chan) (w : Nat) (ws : List Word) : (s.send c w ws).fw = s.fw := rfl
@[simp] theorem State.send_prt (s : State) (c : Chan) (w : Nat) (ws : List Word) : (s.send c w ws).prt = s.prt := rfl
@[simp] theorem State.send_lks (s : State) (c : Chan) (w : Nat) (ws : List Word) : (s.send c w ws).lks = s.lks := rfl
@[simp] theorem State.send_red (s : State) (c : Chan) (w : Nat) (ws : List Word) : (s.send c w ws).red = s.red := rfl
@[simp] theorem State.send_qe (s : State) (c : Chan) (w : Nat) (ws : List Word) : (s.send c w ws).qe = s.qe := rfl
@[simp] theorem State.send_evr (s : State) (c : Chan) (w : Nat) (ws : List Word) : (s.send c w ws).evr = s.evr := rfl
@[simp] theorem State.send_alm (s : State) (c : Chan) (w : Nat) (ws : List Word) : (s.send c w ws).alm = s.alm := rfl
@[simp] theorem State.send_ce (s : State) (c : Chan) (w : Nat) (ws : List Word) : (s.send c w ws).ce = s.ce := rfl
@[simp] theorem State.send_pg (s : State) (c : Chan) (w : Nat) (ws : List Word) : (s.send c w ws).pg = s.pg := rfl
@[simp] theorem State.send_ad (s : State) (c : Chan) (w : Nat) (ws : List Word) : (s.send c w ws).ad = s.ad := rfl
@[simp] theorem State.send_ph (s : State) (c : Chan) (w : Nat) (ws : List Word) : (s.send c w ws).ph = s.ph := rfl
@[simp] theorem State.send_tu (s : State) (c : Chan) (w : Nat) (ws : List Word) : (s.send c w ws).tu = s.tu := rfl
@[simp] theorem State.send_fio (s : State) (c : Chan) (w : Nat) (ws : List Word) : (s.send c w ws).fio = s.fio := rfl
@[simp] theorem State.send_rio (s : State) (c : Chan) (w : Nat) (ws : List Word) : (s.send c w ws).rio = s.rio := rfl
@[simp] theorem State.send_saf (s : State) (c : Chan) (w : Nat) (ws : List Word) : (s.send c w ws).saf = s.saf := rfl
@[simp] theorem State.send_eth (s : State) (c : Chan) (w : Nat) (ws : List Word) : (s.send c w ws).eth = s.eth := rfl
@[simp] theorem State.send_can (s : State) (c : Chan) (w : Nat) (ws : List Word) : (s.send c w ws).can = s.can := rfl
@[simp] theorem State.send_pnl (s : State) (c : Chan) (w : Nat) (ws : List Word) : (s.send c w ws).pnl = s.pnl := rfl
@[simp] theorem State.send_bst (s : State) (c : Chan) (w : Nat) (ws : List Word) : (s.send c w ws).bst = s.bst := rfl
@[simp] theorem State.send_age (s : State) (c : Chan) (w : Nat) (ws : List Word) : (s.send c w ws).age = s.age := rfl
@[simp] theorem State.send_sfp (s : State) (c : Chan) (w : Nat) (ws : List Word) : (s.send c w ws).sfp = s.sfp := rfl
@[simp] theorem State.send_pfc (s : State) (c : Chan) (w : Nat) (ws : List Word) : (s.send c w ws).pfc = s.pfc := rfl
@[simp] theorem State.send_pfcAt (s : State) (c : Chan) (w : Nat) (ws : List Word) : (s.send c w ws).pfcAt = s.pfcAt := rfl

/-! ### setRec -/

@[simp] theorem State.setRec_pending (s : State) (t i : Nat) (ws : List Word) : (s.setRec t i ws).pending = s.pending := rfl
@[simp] theorem State.setRec_clk (s : State) (t i : Nat) (ws : List Word) : (s.setRec t i ws).clk = s.clk := rfl
@[simp] theorem State.setRec_time (s : State) (t i : Nat) (ws : List Word) : (s.setRec t i ws).time = s.time := rfl
@[simp] theorem State.setRec_timeFrac (s : State) (t i : Nat) (ws : List Word) : (s.setRec t i ws).timeFrac = s.timeFrac := rfl
@[simp] theorem State.setRec_free (s : State) (t i : Nat) (ws : List Word) : (s.setRec t i ws).free = s.free := rfl
@[simp] theorem State.setRec_regs (s : State) (t i : Nat) (ws : List Word) : (s.setRec t i ws).regs = s.regs := rfl
@[simp] theorem State.setRec_shadow (s : State) (t i : Nat) (ws : List Word) : (s.setRec t i ws).shadow = s.shadow := rfl
@[simp] theorem State.setRec_holding (s : State) (t i : Nat) (ws : List Word) : (s.setRec t i ws).holding = s.holding := rfl
@[simp] theorem State.setRec_peaked (s : State) (t i : Nat) (ws : List Word) : (s.setRec t i ws).peaked = s.peaked := rfl
@[simp] theorem State.setRec_mem (s : State) (t i : Nat) (ws : List Word) : (s.setRec t i ws).mem = s.mem := rfl
@[simp] theorem State.setRec_pts (s : State) (t i : Nat) (ws : List Word) : (s.setRec t i ws).pts = s.pts := rfl
@[simp] theorem State.setRec_outs (s : State) (t i : Nat) (ws : List Word) : (s.setRec t i ws).outs = s.outs := rfl
@[simp] theorem State.setRec_outsPrev (s : State) (t i : Nat) (ws : List Word) : (s.setRec t i ws).outsPrev = s.outsPrev := rfl
@[simp] theorem State.setRec_sent (s : State) (t i : Nat) (ws : List Word) : (s.setRec t i ws).sent = s.sent := rfl
@[simp] theorem State.setRec_sys (s : State) (t i : Nat) (ws : List Word) : (s.setRec t i ws).sys = s.sys := rfl
@[simp] theorem State.setRec_nv (s : State) (t i : Nat) (ws : List Word) : (s.setRec t i ws).nv = s.nv := rfl
@[simp] theorem State.setRec_fw (s : State) (t i : Nat) (ws : List Word) : (s.setRec t i ws).fw = s.fw := rfl
@[simp] theorem State.setRec_prt (s : State) (t i : Nat) (ws : List Word) : (s.setRec t i ws).prt = s.prt := rfl
@[simp] theorem State.setRec_lks (s : State) (t i : Nat) (ws : List Word) : (s.setRec t i ws).lks = s.lks := rfl
@[simp] theorem State.setRec_red (s : State) (t i : Nat) (ws : List Word) : (s.setRec t i ws).red = s.red := rfl
@[simp] theorem State.setRec_qe (s : State) (t i : Nat) (ws : List Word) : (s.setRec t i ws).qe = s.qe := rfl
@[simp] theorem State.setRec_evr (s : State) (t i : Nat) (ws : List Word) : (s.setRec t i ws).evr = s.evr := rfl
@[simp] theorem State.setRec_alm (s : State) (t i : Nat) (ws : List Word) : (s.setRec t i ws).alm = s.alm := rfl
@[simp] theorem State.setRec_ce (s : State) (t i : Nat) (ws : List Word) : (s.setRec t i ws).ce = s.ce := rfl
@[simp] theorem State.setRec_pg (s : State) (t i : Nat) (ws : List Word) : (s.setRec t i ws).pg = s.pg := rfl
@[simp] theorem State.setRec_ad (s : State) (t i : Nat) (ws : List Word) : (s.setRec t i ws).ad = s.ad := rfl
@[simp] theorem State.setRec_ph (s : State) (t i : Nat) (ws : List Word) : (s.setRec t i ws).ph = s.ph := rfl
@[simp] theorem State.setRec_tu (s : State) (t i : Nat) (ws : List Word) : (s.setRec t i ws).tu = s.tu := rfl
@[simp] theorem State.setRec_fio (s : State) (t i : Nat) (ws : List Word) : (s.setRec t i ws).fio = s.fio := rfl
@[simp] theorem State.setRec_rio (s : State) (t i : Nat) (ws : List Word) : (s.setRec t i ws).rio = s.rio := rfl
@[simp] theorem State.setRec_saf (s : State) (t i : Nat) (ws : List Word) : (s.setRec t i ws).saf = s.saf := rfl
@[simp] theorem State.setRec_eth (s : State) (t i : Nat) (ws : List Word) : (s.setRec t i ws).eth = s.eth := rfl
@[simp] theorem State.setRec_can (s : State) (t i : Nat) (ws : List Word) : (s.setRec t i ws).can = s.can := rfl
@[simp] theorem State.setRec_pnl (s : State) (t i : Nat) (ws : List Word) : (s.setRec t i ws).pnl = s.pnl := rfl
@[simp] theorem State.setRec_bst (s : State) (t i : Nat) (ws : List Word) : (s.setRec t i ws).bst = s.bst := rfl
@[simp] theorem State.setRec_age (s : State) (t i : Nat) (ws : List Word) : (s.setRec t i ws).age = s.age := rfl
@[simp] theorem State.setRec_sfp (s : State) (t i : Nat) (ws : List Word) : (s.setRec t i ws).sfp = s.sfp := rfl
@[simp] theorem State.setRec_pfc (s : State) (t i : Nat) (ws : List Word) : (s.setRec t i ws).pfc = s.pfc := rfl
@[simp] theorem State.setRec_pfcAt (s : State) (t i : Nat) (ws : List Word) : (s.setRec t i ws).pfcAt = s.pfcAt := rfl

/-! ### setByte -/

@[simp] theorem State.setByte_pending (s : State) (a : Nat) (v : Byte) : (s.setByte a v).pending = s.pending := rfl
@[simp] theorem State.setByte_clk (s : State) (a : Nat) (v : Byte) : (s.setByte a v).clk = s.clk := rfl
@[simp] theorem State.setByte_time (s : State) (a : Nat) (v : Byte) : (s.setByte a v).time = s.time := rfl
@[simp] theorem State.setByte_timeFrac (s : State) (a : Nat) (v : Byte) : (s.setByte a v).timeFrac = s.timeFrac := rfl
@[simp] theorem State.setByte_free (s : State) (a : Nat) (v : Byte) : (s.setByte a v).free = s.free := rfl
@[simp] theorem State.setByte_regs (s : State) (a : Nat) (v : Byte) : (s.setByte a v).regs = s.regs := rfl
@[simp] theorem State.setByte_shadow (s : State) (a : Nat) (v : Byte) : (s.setByte a v).shadow = s.shadow := rfl
@[simp] theorem State.setByte_holding (s : State) (a : Nat) (v : Byte) : (s.setByte a v).holding = s.holding := rfl
@[simp] theorem State.setByte_peaked (s : State) (a : Nat) (v : Byte) : (s.setByte a v).peaked = s.peaked := rfl
@[simp] theorem State.setByte_cfg (s : State) (a : Nat) (v : Byte) : (s.setByte a v).cfg = s.cfg := rfl
@[simp] theorem State.setByte_pts (s : State) (a : Nat) (v : Byte) : (s.setByte a v).pts = s.pts := rfl
@[simp] theorem State.setByte_outs (s : State) (a : Nat) (v : Byte) : (s.setByte a v).outs = s.outs := rfl
@[simp] theorem State.setByte_outsPrev (s : State) (a : Nat) (v : Byte) : (s.setByte a v).outsPrev = s.outsPrev := rfl
@[simp] theorem State.setByte_sent (s : State) (a : Nat) (v : Byte) : (s.setByte a v).sent = s.sent := rfl
@[simp] theorem State.setByte_sys (s : State) (a : Nat) (v : Byte) : (s.setByte a v).sys = s.sys := rfl
@[simp] theorem State.setByte_nv (s : State) (a : Nat) (v : Byte) : (s.setByte a v).nv = s.nv := rfl
@[simp] theorem State.setByte_fw (s : State) (a : Nat) (v : Byte) : (s.setByte a v).fw = s.fw := rfl
@[simp] theorem State.setByte_prt (s : State) (a : Nat) (v : Byte) : (s.setByte a v).prt = s.prt := rfl
@[simp] theorem State.setByte_lks (s : State) (a : Nat) (v : Byte) : (s.setByte a v).lks = s.lks := rfl
@[simp] theorem State.setByte_red (s : State) (a : Nat) (v : Byte) : (s.setByte a v).red = s.red := rfl
@[simp] theorem State.setByte_qe (s : State) (a : Nat) (v : Byte) : (s.setByte a v).qe = s.qe := rfl
@[simp] theorem State.setByte_evr (s : State) (a : Nat) (v : Byte) : (s.setByte a v).evr = s.evr := rfl
@[simp] theorem State.setByte_alm (s : State) (a : Nat) (v : Byte) : (s.setByte a v).alm = s.alm := rfl
@[simp] theorem State.setByte_ce (s : State) (a : Nat) (v : Byte) : (s.setByte a v).ce = s.ce := rfl
@[simp] theorem State.setByte_pg (s : State) (a : Nat) (v : Byte) : (s.setByte a v).pg = s.pg := rfl
@[simp] theorem State.setByte_ad (s : State) (a : Nat) (v : Byte) : (s.setByte a v).ad = s.ad := rfl
@[simp] theorem State.setByte_ph (s : State) (a : Nat) (v : Byte) : (s.setByte a v).ph = s.ph := rfl
@[simp] theorem State.setByte_tu (s : State) (a : Nat) (v : Byte) : (s.setByte a v).tu = s.tu := rfl
@[simp] theorem State.setByte_fio (s : State) (a : Nat) (v : Byte) : (s.setByte a v).fio = s.fio := rfl
@[simp] theorem State.setByte_rio (s : State) (a : Nat) (v : Byte) : (s.setByte a v).rio = s.rio := rfl
@[simp] theorem State.setByte_saf (s : State) (a : Nat) (v : Byte) : (s.setByte a v).saf = s.saf := rfl
@[simp] theorem State.setByte_eth (s : State) (a : Nat) (v : Byte) : (s.setByte a v).eth = s.eth := rfl
@[simp] theorem State.setByte_can (s : State) (a : Nat) (v : Byte) : (s.setByte a v).can = s.can := rfl
@[simp] theorem State.setByte_pnl (s : State) (a : Nat) (v : Byte) : (s.setByte a v).pnl = s.pnl := rfl
@[simp] theorem State.setByte_bst (s : State) (a : Nat) (v : Byte) : (s.setByte a v).bst = s.bst := rfl
@[simp] theorem State.setByte_age (s : State) (a : Nat) (v : Byte) : (s.setByte a v).age = s.age := rfl
@[simp] theorem State.setByte_sfp (s : State) (a : Nat) (v : Byte) : (s.setByte a v).sfp = s.sfp := rfl
@[simp] theorem State.setByte_pfc (s : State) (a : Nat) (v : Byte) : (s.setByte a v).pfc = s.pfc := rfl
@[simp] theorem State.setByte_pfcAt (s : State) (a : Nat) (v : Byte) : (s.setByte a v).pfcAt = s.pfcAt := rfl

/-! ### record -/

@[simp] theorem State.record_pending (s : State) (c r o b a m : Nat) (d : List Word) : (s.record c r o b a m d).pending = s.pending := rfl
@[simp] theorem State.record_clk (s : State) (c r o b a m : Nat) (d : List Word) : (s.record c r o b a m d).clk = s.clk := rfl
@[simp] theorem State.record_time (s : State) (c r o b a m : Nat) (d : List Word) : (s.record c r o b a m d).time = s.time := rfl
@[simp] theorem State.record_timeFrac (s : State) (c r o b a m : Nat) (d : List Word) : (s.record c r o b a m d).timeFrac = s.timeFrac := rfl
@[simp] theorem State.record_free (s : State) (c r o b a m : Nat) (d : List Word) : (s.record c r o b a m d).free = s.free := rfl
@[simp] theorem State.record_regs (s : State) (c r o b a m : Nat) (d : List Word) : (s.record c r o b a m d).regs = s.regs := rfl
@[simp] theorem State.record_shadow (s : State) (c r o b a m : Nat) (d : List Word) : (s.record c r o b a m d).shadow = s.shadow := rfl
@[simp] theorem State.record_holding (s : State) (c r o b a m : Nat) (d : List Word) : (s.record c r o b a m d).holding = s.holding := rfl
@[simp] theorem State.record_peaked (s : State) (c r o b a m : Nat) (d : List Word) : (s.record c r o b a m d).peaked = s.peaked := rfl
@[simp] theorem State.record_mem (s : State) (c r o b a m : Nat) (d : List Word) : (s.record c r o b a m d).mem = s.mem := rfl
@[simp] theorem State.record_cfg (s : State) (c r o b a m : Nat) (d : List Word) : (s.record c r o b a m d).cfg = s.cfg := rfl
@[simp] theorem State.record_pts (s : State) (c r o b a m : Nat) (d : List Word) : (s.record c r o b a m d).pts = s.pts := rfl
@[simp] theorem State.record_outs (s : State) (c r o b a m : Nat) (d : List Word) : (s.record c r o b a m d).outs = s.outs := rfl
@[simp] theorem State.record_outsPrev (s : State) (c r o b a m : Nat) (d : List Word) : (s.record c r o b a m d).outsPrev = s.outsPrev := rfl
@[simp] theorem State.record_sent (s : State) (c r o b a m : Nat) (d : List Word) : (s.record c r o b a m d).sent = s.sent := rfl
@[simp] theorem State.record_sys (s : State) (c r o b a m : Nat) (d : List Word) : (s.record c r o b a m d).sys = s.sys := rfl
@[simp] theorem State.record_nv (s : State) (c r o b a m : Nat) (d : List Word) : (s.record c r o b a m d).nv = s.nv := rfl
@[simp] theorem State.record_fw (s : State) (c r o b a m : Nat) (d : List Word) : (s.record c r o b a m d).fw = s.fw := rfl
@[simp] theorem State.record_prt (s : State) (c r o b a m : Nat) (d : List Word) : (s.record c r o b a m d).prt = s.prt := rfl
@[simp] theorem State.record_lks (s : State) (c r o b a m : Nat) (d : List Word) : (s.record c r o b a m d).lks = s.lks := rfl
@[simp] theorem State.record_red (s : State) (c r o b a m : Nat) (d : List Word) : (s.record c r o b a m d).red = s.red := rfl
@[simp] theorem State.record_qe (s : State) (c r o b a m : Nat) (d : List Word) : (s.record c r o b a m d).qe = s.qe := rfl
@[simp] theorem State.record_alm (s : State) (c r o b a m : Nat) (d : List Word) : (s.record c r o b a m d).alm = s.alm := rfl
@[simp] theorem State.record_ce (s : State) (c r o b a m : Nat) (d : List Word) : (s.record c r o b a m d).ce = s.ce := rfl
@[simp] theorem State.record_pg (s : State) (c r o b a m : Nat) (d : List Word) : (s.record c r o b a m d).pg = s.pg := rfl
@[simp] theorem State.record_ad (s : State) (c r o b a m : Nat) (d : List Word) : (s.record c r o b a m d).ad = s.ad := rfl
@[simp] theorem State.record_ph (s : State) (c r o b a m : Nat) (d : List Word) : (s.record c r o b a m d).ph = s.ph := rfl
@[simp] theorem State.record_tu (s : State) (c r o b a m : Nat) (d : List Word) : (s.record c r o b a m d).tu = s.tu := rfl
@[simp] theorem State.record_fio (s : State) (c r o b a m : Nat) (d : List Word) : (s.record c r o b a m d).fio = s.fio := rfl
@[simp] theorem State.record_rio (s : State) (c r o b a m : Nat) (d : List Word) : (s.record c r o b a m d).rio = s.rio := rfl
@[simp] theorem State.record_saf (s : State) (c r o b a m : Nat) (d : List Word) : (s.record c r o b a m d).saf = s.saf := rfl
@[simp] theorem State.record_eth (s : State) (c r o b a m : Nat) (d : List Word) : (s.record c r o b a m d).eth = s.eth := rfl
@[simp] theorem State.record_can (s : State) (c r o b a m : Nat) (d : List Word) : (s.record c r o b a m d).can = s.can := rfl
@[simp] theorem State.record_pnl (s : State) (c r o b a m : Nat) (d : List Word) : (s.record c r o b a m d).pnl = s.pnl := rfl
@[simp] theorem State.record_bst (s : State) (c r o b a m : Nat) (d : List Word) : (s.record c r o b a m d).bst = s.bst := rfl
@[simp] theorem State.record_age (s : State) (c r o b a m : Nat) (d : List Word) : (s.record c r o b a m d).age = s.age := rfl
@[simp] theorem State.record_sfp (s : State) (c r o b a m : Nat) (d : List Word) : (s.record c r o b a m d).sfp = s.sfp := rfl
@[simp] theorem State.record_pfc (s : State) (c r o b a m : Nat) (d : List Word) : (s.record c r o b a m d).pfc = s.pfc := rfl
@[simp] theorem State.record_pfcAt (s : State) (c r o b a m : Nat) (d : List Word) : (s.record c r o b a m d).pfcAt = s.pfcAt := rfl

/-! ### note -/

@[simp] theorem State.note_pending (s : State) (c r o : Nat) : (s.note c r o).pending = s.pending := rfl
@[simp] theorem State.note_clk (s : State) (c r o : Nat) : (s.note c r o).clk = s.clk := rfl
@[simp] theorem State.note_time (s : State) (c r o : Nat) : (s.note c r o).time = s.time := rfl
@[simp] theorem State.note_timeFrac (s : State) (c r o : Nat) : (s.note c r o).timeFrac = s.timeFrac := rfl
@[simp] theorem State.note_free (s : State) (c r o : Nat) : (s.note c r o).free = s.free := rfl
@[simp] theorem State.note_regs (s : State) (c r o : Nat) : (s.note c r o).regs = s.regs := rfl
@[simp] theorem State.note_shadow (s : State) (c r o : Nat) : (s.note c r o).shadow = s.shadow := rfl
@[simp] theorem State.note_holding (s : State) (c r o : Nat) : (s.note c r o).holding = s.holding := rfl
@[simp] theorem State.note_peaked (s : State) (c r o : Nat) : (s.note c r o).peaked = s.peaked := rfl
@[simp] theorem State.note_mem (s : State) (c r o : Nat) : (s.note c r o).mem = s.mem := rfl
@[simp] theorem State.note_cfg (s : State) (c r o : Nat) : (s.note c r o).cfg = s.cfg := rfl
@[simp] theorem State.note_pts (s : State) (c r o : Nat) : (s.note c r o).pts = s.pts := rfl
@[simp] theorem State.note_outs (s : State) (c r o : Nat) : (s.note c r o).outs = s.outs := rfl
@[simp] theorem State.note_outsPrev (s : State) (c r o : Nat) : (s.note c r o).outsPrev = s.outsPrev := rfl
@[simp] theorem State.note_sent (s : State) (c r o : Nat) : (s.note c r o).sent = s.sent := rfl
@[simp] theorem State.note_sys (s : State) (c r o : Nat) : (s.note c r o).sys = s.sys := rfl
@[simp] theorem State.note_nv (s : State) (c r o : Nat) : (s.note c r o).nv = s.nv := rfl
@[simp] theorem State.note_fw (s : State) (c r o : Nat) : (s.note c r o).fw = s.fw := rfl
@[simp] theorem State.note_prt (s : State) (c r o : Nat) : (s.note c r o).prt = s.prt := rfl
@[simp] theorem State.note_lks (s : State) (c r o : Nat) : (s.note c r o).lks = s.lks := rfl
@[simp] theorem State.note_red (s : State) (c r o : Nat) : (s.note c r o).red = s.red := rfl
@[simp] theorem State.note_qe (s : State) (c r o : Nat) : (s.note c r o).qe = s.qe := rfl
@[simp] theorem State.note_alm (s : State) (c r o : Nat) : (s.note c r o).alm = s.alm := rfl
@[simp] theorem State.note_ce (s : State) (c r o : Nat) : (s.note c r o).ce = s.ce := rfl
@[simp] theorem State.note_pg (s : State) (c r o : Nat) : (s.note c r o).pg = s.pg := rfl
@[simp] theorem State.note_ad (s : State) (c r o : Nat) : (s.note c r o).ad = s.ad := rfl
@[simp] theorem State.note_ph (s : State) (c r o : Nat) : (s.note c r o).ph = s.ph := rfl
@[simp] theorem State.note_tu (s : State) (c r o : Nat) : (s.note c r o).tu = s.tu := rfl
@[simp] theorem State.note_fio (s : State) (c r o : Nat) : (s.note c r o).fio = s.fio := rfl
@[simp] theorem State.note_rio (s : State) (c r o : Nat) : (s.note c r o).rio = s.rio := rfl
@[simp] theorem State.note_saf (s : State) (c r o : Nat) : (s.note c r o).saf = s.saf := rfl
@[simp] theorem State.note_eth (s : State) (c r o : Nat) : (s.note c r o).eth = s.eth := rfl
@[simp] theorem State.note_can (s : State) (c r o : Nat) : (s.note c r o).can = s.can := rfl
@[simp] theorem State.note_pnl (s : State) (c r o : Nat) : (s.note c r o).pnl = s.pnl := rfl
@[simp] theorem State.note_bst (s : State) (c r o : Nat) : (s.note c r o).bst = s.bst := rfl
@[simp] theorem State.note_age (s : State) (c r o : Nat) : (s.note c r o).age = s.age := rfl
@[simp] theorem State.note_sfp (s : State) (c r o : Nat) : (s.note c r o).sfp = s.sfp := rfl
@[simp] theorem State.note_pfc (s : State) (c r o : Nat) : (s.note c r o).pfc = s.pfc := rfl
@[simp] theorem State.note_pfcAt (s : State) (c r o : Nat) : (s.note c r o).pfcAt = s.pfcAt := rfl

/-! ### clearAlert -/

@[simp] theorem State.clearAlert_pending (s : State) (r o : Nat) : (s.clearAlert r o).pending = s.pending := rfl
@[simp] theorem State.clearAlert_clk (s : State) (r o : Nat) : (s.clearAlert r o).clk = s.clk := rfl
@[simp] theorem State.clearAlert_time (s : State) (r o : Nat) : (s.clearAlert r o).time = s.time := rfl
@[simp] theorem State.clearAlert_timeFrac (s : State) (r o : Nat) : (s.clearAlert r o).timeFrac = s.timeFrac := rfl
@[simp] theorem State.clearAlert_free (s : State) (r o : Nat) : (s.clearAlert r o).free = s.free := rfl
@[simp] theorem State.clearAlert_regs (s : State) (r o : Nat) : (s.clearAlert r o).regs = s.regs := rfl
@[simp] theorem State.clearAlert_shadow (s : State) (r o : Nat) : (s.clearAlert r o).shadow = s.shadow := rfl
@[simp] theorem State.clearAlert_holding (s : State) (r o : Nat) : (s.clearAlert r o).holding = s.holding := rfl
@[simp] theorem State.clearAlert_peaked (s : State) (r o : Nat) : (s.clearAlert r o).peaked = s.peaked := rfl
@[simp] theorem State.clearAlert_mem (s : State) (r o : Nat) : (s.clearAlert r o).mem = s.mem := rfl
@[simp] theorem State.clearAlert_cfg (s : State) (r o : Nat) : (s.clearAlert r o).cfg = s.cfg := rfl
@[simp] theorem State.clearAlert_pts (s : State) (r o : Nat) : (s.clearAlert r o).pts = s.pts := rfl
@[simp] theorem State.clearAlert_outs (s : State) (r o : Nat) : (s.clearAlert r o).outs = s.outs := rfl
@[simp] theorem State.clearAlert_outsPrev (s : State) (r o : Nat) : (s.clearAlert r o).outsPrev = s.outsPrev := rfl
@[simp] theorem State.clearAlert_sent (s : State) (r o : Nat) : (s.clearAlert r o).sent = s.sent := rfl
@[simp] theorem State.clearAlert_nv (s : State) (r o : Nat) : (s.clearAlert r o).nv = s.nv := rfl
@[simp] theorem State.clearAlert_fw (s : State) (r o : Nat) : (s.clearAlert r o).fw = s.fw := rfl
@[simp] theorem State.clearAlert_prt (s : State) (r o : Nat) : (s.clearAlert r o).prt = s.prt := rfl
@[simp] theorem State.clearAlert_lks (s : State) (r o : Nat) : (s.clearAlert r o).lks = s.lks := rfl
@[simp] theorem State.clearAlert_red (s : State) (r o : Nat) : (s.clearAlert r o).red = s.red := rfl
@[simp] theorem State.clearAlert_qe (s : State) (r o : Nat) : (s.clearAlert r o).qe = s.qe := rfl
@[simp] theorem State.clearAlert_evr (s : State) (r o : Nat) : (s.clearAlert r o).evr = s.evr := rfl
@[simp] theorem State.clearAlert_alm (s : State) (r o : Nat) : (s.clearAlert r o).alm = s.alm := rfl
@[simp] theorem State.clearAlert_ce (s : State) (r o : Nat) : (s.clearAlert r o).ce = s.ce := rfl
@[simp] theorem State.clearAlert_pg (s : State) (r o : Nat) : (s.clearAlert r o).pg = s.pg := rfl
@[simp] theorem State.clearAlert_ad (s : State) (r o : Nat) : (s.clearAlert r o).ad = s.ad := rfl
@[simp] theorem State.clearAlert_ph (s : State) (r o : Nat) : (s.clearAlert r o).ph = s.ph := rfl
@[simp] theorem State.clearAlert_tu (s : State) (r o : Nat) : (s.clearAlert r o).tu = s.tu := rfl
@[simp] theorem State.clearAlert_fio (s : State) (r o : Nat) : (s.clearAlert r o).fio = s.fio := rfl
@[simp] theorem State.clearAlert_rio (s : State) (r o : Nat) : (s.clearAlert r o).rio = s.rio := rfl
@[simp] theorem State.clearAlert_saf (s : State) (r o : Nat) : (s.clearAlert r o).saf = s.saf := rfl
@[simp] theorem State.clearAlert_eth (s : State) (r o : Nat) : (s.clearAlert r o).eth = s.eth := rfl
@[simp] theorem State.clearAlert_can (s : State) (r o : Nat) : (s.clearAlert r o).can = s.can := rfl
@[simp] theorem State.clearAlert_pnl (s : State) (r o : Nat) : (s.clearAlert r o).pnl = s.pnl := rfl
@[simp] theorem State.clearAlert_bst (s : State) (r o : Nat) : (s.clearAlert r o).bst = s.bst := rfl
@[simp] theorem State.clearAlert_age (s : State) (r o : Nat) : (s.clearAlert r o).age = s.age := rfl
@[simp] theorem State.clearAlert_sfp (s : State) (r o : Nat) : (s.clearAlert r o).sfp = s.sfp := rfl
@[simp] theorem State.clearAlert_pfc (s : State) (r o : Nat) : (s.clearAlert r o).pfc = s.pfc := rfl
@[simp] theorem State.clearAlert_pfcAt (s : State) (r o : Nat) : (s.clearAlert r o).pfcAt = s.pfcAt := rfl

/-! ### degrade -/

@[simp] theorem State.degrade_pending (s : State) : (s.degrade).pending = s.pending := rfl
@[simp] theorem State.degrade_clk (s : State) : (s.degrade).clk = s.clk := rfl
@[simp] theorem State.degrade_time (s : State) : (s.degrade).time = s.time := rfl
@[simp] theorem State.degrade_timeFrac (s : State) : (s.degrade).timeFrac = s.timeFrac := rfl
@[simp] theorem State.degrade_free (s : State) : (s.degrade).free = s.free := rfl
@[simp] theorem State.degrade_shadow (s : State) : (s.degrade).shadow = s.shadow := rfl
@[simp] theorem State.degrade_holding (s : State) : (s.degrade).holding = s.holding := rfl
@[simp] theorem State.degrade_peaked (s : State) : (s.degrade).peaked = s.peaked := rfl
@[simp] theorem State.degrade_mem (s : State) : (s.degrade).mem = s.mem := rfl
@[simp] theorem State.degrade_cfg (s : State) : (s.degrade).cfg = s.cfg := rfl
@[simp] theorem State.degrade_pts (s : State) : (s.degrade).pts = s.pts := rfl
@[simp] theorem State.degrade_outs (s : State) : (s.degrade).outs = s.outs := rfl
@[simp] theorem State.degrade_outsPrev (s : State) : (s.degrade).outsPrev = s.outsPrev := rfl
@[simp] theorem State.degrade_sent (s : State) : (s.degrade).sent = s.sent := rfl
@[simp] theorem State.degrade_sys (s : State) : (s.degrade).sys = s.sys := rfl
@[simp] theorem State.degrade_nv (s : State) : (s.degrade).nv = s.nv := rfl
@[simp] theorem State.degrade_fw (s : State) : (s.degrade).fw = s.fw := rfl
@[simp] theorem State.degrade_prt (s : State) : (s.degrade).prt = s.prt := rfl
@[simp] theorem State.degrade_lks (s : State) : (s.degrade).lks = s.lks := rfl
@[simp] theorem State.degrade_red (s : State) : (s.degrade).red = s.red := rfl
@[simp] theorem State.degrade_qe (s : State) : (s.degrade).qe = s.qe := rfl
@[simp] theorem State.degrade_evr (s : State) : (s.degrade).evr = s.evr := rfl
@[simp] theorem State.degrade_alm (s : State) : (s.degrade).alm = s.alm := rfl
@[simp] theorem State.degrade_ce (s : State) : (s.degrade).ce = s.ce := rfl
@[simp] theorem State.degrade_pg (s : State) : (s.degrade).pg = s.pg := rfl
@[simp] theorem State.degrade_ad (s : State) : (s.degrade).ad = s.ad := rfl
@[simp] theorem State.degrade_ph (s : State) : (s.degrade).ph = s.ph := rfl
@[simp] theorem State.degrade_tu (s : State) : (s.degrade).tu = s.tu := rfl
@[simp] theorem State.degrade_fio (s : State) : (s.degrade).fio = s.fio := rfl
@[simp] theorem State.degrade_rio (s : State) : (s.degrade).rio = s.rio := rfl
@[simp] theorem State.degrade_saf (s : State) : (s.degrade).saf = s.saf := rfl
@[simp] theorem State.degrade_eth (s : State) : (s.degrade).eth = s.eth := rfl
@[simp] theorem State.degrade_can (s : State) : (s.degrade).can = s.can := rfl
@[simp] theorem State.degrade_pnl (s : State) : (s.degrade).pnl = s.pnl := rfl
@[simp] theorem State.degrade_bst (s : State) : (s.degrade).bst = s.bst := rfl
@[simp] theorem State.degrade_age (s : State) : (s.degrade).age = s.age := rfl
@[simp] theorem State.degrade_sfp (s : State) : (s.degrade).sfp = s.sfp := rfl
@[simp] theorem State.degrade_pfc (s : State) : (s.degrade).pfc = s.pfc := rfl
@[simp] theorem State.degrade_pfcAt (s : State) : (s.degrade).pfcAt = s.pfcAt := rfl

/-! ### publish -/

@[simp] theorem State.publish_pending (s : State) (a : Nat) (v : Word64) : (s.publish a v).pending = s.pending := rfl
@[simp] theorem State.publish_clk (s : State) (a : Nat) (v : Word64) : (s.publish a v).clk = s.clk := rfl
@[simp] theorem State.publish_time (s : State) (a : Nat) (v : Word64) : (s.publish a v).time = s.time := rfl
@[simp] theorem State.publish_timeFrac (s : State) (a : Nat) (v : Word64) : (s.publish a v).timeFrac = s.timeFrac := rfl
@[simp] theorem State.publish_free (s : State) (a : Nat) (v : Word64) : (s.publish a v).free = s.free := rfl
@[simp] theorem State.publish_regs (s : State) (a : Nat) (v : Word64) : (s.publish a v).regs = s.regs := rfl
@[simp] theorem State.publish_shadow (s : State) (a : Nat) (v : Word64) : (s.publish a v).shadow = s.shadow := rfl
@[simp] theorem State.publish_holding (s : State) (a : Nat) (v : Word64) : (s.publish a v).holding = s.holding := rfl
@[simp] theorem State.publish_peaked (s : State) (a : Nat) (v : Word64) : (s.publish a v).peaked = s.peaked := rfl
@[simp] theorem State.publish_mem (s : State) (a : Nat) (v : Word64) : (s.publish a v).mem = s.mem := rfl
@[simp] theorem State.publish_cfg (s : State) (a : Nat) (v : Word64) : (s.publish a v).cfg = s.cfg := rfl
@[simp] theorem State.publish_pts (s : State) (a : Nat) (v : Word64) : (s.publish a v).pts = s.pts := rfl
@[simp] theorem State.publish_sent (s : State) (a : Nat) (v : Word64) : (s.publish a v).sent = s.sent := rfl
@[simp] theorem State.publish_sys (s : State) (a : Nat) (v : Word64) : (s.publish a v).sys = s.sys := rfl
@[simp] theorem State.publish_nv (s : State) (a : Nat) (v : Word64) : (s.publish a v).nv = s.nv := rfl
@[simp] theorem State.publish_fw (s : State) (a : Nat) (v : Word64) : (s.publish a v).fw = s.fw := rfl
@[simp] theorem State.publish_prt (s : State) (a : Nat) (v : Word64) : (s.publish a v).prt = s.prt := rfl
@[simp] theorem State.publish_lks (s : State) (a : Nat) (v : Word64) : (s.publish a v).lks = s.lks := rfl
@[simp] theorem State.publish_red (s : State) (a : Nat) (v : Word64) : (s.publish a v).red = s.red := rfl
@[simp] theorem State.publish_qe (s : State) (a : Nat) (v : Word64) : (s.publish a v).qe = s.qe := rfl
@[simp] theorem State.publish_evr (s : State) (a : Nat) (v : Word64) : (s.publish a v).evr = s.evr := rfl
@[simp] theorem State.publish_alm (s : State) (a : Nat) (v : Word64) : (s.publish a v).alm = s.alm := rfl
@[simp] theorem State.publish_ce (s : State) (a : Nat) (v : Word64) : (s.publish a v).ce = s.ce := rfl
@[simp] theorem State.publish_pg (s : State) (a : Nat) (v : Word64) : (s.publish a v).pg = s.pg := rfl
@[simp] theorem State.publish_ad (s : State) (a : Nat) (v : Word64) : (s.publish a v).ad = s.ad := rfl
@[simp] theorem State.publish_ph (s : State) (a : Nat) (v : Word64) : (s.publish a v).ph = s.ph := rfl
@[simp] theorem State.publish_tu (s : State) (a : Nat) (v : Word64) : (s.publish a v).tu = s.tu := rfl
@[simp] theorem State.publish_fio (s : State) (a : Nat) (v : Word64) : (s.publish a v).fio = s.fio := rfl
@[simp] theorem State.publish_rio (s : State) (a : Nat) (v : Word64) : (s.publish a v).rio = s.rio := rfl
@[simp] theorem State.publish_saf (s : State) (a : Nat) (v : Word64) : (s.publish a v).saf = s.saf := rfl
@[simp] theorem State.publish_eth (s : State) (a : Nat) (v : Word64) : (s.publish a v).eth = s.eth := rfl
@[simp] theorem State.publish_can (s : State) (a : Nat) (v : Word64) : (s.publish a v).can = s.can := rfl
@[simp] theorem State.publish_pnl (s : State) (a : Nat) (v : Word64) : (s.publish a v).pnl = s.pnl := rfl
@[simp] theorem State.publish_bst (s : State) (a : Nat) (v : Word64) : (s.publish a v).bst = s.bst := rfl
@[simp] theorem State.publish_age (s : State) (a : Nat) (v : Word64) : (s.publish a v).age = s.age := rfl
@[simp] theorem State.publish_sfp (s : State) (a : Nat) (v : Word64) : (s.publish a v).sfp = s.sfp := rfl
@[simp] theorem State.publish_pfc (s : State) (a : Nat) (v : Word64) : (s.publish a v).pfc = s.pfc := rfl
@[simp] theorem State.publish_pfcAt (s : State) (a : Nat) (v : Word64) : (s.publish a v).pfcAt = s.pfcAt := rfl

/-! ### setPoint -/

@[simp] theorem State.setPoint_pending (s : State) (a v q : Nat) : (s.setPoint a v q).pending = s.pending := rfl
@[simp] theorem State.setPoint_clk (s : State) (a v q : Nat) : (s.setPoint a v q).clk = s.clk := rfl
@[simp] theorem State.setPoint_time (s : State) (a v q : Nat) : (s.setPoint a v q).time = s.time := rfl
@[simp] theorem State.setPoint_timeFrac (s : State) (a v q : Nat) : (s.setPoint a v q).timeFrac = s.timeFrac := rfl
@[simp] theorem State.setPoint_free (s : State) (a v q : Nat) : (s.setPoint a v q).free = s.free := rfl
@[simp] theorem State.setPoint_regs (s : State) (a v q : Nat) : (s.setPoint a v q).regs = s.regs := rfl
@[simp] theorem State.setPoint_shadow (s : State) (a v q : Nat) : (s.setPoint a v q).shadow = s.shadow := rfl
@[simp] theorem State.setPoint_holding (s : State) (a v q : Nat) : (s.setPoint a v q).holding = s.holding := rfl
@[simp] theorem State.setPoint_peaked (s : State) (a v q : Nat) : (s.setPoint a v q).peaked = s.peaked := rfl
@[simp] theorem State.setPoint_mem (s : State) (a v q : Nat) : (s.setPoint a v q).mem = s.mem := rfl
@[simp] theorem State.setPoint_cfg (s : State) (a v q : Nat) : (s.setPoint a v q).cfg = s.cfg := rfl
@[simp] theorem State.setPoint_outs (s : State) (a v q : Nat) : (s.setPoint a v q).outs = s.outs := rfl
@[simp] theorem State.setPoint_outsPrev (s : State) (a v q : Nat) : (s.setPoint a v q).outsPrev = s.outsPrev := rfl
@[simp] theorem State.setPoint_sent (s : State) (a v q : Nat) : (s.setPoint a v q).sent = s.sent := rfl
@[simp] theorem State.setPoint_sys (s : State) (a v q : Nat) : (s.setPoint a v q).sys = s.sys := rfl
@[simp] theorem State.setPoint_nv (s : State) (a v q : Nat) : (s.setPoint a v q).nv = s.nv := rfl
@[simp] theorem State.setPoint_fw (s : State) (a v q : Nat) : (s.setPoint a v q).fw = s.fw := rfl
@[simp] theorem State.setPoint_prt (s : State) (a v q : Nat) : (s.setPoint a v q).prt = s.prt := rfl
@[simp] theorem State.setPoint_lks (s : State) (a v q : Nat) : (s.setPoint a v q).lks = s.lks := rfl
@[simp] theorem State.setPoint_red (s : State) (a v q : Nat) : (s.setPoint a v q).red = s.red := rfl
@[simp] theorem State.setPoint_qe (s : State) (a v q : Nat) : (s.setPoint a v q).qe = s.qe := rfl
@[simp] theorem State.setPoint_evr (s : State) (a v q : Nat) : (s.setPoint a v q).evr = s.evr := rfl
@[simp] theorem State.setPoint_alm (s : State) (a v q : Nat) : (s.setPoint a v q).alm = s.alm := rfl
@[simp] theorem State.setPoint_ce (s : State) (a v q : Nat) : (s.setPoint a v q).ce = s.ce := rfl
@[simp] theorem State.setPoint_pg (s : State) (a v q : Nat) : (s.setPoint a v q).pg = s.pg := rfl
@[simp] theorem State.setPoint_ad (s : State) (a v q : Nat) : (s.setPoint a v q).ad = s.ad := rfl
@[simp] theorem State.setPoint_ph (s : State) (a v q : Nat) : (s.setPoint a v q).ph = s.ph := rfl
@[simp] theorem State.setPoint_tu (s : State) (a v q : Nat) : (s.setPoint a v q).tu = s.tu := rfl
@[simp] theorem State.setPoint_fio (s : State) (a v q : Nat) : (s.setPoint a v q).fio = s.fio := rfl
@[simp] theorem State.setPoint_rio (s : State) (a v q : Nat) : (s.setPoint a v q).rio = s.rio := rfl
@[simp] theorem State.setPoint_saf (s : State) (a v q : Nat) : (s.setPoint a v q).saf = s.saf := rfl
@[simp] theorem State.setPoint_eth (s : State) (a v q : Nat) : (s.setPoint a v q).eth = s.eth := rfl
@[simp] theorem State.setPoint_can (s : State) (a v q : Nat) : (s.setPoint a v q).can = s.can := rfl
@[simp] theorem State.setPoint_pnl (s : State) (a v q : Nat) : (s.setPoint a v q).pnl = s.pnl := rfl
@[simp] theorem State.setPoint_bst (s : State) (a v q : Nat) : (s.setPoint a v q).bst = s.bst := rfl
@[simp] theorem State.setPoint_age (s : State) (a v q : Nat) : (s.setPoint a v q).age = s.age := rfl
@[simp] theorem State.setPoint_sfp (s : State) (a v q : Nat) : (s.setPoint a v q).sfp = s.sfp := rfl
@[simp] theorem State.setPoint_pfc (s : State) (a v q : Nat) : (s.setPoint a v q).pfc = s.pfc := rfl
@[simp] theorem State.setPoint_pfcAt (s : State) (a v q : Nat) : (s.setPoint a v q).pfcAt = s.pfcAt := rfl

/-! ### setQuality -/

@[simp] theorem State.setQuality_pending (s : State) (a q : Nat) : (s.setQuality a q).pending = s.pending := rfl
@[simp] theorem State.setQuality_clk (s : State) (a q : Nat) : (s.setQuality a q).clk = s.clk := rfl
@[simp] theorem State.setQuality_time (s : State) (a q : Nat) : (s.setQuality a q).time = s.time := rfl
@[simp] theorem State.setQuality_timeFrac (s : State) (a q : Nat) : (s.setQuality a q).timeFrac = s.timeFrac := rfl
@[simp] theorem State.setQuality_free (s : State) (a q : Nat) : (s.setQuality a q).free = s.free := rfl
@[simp] theorem State.setQuality_regs (s : State) (a q : Nat) : (s.setQuality a q).regs = s.regs := rfl
@[simp] theorem State.setQuality_shadow (s : State) (a q : Nat) : (s.setQuality a q).shadow = s.shadow := rfl
@[simp] theorem State.setQuality_holding (s : State) (a q : Nat) : (s.setQuality a q).holding = s.holding := rfl
@[simp] theorem State.setQuality_peaked (s : State) (a q : Nat) : (s.setQuality a q).peaked = s.peaked := rfl
@[simp] theorem State.setQuality_mem (s : State) (a q : Nat) : (s.setQuality a q).mem = s.mem := rfl
@[simp] theorem State.setQuality_cfg (s : State) (a q : Nat) : (s.setQuality a q).cfg = s.cfg := rfl
@[simp] theorem State.setQuality_outs (s : State) (a q : Nat) : (s.setQuality a q).outs = s.outs := rfl
@[simp] theorem State.setQuality_outsPrev (s : State) (a q : Nat) : (s.setQuality a q).outsPrev = s.outsPrev := rfl
@[simp] theorem State.setQuality_sent (s : State) (a q : Nat) : (s.setQuality a q).sent = s.sent := rfl
@[simp] theorem State.setQuality_sys (s : State) (a q : Nat) : (s.setQuality a q).sys = s.sys := rfl
@[simp] theorem State.setQuality_nv (s : State) (a q : Nat) : (s.setQuality a q).nv = s.nv := rfl
@[simp] theorem State.setQuality_fw (s : State) (a q : Nat) : (s.setQuality a q).fw = s.fw := rfl
@[simp] theorem State.setQuality_prt (s : State) (a q : Nat) : (s.setQuality a q).prt = s.prt := rfl
@[simp] theorem State.setQuality_lks (s : State) (a q : Nat) : (s.setQuality a q).lks = s.lks := rfl
@[simp] theorem State.setQuality_red (s : State) (a q : Nat) : (s.setQuality a q).red = s.red := rfl
@[simp] theorem State.setQuality_qe (s : State) (a q : Nat) : (s.setQuality a q).qe = s.qe := rfl
@[simp] theorem State.setQuality_evr (s : State) (a q : Nat) : (s.setQuality a q).evr = s.evr := rfl
@[simp] theorem State.setQuality_alm (s : State) (a q : Nat) : (s.setQuality a q).alm = s.alm := rfl
@[simp] theorem State.setQuality_ce (s : State) (a q : Nat) : (s.setQuality a q).ce = s.ce := rfl
@[simp] theorem State.setQuality_pg (s : State) (a q : Nat) : (s.setQuality a q).pg = s.pg := rfl
@[simp] theorem State.setQuality_ad (s : State) (a q : Nat) : (s.setQuality a q).ad = s.ad := rfl
@[simp] theorem State.setQuality_ph (s : State) (a q : Nat) : (s.setQuality a q).ph = s.ph := rfl
@[simp] theorem State.setQuality_tu (s : State) (a q : Nat) : (s.setQuality a q).tu = s.tu := rfl
@[simp] theorem State.setQuality_fio (s : State) (a q : Nat) : (s.setQuality a q).fio = s.fio := rfl
@[simp] theorem State.setQuality_rio (s : State) (a q : Nat) : (s.setQuality a q).rio = s.rio := rfl
@[simp] theorem State.setQuality_saf (s : State) (a q : Nat) : (s.setQuality a q).saf = s.saf := rfl
@[simp] theorem State.setQuality_eth (s : State) (a q : Nat) : (s.setQuality a q).eth = s.eth := rfl
@[simp] theorem State.setQuality_can (s : State) (a q : Nat) : (s.setQuality a q).can = s.can := rfl
@[simp] theorem State.setQuality_pnl (s : State) (a q : Nat) : (s.setQuality a q).pnl = s.pnl := rfl
@[simp] theorem State.setQuality_bst (s : State) (a q : Nat) : (s.setQuality a q).bst = s.bst := rfl
@[simp] theorem State.setQuality_age (s : State) (a q : Nat) : (s.setQuality a q).age = s.age := rfl
@[simp] theorem State.setQuality_sfp (s : State) (a q : Nat) : (s.setQuality a q).sfp = s.sfp := rfl
@[simp] theorem State.setQuality_pfc (s : State) (a q : Nat) : (s.setQuality a q).pfc = s.pfc := rfl
@[simp] theorem State.setQuality_pfcAt (s : State) (a q : Nat) : (s.setQuality a q).pfcAt = s.pfcAt := rfl

/-! ### peak -/

@[simp] theorem State.peak_pending (s : State) (f : Fld) (v : Nat) : (s.peak f v).pending = s.pending := by
  unfold State.peak; split <;> rfl
@[simp] theorem State.peak_clk (s : State) (f : Fld) (v : Nat) : (s.peak f v).clk = s.clk := by
  unfold State.peak; split <;> rfl
@[simp] theorem State.peak_time (s : State) (f : Fld) (v : Nat) : (s.peak f v).time = s.time := by
  unfold State.peak; split <;> rfl
@[simp] theorem State.peak_timeFrac (s : State) (f : Fld) (v : Nat) : (s.peak f v).timeFrac = s.timeFrac := by
  unfold State.peak; split <;> rfl
@[simp] theorem State.peak_free (s : State) (f : Fld) (v : Nat) : (s.peak f v).free = s.free := by
  unfold State.peak; split <;> rfl
@[simp] theorem State.peak_shadow (s : State) (f : Fld) (v : Nat) : (s.peak f v).shadow = s.shadow := by
  unfold State.peak; split <;> rfl
@[simp] theorem State.peak_holding (s : State) (f : Fld) (v : Nat) : (s.peak f v).holding = s.holding := by
  unfold State.peak; split <;> rfl
@[simp] theorem State.peak_peaked (s : State) (f : Fld) (v : Nat) : (s.peak f v).peaked = s.peaked := by
  unfold State.peak; split <;> rfl
@[simp] theorem State.peak_mem (s : State) (f : Fld) (v : Nat) : (s.peak f v).mem = s.mem := by
  unfold State.peak; split <;> rfl
@[simp] theorem State.peak_cfg (s : State) (f : Fld) (v : Nat) : (s.peak f v).cfg = s.cfg := by
  unfold State.peak; split <;> rfl
@[simp] theorem State.peak_pts (s : State) (f : Fld) (v : Nat) : (s.peak f v).pts = s.pts := by
  unfold State.peak; split <;> rfl
@[simp] theorem State.peak_outs (s : State) (f : Fld) (v : Nat) : (s.peak f v).outs = s.outs := by
  unfold State.peak; split <;> rfl
@[simp] theorem State.peak_outsPrev (s : State) (f : Fld) (v : Nat) : (s.peak f v).outsPrev = s.outsPrev := by
  unfold State.peak; split <;> rfl
@[simp] theorem State.peak_sent (s : State) (f : Fld) (v : Nat) : (s.peak f v).sent = s.sent := by
  unfold State.peak; split <;> rfl
@[simp] theorem State.peak_sys (s : State) (f : Fld) (v : Nat) : (s.peak f v).sys = s.sys := by
  unfold State.peak; split <;> rfl
@[simp] theorem State.peak_nv (s : State) (f : Fld) (v : Nat) : (s.peak f v).nv = s.nv := by
  unfold State.peak; split <;> rfl
@[simp] theorem State.peak_fw (s : State) (f : Fld) (v : Nat) : (s.peak f v).fw = s.fw := by
  unfold State.peak; split <;> rfl
@[simp] theorem State.peak_prt (s : State) (f : Fld) (v : Nat) : (s.peak f v).prt = s.prt := by
  unfold State.peak; split <;> rfl
@[simp] theorem State.peak_lks (s : State) (f : Fld) (v : Nat) : (s.peak f v).lks = s.lks := by
  unfold State.peak; split <;> rfl
@[simp] theorem State.peak_red (s : State) (f : Fld) (v : Nat) : (s.peak f v).red = s.red := by
  unfold State.peak; split <;> rfl
@[simp] theorem State.peak_qe (s : State) (f : Fld) (v : Nat) : (s.peak f v).qe = s.qe := by
  unfold State.peak; split <;> rfl
@[simp] theorem State.peak_evr (s : State) (f : Fld) (v : Nat) : (s.peak f v).evr = s.evr := by
  unfold State.peak; split <;> rfl
@[simp] theorem State.peak_alm (s : State) (f : Fld) (v : Nat) : (s.peak f v).alm = s.alm := by
  unfold State.peak; split <;> rfl
@[simp] theorem State.peak_ce (s : State) (f : Fld) (v : Nat) : (s.peak f v).ce = s.ce := by
  unfold State.peak; split <;> rfl
@[simp] theorem State.peak_pg (s : State) (f : Fld) (v : Nat) : (s.peak f v).pg = s.pg := by
  unfold State.peak; split <;> rfl
@[simp] theorem State.peak_ad (s : State) (f : Fld) (v : Nat) : (s.peak f v).ad = s.ad := by
  unfold State.peak; split <;> rfl
@[simp] theorem State.peak_ph (s : State) (f : Fld) (v : Nat) : (s.peak f v).ph = s.ph := by
  unfold State.peak; split <;> rfl
@[simp] theorem State.peak_tu (s : State) (f : Fld) (v : Nat) : (s.peak f v).tu = s.tu := by
  unfold State.peak; split <;> rfl
@[simp] theorem State.peak_fio (s : State) (f : Fld) (v : Nat) : (s.peak f v).fio = s.fio := by
  unfold State.peak; split <;> rfl
@[simp] theorem State.peak_rio (s : State) (f : Fld) (v : Nat) : (s.peak f v).rio = s.rio := by
  unfold State.peak; split <;> rfl
@[simp] theorem State.peak_saf (s : State) (f : Fld) (v : Nat) : (s.peak f v).saf = s.saf := by
  unfold State.peak; split <;> rfl
@[simp] theorem State.peak_eth (s : State) (f : Fld) (v : Nat) : (s.peak f v).eth = s.eth := by
  unfold State.peak; split <;> rfl
@[simp] theorem State.peak_can (s : State) (f : Fld) (v : Nat) : (s.peak f v).can = s.can := by
  unfold State.peak; split <;> rfl
@[simp] theorem State.peak_pnl (s : State) (f : Fld) (v : Nat) : (s.peak f v).pnl = s.pnl := by
  unfold State.peak; split <;> rfl
@[simp] theorem State.peak_bst (s : State) (f : Fld) (v : Nat) : (s.peak f v).bst = s.bst := by
  unfold State.peak; split <;> rfl
@[simp] theorem State.peak_age (s : State) (f : Fld) (v : Nat) : (s.peak f v).age = s.age := by
  unfold State.peak; split <;> rfl
@[simp] theorem State.peak_sfp (s : State) (f : Fld) (v : Nat) : (s.peak f v).sfp = s.sfp := by
  unfold State.peak; split <;> rfl
@[simp] theorem State.peak_pfc (s : State) (f : Fld) (v : Nat) : (s.peak f v).pfc = s.pfc := by
  unfold State.peak; split <;> rfl
@[simp] theorem State.peak_pfcAt (s : State) (f : Fld) (v : Nat) : (s.peak f v).pfcAt = s.pfcAt := by
  unfold State.peak; split <;> rfl

/-! ### peakSigned -/

@[simp] theorem State.peakSigned_pending (s : State) (f : Fld) (v : Int) : (s.peakSigned f v).pending = s.pending := by
  simp only [State.peakSigned]; split <;> rfl
@[simp] theorem State.peakSigned_clk (s : State) (f : Fld) (v : Int) : (s.peakSigned f v).clk = s.clk := by
  simp only [State.peakSigned]; split <;> rfl
@[simp] theorem State.peakSigned_time (s : State) (f : Fld) (v : Int) : (s.peakSigned f v).time = s.time := by
  simp only [State.peakSigned]; split <;> rfl
@[simp] theorem State.peakSigned_timeFrac (s : State) (f : Fld) (v : Int) : (s.peakSigned f v).timeFrac = s.timeFrac := by
  simp only [State.peakSigned]; split <;> rfl
@[simp] theorem State.peakSigned_free (s : State) (f : Fld) (v : Int) : (s.peakSigned f v).free = s.free := by
  simp only [State.peakSigned]; split <;> rfl
@[simp] theorem State.peakSigned_shadow (s : State) (f : Fld) (v : Int) : (s.peakSigned f v).shadow = s.shadow := by
  simp only [State.peakSigned]; split <;> rfl
@[simp] theorem State.peakSigned_holding (s : State) (f : Fld) (v : Int) : (s.peakSigned f v).holding = s.holding := by
  simp only [State.peakSigned]; split <;> rfl
@[simp] theorem State.peakSigned_mem (s : State) (f : Fld) (v : Int) : (s.peakSigned f v).mem = s.mem := by
  simp only [State.peakSigned]; split <;> rfl
@[simp] theorem State.peakSigned_cfg (s : State) (f : Fld) (v : Int) : (s.peakSigned f v).cfg = s.cfg := by
  simp only [State.peakSigned]; split <;> rfl
@[simp] theorem State.peakSigned_pts (s : State) (f : Fld) (v : Int) : (s.peakSigned f v).pts = s.pts := by
  simp only [State.peakSigned]; split <;> rfl
@[simp] theorem State.peakSigned_outs (s : State) (f : Fld) (v : Int) : (s.peakSigned f v).outs = s.outs := by
  simp only [State.peakSigned]; split <;> rfl
@[simp] theorem State.peakSigned_outsPrev (s : State) (f : Fld) (v : Int) : (s.peakSigned f v).outsPrev = s.outsPrev := by
  simp only [State.peakSigned]; split <;> rfl
@[simp] theorem State.peakSigned_sent (s : State) (f : Fld) (v : Int) : (s.peakSigned f v).sent = s.sent := by
  simp only [State.peakSigned]; split <;> rfl
@[simp] theorem State.peakSigned_sys (s : State) (f : Fld) (v : Int) : (s.peakSigned f v).sys = s.sys := by
  simp only [State.peakSigned]; split <;> rfl
@[simp] theorem State.peakSigned_nv (s : State) (f : Fld) (v : Int) : (s.peakSigned f v).nv = s.nv := by
  simp only [State.peakSigned]; split <;> rfl
@[simp] theorem State.peakSigned_fw (s : State) (f : Fld) (v : Int) : (s.peakSigned f v).fw = s.fw := by
  simp only [State.peakSigned]; split <;> rfl
@[simp] theorem State.peakSigned_prt (s : State) (f : Fld) (v : Int) : (s.peakSigned f v).prt = s.prt := by
  simp only [State.peakSigned]; split <;> rfl
@[simp] theorem State.peakSigned_lks (s : State) (f : Fld) (v : Int) : (s.peakSigned f v).lks = s.lks := by
  simp only [State.peakSigned]; split <;> rfl
@[simp] theorem State.peakSigned_red (s : State) (f : Fld) (v : Int) : (s.peakSigned f v).red = s.red := by
  simp only [State.peakSigned]; split <;> rfl
@[simp] theorem State.peakSigned_qe (s : State) (f : Fld) (v : Int) : (s.peakSigned f v).qe = s.qe := by
  simp only [State.peakSigned]; split <;> rfl
@[simp] theorem State.peakSigned_evr (s : State) (f : Fld) (v : Int) : (s.peakSigned f v).evr = s.evr := by
  simp only [State.peakSigned]; split <;> rfl
@[simp] theorem State.peakSigned_alm (s : State) (f : Fld) (v : Int) : (s.peakSigned f v).alm = s.alm := by
  simp only [State.peakSigned]; split <;> rfl
@[simp] theorem State.peakSigned_ce (s : State) (f : Fld) (v : Int) : (s.peakSigned f v).ce = s.ce := by
  simp only [State.peakSigned]; split <;> rfl
@[simp] theorem State.peakSigned_pg (s : State) (f : Fld) (v : Int) : (s.peakSigned f v).pg = s.pg := by
  simp only [State.peakSigned]; split <;> rfl
@[simp] theorem State.peakSigned_ad (s : State) (f : Fld) (v : Int) : (s.peakSigned f v).ad = s.ad := by
  simp only [State.peakSigned]; split <;> rfl
@[simp] theorem State.peakSigned_ph (s : State) (f : Fld) (v : Int) : (s.peakSigned f v).ph = s.ph := by
  simp only [State.peakSigned]; split <;> rfl
@[simp] theorem State.peakSigned_tu (s : State) (f : Fld) (v : Int) : (s.peakSigned f v).tu = s.tu := by
  simp only [State.peakSigned]; split <;> rfl
@[simp] theorem State.peakSigned_fio (s : State) (f : Fld) (v : Int) : (s.peakSigned f v).fio = s.fio := by
  simp only [State.peakSigned]; split <;> rfl
@[simp] theorem State.peakSigned_rio (s : State) (f : Fld) (v : Int) : (s.peakSigned f v).rio = s.rio := by
  simp only [State.peakSigned]; split <;> rfl
@[simp] theorem State.peakSigned_saf (s : State) (f : Fld) (v : Int) : (s.peakSigned f v).saf = s.saf := by
  simp only [State.peakSigned]; split <;> rfl
@[simp] theorem State.peakSigned_eth (s : State) (f : Fld) (v : Int) : (s.peakSigned f v).eth = s.eth := by
  simp only [State.peakSigned]; split <;> rfl
@[simp] theorem State.peakSigned_can (s : State) (f : Fld) (v : Int) : (s.peakSigned f v).can = s.can := by
  simp only [State.peakSigned]; split <;> rfl
@[simp] theorem State.peakSigned_pnl (s : State) (f : Fld) (v : Int) : (s.peakSigned f v).pnl = s.pnl := by
  simp only [State.peakSigned]; split <;> rfl
@[simp] theorem State.peakSigned_bst (s : State) (f : Fld) (v : Int) : (s.peakSigned f v).bst = s.bst := by
  simp only [State.peakSigned]; split <;> rfl
@[simp] theorem State.peakSigned_age (s : State) (f : Fld) (v : Int) : (s.peakSigned f v).age = s.age := by
  simp only [State.peakSigned]; split <;> rfl
@[simp] theorem State.peakSigned_sfp (s : State) (f : Fld) (v : Int) : (s.peakSigned f v).sfp = s.sfp := by
  simp only [State.peakSigned]; split <;> rfl
@[simp] theorem State.peakSigned_pfc (s : State) (f : Fld) (v : Int) : (s.peakSigned f v).pfc = s.pfc := by
  simp only [State.peakSigned]; split <;> rfl
@[simp] theorem State.peakSigned_pfcAt (s : State) (f : Fld) (v : Int) : (s.peakSigned f v).pfcAt = s.pfcAt := by
  simp only [State.peakSigned]; split <;> rfl

/-! ### raiseAlert -/

@[simp] theorem State.raiseAlert_pending (s : State) (r o : Nat) : (s.raiseAlert r o).pending = s.pending := by
  simp only [State.raiseAlert]; split <;> rfl
@[simp] theorem State.raiseAlert_clk (s : State) (r o : Nat) : (s.raiseAlert r o).clk = s.clk := by
  simp only [State.raiseAlert]; split <;> rfl
@[simp] theorem State.raiseAlert_time (s : State) (r o : Nat) : (s.raiseAlert r o).time = s.time := by
  simp only [State.raiseAlert]; split <;> rfl
@[simp] theorem State.raiseAlert_timeFrac (s : State) (r o : Nat) : (s.raiseAlert r o).timeFrac = s.timeFrac := by
  simp only [State.raiseAlert]; split <;> rfl
@[simp] theorem State.raiseAlert_free (s : State) (r o : Nat) : (s.raiseAlert r o).free = s.free := by
  simp only [State.raiseAlert]; split <;> rfl
@[simp] theorem State.raiseAlert_regs (s : State) (r o : Nat) : (s.raiseAlert r o).regs = s.regs := by
  simp only [State.raiseAlert]; split <;> rfl
@[simp] theorem State.raiseAlert_shadow (s : State) (r o : Nat) : (s.raiseAlert r o).shadow = s.shadow := by
  simp only [State.raiseAlert]; split <;> rfl
@[simp] theorem State.raiseAlert_holding (s : State) (r o : Nat) : (s.raiseAlert r o).holding = s.holding := by
  simp only [State.raiseAlert]; split <;> rfl
@[simp] theorem State.raiseAlert_peaked (s : State) (r o : Nat) : (s.raiseAlert r o).peaked = s.peaked := by
  simp only [State.raiseAlert]; split <;> rfl
@[simp] theorem State.raiseAlert_mem (s : State) (r o : Nat) : (s.raiseAlert r o).mem = s.mem := by
  simp only [State.raiseAlert]; split <;> rfl
@[simp] theorem State.raiseAlert_cfg (s : State) (r o : Nat) : (s.raiseAlert r o).cfg = s.cfg := by
  simp only [State.raiseAlert]; split <;> rfl
@[simp] theorem State.raiseAlert_pts (s : State) (r o : Nat) : (s.raiseAlert r o).pts = s.pts := by
  simp only [State.raiseAlert]; split <;> rfl
@[simp] theorem State.raiseAlert_outs (s : State) (r o : Nat) : (s.raiseAlert r o).outs = s.outs := by
  simp only [State.raiseAlert]; split <;> rfl
@[simp] theorem State.raiseAlert_outsPrev (s : State) (r o : Nat) : (s.raiseAlert r o).outsPrev = s.outsPrev := by
  simp only [State.raiseAlert]; split <;> rfl
@[simp] theorem State.raiseAlert_sent (s : State) (r o : Nat) : (s.raiseAlert r o).sent = s.sent := by
  simp only [State.raiseAlert]; split <;> rfl
@[simp] theorem State.raiseAlert_nv (s : State) (r o : Nat) : (s.raiseAlert r o).nv = s.nv := by
  simp only [State.raiseAlert]; split <;> rfl
@[simp] theorem State.raiseAlert_fw (s : State) (r o : Nat) : (s.raiseAlert r o).fw = s.fw := by
  simp only [State.raiseAlert]; split <;> rfl
@[simp] theorem State.raiseAlert_prt (s : State) (r o : Nat) : (s.raiseAlert r o).prt = s.prt := by
  simp only [State.raiseAlert]; split <;> rfl
@[simp] theorem State.raiseAlert_lks (s : State) (r o : Nat) : (s.raiseAlert r o).lks = s.lks := by
  simp only [State.raiseAlert]; split <;> rfl
@[simp] theorem State.raiseAlert_red (s : State) (r o : Nat) : (s.raiseAlert r o).red = s.red := by
  simp only [State.raiseAlert]; split <;> rfl
@[simp] theorem State.raiseAlert_qe (s : State) (r o : Nat) : (s.raiseAlert r o).qe = s.qe := by
  simp only [State.raiseAlert]; split <;> rfl
@[simp] theorem State.raiseAlert_evr (s : State) (r o : Nat) : (s.raiseAlert r o).evr = s.evr := by
  simp only [State.raiseAlert]; split <;> rfl
@[simp] theorem State.raiseAlert_alm (s : State) (r o : Nat) : (s.raiseAlert r o).alm = s.alm := by
  simp only [State.raiseAlert]; split <;> rfl
@[simp] theorem State.raiseAlert_ce (s : State) (r o : Nat) : (s.raiseAlert r o).ce = s.ce := by
  simp only [State.raiseAlert]; split <;> rfl
@[simp] theorem State.raiseAlert_pg (s : State) (r o : Nat) : (s.raiseAlert r o).pg = s.pg := by
  simp only [State.raiseAlert]; split <;> rfl
@[simp] theorem State.raiseAlert_ad (s : State) (r o : Nat) : (s.raiseAlert r o).ad = s.ad := by
  simp only [State.raiseAlert]; split <;> rfl
@[simp] theorem State.raiseAlert_ph (s : State) (r o : Nat) : (s.raiseAlert r o).ph = s.ph := by
  simp only [State.raiseAlert]; split <;> rfl
@[simp] theorem State.raiseAlert_tu (s : State) (r o : Nat) : (s.raiseAlert r o).tu = s.tu := by
  simp only [State.raiseAlert]; split <;> rfl
@[simp] theorem State.raiseAlert_fio (s : State) (r o : Nat) : (s.raiseAlert r o).fio = s.fio := by
  simp only [State.raiseAlert]; split <;> rfl
@[simp] theorem State.raiseAlert_rio (s : State) (r o : Nat) : (s.raiseAlert r o).rio = s.rio := by
  simp only [State.raiseAlert]; split <;> rfl
@[simp] theorem State.raiseAlert_saf (s : State) (r o : Nat) : (s.raiseAlert r o).saf = s.saf := by
  simp only [State.raiseAlert]; split <;> rfl
@[simp] theorem State.raiseAlert_eth (s : State) (r o : Nat) : (s.raiseAlert r o).eth = s.eth := by
  simp only [State.raiseAlert]; split <;> rfl
@[simp] theorem State.raiseAlert_can (s : State) (r o : Nat) : (s.raiseAlert r o).can = s.can := by
  simp only [State.raiseAlert]; split <;> rfl
@[simp] theorem State.raiseAlert_pnl (s : State) (r o : Nat) : (s.raiseAlert r o).pnl = s.pnl := by
  simp only [State.raiseAlert]; split <;> rfl
@[simp] theorem State.raiseAlert_bst (s : State) (r o : Nat) : (s.raiseAlert r o).bst = s.bst := by
  simp only [State.raiseAlert]; split <;> rfl
@[simp] theorem State.raiseAlert_age (s : State) (r o : Nat) : (s.raiseAlert r o).age = s.age := by
  simp only [State.raiseAlert]; split <;> rfl
@[simp] theorem State.raiseAlert_sfp (s : State) (r o : Nat) : (s.raiseAlert r o).sfp = s.sfp := by
  simp only [State.raiseAlert]; split <;> rfl
@[simp] theorem State.raiseAlert_pfc (s : State) (r o : Nat) : (s.raiseAlert r o).pfc = s.pfc := by
  simp only [State.raiseAlert]; split <;> rfl
@[simp] theorem State.raiseAlert_pfcAt (s : State) (r o : Nat) : (s.raiseAlert r o).pfcAt = s.pfcAt := by
  simp only [State.raiseAlert]; split <;> rfl

/-! ### putSplit -/

@[simp] theorem State.putSplit_pending (s : State) (h l v : Nat) : (s.putSplit h l v).pending = s.pending := rfl
@[simp] theorem State.putSplit_clk (s : State) (h l v : Nat) : (s.putSplit h l v).clk = s.clk := rfl
@[simp] theorem State.putSplit_time (s : State) (h l v : Nat) : (s.putSplit h l v).time = s.time := rfl
@[simp] theorem State.putSplit_timeFrac (s : State) (h l v : Nat) : (s.putSplit h l v).timeFrac = s.timeFrac := rfl
@[simp] theorem State.putSplit_free (s : State) (h l v : Nat) : (s.putSplit h l v).free = s.free := rfl
@[simp] theorem State.putSplit_shadow (s : State) (h l v : Nat) : (s.putSplit h l v).shadow = s.shadow := rfl
@[simp] theorem State.putSplit_holding (s : State) (h l v : Nat) : (s.putSplit h l v).holding = s.holding := rfl
@[simp] theorem State.putSplit_peaked (s : State) (h l v : Nat) : (s.putSplit h l v).peaked = s.peaked := rfl
@[simp] theorem State.putSplit_mem (s : State) (h l v : Nat) : (s.putSplit h l v).mem = s.mem := rfl
@[simp] theorem State.putSplit_cfg (s : State) (h l v : Nat) : (s.putSplit h l v).cfg = s.cfg := rfl
@[simp] theorem State.putSplit_pts (s : State) (h l v : Nat) : (s.putSplit h l v).pts = s.pts := rfl
@[simp] theorem State.putSplit_outs (s : State) (h l v : Nat) : (s.putSplit h l v).outs = s.outs := rfl
@[simp] theorem State.putSplit_outsPrev (s : State) (h l v : Nat) : (s.putSplit h l v).outsPrev = s.outsPrev := rfl
@[simp] theorem State.putSplit_sent (s : State) (h l v : Nat) : (s.putSplit h l v).sent = s.sent := rfl
@[simp] theorem State.putSplit_sys (s : State) (h l v : Nat) : (s.putSplit h l v).sys = s.sys := rfl
@[simp] theorem State.putSplit_nv (s : State) (h l v : Nat) : (s.putSplit h l v).nv = s.nv := rfl
@[simp] theorem State.putSplit_fw (s : State) (h l v : Nat) : (s.putSplit h l v).fw = s.fw := rfl
@[simp] theorem State.putSplit_prt (s : State) (h l v : Nat) : (s.putSplit h l v).prt = s.prt := rfl
@[simp] theorem State.putSplit_lks (s : State) (h l v : Nat) : (s.putSplit h l v).lks = s.lks := rfl
@[simp] theorem State.putSplit_red (s : State) (h l v : Nat) : (s.putSplit h l v).red = s.red := rfl
@[simp] theorem State.putSplit_qe (s : State) (h l v : Nat) : (s.putSplit h l v).qe = s.qe := rfl
@[simp] theorem State.putSplit_evr (s : State) (h l v : Nat) : (s.putSplit h l v).evr = s.evr := rfl
@[simp] theorem State.putSplit_alm (s : State) (h l v : Nat) : (s.putSplit h l v).alm = s.alm := rfl
@[simp] theorem State.putSplit_ce (s : State) (h l v : Nat) : (s.putSplit h l v).ce = s.ce := rfl
@[simp] theorem State.putSplit_pg (s : State) (h l v : Nat) : (s.putSplit h l v).pg = s.pg := rfl
@[simp] theorem State.putSplit_ad (s : State) (h l v : Nat) : (s.putSplit h l v).ad = s.ad := rfl
@[simp] theorem State.putSplit_ph (s : State) (h l v : Nat) : (s.putSplit h l v).ph = s.ph := rfl
@[simp] theorem State.putSplit_tu (s : State) (h l v : Nat) : (s.putSplit h l v).tu = s.tu := rfl
@[simp] theorem State.putSplit_fio (s : State) (h l v : Nat) : (s.putSplit h l v).fio = s.fio := rfl
@[simp] theorem State.putSplit_rio (s : State) (h l v : Nat) : (s.putSplit h l v).rio = s.rio := rfl
@[simp] theorem State.putSplit_saf (s : State) (h l v : Nat) : (s.putSplit h l v).saf = s.saf := rfl
@[simp] theorem State.putSplit_eth (s : State) (h l v : Nat) : (s.putSplit h l v).eth = s.eth := rfl
@[simp] theorem State.putSplit_can (s : State) (h l v : Nat) : (s.putSplit h l v).can = s.can := rfl
@[simp] theorem State.putSplit_pnl (s : State) (h l v : Nat) : (s.putSplit h l v).pnl = s.pnl := rfl
@[simp] theorem State.putSplit_bst (s : State) (h l v : Nat) : (s.putSplit h l v).bst = s.bst := rfl
@[simp] theorem State.putSplit_age (s : State) (h l v : Nat) : (s.putSplit h l v).age = s.age := rfl
@[simp] theorem State.putSplit_sfp (s : State) (h l v : Nat) : (s.putSplit h l v).sfp = s.sfp := rfl
@[simp] theorem State.putSplit_pfc (s : State) (h l v : Nat) : (s.putSplit h l v).pfc = s.pfc := rfl
@[simp] theorem State.putSplit_pfcAt (s : State) (h l v : Nat) : (s.putSplit h l v).pfcAt = s.pfcAt := rfl

end Sys2Proof.Machine
end

