-- ==== Sys2Proof/Laws/Regs.lean ====
section
/-! SUPPORT. Registers and fields: what one reads after a write of it or of another. -/

namespace Sys2Proof.Machine

@[simp] theorem State.reg_setReg_same (s : State) (k : Nat) (v : Word) : (s.setReg k v).reg k = v := by
  simp [State.reg, State.setReg]

theorem State.reg_setReg (s : State) (k j : Nat) (v : Word) : (s.setReg k v).reg j = if j = k then v else s.reg j := by
  simp [State.reg, State.setReg, SMap.get_set]

theorem State.reg_setReg_ne (s : State) {k j : Nat} (v : Word) (h : j ≠ k) : (s.setReg k v).reg j = s.reg j := by
  simp [State.reg_setReg, h]

theorem State.reg_put (s : State) (f : Fld) (v k : Nat) :
    (s.put f v).reg k = if k = f.key then setBits (s.reg f.key) f.hi f.lo v else s.reg k := by
  simp [State.put, State.reg_setReg]

theorem State.reg_put_ne (s : State) (f : Fld) (v : Nat) {k : Nat} (h : k ≠ f.key) : (s.put f v).reg k = s.reg k := by
  simp [State.reg_put, h]

theorem State.reg_flag_ne (s : State) (f : Fld) (b : Bool) {k : Nat} (h : k ≠ f.key) : (s.flag f b).reg k = s.reg k :=
  s.reg_put_ne f _ h

/-- The field written. -/
theorem State.fld_put_same (s : State) (f : Fld) (v : Nat) (h : f.hi < 32) :
    (s.put f v).fld f = v % 2 ^ (f.hi + 1 - f.lo) := by
  simp [State.fld, State.reg_put, bits_setBits_same _ _ _ _ h]

/-- A field of another register. -/
theorem State.fld_put_ne (s : State) (f g : Fld) (v : Nat) (h : g.key ≠ f.key) : (s.put f v).fld g = s.fld g := by
  simp [State.fld, State.reg_put, h]

/-- Another field of the same register. -/
theorem State.fld_put_other (s : State) (f g : Fld) (v : Nat) (h : g.hi < f.lo ∨ f.hi < g.lo) (hg : g.hi < 32) :
    (s.put f v).fld g = s.fld g := by
  by_cases hk : g.key = f.key
  · simp [State.fld, State.reg_put, hk, bits_setBits_other _ _ _ _ _ _ h hg]
  · exact s.fld_put_ne f g v hk

theorem State.fld_setReg_ne (s : State) (g : Fld) {k : Nat} (v : Word) (h : g.key ≠ k) :
    (s.setReg k v).fld g = s.fld g := by
  simp [State.fld, State.reg_setReg, h]

theorem State.isSet_flag_same (s : State) (f : Fld) (b : Bool) (h : f.hi < 32) (h1 : f.hi = f.lo) :
    (s.flag f b).isSet f = b := by
  have : f.hi + 1 - f.lo = 1 := by omega
  cases b <;> simp [State.isSet, State.flag, State.fld_put_same _ _ _ h, this]

/-- The registers alone decide what a field reads. -/
theorem State.reg_congr {s t : State} (h : s.regs = t.regs) (k : Nat) : s.reg k = t.reg k := by simp [State.reg, h]
theorem State.fld_congr {s t : State} (h : s.regs = t.regs) (f : Fld) : s.fld f = t.fld f := by
  simp [State.fld, State.reg, h]

end Sys2Proof.Machine
end

