-- ==== Sys2Proof/Laws/Settle.lean ====
section
/-! SUPPORT. What the end of every command leaves alone: all but the mirrors, the counted conditions and the lamps. -/

namespace Sys2Proof.Machine

/-! ### Folds -/

/-- A fold that leaves a part of the state alone at every item leaves it alone. -/
theorem foldl_keeps {α β : Type} (p : State → β) (f : State → α → State) (h : ∀ s a, p (f s a) = p s) (xs : List α)
    (s : State) : p (xs.foldl f s) = p s := by
  induction xs generalizing s with
  | nil => rfl
  | cons x xs ih => simp [ih, h]

theorem pfcEdges_eq (s : State) : ∃ x, s.pfcEdges = { s with pfc := x } := by
  suffices ∀ (xs : List (Nat × PfcCnt)) (t : State), (∃ x, t = { s with pfc := x }) →
      ∃ x, (xs.foldl (fun s e =>
        let x := e.2
        if !isCondition x.cls then s
        else
          let h := s.pfcHolds x
          let add := if h && !x.held && !x.level && s.isSet ⟨Reg.PRT_LOCK, 0, 0⟩ then 1 else 0
          let x1 := if add = 0 then x
            else { x with last := s.clk + 1, inClk := (if x.last = s.clk + 1 then x.inClk else 0) + 1 }
          { s with pfc := SMap.set {} e.1 { x1 with held := h, count := (x.count + add) % 2 ^ 64 } s.pfc }) t) =
        { s with pfc := x } from this s.pfc s ⟨s.pfc, rfl⟩
  intro xs
  induction xs with
  | nil => intro t h; exact h
  | cons e xs ih =>
    intro t ⟨x, hx⟩
    simp only [List.foldl_cons]
    apply ih
    split
    · exact ⟨x, hx⟩
    · subst hx; exact ⟨_, rfl⟩

theorem fld_put_apart (s : State) (f g : Fld) (v : Nat) (hf : f.hi < 32)
    (h : (f.key != g.key || decide (f.hi < g.lo) || decide (g.hi < f.lo)) = true) : (s.put g v).fld f = s.fld f := by
  simp only [Bool.or_eq_true, bne_iff_ne, ne_eq, decide_eq_true_eq] at h
  rcases h with (h | h) | h
  · exact s.fld_put_ne g f v h
  · exact s.fld_put_other g f v (Or.inl h) hf
  · exact s.fld_put_other g f v (Or.inr h) hf

theorem fld_flag_apart (s : State) (f g : Fld) (b : Bool) (hf : f.hi < 32)
    (h : (f.key != g.key || decide (f.hi < g.lo) || decide (g.hi < f.lo)) = true) : (s.flag g b).fld f = s.fld f :=
  fld_put_apart s f g _ hf h

theorem clear_of_mem {f g : Fld} (h : f.clear = true) (hg : g ∈ mirrored) :
    (f.key != g.key || decide (f.hi < g.lo) || decide (g.hi < f.lo)) = true := by
  simp only [Fld.clear, Bool.and_eq_true, List.all_eq_true] at h
  exact h.2 g hg

/-- A part of the state that no change of registers or of the lamps' copy touches. -/
theorem settlePorts_keeps {β : Type} (p : State → β) (h : ∀ (s : State) f v, p (s.put f v) = p s) (s : State) :
    p s.settlePorts = p s := by
  have hf : ∀ (s : State) f b, p (s.flag f b) = p s := fun s f b => h s f (b1 b)
  simp only [State.settlePorts]
  rw [foldl_keeps p _ (fun s n => by simp only [h, hf])]
  rw [foldl_keeps p _ (fun s n => by simp only [hf])]

theorem settleMirrors_keeps {β : Type} (p : State → β) (h : ∀ (s : State) f v, p (s.put f v) = p s) (s : State) :
    p s.settleMirrors = p s := by
  have hf : ∀ (s : State) f b, p (s.flag f b) = p s := fun s f b => h s f (b1 b)
  simp only [State.settleMirrors, h, hf]

theorem settleLamps_keeps {β : Type} (p : State → β) (h : ∀ (s : State) f v, p (s.put f v) = p s)
    (hl : ∀ (s : State) n, p { s with pnl := { s.pnl with lamps := n } } = p s) (s : State) :
    p s.settleLamps = p s := by
  have hf : ∀ (s : State) f b, p (s.flag f b) = p s := fun s f b => h s f (b1 b)
  simp only [State.settleLamps, hf]
  split
  · rfl
  · exact (hl (s.put _ _) _).trans (h s _ _)

/-- A part of the state that registers, counters and the lamps' copy do not touch. -/
theorem settle_keeps {β : Type} (p : State → β) (h : ∀ (s : State) f v, p (s.put f v) = p s)
    (hl : ∀ (s : State) n, p { s with pnl := { s.pnl with lamps := n } } = p s)
    (hp : ∀ (s : State) x, p { s with pfc := x } = p s) (s : State) : p s.settle = p s := by
  obtain ⟨x, hx⟩ := pfcEdges_eq s
  simp only [State.settle]
  rw [settleLamps_keeps p h hl, settleMirrors_keeps p h, settlePorts_keeps p h, hx, hp]

theorem settlePorts_fld (s : State) (f : Fld) (h : f.clear = true) : s.settlePorts.fld f = s.fld f := by
  have hf : f.hi < 32 := by simp only [Fld.clear, Bool.and_eq_true, decide_eq_true_eq] at h; exact h.1
  have hc := fun {g : Fld} (hg : g ∈ mirrored) => clear_of_mem h hg
  simp only [State.settlePorts, List.foldl_cons, List.foldl_nil, upFrom]
  iterate 4 rw [fld_put_apart _ f _ _ hf (hc (by decide)), fld_flag_apart _ f _ _ hf (hc (by decide))]
  iterate 2 rw [fld_flag_apart _ f _ _ hf (hc (by decide))]

theorem settleMirrors_fld (s : State) (f : Fld) (h : f.clear = true) : s.settleMirrors.fld f = s.fld f := by
  have hf : f.hi < 32 := by simp only [Fld.clear, Bool.and_eq_true, decide_eq_true_eq] at h; exact h.1
  have hc := fun {g : Fld} (hg : g ∈ mirrored) => clear_of_mem h hg
  simp only [State.settleMirrors]
  iterate 3 rw [fld_put_apart _ f _ _ hf (hc (by decide))]
  rw [fld_flag_apart _ f _ _ hf (hc (by decide))]
  iterate 3 rw [fld_put_apart _ f _ _ hf (hc (by decide))]
  iterate 2 rw [fld_flag_apart _ f _ _ hf (hc (by decide))]

theorem settleLamps_fld (s : State) (f : Fld) (h : f.clear = true) : s.settleLamps.fld f = s.fld f := by
  have hf : f.hi < 32 := by simp only [Fld.clear, Bool.and_eq_true, decide_eq_true_eq] at h; exact h.1
  have hc := fun {g : Fld} (hg : g ∈ mirrored) => clear_of_mem h hg
  simp only [State.settleLamps]
  rw [fld_flag_apart _ f _ _ hf (hc (by decide)), fld_flag_apart _ f _ _ hf (hc (by decide))]
  split
  · rfl
  · exact fld_put_apart s f _ _ hf (hc (by decide))

/-- A field that no mirror shares a bit with. -/
@[simp] theorem settle_fld (s : State) (f : Fld) (h : f.clear = true) : s.settle.fld f = s.fld f := by
  obtain ⟨x, hx⟩ := pfcEdges_eq s
  simp only [State.settle]
  rw [settleLamps_fld _ f h, settleMirrors_fld _ f h, settlePorts_fld _ f h, hx]
  rfl

theorem settle_isSet (s : State) (f : Fld) (h : f.clear = true) : s.settle.isSet f = s.isSet f := by
  simp [State.isSet, settle_fld s f h]

/-- A register that holds no mirror. -/
theorem settle_reg (s : State) (k : Nat) (h : plainReg k = true) : s.settle.reg k = s.reg k := by
  have hput : ∀ (s : State) (g : Fld) (v : Nat), g ∈ mirrored → (s.put g v).reg k = s.reg k := by
    intro s g v hg
    simp only [plainReg, List.all_eq_true, bne_iff_ne] at h
    exact s.reg_put_ne g v (h g hg)
  have hflag : ∀ (s : State) (g : Fld) (b : Bool), g ∈ mirrored → (s.flag g b).reg k = s.reg k :=
    fun s g b hg => hput s g _ hg
  have ports : ∀ s : State, s.settlePorts.reg k = s.reg k := by
    intro s
    simp only [State.settlePorts, List.foldl_cons, List.foldl_nil, upFrom]
    iterate 4 rw [hput _ _ _ (by decide), hflag _ _ _ (by decide)]
    iterate 2 rw [hflag _ _ _ (by decide)]
  obtain ⟨x, hx⟩ := pfcEdges_eq s
  simp only [State.settle, State.settleLamps]
  rw [hflag _ _ _ (by decide), hflag _ _ _ (by decide)]
  have key : s.pfcEdges.settlePorts.settleMirrors.reg k = s.reg k := by
    simp only [State.settleMirrors]
    iterate 3 rw [hput _ _ _ (by decide)]
    rw [hflag _ _ _ (by decide)]
    iterate 3 rw [hput _ _ _ (by decide)]
    iterate 2 rw [hflag _ _ _ (by decide)]
    rw [ports, hx]
    simp only [State.reg]
  split
  · exact key
  · have h1 := hput s.pfcEdges.settlePorts.settleMirrors ⟨Reg.PNL_LED, 11, 0⟩
      s.pfcEdges.settlePorts.settleMirrors.lampWord (by decide)
    rw [← key, ← h1]
    simp only [State.reg]

/-! ### Field by field -/

@[simp] theorem settle_pending (s : State) : s.settle.pending = s.pending :=
  settle_keeps (·.pending) (fun _ _ _ => rfl) (fun _ _ => rfl) (fun _ _ => rfl) s
@[simp] theorem settle_clk (s : State) : s.settle.clk = s.clk :=
  settle_keeps (·.clk) (fun _ _ _ => rfl) (fun _ _ => rfl) (fun _ _ => rfl) s
@[simp] theorem settle_time (s : State) : s.settle.time = s.time :=
  settle_keeps (·.time) (fun _ _ _ => rfl) (fun _ _ => rfl) (fun _ _ => rfl) s
@[simp] theorem settle_timeFrac (s : State) : s.settle.timeFrac = s.timeFrac :=
  settle_keeps (·.timeFrac) (fun _ _ _ => rfl) (fun _ _ => rfl) (fun _ _ => rfl) s
@[simp] theorem settle_free (s : State) : s.settle.free = s.free :=
  settle_keeps (·.free) (fun _ _ _ => rfl) (fun _ _ => rfl) (fun _ _ => rfl) s
@[simp] theorem settle_shadow (s : State) : s.settle.shadow = s.shadow :=
  settle_keeps (·.shadow) (fun _ _ _ => rfl) (fun _ _ => rfl) (fun _ _ => rfl) s
@[simp] theorem settle_holding (s : State) : s.settle.holding = s.holding :=
  settle_keeps (·.holding) (fun _ _ _ => rfl) (fun _ _ => rfl) (fun _ _ => rfl) s
@[simp] theorem settle_peaked (s : State) : s.settle.peaked = s.peaked :=
  settle_keeps (·.peaked) (fun _ _ _ => rfl) (fun _ _ => rfl) (fun _ _ => rfl) s
@[simp] theorem settle_mem (s : State) : s.settle.mem = s.mem :=
  settle_keeps (·.mem) (fun _ _ _ => rfl) (fun _ _ => rfl) (fun _ _ => rfl) s
@[simp] theorem settle_cfg (s : State) : s.settle.cfg = s.cfg :=
  settle_keeps (·.cfg) (fun _ _ _ => rfl) (fun _ _ => rfl) (fun _ _ => rfl) s
@[simp] theorem settle_pts (s : State) : s.settle.pts = s.pts :=
  settle_keeps (·.pts) (fun _ _ _ => rfl) (fun _ _ => rfl) (fun _ _ => rfl) s
@[simp] theorem settle_outs (s : State) : s.settle.outs = s.outs :=
  settle_keeps (·.outs) (fun _ _ _ => rfl) (fun _ _ => rfl) (fun _ _ => rfl) s
@[simp] theorem settle_outsPrev (s : State) : s.settle.outsPrev = s.outsPrev :=
  settle_keeps (·.outsPrev) (fun _ _ _ => rfl) (fun _ _ => rfl) (fun _ _ => rfl) s
@[simp] theorem settle_sent (s : State) : s.settle.sent = s.sent :=
  settle_keeps (·.sent) (fun _ _ _ => rfl) (fun _ _ => rfl) (fun _ _ => rfl) s
@[simp] theorem settle_sys (s : State) : s.settle.sys = s.sys :=
  settle_keeps (·.sys) (fun _ _ _ => rfl) (fun _ _ => rfl) (fun _ _ => rfl) s
@[simp] theorem settle_nv (s : State) : s.settle.nv = s.nv :=
  settle_keeps (·.nv) (fun _ _ _ => rfl) (fun _ _ => rfl) (fun _ _ => rfl) s
@[simp] theorem settle_fw (s : State) : s.settle.fw = s.fw :=
  settle_keeps (·.fw) (fun _ _ _ => rfl) (fun _ _ => rfl) (fun _ _ => rfl) s
@[simp] theorem settle_prt (s : State) : s.settle.prt = s.prt :=
  settle_keeps (·.prt) (fun _ _ _ => rfl) (fun _ _ => rfl) (fun _ _ => rfl) s
@[simp] theorem settle_lks (s : State) : s.settle.lks = s.lks :=
  settle_keeps (·.lks) (fun _ _ _ => rfl) (fun _ _ => rfl) (fun _ _ => rfl) s
@[simp] theorem settle_red (s : State) : s.settle.red = s.red :=
  settle_keeps (·.red) (fun _ _ _ => rfl) (fun _ _ => rfl) (fun _ _ => rfl) s
@[simp] theorem settle_qe (s : State) : s.settle.qe = s.qe :=
  settle_keeps (·.qe) (fun _ _ _ => rfl) (fun _ _ => rfl) (fun _ _ => rfl) s
@[simp] theorem settle_evr (s : State) : s.settle.evr = s.evr :=
  settle_keeps (·.evr) (fun _ _ _ => rfl) (fun _ _ => rfl) (fun _ _ => rfl) s
@[simp] theorem settle_alm (s : State) : s.settle.alm = s.alm :=
  settle_keeps (·.alm) (fun _ _ _ => rfl) (fun _ _ => rfl) (fun _ _ => rfl) s
@[simp] theorem settle_ce (s : State) : s.settle.ce = s.ce :=
  settle_keeps (·.ce) (fun _ _ _ => rfl) (fun _ _ => rfl) (fun _ _ => rfl) s
@[simp] theorem settle_pg (s : State) : s.settle.pg = s.pg :=
  settle_keeps (·.pg) (fun _ _ _ => rfl) (fun _ _ => rfl) (fun _ _ => rfl) s
@[simp] theorem settle_ad (s : State) : s.settle.ad = s.ad :=
  settle_keeps (·.ad) (fun _ _ _ => rfl) (fun _ _ => rfl) (fun _ _ => rfl) s
@[simp] theorem settle_ph (s : State) : s.settle.ph = s.ph :=
  settle_keeps (·.ph) (fun _ _ _ => rfl) (fun _ _ => rfl) (fun _ _ => rfl) s
@[simp] theorem settle_tu (s : State) : s.settle.tu = s.tu :=
  settle_keeps (·.tu) (fun _ _ _ => rfl) (fun _ _ => rfl) (fun _ _ => rfl) s
@[simp] theorem settle_fio (s : State) : s.settle.fio = s.fio :=
  settle_keeps (·.fio) (fun _ _ _ => rfl) (fun _ _ => rfl) (fun _ _ => rfl) s
@[simp] theorem settle_rio (s : State) : s.settle.rio = s.rio :=
  settle_keeps (·.rio) (fun _ _ _ => rfl) (fun _ _ => rfl) (fun _ _ => rfl) s
@[simp] theorem settle_saf (s : State) : s.settle.saf = s.saf :=
  settle_keeps (·.saf) (fun _ _ _ => rfl) (fun _ _ => rfl) (fun _ _ => rfl) s
@[simp] theorem settle_eth (s : State) : s.settle.eth = s.eth :=
  settle_keeps (·.eth) (fun _ _ _ => rfl) (fun _ _ => rfl) (fun _ _ => rfl) s
@[simp] theorem settle_can (s : State) : s.settle.can = s.can :=
  settle_keeps (·.can) (fun _ _ _ => rfl) (fun _ _ => rfl) (fun _ _ => rfl) s
@[simp] theorem settle_bst (s : State) : s.settle.bst = s.bst :=
  settle_keeps (·.bst) (fun _ _ _ => rfl) (fun _ _ => rfl) (fun _ _ => rfl) s
@[simp] theorem settle_age (s : State) : s.settle.age = s.age :=
  settle_keeps (·.age) (fun _ _ _ => rfl) (fun _ _ => rfl) (fun _ _ => rfl) s
@[simp] theorem settle_sfp (s : State) : s.settle.sfp = s.sfp :=
  settle_keeps (·.sfp) (fun _ _ _ => rfl) (fun _ _ => rfl) (fun _ _ => rfl) s
@[simp] theorem settle_pfcAt (s : State) : s.settle.pfcAt = s.pfcAt :=
  settle_keeps (·.pfcAt) (fun _ _ _ => rfl) (fun _ _ => rfl) (fun _ _ => rfl) s
@[simp] theorem settle_pnl_image (s : State) : s.settle.pnl.image = s.pnl.image :=
  settle_keeps (·.pnl.image) (fun _ _ _ => rfl) (fun _ _ => rfl) (fun _ _ => rfl) s
@[simp] theorem settle_pnl_acc (s : State) : s.settle.pnl.acc = s.pnl.acc :=
  settle_keeps (·.pnl.acc) (fun _ _ _ => rfl) (fun _ _ => rfl) (fun _ _ => rfl) s
@[simp] theorem settle_pnl_gains (s : State) : s.settle.pnl.gains = s.pnl.gains :=
  settle_keeps (·.pnl.gains) (fun _ _ _ => rfl) (fun _ _ => rfl) (fun _ _ => rfl) s
@[simp] theorem settle_pnl_gainPend (s : State) : s.settle.pnl.gainPend = s.pnl.gainPend :=
  settle_keeps (·.pnl.gainPend) (fun _ _ _ => rfl) (fun _ _ => rfl) (fun _ _ => rfl) s
@[simp] theorem settle_pnl_first (s : State) : s.settle.pnl.first = s.pnl.first :=
  settle_keeps (·.pnl.first) (fun _ _ _ => rfl) (fun _ _ => rfl) (fun _ _ => rfl) s
@[simp] theorem settle_pnl_chord (s : State) : s.settle.pnl.chord = s.pnl.chord :=
  settle_keeps (·.pnl.chord) (fun _ _ _ => rfl) (fun _ _ => rfl) (fun _ _ => rfl) s
@[simp] theorem settle_pnl_blocked (s : State) : s.settle.pnl.blocked = s.pnl.blocked :=
  settle_keeps (·.pnl.blocked) (fun _ _ _ => rfl) (fun _ _ => rfl) (fun _ _ => rfl) s
@[simp] theorem settle_pnl_wet (s : State) : s.settle.pnl.wet = s.pnl.wet :=
  settle_keeps (·.pnl.wet) (fun _ _ _ => rfl) (fun _ _ => rfl) (fun _ _ => rfl) s
@[simp] theorem settle_pnl_lastRow (s : State) : s.settle.pnl.lastRow = s.pnl.lastRow :=
  settle_keeps (·.pnl.lastRow) (fun _ _ _ => rfl) (fun _ _ => rfl) (fun _ _ => rfl) s
@[simp] theorem settle_pnl_shift (s : State) : s.settle.pnl.shift = s.pnl.shift :=
  settle_keeps (·.pnl.shift) (fun _ _ _ => rfl) (fun _ _ => rfl) (fun _ _ => rfl) s
@[simp] theorem settle_pnl_base (s : State) : s.settle.pnl.base = s.pnl.base :=
  settle_keeps (·.pnl.base) (fun _ _ _ => rfl) (fun _ _ => rfl) (fun _ _ => rfl) s
@[simp] theorem settle_pnl_faultAt (s : State) : s.settle.pnl.faultAt = s.pnl.faultAt :=
  settle_keeps (·.pnl.faultAt) (fun _ _ _ => rfl) (fun _ _ => rfl) (fun _ _ => rfl) s
@[simp] theorem settle_pnl_barred (s : State) : s.settle.pnl.barred = s.pnl.barred :=
  settle_keeps (·.pnl.barred) (fun _ _ _ => rfl) (fun _ _ => rfl) (fun _ _ => rfl) s

end Sys2Proof.Machine
end

