-- ==== Sys2Proof/Laws/Lane.lean ====
section
/-! SUPPORT. A lane that executes undisturbed: what fetching, comparing and retiring then do, and what an instruction that
computes a register leaves. -/

namespace Sys2Proof.Machine

@[simp] theorem lane_setLane_same (s : State) (l : Nat) (x : Lane) : (s.setLane l x).lane l = x := by
  simp [State.lane, State.setLane]

theorem lane_setLane_ne (s : State) {l k : Nat} (x : Lane) (h : k ≠ l) : (s.setLane l x).lane k = s.lane k := by
  simp [State.lane, State.setLane, SMap.get_set_ne _ _ h]

@[simp] theorem get_zero (e : Engine) : e.get 0 = 0 := rfl

@[simp] theorem get_set_same (e : Engine) (d : Nat) (v : Word64) : (e.set d v).get d = if d = 0 then 0 else v := by
  by_cases h : d = 0 <;> simp [Engine.get, Engine.set, h]

theorem get_set_ne (e : Engine) {d r : Nat} (v : Word64) (h : r ≠ d) : (e.set d v).get r = e.get r := by
  by_cases h0 : r = 0
  · simp [Engine.get, h0]
  · by_cases hd : d = 0
    · simp [Engine.set, hd]
    · simp [Engine.get, Engine.set, h0, hd, SMap.get_set_ne _ _ h]

@[simp] theorem get_skip (e : Engine) (n r : Nat) : (e.skip n).get r = e.get r := rfl
@[simp] theorem skip_pc (e : Engine) (n : Nat) : (e.skip n).pc = e.ahead n := rfl

theorem ahead_one (e : Engine) : e.ahead 1 = e.pc + 4 := rfl

theorem pfcEvent_none (s : State) (h : s.pfc = []) (c a n : Nat) : s.pfcEvent c a n = s := by
  simp [State.pfcEvent, h]

theorem stepped_none (s : State) (h : s.lks.attached = none) (l : Nat) : s.stepped l = s := by
  simp [State.stepped, h]

theorem followEvents_none (s : State) (h : s.red.queue = []) (l : Nat) : s.followEvents l = s := by
  simp [State.followEvents, h, State.followLoop]

/-- An instruction retires on a lane that nothing watches. -/
theorem retire_plain (s : State) (l : Nat) (a : Act) (kinds : List Nat) (e : Engine) (ha : (s.lane l).act = some a)
    (hp : s.pfc = []) (hd : s.lks.attached = none) (hq : s.red.queue = []) :
    s.retire l kinds e = s.setLane l { s.lane l with
      eng := e, act := some { a with count := a.count + 1, since := if kinds.isEmpty then a.since + 1 else 0 } } := by
  simp only [State.retire, ha]
  rw [pfcEvent_none _ (by simpa [State.setLane] using hp), stepped_none _ (by simpa [State.setLane] using hd),
    followEvents_none _ (by simpa [State.setLane] using hq)]

theorem ready_clean {s : State} {l : Nat} {a : Act} (h : s.Clean l a) : s.ready l = some a := by
  simp [State.ready, h.act, h.runs, h.halted, h.gate, h.stalled]

/-- `s` but for the free values drawn and the DRAM credits spent. -/
def State.fedBy (s : State) (n : Nat) (d : List (Nat × Nat)) : State := { s with free := n, prt := { s.prt with dram := d } }

theorem chargeDram_fed (s : State) (hp : s.pfc = []) (p n : Nat) :
    ∃ d, s.chargeDram p n = { s with prt := { s.prt with dram := d } } := by
  by_cases h : n = 0
  · exact ⟨s.prt.dram, by simp [State.chargeDram, h]⟩
  · exact ⟨SMap.upd 0 p (· + n) s.prt.dram, by simp [State.chargeDram, h, pfcEvent_none, hp]⟩

/-- What a line fetched from DRAM costs, with no performance counter enabled. -/
theorem dramLine_fed {s s1 : State} (hp : s.pfc = []) {l p a c : Nat} (h : s.dramLine l p a c = some s1) :
    ∃ n d, s1 = s.fedBy n d := by
  unfold State.dramLine at h
  split at h
  · exact ⟨s.free, s.prt.dram, (Option.some.inj h).symm⟩
  · split at h
    · exact ⟨s.free + 1, s.prt.dram, (Option.some.inj h).symm⟩
    · split at h
      · cases h
      · obtain ⟨d, hd⟩ := chargeDram_fed s.fresh.2 hp p 1
        rw [hd, pfcEvent_none _ (by exact hp)] at h
        exact ⟨s.free + 1, d, (Option.some.inj h).symm⟩

/-- An instruction on such a lane: its effect, once the fetch is paid. -/
theorem instr_clean {s : State} {l : Nat} {a : Act} (h : s.Clean l a) (f : Act → State → State) :
    ∃ n d, s.instr l f = f a (s.fedBy n d) := by
  obtain ⟨s1, h1⟩ := Option.isSome_iff_exists.mp h.fed
  obtain ⟨n, d, rfl⟩ := dramLine_fed h.counters h1
  exact ⟨n, d, by simp [State.instr, State.instrOr, ready_clean h, h.fetch, h.attached, h1]⟩

theorem compare_unarmed (s : State) (l : Nat) (h : SMap.get 0 (l / 2) s.lks.armed = 0) (kinds : List Nat)
    (k : State → State) : s.compare l kinds k = k s := by
  simp [State.compare, State.injects, h]

theorem retire_clean {s : State} {l : Nat} {a : Act} (h : s.Clean l a) (n : Nat) (d : List (Nat × Nat)) (kinds : List Nat)
    (e : Engine) : (s.fedBy n d).retire l kinds e = (s.fedBy n d).setLane l { s.lane l with
      eng := e, act := some { a with count := a.count + 1, since := if kinds.isEmpty then a.since + 1 else 0 } } :=
  retire_plain (s.fedBy n d) l a kinds e h.act h.counters h.attached h.queue

/-- What an instruction that computes a register does on such a lane. -/
theorem compute_clean {s : State} {l : Nat} {a : Act} (h : s.Clean l a) (d : Nat) (w : Word)
    (f : Engine → Except Nat Word64) (v : Word64) (hv : f (s.lane l).eng = .ok v) :
    ∃ n m, s.compute l d w f = (s.fedBy n m).setLane l { s.lane l with
      eng := (((s.lane l).eng).set d v).skip 1
      act := some { a with count := a.count + 1, since := if (quietKinds a).isEmpty then a.since + 1 else 0 } } := by
  unfold State.compute
  obtain ⟨n, m, hi⟩ := instr_clean h _
  refine ⟨n, m, hi.trans ?_⟩
  have he : ((s.fedBy n m).lane l).eng = (s.lane l).eng := rfl
  simp only [he, hv, compare_unarmed (s.fedBy n m) l h.armed, retire_clean h]

/-- The register of an instruction, and all that it leaves alone. -/
theorem ran_of_setLane {s : State} {l : Nat} {x : Lane} {d : Nat} {v : Word64} {pc : BitVec 40} {a : Act}
    (ha : (s.lane l).act = some a) (he : x.eng = { ((s.lane l).eng).set d v with pc := pc }) (n : Nat)
    (hx : x.act = some { a with count := a.count + 1, since := n }) (k : Nat) (m : List (Nat × Nat)) :
    Ran s ((s.fedBy k m).setLane l x).settle l d v pc := by
  have hl : ∀ j, ((s.fedBy k m).setLane l x).settle.lane j = (s.setLane l x).lane j := fun j => by
    simp [State.lane, State.setLane, State.fedBy]
  have hg : ∀ r, ({ ((s.lane l).eng).set d v with pc := pc } : Engine).get r = (((s.lane l).eng).set d v).get r :=
    fun r => rfl
  constructor
  · simp [hl, he, hg]
  · intro r hr
    simp [hl, he, hg, get_set_ne _ _ hr]
  · simp only [hl, lane_setLane_same, he]
  · simp only [hl, lane_setLane_same, he, Engine.set]
    split <;> exact ⟨rfl, rfl, rfl⟩
  · intro k hk
    simp [hl, lane_setLane_ne _ _ hk]
  · simp [hl, hx, ha]
  · simp [State.setLane, State.fedBy]
  · simp [State.setLane, State.fedBy]
  · intro k hk
    rw [settle_reg _ _ hk]
    rfl

/-- What such an instruction answers. -/
theorem compute_ran {s : State} {l : Nat} {a : Act} (h : s.Clean l a) (d : Nat) (w : Word)
    (f : Engine → Except Nat Word64) (v : Word64) (hv : f (s.lane l).eng = .ok v) :
    Completes (s.compute l d w f).done fun u => Ran s u l d v ((s.lane l).eng.pc + 4) := by
  refine ⟨_, rfl, ?_⟩
  obtain ⟨n, m, hc⟩ := compute_clean h d w f v hv
  rw [hc]
  refine ran_of_setLane h.act ?_ _ rfl n m
  have hp : (((s.lane l).eng).set d v).pc = (s.lane l).eng.pc := by simp only [Engine.set]; split <;> rfl
  simp [Engine.skip, Engine.ahead, hp]

end Sys2Proof.Machine
end

