-- ==== Sys2Proof/Laws/Memory.lean ====
section
/-! SUPPORT. Memory: a byte reads as it was stored, a store leaves every other byte alone, and every operation keeps the
canonical form. -/

namespace Sys2Proof.Machine

@[simp] theorem byte_setByte_same (s : State) (a : Nat) (v : Byte) : (s.setByte a v).byte a = v := by
  simp [State.byte, State.setByte]

theorem byte_setByte (s : State) (a i : Nat) (v : Byte) : (s.setByte a v).byte i = if i = a then v else s.byte i := by
  simp [State.byte, State.setByte, SMap.get_set]

/-- A byte after a run of bytes was stored. -/
theorem byte_setBytes (bs : List Byte) (s : State) (a i : Nat) :
    (s.setBytes a bs).byte i = if a ≤ i ∧ i < a + bs.length then bs.getD (i - a) 0 else s.byte i := by
  induction bs generalizing s a with
  | nil =>
    simp [State.setBytes]
  | cons b bs ih =>
    simp only [State.setBytes, ih, byte_setByte, List.length_cons]
    by_cases h1 : i = a
    · subst h1
      simp
    · by_cases h2 : a + 1 ≤ i ∧ i < a + 1 + bs.length
      · have h3 : a ≤ i ∧ i < a + (bs.length + 1) := by omega
        have h4 : i - a = (i - (a + 1)) + 1 := by omega
        simp [h2, h3, h4]
      · have h3 : ¬ (a ≤ i ∧ i < a + (bs.length + 1)) := by omega
        rw [if_neg h2, if_neg h1, if_neg h3]

theorem length_leBytes (n v : Nat) : (leBytes n v).length = n := by
  induction n generalizing v with
  | zero => rfl
  | succ n ih => simp [leBytes, ih]

/-- Bytes outside a stored word. -/
theorem byte_setWord_out (s : State) (a i : Nat) (v : Word) (h : i < a ∨ a + 4 ≤ i) :
    (s.setWord a v).byte i = s.byte i := by
  have : ¬ (a ≤ i ∧ i < a + 4) := by omega
  simp [State.setWord, byte_setBytes, length_leBytes, this]

theorem setByte_wf (s : State) (a : Nat) (v : Byte) (h : Memory.wf s.mem = true) :
    Memory.wf (s.setByte a v).mem = true := SMap.wf_set 0 a v s.mem h

theorem setBytes_wf (bs : List Byte) (s : State) (a : Nat) (h : Memory.wf s.mem = true) :
    Memory.wf (s.setBytes a bs).mem = true := by
  induction bs generalizing s a with
  | nil => exact h
  | cons b bs ih => exact ih _ _ (setByte_wf s a b h)

theorem setWord_wf (s : State) (a : Nat) (v : Word) (h : Memory.wf s.mem = true) :
    Memory.wf (s.setWord a v).mem = true := setBytes_wf _ s a h

theorem setWords_wf (ws : List Word) (s : State) (a : Nat) (h : Memory.wf s.mem = true) :
    Memory.wf (s.setWords a ws).mem = true := by
  induction ws generalizing s a with
  | nil => exact h
  | cons w ws ih => exact ih _ _ (setWord_wf s a w h)

theorem setPair_wf (s : State) (a v : Nat) (h : Memory.wf s.mem = true) :
    Memory.wf (s.setPair a v).mem = true := setWord_wf _ _ _ (setWord_wf s a _ h)

theorem zero_wf (s : State) (a n : Nat) (h : Memory.wf s.mem = true) : Memory.wf (s.zero a n).mem = true :=
  SMap.wf_filter 0 _ s.mem h

theorem keepMram_wf (m : List Host.Cell) (h : Memory.wf m = true) : Memory.wf (keepMram m) = true :=
  SMap.wf_filter 0 _ m h

theorem reset_mem_wf : Memory.wf State.reset.mem = true := rfl

end Sys2Proof.Machine
end

