-- ==== Sys2Proof/Tests/Slice0.lean ====
section
/-! SUPPORT. The author's own tests: what well-formedness refuses, a state that meets the hypotheses of each statement and
of its clauses, and a few results worked out by hand from the manual. -/

open Sys2Proof Sys2Proof.Machine

namespace Sys2Proof.Tests

set_option Elab.async false

/-! ### Small states -/

def inMode (m : Nat) (s : State) : State := s.put Fld.SYS_MODE_mode m

def withClaim (n : Word) (s : State) : State := { s.setReg Reg.RED_CLAIM n with nv := { s.nv with claim := n } }

/-- A module of a pair whose partner is in mode `pm`. -/
def paired (pm : Nat) (s : State) : State :=
  { s with
    sys := { s.sys with pins := { s.sys.pins with pair := true, partnerIn := true } }
    red := { s.red with peerMode := pm } }

/-- An enrolled key, and session 3 of Pliuz, open for safety parameters. -/
def keyed (s : State) : State :=
  { s with
    nv := { s.nv with key := [1, 2] }
    fw := { s.fw with sessions := [(3, some { scope := 255, mbx := 64, key := [1, 2] })], conn := some 7, connKey := [1, 2] }
    saf := { s.saf with auth := [3] } }

def com : State := keyed (withClaim 5 (inMode mCommission State.reset))
def actv : State := keyed (withClaim 5 (inMode mActive State.reset))
def serv : State := keyed (inMode mService State.reset)
def lead : State := paired mStandby actv
def stby : State := paired mActive (inMode mStandby State.reset)
def resync (p : Nat) : State := (paired mActive (inMode mResync State.reset)).put Fld.RED_RESYNC_phase p

/-- An activation of task 7 in partition 2. -/
def act0 : Act := { task := 7, part := 2, trig := ⟨255, 0, 0, 4096⟩, budget := 5000, count := 3 }

/-- Windows of partition 2: code, its slice of the pair-local bank of lane 0, a shared page range, and DRAM. -/
def windows (s : State) : State :=
  let put := fun (s : State) (w base pages : Nat) (attr : Nat) =>
    (s.setReg (Reg.PRT_WIN_BASE 2 w) (wd (base + attr * 2 ^ 28))).setReg (Reg.PRT_WIN_SIZE 2 w) (wd (pages - 1))
  put (put (put (put s 0 0x10000 16 13) 1 0x10C10 8 11) 2 0x10100 16 11) 3 0x100200 64 11

/-- Lane 0 of an ACTIVE module executes code of task 7. -/
def lane0 : State :=
  ((windows actv).setLane 0 { act := some act0, window := some 2, eng := { pc := 0x10000100#40, sb := 0x10C10240#40 } }).markStack
    0x10C10220 32

/-! The conditions of a lane, a mailbox and a block at rest, as tests that evaluate. -/

def cleanB (s : State) (l : Nat) (a : Act) : Bool :=
  (s.lane l).act == some a && s.runsCode && !a.halted && !a.gate && !(s.lane l).stalled &&
    s.allows a.part 30 (s.lane l).eng.pc.toNat && (s.fetchCost l a.part (s.lane l).eng.pc.toNat).isSome &&
    SMap.get 0 (l / 2) s.lks.armed == 0 && s.lks.attached == none &&
    s.pfc == [] && !s.led a && s.red.queue == []

theorem clean_of_test (s : State) (l : Nat) (a : Act) (h : cleanB s l a = true) : s.Clean l a := by
  simp only [cleanB, Bool.and_eq_true, beq_iff_eq, Bool.not_eq_true'] at h
  obtain ⟨⟨⟨⟨⟨⟨⟨⟨⟨⟨⟨h1, h2⟩, h3⟩, h4⟩, h5⟩, h6⟩, h7⟩, h8⟩, h9⟩, h10⟩, h11⟩, h12⟩ := h
  exact ⟨h1, h2, h3, h4, h5, h6, h7, h8, h9, h10, h11, h12⟩

def openB (s : State) (m : Nat) : Bool :=
  decide (m < 68) && decide (m = 64 → s.fw.conn.isSome = true) &&
    ((upFrom 0 68).all fun j => j == m || s.reqCount j == 0) && s.served m &&
    decide (m < 64 → s.mode ≠ mStandby ∧ s.mode ≠ mResync) &&
    s.reqCount m == 0 && decide (s.rspCount m < 32) && (s.mbox m).line == []

theorem mem_upFrom {j a n : Nat} : j ∈ upFrom a n ↔ a ≤ j ∧ j < a + n := by
  induction n generalizing a with
  | zero => simp [upFrom]
  | succ n ih => simp [upFrom, ih]; omega

theorem open_of_test (s : State) (m : Nat) (h : openB s m = true) : s.Open m := by
  simp only [openB, Bool.and_eq_true, beq_iff_eq, decide_eq_true_eq] at h
  obtain ⟨⟨⟨⟨⟨⟨⟨h1, h2⟩, h3⟩, h4⟩, h5⟩, h6⟩, h7⟩, h8⟩ := h
  refine ⟨h1, h2, fun j hj => ?_, h4, h5, h6, h7, h8⟩
  by_cases hl : j < 68
  · have := List.all_eq_true.mp h3 j (mem_upFrom.mpr ⟨Nat.zero_le _, by omega⟩)
    have h0 : s.reqCount j = 0 := by simpa [hj] using this
    simp [State.canTake, h0]
  · simp [State.canTake, State.served, servedIn, hl]

def restsB (s : State) : Bool :=
  s.prt.lanes == [] && s.prt.tasks == [] && s.red.abandoned == [] && s.ce.jobs == [] && s.qe.groups == [] && s.fw.mboxes == []

theorem rests_of_test (s : State) (h : restsB s = true) : s.AtRest := by
  simp only [restsB, Bool.and_eq_true, beq_iff_eq] at h
  obtain ⟨⟨⟨⟨⟨h1, h2⟩, h3⟩, h4⟩, h5⟩, h6⟩ := h
  exact ⟨h1, fun t => by simp [State.task, h2, SMap.get], h3, h4, h5, fun m => by simp [State.mbox, h6, SMap.get]⟩

/-! ### Block code -/

/-- A queue with a command in front, and an empty one. -/
theorem witness_writes :
    (State.reset.sys.slow = [] ∧ endsSlow .oscillatorWarm = false ∧ putsOf State.reset .oscillatorWarm = [] ∧
      putsOf State.reset (.sysRst 0x52535431) = [(Reg.SYS_RST, 0x52535431)] ∧
      State.reset.keepsReserved Reg.FIO_KICK 0x80000000 = true ∧ State.reset.keepsReserved Reg.FIO_KICK 1 = false) ∧
    (let slow := fun (m : Nat) (l : Option Nat) (s : State) =>
       { s with sys := { s.sys with slow := [⟨m, 0, Reg.PNL_DRIVE, true, 0x40, l, none⟩] } }
     let a := slow 0 none State.reset
     let b := slow 3 (some 2) State.reset
     (a.slowOf 0).isSome = true ∧ (b.slowOfLane 2).isSome = true ∧ Reg.PNL_DRIVE ≠ Reg.LKS_DBGMEM ∧
      a.keepsReserved Reg.PNL_DRIVE 0x40 = true) := by decide +kernel

theorem witness_step :
    ({ State.reset with pending := [.powerOn] } : State).pending = .powerOn :: [] ∧ State.reset.pending = [] := by decide +kernel

theorem witness_invariant : ∃ t, step { State.reset with pending := [.oscillatorWarm] } = .next t := ⟨_, rfl⟩

/-- Lane 0 with values in two registers. -/
def lane1 : State := lane0.setLane 0 { lane0.lane 0 with eng := ((((lane0.lane 0).eng.set 3 5).set 4 7).set 5 0x10100040) }

/-- The hypothesis of the statements of results: a lane that executes undisturbed. -/
theorem witness_clean : lane0.Clean 0 act0 ∧ lane1.Clean 0 act0 :=
  ⟨clean_of_test _ _ _ (by decide +kernel), clean_of_test _ _ _ (by decide +kernel)⟩

/-- Divisors that are 0 and not 0 under the type, operands of CHK on both sides, a word that is no instruction, and an
activation of a task without a trap. -/
theorem witness_operands :
    typed 6 (lane1.gpr 0 3) ≠ 0 ∧ typed 6 (lane1.gpr 0 9) = 0 ∧ (lane1.task act0.task).traps ≠ 2 ∧
    lane1.gpr 0 3 < lane1.gpr 0 4 ∧ lane1.gpr 0 3 ≤ lane1.gpr 0 4 ∧ lane1.gpr 0 9 = 0 ∧ illegalWord 0xFFFFFFFF = true := by
  decide +kernel

/-- An instance pair of task 7, of 128 bytes, in a DRAM window of its partition, which has DRAM credits. -/
def inst0 : State :=
  ((lane0.setWord (lane0.planBase + 0x440 + 16 * 7 + 12) (wd (0x100201000 / 64))).setWord 0x100201004 128).setWord
    (lane0.planBase + 0x40 + 16 * 2) 10

/-- Lane 0 with an address in register 5, and further windows: instance data in DRAM without its last, the registers of SYS,
and the boot ROM. -/
def laneAt (x : Nat) : State :=
  let s := lane0.setLane 0 { lane0.lane 0 with eng := (lane0.lane 0).eng.set 5 (BitVec.ofNat 64 x) }
  let put := fun (s : State) (w base : Nat) =>
    (s.setReg (Reg.PRT_WIN_BASE 2 w) (wd (base + 11 * 2 ^ 28))).setReg (Reg.PRT_WIN_SIZE 2 w) 0
  put (put s 4 0x40000) 5 0

/-- Locations of loads and stores that meet no trap: a shared page, and instance data. -/
theorem witness_loads_and_stores :
    (lane1.location act0 (lane1.lane 0).eng 3 5 2 4 = 0x10100050 ∧
      lane1.accessTrap act0 3 5 4 0x10100050 false = none ∧ lane1.accessTrap act0 3 5 4 0x10100050 true = none ∧
      lane1.denied act0.part 0x10100050 false = none ∧ lane1.denied act0.part 0x10100050 true = none ∧
      regionOf 0x10100050 ≠ some 2 ∧ regionOf 0x10100050 ≠ some 0 ∧ lane1.agreed 0x10100050 = false ∧
      (lane1.dramCost 0 act0.part 0x10100050).isSome = true ∧ lane1.defined 0x10100050 4 = true) ∧
    (let s := laneAt 0x10C10300
     let x := s.location act0 (s.lane 0).eng 3 5 2 0
     cleanB s 0 act0 = true ∧ s.accessTrap act0 3 5 4 x false = none ∧ s.denied 2 x false = none ∧ s.agreed x = false ∧
      s.defined x 4 = false) ∧
    (cleanB inst0 0 act0 = true ∧ inst0.taskInst 7 = 0x100201000 ∧ inst0.instSize 0x100201000 = 128 ∧
      inst0.location act0 (inst0.lane 0).eng 0 0 2 4 = 16 ∧ inst0.accessTrap act0 0 0 4 16 false = none ∧
      inst0.accessTrap act0 0 0 4 16 true = none ∧ regionOf (inst0.workAddr 0x100201000 16) = some 3) := by decide +kernel

/-- The shared page of `lane1` as an agreed region. -/
def agreedPage (s : State) : State :=
  (s.setReg (Reg.LKS_AGR_BASE 0) (wd (0x10100 + 2 ^ 31))).setReg (Reg.LKS_AGR_SIZE 0) 0

theorem witness_shared_and_register_accesses :
    (let s := agreedPage (laneAt 0x10100040)
     let x := s.location act0 (s.lane 0).eng 3 5 2 4
     cleanB s 0 act0 = true ∧ s.accessTrap act0 3 5 4 x false = none ∧ s.denied 2 x false = none ∧ regionOf x ≠ some 2 ∧
      s.agreed x = true ∧ s.laneSplit 0 = false ∧ (s.dramCost 0 2 x).isSome = true ∧ (s.lane 0).agr.length < 16 ∧
      (let f := s.setLane 0 { s.lane 0 with agr := List.replicate 16 ⟨0, 3, 0⟩ }
       cleanB f 0 act0 = true ∧ 16 ≤ (f.lane 0).agr.length)) ∧
    (let s := laneAt (0x40000000 + Reg.SYS_ID)
     let x := s.location act0 (s.lane 0).eng 3 5 2 0
     cleanB s 0 act0 = true ∧ s.accessTrap act0 3 5 4 x false = none ∧ s.denied 2 x false = none ∧
      x - 0x40000000 = Reg.SYS_ID ∧ regionOf x = some 2 ∧ plainReg Reg.SYS_ID = true ∧ Reg.SYS_ID < 0x160000 ∧
      s.admits 2 Reg.SYS_ID false = .full ∧ Reg.SYS_ID ≠ Reg.LKS_DBGDATA ∧ Reg.SYS_ID ≠ Reg.LKS_DBGMEM ∧
      (match s.regInfo Reg.SYS_ID with | some r => r.slow | none => true) = false) ∧
    (let s := laneAt (0x40000000 + Reg.SYS_TEMP)
     let x := s.location act0 (s.lane 0).eng 3 5 2 0
     cleanB s 0 act0 = true ∧ s.accessTrap act0 3 5 4 x true = none ∧ s.denied 2 x true = none ∧ regionOf x = some 2 ∧
      s.admits 2 Reg.SYS_TEMP true = .empty ∧ s.admits 2 Reg.SYS_TEMP false = .empty ∧
      (match s.regInfo Reg.SYS_TEMP with | some r => r.slow | none => true) = false) ∧
    (let s := laneAt 0x100
     let x := s.location act0 (s.lane 0).eng 3 5 2 0
     cleanB s 0 act0 = true ∧ s.accessTrap act0 3 5 4 x true = none ∧ s.denied 2 x true = none ∧ regionOf x = some 0) ∧
    (let s := (inst0.setReg (Reg.PRT_WIN_BASE 2 3) 0)
     cleanB s 0 act0 = true ∧ s.accessTrap act0 0 0 4 16 false = none ∧ (s.denied 2 (s.workAddr 0x100201000 16) false).isSome = true ∧
      (s.task 7).traps ≠ 2) ∧
    (inst0.denied 2 (inst0.workAddr 0x100201000 16) false = none ∧ inst0.denied 2 (inst0.storeAddr 0x100201000 16) true = none ∧
      16 + 4 ≤ inst0.instSize 0x100201000 ∧ inst0.instSize 0x100201000 % 64 = 0) := by decide +kernel

/-- Whatever the free value that decides whether a DRAM access is charged, its credit is granted. -/
theorem witness_dram_credit : ∃ s0 s1, inst0.fetchCost 0 2 (inst0.lane 0).eng.pc.toNat = some s0 ∧
    s0.dramCost 0 2 0x1002010C0 = some s1 := by
  have hc : ¬ inst0.dramCredits 2 ≤ SMap.get 0 2 inst0.prt.dram := by decide +kernel
  have hr : ¬ (regionOf 0x1002010C0 != some 3) = true := by decide +kernel
  have hf : (regionOf (inst0.lane 0).eng.pc.toNat != some 3) = true := by decide +kernel
  refine ⟨inst0, ?_⟩
  simp only [State.fetchCost, State.dramCost, State.dramLine, if_pos hf, if_neg hr, if_neg hc, true_and]
  split <;> exact ⟨_, rfl⟩

/-- A stack inside its limits: frames for CALL and ENTER, a link record to return by, and the root frame. -/
theorem witness_calls :
    let sb := (lane0.lane 0).eng.sb.toNat
    let s := lane0.setWord (sb - 32) 0x10000200
    (sb % 8 = 0 ∧ lane0.stackStart 0 2 + 32 ≤ sb ∧ lane0.denied 2 (sb - 8) false = none ∧
      lane0.defined (sb - 8) 8 = true ∧
      (sb + lane0.item (sb - 8) 8) % 8 = 0 ∧ sb + lane0.item (sb - 8) 8 + 64 ≤ lane0.stackLimit 0 2 ∧
      lane0.allows 2 30 (sb + lane0.item (sb - 8) 8) = false ∧ lane0.allows 2 30 (sb + lane0.item (sb - 8) 8 + 24) = false ∧
      (∀ i ∈ [0, 8, 16, 24], lane0.denied 2 ((sb + lane0.item (sb - 8) 8 + i) % 2 ^ 64) true = none)) ∧
    (sb + 4 * 8 + 64 ≤ lane0.stackLimit 0 2 ∧ lane0.allows 2 30 (sb - 8) = false ∧ lane0.denied 2 (sb - 8) true = none) ∧
    (sb ≤ lane0.stackLimit 0 2 ∧ (∀ i ∈ [0, 8, 16, 24], lane0.denied 2 (sb - 32 + i) false = none) ∧
      (∀ i ∈ [0, 8, 16, 24], s.defined (sb - 32 + i) 8 = true) ∧ cleanB s 0 act0 = true ∧ s.item (sb - 32) 8 ≠ 0) ∧
    (lane0.item (sb - 32) 8 = 0 ∧ lane0.awaits act0 = false ∧ act0.taken = [] ∧ (lane0.task 7).app = none ∧ act0.task < 512) := by
  decide +kernel

/-- A debugger on a lane in COMMISSION, and a pc outside the code. -/
theorem witness_traps :
    (let s := (windows com).setLane 0 (lane0.lane 0)
     let s := { s with lks := { s.lks with attached := some 0 } }
     s.ready 0 = some act0 ∧ s.allows 2 30 (s.lane 0).eng.pc.toNat = true ∧ s.lks.haltReq = false ∧ s.mode = mCommission ∧
      SMap.get 0 0 s.lks.armed = 0 ∧ s.pfc = [] ∧ s.red.queue = [] ∧ s.lks.steps = 0 ∧
      (s.fetchCost 0 2 (s.lane 0).eng.pc.toNat).isSome = true) ∧
    (let s := lane0.setLane 0 { lane0.lane 0 with eng := { pc := 0x10100000#40 } }
     s.ready 0 = some act0 ∧ s.allows 2 30 (s.lane 0).eng.pc.toNat = false ∧ s.lks.attached = none) := by decide +kernel

/-- An agreement buffer with room, and a full one. -/
theorem witness_time :
    let full := lane0.setLane 0 { lane0.lane 0 with agr := List.replicate 16 ⟨0, 3, 0⟩ }
    lane0.laneSplit 0 = false ∧ (lane0.lane 0).agr.length < 16 ∧ cleanB full 0 act0 = true ∧ 16 ≤ (full.lane 0).agr.length := by
  decide +kernel

/-- A slot table of one entry on lane 0, for partition 2 from vector 0 on. -/
def slots : State :=
  let b := actv.planBase
  (((actv.putBit Fld.PRT_LANES_usable 0 true).setWord (b + 0x14) 1).setWord (b + 0x2440) (wd (10 * 65536))).setWord (b + 0x2444) 0x102

/-- A suspended activation of task 7, and one that waits to start. -/
def restingTask : State :=
  let b := actv.planBase
  let s := (slots.setWord (b + 0x440 + 16 * 7) 0x400000).setWord (b + 0x440 + 16 * 7 + 8) 2
  (s.setLane 0 { window := some 2 }).setTask 7 { susp := some (act0, {}) }

def waitingTask : State :=
  let b := actv.planBase
  let s := (slots.setWord (b + 0x440 + 16 * 7) 0x400000).setWord (b + 0x440 + 16 * 7 + 8) 2
  (s.setLane 0 { window := some 2 }).setTask 7 { pending := some { src := 1 } }

theorem witness_lane_windows :
    (slots.leeward = false ∧ slots.slowOfLane 0 = none ∧ (slots.lane 0).window = none ∧ slots.laneUsable 0 = true ∧
      (slots.laneEntries slots.planBase 0)[(0 : Nat)]? = some (0, 10, 2, true)) ∧
    (let s := actv.setLane 0 { window := some 2 }
     s.slowOfLane 0 = none ∧ (s.lane 0).window = some 2 ∧ (s.lane 0).act = none) ∧
    (lane0.slowOfLane 0 = none ∧ (lane0.lane 0).window = some 2 ∧ lane0.windowStop 0 = none ∧ (lane0.lane 0).act = some act0 ∧
      lane0.led act0 = false ∧ lane0.fld (Fld.PRT_RUNUSED_used 0) < act0.budget ∧ act0.halted = false ∧
      lane0.fld (Fld.PRT_TSTAT_consec 7) < 2 ∧ act0.taken = [] ∧ act0.resv = [] ∧ (∀ x ∈ lane0.prt.lanes, x.1 < 8) ∧
      lane0.pfc = []) := by decide +kernel

theorem witness_resume :
    restingTask.leeward = false ∧ restingTask.runsCode = true ∧ (restingTask.lane 0).act = none ∧
    (restingTask.lane 0).window = some 2 ∧ restingTask.suspendedOn 0 2 = some 7 ∧
    (restingTask.task 7).susp = some (act0, {}) ∧ act0.halted = false ∧ restingTask.led act0 = false := by decide +kernel

theorem witness_start :
    let s := waitingTask
    let r := s.refreshDomains
    s.leeward = false ∧ s.runsCode = true ∧ s.laneUsable 0 = true ∧ (s.lane 0).act = none ∧ (s.lane 0).window = some 2 ∧
    r.suspendedOn 0 2 = none ∧ r.lane 0 = s.lane 0 ∧ r.leeward = false ∧ r.red.crossing = false ∧ r.gaveUp = false ∧
    (r.advance ((s.lane 0).openAt - r.clk)).nextTask 0 2 = some (7, ⟨1, 0, 0, 4096⟩) := by decide +kernel

/-- A map copy under way and none, a usable unsplit pair, and a split one. -/
theorem witness_lane_upkeep :
    ((lane0.setTask 7 { copying := true }).task 7).copying = true ∧ (lane0.task 7).copying = false ∧
    (let s := lane0.put Fld.LKS_CFG_usable 15
     s.laneSplit 0 = false ∧ s.pairUsable 0 = true ∧ s.leeward = false) ∧
    (lane0.putBit Fld.PRT_LANES_split 0 true).laneSplit 0 = true := by decide +kernel

/-! ### Registers, mailboxes and queues -/

/-- A writer with no slow access waiting; values inside, outside and beyond a field; the lock; an address without a register;
registers of the slow domain. -/
theorem witness_register_writes :
    actv.slowOf 0 = none ∧ (actv.flag Fld.PRT_LOCK_lock true).isSet Fld.PRT_LOCK_lock = true ∧
    (0 ≤ (1023 : Word).toNat ∧ (1023 : Word).toNat ≤ 1023) ∧ ((15 : Word).toNat < 2 ^ 8 ∧ (15 : Word).toNat < 16) ∧
    2 ^ 10 ≤ (1024 : Word).toNat ∧ (0x0FF000 % 4 = 0 ∧ 0x0FF000 < 0x160000 ∧ regInfoAt 0x0FF000 = none) := by decide +kernel

theorem witness_keys :
    com.mode = mCommission ∧ com.fbit Fld.LKS_CFG_split 0 = false ∧ (com.put Fld.LKS_CFG_usable 15).pairUsable 0 = true ∧
    actv.mode ≠ mCommission ∧ (0 : BitVec 16) ≠ 0xC8A5 ∧ (0 : BitVec 16) ≠ 0x7E1D := by decide +kernel

/-- A slow access of master 3 that reads PNL_TIMING. -/
def slowRead : SlowAcc := ⟨3, 0, Reg.PNL_TIMING, false, 0, none, none⟩

theorem witness_register_reads :
    (∃ r, regInfoAt Reg.SYS_TEMP = some r ∧ r.slow = false) ∧ actv.slowOf 0 = none ∧ Reg.SYS_TEMP < 0x160000 ∧
    Reg.SYS_TEMP % 4 = 0 ∧ plainReg Reg.SYS_TEMP = true ∧ Reg.SYS_TEMP ≠ Reg.LKS_DBGDATA ∧ Reg.SYS_TEMP ≠ Reg.LKS_DBGMEM ∧
    (∃ r, regInfoAt slowRead.key = some r ∧ r.slow = true) ∧
    ({ actv with sys := { actv.sys with slow := [slowRead] } } : State).slowOf 3 = some slowRead ∧ slowRead.lane = none ∧
    slowRead.write = false ∧ slowRead.key ≠ Reg.LKS_DBGDATA ∧ slowRead.key ≠ Reg.LKS_DBGMEM :=
  ⟨⟨_, rfl, by decide +kernel⟩, by decide +kernel, by decide +kernel, by decide +kernel, by decide +kernel, by decide +kernel,
    by decide +kernel, ⟨_, rfl, by decide +kernel⟩, by decide +kernel⟩

/-- Heads at the last free slot and one beyond, a tail at the head, and a lane whose partition may not reach the mailbox. -/
theorem witness_mailbox_indices :
    let s := lane0.put (Fld.MBX_RSP_HEAD_head 5) 3
    (32 + 65536 - s.fld (Fld.MBX_REQ_HEAD_head 5)) % 65536 ≤ 32 - s.reqCount 5 ∧
    32 - s.reqCount 5 < (33 + 65536 - s.fld (Fld.MBX_REQ_HEAD_head 5)) % 65536 ∧
    (3 + 65536 - s.fld (Fld.MBX_RSP_TAIL_tail 5)) % 65536 ≤ s.rspCount 5 ∧
    (s.lane 0).act = some act0 ∧ act0.part ≠ 5 ∧ (s.task 7).traps ≠ 2 := by decide +kernel

/-- Queue 9 of consumer `cons`, enabled, of partition 1, with quotas for every partition used here. -/
def queues (cons : Nat) (s : State) : State :=
  let s := s.setRec 0x04 9 [0x101, 50, wd (cons * 256), 0]
  let a := s.planBase
  (upFrom 0 4).foldl (fun s p =>
    (s.setWord (a + 0x40 + 16 * p + 4) (wd (100 + 100 * 65536))).setWord (a + 0x40 + 16 * p + 8) (wd (100 + 100 * 65536))) s

/-- One message in queue 9. -/
def message (kind cons : Nat) (ws : List Word) (u1 : Word) (s : State) : State :=
  ((queues cons s).deliver 9 ⟨kind, 0x10, wordBytes ws, 0, u1⟩).1

theorem witness_queue_engine :
    let s := queues 0x22 actv
    let f := message 3 0x22 [1, 2] 0 actv
    (s.freeElem 0 = some 0 ∧ s.fld (useFld 0 1) < s.quotaOf 0 1) ∧ actv.quotaOf 0 1 ≤ actv.fld (useFld 0 1) ∧
    (f.qEn 9 = true ∧ f.front 9 = some 0 ∧ handleElem (handleOf 0 0) = some (0, 0) ∧ f.chargeOf 0 0 = 1 + 1) ∧
    (actv.qEn 9 = false ∧ s.front 9 = none) ∧
    (bits (f.descWord 0 0) 28 16 = 9 ∧ f.depth 9 + (f.queue 9).reserved < f.qLimit 9 ∧
      (f.descHandles 0).all handleOk = true ∧ ((f.setDescWord 0 4 0x9000).descHandles 0).all handleOk = false) := by decide +kernel

theorem witness_debugger :
    (com.mayDebug = true ∧ com.lks.attached = none) ∧ actv.mayDebug = false ∧
    (let s := (windows com).setLane 0 { lane0.lane 0 with act := some { act0 with halted := true } }
     let s := { s with lks := { s.lks with attached := some 0 } }
     s.lks.attached = some 0 ∧ (s.lane 0).act = some { act0 with halted := true } ∧ s.ready 0 = none ∧
      regionOf 0x10100040 ≠ some 2 ∧ regionOf 0x10100040 ≠ some 0 ∧ s.denied 2 0x10100040 false = none ∧
      s.denied 2 0x10100040 true = none ∧ s.defined 0x10100040 4 = true) ∧
    (let s := ((windows com).setLane 0 (lane0.lane 0)).put Fld.LKS_CFG_usable 15
     s.ready 0 = some act0 ∧ s.laneSplit 0 = false ∧ s.pairUsable 0 = true ∧
      SMap.get 0 0 ({ s with lks := { s.lks with armed := [(0, 8)] } } : State).lks.armed = 8) := by decide +kernel

/-- Mailboxes that take a request at once. -/
theorem witness_open : com.Open 64 ∧ actv.Open 2 ∧ lead.Open 64 ∧ serv.Open 67 :=
  ⟨open_of_test _ _ (by decide +kernel), open_of_test _ _ (by decide +kernel), open_of_test _ _ (by decide +kernel),
    open_of_test _ _ (by decide +kernel)⟩

theorem witness_refusal : asks (.cfgCommit 64 5 9) = some (64, 0x0104, 5, [9]) ∧
    ∃ st reason arg, com.refuses 64 0x0104 [9] = some (st, reason, arg) := ⟨rfl, _, _, _, rfl⟩

/-- A state with a record, a report, a parameter set and an event record. -/
def known : State :=
  let s := com.setRec 0x10 3 [1, 2, 3]
  { s with
    prt := { s.prt with reports := [(4, [9, 8])] }
    saf := { s.saf with params := [(2, [0x53414645, 2])] } }

theorem witness_queries :
    openB known 64 = true ∧ known.refuses 64 0x0705 [7] = none ∧ known.refuses 64 0x0601 [] = none ∧
    known.refuses 64 0x0701 [] = none ∧ known.refuses 64 0x0302 [] = none ∧
    (known.refuses 64 0x0106 [0x10000003, 0] = none ∧ known.rec_ 0x10 3 ≠ [] ∧ (known.rec_ 0x10 3).length ≤ 59) ∧
    (known.refuses 64 0x0204 [5, 0] = none ∧ known.prt.reports.find? (·.1 == 5) = none) ∧
    (known.refuses 64 0x0204 [4, 4] = none ∧ known.prt.reports.find? (·.1 == 4) = some (4, [9, 8])) ∧
    (known.refuses 64 0x0402 [2] = none ∧ known.setLoaded 2 = true ∧ known.setLoaded 3 = false) ∧
    (known.refuses 64 0x0501 [5] = none ∧ known.evValid 5 = false) ∧ known.refuses 64 0x0703 [0, 4] = none := by
  decide +kernel

theorem witness_event_record :
    let s := actv.setWords (evSlot 5) (0x10001 :: 5 :: List.replicate 29 0 ++ [0x45565244])
    openB s 2 = true ∧ s.refuses 2 0x0501 [5] = none ∧ s.evValid 5 = true ∧ (s.evWords 5).length ≤ 60 := by decide +kernel

theorem witness_record_reads :
    let n := fun (x : Word) (o : Nat) => (known.cfgView (bits x 31 24) (bits x 23 0) o).1
    known.refuses 64 0x0106 [0x10000007, 0] = none ∧ n 0x10000007 0 = 0 ∧ known.refuses 64 0x0106 [0x10000003, 2] = none ∧
    n 0x10000003 0 ≠ 0 ∧ known.refuses 64 0x0106 [0x10000003, 4096] = none ∧ 4 * n 0x10000003 1024 ≤ 4096 := by decide +kernel

/-! ### Sessions, commands at a boundary, images -/

theorem witness_open_sessions :
    (let s := { com with fw := { com.fw with sessions := [] } }
     openB s 64 = true ∧ s.refuses 64 0x0102 [0xFF] = none ∧ foreign 64 0xFF = false ∧
      ((s.fw.sessions.filterMap (·.2)).all fun y => (0xFF : Nat) != 0xFF && y.scope != 0xFF && y.scope != 0xFF) = true ∧
      ((upFrom 1 15).find? fun n => (SMap.get none n s.fw.sessions).isNone) = some 1) ∧
    (let ms := (recLayout 0x10 3).getD []
     com.refuses 64 0x0103 [3, 0x10000003, 1, 0, 0] = none ∧ recLayout 0x10 3 = some ms ∧ undescribed ms [1, 0, 0] 0 = none ∧
      com.writeRefused 64 3 0x10 3 (fullRecord ms [1, 0, 0]) = none) ∧
    (com.refuses 64 0x0107 [3, 5] = none ∧ (5 : Word).toNat < 2 ^ 25 ∧ bits 5 7 0 < 120 ∧ (com.ses 3).scope = 0xFF) ∧
    (com.refuses 64 0x0202 [3, 7, 2] = none ∧ com.refuses 64 0x0205 [3, 2, 0xFFFF, 0, 0] = none ∧
      0 ≤ 50 * com.fld (Fld.PRT_CEIL_TIME_time 2)) ∧
    (com.refuses 64 0x0401 [3, 2, 0, 7] = none ∧ com.saf.auth.contains 3 = true) ∧
    com.refuses 64 0x0103 [3, 0x0C00FFFF, 7] = none ∧ com.refuses 64 0x0105 [3] = none ∧ com.sessionBusy 3 = false := by
  decide +kernel

/-- A declaration of a task of partition 2 with a period of 1 ms and a budget of 100 µs. -/
theorem witness_declaration :
    let d : List Word := [4, 100, 2, 0, 0, 0, 0, 0, 0, 0, 0]
    com.refuses 64 0x0201 (3 :: d) = none ∧ com.declRefused d = none ∧ foreign 64 (declPart d) = false ∧
      (com.ses 3).scope = 0xFF ∧ wBit d 1 19 = false ∧ com.declNumber 3 d = some 1 ∧ d.length ≤ 59 := by decide +kernel

theorem witness_modes :
    com.refuses 64 0x0101 [3] = none ∧ com.judgeMode 0 = .refuse stNotInMode 0x104 ∧ com.judgeMode 7 = .schedule ∧
    (actv.refuses 64 0x0101 [2] = none ∧ openB actv 64 = true ∧ actv.judgeMode 2 = .confirm) ∧
    (serv.refuses 64 0x0101 [3] = none ∧ openB serv 64 = true ∧ serv.judgeMode 3 = .reset) := by decide +kernel

/-- A channel of a field unit, enabled, whose point a force may take. -/
def field (u c : Nat) (x : FChan) (s : State) : State := (s.setChan u c x).setLink u { up := true, ever := true }

theorem witness_commits :
    (com.partnerStandby = false ∧ com.refuses 64 0x0104 [3] = none ∧ setKind (com.ses 3).stages ≠ 4 ∧
      com.chkCommit (scopeOf (com.ses 3)) (com.saf.auth.contains 3) (com.ses 3).stages = none) ∧
    (let s := field 2 3 { cfg := [1] } com
     let a := ptAddr 0 2 3 0
     let f := { s with fw := { s.fw with forces := [⟨a, 1, false, 0⟩] } }
     (openB s 64 = true ∧ s.refuses 64 0x0108 [wd a, 1, 1] = none ∧ s.unit78 a = false ∧ s.safetyPoint a = false ∧ s.fw.forces = [] ∧
        s.pendingForces = [] ∧ s.widePoint a = false ∧ s.knownPoint a = true) ∧
      (openB f 64 = true ∧ f.refuses 64 0x0108 [wd a, 0, 0] = none ∧ f.unit78 a = false ∧ f.safetyPoint a = false ∧
        (f.fw.forces.map (·.addr)).contains a = true ∧ f.pendingForces = [] ∧ f.widePoint a = false ∧ f.knownPoint a = true)) ∧
    com.refuses 64 0x0602 [0, 7] = none ∧ com.refuses 64 0x0702 [0xC8A5] = none ∧ com.refuses 64 0x0203 [3] = none ∧
    com.refuses 64 0x0502 [1] = none ∧ com.refuses 64 0x0502 [0] = none ∧ com.refuses 64 0x0704 [510] = none := by decide +kernel

theorem witness_confirmations :
    let v := setCheck (known.paramSet 2)
    (openB known 67 = true ∧ known.partnerStandby = false ∧ known.refuses 67 0x0403 [2, v] = none ∧ known.setLoaded 2 = true ∧
      known.saf.barred.contains 2 = false) ∧
    (known.refuses 67 0x0403 [2, v + 1] = none ∧ v + 1 ≠ v) ∧
    (let s := { com with nv := { com.nv with key := [] } }
     openB s 64 = true ∧ s.refuses 64 0x0109 (List.replicate 16 1) = none ∧ s.nv.key = []) := by decide +kernel

/-- An image session at mailbox 64, open and closed. -/
def image (closed : Bool) (s : State) : State :=
  { s with
    fw := { s.fw with images := [(1, some { type := 1, slot := 1, who := 64, closed := closed })], store := [(3, { size := 10, ok := true })] } }

theorem witness_images :
    (serv.refuses 64 0x0801 [1, 1, 10] = none ∧ serv.usedSlot 1 ≠ 1 ∧ serv.fw.online = none ∧ serv.fw.images = [] ∧
      openB serv 64 = true) ∧
    (let s := image false serv
     openB s 64 = true ∧ s.refuses 64 0x0802 [1, 8, 7] = none ∧ (∃ z, s.imgSession 64 1 = some z ∧ z.closed = false) ∧
      8 ≤ (s.imgSlot 1 1).size ∧ s.refuses 64 0x0803 [1] = none ∧ s.refuses 64 0x0804 [1, 1] = none ∧ (s.imgSlot 1 1).ok = true) ∧
    (∃ z, SMap.get none 1 (image true serv).fw.images = some z ∧ z.closed = true ∧ z.checked = false) ∧
    (stby.mode = mStandby ∧ stby.fw.images = [] ∧ serv.mode ≠ mStandby) :=
  ⟨by decide +kernel, ⟨by decide +kernel, by decide +kernel, ⟨_, rfl, rfl⟩, by decide +kernel⟩, ⟨_, rfl, rfl, rfl⟩, by decide +kernel⟩

theorem witness_authority :
    let s := com
    let k := { com with nv := { com.nv with passwords := [(0, saltedHash 5 (List.replicate 8 1))] } }
    (openB s 64 = true ∧ s.refuses 64 0x0404 (2 :: List.replicate 8 1) = none ∧ s.saf.authBarred = false ∧ SMap.get [] 0 s.nv.passwords = []) ∧
    (openB k 64 = true ∧ k.refuses 64 0x0404 (2 :: List.replicate 8 1) = none ∧ k.saf.authBarred = false ∧ SMap.get [] 0 k.nv.passwords ≠ [] ∧
      passwordOk (SMap.get [] 0 k.nv.passwords) (List.replicate 8 1) = true) ∧
    (k.refuses 64 0x0404 (2 :: List.replicate 8 5) = none ∧ passwordOk (SMap.get [] 0 k.nv.passwords) (List.replicate 8 5) = false) := by decide +kernel

theorem witness_key :
    (let k := { com with fw := { com.fw with sessions := [] } }
     k.refuses 64 0x0109 (List.replicate 16 7) = none ∧ k.nv.key ≠ [] ∧ k.fw.sessions = [] ∧ openB k 64 = true) ∧
    com.refuses 64 0x0203 [3] = none ∧ com.refuses 64 0x0502 [1] = none ∧ com.refuses 64 0x0502 [0] = none ∧
    com.refuses 64 0x0704 [6] = none := by decide +kernel

theorem witness_veer_and_checkpoint :
    (openB lead 64 = true ∧ lead.refuses 64 0x0301 [] = none ∧ lead.veering = false ∧ lead.sys.modeAt = none ∧
      lead.fld Fld.RED_RESYNC_phase = 0 ∧ (lead.reg Reg.RED_CLAIM).toNat < 0xFFFFFFFE) ∧
    (let s := actv.setTask 5 { decl := [1, 0x80000] }
     openB s 64 = true ∧ s.refuses 64 0x0303 [5] = none ∧ wBit (s.task 5).decl 1 19 = true) := by decide +kernel

/-- A request of ECHO in the ring of mailbox 64. -/
def ringed : State :=
  (actv.setWords (reqSlot 64 0) [wd (0x705 + 9 * 65536), 8, wd (0x4000 + 3 * 65536), 0, 7, 8]).put (Fld.MBX_REQ_HEAD_head 64) 1

theorem witness_round :
    (upFrom 0 68).all (fun j => ringed.canTake j == (j == 64)) = true ∧ (ringed.mbox 64).line = [] ∧
    (ringed.mbox 64).seqBase = none ∧ ringed.fld (Fld.MBX_REQ_TAIL_tail 64) = 0 ∧
    ringed.words (reqSlot 64 0) 4 = [wd (0x0705 + 9 * 65536), wd (4 * 2), wd (0x4000 + 3 % 65536 * 65536), 0] ∧
    ringed.words (reqSlot 64 0 + 16) 2 = [7, 8] ∧ ringed.refuses 64 0x0705 [7, 8] = none ∧
    (upFrom 0 68).all (fun j => !actv.canTake j) = true := by decide +kernel

/-- An online change without changed partitions, checked in session 1, at a time when no configuration session is open. -/
theorem witness_online_change :
    let s : State := { actv with
      fw := { actv.fw with sessions := [], images := [(1, some { type := 5, slot := 1, who := 64, closed := true, checked := true })],
                           store := [(11, { size := 10, ok := true })] } }
    openB s 64 = true ∧ s.refuses 64 0x0805 [1] = none ∧ s.partnerStandby = false ∧ s.onlineRefused 1 = none ∧
      s.onlineOf 1 = some { body := {}, slot := 1, parts := [] } := by decide +kernel

/-! ### The pair and its witness -/

theorem witness_heartbeats :
    lead.sendsHeartbeats = true ∧ ({ lead with red := { lead.red with hbOff := true } } : State).sendsHeartbeats = false ∧
    (let s := { lead with red := { lead.red with hbRx := some 4, peerMode := mBoot } }
     s.sys.pins.pair = true ∧ s.red.hbRx = some 4 ∧ s.red.lost = false ∧ (7 : BitVec 16).toNat ≠ (4 + 1) % 65536 ∧
      s.prt.lanes = [] ∧ s.fld Fld.RED_HB_run ≠ 3 ∧ s.mode = mActive ∧ s.partnerStandby = false ∧
      (s.put Fld.RED_HB_run 3).fld Fld.RED_HB_run = 3) ∧
    (lead.red.hbRx = none ∧ lead.red.veer = none ∧ lead.sys.holdup = false ∧ (3 : Word).toNat < (lead.reg Reg.RED_CLAIM).toNat ∧
      (lead.reg Reg.RED_CLAIM).toNat < (6 : Word).toNat) ∧
    (let s := { stby.put Fld.RED_HB_run 3 with red := { stby.red with hbRx := some 4 } }
     s.fld Fld.RED_HB_run = 3 ∧ s.red.lost = false ∧ s.mode = mStandby ∧ restsB s = true) ∧ 16 < (17 : BitVec 16).toNat := by
  decide +kernel

/-- An item of the other module that waits at a module in STANDBY. -/
def queued : State := { stby with red := { stby.red with queue := [⟨5, 1, [7, 3, 0, 0, 0, 1], 0⟩] } }

theorem witness_items :
    (actv.mode ≠ mStandby ∧ actv.handingOver = false ∧ actv.red.crossing = false) ∧
    (stby.fwdUnits + (4 * 3 + 271) / 256 ≤ 65536 ∧ (stby.lane 0).act = none ∧ stby.red.queue = []) ∧
    65536 < stby.fwdUnits + (4 * 2 ^ 24 + 271) / 256 ∧
    (queued.mode = mStandby ∧ queued.red.queue = ⟨5, 1, [7, 3, 0, 0, 0, 1], 0⟩ :: [] ∧ ∀ e ∈ queued.prt.lanes, e.1 < 8) ∧
    (let s := { lead with saf := { lead.saf with insts := [(9, { state := 4 })] } }
     s.mode ≠ mStandby ∧ s.handingOver = false ∧ s.red.crossing = false ∧ s.windward = true ∧ s.partnerStandby = true ∧
      (s.inst 9).state ≠ siOff) ∧
    (let s := { lead with red := { lead.red with copies := [⟨7, 1⟩] } }
     (s.red.copies.any (·.task == 7)) = true ∧ (lead.red.copies.any (·.task == 7)) = false ∧ s.partnerStandby = true) := by
  decide +kernel

/-- An ask on its way to the witnesses. -/
def asking (m : Nat) (all : Bool) (s : State) : State := { s with red := { s.red with ask := some ⟨m, all⟩ } }

/-- A redundancy record that names two witnesses. -/
def witnessed (s : State) : State := s.setRec 0x0F 0 [0, 0x40020001]

theorem witness_at_its_witness :
    actv.red.ask = none ∧ (asking 2 false actv).red.ask = some ⟨2, false⟩ ∧
    ((asking 1 false stby).red.ask = some ⟨1, false⟩ ∧ (asking 1 true stby).red.ask = some ⟨1, true⟩) ∧
    ((asking 1 false stby).mode = mStandby ∧ (asking 1 false stby).stationNode < 16384 ∧ restsB (asking 1 false stby) = true) ∧
    (3 : Nat) ≠ stby.stationNode ∧ lead.sendsHeartbeats = true ∧ lead.mode = mActive ∧ lead.sys.holdup = false ∧
    (witnessed (asking 1 false stby)).witSecondary = some 2 := by
  decide +kernel

/-- A station that this module serves as witness: nodes 5 and 6, a record of claim 9. -/
def serving (x : WitRec) (s : State) : State := s.setWit 3 { x with claim := 9, nodeE := 5, nodeO := 6 }

theorem witness_as_witness :
    (actv.isModule 3 5 = false ∧ (serving {} actv).isModule 3 5 = true ∧ ((serving {} actv).wit 3).probe = none) ∧
    ((4 : Word).toNat < ((serving {} actv).wit 3).claim ∧ ((serving {} actv).wit 3).claim ≤ (9 : Word).toNat) ∧
    ((serving { heard := some 0 } actv).wit 3).heard = some 0 ∧ actv.time ≤ 0 + 2000000000 ∧
    ((serving {} actv).wit 3).heard = none ∧
    ((serving { probe := some ⟨5, 9, 1, 4⟩ } actv).wit 3).probe = some ⟨5, 9, 1, 4⟩ ∧
    ((serving { resetE := some actv.time, resetO := some actv.time } actv).wit 3).resetE = some actv.time ∧
    ((serving { resetE := some actv.time, resetO := some actv.time } actv).wit 3).resetO = some actv.time := by decide +kernel

/-- A prepared set that waits for its partner. -/
def waitingSet : Commit := ⟨3, none, [.force 0 0 true], none, false, ⟨64, 9⟩⟩

theorem witness_pair_messages :
    (stby.mode = mStandby ∧ stby.fw.commits = [] ∧ SMap.get none 1 stby.fw.images = none ∧ actv.mode ≠ mStandby) ∧
    (let s := { lead with fw := { lead.fw with commits := [waitingSet] } }
     tagOf waitingSet.who < 2 ^ 32 ∧ s.waiting (tagOf waitingSet.who) = some waitingSet ∧ setKind waitingSet.stages ≠ 4 ∧ waitingSet.acked = false ∧ s.waiting 8 = none) ∧
    (let s := { stby with prt := { stby.prt with fallback := [(2, [(1, 2)])] } }
     s.mode = mStandby ∧ SMap.get [] 2 s.prt.fallback ≠ []) ∧
    (let s := stby.setLane 0 { act := some act0, window := some 2 }
     s.mode = mStandby ∧ (s.lane 0).act = some act0 ∧ s.red.queue = [] ∧ act0.task < 512 ∧ (3 : Word).toNat ≤ act0.count ∧
      act0.taken = [] ∧ act0.resv = [] ∧ (stby.lane 0).act = none) ∧
    (lead.prt.lanes = [] ∧ lead.hasClaim = true ∧ stby.hasClaim = false) ∧
    ((5 : Word).toNat < 0xFFFFFFFE ∧ restsB stby = true) ∧
    (let v : VeerReq := ⟨false, 0, ⟨64, 9⟩⟩
     let s := { lead with red := { lead.red with veer := some v } }
     s.red.veer = some v ∧ v.acked = false ∧ s.mode = mActive ∧ v.who.mbx < 68 ∧ s.handingOver = false) ∧
    (let s := { lead with red := { lead.red with veer := some ⟨true, 0, ⟨64, 9⟩⟩ } }
     s.handingOver = true ∧ s.mode = mActive ∧ s.sys.removal = false ∧ s.red.lost = false ∧ restsB s = true) ∧
    (let s := { stby with red := { stby.red with prepared := [⟨9, 4, [.online 1]⟩] } }
     (s.red.prepared.any fun p => p.tag == 9) = true ∧ (s.red.prepared.any fun p => p.tag == 8) = false) := by decide +kernel

theorem witness_resynchronisation :
    (actv.hasClaim = true ∧ actv.partnerStandby = false ∧ stby.hasClaim = false ∧ stby.mode = mStandby) ∧
    ((resync 1).mode = mResync ∧ (resync 1).fld Fld.RED_RESYNC_phase = 1 ∧
      ((resync 1).put Fld.RED_PVER_peer_major ((resync 1).fld Fld.RED_PVER_major)).fld Fld.RED_PVER_peer_major =
        (resync 1).fld Fld.RED_PVER_major) ∧
    ((resync 2).fld Fld.RED_RESYNC_phase = 2 ∧ (resync 4).fld Fld.RED_RESYNC_phase = 4 ∧
      (resync 5).fld Fld.RED_RESYNC_phase = 5 ∧ (resync 6).fld Fld.RED_RESYNC_phase = 6 ∧ restsB (resync 6) = true ∧
      (resync 6).fld Fld.RED_RESYNC_phase ≠ 0 ∧ (resync 6).fld Fld.RED_RESYNC_phase ≠ 2) ∧
    (let s := lead.put Fld.RED_RESYNC_phase 4
     s.mode ≠ mResync ∧ s.windward = true ∧ s.fld Fld.RED_RESYNC_phase = 4) ∧
    (stby.sys.pins.pair = true ∧ restsB stby = true ∧ lead.sys.pins.pair = true ∧ restsB lead = true ∧ lead.mode = mActive ∧
      lead.hasClaim = true ∧ lead.partnerStandby = true ∧ actv.sys.pins.pair = false ∧ actv.sys.wait ≠ .removed) ∧
    ({ stby with sys := { stby.sys with wait := .removed } } : State).sys.wait = .removed := by decide +kernel

/-- A pair whose claim lines are wired, with claims on the lines of stage 2. -/
def staged (x : OutStage) (s : State) : State := (s.setStage 2 x).setLink 2 { up := true, fieldUp := true }

theorem witness_stages :
    (let s := staged { own := 3, other := 9, mode := smOff } stby
     hasStage 2 = true ∧ s.wired = true ∧ s.supply 2 ≠ 2 ∧ (4 : Word).toNat < (s.stage 2).other.toNat ∧
      s.mode ≠ mActive ∧ s.fio.queue = [] ∧ (s.stage 2).own.toNat < (4 : Word).toNat) ∧
    (let s := staged { frame := 5, other := 3, h := 5, mode := smOff } lead
     s.wired = true ∧ s.supply 2 ≠ 2 ∧ (s.link 2).fieldUp = true ∧ (s.stage 2).frame = 5 ∧ (s.stage 2).h.toNat ≤ 5 ∧
      (s.stage 2).other.toNat < 5 ∧ (s.stage 2).mode = smOff ∧ s.mode = mActive ∧ s.fio.queue = [] ∧ s.red.veer = none ∧
      s.sys.holdup = false ∧ (s.reg Reg.RED_CLAIM).toNat < (6 : Word).toNat) ∧
    (actv.sys.pins.pair = false ∧ ((staged { winning := true } lead).stage 2).winning = true ∧ (lead.stage 2).winning = false) ∧
    (({ lead with red := { lead.red with resetting := true } } : State).red.resetting = true ∧ lead.red.resetting = false) := by
  decide +kernel

theorem witness_veer_loser :
    lead.mode = mActive ∧ lead.sys.pins.pair = true ∧ lead.handingOver = false ∧ lead.sys.holdup = false ∧ lead.prt.lanes = [] ∧
    lead.fio.queue = [] ∧ lead.fibre = false ∧ (lead.reg Reg.RED_CLAIM).toNat < (6 : Word).toNat ∧ lead.reg Reg.RED_CLAIM ≠ 0 ∧
    lead.red.hbRx = none ∧ lead.sys.pins.even = true ∧ (0 : Nat) = lead.stationNode ∧
    (let s := { lead with sys := { lead.sys with pins := { lead.sys.pins with even := false } } }
     s.mode = mActive ∧ s.sys.pins.even = false ∧ s.reg Reg.RED_CLAIM ≠ 0 ∧ s.handingOver = false ∧ s.fibre = false) := by
  decide +kernel

/-! ### Supplies, start-up, the trade cycle, connectors, the self-test and ageing -/

def heldUp (s : State) : State := { s with sys := { s.sys with holdup := true } }

theorem witness_supplies :
    ((heldUp actv).sys.holdup = true ∧ Memory.wf (heldUp actv).mem = true ∧ (heldUp actv).nv.rstIdx < 256) ∧
    (actv.sys.holdup = false ∧ actv.partnerStandby = false) ∧
    (lead.sys.holdup = false ∧ lead.partnerStandby = true ∧ lead.hasClaim = true ∧ lead.red.veer = none ∧ restsB lead = true) ∧
    (actv.sys.pins.in0 = true ∧ actv.sys.pins.in1 = true) ∧
    (let s := { actv with sys := { actv.sys with pins := { actv.sys.pins with in1 := false } } }
     s.sys.pins.in0 = true ∧ s.sys.pins.in1 = false ∧ s.partnerStandby = false) := by decide +kernel

/-- A module that has done the steps of start-up and waits for its first mode. -/
def booted (wait : StartWait) (s : State) : State :=
  { s.put Fld.SYS_BOOT_step 8 with sys := { s.sys with wait := wait } }

theorem witness_start_up :
    (let s := State.reset
     s.mode = mBoot ∧ s.sys.wait = .booting ∧ s.sys.pins.seated = true ∧ (s.sys.pins.in0 || s.sys.pins.in1) = true) ∧
    (actv.mode ≠ mBoot) ∧
    (let s := booted .none State.reset
     s.mode = mBoot ∧ s.sys.wait = .none ∧ s.fld Fld.SYS_BOOT_step = 8 ∧ s.nv.service = false ∧ s.sys.pins.pair = false ∧
      s.highClaim.toNat < 0xFFFFFFFE ∧ s.sys.commReq = false ∧ s.sys.cfgValid = false ∧ (s.image 4).body.startCommission = false ∧
      ({ s with nv := { s.nv with service := true } } : State).nv.service = true ∧
      (let v := { s with sys := { s.sys with cfgValid := true } }
       v.mode = mBoot ∧ v.fld Fld.SYS_BOOT_step = 8 ∧ v.sys.cfgValid = true ∧ v.sys.appValid = false ∧ v.sys.placeBad = false) ∧
      (let v := { s with sys := { s.sys with cfgValid := true, appValid := true, placeBad := true } }
       v.mode = mBoot ∧ v.fld Fld.SYS_BOOT_step = 8 ∧ v.sys.appValid = true ∧ v.sys.placeBad = true)) ∧
    (let s := booted .none (paired mActive State.reset)
     s.mode = mBoot ∧ s.fld Fld.SYS_BOOT_step = 8 ∧ s.nv.service = false ∧ s.sys.pins.pair = true ∧ s.sys.commReq = false ∧
      s.sys.cfgValid = false) ∧
    (let s := booted .odd (paired mActive State.reset)
     s.mode = mBoot ∧ s.sys.wait = .odd ∧ s.sys.pins.pair = true ∧ s.nv.service = false ∧ s.sys.commReq = false ∧ s.prt.lanes = []) ∧
    (let s := booted .witnessAbsent (paired mActive State.reset)
     s.mode = mBoot ∧ s.sys.wait = .witnessAbsent ∧ s.prt.lanes = []) ∧
    (let d : Deferred := ⟨64, 9⟩
     let s := { actv with sys := { actv.sys with confirm := some d } }
     s.sys.confirm = some d ∧ d.mbx < 68 ∧ actv.sys.confirm = none) := by decide +kernel

def modeDue (m : Nat) (s : State) : State := { s with sys := { s.sys with modeAt := some (m, 255) } }

/-- A plan in the inactive area with its ready word. -/
def planned : State := actv.setWord (actv.idleArea + 0x3C) 0x504C5244

theorem witness_cycle :
    (let s := com
     s.fw.commits = [] ∧ s.saf.confirmNext = [] ∧ s.prt.planNext = none ∧ s.red.veer = none ∧ s.pfc = [] ∧ s.sys.modeAt = none) ∧
    (let s := modeDue mActive com
     s.fw.commits = [] ∧ s.saf.confirmNext = [] ∧ s.prt.planNext = none ∧ s.red.veer = none ∧ s.pfc = [] ∧
      s.sys.modeAt = some (mActive, 255) ∧ restsB s = true ∧ boundaryMove s.mode mActive = true ∧ s.mode ≠ mStandby ∧
      mActive ≠ mSelftest ∧ s.partnerStandby = false) ∧
    (let s := modeDue mResync com
     s.sys.modeAt = some (mResync, 255) ∧ restsB s = true ∧ boundaryMove s.mode mResync = false) ∧
    (actv.prt.lanes = [] ∧ actv.word (actv.idleArea + 0x3C) ≠ 0x504C5244 ∧ planned.word (planned.idleArea + 0x3C) = 0x504C5244 ∧
      planned.prt.planNext = none ∧ planned.word planned.idleArea ≠ 0x504C414E) ∧
    (let s := stby.setWord (stby.idleArea + 0x3C) 0x504C5244
     s.prt.lanes = [] ∧ s.word (s.idleArea + 0x3C) = 0x504C5244 ∧ s.prt.planNext = none ∧ s.mode = mStandby ∧ restsB s = true) ∧
    (let s := { actv with prt := { actv.prt with placing := [⟨3, true, 0⟩] } }
     s.prt.placing = ⟨3, true, 0⟩ :: [] ∧ s.partnerStandby = false ∧ actv.prt.placing = []) ∧
    (let s := actv.setTask 7 { oldBase := some 0x100201000 }
     (s.task 7).oldBase = some 0x100201000 ∧ s.inProgress.contains 7 = false ∧
      (s.setLane 0 (lane0.lane 0)).inProgress.contains 7 = true ∧ (actv.task 7).oldBase = none) ∧
    (let o : Online := { body := {}, slot := 1, parts := [] }
     let s := { actv with fw := { actv.fw with online := some o } }
     s.fw.online = some o ∧ o.loaded = false ∧ s.red.prepared = [] ∧ s.fw.commits = [] ∧
      ({ s with red := { s.red with prepared := [⟨9, 4, [.force 0 0 true]⟩] } } : State).red.prepared = [⟨9, 4, [.force 0 0 true]⟩] ∧
      actv.fw.online = none) := by decide +kernel

theorem witness_connectors :
    (let s := { actv with sfp := [(1, { present := true })] }
     (s.cage 1).present = true ∧ s.pfc = [] ∧ s.prt.lanes = [] ∧ (actv.cage 1).present = false) ∧
    (({ actv with nv := { actv.nv with bankMarks := 8 } } : State).nv.bankMarks.testBit 3 = true ∧ actv.nv.bankMarks.testBit 3 = false) ∧
    (let s := actv.put Fld.LKS_CFG_usable 15
     s.pairUsable 3 = true ∧ s.nv.bankMarks.testBit 9 = false ∧ s.mode ≠ mStandby ∧ s.prt.lanes = []) ∧
    (actv.mode = mActive ∧ actv.partnerStandby = false ∧ actv.handingOver = false ∧ actv.taking = false ∧ restsB actv = true) := by
  decide +kernel

/-- A structural self-test that waits for its image, and one in the middle of item 2. -/
def testing0 : State := { (inMode mSelftest State.reset).put Fld.BST_STAT_state 1 with cfg := [] }
def testing1 (todo : List (Nat × Nat × Bool)) : State :=
  let s := (((inMode mSelftest State.reset).put Fld.BST_STAT_state 3).put Fld.BST_STAT_item 2).put Fld.BST_STAT_target 1
  { s with bst := { s.bst with todo := todo } }

theorem witness_self_test :
    (testing0.mode = mSelftest ∧ testing0.fld Fld.BST_STAT_state = 1 ∧ testing0.testPlan % 16 ≠ 0 ∧ testing0.bstConditions = true ∧
      (testing0.put Fld.BST_COND_clock 200).bstConditions = false ∧ (testing1 [(3, 0, true)]).bstConditions = true) ∧ actv.mode ≠ mSelftest ∧
    ((testing1 [(3, 0, true)]).testing = true ∧ (testing1 [(3, 0, true)]).fld Fld.BST_STAT_item = 2 ∧
      (testing1 [(3, 0, true)]).fld Fld.BST_STAT_target < 4 ∧ (testing1 [(3, 0, true)]).bst.todo = (3, 0, true) :: []) ∧
    ((testing1 []).testing = true ∧ (testing1 []).bst.todo = []) ∧ actv.testing = false ∧ 100 < (101 : BitVec 16).toInt.natAbs := by
  decide +kernel

theorem witness_ageing :
    (State.reset.ages = false ∧ actv.ages = true ∧ actv.age.worst = []) ∧
    (650 ≤ (650 : BitVec 16).toInt ∧ actv.fld Fld.AGE_OP_thermal < 3) ∧
    ((520 : BitVec 16).toInt ≤ 520 ∧ (actv.put Fld.AGE_OP_thermal 1).fld Fld.AGE_OP_thermal = 1 ∧ actv.age.coolSince = none ∧
      ({ actv with age := { actv.age with coolSince := some 5 } } : State).age.coolSince = some 5 ∧ actv.prt.lanes = []) ∧
    (actv.sys.pins.in0 = true ∧ actv.sys.pins.in1 = true) ∧ actv.skipsScap = false ∧ (asking 1 false actv).skipsScap = true := by
  decide +kernel

/-! ### Groups, loops, generators, angle domains, phasors and the gust guard -/

def gPart (u ph : Nat) (rep : Bool) : GrpPart := { unit := u, members := [⟨ptAddr 0 u 2 0, 9, false, 0⟩], phase := ph, reported := rep }
def gOf (ph : Nat) (ps : List GrpPart) : Group := { parts := ps, taken := 0, deadline := 2000000, asked := 0, reply := 11, phase := ph, maker := 5 }
def inGroup (x : Group) (s : State) : State := s.setGroup 5 (some x)
def behind (s : State) : State := { s with qe := { s.qe with outcomes := [(11, [5])] } }

/-- A request of one member with the default deadline, and one of no member. -/
def asked (ws : List Word) : State := message 6 0x25 ws 0 actv

theorem witness_groups :
    (actv.front 9 = none ∧ (message 6 0x22 [1] 0 actv).qConsumer 9 ≠ 0x25) ∧
    (let s := asked [1, 0, 0, 11, wd (ptAddr 0 3 2 0), 1, 0, 0]
     let ws := s.msgWords 0
     s.front 9 = some 0 ∧ s.qConsumer 9 = 0x25 ∧ s.leeward = false ∧ s.msgKind 0 = 6 ∧ s.qe.groups.length < 256 ∧
      s.qe.nextGroup < 256 ∧ s.group s.qe.nextGroup = none ∧ wBits ws 0 4 0 = 1 ∧ 16 + 16 * 1 ≤ s.msgLen 0 ∧
      wBits ws 1 16 0 = 0 ∧ wAt ws 2 = 0 ∧ ∀ i < 1, memberOk ws i = true) ∧
    (let s := behind (asked [0, 0, 0, 11])
     s.front 9 = some 0 ∧ s.qConsumer 9 = 0x25 ∧ s.msgKind 0 = 6 ∧ wBits (s.msgWords 0) 0 4 0 = 0 ∧
      s.qe.outcomes.any (fun o => o.1 == wBits (s.msgWords 0) 3 12 0) = true) ∧
    (let x := gOf 2 [gPart 3 2 false, gPart 20 2 false]
     (inGroup x actv).group 5 = some x ∧ x.phase = 2 ∧ x.asked = 0 ∧ actv.netSilent = false) ∧
    (let x := gOf 1 [gPart 3 1 false]
     let p := gPart 3 1 false
     let s := field 3 2 { cfg := [1] } (inGroup x actv)
     s.group 5 = some x ∧ x.parts[(0 : Nat)]? = some p ∧ x.phase = 1 ∧ p.phase = 1 ∧ actv.group 5 = none) ∧
    (let x := gOf 1 [gPart 20 1 false]
     let s := ((behind (inGroup x actv)).setRunit 20 { state := ruOperational }).setTask 4
       { app := some { task := 4, decl := [0, 0, 0], outputs := [.point (ptAddr 0 20 2 0) false] } }
     s.group 5 = some x ∧ s.partAnswer 5 x (gPart 20 1 false) 0 = 0 ∧ s.partAnswer 5 x (gPart 20 1 false) 3 ≠ 0 ∧
      s.qe.outcomes.any (fun o => o.1 == x.reply) = true) ∧
    (let x := gOf 3 [gPart 20 4 false, gPart 21 4 false]
     let s := behind (inGroup x actv)
     s.group 5 = some x ∧ x.parts[(0 : Nat)]? = some (gPart 20 4 false) ∧ x.phase = 3 ∧ (gPart 20 4 false).phase = 4 ∧
      x.apply ≤ s.time ∧ x.parts[(1 : Nat)]? = some (gPart 21 4 false) ∧ (gPart 21 4 false).reported = false ∧
      s.qe.outcomes.any (fun o => o.1 == x.reply) = true ∧ s.qe.outcomes.find? (fun o => o.1 == 12) = none ∧
      s.qe.outcomes.find? (fun o => o.1 == 11) = some (11, [5])) ∧
    (let p : Pulse := ⟨3, ptAddr 0 3 2 0, 77, 4000⟩
     let s := { actv with qe := { actv.qe with pulses := [p] } }
     p ∈ s.qe.pulses ∧ p.unit < 16 ∧ p.point < 2 ^ 32 ∧ (∀ x ∈ s.qe.pulses, x.point ≠ p.point + 1)) := by decide +kernel

/-- Slot 7 of the control engine, enabled, with an output rate limit of 0. -/
def loopRec7 : List Word := [1, wd (2 ^ 22), 0, 0, 0, 0, 0, 0, 0, 0, 0, 0, 0, 0, 0, 0, 0xFFFFFC18, 1000, 0] ++ List.replicate 12 0
def loop7 (x : LoopSlot) : State := ({ actv with clk := 1000 }.setRec 0x05 7 loopRec7).setLoop 7 x
def latch7 : Latch := (loop7 { mode := 1, lo := -1000, hi := 1000, u := 5 }).loopLatch 7
def pend7 : State := { loop7 { mode := 1, lo := -1000, hi := 1000, u := 5, pending := some latch7 } with clk := 1008 }
def run7 (l : Latch) : State :=
  let s := loop7 { mode := 1, lo := -1000, hi := 1000, u := 5, running := some l }
  { s with ce := { s.ce with lanes := [(0, 8)] } }

theorem witness_loops :
    (loopEn (actv.loopRec 7) = false ∧ actv.takesTriggers = true ∧ State.reset.takesTriggers = false) ∧
    (let s := loop7 { mode := 1 }
     loopEn (s.loopRec 7) = true ∧ s.takesTriggers = true ∧ s.triggeredNow 7 = false ∧ (s.loop 7).pending = none ∧
      (∀ k ∈ [liMANUAL, liOUTLO, liOUTHI, liMODE], (s.outBefore (loopItem 7 k)).q ≠ 0) ∧ s.jobOn 7 = none ∧
      (s.loop 7).mode ≠ 0 ∧ ((loop7 {}).loop 7).mode = 0 ∧
      ((s.publish (loopItem 7 liMODE) 2).out (loopItem 7 liMODE)).q = 0 ∧
      (({ s.publish (loopItem 7 liMODE) 2 with time := s.time + 4 }).out (loopItem 7 liMODE)).time ≠ s.time + 4 ∧
      (s.setJob 2 (some { words := [7], num := 0, part := 0 })).jobOn 7 = some (2, { words := [7], num := 0, part := 0 })) ∧
    (let s := pend7
     (s.loop 7).pending = some latch7 ∧ s.triggeredNow 7 = false ∧ s.freeCeLane = some 0 ∧ s.nextRun = some 7 ∧
      latch7.clk + 4 ≤ s.clk ∧ actv.nextRun = none) ∧
    (SMap.get 0 0 actv.ce.lanes = 0 ∧ SMap.get 0 0 (run7 latch7).ce.lanes = 7 + 1 ∧ ((run7 latch7).loop 7).running = some latch7 ∧
      latch7.mode = 1 ∧ latch7.bad = false ∧ latch7.lo ≤ latch7.hi ∧ wAt latch7.recs 18 = 0 ∧
      ({ latch7 with mode := 0 } : Latch).mode = 0 ∧ ({ latch7 with bad := true } : Latch).bad = true ∧
      loopPolicy latch7.recs = 0) := by decide +kernel

/-- A job for buffer 2, and a cancel of it. -/
def jobWords : List Word := [wd (7 + 2 * 2 ^ 14), 0, 0, 5, 0, 0, 0, 0x2000, 0]
def job2 : CeJob := { words := jobWords, num := 3, part := 1, deliver := some (0, 5), active := true }

theorem witness_jobs :
    (actv.front 9 = none ∧ (message 4 0x24 jobWords 0 actv).qConsumer 9 ≠ 0x23) ∧
    (let s := message 5 0x23 jobWords 0 actv
     s.front 9 = some 0 ∧ s.qConsumer 9 = 0x23 ∧ (∀ e ∈ s.qe.desc ++ s.qe.small ++ s.qe.large, e.2 ≤ 64) ∧ s.msgKind 0 ≠ 4) ∧
    (let s := message 4 0x23 jobWords 0 (loop7 { mode := 1 })
     s.front 9 = some 0 ∧ s.qConsumer 9 = 0x23 ∧ s.leeward = false ∧ s.msgKind 0 = 4 ∧ 32 ≤ s.msgLen 0 ∧ wBit (s.msgWords 0) 0 16 = false ∧
      s.jobCheck (s.msgWords 0) (s.msgPart 0) = none) ∧
    (let s := message 4 0x23 jobWords 0 actv
     s.front 9 = some 0 ∧ s.msgKind 0 = 4 ∧ wBit (s.msgWords 0) 0 16 = false ∧
      (s.jobCheck (s.msgWords 0) (s.msgPart 0)).isSome = true) ∧
    (let s := (message 4 0x23 [wd (7 + 2 * 2 ^ 14 + 2 ^ 16), 0, 0, 0, 0, 0, 0, 0, 0] 0 actv).setJob 2 (some job2)
     s.msgKind 0 = 4 ∧ wBit (s.msgWords 0) 0 16 = true ∧ s.job 2 = some job2 ∧ job2.active = true ∧
      wBit job2.words 7 13 = true ∧ actv.job 2 = none ∧ wBits (s.msgWords 0) 0 15 14 = 2) ∧
    (let j := { job2 with words := [0, 0, 0, 0, 0, 0, 0, 5, 0] }
     let s := actv.setJob 2 (some j)
     s.job 2 = some j ∧ j.deliver = some (0, 5) ∧ wBit j.words 7 13 = false ∧ s.qEn (wBits j.words 7 12 0) = false) := by
  decide +kernel

/-- Generator 3, enabled, with limits. -/
def gen3 (x : Gen) : State :=
  (actv.setRec 0x06 3 ([wd (1 + 2 ^ 20), 0, 5, 0, 2, 0, 2, 0, 2, 0] ++ List.replicate 10 0)).setGen 3 x
def still3 : Gen := { p := 5 * 2 ^ 64, target := 5 * 2 ^ 64, state := gsStandstill, vmax := 5 * 2 ^ 64, amax := 2 ^ 65, dmax := 2 ^ 65, jmax := 2 ^ 65 }

theorem witness_generators :
    (genEn (actv.genRec 3) = false ∧ State.reset.takesTriggers = false) ∧
    (let s := gen3 still3
     genEn (s.genRec 3) = true ∧ s.takesTriggers = true ∧ (s.gen 3).seqTaken = false ∧ 1 ≤ (s.gen 3).state ∧ (s.gen 3).state ≤ 4 ∧
      softOut (s.genRec 3) ((7 : BitVec 64).toInt * 2 ^ 32) = false ∧ (s.gen 3).state ≠ gsOff ∧ (s.gen 3).state ≠ gsHoming ∧
      (s.gen 3).v = 0 ∧ (s.gen 3).a = 0 ∧ (s.gen 3).plan = [] ∧ (s.gen 3).replan = false ∧ (s.genPub 3 2).q = 3 ∧
      0 ≤ (s.gen 3).vmax) ∧
    (let x := { still3 with seqTaken := true, seq := 4 }
     ((gen3 x).gen 3).seqTaken = true ∧ ((gen3 x).gen 3).seq = (4 : BitVec 8).toNat ∧ ((gen3 x).gen 3).seq ≠ (5 : BitVec 8).toNat) ∧
    (((gen3 { still3 with state := gsOff }).gen 3).state = gsOff ∧ ((gen3 { still3 with state := gsHoming }).gen 3).state = gsHoming ∧
      ((gen3 { still3 with state := gsLimit }).gen 3).state = gsLimit) := by decide +kernel

/-- A move on its last update, and an axis that runs into its positive travel limit. -/
theorem witness_generator_runs :
    (let x := { still3 with state := gsMove, plan := [⟨1, 3⟩], endPos := some 99, v := 2 ^ 63, vmax := (gen3 still3).genLimit 3 3 2,
                            amax := (gen3 still3).genLimit 3 4 4, dmax := (gen3 still3).genLimit 3 5 6, jmax := (gen3 still3).genLimit 3 6 8 }
     let s := gen3 x
     (s.gen 3).state = gsMove ∧ (s.gen 3).plan = [⟨1, 3⟩] ∧ (s.gen 3).endPos = some 99 ∧ (s.gen 3).endVel = 0 ∧
      (s.gen 3).replan = false ∧ (s.gen 3).slowing = false ∧ (s.genPub 3 2).q = 3 ∧ (s.gen 3).vmax = s.genLimit 3 3 2 ∧
      (s.gen 3).amax = s.genLimit 3 4 4 ∧ (s.gen 3).dmax = s.genLimit 3 5 6 ∧ (s.gen 3).jmax = s.genLimit 3 6 8) ∧
    (let s := gen3 { still3 with state := gsMove, v := 2 ^ 63, swPos := { run := true, level := false, count := 3, runP := 77 } }
     (s.switchOn 3 0 true = true ∨ s.switchOn 3 0 false = true) ∧ (s.gen 3).state ≠ gsHoming ∧ wBit (s.genRec 3) 0 20 = true ∧
      (s.gen 3).swPos.run = true ∧ (s.gen 3).swPos.level = false ∧ (s.gen 3).swPos.hold = false ∧
      wBits (s.genRec 3) 0 28 21 ≤ (s.gen 3).swPos.count + 1 ∧ 0 < (s.gen 3).v) := by decide +kernel

/-- Domain 2 with a record `r`, at 4 ms. -/
def dom2 (r : List Word) (x : Dom) : State := ({ actv with clk := 1000000, time := 4000000 }.setRec 0x07 2 r).setDom 2 x
def domRec2 (kind ref : Nat) : List Word := [wd (1 + 2 * kind + 32 * ref), 8, 0, 0, 0, 0]

/-- Action 9 on domain 2, which runs forward at a constant speed. -/
def turning : Dom := { state := dsLocked, last := some 0, inc := 2 ^ 61 + 12345, asOf := 1000000, ang := 2 ^ 63 }
def act9 (w1 : Nat) (y : Act7) (x : Dom) : State :=
  ((dom2 (domRec2 3 0) x).setRec 0x07 (0x1000 + 9) [5, wd w1, 5, 0, 0]).setAct7 9 y

theorem witness_angle_domains :
    (domEn (actv.domRec 2) = false ∧ domKind (actv.domRec 2) ≠ 2) ∧
    (let s := dom2 (domRec2 2 1) { state := dsAcquire }
     domEn (s.domRec 2) = true ∧ domKind (s.domRec 2) = 2 ∧ domUsesRef (s.domRec 2) = true ∧ (s.dom 2).state = dsAcquire ∧
      (s.dom 2).last = none ∧ (s.dom 2).interval = 0) ∧
    (let s := dom2 (domRec2 2 0) { state := dsLocked, last := some 3999000, interval := 100000 }
     let ts := s.time - (0 : BitVec 16).toNat
     domEn (s.domRec 2) = true ∧ (s.dom 2).state = dsLocked ∧
      100 * (ts - (s.dom 2).last.getD ts) < (100 - domWindow (s.domRec 2)) * (s.dom 2).interval ∧
      2 ≤ domKind (s.domRec 2) ∧ domKind (s.domRec 2) ≤ 4) ∧
    (let s := dom2 (domRec2 2 0) { state := dsAcquire, last := some 3900000, interval := 100000, run := 255 }
     let ts := s.time - (0 : BitVec 16).toNat
     (s.dom 2).state = dsAcquire ∧ (s.dom 2).last = some 3900000 ∧ (s.dom 2).interval ≠ 0 ∧
      within (domWindow (s.domRec 2)) (ts - 3900000) (s.dom 2).interval = true ∧ domUsesRef (s.domRec 2) = false ∧
      domAcquire (s.domRec 2) ≤ (s.dom 2).run + 1) ∧
    (let s := dom2 (domRec2 1 0) { state := dsAcquire }
     domEn (s.domRec 2) = true ∧ domKind (s.domRec 2) = 1 ∧ domUsesRef (s.domRec 2) = false ∧ (s.dom 2).state = dsAcquire) ∧
    (let s := dom2 (domRec2 3 0) { state := dsStopped }
     domEn (s.domRec 2) = true ∧ domKind (s.domRec 2) = 3 ∧ (s.dom 2).state = dsStopped) ∧
    (let s := { dom2 (domRec2 1 0) { state := dsLocked, last := some 0, interval := 100000 } with time := 200000000 }
     domKind (s.domRec 2) = 1 ∧ (s.dom 2).state = dsLocked ∧ (s.dom 2).last = some 0 ∧ 200000000 ≤ s.time - 0) ∧
    (let s := dom2 (domRec2 1 0) { state := dsLocked, last := some 0, interval := 100000 }
     s.time - 0 < 200000000 ∧ 2 * (s.dom 2).interval ≤ s.time - 0 ∧ 0 < s.time - 0) ∧
    ((dom2 (domRec2 2 0) { state := dsCoast }).dom 2).state = dsCoast ∧ domTracks (actv.dom 2) = false := by decide +kernel

theorem witness_actions :
    (let s := dom2 (domRec2 3 0) turning
     let x := s.dom 2
     domKind (s.domRec 2) = 3 ∧ x.state = dsLocked ∧ x.back = false ∧ x.adj = none ∧ 0 < x.inc ∧ x.inc < 2 ^ 62 ∧ x.asOf = s.clk ∧
      0 ≤ x.ang ∧ x.ang < turn ∧ s.actsOf 2 = [] ∧ s.pfc = [] ∧ s.prt.lanes = []) ∧
    (let s := act9 (2 + 8) { live := true } turning
     9 ∈ s.actsOf 2 ∧ actEn (s.actRec 9) = true ∧ actDom (s.actRec 9) = 2 ∧ actKind (s.actRec 9) = 0 ∧ actRepeats (s.actRec 9) = false ∧
      actDir (s.actRec 9) ≠ 1 ∧ actDir (s.actRec 9) < 3 ∧ (s.act7 9).live = true ∧ (s.act7 9).armed = false ∧
      (s.act7 9).atRev = false ∧ (s.out (actItem 9 0)).q ≠ 0) ∧
    (actEn (actv.actRec 9) = false ∧ domTracks (actv.dom (actDom (actv.actRec 9))) = false) ∧
    (let s := act9 (2 + 8) {} { state := dsAcquire }
     let w : Word := wd (1 + 5 * 65536 + 2 ^ 24)
     actEn (s.actRec 9) = true ∧ (s.act7 9).seqTaken = false ∧ actRepeats (s.actRec 9) = false ∧ bit w 25 = false ∧ bit w 24 = true ∧
      (s.dom (actDom (s.actRec 9))).state = dsAcquire ∧ bit (wd (2 ^ 25)) 25 = true) := by decide +kernel

/-- Channel 0 of the synchroniser with breaker 2, at 400 ms. -/
def sync0 (st : Nat) (x : Sync) : State :=
  (((({ actv with clk := 100000000, time := 400000000 }.setRec 0x08 0x20 [5, 0, 0]).setRec 0x08 0x12 [1, 0x300, 0]).setSync 0 x).put
    (Fld.PH_SYNCSTAT_state 0) st).put (Fld.PH_SYNCSTAT_breaker 0) 2

theorem witness_synchroniser :
    (tripleEn (actv.phRec 1) = false ∧ tripleEn ((actv.setRec 0x08 1 [1, 0]).phRec 1) = true ∧ actv.sys.node < 2 ^ 14 ∧
      (Instr.phasorCycleEnd 1 0 { points := [1, 2] } []).wf = true) ∧
    (wBit ((sync0 0 {}).chanRec 0) 0 0 = true ∧ ((sync0 0 {}).sync 0).seqTaken = false ∧ (sync0 0 {}).syncState 0 < 2 ∧
      (sync0 1 {}).syncState 0 = 1 ∧ 2 ≤ (sync0 2 {}).syncState 0 ∧ wBit (actv.chanRec 0) 0 0 = false) ∧
    (let s := sync0 2 { closeAt := 340000000 }
     let t := (s.time - (0 : BitVec 32).toNat - ((s.sync 0).closeAt + 10000)) / 15625 * 15625
     s.syncState 0 = 2 ∧ 10000000 ≤ t ∧ t ≤ 104000000) ∧
    (let s := sync0 2 { closeAt := 0 }
     s.syncState 0 = 2 ∧ 104000000 < (s.time - (0 : BitVec 32).toNat - ((s.sync 0).closeAt + 10000)) / 15625 * 15625) ∧
    (sync0 1 {}).syncDomain 0 = none := by
  decide +kernel

/-- The gust guard enabled, with a generator of 1 000 kW, requests 2 and 5, and slots `sl`. -/
def guard (st : Nat) (sl : List (Nat × GustSlot)) : State :=
  let s := ((({ actv with time := 1000 }.setRec 0x08 0x40 [1, 0, 0, 0]).setRec 0x08 0x85 [1, 100, 50]).setRec 0x08 0x102 [11, 0]).setRec
    0x08 0x109 [11, 0]
  { s.put Fld.PH_STAT_gust st with ph := { s.ph with slots := sl } }

/-- The same with a running generator that can carry the request of slot 5. -/
def spareGuard : State :=
  ((guard guNormal [(5, { state := rqWaiting })]).setRec 0x08 0x50 [5, 0x900, 0, 0x901, wd (1000 + 100 * 2 ^ 20)]).setPoint 0x901 1 0
    |>.setPoint 0x900 5 0

theorem witness_gust :
    (wBit actv.gustRec 0 0 = false ∧ State.reset.windward = false) ∧
    (wBit spareGuard.gustRec 0 0 = true ∧ spareGuard.windward = true ∧ spareGuard.gust = guNormal ∧
      (∀ e ∈ spareGuard.ph.slots, e.2.resv = none) ∧ spareGuard.grantOrder.head? = some 5 ∧
      (reqDemand (spareGuard.reqRec 5) : Int) ≤ spareGuard.keepP.spare ∧ spareGuard.ph.lastGrant = none) ∧
    (let s := guard guNormal [(5, { state := rqWaiting })]
     s.grantOrder.head? = some 5 ∧ s.keepP.spare < (reqDemand (s.reqRec 5) : Int)) ∧
    (let s := guard guNormal [(5, { state := rqGranted, resv := some (5, 5) })]
     s.ph.slots = [(5, { state := rqGranted, resv := some (5, 5) })] ∧ s.gust = guNormal ∧ (5 : Nat) ≤ s.time) ∧
    (wBit (actv.reqRec 5) 0 0 = false ∧ wBit ((guard guNormal []).reqRec 5) 0 0 = true ∧
      ((guard guNormal []).gslot 5).seqTaken = false ∧ ((guard guNormal []).gslot 5).state ≠ rqWaiting ∧
      ((guard guNormal []).gslot 5).state ≠ rqGranted ∧
      ((guard guNormal [(5, { state := rqWaiting })]).gslot 5).state = rqWaiting) ∧
    (let s := guard guNormal []
     SMap.wf {} s.ph.slots = true ∧ s.gust ≠ guBlackout) ∧
    ((guard guBlackout []).gust = guBlackout ∧ (guard guRestart []).gust = guRestart ∧ (guard guRestart []).windward = true) := by
  decide +kernel

theorem witness_restart :
    (let s := (guard guNormal [(5, { state := rqWaiting })]).setRec 0x08 0 [1, 100]
     s.gust ≠ guBlackout ∧ s.busBelow (lowPct s.gustRec) = true ∧
      wBit s.gustRec 0 0 = true ∧ s.windward = true ∧ SMap.wf {} s.ph.slots = true) ∧
    (let s := guard guBlackout [(5, { state := rqBlocked })]
     s.gust = guBlackout ∧ s.busBelow (livePct s.gustRec) = false ∧
      SMap.wf {} s.ph.slots = true ∧ wBit (s.stepRec 2) 0 0 = true ∧ (∀ k < 2, wBit (s.stepRec k) 0 0 = false)) ∧
    (let s := (guard guRestart []).put Fld.PH_GSTEP_step 2
     s.fld Fld.PH_GSTEP_step = 2 ∧ s.delayEnd ≤ s.time ∧ wBit (s.stepRec 2) 0 7 = false ∧ wBit (s.stepRec 9) 0 0 = true ∧
      (∀ j, j < 9 → 2 < j → wBit (s.stepRec j) 0 0 = false) ∧
      wBit ((s.setRec 0x08 0x102 [0x81, 0]).stepRec 2) 0 7 = true) := by decide +kernel

/-! ### The field side -/

/-- A barrier frame of type 1 with sequence 1 and claim 5. -/
def frameBody : List Byte := [1, 1, 0, 0, 0, 5] ++ List.replicate 16 0
def frame : List Byte := frameBody ++ [BitVec.ofNat 8 (crc16 frameBody / 256), BitVec.ofNat 8 (crc16 frameBody)]

theorem witness_barrier :
    (actv.fio.sending = false ∧ ({ actv with fio := { actv.fio with sending := true } } : State).fio.sending = true) ∧
    (frameOk frame = true ∧ frameOk frameBody = false ∧ (actv.link 2).fieldSeq = none ∧
      (let s := actv.setLink 2 { fieldSeq := some 0, okField := 15, fieldUp := true, up := true }
       (s.link 2).fieldSeq = some 0 ∧ (frame.getD 1 0).toNat = (0 + 1) % 256 ∧ (s.link 2).fieldUp = true ∧ (s.link 2).up = true) ∧
      hasStage 2 = true ∧ hasStage 0 = false) ∧
    (128 ≤ ((actv.link 2).tx + 256 - (frame.getD 1 0).toNat) % 256 ∧
      (((actv.setLink 2 { tx := 1 }).link 2).tx + 256 - (frame.getD 1 0).toNat) % 256 < 128) ∧
    ((actv.link 2).up = false ∧ (actv.link 2).fieldUp = false ∧ (actv.stage 2).mode ≠ smDead ∧
      ((actv.setStage 2 { mode := smDead }).stage 2).mode = smDead) ∧
    (supplyState (actv.supply 3) 24000 ≠ actv.supply 3 ∧ (let t := actv.setSupply 3 0; supplyState (t.supply 3) 24000 = t.supply 3)) := by decide +kernel

def drives (u : Nat) (s : State) : State := s.setStage u { mode := smDrive }

theorem witness_channels :
    (let s := field 0 2 { cfg := [1] } actv
     chanEn (actv.chan 0 2) = false ∧ chanEn (s.chan 0 2) = true) ∧
    ((actv.chan 2 3).force = 0 ∧ ((field 2 3 { cfg := [1], force := 1 } actv).chan 2 3).force ≠ 0 ∧ 3 ∉ actv.gustQueue 2) ∧
    (let s := drives 2 (field 2 3 { cfg := [5], force := 1 } actv)
     (s.stage 2).mode = smDrive ∧ chanEn (s.chan 2 3) = true ∧ wBit (s.chan 2 3).cfg 0 2 = true ∧ (actv.stage 2).mode ≠ smDrive) ∧
    (let s := ((drives 2 (field 2 3 { cfg := [1], rx := 1, waits := true } actv)).put (Fld.FIO_DO_GUST_limit 2) 2).setGustQueue 2 [3]
     s.gustQueue 2 = [3] ∧ (s.recentOns 2).length < s.fld (Fld.FIO_DO_GUST_limit 2) ∧ (s.chan 2 3).waits = true) ∧
    (((field 2 3 { seq := some 4 } actv).chan 2 3).seq = some (4 : BitVec 8).toNat ∧ (actv.chan 2 3).seq ≠ some (4 : BitVec 8).toNat) ∧
    (100000 ≤ ((field 6 3 { force := 200000, readback := 5 } actv).chan 6 3).force.natAbs ∧
      ((field 6 3 { force := 200000, readback := 5 } actv).chan 6 3).readback.natAbs < 20000 ∧ (actv.chan 6 3).force.natAbs < 100000) ∧
    (let s := field 6 5 { cfg := [wd (1 + 2 ^ 11)] } actv
     chanEn (s.chan 6 5) = true ∧ wBit (s.chan 6 5).cfg 0 11 = true ∧ (s.chan 6 5).a = false ∧ (s.chan 6 5).b = false ∧
      (s.chan 6 5).since = 0 ∧ chanEn (actv.chan 6 5) = false) ∧
    (let s := { field 6 7 { cfg := [3], count := 77, ts := 5 } actv with time := 400000 }
     chanEn (s.chan 6 7) = true ∧ (s.chan 6 7).count ≠ 0 ∧ 30 < (s.chan 6 7).ts + 40000 ∧
      (s.chan 6 7).ts + 40000 ≤ s.time - (0 : BitVec 16).toNat ∧ wBit (s.chan 6 7).cfg 0 1 = true ∧ s.sys.pins.pair = false) := by
  decide +kernel

/-- Converter 0 in mode `m`, with channel 2 of unit 4 enabled. -/
def converter (m : Nat) : State := field 4 2 { cfg := [1] } (actv.setRec 0x0A 0x04FF [wd m])

theorem witness_analogue :
    (actv.convMode 0 ≠ 2 ∧ (converter 2).convMode 0 = 2 ∧ ((converter 2).aiConv 0).busy = false ∧
      ((converter 2).convChans 0).head? = some 2 ∧ (converter 1).convMode 0 = 1 ∧ (converter 1).convChans 0 = [2] ∧
      ((converter 1).chan 4 2).invalid = 0) ∧
    (let s := (converter 2).setConv 0 { busy := true, chan := 2, outs := 3, cfgs := [[1], [1], [1], [1]] }
     let v := s.aiConv 0
     s.convMode 0 ≠ 1 ∧ v.busy = true ∧
      (let cfg := v.cfgs.getD (v.chan - 4 * 0) []
       v.outs < aiOrder cfg + (if aiRange cfg = v.range then 0 else 1) ∨ aiOrder cfg + (if aiRange cfg = v.range then 0 else 1) ≤ v.outs)) ∧
    (let s := { drives 5 (field 5 3 { cfg := [1], force := 5000, misSince := some 5 } actv) with time := 20000005 }
     let x := s.chan 5 3
     (s.stage 5).mode = smDrive ∧ chanEn x = true ∧ x.has fbMismatch = false ∧ x.misSince = some 5 ∧ 5 + 20000000 ≤ s.time ∧
      200000 < ((300000 : BitVec 32).toInt - x.force).natAbs ∧ ((5000 : BitVec 32).toInt - x.force).natAbs ≤ 200000 ∧
      x.has fbThermal = false ∧ 1450 ≤ (1450 : BitVec 16).toInt) ∧
    (let s := field 5 3 (({ cfg := [1] } : FChan).mark fbThermal true) actv
     (s.chan 5 3).has fbThermal = true ∧ (1250 : BitVec 16).toInt ≤ 1250 ∧ (actv.stage 5).mode ≠ smDrive) ∧
    (actv.okAt 5 ≠ none ∧ actv.okAt 6 ≠ none ∧ (actv.setOkAt 5 none).okAt 5 = none ∧ (actv.setOkAt 6 none).okAt 6 = none) := by
  decide +kernel

/-- Unit 20 of ring 0, at node 9, type 0x1234, parameter CRC 77; the ring has sent its frame. -/
def ring0 (x : RUnit) : State :=
  (((actv.setRec 0x0B 0 [1]).setRec 0x0B (0x100 + 20) [wd (9 + 3 * 2 ^ 15), 0x1234, 0, 77]).setRing 0 { sent := true }).setRunit 20 x

theorem witness_remote :
    ((actv.rioRing 0).sent = false ∧ actv.leeward = false ∧ ((ring0 {}).rioRing 0).sent = true ∧ 20 ∈ (ring0 {}).ringUnits 0 ∧
      (actv.rioRing (urRing (actv.unitRec 20))).sent = false) ∧
    (((ring0 { h := 5 }).runit 20).h.toNat ≤ (5 : Word).toNat ∧ (4 : Word).toNat < ((ring0 { h := 5 }).runit 20).h.toNat ∧
      (ring0 {}).qe.groups = [] ∧ ((ring0 {}).runit 20).took = [] ∧ ((ring0 { took := [⟨5, 9, 3⟩] }).runit 20).took = [⟨5, 9, 3⟩]) ∧
    (((ring0 { state := ruOperational, missRun := 8 }).runit 20).state = ruOperational ∧
      8 ≤ ((ring0 { state := ruOperational, missRun := 8 }).runit 20).missRun) ∧
    (actv.mastersRing 0 = false ∧ (ring0 {}).mastersRing 0 = true ∧ ((ring0 {}).runit 20).state ≤ 2 ∧
      ((ring0 {}).ringUnits 0).find? (fun v => urPos ((ring0 {}).unitRec v) == urPos ((ring0 {}).unitRec 20)) = some 20 ∧
      wBits ((ring0 {}).unitRec 20) 1 15 0 = 0x1234 ∧ urNode ((ring0 {}).unitRec 20) = 9 ∧ wAt ((ring0 {}).unitRec 20) 3 = 77) ∧
    (com.mode ≠ mActive ∧ actv.mode = mActive ∧ actv.sys.holdup = false ∧ actv.handingOver = false ∧
      (4 : Word).toNat < (actv.reg Reg.RED_CLAIM).toNat ∧ (actv.reg Reg.RED_CLAIM).toNat < (6 : Word).toNat) ∧
    (actv.front 9 = none ∧ (message 3 0x20 [1] 0 actv).front 9 = some 0 ∧ (message 3 0x20 [1] 0 actv).qConsumer 9 = 0x20 ∧
      (message 3 0x20 [1] 0 stby).leeward = true ∧ (message 3 0x20 [1] 0 stby).front 9 = some 0) := by decide +kernel

/-! ### Time, safety, alarms and records -/

/-- Station time is kept on every port; port 1 is the reference in force and locked. -/
def timed : State := { actv with clk := 100000000, time := 400000000 }.setRec 0x09 0 [wd (1 + 200 * 2048), 0x3F, 0, 0, 0, 0x10000]
def locked : State := ((timed.put Fld.TU_STAT_state 2).put Fld.TU_STAT_ref 1).put (Fld.TU_PORTSTAT_state 1) 9
def compare (w : Nat) : State := timed.setRec 0x09 (0x100 + 4) [wd w, 1000, 7]

theorem witness_network_time :
    (wBit timed.timeRec 0 0 = true ∧ wBit timed.timeRec 1 1 = true ∧ wBit actv.timeRec 0 0 = false ∧ locked.tuRef = 1 ∧
      locked.candidate 1 = true ∧ locked.tu.barred ≠ some 1 ∧ locked.tuState = tsLocked ∧ 5 ≤ jumpThreshold locked.timeRec ∧
      jumpThreshold locked.timeRec < 5000000000 ∧ locked.tu.outRun < 2 ∧ locked.isSet Fld.TU_STAT_refused = false ∧
      locked.pfc = []) ∧
    (let s := { locked with tu := { locked.tu with firsts := [1000000, 1000400] } }.put Fld.TU_STAT_state 0
     s.tuState = tsFreerun ∧ s.tu.firsts = [1000000, 1000400] ∧ s.candidate 1 = true ∧
      (1000000 - 1000400 : Int).natAbs ≤ 1000 ∧ (1000200 - 1000000 : Int).natAbs ≤ 1000 ∧ (1000200 - 1000400 : Int).natAbs ≤ 1000) ∧
    (timed.tu.announces = [] ∧ ((timed.flag (Fld.ETH_PSTAT_link 1) true).isSet (Fld.ETH_PSTAT_link 1)) = true ∧
      timed.followsPartner = false ∧ timed.ownClock.better ⟨1, 6, 1, 1, 1, 1, 0, 0, false⟩ = false) ∧
    (actv.tuRef = refNone ∧ locked.tuRef ≠ refNone ∧
      (let s := { locked.put (Fld.TU_PORTSTAT_state 2) 9 with tu := { locked.tu with seen := [(2, some (500, 5))] } }
       s.refOrder.find? (fun r => r != s.tuRef && s.tu.barred != some r && (s.runUntil s.lossAt).refPresent r) = some 2) ∧
      (∀ k ∈ locked.refOrder, k ≠ locked.tuRef → (locked.runUntil locked.lossAt).refPresent k = false)) ∧
    (let s := { locked with tu := { locked.tu with okSince := some 5 } }.put Fld.TU_STAT_state 1
     s.tuState = tsAcquire ∧ s.tu.okSince = some 5 ∧ actv.tu.okSince = none) ∧
    (wBit actv.timeRec 5 16 = false ∧ wBit locked.timeRec 5 16 = true ∧ locked.tuState ≠ tsFreerun ∧ locked.tu.ppsOut = none) ∧
    ppsReference locked.timeRec = false := by decide +kernel

theorem witness_compares :
    (cmpEn (actv.cmpRec 4) = false ∧ cmpEn ((compare 1).cmpRec 4) = true ∧ cmpPeriodic ((compare 1).cmpRec 4) = false ∧
      ((compare 1).cmp 4).seqTaken = false ∧ cmpPolicy ((compare 1).cmpRec 4) = 0 ∧ (compare 1).pfc = []) ∧
    (let d := fun t : Nat => signed 32 ((t + 2 ^ 32 - timed.time % 2 ^ 32) % 2 ^ 32)
     0 < d 400000001 ∧ d 400000001 ≤ 2100000000 ∧ 2100000000 < (d 2520000001).natAbs ∧ d 400000000 ≤ 0 ∧
      (d 399999999).natAbs ≤ 2100000000) ∧
    (let s := (compare 1).flag (Fld.TU_CMPCTL_armed 4) true
     s.isSet (Fld.TU_CMPCTL_armed 4) = true ∧ s.pfc = [] ∧ s.prt.lanes = [] ∧ timed.isSet (Fld.TU_CMPCTL_armed 4) = false) ∧
    (∃ w ∈ [3, 5, 9, 17], cmpEn ((compare w).cmpRec 4) = true ∧ cmpPeriodic ((compare w).cmpRec 4) = true ∧
      (compare w).isSet (Fld.TU_CMPCTL_suspended 4) = false ∧ ((compare w).cmp 4).seqTaken = false) ∧
    (∃ w ∈ [3, 5, 9, 17], cmpEn ((compare w).cmpRec 4) = true ∧ cmpPeriodic ((compare w).cmpRec 4) = false ∧
      cmpPolicy ((compare w).cmpRec 4) ≠ 0) := by decide +kernel

/-- Sink 100 routed to source 4 with a divider of 3, and a counter of shadow group 0. -/
def shadowed (n : Nat) (at_ : List (Nat × Option Nat)) : State :=
  { timed.setReg (Reg.SYS_EVM_SINK 100) 0x30104 with
    pfc := [(8, { ev := 0x00000011, count := 70, last := 5 })], pfcAt := at_, sys := { timed.sys with divs := SMap.set 0 100 n [] } }

theorem witness_captures :
    (let s := shadowed 2 []
     let x := SMap.get {} 8 s.pfc
     x.cls ≠ 1 ∧ isCondition x.cls = false ∧ bits x.ev 6 4 = 1 ∧ x.last ≠ s.clk + 1 ∧ x.wasAt ≠ s.clk + 1 ∧
      ppsReference s.timeRec = false ∧ s.ad.reached = [] ∧ bit (s.reg (Reg.SYS_EVM_SINK 100)) 8 = true ∧
      bits (s.reg (Reg.SYS_EVM_SINK 100)) 7 0 = 4 ∧ SMap.get 0 100 s.sys.divs < bits (s.reg (Reg.SYS_EVM_SINK 100)) 23 16 ∧
      (upFrom 0 120).all (fun i => i == 100 ||
        (bit (s.reg (Reg.SYS_EVM_SINK i)) 8 && bits (s.reg (Reg.SYS_EVM_SINK i)) 7 0 == 4) == false) = true) ∧
    bits ((shadowed 3 []).reg (Reg.SYS_EVM_SINK 100)) 23 16 ≤ SMap.get 0 100 (shadowed 3 []).sys.divs ∧
    SMap.get none 0 (shadowed 3 []).pfcAt = none ∧
    SMap.get none 0 (shadowed 3 [(0, some 99990000)]).pfcAt = some 99990000 ∧ (shadowed 3 []).clk < 99990000 + 25000 := by
  decide +kernel

theorem witness_pps_reference : ∃ w4 ∈ [0, 1, 2, 3, 4, 5, 6, 7, 8],
    let s := { timed with tu := { timed.tu with ppsLast := some 1 } }.setRec 0x09 0 [1, 0x3F, 0, 0, wd w4, 0x10000]
    ppsReference s.timeRec = true ∧ s.tu.ppsLast = some 1 ∧ s.pfc = [] ∧
      100000 < (((s.time - (5 : BitVec 16).toNat : Nat) : Int) - 1 - 1000000000).natAbs := by decide +kernel

/-- A parameter set of one record: its header, an instance record and an input record. -/
def setHead (n k : Nat) : List Word := [0x53414645, wd (n + k * 256), 0, 0, 0, 0, 0, 0]
def instWords (i ty en w4 w9 : Nat) : List Word :=
  [wd (i + ty * 256 + en * 2048 + 4096), 0, 0, 0, wd w4, 0x12345600, 0, 0, 0, wd w9, 0, 0, 0, 0, 0, 0]
def inputWords (c : Nat) : List Word := [wd (c + 2 * 32 + 5 * 1024)] ++ List.replicate 15 0

/-- A station of one instance, 9, of type `ty` in state `st`. -/
def station (st ty en : Nat) (conf : Bool) (b : State := actv) : State :=
  let w := setHead 1 1 ++ instWords 9 ty en 0 0
  { b with
    clk := 1000
    saf := { b.saf with params := [(1, w)], insts := [(9, { state := st, safe := 0 })] }
    nv := { b.nv with confirmed := if conf then [(1, some (setCheck w))] else [] } }

def rec9 (ty en : Nat) : List Word := instWords 9 ty en 0 0

theorem witness_safety_instances :
    ((station 3 1 1 true).prt.lanes = [] ∧ safEvaluates State.reset.mode = false ∧ safEvaluates (station 3 1 1 true).mode = true ∧
      (station 3 1 1 true).saf.flip = false ∧ (station 3 1 1 true).instRecs = [(1, rec9 1 1)] ∧ irInst (rec9 1 1) = 9 ∧
      irEn (rec9 1 0) = false ∧ (station 3 1 0 true).instRecs = [(1, rec9 1 0)] ∧ irEn (rec9 1 1) = true) ∧
    (let s := station 3 1 1 true
     1 ∈ ({ s with saf := { s.saf with bad := [1] } } : State).saf.bad ∧ 1 ∉ s.saf.bad ∧ s.setConfirmed 1 = true ∧
      s.names7 (rec9 1 1) = false ∧ (station 3 1 1 false).setConfirmed 1 = false ∧ irEdmUsed (rec9 1 1) = false) ∧
    (let s := (station 3 1 1 true).publish (demandItem 9) 1
     (s.inst 9).state = siRun ∧ (s.out (demandItem 9)).val.getLsbD 0 = true ∧ irType (rec9 2 1) = 2 ∧ irType (rec9 1 1) ≠ 2) ∧
    (let s := station 3 1 1 true
     irInputs (rec9 1 1) = [] ∧ (∀ t ∈ irTargets (rec9 1 1), s.isSto t.2 = false) ∧ s.supply 7 ≠ 1 ∧ s.supply 7 ≠ 2 ∧
      (s.out (demandItem 9)).val.getLsbD 0 = false ∧ s.isSet Fld.SAF_STAT_fault = false ∧ s.mode ≠ mSafe) ∧
    (let s := (station 2 1 1 true).publish (resetItem 9) 0x105
     let l := (station 2 1 1 true (inMode 4 actv)).publish (resetItem 9) 0x105
     (s.inst 9).state = siTripped ∧ irReset (rec9 1 1) = 1 ∧ (s.out (resetItem 9)).q ≠ 3 ∧ (s.inst 9).seqTaken = false ∧
      safResets s.mode = true ∧ safResets l.mode = false ∧ (l.inst 9).state = siTripped) ∧
    (let s := station 1 1 1 true
     let s := { s with outs := SMap.set {} (resetItem 9) { val := 0, q := 3, time := 0 } s.outs }
     (s.inst 9).state = siUnconfirmed ∧ (s.out (resetItem 9)).q = 3) := by decide +kernel

/-- Input 5 of unit 7 with a record, open for one sample in channel A. -/
def guarded : State :=
  { actv with
    clk := 1000
    saf := { actv.saf with params := [(0, setHead 0 1 ++ inputWords 5)], ins := [(5, { nA := 1, demA := true })] } }

theorem witness_sto_test :
    ((guarded.chan 7 1).force = 0 ∧ guarded.sys.pins.pair = false ∧
      ({ guarded with sys := { guarded.sys with pins := { guarded.sys.pins with pair := true } } } : State).sys.pins.pair = true ∧
      (guarded.stage 7).mode ≠ smDrive) := by decide +kernel

theorem witness_safety_inputs :
    (guarded.safeRec (4 + 0) = [] ∧ guarded.safeRec (4 + 1) ≠ [] ∧ (guarded.safeIn (4 + 1)).demA = true ∧
      filterSamples (guarded.safeRec (4 + 1)) ≤ (guarded.safeIn (4 + 1)).nA + 1 ∧ (guarded.safeIn (4 + 1)).seenDem = false ∧
      inputFault ((guarded.setChan 7 5 (({} : FChan).mark fbCrossshort true)).chan 7 (4 + 1)) = true) ∧
    ((guarded.safeIn 4).diffSince = none ∧
      (({ guarded with saf := { guarded.saf with ins := [(5, { diffSince := some 900 })] } } : State).safeIn 5).diffSince = some 900) ∧
    ((guarded.chan 7 1).force = 0 ∧ ((field 7 1 { force := 1 } guarded).chan 7 1).force ≠ 0) ∧
    ((SMap.get {} (3 * 16 + 1) guarded.saf.groups).counter = none ∧ (7 : BitVec 16).toNat = (6 + 1) % 65536 ∧
      (9 : BitVec 16).toNat ≠ (6 + 1) % 65536) ∧
    (let s := station 3 1 1 true
     let t := { s with nv := { s.nv with confirmed := [(1, some 4)] } }
     SMap.get none 1 t.nv.confirmed = some 4 ∧ t.setLoaded 1 = true ∧ 1 ∉ t.saf.bad ∧ setCheck (t.paramSet 1) ≠ 4 ∧
      SMap.get none 1 actv.nv.confirmed = none ∧ 1 ∉ actv.saf.bad) ∧
    (let r := instWords 9 1 1 5 256
     let s := { actv with saf := { actv.saf with params := [(1, setHead 1 1 ++ r)] } }
     s.instRecs.find? (fun e => irInst e.2 == 9) = some (1, r) ∧ irEn r = true ∧ irEdmUsed r = true ∧
      actv.instRecs.find? (fun e => irInst e.2 == 9) = none) ∧
    (com.mode = mCommission ∧ actv.mode ≠ mCommission ∧ com.fw.commits = []) := by decide +kernel

/-- A commit of safety sets under way in COMMISSION. -/
theorem witness_parameter_write :
    let s := { com with fw := { com.fw with commits := [{ ses := 3, stages := [.safety 1 0 [7]], who := ⟨64, 0⟩ }] } }
    s.mode = mCommission ∧
      (s.fw.commits.any fun c => c.stages.any fun st => match st with | .safety _ _ _ => true | _ => false) = true := by
  decide +kernel

/-- Alarm 7 with configuration `c`. -/
def alarmCfg7 : AlarmCfg := { en := true, ident := 77, inst := 2, onDelay := 10 }
def alarmed (x : Alarm) (c : AlarmCfg) (item : Bool := false) (cm : List AlmCmd := []) : State :=
  ({ actv with time := 5, alm := { cfg := [(7, c)], alarms := SMap.set {} 7 x [], cmds := cm } } : State).publish (alarmItem 7)
    (if item then 1 else 0)
def itemOf (s : State) : Bool := (s.out (alarmItem 7)).val.getLsbD 0

theorem witness_alarms :
    (State.reset.evaluatesAlarms = false ∧ actv.evaluatesAlarms = true ∧ actv.prt.lanes = [] ∧ actv.windward = true ∧
      State.reset.windward = false) ∧
    (let s := alarmed {} { alarmCfg7 with en := false }
     s.alm.cfg = [(7, { alarmCfg7 with en := false })] ∧ (s.alarm 7).chattering = false ∧ s.alm.cmds = []) ∧
    (let s := alarmed { count := 1 } alarmCfg7 true
     itemOf s = true ∧ (s.alarm 7).cond = false ∧ 10 ≤ (s.alarm 7).count * 10 ∧ (s.alarm 7).state = asNormal ∧
      alarmCfg7.priority ≠ 3 ∧ alarmCfg7.suppress = none ∧ alarmCfg7.point = none ∧ s.evaluatesAlarms = true) ∧
    (let s := alarmed { state := asRectified } { alarmCfg7 with onDelay := 0 } true
     itemOf s = true ∧ (s.alarm 7).state = asRectified ∧ 0 ≤ (s.alarm 7).count * 10) ∧
    (let s := alarmed {} alarmCfg7 true
     itemOf s = true ∧ (s.alarm 7).count * 10 < 10) ∧
    (let s := alarmed { state := 1, cond := true } alarmCfg7
     itemOf s = false ∧ (s.alarm 7).cond = true ∧ alarmCfg7.offDelay ≤ (s.alarm 7).count * 10 ∧ (s.alarm 7).state = asUnack) ∧
    (let s := alarmed { state := 1, cond := true } alarmCfg7 true [⟨7, acAck, 1, 0⟩]
     itemOf s = true ∧ s.alm.cmds = [⟨7, acAck, 1, 0⟩] ∧ (s.alarm 7).state = asUnack ∧ (s.alarm 7).state ≤ 4) ∧
    (let s := alarmed { state := 5, shelveEnd := some 3000, cond := true } alarmCfg7
     (s.alarm 7).state = asShelved ∧ (s.alarm 7).shelveEnd.isSome = true) ∧
    (let s := alarmed { state := 2, silenceEnd := some 3000 } alarmCfg7
     (s.alarm 7).state = asSilenced ∧ (s.alarm 7).silenceEnd.isSome = true ∧ (actv.alarm 7).silenceEnd = none) ∧
    (let s := alarmed { state := 1, escalateEnd := some 3000 } alarmCfg7
     (s.alarm 7).state = asUnack ∧ (s.alarm 7).escalateEnd.isSome = true ∧ (actv.alarm 7).escalateEnd = none) ∧
    (let s := alarmed { chattering := true, absentSince := some 3 } alarmCfg7
     (s.alarm 7).chattering = true ∧ (s.alarm 7).absentSince.isSome = true ∧ (actv.alarm 7).chattering = false) := by
  decide +kernel

theorem witness_alarm_commands :
    (let c := (alarmed {} { alarmCfg7 with priority := 2, category := 2 }).alarmCfg 7
     1 ≤ c.priority ∧ c.category ≠ 0 ∧ (1440 : BitVec 16) ≠ 0 ∧ (1440 : BitVec 16) ≤ 1440 ∧ 1440 < (1441 : BitVec 16)) ∧
    (let s := alarmed {} { alarmCfg7 with category := 1 }
     (s.alarmList.find? fun j => (s.alarmCfg j).ident == 77 && (s.alarmCfg j).inst == (2 : BitVec 16).toNat) = some 7 ∧
      (s.alarmCfg 7).category = 1 ∧
      (actv.alarmList.find? fun j => (actv.alarmCfg j).ident == 77 && (actv.alarmCfg j).inst == (2 : BitVec 16).toNat) = none) ∧
    (let s := alarmed {} alarmCfg7
     let f := { s with alm := { s.alm with flood := true, belowSince := some 9 } }
     f.alm.flood = true ∧ f.alm.belowSince.isSome = true ∧ f.alm.held = [] ∧ f.windward = true ∧ actv.alm.flood = false) ∧
    (({ actv with alm := { actv.alm with owed := [7] } } : State).alm.owed = 7 :: [] ∧ actv.alm.owed = []) := by decide +kernel

/-- A message for the recorder in its inbox, a staged record of 31 words, and staging that is full. -/
def inbox : State := { actv with evr := { actv.evr with inbox := [⟨1, 4, 99, [1, 2]⟩], staging := [], seq := 8 } }
def stagedRec : State :=
  { actv.flag Fld.EVR_STAT_ready true with evr := { actv.evr with staging := [List.replicate 31 70001] } }

theorem witness_records :
    ((actv.evDef 3).capture = none ∧
      (let s := actv.setEvDef 3 { capture := some ⟨88, [], 90⟩ }
       (s.evDef 3).capture = some ⟨88, [], 90⟩ ∧ s.capturesAt 90 = [3] ∧ wBits (s.evRec 3) 27 23 0 = 0 ∧ wBit (s.evRec 3) 0 8 = false ∧
        s.evr.staging.length < 16384)) ∧
    (({ actv with evr := { actv.evr with inbox := [] } } : State).evr.inbox = [] ∧ inbox.evr.inbox = ⟨1, 4, 99, [1, 2]⟩ :: [] ∧ inbox.capturesAt 99 = [] ∧
      inbox.evr.staging.length < 16384 ∧
      16384 ≤ ({ inbox with evr := { inbox.evr with staging := List.replicate 16384 [] } } : State).evr.staging.length) ∧
    (actv.front 9 = none ∧ (message 3 0x24 [1] 0 actv).front 9 = some 0 ∧ (message 3 0x24 [1] 0 actv).qConsumer 9 = 0x24 ∧
      (message 3 0x24 [1] 0 actv).leeward = false ∧ (message 3 0x24 [1] 0 actv).evr.staging.length < 16384 ∧
      (message 3 0x24 [1] 0 stby).leeward = true ∧ (message 3 0x24 [1] 0 actv).evr.defs = [] ∧
      (message 3 0x24 [1] 0 actv).evr.inbox = []) ∧
    (stagedRec.isSet Fld.EVR_STAT_frozen = false ∧ stagedRec.isSet Fld.EVR_STAT_ready = true ∧
      stagedRec.evr.staging = List.replicate 31 70001 :: [] ∧ (List.replicate 31 (70001 : Word)).length = 31 ∧
      actv.isSet Fld.EVR_STAT_ready = false ∧ (stagedRec.flag Fld.EVR_STAT_frozen true).isSet Fld.EVR_STAT_frozen = true) := by
  decide +kernel

/-! ### Network, Modbus, CAN and the panel -/

/-- Queue 9 takes messages and may hold one; service 5 uses it both ways, under protocol `proto` on port 2, and as serial
port 1. -/
def empty9 : State := queues 0x10 actv
def service (proto extra : Nat) (s : State) : State :=
  s.setRec 0x10 0x105 [wd (1 + 2 * proto + 2048 + extra), wd (9 + 9 * 65536), 0, 77, wd (7 * 65536)]
def unqueued (s : State) : State := s.setRec 0x10 0x105 [1, 0x1FFF1FFF]
def serial1 (s : State) : State := s.setRec 0x12 1 [wd (1 + 8 * 1), wd (9 + 9 * 65536), 0]
def waiting9 (bs : List Byte) (s : State) : State := (s.deliver 9 ⟨3, 0x10, bs, 0, 0⟩).1
def room9 (s : State) : Bool :=
  s.qEn 9 && decide (s.depth 9 + (s.queue 9).reserved < s.qLimit 9) && s.qe.desc == [] && s.qe.small == [] &&
    ((List.range 3).all fun j => decide (s.fld (useFld j (s.qOwner 9)) < s.quotaOf j (s.qOwner 9))) &&
    (List.range 32).all fun w => !s.isSet (Fld.QE_WATCH_en w)

theorem witness_network :
    (actv.pfc = [] ∧ svEn (actv.svcRec 5) = false ∧
      (let s := { actv with eth := { actv.eth with seen := [(4, 5, 0)] } }
       (4, 5, 0) ∈ s.eth.seen ∧ s.time < 0 + 400000000)) ∧
    (let s := service 0 0 empty9
     s.leeward = false ∧ svEn (s.svcRec 5) = true ∧ 2 ∈ svcPorts (s.svcRec 5) ∧ rxQueue (s.svcRec 5) = some 9 ∧ room9 s = true ∧
      s.pfc = []) ∧
    (let s := waiting9 [1, 2, 3, 4] (service 0 0 empty9)
     let z := s.anyRec false 5
     txQueue z = some 9 ∧ s.front 9 = some 0 ∧ s.netSilent = false ∧ svEn z = true ∧ svcPorts z = [2] ∧ sendsSentences false z = false ∧
      txQueue ((unqueued actv).anyRec false 5) = none ∧ svProto ((service 1 0 actv).anyRec false 5) = 1 ∧
      (waiting9 [1] (service 0 0 (queues 0x10 stby))).leeward = true) ∧
    (let s := waiting9 [1, 2] (serial1 empty9)
     txQueue (s.anyRec true 1) = some 9 ∧ s.front 9 = some 0 ∧ svEn (s.anyRec true 1) = true ∧
      sendsSentences true (s.anyRec true 1) = true ∧ (s.msgBytes 0).length ≤ 82) ∧
    (let s := waiting9 (List.replicate 83 1) (serial1 empty9)
     s.front 9 = some 0 ∧ 82 < (s.msgBytes 0).length) ∧
    (actv.eth.lanA = none ∧ svEn (actv.serRec 1) = false ∧ svEn ((serial1 empty9).serRec 1) = true ∧
      rxQueue ((serial1 empty9).serRec 1) = some 9 ∧ room9 (serial1 empty9) = true ∧
      wBits ((serial1 empty9).setRec 9 0 [0, 0, 0, 0, 4]).timeRec 4 3 2 = 1) := by decide +kernel

/-- A head of a classic block for net-id 7, sequence 3, of two bytes, with its CRC. -/
def head7 : List Word :=
  let h := [wd 0x4A43, wd (7 * 65536), wd (3 + 2 * 65536)]
  h ++ [crc32c (wordBytes h ++ [1, 2])]

theorem witness_classic :
    (let s := waiting9 [1, 2] (service 4 65536 empty9)
     let r := s.svcRec 5
     svEn r = true ∧ svProto r = 4 ∧ wBit r 0 16 = true ∧ s.leeward = false ∧ txQueue r = some 9 ∧ svcPorts r = [2] ∧
      s.untaken 9 = [0] ∧ s.msgBytes 0 = [1, 2] ∧ (∀ e ∈ s.qe.desc ++ s.qe.small ++ s.qe.large, e.2 ≤ 64) ∧
      txQueue ((unqueued actv).svcRec 5) = none) ∧
    (let s := (service 4 65536 empty9).setSvc 5 { newest := some [1, 2] }
     s.untaken 9 = [] ∧ (s.svc 5).newest = some [1, 2] ∧ svProto (s.svcRec 5) = 4) ∧
    (let s := service 4 0 empty9
     let r := s.svcRec 5
     svEn r = true ∧ svProto r = 4 ∧ wBit r 0 16 = false ∧ s.leeward = false ∧ rxQueue r = some 9 ∧ room9 s = true ∧
      wBits head7 0 15 0 = 0x4A43 ∧ wBits head7 0 23 16 = wBits r 0 18 17 ∧ wBits head7 1 31 16 = wBits r 4 31 16 ∧
      wBits head7 2 31 16 = ([1, 2] : List Byte).length ∧
      wAt head7 3 = crc32c (wordBytes (head7.take 3) ++ [1, 2]) ∧ (s.svc 5).got ≠ some (wBits head7 2 15 0) ∧
      (s.svc 5).lapsed = false ∧ ((s.setSvc 5 { lapsed := true }).svc 5).lapsed = true) ∧
    (let t := actv.setRec 0x08 0x84 [0x200001]
     wBit (t.reqRec 4) 0 21 = true ∧ t.leeward = false ∧ t.servesStation = true) ∧
    (wBit (actv.reqRec 4) 0 21 = false ∧ stby.leeward = true ∧ State.reset.servesStation = false) := by decide +kernel

/-- What a client of each kind comes with: on an Ethernet port with a chained certificate, and on the service port without one. -/
def chainedHello : PliuzHello := ⟨0, true, true⟩
def serviceHello : PliuzHello := ⟨1, true, false⟩

theorem witness_connections :
    (State.reset.mode = mBoot ∧ actv.isSet Fld.PNL_USB_function = false ∧ (2 : Fin 6).val ∉ actv.sys.pliuz) ∧
    (let s := ({ actv with sys := { actv.sys with pliuz := [2] }, fw := { actv.fw with conn := none } } : State)
     ¬ ((2 : Fin 6).val ∉ s.sys.pliuz ∨ s.mode = mBoot ∨ (s.mode = mSelftest ∧ 2 ≤ (2 : Fin 6).val)) ∧
      chainedHello.suite.val < 2 ∧ chainedHello.p256 = true ∧ chainedHello.chained = true ∧ s.fw.conn = none ∧
      (s.mbox 64).held = [] ∧ ({ s with fw := { s.fw with conn := some 1 } } : State).fw.conn.isSome = true) ∧
    (let s := ({ com with nv := { com.nv with key := [] }, fw := { com.fw with conn := none } } : State).flag Fld.PNL_USB_function true
     s.nv.key = [] ∧ s.mode = mCommission ∧ s.isSet Fld.PNL_USB_function = true ∧ s.fw.conn = none ∧
      (s.mbox 64).held = [] ∧ serviceHello.suite.val < 2 ∧ serviceHello.p256 = true) := by
  decide +kernel

/-- Entries at address 10 of the four tables, and two connections of Modbus. -/
def entry (t w q pt : Nat) : List Word := [wd (1 + 2 * t + 8 * 10 + 0x80000 * w), wd pt, wd q]
def tables : State :=
  (((((({ empty9 with eth := { empty9.eth with conns := [5] } } : State).setRec 0x10 0x1000 (entry 0 16 9 1)).setRec 0x10 0x1001
    (entry 3 16 9 1)).setRec 0x10 0x1002 (entry 1 16 0x1FFF 1)).setRec 0x10 0x1003 (entry 2 16 0x1FFF 1)).setRec 0x10 0x106
    [wd (1 + 2 * 2 + 2048)])
def fromLan : ModbusFrom := ⟨false, 2, 5, 6⟩

theorem witness_modbus :
    (tables.pfc = [] ∧ tables.prt.lanes = [] ∧ State.reset.mbListens 2 = false ∧ (5 : Word).toNat ∈ tables.eth.conns ∧
      (6 : Word).toNat ∉ tables.eth.conns ∧ tables.mbListens 2 = true ∧ tables.mbListens 3 = false ∧ ¬ 8 ≤ tables.eth.conns.length ∧
      8 ≤ ({ tables with eth := { tables.eth with conns := [1, 2, 3, 4, 5, 7, 8, 9] } } : State).eth.conns.length) ∧
    (tables.mbServed fromLan = true ∧ State.reset.mbServed fromLan = false ∧
      (∀ t < 4, tables.mbEntry t 11 = none ∧ tables.mbSecond t 11 = false) ∧ 65536 < (65535 : BitVec 16).toNat + (2 : BitVec 16).toNat) ∧
    (tables.mbEntry 0 10 = some (entry 0 16 9 1) ∧ tables.mbEntry 3 10 = some (entry 3 16 9 1) ∧
      tables.mbEntry 2 10 = some (entry 2 16 0x1FFF 1) ∧ mbWide (entry 3 16 9 1) = false ∧ mbQueue (entry 3 16 9 1) = some 9 ∧
      mbQueue (entry 0 16 9 1) = some 9 ∧ mbQueue (entry 1 16 0x1FFF 1) = none ∧ room9 tables = true) ∧
    (let s := waiting9 [1, 2] (service 3 0 empty9)
     let z := s.anyRec false 5
     txQueue z = some 9 ∧ s.front 9 = some 0 ∧ s.leeward = false ∧ isMaster false z = true ∧
      (s.svc (svcIndex false 5)).opened = none ∧ svcPorts z = [2] ∧ txQueue ((unqueued actv).anyRec false 5) = none) ∧
    (let s := (service 3 0 empty9).setSvc (svcIndex false 5) { opened := some (8, 3) }
     (s.svc (svcIndex false 5)).opened = some (8, 3) ∧ s.leeward = false ∧ rxQueue (s.anyRec false 5) = some 9 ∧ room9 s = true) := by
  decide +kernel

/-- Port 1 of CAN in state `st`, with its transmit queue 9 and, in `w6` and `w7`, what makes it a time master. -/
def canRec1 (w0 w6 w7 : Nat) : List Word :=
  [wd w0, 0, 0, wd (9 + 9 * 65536), wd 0x1FFF, 0, wd w6, wd w7, 500, 0, 0, 400, 0, 0, 0, 0]
def onBus (st : Nat) (r : List Word) (s : State) : State := (s.setRec 0x11 1 r).put (Fld.CAN_STAT_state 1) st
def plain (s : State) : State := onBus csActive (canRec1 17 0 0) s
def frame1 (id : Nat) (ph : Nat) (d : Option Nat) : CanFrame := ⟨wd (id * 2 ^ 18), 0x40000, [1, 2, 3], d, 3, 0, 0, ph⟩
def buffered (b : Nat) (f : CanFrame) (s : State) : State := s.setCanBuf 1 b (some f)

theorem witness_frame_counter :
    let y : PfcCnt := { ev := 0x00011001, last := 3 }
    let s := { (onBus csLeeward (canRec1 17 0 0) actv).setReg Reg.PRT_LOCK 1 with pfc := [(8, y)], clk := 500 }
    s.pfc = [(8, y)] ∧ y.cls = 16 ∧ y.arg = 1 ∧ y.level = false ∧ y.last ≠ s.clk + 1 ∧ s.isSet ⟨Reg.PRT_LOCK, 0, 0⟩ = true ∧
      s.canState 1 = csLeeward := by decide +kernel

theorem witness_can :
    (let s := plain empty9
     s.pfc = [] ∧ s.prt.lanes = [] ∧ caReport (s.canRec 1) = none ∧ (∀ e ∈ s.qe.desc ++ s.qe.small ++ s.qe.large, e.2 ≤ 64) ∧
      s.canState 1 = csActive ∧ (∀ b < 3, s.canBuf 1 b = none) ∧ s.canFilter 1 (0x123 : Word) = none ∧ room9 s = true ∧
      (onBus csDetecting (canRec1 17 0 0) s).canState 1 = csDetecting ∧ (onBus csLeeward (canRec1 17 0 0) s).canState 1 = csLeeward ∧
      (onBus csOff (canRec1 17 0 0) s).canState 1 = csOff) ∧
    (let s := (plain empty9).setRec 0x11 (0x100 + 0x40 * 1 + 2) [0x40000123, 0x1FFFFFFF, 9]
     let f : CanRx := ⟨0x123, false, false, false, [1, 2], 0, 0⟩
     s.canFilter 1 f.user0 = some 2 ∧ wBits (s.rec_ 0x11 (0x100 + 0x40 * 1 + 2)) 2 12 0 = 9 ∧ f.data.length ≤ 64) ∧
    (let s := onBus csActive (canRec1 17 (1 + 0x123 * 4) 10) actv
     let f : CanRx := ⟨0x123, false, false, false, [1, 2], 0, 0⟩
     caMaster (s.canRec 1) = true ∧ caPeriod (s.canRec 1) ≠ 0 ∧ bits f.user0 29 0 = caRefWord (s.canRec 1) ∧
      s.canBuf 1 2 = none ∧ caMaster (actv.canRec 1) = false) ∧
    (let s := (onBus csDetecting (canRec1 17 0 0) actv).put (Fld.CAN_ABD_state 1) 1
     s.canState 1 = csDetecting ∧ s.fld (Fld.CAN_ABD_state 1) = 1 ∧ (s.canPort 1).run < 3 ∧ 3 ≤ ((s.setCanPort 1 { run := 3 }).canPort 1).run ∧
      (let used := (upFrom 0 8).filter fun i => wBits (s.canRec 1) (8 + i) 20 0 != 0
       (used.find? fun i => decide (s.fld (Fld.CAN_ABD_cand 1) < i)) = some 3 ∧
        (used.find? fun i => decide ((s.put (Fld.CAN_ABD_cand 1) 3).fld (Fld.CAN_ABD_cand 1) < i)) = none)) ∧
    (let s := plain (waiting9 [1, 2, 3] empty9)
     caTx (s.canRec 1) = some 9 ∧ s.front 9 = some 0 ∧ s.leeward = false ∧ s.canBuf 1 0 = none ∧
      canSendable (s.canRec 1) 0x55 4 3 = true ∧ canSendable (s.canRec 1) (s.msgUser 0 0) (s.msgUser 0 1) 9 = false ∧
      (plain (waiting9 [1, 2, 3] (queues 0x10 stby))).leeward = true) := by decide +kernel

theorem witness_can_buffers :
    (let s := buffered 0 (frame1 0x55 1 (some 0)) (plain empty9)
     s.canState 1 = csActive ∧ s.canBuf 1 0 = some (frame1 0x55 1 (some 0)) ∧ (frame1 0x55 1 (some 0)).phase ≠ 2 ∧
      (∀ j < 3, j ≠ 0 → s.canBuf 1 j = none)) ∧
    (let f := frame1 0x55 1 (some 0)
     let g := frame1 0x56 3 (some 1)
     let s := buffered 1 g (buffered 0 f (plain empty9))
     caOrder (s.canRec 1) = false ∧ s.canBuf 1 0 = some f ∧ s.canBuf 1 1 = some g ∧ s.canBuf 1 2 = none ∧ g.phase ≠ 2 ∧
      arbField f < arbField g) ∧
    (let f := frame1 0x55 2 (some 0)
     let s := buffered 0 f (plain empty9)
     s.canBuf 1 0 = some f ∧ f.phase = 2 ∧ f.desc.isSome = true ∧ (bit f.user1 2 && f.desc.isSome) = false ∧
      (bit (4 : Word) 2 && f.desc.isSome) = true ∧ s.fld (Fld.CAN_STAT_tec 1) ≤ 247 ∧
      247 < (s.put (Fld.CAN_STAT_tec 1) 250).fld (Fld.CAN_STAT_tec 1)) ∧
    (let f := frame1 0x55 1 none
     let s := buffered 2 f (plain empty9)
     s.canBuf 1 2 = some f ∧ f.desc = none ∧ f.phase ≠ 2) ∧
    (let s := (onBus csReturning (canRec1 17 0 0) actv).setCanPort 1 { recovering := true, offs := [0] }
     s.canState 1 = csReturning ∧ (s.canPort 1).recovering = true ∧ ((onBus csReturning [] actv).canPort 1).recovering = false) ∧
    (caPex (canRec1 4 0 0) = true ∧ caPex (canRec1 17 0 0) = false ∧ caFd (canRec1 17 0 0) = false ∧
      (onBus csIntegrating [] actv).canState 1 = csIntegrating) := by decide +kernel

/-- A panel that drives one pixel, whose pulse has room, and one that has none. -/
def driven (room : Nat) : State :=
  ((({ actv with pnl := { actv.pnl with image := [(5, 4)] } }.put Fld.PNL_STAT_state 2).flag Fld.PNL_DRIVE_on true).put
    (Fld.PNL_GAMMA_width 4) room).put Fld.PNL_DRIVE_iseg 3
def held (k : Nat) (c : Option Nat) (s : State) : State :=
  { s with pnl := { s.pnl with first := some k, chord := c } }.put Fld.PNL_KEYS_down (2 ^ k)

theorem witness_panel :
    (actv.shadow = [] ∧ actv.driving = false ∧ (driven 100).driving = true ∧ (driven 100).pnl.image = [(5, 4)] ∧
      5 / 256 < (driven 100).fld Fld.PNL_TIMING_mux + 1 ∧ (driven 100).shadow = [] ∧
      ({ actv with pnl := { actv.pnl with gainPend := [(7, 140)] } } : State).pnl.gainPend = [(7, 140)]) ∧
    (actv.fld Fld.PNL_STAT_state ≠ 1 ∧ actv.fld Fld.PNL_STAT_state ≠ 2 ∧ (driven 1).fld Fld.PNL_STAT_state = 2 ∧
      actv.pnl.faultAt = none ∧
      (let s := { actv with pnl := { actv.pnl with faultAt := some 5 } }.put Fld.PNL_STAT_state 3
       s.fld Fld.PNL_STAT_state = 3 ∧ s.pnl.barred = false ∧ s.pnl.faultAt = some 5 ∧ s.time < 5 + 60000000000) ∧
      (actv.put Fld.PNL_STAT_state 1).fld Fld.PNL_STAT_state = 1) ∧
    (actv.fld Fld.PNL_KEYS_down = 0 ∧ actv.pnl.first = none ∧ actv.pnl.chord = none ∧ actv.mode ≠ mSelftest ∧ keyAck ≠ keyEnter) ∧
    (let s := held 0 none actv
     (s.fld Fld.PNL_KEYS_down).testBit 1 = false ∧ (s.fld Fld.PNL_KEYS_down).testBit 0 = true ∧ s.pnl.first = some 0 ∧
      s.pnl.chord = none ∧ chordOf 0 2 = none ∧ chordOf 0 1 = some 1) ∧
    (let s := held keyUp none actv
     s.pnl.first = some keyUp ∧ s.pnl.chord = none ∧ s.mode ≠ mSelftest) ∧
    ((held 0 (some keyBack) actv).pnl.chord = some keyBack ∧ actv.pnl.chord ≠ some keyBack) ∧
    (let s := held 0 (some keyEnter) { State.reset with sys := { State.reset.sys with wait := .witnessAbsent, commReq := true } }
     s.pnl.chord = some keyEnter ∧ s.mode = mBoot ∧ s.sys.wait = .witnessAbsent ∧ s.nv.service = false ∧ s.sys.commReq = true ∧
      s.highClaim.toNat < 0xFFFFFFFE) ∧
    (let s := held 0 none { State.reset with sys := { State.reset.sys with startShown := true } }
     s.pnl.first = some keyMenu ∧ s.pnl.chord = none ∧ s.mode = mBoot ∧ s.sys.startShown = true ∧ s.sys.commReq = false) := by
  decide +kernel

theorem witness_slider :
    (actv.pnl.blocked = false ∧ 192 < (193 : Fin 1024).val ∧ (192 : Fin 1024).val ≤ 192 ∧ actv.isSet Fld.PNL_SLIDER_touch = false) ∧
    (let s := (actv.flag Fld.PNL_SLIDER_touch true).put Fld.PNL_SLIDER_zone 1
     s.isSet Fld.PNL_SLIDER_touch = true ∧ s.fld Fld.PNL_SLIDER_zone * 64 < (57 : Fin 1024).val + 8 ∧
      (135 : Fin 1024).val < (s.fld Fld.PNL_SLIDER_zone + 1) * 64 + 8) ∧
    (actv.mode ≠ mSafe ∧ actv.pnl.base = none ∧
      ({ actv with pnl := { actv.pnl with acc := [(9, 1000000)] } } : State).pnl.acc = [(9, 1000000)] ∧
      actv.isSet Fld.PNL_USB_attached = false ∧ (com.flag Fld.PNL_USB_attached true).isSet Fld.PNL_USB_attached = true) := by
  decide +kernel

/-! ### Well-formedness: each check at its bound, and a term that it refuses -/

theorem test_wf_payloads :
    (Instr.cfgWrite 64 0 0 0 (List.replicate 58 0)).wf = true ∧ (Instr.cfgWrite 64 0 0 0 (List.replicate 59 0)).wf = false ∧
    (Instr.keyEnrol 64 0 (List.replicate 60 0)).wf = true ∧ (Instr.keyEnrol 64 0 (List.replicate 61 0)).wf = false ∧
    (Instr.taskDeclare 64 0 0 (List.replicate 59 0)).wf = true ∧ (Instr.taskDeclare 64 0 0 (List.replicate 60 0)).wf = false ∧
    (Instr.safeLoad 64 0 0 0 0 (List.replicate 57 0)).wf = true ∧ (Instr.safeLoad 64 0 0 0 0 (List.replicate 58 0)).wf = false ∧
    (Instr.safeAuth 64 0 0 (List.replicate 59 0)).wf = true ∧ (Instr.safeAuth 64 0 0 (List.replicate 60 0)).wf = false ∧
    (Instr.echo 64 0 (List.replicate 60 0)).wf = true ∧ (Instr.echo 64 0 (List.replicate 61 0)).wf = false ∧
    (Instr.imgWrite 64 0 0 0 (List.replicate 58 0)).wf = true ∧ (Instr.imgWrite 64 0 0 0 (List.replicate 59 0)).wf = false := by
  decide +kernel

theorem test_wf_kinds :
    (Instr.compareMismatch 0 1).wf = true ∧ (Instr.compareMismatch 0 0).wf = false ∧
    (Instr.forwardItemReceive 1 1 []).wf = true ∧ (Instr.forwardItemReceive 1 0 []).wf = false ∧
    (Instr.sfpInsert 0 ⟨0, 4⟩ []).wf = true ∧ (Instr.sfpInsert 0 ⟨0, 5⟩ []).wf = false ∧
    (Instr.pathMonitorRead (List.replicate 24 0) 0).wf = true ∧ (Instr.pathMonitorRead (List.replicate 23 0) 0).wf = false ∧
    (Instr.pathMonitorRead (List.replicate 25 0) 0).wf = false := by decide +kernel

theorem test_wf_phasor :
    let v : TripleMeas := { points := List.replicate 10 0, harmonics := some (List.replicate 30 0) }
    (Instr.phasorCycleEnd 0 0 v [v, v]).wf = true ∧
    (Instr.phasorCycleEnd 0 0 { v with points := List.replicate 11 0 } []).wf = false ∧
    (Instr.phasorCycleEnd 0 0 { v with harmonics := some (List.replicate 31 0) } []).wf = false ∧
    (Instr.phasorCycleEnd 0 0 v [v, v, v]).wf = false ∧
    (Instr.phasorCycleEnd 0 0 v [{ v with points := List.replicate 11 0 }]).wf = false := by decide +kernel

theorem test_wf_announce :
    let c : Announce := ⟨255, 255, 255, 65535, 255, 0, 65535, 0, false⟩
    (Instr.ptpAnnounce 0 c).wf = true ∧ (Instr.ptpAnnounce 0 { c with priority1 := 256 }).wf = false ∧
    (Instr.ptpAnnounce 0 { c with clockClass := 256 }).wf = false ∧ (Instr.ptpAnnounce 0 { c with accuracy := 256 }).wf = false ∧
    (Instr.ptpAnnounce 0 { c with variance := 65536 }).wf = false ∧ (Instr.ptpAnnounce 0 { c with priority2 := 256 }).wf = false ∧
    (Instr.ptpAnnounce 0 { c with steps := 65536 }).wf = false := by decide +kernel

theorem test_wf_field :
    (Instr.barrierFrameReceive 0 true [] [⟨63, 1, 0⟩]).wf = true ∧ (Instr.barrierFrameReceive 0 true [] [⟨64, 1, 0⟩]).wf = false ∧
    (Instr.barrierFrameReceive 0 true [] [⟨63, 2, 0⟩]).wf = false ∧
    (Instr.diSample 0 (List.replicate 16 (24000, 2500))).wf = true ∧ (Instr.diSample 0 (List.replicate 17 (15, 0))).wf = false := by
  decide +kernel

theorem test_wf_remote :
    let x : RSection := ⟨255, false, [0, 0], [], true, false, 0⟩
    let r : RingReport := ⟨List.replicate 240 x, 0, 0, true, true, true, true, 0⟩
    let y : RReport := ⟨120, 1, 1, 1, 16383, 0⟩
    let f : RFrame := { claim := 0, even := true, vals := some (List.replicate 1024 ⟨0, 0, 0⟩) }
    (Instr.ringCycleEnd 0 r).wf = true ∧ (Instr.ringCycleEnd 0 { r with sections := List.replicate 241 x }).wf = false ∧
    (Instr.ringCycleEnd 0 { r with sections := [{ x with octets := List.replicate 513 0 }] }).wf = false ∧
    (Instr.ringCycleEnd 0 { r with sections := [{ x with unit := 256 }] }).wf = false ∧
    (Instr.unitFrameProcess 0 (some f)).wf = true ∧ (Instr.unitFrameProcess 0 none).wf = true ∧
    (Instr.unitFrameProcess 0 (some { f with vals := some (List.replicate 1025 ⟨0, 0, 0⟩) })).wf = false ∧
    (Instr.discovery 0 (List.replicate 120 y) 0 0).wf = true ∧ (Instr.discovery 0 (List.replicate 121 y) 0 0).wf = false ∧
    (Instr.discovery 0 [{ y with pos := 121 }] 0 0).wf = false ∧ (Instr.discovery 0 [{ y with pos := 0 }] 0 0).wf = false ∧ (Instr.discovery 0 [{ y with node := 16384 }] 0 0).wf = false ∧
    (Instr.rioServiceMessage 9 none).wf = true ∧ (Instr.rioServiceMessage 9 (some (List.replicate 256 0))).wf = true ∧
    (Instr.rioServiceMessage 9 (some (List.replicate 257 0))).wf = false ∧
    (Instr.safetyTelegramReceive 0 0 0 true (List.replicate 64 ⟨0, true, false⟩)).wf = true ∧
    (Instr.safetyTelegramReceive 0 0 0 true (List.replicate 65 ⟨0, true, false⟩)).wf = false := by decide +kernel

theorem test_wf_network :
    (Instr.serviceFrameReceive 0 0 0 (List.replicate 1500 0) true none).wf = true ∧
    (Instr.serviceFrameReceive 0 0 0 (List.replicate 1501 0) true none).wf = false ∧
    (Instr.sentence450Receive 0 0 0 (List.replicate 1500 0) true none).wf = true ∧
    (Instr.sentence450Receive 0 0 0 (List.replicate 1501 0) true none).wf = false ∧
    (Instr.classicBlockReceive 0 0 0 (List.replicate 8 0) (List.replicate 1500 0)).wf = true ∧
    (Instr.classicBlockReceive 0 0 0 (List.replicate 9 0) []).wf = false ∧
    (Instr.classicBlockReceive 0 0 0 [] (List.replicate 1501 0)).wf = false ∧
    (Instr.serialSentenceReceive 0 (List.replicate 256 0) 0 none).wf = true ∧
    (Instr.serialSentenceReceive 0 (List.replicate 257 0) 0 none).wf = false := by decide +kernel

theorem test_wf_modbus :
    let f : ModbusFrom := ⟨false, 2, 5, 6⟩
    (Instr.modbusWriteMultipleCoils f 0 (List.replicate 1968 true)).wf = true ∧
    (Instr.modbusWriteMultipleCoils f 0 (List.replicate 1969 true)).wf = false ∧
    (Instr.modbusWriteMultipleRegisters f 0 (List.replicate 123 0)).wf = true ∧
    (Instr.modbusWriteMultipleRegisters f 0 (List.replicate 124 0)).wf = false ∧
    (Instr.modbusReadWriteRegisters f 0 1 0 (List.replicate 121 0)).wf = true ∧
    (Instr.modbusReadWriteRegisters f 0 1 0 (List.replicate 122 0)).wf = false ∧
    (Instr.modbusResponse false 0 0 (List.replicate 260 0) true).wf = true ∧
    (Instr.modbusResponse false 0 0 (List.replicate 261 0) true).wf = false := by decide +kernel

theorem test_wf_can_and_panel :
    (Instr.canFrameReceive 0 ⟨0, true, false, false, List.replicate 64 0, 0, 3⟩).wf = true ∧
    (Instr.canFrameReceive 0 ⟨0, true, false, false, List.replicate 65 0, 0, 0⟩).wf = false ∧
    (Instr.canFrameReceive 0 ⟨0, true, false, false, [], 0, 4⟩).wf = false ∧
    (Instr.frameBoundary (List.replicate 16384 (0, 0))).wf = true ∧
    (Instr.frameBoundary (List.replicate 16385 (0, 0))).wf = false ∧
    (Instr.wearGainUpdate (List.replicate 16384 (0, 0))).wf = true ∧
    (Instr.wearGainUpdate (List.replicate 16385 (0, 0))).wf = false := by decide +kernel

/-! ### Results worked by hand from the manual -/

def ends (o : Host.Outcome State Fault Refusal) (p : State → Bool) : Bool := match o with | .next u => p u | _ => false

/-- The check value of R394 over the nine ASCII octets "123456789". -/
theorem test_crc16 : crc16 [0x31, 0x32, 0x33, 0x34, 0x35, 0x36, 0x37, 0x38, 0x39] = 0x29B1 := by decide +kernel

/-- Words of Example 1 of Block Code: LD, ST, LEA, CALLFB, ENTER and RET; and a word that spells nothing. -/
theorem test_code_words :
    codeCommand 2 0x21341068 0 = some (.ld 2 9 5 0 4 0x68) ∧ codeCommand 2 0x25201141 0 = some (.st 2 9 0 0 4 0x141) ∧
    codeCommand 2 0x29601140 0 = some (.lea 2 11 0 0 4 0x140) ∧ codeCommand 2 0x556003EF 0 = some (.callfb 2 11 0x3EF) ∧
    codeCommand 2 0x5C000002 0 = some (.enter 2 2) ∧ codeCommand 2 0x58000000 0 = some (.ret 2) ∧ codeCommand 2 0 0 = none := by
  decide +kernel

/-- ADDI adds the sign-extended immediate: 5 − 1 is 4, and the pc moves on by a word (R145). -/
theorem test_addi : ends (exec (.addi 0 6 3 0xFFFF) lane1) fun u => u.gpr 0 6 == 4 &&
    (u.lane 0).eng.pc == (lane1.lane 0).eng.pc + 4 := by decide +kernel

/-- ADD of type U8 wraps at 8 bits: 5 + 7 is 12, and 251 + 7 is 2 (R146). -/
theorem test_add_wraps :
    let s := lane1.setLane 0 { lane1.lane 0 with eng := (lane1.lane 0).eng.set 8 251 }
    ends (exec (.add 0 6 3 4 4) s) (fun u => u.gpr 0 6 == 12) = true ∧
    ends (exec (.add 0 6 8 4 4) s) (fun u => u.gpr 0 6 == 2) = true := by decide +kernel

/-- ADDS of type I8 saturates: 120 + 7 is 127, and so is 121 + 7 (R146). SUB of type I8: 5 − 7 is −2, sign-extended (R143). -/
theorem test_saturate :
    let s := lane1.setLane 0 { lane1.lane 0 with eng := (lane1.lane 0).eng.set 8 121 }
    ends (exec (.adds 0 6 8 4 0) s) (fun u => u.gpr 0 6 == 127) = true ∧
    ends (exec (.sub 0 6 3 4 0) s) (fun u => u.gpr 0 6 == 0xFFFFFFFFFFFFFFFE) = true := by decide +kernel

/-- Division truncates toward zero and MOD has the sign of a: −7 DIV 5 is −1, and −7 MOD 5 is −2, as I64 (R146). -/
theorem test_div_mod :
    let s := lane1.setLane 0 { lane1.lane 0 with eng := (lane1.lane 0).eng.set 8 0xFFFFFFFFFFFFFFF9 }
    ends (exec (.div 0 6 8 3 3) s) (fun u => u.gpr 0 6 == 0xFFFFFFFFFFFFFFFF) = true ∧
    ends (exec (.mod 0 6 8 3 3) s) (fun u => u.gpr 0 6 == 0xFFFFFFFFFFFFFFFE) = true := by decide +kernel

/-- FADD of binary32: 1.5 + 2.25 is 3.75, and 2^24 + 1 lies half way and rounds to the even 2^24 (R148). -/
theorem test_fadd :
    let at_ := fun (a b : Word64) => lane1.setLane 0 { lane1.lane 0 with eng := ((lane1.lane 0).eng.set 8 a).set 9 b }
    ends (exec (.fadd 0 6 8 9 2) (at_ 0x3FC00000 0x40100000)) (fun u => (u.gpr 0 6).setWidth 32 == (0x40700000 : Word)) = true ∧
    ends (exec (.fadd 0 6 8 9 2) (at_ 0x4B800000 0x3F800000)) (fun u => (u.gpr 0 6).setWidth 32 == (0x4B800000 : Word)) = true := by
  decide +kernel

/-- A frame with its check value, the same with an octet changed, and one of 23 octets (R394). -/
theorem test_frame : frameOk frame = true ∧ frameOk (frame.set 5 6) = false ∧ frameOk (frame.take 23) = false := by decide +kernel

/-- The supply states of R398: missing below 15.0 V until 15.5 V, low below 19.2 V until 19.7 V. -/
theorem test_supply : supplyState 0 14999 = 2 ∧ supplyState 2 15499 = 2 ∧ supplyState 2 15500 = 1 ∧ supplyState 0 19199 = 1 ∧
    supplyState 1 19699 = 1 ∧ supplyState 1 19700 = 0 := by decide +kernel

end Sys2Proof.Tests
end

namespace Sys2Proof.Machine

/-! ### The reserved bits of a register (R10, R60) -/

/-- The bits [hi:lo] of a word, all set. -/
def bitMask (hi lo : Nat) : Word := setBits 0 hi lo (2 ^ (hi + 1 - lo) - 1)

/-- The reserved bits of the register that the tables name at `k`, where it is writable (R10). -/
def reservedMask (k : Nat) : Word :=
  match regInfoAt k with
  | some r =>
    if r.fields.any (·.acc == .wm) then 0
    else ~~~((accMask r.fields .rw ||| accMask r.fields .wo) ||| (accMask r.fields .rc ||| roBits r.name))
  | none => 0

theorem and_bitMask_eq_zero {v : Word} {hi lo : Nat} (h : bits v hi lo = 0) : v &&& bitMask hi lo = 0 := by
  apply BitVec.eq_of_getLsbD_eq
  intro i hi32
  have hb : (bits v hi lo).testBit (i - lo) = false := by simp [h]
  rw [testBit_bits] at hb
  simp only [bitMask, BitVec.getLsbD_and, getLsbD_setBits _ _ _ _ _ hi32, Nat.testBit_two_pow_sub_one]
  by_cases hr : lo ≤ i ∧ i < hi + 1
  · have hlt : i - lo < hi + 1 - lo := by omega
    have hsum : lo + (i - lo) = i := by omega
    simp only [hlt, hsum, decide_true, Bool.true_and] at hb
    simp [hb]
  · rw [if_neg hr]; simp

theorem regInfo_eq_none_or (s : State) (k : Nat) : s.regInfo k = none ∨ s.regInfo k = regInfoAt k := by
  unfold State.regInfo
  split
  · exact .inl rfl
  · exact .inr rfl

theorem reservedWrite_eq_false_of_mask {k : Nat} {r : RegInfo} {v : Word} (hr : regInfoAt k = some r)
    (h : v &&& reservedMask k = 0) : r.reservedWrite v = false := by
  simp only [reservedMask, hr] at h
  simp only [RegInfo.reservedWrite]
  split <;> simp_all

theorem keepsReserved_of_mask (s : State) {k : Nat} {v : Word} (h : v &&& reservedMask k = 0) :
    s.keepsReserved k v = true := by
  unfold State.keepsReserved
  split
  · next r hr =>
    have hk : regInfoAt k = some r := by
      rcases regInfo_eq_none_or s k with hn | ha
      · rw [hn] at hr; cases hr
      · rw [← ha, hr]
    simp [reservedWrite_eq_false_of_mask hk h]
  · rfl

theorem keepsReserved_of_bits (s : State) {k hi lo : Nat} {v : Word} (hm : reservedMask k = bitMask hi lo)
    (h : bits v hi lo = 0) : s.keepsReserved k v = true :=
  keepsReserved_of_mask s (by rw [hm]; exact and_bitMask_eq_zero h)

theorem reservedMask_PRT_LOCK : reservedMask Reg.PRT_LOCK = bitMask 31 1 := by decide
theorem reservedMask_QE_FREEBUF : reservedMask Reg.QE_FREEBUF = bitMask 31 16 := by decide
theorem reservedMask_QE_ENQ : reservedMask Reg.QE_ENQ = bitMask 31 14 := by decide
theorem reservedMask_QE_DEQREQ : reservedMask Reg.QE_DEQREQ = bitMask 31 13 := by decide
theorem reservedMask_RED_CLAIMCTL : reservedMask Reg.RED_CLAIMCTL = bitMask 15 2 := by decide
theorem reservedMask_SAF_PDATA : reservedMask Reg.SAF_PDATA = 0 := by decide
theorem reservedMask_DBGADDR_LO : reservedMask Reg.LKS_DBGADDR_LO = bitMask 1 0 := by decide
theorem reservedMask_DBGADDR_HI : reservedMask Reg.LKS_DBGADDR_HI = bitMask 31 8 := by decide
theorem reservedMask_PNL_DRIVE : reservedMask Reg.PNL_DRIVE = bitMask 31 18 := by decide
theorem reservedMask_MBX_REQ_HEAD (m : Fin 72) : reservedMask (Reg.MBX_REQ_HEAD m) = bitMask 31 16 := by
  revert m; decide
theorem reservedMask_MBX_RSP_TAIL (m : Fin 72) : reservedMask (Reg.MBX_RSP_TAIL m) = bitMask 31 16 := by
  revert m; decide

theorem bits_setWidth_above {n : Nat} (x : BitVec n) {hi : Nat} (h : n ≤ 32) : bits (x.setWidth 32) hi n = 0 := by
  simp [bits, Nat.shiftRight_eq_div_pow, BitVec.toNat_setWidth_of_le h, Nat.div_eq_of_lt x.isLt]

theorem bits_wd_above {n v hi : Nat} (hv : v < 2 ^ n) (h : n ≤ 32) : bits (wd v) hi n = 0 := by
  have h32 : v < 2 ^ 32 := hv.trans_le (Nat.pow_le_pow_right (by decide) h)
  simp only [bits, wd, BitVec.toNat_ofNat, Nat.mod_eq_of_lt h32, Nat.shiftRight_eq_div_pow, Nat.div_eq_of_lt hv,
    Nat.zero_mod]

theorem claimWord_bits (key : BitVec 16) {n : Nat} (h : n < 4) : bits (wd (key.toNat * 65536 + n)) 15 2 = 0 := by
  have := key.isLt
  simp only [bits, wd, BitVec.toNat_ofNat, Nat.shiftRight_eq_div_pow]
  omega

theorem attachWord_keeps (l : Fin 8) : wd (256 + l) &&& reservedMask Reg.LKS_DBGCTL = 0 := by
  revert l; decide
theorem selWord_keeps (r : Fin 36) (half : Bool) : wd (r + 256 * b1 half) &&& reservedMask Reg.LKS_DBGSEL = 0 := by
  revert r half; decide
theorem allocWord_keeps (kind : Fin 3) (p : Fin 64) : wd (kind + p * 65536) &&& reservedMask Reg.QE_ALLOCREQ = 0 := by
  have hm : reservedMask Reg.QE_ALLOCREQ = 0xFFC0FFFC := by decide
  rw [hm]
  revert kind p; decide

/-! ### Slow accesses of the management pair (R68) -/

theorem slowOf_of_empty {s : State} (h : s.sys.slow = []) (m : Nat) : s.slowOf m = none := by
  simp [State.slowOf, h]

theorem slowOfLane_of_empty {s : State} (h : s.sys.slow = []) (l : Nat) : s.slowOfLane l = none := by
  simp [State.slowOfLane, h]

theorem slowDone_of_none {s : State} {m : Nat} (h : s.slowOf m = none) : s.slowDone m = some s := by
  simp [State.slowDone, h]

/-- An access of the management pair that has begun in a slow domain. -/
def State.addSlow (s : State) (k : Nat) (write : Bool) (v : Word) : State :=
  { s with sys := { s.sys with slow := s.sys.slow ++ [⟨0, 0, k, write, v, none, none⟩] } }

theorem mgmtAccess_of_none {s : State} (h : s.slowOf 0 = none) (k : Nat) (write : Bool) (v : Word) :
    s.mgmtAccess k write v =
      if s.slowKey k then some (s.addSlow k write v) else s.slowMgmt ⟨0, 0, k, write, v, none, none⟩ := by
  simp only [State.mgmtAccess, slowDone_of_none h, Option.bind_some]
  rfl

theorem accessed_of_none {s : State} (h : s.slowOf 0 = none) (k : Nat) (write : Bool) (v : Word) :
    s.accessed k write v = State.doneOr k (s.mgmtAccess k write v) := by
  simp only [State.accessed, slowDone_of_none h]

theorem addSlow_slow (s : State) (k : Nat) (write : Bool) (v : Word) :
    (s.addSlow k write v).sys.slow = s.sys.slow ++ [⟨0, 0, k, write, v, none, none⟩] := rfl

theorem addSlow_isSet (s : State) (k : Nat) (write : Bool) (v : Word) (f : Fld) :
    (s.addSlow k write v).isSet f = s.isSet f := rfl

theorem slowOf_addSlow {s : State} (h : s.slowOf 0 = none) (k : Nat) (write : Bool) (v : Word) :
    (s.addSlow k write v).slowOf 0 = some ⟨0, 0, k, write, v, none, none⟩ := by
  simp only [State.slowOf] at h
  simp [State.slowOf, State.addSlow, List.find?_append, h]

/-- The last access leaves the slow domain, and nothing of it remains. -/
theorem dropSlow_addSlow {s : State} (h0 : s.slowOf 0 = none) (k : Nat) (write : Bool) (v : Word) :
    (s.addSlow k write v).dropSlow 0 = s := by
  have hkeep : s.sys.slow.filter (fun a => a.master != 0) = s.sys.slow := by
    simpa [State.slowOf, List.find?_eq_none] using h0
  simp only [State.dropSlow, State.addSlow, List.filter_append, hkeep, List.filter_singleton]
  simp

theorem slowDone_of_mgmt {s : State} {m : Nat} {a : SlowAcc} (h : s.slowOf m = some a) (hl : a.lane = none) :
    s.slowDone m = (s.dropSlow m).slowMgmt a := by
  simp only [State.slowDone, h, hl]

theorem mgmtAccess_of_slow {s : State} (h0 : s.slowOf 0 = none) {k : Nat} (hk : s.slowKey k = true) (write : Bool)
    (v : Word) : s.mgmtAccess k write v = some (s.addSlow k write v) := by
  rw [mgmtAccess_of_none h0, hk, if_pos rfl]

/-! ### Writes that a register accepts -/

theorem regInfo_of_block_ne (s : State) {k : Nat} (h : k / 65536 ≠ 16) : s.regInfo k = regInfoAt k :=
  if_neg fun hc => h hc.1

theorem slowKey_of_block_ne (s : State) {k : Nat} {r : RegInfo} (h : k / 65536 ≠ 16) (hr : regInfoAt k = some r) :
    s.slowKey k = r.slow := by
  simp only [State.slowKey, regInfo_of_block_ne s h, hr]

theorem lockedOut_of_free (s : State) {k : Nat}
    (h : (k / 65536 == 1 || (k / 65536 == 13 && decide (0x40 ≤ k % 65536) && decide (k % 65536 < 0x60))) = false) :
    s.lockedOut k = false := by
  simp only [State.lockedOut, h, Bool.and_false]

/-- A write that a register of the tables takes: unlocked, writable, the reserved fields kept, and every value in range. -/
structure State.Accepts (s : State) (k : Nat) (v : Word) (r : RegInfo) : Prop where
  info : s.regInfo k = some r
  free : s.lockedOut k = false
  writable : r.writable = true
  kept : r.reservedWrite v = false
  inRange : r.inRange v = true
  stateRange : s.stateRange k v = true

theorem writeCore_of_accepts {s : State} {k : Nat} {v : Word} {r : RegInfo} (h : s.Accepts k v r) (part master : Nat) :
    s.writeCore k v part master = some
      (if k = Reg.PNL_DRIVE then
        (s.pumpBit (bit v 16)).loadFields { r with fields := r.fields.filter (·.app == .frm) } k v
      else if k = Reg.LKS_DBGADDR_LO ∨ k = Reg.LKS_DBGADDR_HI then s.splitWrite k v
      else if k = Reg.PNL_WEARDATA ∨ k / 65536 = 2 ∧ k % 0x20 = 0 then s.writeEffect k v part
      else (s.loadFields r k v).writeEffect k v part) := by
  obtain ⟨hinfo, hfree, hw, hk, hi, hs⟩ := h
  simp only [State.writeCore, hinfo, hfree, hw, hk, hi, hs, Bool.not_true, Bool.or_self, Bool.false_eq_true, if_false]
  repeat' split
  all_goals rfl

theorem loadFields_sys (s : State) (r : RegInfo) (k : Nat) (v : Word) : (s.loadFields r k v).sys = s.sys := by
  refine foldl_keeps (fun s : State => s.sys) _ (fun s f => ?_) _ _
  simp only
  repeat' split
  all_goals rfl

theorem slowMgmt_write (s : State) (k : Nat) (v : Word) :
    s.slowMgmt ⟨0, 0, k, true, v, none, none⟩ = s.writeReg k v := rfl

theorem mgmtWrite_of_fast {s : State} (h0 : s.slowOf 0 = none) {k : Nat} (hf : s.slowKey k = false) (v : Word) :
    s.mgmtAccess k true v = s.writeReg k v := by
  rw [mgmtAccess_of_none h0, hf]
  rfl

theorem writeReg_of_plain (s : State) {k : Nat} (hk : k ∉ [Reg.LKS_DBGDATA, Reg.LKS_DBGMEM, Reg.LKS_DBGCTL]) (v : Word) :
    s.writeReg k v = s.writeCore k v 0 0 := by
  simp only [List.mem_cons, List.not_mem_nil, or_false, not_or] at hk
  obtain ⟨hdata, hmem, hctl⟩ := hk
  simp only [State.writeReg, hdata, hmem, hctl, if_false]

/-! ### Accesses that keep the reserved fields complete -/

theorem keepsReserved_congr {s t : State} (h : t.sys.pins = s.sys.pins) (k : Nat) (v : Word) :
    t.keepsReserved k v = s.keepsReserved k v := by
  simp only [State.keepsReserved, State.regInfo, h]

theorem writeCore_isSome {s : State} {k : Nat} {v : Word} (h : s.keepsReserved k v = true) (part master : Nat) :
    (s.writeCore k v part master).isSome = true := by
  unfold State.keepsReserved at h
  unfold State.writeCore
  split
  · rfl
  · next r hr =>
    simp only [hr, Bool.or_eq_true, Bool.not_eq_true'] at h
    rcases h with hw | hv
    · simp only [hw]
      split <;> rfl
    · simp only [hv, Bool.false_eq_true, if_false]
      repeat' split
      all_goals rfl

theorem debugMemWrite_isSome {s : State} {v : Word} (h : s.keepsReserved (s.debugAddr - 0x40000000) v = true) :
    (s.debugMemWrite v).isSome = true := by
  unfold State.debugMemWrite
  split
  · rfl
  · simp only
    split
    · rfl
    · split
      · split
        · exact writeCore_isSome h _ _
        · rfl
        · rfl
      · rfl

theorem writeReg_isSome {s : State} {k : Nat} {v : Word} (hk : k ≠ Reg.LKS_DBGMEM) (h : s.keepsReserved k v = true) :
    (s.writeReg k v).isSome = true := by
  unfold State.writeReg
  rw [if_neg hk]
  split
  · rfl
  · split
    · simpa using writeCore_isSome h 0 0
    · exact writeCore_isSome h 0 0

/-- A pending access of the management pair, or of a lane whose activation has ended. -/
theorem slowMgmt_isSome {s : State} {a : SlowAcc}
    (h : a.write = true → a.key ≠ Reg.LKS_DBGMEM ∧ s.keepsReserved a.key a.val = true) :
    (s.slowMgmt a).isSome = true := by
  unfold State.slowMgmt
  split
  · split
    · next hw => exact writeCore_isSome (h hw).2 _ _
    · rfl
  · split
    · next hw => exact writeReg_isSome (h hw).1 (h hw).2
    · rfl

theorem storeReg_isSome {s : State} {a : Act} {l k n : Nat} {v : Word64}
    (h : s.keepsReserved k (v.setWidth 32) = true) : (s.storeReg a l k n v).isSome = true := by
  unfold State.storeReg
  split
  · rfl
  · rfl
  · simp only [Option.isSome_map]
    split
    · rfl
    · exact writeCore_isSome h _ _

theorem slowLane_isSome {s : State} {x : SlowAcc} {l : Nat} (h : s.keepsReserved x.key x.val = true) :
    (s.slowLane x l).isSome = true := by
  unfold State.slowLane
  split
  · rfl
  · simp only [Option.isSome_map]
    split
    · rfl
    · refine storeReg_isSome ?_
      rw [keepsReserved_congr (by rfl : _ = s.sys.pins), BitVec.setWidth_setWidth_of_le _ (by decide), BitVec.setWidth_eq]
      exact h

theorem slowDone_isSome {s : State} {m : Nat} {a : SlowAcc} (ha : s.slowOf m = some a) (hk : a.key ≠ Reg.LKS_DBGMEM)
    (hv : s.keepsReserved a.key a.val = true) : (s.slowDone m).isSome = true := by
  have hd : (s.dropSlow m).keepsReserved a.key a.val = true :=
    (keepsReserved_congr (s := s) (t := s.dropSlow m) rfl _ _).trans hv
  simp only [State.slowDone, ha]
  split
  · exact slowLane_isSome hd
  · exact slowMgmt_isSome fun _ => ⟨hk, hd⟩

theorem finishSlow_isSome {s : State} {l : Nat} {a : SlowAcc} (ha : s.slowOfLane l = some a)
    (hv : s.keepsReserved a.key a.val = true) : (s.finishSlow l).isSome = true := by
  simp only [State.finishSlow, ha]
  exact slowLane_isSome ((keepsReserved_congr (s := s) (t := s.dropSlow a.master) rfl _ _).trans hv)

theorem mgmtAccess_isSome {s t : State} (hd : s.slowDone 0 = some t) {k : Nat} {write : Bool} {v : Word}
    (h : write = true → k ≠ Reg.LKS_DBGMEM ∧ t.keepsReserved k v = true) : (s.mgmtAccess k write v).isSome = true := by
  simp only [State.mgmtAccess, hd, Option.bind_some]
  split
  · rfl
  · exact slowMgmt_isSome h

/-! ### Commands of one access -/

theorem exec_slowAccessDone (m : Fin 16) (s : State) :
    exec (.slowAccessDone m) s = State.doneOr (s.slowKeyOf m) (s.slowDone m) := rfl

theorem doneOr_next (k : Nat) : ∀ {o : Option State}, o.isSome = true → ∃ t, State.doneOr k o = .next t
  | some s, _ => ⟨s.settle, rfl⟩

theorem wrote_next {s : State} (hs : s.sys.slow = []) {k : Nat} {v : Word} (hk : k ≠ Reg.LKS_DBGMEM)
    (hv : s.keepsReserved k v = true) : ∃ t, s.wrote k v = .next t := by
  have h0 := slowOf_of_empty hs 0
  rw [State.wrote, accessed_of_none h0]
  exact doneOr_next k (mgmtAccess_isSome (slowDone_of_none h0) fun _ => ⟨hk, hv⟩)

theorem readAccess_next {s : State} (hs : s.sys.slow = []) (k : Nat) : ∃ t, s.accessed k false 0 = .next t := by
  have h0 := slowOf_of_empty hs 0
  rw [accessed_of_none h0]
  exact doneOr_next k (mgmtAccess_isSome (slowDone_of_none h0) nofun)

theorem putsOf_registerWrite (s : State) (reg : BitVec 19) (v : Word) : putsOf s (.registerWrite reg v) =
    (4 * reg.toNat, v) :: if 4 * reg.toNat = Reg.LKS_DBGMEM then [(s.debugAddr - 0x40000000, v)] else [] := rfl

theorem registerWrite_next {s : State} (hs : s.sys.slow = []) (reg : BitVec 19) (v : Word)
    (hv : ∀ w ∈ putsOf s (.registerWrite reg v), s.keepsReserved w.1 w.2 = true) :
    ∃ t, execRegisterWrite reg v s = .next t := by
  by_cases hk : 4 * reg.toNat = Reg.LKS_DBGMEM
  · have h0 := slowOf_of_empty hs 0
    have hmem : s.keepsReserved (s.debugAddr - 0x40000000) v = true :=
      hv (s.debugAddr - 0x40000000, v) (by
        rw [putsOf_registerWrite, if_pos hk]
        exact .tail _ (.head _))
    rw [execRegisterWrite, accessed_of_none h0, mgmtAccess_of_none h0, hk]
    refine doneOr_next _ ?_
    split
    · rfl
    · exact debugMemWrite_isSome hmem
  · exact wrote_next hs hk (hv (4 * reg.toNat, v) (.head _))

theorem debugCommand_next {s : State} (hs : s.sys.slow = []) (cmd steps : Nat)
    (hv : ∀ w ∈ s.debugWord cmd steps, s.keepsReserved w.1 w.2 = true) : ∃ t, s.debugCommand cmd steps = .next t := by
  unfold State.debugWord at hv
  unfold State.debugCommand
  split
  · exact ⟨_, rfl⟩
  · next l hl =>
    simp only [hl] at hv
    exact wrote_next hs (by decide) (hv _ (List.mem_singleton_self _))

/-- An index of a mailbox, written by the management pair or by a task. -/
theorem mailboxWrite_isSome {s : State} (hs : s.sys.slow = []) {k : Nat} {v : Word} (hk : k ≠ Reg.LKS_DBGMEM)
    (hv : s.keepsReserved k v = true) (writer : Option (Fin 8)) : (s.mailboxWrite k writer v).isSome = true := by
  unfold State.mailboxWrite
  split
  · exact mgmtAccess_isSome (slowDone_of_none (slowOf_of_empty hs 0)) fun _ => ⟨hk, hv⟩
  · split
    · rfl
    · split
      · exact writeCore_isSome hv _ _
      · rfl
      · rfl

/-! ### The debugger's registers -/

/-- LKS_DBGSEL in the tables. -/
def debugSelInfo : RegInfo :=
  ⟨"LKS_DBGSEL", 0xD0408, [], [⟨8, 8, .rw, .imm, none⟩, ⟨5, 0, .rw, .imm, some (0, 35)⟩]⟩

theorem regInfoAt_debugSel : regInfoAt Reg.LKS_DBGSEL = some debugSelInfo := by decide

theorem debugSel_accepts (s : State) (r : Fin 36) (half : Bool) :
    s.Accepts Reg.LKS_DBGSEL (wd (r + 256 * b1 half)) debugSelInfo where
  info := (regInfo_of_block_ne s (by decide)).trans regInfoAt_debugSel
  free := lockedOut_of_free s (by decide)
  writable := by decide
  kept := reservedWrite_eq_false_of_mask regInfoAt_debugSel (selWord_keeps r half)
  inRange := by revert r half; decide
  stateRange := rfl

theorem debugSel_access {s : State} (h0 : s.slowOf 0 = none) (r : Fin 36) (half : Bool) :
    ∃ t, s.mgmtAccess Reg.LKS_DBGSEL true (wd (r + 256 * b1 half)) = some t ∧ t.sys = s.sys := by
  refine ⟨s.loadFields debugSelInfo Reg.LKS_DBGSEL (wd (r + 256 * b1 half)), ?_, loadFields_sys _ _ _ _⟩
  rw [mgmtWrite_of_fast h0 ((slowKey_of_block_ne s (by decide) regInfoAt_debugSel).trans (by decide)),
    writeReg_of_plain s (by decide), writeCore_of_accepts (debugSel_accepts s r half)]
  rfl

theorem debugRegWrite_next {s : State} (hs : s.sys.slow = []) (r : Fin 36) (half : Bool) (v : Word) :
    ∃ t, execDebugRegWrite r half v s = .next t := by
  obtain ⟨t, ht, hsys⟩ := debugSel_access (slowOf_of_empty hs 0) r half
  have ht0 : t.slowOf 0 = none := slowOf_of_empty (by rw [hsys]; exact hs) 0
  rw [execDebugRegWrite, ht]
  refine doneOr_next _ (mgmtAccess_isSome (slowDone_of_none ht0) fun _ => ⟨by decide, ?_⟩)
  exact keepsReserved_of_mask t (by simp [show reservedMask Reg.LKS_DBGDATA = 0 by decide])

/-- A half of the debug memory address written (R67). -/
theorem debugAddr_access {s : State} (h0 : s.slowOf 0 = none) {k : Nat}
    (hk : k = Reg.LKS_DBGADDR_LO ∨ k = Reg.LKS_DBGADDR_HI) {v : Word} (hv : v &&& reservedMask k = 0) :
    s.mgmtAccess k true v = some (s.splitWrite k v) := by
  have hinfo : ∃ r, regInfoAt k = some r ∧ r.writable = true ∧ r.slow = false ∧ ∀ v, r.inRange v = true := by
    rcases hk with rfl | rfl
    · exact ⟨⟨"LKS_DBGADDR_LO", 0xD0414, [], [⟨31, 2, .rw, .imm, none⟩]⟩, by decide, by decide, by decide, fun _ => rfl⟩
    · exact ⟨⟨"LKS_DBGADDR_HI", 0xD0410, [], [⟨7, 0, .rw, .imm, none⟩]⟩, by decide, by decide, by decide, fun _ => rfl⟩
  have hplace : k / 65536 ≠ 16 ∧ k ≠ Reg.PNL_DRIVE ∧ k ∉ [Reg.LKS_DBGDATA, Reg.LKS_DBGMEM, Reg.LKS_DBGCTL] := by
    rcases hk with rfl | rfl <;> decide
  have hfree : s.lockedOut k = false := by rcases hk with rfl | rfl <;> exact lockedOut_of_free s (by decide)
  have hrange : s.stateRange k v = true := by rcases hk with rfl | rfl <;> rfl
  obtain ⟨r, hr, hw, hslow, hin⟩ := hinfo
  obtain ⟨hblock, hdrive, hplain⟩ := hplace
  have ha : s.Accepts k v r :=
    ⟨(regInfo_of_block_ne s hblock).trans hr, hfree, hw, reservedWrite_eq_false_of_mask hr hv, hin v, hrange⟩
  rw [mgmtWrite_of_fast h0 ((slowKey_of_block_ne s hblock hr).trans hslow), writeReg_of_plain s hplain,
    writeCore_of_accepts ha, if_neg hdrive, if_pos hk]

/-- The state once the debug memory address has been written, low word first. -/
def State.addressed (s : State) (a : Nat) : State :=
  (s.splitWrite Reg.LKS_DBGADDR_LO (lo32 a)).splitWrite Reg.LKS_DBGADDR_HI (hi32 a)

theorem addressed_sys (s : State) (a : Nat) : (s.addressed a).sys = s.sys := rfl

theorem addressed_debugAddr (s : State) {a : Nat} (h : a < 2 ^ 38) : (s.addressed (a * 4)).debugAddr = 4 * a := by
  have hlo : (s.addressed (a * 4)).reg Reg.LKS_DBGADDR_LO = lo32 (a * 4) := by
    simp [State.addressed, State.splitWrite, State.reg, State.setReg, Reg.LKS_DBGADDR_LO, Reg.LKS_DBGADDR_HI]
  have hhi : (s.addressed (a * 4)).reg Reg.LKS_DBGADDR_HI = hi32 (a * 4) := by
    simp [State.addressed, State.splitWrite, State.reg, State.setReg, SMap.get_set, Reg.LKS_DBGADDR_LO,
      Reg.LKS_DBGADDR_HI]
  simp only [State.debugAddr, State.fld, Fld.LKS_DBGADDR_HI_addr, Fld.LKS_DBGADDR_LO_addr, hlo, hhi, bits, lo32, hi32,
    BitVec.toNat_ofNat, Nat.shiftRight_eq_div_pow]
  omega

theorem debugMemAccess_next {s : State} (hs : s.sys.slow = []) (a : BitVec 38) (value : Option (BitVec 32))
    (hv : ∀ w ∈ putsOf s (.debugMemAccess a value), s.keepsReserved w.1 w.2 = true) :
    ∃ t, execDebugMemAccess a value s = .next t := by
  have h0 := slowOf_of_empty hs 0
  have hlo : lo32 (a.toNat * 4) &&& reservedMask Reg.LKS_DBGADDR_LO = 0 := by
    rw [reservedMask_DBGADDR_LO]
    refine and_bitMask_eq_zero ?_
    simp only [bits, lo32, BitVec.toNat_ofNat, Nat.shiftRight_eq_div_pow]
    omega
  have hhi : hi32 (a.toNat * 4) &&& reservedMask Reg.LKS_DBGADDR_HI = 0 := by
    rw [reservedMask_DBGADDR_HI]
    refine and_bitMask_eq_zero ?_
    have := a.isLt
    simp only [bits, hi32, BitVec.toNat_ofNat, Nat.shiftRight_eq_div_pow]
    omega
  have haddr := addressed_debugAddr s a.isLt
  have ht0 : (s.addressed (a.toNat * 4)).slowOf 0 = none := h0
  rw [execDebugMemAccess]
  simp only [debugAddr_access h0 (.inl rfl) hlo, Option.bind_some]
  rw [debugAddr_access (s := s.splitWrite Reg.LKS_DBGADDR_LO (lo32 (a.toNat * 4))) h0 (.inr rfl) hhi, Option.bind_some]
  refine doneOr_next _ ?_
  change ((s.addressed (a.toNat * 4)).mgmtAccess _ _ _).isSome = true
  rw [mgmtAccess_of_none ht0]
  split
  · rfl
  · cases value with
    | none => rfl
    | some v =>
      refine debugMemWrite_isSome ?_
      rw [haddr, keepsReserved_congr (s := s) (by rw [addressed_sys])]
      exact hv (4 * a.toNat - 0x40000000, v) (.head _)

/-! ### PNL_DRIVE and PNL_PUMP_TOGGLE (R545) -/

/-- The word that PNL_PUMP_TOGGLE writes: what waits for PNL_DRIVE, with the pump on or off (R545). -/
def State.pumpWord (s : State) (on : Bool) : Word :=
  setBits (setBits ((s.shadowOf Reg.PNL_DRIVE .frm).getD (s.reg Reg.PNL_DRIVE)) 31 18 0) 16 16 (b1 on)

theorem pumpWord_reserved (s : State) (on : Bool) : bits (s.pumpWord on) 31 18 = 0 := by
  rw [State.pumpWord, bits_setBits_other _ _ _ _ _ _ (.inr (by decide)) (by decide), bits_setBits_same _ _ _ _ (by decide)]
  rfl

theorem pumpWord_keeps (s t : State) (on : Bool) : t.keepsReserved Reg.PNL_DRIVE (s.pumpWord on) = true :=
  keepsReserved_of_bits t reservedMask_PNL_DRIVE (pumpWord_reserved s on)

/-- PNL_DRIVE in the tables. -/
def pnlDriveInfo : RegInfo :=
  ⟨"PNL_DRIVE", 0x120008, [], [⟨17, 17, .rw, .frm, none⟩, ⟨16, 16, .rw, .imm, none⟩, ⟨15, 8, .rw, .frm, some (0, 80)⟩,
    ⟨7, 0, .rw, .frm, none⟩]⟩

theorem regInfoAt_pnlDrive : regInfoAt Reg.PNL_DRIVE = some pnlDriveInfo := by decide

theorem slowKey_pnlDrive (s : State) : s.slowKey Reg.PNL_DRIVE = true :=
  (slowKey_of_block_ne s (by decide) regInfoAt_pnlDrive).trans (by decide)

theorem execPnlPumpToggle_eq (s : State) : execPnlPumpToggle s =
    State.doneOr Reg.PNL_DRIVE ((s.mgmtAccess Reg.PNL_DRIVE true (s.pumpWord false)).bind fun u =>
      u.mgmtAccess Reg.PNL_DRIVE true (s.pumpWord true)) := rfl

theorem pumpToggle_next {s : State} (hs : s.sys.slow = []) : ∃ t, execPnlPumpToggle s = .next t := by
  have h0 := slowOf_of_empty hs 0
  obtain ⟨t, ht⟩ := Option.isSome_iff_exists.mp
    (slowDone_isSome (slowOf_addSlow h0 Reg.PNL_DRIVE true (s.pumpWord false))
      (show Reg.PNL_DRIVE ≠ Reg.LKS_DBGMEM by decide) (pumpWord_keeps s _ false))
  rw [execPnlPumpToggle_eq, mgmtAccess_of_slow h0 (slowKey_pnlDrive s), Option.bind_some]
  exact doneOr_next _ (mgmtAccess_isSome ht fun _ => ⟨by decide, pumpWord_keeps s t true⟩)

/-! ### ST -/

/-- What fetching an instruction, or moving a line from DRAM, leaves alone: the parts beyond counters and credits that say
where a register store goes. -/
structure SamePlace (s t : State) : Prop where
  sys : t.sys = s.sys
  lanes : t.prt.lanes = s.prt.lanes
  tasks : t.prt.tasks = s.prt.tasks

theorem pfcEvent_sys_prt (s : State) (c a n : Nat) : ((s.pfcEvent c a n).sys, (s.pfcEvent c a n).prt) = (s.sys, s.prt) := by
  unfold State.pfcEvent
  split
  · rfl
  · refine foldl_keeps (fun s : State => (s.sys, s.prt)) _ (fun s e => ?_) _ _
    simp only
    split
    · rfl
    · exact (apply_ite (fun s : State => (s.sys, s.prt)) _ _ _).trans (ite_self _)

theorem dramLine_samePlace {s t : State} {l p a c : Nat} (h : s.dramLine l p a c = some t) : SamePlace s t := by
  unfold State.dramLine at h
  split at h
  · cases h; exact ⟨rfl, rfl, rfl⟩
  · split at h
    · cases h; exact ⟨rfl, rfl, rfl⟩
    · split at h
      · cases h
      · cases h
        have h1 := pfcEvent_sys_prt (s.fresh.2.chargeDram p 1) c l 1
        have h2 := pfcEvent_sys_prt { s.fresh.2 with prt := { s.prt with dram := SMap.upd 0 p (· + 1) s.prt.dram } } 9 p 1
        simp only [Prod.mk.injEq] at h1 h2
        have hc : s.fresh.2.chargeDram p 1 =
          ({ s.fresh.2 with prt := { s.prt with dram := SMap.upd 0 p (· + 1) s.prt.dram } } : State).pfcEvent 9 p 1 := rfl
        rw [hc] at h1 ⊢
        exact ⟨h1.1.trans h2.1, by rw [h1.2, h2.2], by rw [h1.2, h2.2]⟩

theorem storeMem_isSome {s : State} {a : Act} {l t x : Nat} {v : Word64}
    (h : s.keepsReserved (x - 0x40000000) (v.setWidth 32) = true) : (s.storeMem a l t x v).isSome = true := by
  unfold State.storeMem
  generalize x - 0x40000000 = k at h ⊢
  split
  · rfl
  · split
    · simp only
      split
      · rfl
      · split <;> split
        · rfl
        · exact storeReg_isSome h
        · rfl
        · exact storeReg_isSome h
    · split <;> rfl

theorem location_congr {s t : State} (h : SamePlace s t) (a : Act) (e : Engine) (base r ty off : Nat) :
    t.location a e base r ty off = s.location a e base r ty off := by
  simp only [State.location, State.baseValue, State.snapArea, State.imageArea, State.declOf, h.tasks]

theorem st_next (s : State) (l : Fin 8) (d : Fin 32) (base : Fin 8) (a : Fin 32) (t : Fin 8) (off : BitVec 10)
    (h : s.keepsReserved (s.stKey l base a t off.toNat) ((s.gpr l d).setWidth 32) = true) :
    ∃ u, execSt l d base a t off s = .next u := by
  refine doneOr_next _ ?_
  unfold State.storeInstr State.instrOr
  split
  · rfl
  · next act hready =>
    simp only
    split
    · rfl
    · split
      · rfl
      · split
        · rfl
        · next s1 hs1 =>
          have hp := dramLine_samePlace hs1
          have hl : s1.lane l = s.lane l := by simp only [State.lane, hp.lanes]
          split
          · rfl
          · split
            · rfl
            · refine storeMem_isSome ?_
              rw [location_congr hp, hl, keepsReserved_congr (congrArg Sys.pins hp.sys)]
              simpa only [State.stKey, hready, State.gpr] using h

/-! ### What any command answers (R10) -/

/-- What a command may answer (R10): a next state, or the fault of a reserved field given another value. -/
def Answers (o : Res) : Prop := (∃ t, o = .next t) ∨ ∃ k, o = .fault (.reservedField k)

theorem answers_done (s : State) : Answers s.done := .inl ⟨_, rfl⟩

theorem answers_doneOr (k : Nat) : ∀ o : Option State, Answers (State.doneOr k o)
  | some s => answers_done s
  | none => .inr ⟨k, rfl⟩

theorem answers_accessed (s : State) (k : Nat) (write : Bool) (v : Word) : Answers (s.accessed k write v) := by
  unfold State.accessed
  split <;> exact answers_doneOr _ _

theorem answers_debugCommand (s : State) (cmd steps : Nat) : Answers (s.debugCommand cmd steps) := by
  unfold State.debugCommand
  split
  · exact answers_done _
  · exact answers_accessed _ _ _ _

theorem answers_windowStart (l : Fin 8) (e : Fin 256) (s : State) : Answers (execWindowStart l e s) := by
  unfold execWindowStart
  split
  · exact answers_doneOr _ _
  · exact answers_done _

theorem answers_windowEnd (l : Fin 8) (s : State) : Answers (execWindowEnd l s) := by
  unfold execWindowEnd
  split
  · exact answers_doneOr _ _
  · exact answers_done _

theorem exec_answers (c : Instr) (s : State) : Answers (exec c s) := by
  cases c
  case windowStart l e => exact answers_windowStart l e s
  case windowEnd l => exact answers_windowEnd l s
  case st | slowAccessDone | mbxReqHeadWrite | mbxRspTailWrite | debugRegWrite | debugMemAccess | pnlPumpToggle =>
    exact answers_doneOr _ _
  case debugHalt => exact answers_debugCommand s 1 0
  case debugResume => exact answers_debugCommand s 2 0
  case debugStep n => exact answers_debugCommand s 3 n.toNat
  case registerWrite | rcRead | sysRst | sysModeSet | prtLockSet | qeAllocreq | qeFreebuf | qeEnq | qeDeqreq | fioKick
      | redHbkick | claimDrop | claimRaise | lksInject | debugAttach | debugDetach | safPdataWrite | safTest | ageOpset
      | pnlWeardataRead =>
    exact answers_accessed _ _ _ _
  all_goals exact answers_done _

/-! ### Every command -/

theorem windowStart_next {s : State} {l : Fin 8} (h : s.slowOfLane l = none) (e : Fin 256) :
    ∃ t, execWindowStart l e s = .next t := by
  rw [execWindowStart, h]
  exact ⟨_, rfl⟩

theorem windowEnd_next {s : State} {l : Fin 8} (h : s.slowOfLane l = none) : ∃ t, execWindowEnd l s = .next t := by
  rw [execWindowEnd, h]
  exact ⟨_, rfl⟩

theorem injectKey_ne (p : Fin 4) : Reg.LKS_INJECT p ≠ Reg.LKS_DBGMEM := by
  revert p; decide

theorem mailboxKeys_ne (m : Fin 72) : Reg.MBX_REQ_HEAD m ≠ Reg.LKS_DBGMEM ∧ Reg.MBX_RSP_TAIL m ≠ Reg.LKS_DBGMEM := by
  revert m; decide

/-- A command completes where the registers that it writes itself keep their reserved fields, and no pending access has to
complete before. A command that writes no register ends in a next state by its definition: the last case. -/
theorem exec_next {c : Instr} {s : State} (hs : s.sys.slow = [] ∨ endsSlow c = false)
    (hv : ∀ w ∈ putsOf s c, s.keepsReserved w.1 w.2 = true) : ∃ t, exec c s = .next t := by
  have hz : endsSlow c = true → s.sys.slow = [] := fun h => hs.resolve_right (by simp [h])
  cases c
  case st l d base a t off => exact st_next s l d base a t off (hv _ (.head _))
  case windowStart l e => exact windowStart_next (slowOfLane_of_empty (hz rfl) l) e
  case windowEnd l => exact windowEnd_next (slowOfLane_of_empty (hz rfl) l)
  case slowAccessDone m =>
    exact doneOr_next _ (by rw [slowDone_of_none (slowOf_of_empty (hz rfl) m)]; rfl)
  case registerWrite reg v => exact registerWrite_next (hz rfl) reg v hv
  case rcRead reg => exact readAccess_next (hz rfl) (4 * reg.toNat)
  case pnlWeardataRead => exact readAccess_next (hz rfl) Reg.PNL_WEARDATA
  case sysRst w => exact wrote_next (hz rfl) (k := Reg.SYS_RST) (by decide) (hv _ (.head _))
  case sysModeSet w => exact wrote_next (hz rfl) (k := Reg.SYS_MODE_SET) (by decide) (hv _ (.head _))
  case fioKick w => exact wrote_next (hz rfl) (k := Reg.FIO_KICK) (by decide) (hv _ (.head _))
  case redHbkick w => exact wrote_next (hz rfl) (k := Reg.RED_HBKICK) (by decide) (hv _ (.head _))
  case lksInject p w => exact wrote_next (hz rfl) (k := Reg.LKS_INJECT p) (injectKey_ne p) (hv _ (.head _))
  case safTest w => exact wrote_next (hz rfl) (k := Reg.SAF_TEST) (by decide) (hv _ (.head _))
  case ageOpset w => exact wrote_next (hz rfl) (k := Reg.AGE_OPSET) (by decide) (hv _ (.head _))
  case prtLockSet => exact wrote_next (hz rfl) (by decide) (keepsReserved_of_bits s reservedMask_PRT_LOCK (by decide))
  case qeAllocreq kind p =>
    exact wrote_next (hz rfl) (by decide) (keepsReserved_of_mask s (allocWord_keeps kind p))
  case qeFreebuf h =>
    exact wrote_next (hz rfl) (by decide)
      (keepsReserved_of_bits s reservedMask_QE_FREEBUF (bits_setWidth_above h (by decide)))
  case qeEnq d =>
    exact wrote_next (hz rfl) (by decide) (keepsReserved_of_bits s reservedMask_QE_ENQ (bits_setWidth_above d (by decide)))
  case qeDeqreq q =>
    exact wrote_next (hz rfl) (by decide) (keepsReserved_of_bits s reservedMask_QE_DEQREQ (bits_wd_above q.isLt (by decide)))
  case claimDrop key | claimRaise key =>
    exact wrote_next (hz rfl) (by decide)
      (keepsReserved_of_bits s reservedMask_RED_CLAIMCTL (claimWord_bits key (by decide)))
  case safPdataWrite v =>
    exact wrote_next (hz rfl) (by decide) (keepsReserved_of_mask s (by rw [reservedMask_SAF_PDATA]; exact BitVec.and_zero))
  case mbxReqHeadWrite m writer h =>
    exact doneOr_next _ (mailboxWrite_isSome (hz rfl) (mailboxKeys_ne m).1
      (keepsReserved_of_bits s (reservedMask_MBX_REQ_HEAD m) (bits_setWidth_above h (by decide))) writer)
  case mbxRspTailWrite m writer t =>
    exact doneOr_next _ (mailboxWrite_isSome (hz rfl) (mailboxKeys_ne m).2
      (keepsReserved_of_bits s (reservedMask_MBX_RSP_TAIL m) (bits_setWidth_above t (by decide))) writer)
  case debugAttach l => exact wrote_next (hz rfl) (by decide) (keepsReserved_of_mask s (attachWord_keeps l))
  case debugDetach => exact wrote_next (hz rfl) (by decide) (keepsReserved_of_mask s BitVec.zero_and)
  case debugHalt => exact debugCommand_next (hz rfl) 1 0 hv
  case debugResume => exact debugCommand_next (hz rfl) 2 0 hv
  case debugStep n => exact debugCommand_next (hz rfl) 3 n.toNat hv
  case debugRegWrite r half v => exact debugRegWrite_next (hz rfl) r half v
  case debugMemAccess a value => exact debugMemAccess_next (hz rfl) a value hv
  case pnlPumpToggle => exact pumpToggle_next (hz rfl)
  all_goals exact ⟨_, rfl⟩

/-- Settles O59: every command ends in a next state, or in the answer of an optional state that only a write of a reserved
field leaves empty; the writes that a command makes of itself give such a field 0. -/
theorem onlyReservedFieldsStop : Obligations.OnlyReservedFieldsStop := by
  intro c s
  refine ⟨exec_next, ?_, ?_, exec_answers c s⟩
  · intro m a ha hk hv
    exact doneOr_next _ (slowDone_isSome ha hk hv)
  · intro l e a ha hv
    have hf := finishSlow_isSome ha hv
    constructor
    · simp only [exec, execWindowStart, ha]
      exact doneOr_next _ (by simpa using hf)
    · simp only [exec, execWindowEnd, ha]
      exact doneOr_next _ (by simpa using hf)

/-! ### What a register read returns and restarts (R10, R63) -/

theorem restartView_reg (s : State) (k : Nat) : (s.restartView k).reg k = s.reg k := by
  unfold State.restartView
  split
  · rfl
  split
  · rfl
  split
  · rfl
  split
  · rfl
  split
  · next hk =>
    subst hk
    exact State.reg_put_ne _ _ _ (by decide)
  · rfl

theorem restartView_sys (s : State) (k : Nat) : (s.restartView k).sys = s.sys := by
  unfold State.restartView
  repeat' split
  all_goals rfl

theorem restartView_mem (s : State) (k : Nat) : (s.restartView k).mem = s.mem := by
  unfold State.restartView
  repeat' split
  all_goals rfl

/-- The register of a read, its clear-on-read fields restarted, before what it shows elsewhere is. -/
def State.cleared (s : State) (k : Nat) (m : Word) : State :=
  { s.setReg k (s.reg k &&& ~~~m) with
    peaked := s.peaked.filter fun e => e.1 / 32 != k || !bit m (e.1 % 32)
    prt := { s.prt with pfHeld := s.prt.pfHeld && k != Reg.PRT_PFSTAT } }

theorem restart_eq (s : State) (r : RegInfo) (k : Nat) :
    s.restart r k = if accMask r.fields .rc = 0 then s else (s.cleared k (accMask r.fields .rc)).restartView k := rfl

theorem restart_reg (s : State) (r : RegInfo) (k : Nat) :
    (s.restart r k).reg k = s.reg k &&& ~~~(accMask r.fields .rc) := by
  rw [restart_eq]
  split
  · next h => rw [h, show ~~~(0 : Word) = BitVec.allOnes 32 from rfl, BitVec.and_allOnes]
  · rw [restartView_reg]
    exact s.reg_setReg_same k _

theorem restart_sys (s : State) (r : RegInfo) (k : Nat) : (s.restart r k).sys = s.sys := by
  rw [restart_eq]
  split
  · rfl
  · exact restartView_sys _ k

theorem restart_mem (s : State) (r : RegInfo) (k : Nat) : (s.restart r k).mem = s.mem := by
  rw [restart_eq]
  split
  · rfl
  · exact restartView_mem _ k

theorem readCore_of_info {s : State} {k : Nat} {r : RegInfo} (h : s.regInfo k = some r) (part master : Nat) :
    s.readCore k part master = (s.restart r k, s.regView k &&& ~~~(accMask r.fields .wo)) := by
  simp only [State.readCore, h]

theorem readReg_of_info {s : State} {k : Nat} {r : RegInfo} (h : s.regInfo k = some r) (hdata : k ≠ Reg.LKS_DBGDATA)
    (hmem : k ≠ Reg.LKS_DBGMEM) : s.readReg k = (s.restart r k, s.regView k &&& ~~~(accMask r.fields .wo)) := by
  rw [State.readReg, if_neg hdata, if_neg hmem, readCore_of_info h]

/-- A word returned to the management pair. -/
def State.returned (s : State) (w : Word) : State := { s with sys := { s.sys with rdata := w } }

theorem mgmtRead_of_fast {s : State} (h0 : s.slowOf 0 = none) {k : Nat} (hf : s.slowKey k = false) (v : Word) :
    s.mgmtAccess k false v = some ((s.readReg k).1.returned (s.readReg k).2) := by
  rw [mgmtAccess_of_none h0, hf]
  rfl

theorem wordIndex_mul {k : Nat} (hlt : k < 0x160000) (h4 : k % 4 = 0) : 4 * (BitVec.ofNat 19 (k / 4)).toNat = k := by
  simp only [BitVec.toNat_ofNat]
  omega

theorem rcRead_completes {s : State} {k : Nat} {r : RegInfo} (h0 : s.slowOf 0 = none) (hr : s.regInfo k = some r)
    (hslow : r.slow = false) (hlt : k < 0x160000) (h4 : k % 4 = 0) (hp : plainReg k = true) (hdata : k ≠ Reg.LKS_DBGDATA)
    (hmem : k ≠ Reg.LKS_DBGMEM) :
    Completes (exec (.rcRead (BitVec.ofNat 19 (k / 4))) s) fun u =>
      u.sys.rdata = s.regView k &&& ~~~(accMask r.fields .wo) ∧ u.reg k = s.reg k &&& ~~~(accMask r.fields .rc) ∧
      u.mem = s.mem := by
  have hf : s.slowKey k = false := by simp only [State.slowKey, hr, hslow]
  have hexec : exec (.rcRead (BitVec.ofNat 19 (k / 4))) s =
      (((s.restart r k).returned (s.regView k &&& ~~~(accMask r.fields .wo)))).done := by
    change s.accessed (4 * (BitVec.ofNat 19 (k / 4)).toNat) false 0 = _
    rw [wordIndex_mul hlt h4, accessed_of_none h0, mgmtRead_of_fast h0 hf, readReg_of_info hr hdata hmem]
    rfl
  refine ⟨_, hexec, ?_, ?_, ?_⟩
  · rw [settle_sys]
    rfl
  · rw [settle_reg _ _ hp]
    exact restart_reg s r k
  · rw [settle_mem]
    exact restart_mem s r k

/-! ### The end of a slow access (R68, R69) -/

theorem master_of_slowOf {s : State} {m : Nat} {a : SlowAcc} (h : s.slowOf m = some a) : a.master = m := by
  simpa using List.find?_some h

/-- The access that has left its slow domain hides nothing from a read. -/
theorem regView_dropSlow (s : State) (m k : Nat) : (s.dropSlow m).regView k = s.regView k := rfl

theorem slowRead_completes {s : State} {m : Fin 16} {a : SlowAcc} {r : RegInfo} (ha : s.slowOf m = some a)
    (hl : a.lane = none) (hw : a.write = false) (hr : s.regInfo a.key = some r) (hdata : a.key ≠ Reg.LKS_DBGDATA)
    (hmem : a.key ≠ Reg.LKS_DBGMEM) :
    Completes (exec (.slowAccessDone m) s) fun u =>
      u.sys.slow = s.sys.slow.filter (·.master != m.val) ∧
      u.sys.rdata = (if m = 0 then s.regView a.key &&& ~~~(accMask r.fields .wo) else s.sys.rdata) := by
  have hm := master_of_slowOf ha
  have hr' : (s.dropSlow m).regInfo a.key = some r := hr
  by_cases h0 : m = 0
  · have hm0 : ¬ a.master ≠ 0 := by simp [hm, h0]
    have hend : (s.dropSlow m).slowMgmt a = some (((s.dropSlow m).restart r a.key).returned
        (s.regView a.key &&& ~~~(accMask r.fields .wo))) := by
      rw [State.slowMgmt, if_neg hm0, hw, readReg_of_info hr' hdata hmem, regView_dropSlow]
      rfl
    refine ⟨_, by rw [exec_slowAccessDone, slowDone_of_mgmt ha hl, hend]; rfl, ?_, ?_⟩
    · rw [settle_sys]
      exact congrArg Sys.slow (restart_sys (s.dropSlow m) r a.key)
    · rw [settle_sys, if_pos h0]
      rfl
  · have hm0 : a.master ≠ 0 := by rw [hm]; exact fun h => h0 (Fin.ext h)
    have hend : (s.dropSlow m).slowMgmt a = some ((s.dropSlow m).restart r a.key) := by
      rw [State.slowMgmt, if_pos hm0, hw, readCore_of_info hr']
      rfl
    refine ⟨_, by rw [exec_slowAccessDone, slowDone_of_mgmt ha hl, hend]; rfl, ?_, ?_⟩
    · rw [settle_sys, restart_sys]
      rfl
    · rw [settle_sys, restart_sys, if_neg h0]
      rfl

theorem accErr_sys (s : State) (b kind off part : Nat) (write : Bool) (master : Nat) :
    (s.accErr b kind off part write master).sys = s.sys := by
  unfold State.accErr
  simp only
  split <;> rfl

/-- An access error of the far side's silence shows in the block's ACCERR (R69, R75). -/
theorem accErr_timeout_isSet (s : State) (b off part : Nat) (write : Bool) (master : Nat) :
    (s.accErr b accTimeout off part write master).isSet (Fld.BLK_ACCERR_timeout b) = true := by
  have hput : (s.putBit ⟨Reg.BLK_ACCERR b, 3, 0⟩ (accTimeout - 1) true).fld (Fld.BLK_ACCERR_timeout b) = 1 :=
    s.fld_put_same (Fld.BLK_ACCERR_timeout b) 1 (by decide : (2 : Nat) < 32)
  have hinfo : Reg.BLK_ACCERR b ≠ Reg.BLK_ACCINFO b := by simp only [Reg.BLK_ACCERR, Reg.BLK_ACCINFO]; omega
  unfold State.accErr
  simp only [State.isSet, beq_iff_eq]
  split
  · rw [State.fld_setReg_ne _ (Fld.BLK_ACCERR_timeout b) _ hinfo, hput]
  · rw [State.flag, State.fld_put_other _ (Fld.BLK_ACCERR_more b) (Fld.BLK_ACCERR_timeout b) _
      (.inl (by decide : (2 : Nat) < 3)) (by decide : (2 : Nat) < 32), hput]

theorem slowError_sys (s : State) (a : SlowAcc) : (s.slowError a).sys = s.sys := by
  unfold State.slowError
  simp only
  split <;> exact accErr_sys _ _ _ _ _ _ _

theorem slowError_isSet (s : State) (a : SlowAcc) :
    (s.slowError a).isSet (Fld.BLK_ACCERR_timeout (a.key / 65536)) = true := by
  have herr := accErr_timeout_isSet s (a.key / 65536) (a.key % 65536) a.part a.write a.master
  have hstat : (Fld.BLK_ACCERR_timeout (a.key / 65536)).key ≠ Fld.SYS_STAT_degraded.key := by
    simp only [Fld.BLK_ACCERR_timeout, Reg.BLK_ACCERR, Fld.SYS_STAT_degraded, Reg.SYS_STAT]
    omega
  unfold State.slowError
  simp only
  split
  · rw [State.isSet, State.mgmtError, State.degrade, State.flag, State.fld_put_ne _ _ _ _ hstat]
    exact herr
  · exact herr

theorem timeoutField_clear (b : Fin 22) : (Fld.BLK_ACCERR_timeout b).clear = true := by
  revert b; decide

theorem slowTimeout_completes {s : State} {m : Fin 16} {a : SlowAcc} (ha : s.slowOf m = some a) (hl : a.lane = none)
    (hw : a.write = false) :
    Completes (exec (.slowAccessTimeout m) s) fun u => u.sys.slow = s.sys.slow.filter (·.master != m.val) ∧
      u.sys.rdata = (if m = 0 then 0 else s.sys.rdata) ∧
      (a.key < 0x160000 → u.isSet (Fld.BLK_ACCERR_timeout (a.key / 65536)) = true) := by
  have hm := master_of_slowOf ha
  have hend : s.slowTimeout m =
      if m = 0 then ((s.dropSlow m).slowError a).returned 0 else (s.dropSlow m).slowError a := by
    have hcond : (a.write = true ∨ a.master ≠ 0) ↔ m ≠ 0 := by
      rw [hw, hm]
      simp only [Bool.false_eq_true, false_or]
      exact not_congr Fin.val_eq_zero_iff
    simp only [State.slowTimeout, ha, hl, hcond, ite_not]
    rfl
  have hsys := slowError_sys (s.dropSlow m) a
  refine ⟨_, rfl, ?_, ?_, fun hk => ?_⟩
  · rw [settle_sys, hend]
    split <;> exact congrArg Sys.slow hsys
  · rw [settle_sys, hend]
    split
    · rfl
    · exact (congrArg Sys.rdata hsys).trans rfl
  · rw [settle_isSet _ _ (timeoutField_clear ⟨a.key / 65536, by omega⟩), hend]
    split <;> exact slowError_isSet (s.dropSlow m) a

/-! ### The panel's slow registers (R545, R547) -/

/-- PNL_WEARDATA in the tables. -/
def pnlWeardataInfo : RegInfo :=
  ⟨"PNL_WEARDATA", 0x120804, [], [⟨31, 8, .rc, .imm, none⟩, ⟨7, 0, .rw, .frm, some (128, 255)⟩]⟩

theorem regInfoAt_pnlWeardata : regInfoAt Reg.PNL_WEARDATA = some pnlWeardataInfo := by decide

theorem pnlWeardataRead_completes {s : State} (h0 : s.slowOf 0 = none) :
    Completes (exec .pnlWeardataRead s) fun u =>
      u.sys.slow = s.sys.slow ++ [⟨0, 0, Reg.PNL_WEARDATA, false, 0, none, none⟩] ∧ u.pnl.acc = s.pnl.acc ∧
      u.sys.rdata = s.sys.rdata := by
  have hslow : s.slowKey Reg.PNL_WEARDATA = true :=
    (slowKey_of_block_ne s (by decide) regInfoAt_pnlWeardata).trans (by decide)
  have hexec : exec .pnlWeardataRead s = (s.addSlow Reg.PNL_WEARDATA false 0).done := by
    change s.accessed Reg.PNL_WEARDATA false 0 = _
    rw [accessed_of_none h0, mgmtAccess_of_slow h0 hslow]
    rfl
  refine ⟨_, hexec, ?_, ?_, ?_⟩
  · rw [settle_sys]
    rfl
  · rw [settle_pnl_acc]
    rfl
  · rw [settle_sys]
    rfl

/-- The addressed accumulator restarted, and the address moved on (R547). -/
def State.wearTaken (s : State) (px : Nat) : State :=
  ({ s with pnl := { s.pnl with acc := SMap.set 0 px 0 s.pnl.acc } }).put Fld.PNL_WEARADDR_pixel (px + 1)

theorem restart_pnlWeardata (s : State) :
    s.restart pnlWeardataInfo Reg.PNL_WEARDATA =
      (s.cleared Reg.PNL_WEARDATA (bitMask 31 8)).wearTaken (s.fld Fld.PNL_WEARADDR_pixel) := by
  have hm : accMask pnlWeardataInfo.fields .rc = bitMask 31 8 := by decide
  have hpx : (s.cleared Reg.PNL_WEARDATA (bitMask 31 8)).fld Fld.PNL_WEARADDR_pixel = s.fld Fld.PNL_WEARADDR_pixel :=
    s.fld_setReg_ne Fld.PNL_WEARADDR_pixel _ (by decide)
  rw [restart_eq, hm, if_neg (by decide), ← hpx]
  rfl

theorem wearDone_completes {s : State} (ha : s.slowOf 0 = some ⟨0, 0, Reg.PNL_WEARDATA, false, 0, none, none⟩) :
    let px := s.fld Fld.PNL_WEARADDR_pixel
    Completes (exec (.slowAccessDone 0) s) fun u =>
      u.sys.rdata = wd (s.wearFrames px * 256 + SMap.get 128 px s.pnl.gains) ∧ SMap.get 0 px u.pnl.acc = 0 ∧
      u.fld Fld.PNL_WEARADDR_pixel = (px + 1) % 2 ^ 14 := by
  intro px
  have hr : (s.dropSlow 0).regInfo Reg.PNL_WEARDATA = some pnlWeardataInfo :=
    (regInfo_of_block_ne _ (by decide)).trans regInfoAt_pnlWeardata
  have hwo : ~~~(accMask pnlWeardataInfo.fields .wo) = BitVec.allOnes 32 := by decide
  have hview : s.regView Reg.PNL_WEARDATA = wd (s.wearFrames px * 256 + SMap.get 128 px s.pnl.gains) := rfl
  have hread := readReg_of_info hr (by decide) (by decide)
  rw [restart_pnlWeardata, regView_dropSlow, hwo, BitVec.and_allOnes, hview] at hread
  have hend : s.slowDone 0 = some ((((s.dropSlow 0).cleared Reg.PNL_WEARDATA (bitMask 31 8)).wearTaken px).returned
      (wd (s.wearFrames px * 256 + SMap.get 128 px s.pnl.gains))) := by
    rw [slowDone_of_mgmt ha rfl]
    change some (((s.dropSlow 0).readReg Reg.PNL_WEARDATA).1.returned ((s.dropSlow 0).readReg Reg.PNL_WEARDATA).2) = _
    rw [hread]
    rfl
  refine ⟨_, by rw [exec_slowAccessDone]; exact congrArg (State.doneOr _) hend, ?_, ?_, ?_⟩
  · rw [settle_sys]
    rfl
  · rw [settle_pnl_acc]
    exact SMap.get_set_same 0 px 0 _
  · rw [settle_fld _ _ (by decide)]
    exact State.fld_put_same _ Fld.PNL_WEARADDR_pixel (px + 1) (by decide)

/-! ### PNL_DRIVE written -/

/-- PNL_DRIVE written with a word that it accepts: the pump at once, the other fields to their shadow (R71, R545). -/
def State.driveWrite (s : State) (w : Word) : State :=
  (s.pumpBit (bit w 16)).loadFields { pnlDriveInfo with fields := pnlDriveInfo.fields.filter (·.app == .frm) }
    Reg.PNL_DRIVE w

theorem pnlDrive_accepts (s : State) {w : Word} (hres : bits w 31 18 = 0) (hvpp : bits w 15 8 ≤ 80) :
    s.Accepts Reg.PNL_DRIVE w pnlDriveInfo where
  info := (regInfo_of_block_ne s (by decide)).trans regInfoAt_pnlDrive
  free := lockedOut_of_free s (by decide)
  writable := by decide
  kept := reservedWrite_eq_false_of_mask regInfoAt_pnlDrive
    (by rw [reservedMask_PNL_DRIVE]; exact and_bitMask_eq_zero hres)
  inRange := by simp [RegInfo.inRange, pnlDriveInfo, hvpp]
  stateRange := rfl

theorem writeReg_pnlDrive (s : State) {w : Word} (hres : bits w 31 18 = 0) (hvpp : bits w 15 8 ≤ 80) :
    s.writeReg Reg.PNL_DRIVE w = some (s.driveWrite w) := by
  rw [writeReg_of_plain s (by decide), writeCore_of_accepts (pnlDrive_accepts s hres hvpp), if_pos rfl]
  rfl

theorem driveWrite_regs (s : State) (w : Word) : (s.driveWrite w).regs = (s.pumpBit (bit w 16)).regs := rfl
theorem driveWrite_pnl (s : State) (w : Word) : (s.driveWrite w).pnl = (s.pumpBit (bit w 16)).pnl := rfl
theorem driveWrite_sys (s : State) (w : Word) : (s.driveWrite w).sys = (s.pumpBit (bit w 16)).sys := rfl

theorem pumpBit_slow (s : State) (on : Bool) : (s.pumpBit on).sys.slow = s.sys.slow := by
  unfold State.pumpBit
  simp only
  repeat' split
  all_goals rfl

theorem driveWrite_slow (s : State) (w : Word) : (s.driveWrite w).sys.slow = s.sys.slow := by
  rw [driveWrite_sys, pumpBit_slow]

theorem pumpBit_isSet (s : State) (on : Bool) : (s.pumpBit on).isSet Fld.PNL_DRIVE_pump = on := by
  have hset := s.isSet_flag_same Fld.PNL_DRIVE_pump on (by decide) rfl
  have hput : ∀ v, ((s.flag Fld.PNL_DRIVE_pump on).put Fld.PNL_STAT_state v).isSet Fld.PNL_DRIVE_pump = on := fun v => by
    rw [State.isSet, State.fld_put_ne _ _ _ _ (by decide)]
    exact hset
  unfold State.pumpBit
  simp only
  split
  · exact hset
  split
  · exact hput 1
  split
  · exact hput 0
  · exact hset

/-- The pump switched on while it was off, and not in hold-up, ramps and is no longer barred (R545). -/
theorem pumpBit_ramps {s : State} (hoff : s.isSet Fld.PNL_DRIVE_pump = false) (hup : s.sys.holdup = false) :
    (s.pumpBit true).fld Fld.PNL_STAT_state = 1 ∧ (s.pumpBit true).pnl.barred = false := by
  have hpump : s.pumpBit true =
      { ((s.flag Fld.PNL_DRIVE_pump true).put Fld.PNL_STAT_state 1).clearAlert 545 0 with
        pnl := { s.pnl with barred := false, rampAt := some s.clk } } := by
    simp [State.pumpBit, hoff, hup]
  rw [hpump]
  exact ⟨State.fld_put_same (s.flag Fld.PNL_DRIVE_pump true) Fld.PNL_STAT_state 1 (by decide), rfl⟩

theorem driveWrite_isSet (s : State) (w : Word) : (s.driveWrite w).isSet Fld.PNL_DRIVE_pump = bit w 16 := by
  rw [State.isSet, State.fld_congr (driveWrite_regs s w)]
  exact pumpBit_isSet s _

theorem pumpWord_vpp (s : State) (on : Bool) :
    bits (s.pumpWord on) 15 8 = bits ((s.shadowOf Reg.PNL_DRIVE .frm).getD (s.reg Reg.PNL_DRIVE)) 15 8 := by
  rw [State.pumpWord, bits_setBits_other _ _ _ _ _ _ (.inl (by decide)) (by decide),
    bits_setBits_other _ _ _ _ _ _ (.inl (by decide)) (by decide)]

theorem pumpWord_pump (s : State) (on : Bool) : bit (s.pumpWord on) 16 = on := by
  rw [bit, State.pumpWord, getLsbD_setBits _ _ _ _ _ (by decide)]
  cases on <;> rfl

/-- The pump is off, its first write done, and the second waits (R68, R545). -/
theorem pumpToggle_exec {s : State} (h0 : s.slowOf 0 = none)
    (hvpp : bits ((s.shadowOf Reg.PNL_DRIVE .frm).getD (s.reg Reg.PNL_DRIVE)) 15 8 ≤ 80) :
    execPnlPumpToggle s =
      ((s.driveWrite (s.pumpWord false)).addSlow Reg.PNL_DRIVE true (s.pumpWord true)).done := by
  have hoff : (s.addSlow Reg.PNL_DRIVE true (s.pumpWord false)).slowDone 0 = some (s.driveWrite (s.pumpWord false)) := by
    rw [slowDone_of_mgmt (slowOf_addSlow h0 Reg.PNL_DRIVE true (s.pumpWord false)) rfl, dropSlow_addSlow h0,
      slowMgmt_write]
    exact writeReg_pnlDrive s (pumpWord_reserved s false) (by rw [pumpWord_vpp]; exact hvpp)
  rw [execPnlPumpToggle_eq, mgmtAccess_of_slow h0 (slowKey_pnlDrive s), Option.bind_some, State.mgmtAccess, hoff,
    Option.bind_some, slowKey_pnlDrive, if_pos rfl]
  rfl

theorem pumpToggle_completes {s : State} (h0 : s.slowOf 0 = none)
    (hvpp : bits ((s.shadowOf Reg.PNL_DRIVE .frm).getD (s.reg Reg.PNL_DRIVE)) 15 8 ≤ 80) :
    Completes (exec .pnlPumpToggle s) fun u =>
      u.isSet Fld.PNL_DRIVE_pump = false ∧ ∃ w, bit w 16 = true ∧
        bits w 15 8 = bits ((s.shadowOf Reg.PNL_DRIVE .frm).getD (s.reg Reg.PNL_DRIVE)) 15 8 ∧
        u.sys.slow = s.sys.slow ++ [⟨0, 0, Reg.PNL_DRIVE, true, w, none, none⟩] := by
  refine ⟨_, pumpToggle_exec h0 hvpp, ?_, s.pumpWord true, pumpWord_pump s true, pumpWord_vpp s true, ?_⟩
  · rw [settle_isSet _ _ (by decide), addSlow_isSet, driveWrite_isSet, pumpWord_pump]
  · rw [settle_sys, addSlow_slow, driveWrite_slow]

theorem driveDone_completes {s : State} {w : Word}
    (ha : s.slowOf 0 = some ⟨0, 0, Reg.PNL_DRIVE, true, w, none, none⟩) (hres : bits w 31 18 = 0)
    (hvpp : bits w 15 8 ≤ 80) (hon : bit w 16 = true) :
    Completes (exec (.slowAccessDone 0) s) fun u => u.isSet Fld.PNL_DRIVE_pump = true ∧
      (s.isSet Fld.PNL_DRIVE_pump = false → s.sys.holdup = false →
        u.fld Fld.PNL_STAT_state = 1 ∧ u.pnl.barred = false) := by
  have hend : s.slowDone 0 = some ((s.dropSlow 0).driveWrite w) := by
    rw [slowDone_of_mgmt ha rfl, slowMgmt_write]
    exact writeReg_pnlDrive (s.dropSlow 0) hres hvpp
  refine ⟨_, by rw [exec_slowAccessDone]; exact congrArg (State.doneOr _) hend, ?_, fun hoff hup => ?_⟩
  · rw [settle_isSet _ _ (by decide), driveWrite_isSet, hon]
  · have hramp := pumpBit_ramps (s := s.dropSlow 0) hoff hup
    rw [settle_fld _ _ (by decide), settle_pnl_barred, driveWrite_pnl, State.fld_congr (driveWrite_regs _ w), hon]
    exact hramp

/-- Settles O16, a lemma for each of its clauses. -/
theorem registerReadsClearWhatTheyReturn : Obligations.RegisterReadsClearWhatTheyReturn := by
  intro s k r m a
  refine ⟨rcRead_completes, ?_, slowTimeout_completes, pnlWeardataRead_completes, wearDone_completes,
    pumpToggle_completes, fun w => driveDone_completes⟩
  intro ha hl hw hr _ hdata hmem
  exact slowRead_completes ha hl hw hr hdata hmem
end Sys2Proof.Machine

namespace Sys2Proof.Machine

/-! ### Time that passes (R23, R372) -/

/-- The counters aside, time that passes at them changes nothing. -/
theorem pfcTime_keeps {β : Type} (p : State → β) (hp : ∀ (s : State) x, p { s with pfc := x } = p s) (s : State) (n : Nat) :
    p (s.pfcTime n) = p s := by
  unfold State.pfcTime
  split
  · rfl
  · refine foldl_keeps p _ (fun s e => ?_) _ s
    exact (apply_ite p _ _ _).trans ((congrArg _ (hp s _)).trans (ite_self _))

/-- A part of the state that no register touches, as time passes at the lanes. -/
theorem laneTime_keeps {β : Type} (p : State → β) (h : ∀ (s : State) f v, p (s.put f v) = p s) (s : State) (n : Nat) :
    p (s.laneTime n) = p s := by
  have hb : ∀ (s : State) f n, p (s.bumpBy f n) = p s := fun s f n => h s f _
  refine foldl_keeps p _ (fun s e => ?_) _ s
  cases e.2.act with
  | none => rfl
  | some a =>
    simp only
    split_ifs <;> simp only [hb]

theorem advance_clk (s : State) (n : Nat) : (s.advance n).clk = s.clk + n := by
  simp only [State.advance, laneTime_keeps (·.clk) (fun _ _ _ => rfl), pfcTime_keeps (·.clk) (fun _ _ => rfl)]

theorem advance_pending (s : State) (n : Nat) : (s.advance n).pending = s.pending := by
  simp only [State.advance, laneTime_keeps (·.pending) (fun _ _ _ => rfl), pfcTime_keeps (·.pending) (fun _ _ => rfl)]

/-! ### The front of the queue (log entry 1) -/

theorem step_of_empty {s : State} (h : s.pending = []) : step s = (s.advance 1).done := by
  simp only [step, h]

theorem step_of_cons {s : State} {c : Instr} {rest : List Instr} (h : s.pending = c :: rest) :
    step s = exec c { s with pending := rest } := by
  simp only [step, h]

/-- Settles O1: `step` looks at nothing but the front of the queue. -/
theorem stepRunsTheFrontCommand : Obligations.StepRunsTheFrontCommand := by
  intro s c rest
  refine ⟨step_of_cons, fun h => ⟨_, step_of_empty h, ?_, ?_⟩⟩
  · rw [settle_clk, advance_clk]
  · rw [settle_pending, advance_pending, h]

/-! ### A tick in which a synchroniser closes (R33, R338, R356, R357) -/

/-- A module in COMMISSION, its block code not started, in which angle domain 0, LOCKED, turns and stands one count short of the
angle of action slot 4 094, the slot of synchroniser channel 0. The channel is armed, and its triples show a good 50 Hz, so that
nothing bars its close. The slot's record is in force: domain 0, enabled, of kind 5, in either direction, repeating. -/
def armedSync : State :=
  let s := ((State.reset.put Fld.SYS_MODE_mode mCommission).setReg Reg.RED_CLAIM 1).put (Fld.PH_SYNCSTAT_state 0) 1
  { s with
    sys := { s.sys with tick := 1, started := false }
    cfg := [(recKey 0x07 0, [9, 0, 0, 0, 0, 0]), (recKey 0x07 (0x1000 + 4094), [1, 0xD58, 0])]
    pts := (upFrom 0 40).map fun p => (s.phPoint 0 p, { val := if p = 4 then 50000000 else 0, q := 0 })
    ad := { s.ad with doms := [(0, { state := dsLocked, inc := 2 ^ 20 })] } }

/-- TICK_250US up to the firing of source 1. -/
def State.tickFired (s : State) : State :=
  let s1 := s.advance (s.sys.tc0 + s.sys.tick * 62500 - s.clk)
  (({ s1 with sys := { s1.sys with tick := s.sys.tick + 1 } }.tickLoad.runDomains.agePhasors).ageField).fire 1

theorem tick250_eq (s : State) :
    s.tick250 = s.tickFired.periodicTasks (s.sys.tick % (s.fld Fld.SYS_TCYC_len + 1)) := rfl

/-- Where tasks take no triggers, source 1 triggers none. -/
theorem periodicTasks_of_untriggered {s : State} (h : s.tasksTrigger = false) (i : Nat) : s.periodicTasks i = s := by
  simp [State.periodicTasks, h]

theorem armedSync_tasksTrigger : armedSync.tickFired.tasksTrigger = false := by decide +kernel

/-- The domain passes the slot's angle within the tick, and the close disarms the slot: its record changes (R338, R362). -/
theorem armedSync_tickFired_cfg : armedSync.tickFired.cfg ≠ armedSync.cfg := by decide +kernel

theorem armedSync_tick_cfg : armedSync.tick250.cfg ≠ armedSync.cfg := by
  rw [tick250_eq, periodicTasks_of_untriggered armedSync_tasksTrigger]
  exact armedSync_tickFired_cfg

theorem exec_tick250us (s : State) : exec .tick250us s = .next s.tick250.settle := rfl

/-- Refutes O36: TICK_250US need not leave the configuration in force, for a synchroniser that closes in it disarms its action
slot, which is a record of that configuration. -/
theorem not_tradeCycleAndPlans : ¬ Obligations.TradeCycleAndPlans := by
  intro h
  obtain ⟨-, htick, -⟩ := h armedSync
  obtain ⟨u, hu, -, -, -, hcfg⟩ := htick rfl
  obtain rfl := Host.Outcome.next.inj ((exec_tick250us armedSync).symm.trans hu)
  exact armedSync_tick_cfg ((settle_cfg _).symm.trans hcfg)

end Sys2Proof.Machine

namespace Sys2Proof.Machine

theorem pfcTime_none (s : State) (h : s.pfc = []) (n : Nat) : s.pfcTime n = s := by simp [State.pfcTime, h]

theorem laneTime_none (s : State) (h : s.prt.lanes = []) (n : Nat) : s.laneTime n = s := by simp [State.laneTime, h]

/-- Where no counter is enabled and no lane has anything, time passes at the clock and at station time alone. -/
theorem advance_keeps {β : Type} (p : State → β)
    (h : ∀ (s : State) c f t, p { s with clk := c, timeFrac := f, time := t } = p s) {s : State} (hp : s.pfc = [])
    (hl : s.prt.lanes = []) (n : Nat) : p (s.advance n) = p s := by
  simp only [State.advance, pfcTime_none s hp, laneTime_none s hl]
  exact h s _ _ _

theorem clkUntil_keeps {β : Type} (p : State → β)
    (h : ∀ (s : State) c f t, p { s with clk := c, timeFrac := f, time := t } = p s) {s : State} (hp : s.pfc = [])
    (hl : s.prt.lanes = []) (c : Nat) : p (s.clkUntil c) = p s := by
  unfold State.clkUntil
  split
  · rfl
  · exact advance_keeps p h hp hl _

theorem clkUntil_clk (s : State) (c : Nat) : (s.clkUntil c).clk = max s.clk c := by
  unfold State.clkUntil
  split
  · next h => rw [max_eq_left h]
  · rw [advance_clk]; omega

/-! ### What a command leaves alone -/

/-- What `Kept` compares with no register excepted. -/
def State.face (s : State) :=
  (s.regs, s.mem, s.cfg, s.pts, s.outs, s.pending)

theorem Kept.congr {s t u : State} {keys : List Nat} (h : Kept s t keys) (hf : u.face = t.face) : Kept s u keys := by
  simp only [State.face, Prod.mk.injEq] at hf
  obtain ⟨hregs, hmem, hcfg, hpts, houts, hpending⟩ := hf
  exact ⟨fun k hp hk => (State.reg_congr hregs k).trans (h.regs k hp hk), hmem.trans h.mem, hcfg.trans h.cfg,
    ⟨hpts.trans h.images.1, houts.trans h.images.2⟩, hpending.trans h.pending⟩

theorem Kept.of_face {s t : State} (h : t.face = s.face) : Kept s t [] :=
  Kept.congr ⟨fun _ _ _ => rfl, rfl, rfl, ⟨rfl, rfl⟩, rfl⟩ h

theorem Kept.settle {s t : State} {keys : List Nat} (h : Kept s t keys) : Kept s t.settle keys where
  regs k hp hk := (settle_reg t k hp).trans (h.regs k hp hk)
  mem := (settle_mem t).trans h.mem
  cfg := (settle_cfg t).trans h.cfg
  images := ⟨(settle_pts t).trans h.images.1, (settle_outs t).trans h.images.2⟩
  pending := (settle_pending t).trans h.pending

theorem settle_mode (s : State) : s.settle.mode = s.mode := settle_fld s _ (by decide)

theorem settle_cage (s : State) (n : Nat) : s.settle.cage n = s.cage n := by rw [State.cage, settle_sfp]; rfl

/-! ### Alerts -/

/-- An alert raised or cleared, as a command finds it. -/
def State.setAlert (s : State) (r o : Nat) (b : Bool) : State := if b then s.raiseAlert r o else s.clearAlert r o

theorem setAlert_contains (s : State) (r o : Nat) (b : Bool) :
    (s.setAlert r o b).sys.alerts.contains (alertId r o) = b := by
  cases b with
  | false => simp [State.setAlert, State.clearAlert]
  | true =>
    simp only [State.setAlert, if_true, State.raiseAlert]
    split
    · assumption
    · simp

theorem setAlert_keeps {β : Type} (p : State → β) (h : ∀ (s : State) y, p { s with sys := y } = p s) (s : State) (r o : Nat)
    (b : Bool) : p (s.setAlert r o b) = p s := by
  cases b with
  | false => exact h s _
  | true =>
    simp only [State.setAlert, if_true, State.raiseAlert]
    split
    · rfl
    · exact h s _

/-! ### Optical modules (R598) -/

theorem cage_setCage (s : State) (n k : Nat) (x : Sfp) : (s.setCage n x).cage k = if k = n then x else s.cage k :=
  SMap.get_set _ _ _ _ _

theorem isSet_flag_ne (s : State) {f g : Fld} (b : Bool) (h : g.key ≠ f.key) : (s.flag f b).isSet g = s.isSet g := by
  simp only [State.isSet, State.flag, State.fld_put_ne _ _ _ _ h]

/-- A bit of a register given a truth value. -/
theorem bit_flag (s : State) (k n : Nat) (b : Bool) (hn : n < 32) : bit ((s.flag ⟨k, n, n⟩ b).reg k) n = b := by
  simp only [State.flag, State.reg_put, if_true, bit, getLsbD_setBits _ _ _ _ _ hn]
  cases b <;> simp

/-- What SFP_INSERT reads of a module that declares `id`. -/
def State.sfpRead (s : State) (id : SfpIdent) (diag : List Word) : Sfp :=
  { present := true, tx := decide (id.power ≤ 1000) && s.sfpAllowed id.type, diag := diag, readAt := s.clk }

/-- A module read and shown, before what it declares is judged. -/
def State.sfpIn (s : State) (n : Nat) (id : SfpIdent) (diag : List Word) : State :=
  (s.setCage n (s.sfpRead id diag)).showCage n

/-- A module that gets no transmitter is recorded, and nothing else follows from it. -/
theorem sfpInsert_keeps {β : Type} (p : State → β)
    (h : ∀ (s : State) c r o b a m d, p (s.record c r o b a m d) = p s) (s : State) (n : Nat) (id : SfpIdent)
    (diag : List Word) : p (s.sfpInsert n id diag) = p (s.sfpIn n id diag) := by
  unfold State.sfpInsert
  simp only
  split
  · rfl
  · exact h _ _ _ _ _ _ _ _

theorem sfpIn_cage (s : State) (n k : Nat) (id : SfpIdent) (diag : List Word) :
    (s.sfpIn n id diag).cage k = if k = n then s.sfpRead id diag else s.cage k :=
  cage_setCage s n k _

theorem sfpIn_pstat (s : State) {n : Nat} (id : SfpIdent) (diag : List Word) (hn : n < 2) :
    (s.sfpIn n id diag).isSet (Fld.ETH_PSTAT_sfp (4 + n)) = true := by
  have hkey : (Fld.ETH_PSTAT_sfp (4 + n)).key ≠ Reg.RED_LINK := by
    simp only [Fld.ETH_PSTAT_sfp, Reg.ETH_PSTAT, Reg.RED_LINK]; omega
  rw [State.sfpIn, State.showCage, isSet_flag_ne _ _ hkey, State.isSet_flag_same _ _ _ (by simp [Fld.ETH_PSTAT_sfp]) rfl,
    cage_setCage, if_pos rfl]
  rfl

theorem sfpIn_link (s : State) {n : Nat} (id : SfpIdent) (diag : List Word) (hn : n < 2) :
    bit ((s.sfpIn n id diag).reg Reg.RED_LINK) (2 + n) = true := by
  rw [State.sfpIn, State.showCage, bit_flag _ _ _ _ (by omega), cage_setCage, if_pos rfl]
  rfl

theorem sfpIn_kept (s : State) (n : Nat) (id : SfpIdent) (diag : List Word) :
    Kept s (s.sfpIn n id diag) [Reg.ETH_PSTAT (4 + n), Reg.RED_LINK] := by
  refine ⟨fun k _ hk => ?_, rfl, rfl, ⟨rfl, rfl⟩, rfl⟩
  simp only [List.mem_cons, List.not_mem_nil, or_false, not_or] at hk
  obtain ⟨hpstat, hlink⟩ := hk
  rw [State.sfpIn, State.showCage, State.reg_flag_ne _ _ _ hlink, State.reg_flag_ne _ _ _ hpstat]
  rfl

theorem sfpInsert_completes (s : State) (n : Fin 2) (id : SfpIdent) (diag : List Word) :
    Completes (exec (.sfpInsert n id diag) s) fun u =>
      u.cage n = s.sfpRead id diag ∧
      u.isSet (Fld.ETH_PSTAT_sfp (4 + n)) = true ∧ bit (u.reg Reg.RED_LINK) (2 + n) = true ∧
      (∀ k, k ≠ n.val → u.cage k = s.cage k) ∧ Kept s u [Reg.ETH_PSTAT (4 + n), Reg.RED_LINK] := by
  have hregs : (s.sfpInsert n id diag).regs = (s.sfpIn n id diag).regs :=
    sfpInsert_keeps (·.regs) (fun _ _ _ _ _ _ _ _ => rfl) s n id diag
  have hcage : ∀ k, (s.sfpInsert n id diag).settle.cage k = if k = n.val then s.sfpRead id diag else s.cage k := fun k => by
    rw [settle_cage, ← sfpIn_cage]
    exact sfpInsert_keeps (·.cage k) (fun _ _ _ _ _ _ _ _ => rfl) s n id diag
  have hclear : (Fld.ETH_PSTAT_sfp (4 + n)).clear = true := by clear hregs hcage; revert n; decide
  refine ⟨(s.sfpInsert n id diag).settle, rfl, (hcage n).trans (if_pos rfl), ?_, ?_, fun k hk => (hcage k).trans (if_neg hk), ?_⟩
  · rw [settle_isSet _ _ hclear, State.isSet, State.fld_congr hregs]
    exact sfpIn_pstat s id diag n.isLt
  · rw [settle_reg _ _ (by decide), State.reg_congr hregs]
    exact sfpIn_link s id diag n.isLt
  · exact ((sfpIn_kept s n id diag).congr (sfpInsert_keeps State.face (fun _ _ _ _ _ _ _ _ => rfl) s n id diag)).settle

/-- The diagnostics `diag` of the module in cage `n`, read in the present clock. -/
def State.sfpReadDiag (s : State) (n : Nat) (diag : List Word) : State :=
  s.setCage n { s.cage n with diag := diag, readAt := s.clk }

theorem sfpReadDiag_cage (s : State) (n : Nat) (diag : List Word) :
    (s.sfpReadDiag n diag).cage n = { s.cage n with diag := diag, readAt := s.clk } :=
  (cage_setCage s n n _).trans (if_pos rfl)

theorem sfpPoll_of_present {s q : State} {n : Nat} (h : (s.cage n).present = true)
    (hq : s.clkUntil ((s.cage n).readAt + 250000000) = q) (hcage : q.cage n = s.cage n) (diag : List Word) (b : Bool) :
    s.sfpPoll n diag b = (q.sfpReadDiag n diag).setAlert 598 n b := by
  simp only [State.sfpPoll, h, if_true, State.setAlert, hq, State.sfpReadDiag, hcage]

theorem sfpPoll_of_absent {s : State} {n : Nat} (h : (s.cage n).present = false) (diag : List Word) (b : Bool) :
    s.sfpPoll n diag b = s := by
  simp [State.sfpPoll, h]

theorem sfpDiagPoll_completes {s : State} {n : Fin 2} (h : (s.cage n).present = true) (hp : s.pfc = [])
    (hl : s.prt.lanes = []) (diag : List Word) (b : Bool) : Completes (exec (.sfpDiagPoll n diag b) s) fun u =>
      u.cage n = { s.cage n with diag := diag, readAt := u.clk } ∧ u.clk = max s.clk ((s.cage n).readAt + 250000000) ∧
      u.sys.alerts.contains (alertId 598 n) = b ∧ Kept s u [] := by
  obtain ⟨q, hq⟩ : ∃ q, s.clkUntil ((s.cage n).readAt + 250000000) = q := ⟨_, rfl⟩
  have hclk : q.clk = max s.clk ((s.cage n).readAt + 250000000) := by rw [← hq, clkUntil_clk]
  have hcage : q.cage n = s.cage n := by
    rw [← hq]; exact clkUntil_keeps (·.cage n) (fun _ _ _ _ => rfl) hp hl _
  have hface : q.face = s.face := by
    rw [← hq]; exact clkUntil_keeps State.face (fun _ _ _ _ => rfl) hp hl _
  refine ⟨(s.sfpPoll n diag b).settle, rfl, ?_⟩
  rw [sfpPoll_of_present h hq hcage]
  refine ⟨?_, ?_, ?_, (Kept.of_face ?_).settle⟩
  · rw [settle_cage, settle_clk, setAlert_keeps (·.cage n) (fun _ _ => rfl), setAlert_keeps (·.clk) (fun _ _ => rfl),
      sfpReadDiag_cage, hcage]
    rfl
  · rw [settle_clk, setAlert_keeps (·.clk) (fun _ _ => rfl), ← hclk]
    rfl
  · rw [settle_sys, setAlert_contains]
  · rw [setAlert_keeps State.face (fun _ _ => rfl), ← hface]
    rfl

/-! ### Lines and the oscillator (R53, R593) -/

theorem witnessLine_completes (s : State) : Completes (exec .witnessLineDisagree s) fun u =>
    u.evr.inbox.length = s.evr.inbox.length + (if s.sys.pins.pair && !s.fibre then 1 else 0) ∧ u.red = s.red ∧
      u.mode = s.mode ∧ Kept s u [] := by
  have hkeeps : ∀ {β : Type} (p : State → β), (∀ (s : State) x, p { s with evr := x } = p s) → p s.lineDisagrees = p s := by
    intro β p h
    unfold State.lineDisagrees
    split
    · exact h s _
    · rfl
  refine ⟨s.lineDisagrees.settle, rfl, ?_, ?_, ?_, (Kept.of_face (hkeeps _ fun _ _ => rfl)).settle⟩
  · rw [settle_evr, State.lineDisagrees]
    split <;> simp [State.note, State.record]
  · rw [settle_red, hkeeps (·.red) fun _ _ => rfl]
  · rw [settle_mode, hkeeps State.mode fun _ _ => rfl]

theorem oscillatorWarm_completes (s : State) : Completes (exec .oscillatorWarm s) fun u =>
    u.isSet Fld.SYS_STAT_osc_warm = true ∧ u.sys = s.sys ∧ Kept s u [] := by
  refine ⟨s.oscillatorWarm.settle, rfl, ?_, settle_sys _, Kept.settle ⟨fun k hk _ => ?_, rfl, rfl, ⟨rfl, rfl⟩, rfl⟩⟩
  · rw [settle_isSet _ _ (by decide)]
    exact State.isSet_flag_same _ _ _ (by decide) rfl
  · refine State.reg_flag_ne _ _ _ ?_
    rintro rfl
    exact absurd hk (by decide)

theorem partnerPresence_completes (s : State) (b : Bool) : Completes (exec (.partnerPresenceChange b) s) fun u =>
    u.sys.pins.partnerIn = b ∧ u.isSet Fld.SYS_SLOT_partner_in = b ∧ u.mode = s.mode ∧ Kept s u [Reg.SYS_SLOT] := by
  refine ⟨(s.partnerPresence b).settle, rfl, ?_, ?_, ?_, Kept.settle ⟨fun k _ hk => ?_, rfl, rfl, ⟨rfl, rfl⟩, rfl⟩⟩
  · rw [settle_sys]; rfl
  · rw [settle_isSet _ _ (by decide)]
    exact State.isSet_flag_same _ _ _ (by decide) rfl
  · rw [settle_mode]
    exact State.fld_put_ne _ _ _ _ (by decide)
  · refine State.reg_flag_ne _ _ _ ?_
    rintro rfl
    exact hk (.head _)

end Sys2Proof.Machine

namespace Sys2Proof.Machine

/-! ### Folds over a range -/

/-- A fold whose every item relates the state before it to the state after it relates its ends. -/
theorem foldl_relates {α : Type} {R : State → State → Prop} (hrefl : ∀ s, R s s)
    (htrans : ∀ {s t u}, R s t → R t u → R s u) {f : State → α → State} {xs : List α} (h : ∀ s, ∀ x ∈ xs, R s (f s x))
    (s : State) : R s (xs.foldl f s) := by
  induction xs generalizing s with
  | nil => exact hrefl s
  | cons x xs ih =>
    exact htrans (h s x (.head _)) (ih (fun s y hy => h s y (.tail _ hy)) _)

/-! ### Memory alone -/

theorem setBytes_keeps {β : Type} (p : State → β) (h : ∀ (s : State) m, p { s with mem := m } = p s) (bs : List Byte)
    (s : State) (a : Nat) : p (s.setBytes a bs) = p s := by
  induction bs generalizing s a with
  | nil => rfl
  | cons b bs ih => exact (ih _ _).trans (h s _)

theorem setWord_keeps {β : Type} (p : State → β) (h : ∀ (s : State) m, p { s with mem := m } = p s) (s : State) (a : Nat)
    (v : Word) : p (s.setWord a v) = p s := setBytes_keeps p h _ s a

theorem setWords_keeps {β : Type} (p : State → β) (h : ∀ (s : State) m, p { s with mem := m } = p s) (ws : List Word)
    (s : State) (a : Nat) : p (s.setWords a ws) = p s := by
  induction ws generalizing s a with
  | nil => rfl
  | cons w ws ih => exact (ih _ _).trans (setWord_keeps p h s a w)

/-! ### Slots of response rings (R79, R89, R93) -/

/-- What mailboxes do not touch. -/
def State.offMail (s : State) :=
  (s.time, s.sys, s.nv, s.prt, s.ce, s.qe, s.red.lost, s.red.peerMode, s.red.crossing, s.red.veer, s.red.abandoned)

/-- Between `s` and `t` no register but those of MBX has changed, no request has been taken or answered, and nothing else of
what mailboxes do not touch. -/
structure MailOnly (s t : State) : Prop where
  regs : ∀ k, k / 65536 ≠ 2 → t.reg k = s.reg k
  lines : ∀ m, (t.mbox m).line = (s.mbox m).line
  rest : t.offMail = s.offMail

theorem MailOnly.refl (s : State) : MailOnly s s := ⟨fun _ _ => rfl, fun _ => rfl, rfl⟩

theorem MailOnly.trans {s t u : State} (h : MailOnly s t) (g : MailOnly t u) : MailOnly s u :=
  ⟨fun k hk => (g.regs k hk).trans (h.regs k hk), fun m => (g.lines m).trans (h.lines m), g.rest.trans h.rest⟩

theorem MailOnly.put (s : State) {f : Fld} (v : Nat) (h : f.key / 65536 = 2) : MailOnly s (s.put f v) :=
  ⟨fun _ hk => s.reg_put_ne f v fun hkf => hk (hkf ▸ h), fun _ => rfl, rfl⟩

theorem mbox_setMbox (s : State) (m j : Nat) (x : Mbox) : (s.setMbox m x).mbox j = if j = m then x else s.mbox j :=
  SMap.get_set _ _ _ _ _

theorem MailOnly.setMbox (s : State) {m : Nat} {x : Mbox} (h : x.line = (s.mbox m).line) : MailOnly s (s.setMbox m x) := by
  refine ⟨fun _ _ => rfl, fun j => ?_, rfl⟩
  rw [mbox_setMbox]
  split
  · next hj => rw [h, hj]
  · rfl

theorem MailOnly.setWords (s : State) (a : Nat) (ws : List Word) : MailOnly s (s.setWords a ws) :=
  ⟨fun k _ => setWords_keeps (·.reg k) (fun _ _ => rfl) ws s a,
    fun m => setWords_keeps (fun s => (s.mbox m).line) (fun _ _ => rfl) ws s a,
    setWords_keeps State.offMail (fun _ _ => rfl) ws s a⟩

theorem MailOnly.forward (s : State) (kind : Nat) (ws : List Word) : MailOnly s (s.forward kind ws) := by
  unfold State.forward
  split
  · exact ⟨fun _ _ => rfl, fun _ => rfl, rfl⟩
  · exact .refl s

/-- The registers of a mailbox lie in MBX. -/
theorem mailKeys {m : Nat} (hm : m < 72) : Reg.MBX_RSP_HEAD m / 65536 = 2 ∧ Reg.MBX_RSP_TAIL m / 65536 = 2 ∧
    Reg.MBX_STAT m / 65536 = 2 := by
  simp only [Reg.MBX_RSP_HEAD, Reg.MBX_RSP_TAIL, Reg.MBX_STAT]
  omega

theorem MailOnly.showRings (s : State) {m : Nat} (hm : m < 72) : MailOnly s (s.showRings m) := by
  obtain ⟨-, -, hstat⟩ := mailKeys hm
  exact (MailOnly.put s _ hstat).trans (.put _ _ hstat)

theorem MailOnly.handOut (s : State) {m : Nat} (hm : m < 72) : MailOnly s (s.handOut m) := by
  obtain ⟨-, htail, -⟩ := mailKeys hm
  unfold State.handOut
  split
  · exact .refl s
  · have hdelivered : ∀ x, MailOnly s { s with fw := { s.fw with delivered := x } } :=
      fun _ => ⟨fun _ _ => rfl, fun _ => rfl, rfl⟩
    exact (hdelivered _).trans ((MailOnly.put _ _ htail).trans (.showRings _ hm))

theorem MailOnly.slot (s : State) {m : Nat} (hm : m < 72) (a : Nat) (ws : List Word) {x : Mbox} (v : Nat)
    (hx : x.line = (s.mbox m).line) :
    MailOnly s ((((s.setWords a ws).setMbox m x).put (Fld.MBX_RSP_HEAD_head m) v).showRings m) := by
  obtain ⟨hhead, -, -⟩ := mailKeys hm
  have hwords := MailOnly.setWords s a ws
  exact (hwords.trans (.setMbox _ (hx.trans (hwords.lines m).symm))).trans ((MailOnly.put _ _ hhead).trans (.showRings _ hm))

theorem MailOnly.placeSlot (s : State) {m : Nat} (hm : m < 72) (w0 : Word) (flags status part : Nat) (pay : List Word) :
    MailOnly s (s.placeSlot m w0 flags status part pay) := by
  unfold State.placeSlot
  simp only
  split_ifs
  · refine MailOnly.trans (.slot s hm _ _ _ ?_) (.forward _ _ _)
    rfl
  · refine MailOnly.trans (MailOnly.trans (.slot s hm _ _ _ ?_) (.forward _ _ _)) (.handOut _ hm)
    rfl
  · refine MailOnly.trans (.slot s hm _ _ _ ?_) (.handOut _ hm)
    rfl

theorem MailOnly.pushNtf (s : State) {m : Nat} (hm : m < 72) (n : Ntf) : MailOnly s (s.pushNtf m n) := by
  obtain ⟨-, -, hstat⟩ := mailKeys hm
  unfold State.pushNtf
  simp only
  split_ifs
  · exact .refl s
  · exact .placeSlot s hm _ _ _ _ _
  · exact .setMbox s rfl
  · exact (MailOnly.put s _ hstat).trans (.setMbox _ rfl)

theorem MailOnly.notify (s : State) (op : Nat) (part : Option Nat) (pay : List Word) :
    MailOnly s (s.notify op part pay) := by
  refine foldl_relates MailOnly.refl MailOnly.trans (fun s m hm => ?_) s
  rw [mem_upFrom] at hm
  split
  · exact .pushNtf s (by omega) _
  · exact .refl s

theorem MailOnly.atRest {s t : State} (h : MailOnly s t) (hs : s.AtRest) : t.AtRest := by
  have hrest := h.rest
  simp only [State.offMail, Prod.mk.injEq] at hrest
  obtain ⟨-, -, -, hprt, hce, hqe, -, -, -, -, habandoned⟩ := hrest
  exact ⟨hprt ▸ hs.lanes, fun t => by rw [State.task, hprt]; exact hs.susp t, habandoned ▸ hs.abandoned, hce ▸ hs.jobs,
    hqe ▸ hs.groups, fun m => (h.lines m).trans (hs.lines m)⟩

theorem MailOnly.nv {s t : State} (h : MailOnly s t) : t.nv = s.nv := congrArg (·.2.2.1) h.rest
theorem MailOnly.prt {s t : State} (h : MailOnly s t) : t.prt = s.prt := congrArg (·.2.2.2.1) h.rest

theorem MailOnly.mode {s t : State} (h : MailOnly s t) : t.mode = s.mode := by
  rw [State.mode, State.fld, h.regs _ (by decide)]; rfl

/-- What decides whether a fault meets a veer, and whether the module can yield (R44, R46). -/
theorem MailOnly.veers {s t : State} (h : MailOnly s t) :
    t.handingOver = s.handingOver ∧ t.taking = s.taking ∧ t.partnerStandby = s.partnerStandby := by
  have hrest := h.rest
  simp only [State.offMail, Prod.mk.injEq] at hrest
  obtain ⟨htime, hsys, -, -, -, -, hlost, hpeer, hcrossing, hveer, -⟩ := hrest
  simp only [State.handingOver, State.taking, State.partnerStandby, htime, hsys, hlost, hpeer, hcrossing, hveer]
  trivial

end Sys2Proof.Machine

namespace Sys2Proof.Machine

/-! ### Registers of other blocks (R17) -/

/-- Between `s` and `t` no register has changed but those of some blocks, nothing in MRAM, and nothing of the control engine. -/
structure Within (blocks : List Nat) (s t : State) : Prop where
  regs : ∀ k, k / 65536 ∉ blocks → t.reg k = s.reg k
  nv : t.nv = s.nv
  ce : t.ce = s.ce

theorem Within.refl (blocks : List Nat) (s : State) : Within blocks s s := ⟨fun _ _ => rfl, rfl, rfl⟩

theorem Within.trans {blocks : List Nat} {s t u : State} (h : Within blocks s t) (g : Within blocks t u) :
    Within blocks s u :=
  ⟨fun k hk => (g.regs k hk).trans (h.regs k hk), g.nv.trans h.nv, g.ce.trans h.ce⟩

theorem Within.put {blocks : List Nat} (s : State) {f : Fld} (v : Nat) (h : f.key / 65536 ∈ blocks) :
    Within blocks s (s.put f v) :=
  ⟨fun _ hk => s.reg_put_ne f v fun hkf => hk (hkf ▸ h), rfl, rfl⟩

theorem Within.withSys {blocks : List Nat} (s : State) (x : Sys) : Within blocks s { s with sys := x } :=
  ⟨fun _ _ => rfl, rfl, rfl⟩

theorem MailOnly.within {blocks : List Nat} {s t : State} (h : MailOnly s t) (hb : 2 ∈ blocks) : Within blocks s t :=
  ⟨fun k hk => h.regs k fun h2 => hk (h2 ▸ hb), h.nv, congrArg (·.2.2.2.2.1) h.rest⟩

theorem Within.mode {blocks : List Nat} {s t : State} (h : Within blocks s t) (hb : 0 ∉ blocks) : t.mode = s.mode := by
  rw [State.mode, State.fld, h.regs _ hb]; rfl

/-! ### Nothing in flight -/

theorem lane_of_none {s : State} (h : s.prt.lanes = []) (l : Nat) : s.lane l = {} := by simp [State.lane, h]

theorem endAct_of_none {s : State} (h : s.prt.lanes = []) (l : Nat) : s.endAct l = s := by
  simp [State.endAct, State.endWith, lane_of_none h]

theorem abandonAll_of_none {s : State} (h : s.prt.lanes = []) (hsusp : ∀ t, (s.task t).susp = none) :
    s.abandonAll = s := by
  rw [State.abandonAll, List.foldl_fixed' (endAct_of_none h)]
  exact List.foldl_fixed' (fun t => by simp [State.endSusp, hsusp t]) _

theorem abortJobs_of_none {s : State} (h : s.ce.jobs = []) (reason : Nat) : s.abortJobs reason = s :=
  List.foldl_fixed' (fun b => by simp [State.endJob, State.job, h]) _

/-- A request that no line holds is not answered: what registers, memory, lanes and MRAM show does not change. -/
theorem respond_keeps {β : Type} (p : State → β) (h : ∀ (s : State) x, p { s with fw := x } = p s) {s : State}
    {d : Deferred} (hd : (s.mbox d.mbx).line = []) (a : Answer) : p (s.respond d a) = p s := by
  simp only [State.respond, hd, List.map_nil, List.length_nil, State.flushLine]
  exact h s _

theorem record_keeps {β : Type} (p : State → β) (h : ∀ (s : State) x, p { s with evr := x } = p s) (s : State)
    (c r o b a m : Nat) (d : List Word) : p (s.record c r o b a m d) = p s := h s _

/-- The scheduled mode change dropped, and then the one that waits for the Enter key. -/
def State.dropScheduled (s : State) : State :=
  match s.sys.modeAt with
  | none => s
  | some (m, mbx) => ({ s with sys := { s.sys with modeAt := none } }).record 1 46 m s.mode m mbx []
def State.dropConfirm (s : State) : State :=
  match s.sys.confirm with
  | none => s
  | some d =>
    (({ s with sys := { s.sys with confirm := none } }).record 1 46 mCommission s.mode mCommission d.mbx []).respond d
      (errAns stNotInMode 0x0104 0xFFFF)

theorem dropMode_eq (s : State) : s.dropMode = s.dropScheduled.dropConfirm := rfl

theorem dropScheduled_keeps {β : Type} (p : State → β) (hsys : ∀ (s : State) x, p { s with sys := x } = p s)
    (hevr : ∀ (s : State) x, p { s with evr := x } = p s) (s : State) : p s.dropScheduled = p s := by
  unfold State.dropScheduled
  split
  · rfl
  · exact (record_keeps p hevr _ _ _ _ _ _ _ _).trans (hsys _ _)

theorem dropConfirm_keeps {β : Type} (p : State → β) (hfw : ∀ (s : State) x, p { s with fw := x } = p s)
    (hsys : ∀ (s : State) x, p { s with sys := x } = p s) (hevr : ∀ (s : State) x, p { s with evr := x } = p s) {s : State}
    (h : ∀ m, (s.mbox m).line = []) : p s.dropConfirm = p s := by
  unfold State.dropConfirm
  split
  · rfl
  · next d _ =>
    refine (respond_keeps p hfw ?_ _).trans ((record_keeps p hevr _ _ _ _ _ _ _ _).trans (hsys _ _))
    exact h d.mbx

/-- With no request in line, what a mode request that is dropped leaves alone. -/
theorem dropMode_keeps {β : Type} (p : State → β) (hfw : ∀ (s : State) x, p { s with fw := x } = p s)
    (hsys : ∀ (s : State) x, p { s with sys := x } = p s) (hevr : ∀ (s : State) x, p { s with evr := x } = p s) {s : State}
    (h : ∀ m, (s.mbox m).line = []) : p s.dropMode = p s := by
  rw [dropMode_eq, dropConfirm_keeps p hfw hsys hevr, dropScheduled_keeps p hsys hevr]
  intro m
  rw [dropScheduled_keeps (fun s => (s.mbox m).line) (fun _ _ => rfl) fun _ _ => rfl, h]

/-! ### The entry to SAFE from ACTIVE (R38, R44) -/

theorem dropPending_within (s : State) : Within [1] s s.dropPending := by
  refine foldl_relates (Within.refl [1]) Within.trans (fun s t ht => ?_) s
  rw [mem_upFrom] at ht
  split
  · have hkey : (Fld.PRT_TSTAT_state t).key / 65536 ∈ [1] := by
      simp only [Fld.PRT_TSTAT_state, Reg.PRT_TSTAT, List.mem_singleton]; omega
    exact (⟨fun _ _ => rfl, rfl, rfl⟩ : Within [1] s (s.setTask t _)).trans (.put _ _ hkey)
  · exact .refl _ s

theorem canTo_within (s : State) {p : Nat} (hp : p < 4) (st : Nat) : Within [16] s (s.canTo p st) := by
  have hkey : Reg.CAN_STAT p / 65536 ∈ [16] := by simp only [Reg.CAN_STAT, List.mem_singleton]; omega
  exact ((Within.put s _ hkey).trans (.put _ _ hkey)).trans (.put _ _ hkey)

theorem canStart_within (s : State) {p : Nat} (hp : p < 4) (m : Nat) : Within [16] s (s.canStart p m) := by
  have htxb : Reg.CAN_TXB p / 65536 ∈ [16] := by simp only [Reg.CAN_TXB, List.mem_singleton]; omega
  have habd : Reg.CAN_ABD p / 65536 ∈ [16] := by simp only [Reg.CAN_ABD, List.mem_singleton]; omega
  have href : ∀ b, Within [16] s (s.flag (Fld.CAN_TXB_ref p) b) := fun b => .put s _ htxb
  have hport : ∀ (t : State) x, Within [16] t (t.setCanPort p x) := fun t x => ⟨fun _ _ => rfl, rfl, rfl⟩
  unfold State.canStart
  simp only
  split_ifs
  · exact (href _).trans (canTo_within _ hp _)
  · exact (href _).trans (canTo_within _ hp _)
  · exact ((href _).trans (((hport _ _).trans (.put _ _ habd)).trans (.put _ _ habd))).trans (canTo_within _ hp _)
  · exact (href _).trans (canTo_within _ hp _)
  · exact (href _).trans (canTo_within _ hp _)

/-- Ports that take up SAFE hold what they have loaded. -/
theorem canMode_safe_within (s : State) : Within [16] s (s.canMode mSafe) := by
  refine foldl_relates (Within.refl [16]) Within.trans (fun s p hp => ?_) s
  rw [mem_upFrom] at hp
  simp only [show ¬ (mSafe = mStandby ∨ mSafe = mResync) by decide, if_false]
  split
  · exact .refl _ s
  · exact (⟨fun _ _ => rfl, rfl, rfl⟩ : Within [16] s (s.setCanPort p _)).trans (canStart_within _ (by omega) _)

theorem undim_within (s : State) : Within [18] s s.undim := by
  unfold State.undim
  split
  · exact .refl _ s
  · exact ⟨(Within.put s (f := Fld.PNL_STAT_dimmed) (b1 false) (by decide)).regs, rfl, rfl⟩

theorem usbFollow_within (s : State) : Within [18] s s.usbFollow := by
  have hfunction : ∀ b, Within [18] s (s.flag Fld.PNL_USB_function b) := fun b => .put s _ (by decide)
  have hconfigured : ∀ t : State, Within [18] t (t.flag Fld.PNL_USB_configured false) := fun t => .put t _ (by decide)
  unfold State.usbFollow
  simp only
  split_ifs
  · exact hfunction _
  · exact ((hfunction _).trans (hconfigured _)).trans ⟨fun _ _ => rfl, rfl, rfl⟩
  · exact (hfunction _).trans (hconfigured _)

theorem Within.mono {bs cs : List Nat} {s t : State} (h : Within bs s t) (hsub : bs ⊆ cs) : Within cs s t :=
  ⟨fun k hk => h.regs k fun hb => hk (hsub hb), h.nv, h.ce⟩

/-- SYS_MODE at a change of mode. -/
def State.modeShown (s : State) (old m : Nat) : State := (s.put Fld.SYS_MODE_prev old).put Fld.SYS_MODE_mode m

theorem modeShown_nv (s : State) (old m : Nat) : (s.modeShown old m).nv = s.nv := rfl
theorem modeShown_ce (s : State) (old m : Nat) : (s.modeShown old m).ce = s.ce := rfl

theorem modeShown_mode (s : State) (old : Nat) {m : Nat} (hm : m < 8) : (s.modeShown old m).mode = m :=
  (State.fld_put_same _ _ _ (by decide)).trans (Nat.mod_eq_of_lt hm)

theorem modeShown_claim (s : State) (old m : Nat) : (s.modeShown old m).reg Reg.RED_CLAIM = s.reg Reg.RED_CLAIM := by
  rw [State.modeShown, State.reg_put_ne _ _ _ (by decide), State.reg_put_ne _ _ _ (by decide)]

/-- The mailboxes that a mode serves, and what it leaves of an image selected. -/
def State.servedShown (s : State) (m : Nat) : State :=
  let s1 := (upFrom 0 72).foldl (fun s b => s.flag (Fld.MBX_STAT_served b) (servedIn m b)) s
  { s1 with sys := { s1.sys with imgSel := if m == mService then s1.sys.imgSel else false } }

theorem servedShown_within (s : State) (m : Nat) : Within [2] s (s.servedShown m) := by
  have hflags : Within [2] s ((upFrom 0 72).foldl (fun s b => s.flag (Fld.MBX_STAT_served b) (servedIn m b)) s) := by
    refine foldl_relates (Within.refl [2]) Within.trans (fun s b hb => ?_) s
    rw [mem_upFrom] at hb
    exact .put s _ (by rw [show (Fld.MBX_STAT_served b).key = Reg.MBX_STAT b from rfl, (mailKeys (by omega)).2.2]; decide)
  unfold State.servedShown
  exact hflags.trans (.withSys _ _)

theorem plantMode_safe_within {s : State} (hjobs : s.ce.jobs = []) : Within [16, 18] s (s.plantMode mActive mSafe) := by
  have hport : Within [16, 18] s (s.canMode mSafe) := (canMode_safe_within s).mono (by decide)
  have hpanel : ∀ t : State, Within [16, 18] t t.undim.usbFollow := fun t =>
    ((undim_within t).trans (usbFollow_within _)).mono (by decide)
  have heq : s.plantMode mActive mSafe = (s.canMode mSafe).undim.usbFollow := by
    simp [State.plantMode, abortJobs_of_none hjobs]
  rw [heq]
  exact hport.trans (hpanel _)

/-- What ends as a mode is left for another. -/
def State.leftFor (s : State) (m : Nat) : State :=
  let s1 := if runMode s.mode && !runMode m then s.abandonAll.dropPending else s
  let s2 := if s.mode == mCommission && m != mCommission then s1.detach.releaseForces else s1
  if keepsClaim m then s2 else s2.dropClaim

theorem enterMode_eq (s : State) (m : Nat) : s.enterMode m =
    (((((s.leftFor m).modeShown s.mode m).servedShown m).startedIn m).plantMode s.mode m).notify 0x0180 none
      [wd (m + s.mode * 256)] := rfl

theorem leftFor_safe {s : State} (hm : s.mode = mActive) (hl : s.prt.lanes = []) (hsusp : ∀ t, (s.task t).susp = none) :
    s.leftFor mSafe = s.dropPending := by
  have hruns : (runMode mActive && !runMode mSafe) = true := by decide
  have hforces : ¬ (mActive == mCommission && mSafe != mCommission) = true := by decide
  simp only [State.leftFor, hm, if_pos hruns, if_neg hforces, abandonAll_of_none hl hsusp]
  exact if_pos (by decide)

theorem startedIn_safe (s : State) : s.startedIn mSafe = s := if_pos (by decide)

/-- ACTIVE is left for SAFE: the claim is kept, and MRAM with it (R39). -/
theorem enterMode_safe {s : State} (hm : s.mode = mActive) (hl : s.prt.lanes = []) (hsusp : ∀ t, (s.task t).susp = none)
    (hjobs : s.ce.jobs = []) : (s.enterMode mSafe).mode = mSafe ∧ (s.enterMode mSafe).nv = s.nv ∧
      (s.enterMode mSafe).reg Reg.RED_CLAIM = s.reg Reg.RED_CLAIM := by
  have hpend := dropPending_within s
  have hserved := servedShown_within (s.dropPending.modeShown mActive mSafe) mSafe
  have hjobs' : ((s.dropPending.modeShown mActive mSafe).servedShown mSafe).ce.jobs = [] := by
    rw [hserved.ce, modeShown_ce, hpend.ce, hjobs]
  have hplant := plantMode_safe_within hjobs'
  have hlater : Within [2, 16, 18] (s.dropPending.modeShown mActive mSafe) (s.enterMode mSafe) := by
    rw [enterMode_eq, leftFor_safe hm hl hsusp, startedIn_safe, hm]
    exact ((hserved.mono (by decide)).trans (hplant.mono (by decide))).trans ((MailOnly.notify _ _ _ _).within (by decide))
  refine ⟨?_, ?_, ?_⟩
  · rw [hlater.mode (by decide), modeShown_mode _ _ (by decide)]
  · rw [hlater.nv, modeShown_nv, hpend.nv]
  · rw [hlater.regs _ (by decide), modeShown_claim, hpend.regs _ (by decide)]

end Sys2Proof.Machine

namespace Sys2Proof.Machine

/-! ### Memory banks (R20) -/

/-- The mark of bank `b`, in MRAM, in BST_MARKS and in a record. -/
def State.bankNoted (s : State) (b : Nat) : State :=
  (({ s with nv := { s.nv with bankMarks := s.nv.bankMarks + 2 ^ b } }).put Fld.BST_MARKS_banks
    (s.nv.bankMarks + 2 ^ b)).note 1 20 b

/-- The mark of bank `b`, told to Pliuz (R20). -/
def State.bankMarked (s : State) (b : Nat) : State :=
  ((s.bankNoted b).notify 0x0780 none [Config.degradedBank b]).degrade

/-- A pair taken out for its bank `b` (R20, R186). -/
def State.bankPair (s : State) (b p : Nat) : State :=
  let s1 := (s.markPair p).record 3 20 p 0 0 0xFF [wd b]
  let s2 := (s1.endAct (2 * p)).endAct (2 * p + 1)
  { s2 with lks := { s2.lks with armed := SMap.set 0 p 0 s2.lks.armed } }

theorem bankLost_of_marked {s : State} {b : Nat} (h : s.nv.bankMarks.testBit b = true) : s.bankLost b = s := if_pos h

theorem bankLost_of_unmarked {s : State} {b : Nat} (h : s.nv.bankMarks.testBit b = false) : s.bankLost b =
    if b = 15 then (s.bankMarked b).askPlacement 1 false
    else if localBank b then
      if (s.bankMarked b).pairUsable (b - 6) then
        if ((s.bankMarked b).bankPair b (b - 6)).leeward && !((s.bankMarked b).bankPair b (b - 6)).red.lost then
          (((s.bankMarked b).bankPair b (b - 6)).send .link 0x0355 [wd (b - 6)]).loseStep 6
        else ((s.bankMarked b).bankPair b (b - 6)).replace (b - 6)
      else s.bankMarked b
    else (s.bankMarked b).fault44 20 b := if_neg (by simp [h])

theorem bankNoted_reg (s : State) (b : Nat) {k : Nat} (h : k ≠ Reg.BST_MARKS) : (s.bankNoted b).reg k = s.reg k :=
  State.reg_put_ne _ _ _ h

theorem bankNoted_atRest {s : State} (h : s.AtRest) (b : Nat) : (s.bankNoted b).AtRest :=
  ⟨h.lanes, h.susp, h.abandoned, h.jobs, h.groups, h.lines⟩

theorem bankNoted_mail (s : State) (b : Nat) :
    MailOnly (s.bankNoted b) ((s.bankNoted b).notify 0x0780 none [Config.degradedBank b]) := .notify _ _ _ _

theorem bankMarked_reg (s : State) (b : Nat) {k : Nat} (hm : k ≠ Reg.BST_MARKS) (hs : k ≠ Reg.SYS_STAT)
    (h2 : k / 65536 ≠ 2) : (s.bankMarked b).reg k = s.reg k := by
  rw [State.bankMarked, State.degrade, State.reg_flag_ne _ _ _ hs, (bankNoted_mail s b).regs k h2, bankNoted_reg _ _ hm]

theorem bankMarked_mode (s : State) (b : Nat) : (s.bankMarked b).mode = s.mode := by
  rw [State.mode, State.fld, bankMarked_reg _ _ (by decide) (by decide) (by decide)]; rfl

theorem bankMarked_pairUsable (s : State) (b p : Nat) : (s.bankMarked b).pairUsable p = s.pairUsable p := by
  simp only [State.pairUsable, State.fbit, State.fld]
  rw [bankMarked_reg _ _ (by decide) (by decide) (by decide)]

theorem bankMarked_degraded (s : State) (b : Nat) : (s.bankMarked b).isSet Fld.SYS_STAT_degraded = true :=
  State.isSet_flag_same _ _ _ (by decide) rfl

theorem bankMarked_marks (s : State) (b : Nat) : (s.bankMarked b).nv.bankMarks = s.nv.bankMarks + 2 ^ b := by
  rw [State.bankMarked, State.degrade_nv, (bankNoted_mail s b).nv]
  rfl

theorem bankMarked_prt (s : State) (b : Nat) : (s.bankMarked b).prt = s.prt := by
  rw [State.bankMarked, State.degrade_prt, (bankNoted_mail s b).prt]
  rfl

/-! #### Bank 15 -/

theorem bankLast_completes {s : State} {k : Fin 16} (h : s.nv.bankMarks.testBit k = false) (hk : k.val = 15) :
    Completes (exec (.eccScrubError k) s) fun u => u.nv.bankMarks = s.nv.bankMarks + 2 ^ 15 ∧
      u.prt.placing = s.prt.placing ++ [⟨1, false, 0⟩] ∧ u.isSet Fld.SYS_STAT_degraded = true ∧ u.mode = s.mode := by
  refine ⟨(s.bankLost k).settle, rfl, ?_⟩
  rw [bankLost_of_unmarked h, if_pos hk]
  refine ⟨?_, ?_, ?_, ?_⟩
  · rw [settle_nv, ← hk]
    exact bankMarked_marks s k
  · rw [settle_prt, ← bankMarked_prt s k]
    rfl
  · rw [settle_isSet _ _ (by decide)]
    exact bankMarked_degraded s k
  · rw [settle_mode]
    exact bankMarked_mode s k

/-! #### A bank of a pair -/

/-- A bit of a field given a truth value. -/
theorem fbit_putBit_same (s : State) (f : Fld) (n : Nat) (b : Bool) (hn : f.lo + n ≤ f.hi) (hf : f.hi < 32) :
    (s.putBit f n b).fbit f n = b := by
  have hlt : n < f.hi + 1 - f.lo := by omega
  simp only [State.fbit, State.fld, State.putBit, State.reg_put, if_true, testBit_bits, hlt, decide_true, Bool.true_and,
    getLsbD_setBits _ _ _ _ _ (show f.lo + n < 32 by omega)]
  cases b <;> simp

theorem fbit_congr {s t : State} {f : Fld} (h : t.reg f.key = s.reg f.key) (n : Nat) : t.fbit f n = s.fbit f n := by
  simp only [State.fbit, State.fld, h]

theorem putBit_reg_ne (s : State) (f : Fld) (n : Nat) (b : Bool) {k : Nat} (h : k ≠ f.key) :
    (s.putBit f n b).reg k = s.reg k :=
  State.reg_put_ne _ _ _ h

/-- Pair `p` and its lanes out of LKS_CFG and PRT_LANES. -/
def State.lanesOut (s : State) (p : Nat) : State :=
  let s1 := (s.putBit Fld.LKS_CFG_usable p false).putBit Fld.PRT_LANES_usable (2 * p) false
  if s1.fbit Fld.LKS_CFG_split p then s1.putBit Fld.PRT_LANES_usable (2 * p + 1) false else s1

/-- The failure of pair `p` in LKS_PSTAT, LKS_STAT, BST_MARKS and MRAM. -/
def State.failShown (s : State) (p : Nat) : State :=
  let s1 := (s.put (Fld.LKS_PSTAT_state p) 3).bump (Fld.LKS_PSTAT_fails p)
  { (s1.putBit Fld.LKS_STAT_fail p true).putBit Fld.BST_MARKS_pairs p true with
    nv := { s1.nv with
      pairMarks := s1.nv.pairMarks ||| 2 ^ p
      pairFails := SMap.set 0 p (s1.fld (Fld.LKS_PSTAT_fails p)) s1.nv.pairFails } }

theorem markPair_eq (s : State) (p : Nat) : s.markPair p = (s.lanesOut p).failShown p := rfl

theorem failShown_reg (s : State) {p k : Nat} (hp : k ≠ Reg.LKS_PSTAT p) (hs : k ≠ Reg.LKS_STAT) (hb : k ≠ Reg.BST_MARKS) :
    (s.failShown p).reg k = s.reg k := by
  have hregs : (s.failShown p).regs = ((((s.put (Fld.LKS_PSTAT_state p) 3).bump (Fld.LKS_PSTAT_fails p)).putBit
      Fld.LKS_STAT_fail p true).putBit Fld.BST_MARKS_pairs p true).regs := rfl
  rw [State.reg_congr hregs, putBit_reg_ne _ _ _ _ hb, putBit_reg_ne _ _ _ _ hs, State.bump, State.reg_put_ne _ _ _ hp, State.reg_put_ne _ _ _ hp]

theorem lanesOut_reg (s : State) (p : Nat) {k : Nat} (hl : k ≠ Reg.PRT_LANES) :
    (s.lanesOut p).reg k = (s.putBit Fld.LKS_CFG_usable p false).reg k := by
  unfold State.lanesOut
  simp only
  split
  · rw [putBit_reg_ne _ _ _ _ hl, putBit_reg_ne _ _ _ _ hl]
  · rw [putBit_reg_ne _ _ _ _ hl]

theorem lanesOut_keeps {β : Type} (f : State → β) (h : ∀ (s : State) k w, f (s.setReg k w) = f s) (s : State) (p : Nat) :
    f (s.lanesOut p) = f s := by
  have hbit : ∀ (t : State) g n b, f (t.putBit g n b) = f t := fun _ _ _ _ => h _ _ _
  unfold State.lanesOut
  simp only
  split <;> simp only [hbit]

/-- Once pair `p` is out of LKS_CFG, what else marks its failure lies in other registers. -/
theorem markPair_reg (s : State) {p k : Nat} (hl : k ≠ Reg.PRT_LANES) (hp : k ≠ Reg.LKS_PSTAT p) (hs : k ≠ Reg.LKS_STAT)
    (hb : k ≠ Reg.BST_MARKS) : (s.markPair p).reg k = (s.putBit Fld.LKS_CFG_usable p false).reg k := by
  rw [markPair_eq, failShown_reg _ hp hs hb, lanesOut_reg _ _ hl]

theorem markPair_usable (s : State) {p : Nat} (hp : p < 4) : (s.markPair p).pairUsable p = false := by
  have hreg : (s.markPair p).reg Reg.LKS_CFG = (s.putBit Fld.LKS_CFG_usable p false).reg Reg.LKS_CFG :=
    markPair_reg s (by decide) (by simp only [Reg.LKS_CFG, Reg.LKS_PSTAT]; omega) (by decide) (by decide)
  rw [State.pairUsable, fbit_congr hreg]
  exact fbit_putBit_same s _ p false (by simp only [Fld.LKS_CFG_usable]; omega) (by decide)

theorem failShown_pairMarks (s : State) (p : Nat) : (s.failShown p).nv.pairMarks.testBit p = true := by
  simp [State.failShown]

theorem failShown_marks (s : State) (p : Nat) : (s.failShown p).nv.bankMarks = s.nv.bankMarks := rfl
theorem failShown_prt (s : State) (p : Nat) : (s.failShown p).prt = s.prt := rfl

theorem markPair_marks (s : State) (p : Nat) : (s.markPair p).nv.bankMarks = s.nv.bankMarks := by
  rw [markPair_eq, failShown_marks]
  exact lanesOut_keeps (·.nv.bankMarks) (fun _ _ _ => rfl) s p

theorem markPair_prt (s : State) (p : Nat) : (s.markPair p).prt = s.prt := by
  rw [markPair_eq, failShown_prt]
  exact lanesOut_keeps (·.prt) (fun _ _ _ => rfl) s p

end Sys2Proof.Machine

namespace Sys2Proof.Machine

/-! #### The placement after the loss of a pair (R133) -/

theorem Within.setWord (blocks : List Nat) (s : State) (a : Nat) (v : Word) : Within blocks s (s.setWord a v) :=
  ⟨fun k _ => setWord_keeps (·.reg k) (fun _ _ => rfl) s a v, setWord_keeps (·.nv) (fun _ _ => rfl) s a v,
    setWord_keeps (·.ce) (fun _ _ => rfl) s a v⟩

theorem Within.zero (blocks : List Nat) (s : State) (a n : Nat) : Within blocks s (s.zero a n) := ⟨fun _ _ => rfl, rfl, rfl⟩

theorem Within.withPrt (blocks : List Nat) (s : State) (x : Prt) : Within blocks s { s with prt := x } :=
  ⟨fun _ _ => rfl, rfl, rfl⟩

theorem Within.askPlacement (blocks : List Nat) (s : State) (cause : Nat) (halted : Bool) :
    Within blocks s (s.askPlacement cause halted) := .withPrt _ _ _

theorem writePlan_within (s : State) (ws : List (Nat × Word)) (apply : Word) : Within [1] s (s.writePlan ws apply) := by
  have hflag : Within [1] s { s.flag Fld.PRT_PLANSTAT_pending false with
      prt := { s.prt with planNext := none } } :=
    ⟨(Within.put s (f := Fld.PRT_PLANSTAT_pending) (b1 false) (by decide)).regs, rfl, rfl⟩
  have hwords : ∀ (t : State) b, Within [1] t (ws.foldl (fun s (o, w) => s.setWord (b + o) w) t) := fun t b =>
    foldl_relates (Within.refl [1]) Within.trans (fun s x _ => .setWord [1] s _ _) t
  unfold State.writePlan
  exact (((hflag.trans (.zero _ _ _ _)).trans (hwords _ _)).trans (.setWord _ _ _ _)).trans
    ((Within.setWord _ _ _ _).trans (.setWord _ _ _ _))

theorem writeFallback_within (s : State) (ws : List (Nat × Word)) (at_ : Word) :
    Within [1, 20] s (s.writeFallback ws at_) := by
  have hpending : ∀ t : State, Within [1, 20] t (t.flag Fld.AGE_OP_pending false) := fun t => .put t _ (by decide)
  exact (((writePlan_within s ws at_).mono (by decide)).trans (hpending _)).trans (.withPrt _ _ _)

theorem replace_within (s : State) (p : Nat) : Within [1, 20] s (s.replace p) := by
  unfold State.replace
  split
  · exact .askPlacement _ _ _ _
  · have hfallback := fun ws => writeFallback_within s ws (lo32 (s.boundaryAfter 400000))
    have hask : ∀ t : State, Within [1, 20] t
        (if t.partnerStandby && t.hasClaim then t.send .link 0x0353 [wd p, lo32 (s.boundaryAfter 400000)] else t) := by
      intro t
      split
      · exact ⟨fun _ _ => rfl, rfl, rfl⟩
      · exact .refl _ t
    refine Within.trans ?_ (hask _)
    split
    · exact ((hfallback _).trans (.withPrt _ _ _)).trans (.askPlacement _ _ _ _)
    · split
      · exact (hfallback _).trans (.askPlacement _ _ _ _)
      · exact hfallback _

/-! #### The bank of a pair -/

/-- Where no lane has anything, a pair taken out for a bank is marked, and recorded. -/
theorem bankPair_keeps {β : Type} (f : State → β) (hevr : ∀ (s : State) x, f { s with evr := x } = f s)
    (hlks : ∀ (s : State) x, f { s with lks := x } = f s) {s : State} (h : s.prt.lanes = []) (b p : Nat) :
    f (s.bankPair b p) = f (s.markPair p) := by
  have hlanes : ((s.markPair p).record 3 20 p 0 0 0xFF [wd b]).prt.lanes = [] := by
    rw [record_keeps (·.prt.lanes) (fun _ _ => rfl), markPair_prt, h]
  rw [State.bankPair, endAct_of_none hlanes, endAct_of_none hlanes]
  exact (hlks _ _).trans (record_keeps f hevr _ _ _ _ _ _ _ _)

theorem fld_of_reg {s t : State} {f : Fld} (h : t.reg f.key = s.reg f.key) : t.fld f = s.fld f := by
  rw [State.fld, State.fld, h]

/-- No register of SYS marks the failure of a pair. -/
theorem markPair_sys (s : State) (p : Nat) {k : Nat} (hk : k / 65536 = 0) : (s.markPair p).reg k = s.reg k := by
  have hkeys : k ≠ Reg.PRT_LANES ∧ k ≠ Reg.LKS_PSTAT p ∧ k ≠ Reg.LKS_STAT ∧ k ≠ Reg.BST_MARKS ∧ k ≠ Reg.LKS_CFG := by
    simp only [Reg.PRT_LANES, Reg.LKS_PSTAT, Reg.LKS_STAT, Reg.BST_MARKS, Reg.LKS_CFG]
    omega
  obtain ⟨hlanes, hpstat, hstat, hmarks, hcfg⟩ := hkeys
  rw [markPair_reg s hlanes hpstat hstat hmarks, putBit_reg_ne _ _ _ _ hcfg]

theorem bankLost_of_pair {s : State} {k p : Nat} (h : s.nv.bankMarks.testBit k = false) (hp : p < 4) (hk : k = 6 + p)
    (hpair : s.pairUsable p = true) (hm : s.mode ≠ mStandby) (hl : s.prt.lanes = []) :
    s.bankLost k = ((s.bankMarked k).bankPair k p).replace p := by
  have hlocal : localBank k = true := by simp only [localBank, Bool.and_eq_true, decide_eq_true_eq]; omega
  have hlanes : (s.bankMarked k).prt.lanes = [] := by rw [bankMarked_prt, hl]
  have hmode : ((s.bankMarked k).bankPair k p).mode = s.mode := by
    rw [bankPair_keeps State.mode (fun _ _ => rfl) (fun _ _ => rfl) hlanes, ← bankMarked_mode s k]
    exact fld_of_reg (markPair_sys _ _ (by decide))
  have hleeward : ((s.bankMarked k).bankPair k p).leeward = false := by
    rw [State.leeward, hmode]
    exact beq_false_of_ne hm
  have hindex : k - 6 = p := by omega
  rw [bankLost_of_unmarked h, if_neg (by omega), if_pos hlocal, hindex, bankMarked_pairUsable, if_pos hpair, hleeward]
  rfl

theorem bankOfPair_completes {s : State} {k : Fin 16} {p : Nat} (h : s.nv.bankMarks.testBit k = false) (hp : p < 4)
    (hk : k.val = 6 + p) (hpair : s.pairUsable p = true) (hm : s.mode ≠ mStandby) (hl : s.prt.lanes = []) :
    Completes (exec (.eccScrubError k) s) fun u => u.nv.bankMarks = s.nv.bankMarks + 2 ^ k.val ∧ u.pairUsable p = false ∧
      u.nv.pairMarks.testBit p = true ∧ u.isSet Fld.SYS_STAT_degraded = true := by
  have hlanes : (s.bankMarked k).prt.lanes = [] := by rw [bankMarked_prt, hl]
  have hplan := replace_within ((s.bankMarked k).bankPair k p) p
  refine ⟨(s.bankLost k).settle, rfl, ?_⟩
  rw [bankLost_of_pair h hp hk hpair hm hl]
  refine ⟨?_, ?_, ?_, ?_⟩
  · rw [settle_nv, hplan.nv, bankPair_keeps (·.nv) (fun _ _ => rfl) (fun _ _ => rfl) hlanes, markPair_marks, bankMarked_marks]
  · rw [State.pairUsable, State.fbit, settle_fld _ _ (by decide), State.fld, hplan.regs _ (by decide),
      bankPair_keeps (·.reg _) (fun _ _ => rfl) (fun _ _ => rfl) hlanes]
    exact markPair_usable _ hp
  · rw [settle_nv, hplan.nv, bankPair_keeps (·.nv) (fun _ _ => rfl) (fun _ _ => rfl) hlanes, markPair_eq]
    exact failShown_pairMarks _ _
  · rw [settle_isSet _ _ (by decide), State.isSet, fld_of_reg (hplan.regs _ (by decide)),
      bankPair_keeps (·.fld _) (fun _ _ => rfl) (fun _ _ => rfl) hlanes, fld_of_reg (markPair_sys _ _ (by decide))]
    exact bankMarked_degraded s k

/-! #### Any other bank -/

/-- What decides whether a fault meets a veer, and whether the module can yield, is not a bank's. -/
theorem bankMarked_veers (s : State) (b : Nat) : (s.bankMarked b).handingOver = s.handingOver ∧
    (s.bankMarked b).taking = s.taking ∧ (s.bankMarked b).partnerStandby = s.partnerStandby :=
  (bankNoted_mail s b).veers

theorem bankMarked_atRest {s : State} (h : s.AtRest) (b : Nat) : (s.bankMarked b).AtRest := by
  obtain ⟨hlanes, hsusp, habandoned, hjobs, hgroups, hlines⟩ := (bankNoted_mail s b).atRest (bankNoted_atRest h b)
  exact ⟨hlanes, hsusp, habandoned, hjobs, hgroups, hlines⟩

theorem fault44_active {s : State} (hm : s.mode = mActive) (hover : s.handingOver = false) (htaking : s.taking = false)
    (hpartner : s.partnerStandby = false) (cause object : Nat) :
    s.fault44 cause object = ((s.note 1 cause object).dropMode).enterMode mSafe := by
  simp [State.fault44, hm, hover, htaking, State.canYield, hpartner]

/-- A fault of an ACTIVE module with nothing in flight and no partner in step ends in SAFE (R44). -/
theorem fault44_safe {s : State} (hm : s.mode = mActive) (hover : s.handingOver = false) (htaking : s.taking = false)
    (hpartner : s.partnerStandby = false) (hrest : s.AtRest) (cause object : Nat) :
    (s.fault44 cause object).mode = mSafe ∧ (s.fault44 cause object).nv = s.nv ∧
      (s.fault44 cause object).reg Reg.RED_CLAIM = s.reg Reg.RED_CLAIM := by
  have hkeeps : ∀ {β : Type} (p : State → β), (∀ (s : State) x, p { s with fw := x } = p s) →
      (∀ (s : State) x, p { s with sys := x } = p s) → (∀ (s : State) x, p { s with evr := x } = p s) →
      p (s.note 1 cause object).dropMode = p s := fun p hfw hsys hevr =>
    (dropMode_keeps (s := s.note 1 cause object) p hfw hsys hevr hrest.lines).trans (hevr s _)
  obtain ⟨hmode, hnv, hclaim⟩ := enterMode_safe (s := (s.note 1 cause object).dropMode)
    ((hkeeps State.mode (fun _ _ => rfl) (fun _ _ => rfl) fun _ _ => rfl).trans hm)
    ((hkeeps (·.prt.lanes) (fun _ _ => rfl) (fun _ _ => rfl) fun _ _ => rfl).trans hrest.lanes)
    (fun t => (hkeeps (fun s => (s.task t).susp) (fun _ _ => rfl) (fun _ _ => rfl) fun _ _ => rfl).trans (hrest.susp t))
    ((hkeeps (·.ce.jobs) (fun _ _ => rfl) (fun _ _ => rfl) fun _ _ => rfl).trans hrest.jobs)
  rw [fault44_active hm hover htaking hpartner]
  exact ⟨hmode, hnv.trans (hkeeps (·.nv) (fun _ _ => rfl) (fun _ _ => rfl) fun _ _ => rfl),
    hclaim.trans (hkeeps (·.reg Reg.RED_CLAIM) (fun _ _ => rfl) (fun _ _ => rfl) fun _ _ => rfl)⟩

theorem bankLost_of_other {s : State} {k : Nat} (h : s.nv.bankMarks.testBit k = false) (hk : k < 6 ∨ 9 < k ∧ k < 15) :
    s.bankLost k = (s.bankMarked k).fault44 20 k := by
  have hlocal : ¬ localBank k = true := by simp only [localBank, Bool.and_eq_true, decide_eq_true_eq]; omega
  rw [bankLost_of_unmarked h, if_neg (by omega), if_neg hlocal]

theorem otherBank_completes {s : State} {k : Fin 16} (h : s.nv.bankMarks.testBit k = false)
    (hk : k.val < 6 ∨ 9 < k.val ∧ k.val < 15) (hm : s.mode = mActive) (hpartner : s.partnerStandby = false)
    (hover : s.handingOver = false) (htaking : s.taking = false) (hrest : s.AtRest) :
    Completes (exec (.eccScrubError k) s) fun u => u.mode = mSafe ∧ u.nv.bankMarks = s.nv.bankMarks + 2 ^ k.val ∧
      u.reg Reg.RED_CLAIM = s.reg Reg.RED_CLAIM := by
  obtain ⟨hover', htaking', hpartner'⟩ := bankMarked_veers s k
  obtain ⟨hmode, hnv, hclaim⟩ := fault44_safe ((bankMarked_mode s k).trans hm) (hover'.trans hover) (htaking'.trans htaking)
    (hpartner'.trans hpartner) (bankMarked_atRest hrest k) 20 k
  refine ⟨(s.bankLost k).settle, rfl, ?_⟩
  rw [bankLost_of_other h hk]
  refine ⟨?_, ?_, ?_⟩
  · rw [settle_mode, hmode]
  · rw [settle_nv, hnv, bankMarked_marks]
  · rw [settle_reg _ _ (by decide), hclaim, bankMarked_reg _ _ (by decide) (by decide) (by decide)]

/-! ### A command that finds nothing to do -/

theorem markedBank_completes {s : State} {k : Fin 16} (h : s.nv.bankMarks.testBit k = true) :
    Completes (exec (.eccScrubError k) s) fun u => u.nv = s.nv ∧ u.prt = s.prt ∧ u.mode = s.mode ∧ Kept s u [] := by
  refine ⟨(s.bankLost k).settle, rfl, ?_⟩
  rw [bankLost_of_marked h]
  exact ⟨settle_nv s, settle_prt s, settle_mode s, (Kept.of_face rfl).settle⟩

theorem sfpDiagPoll_absent_completes {s : State} {n : Fin 2} (h : (s.cage n).present = false) (diag : List Word) (b : Bool) :
    Completes (exec (.sfpDiagPoll n diag b) s) fun u => u.sfp = s.sfp ∧ u.sys = s.sys ∧ Kept s u [] := by
  refine ⟨(s.sfpPoll n diag b).settle, rfl, ?_⟩
  rw [sfpPoll_of_absent h]
  exact ⟨settle_sfp s, settle_sys s, (Kept.of_face rfl).settle⟩

/-- Settles O37, a lemma for each of its clauses. -/
theorem connectorsAndBanks : Obligations.ConnectorsAndBanks := by
  intro s n id diag b
  refine ⟨sfpInsert_completes s n id diag, fun h hp hl => sfpDiagPoll_completes h hp hl diag b,
    fun h => sfpDiagPoll_absent_completes h diag b, witnessLine_completes s, oscillatorWarm_completes s,
    partnerPresence_completes s b, fun k => ⟨markedBank_completes, fun h => ⟨bankLast_completes h, ?_, ?_⟩⟩⟩
  · exact fun p hp hk hpair hm hl => bankOfPair_completes h hp hk hpair hm hl
  · exact fun hk hm hpartner hover htaking hrest => otherBank_completes h hk hm hpartner hover htaking hrest

end Sys2Proof.Machine

namespace Sys2Proof.Machine

/-! ### The mirrors after a command, and the lamp test (R553, R554) -/

/-- During the lamp test hardware lights the FORCE lamp whatever SYS_STAT.forcing says. -/
theorem settle_force_lit {s : State} (h : s.lampTest = true) : s.settle.isSet Fld.PNL_LED_force = true := by
  have test : s.pfcEdges.settlePorts.settleMirrors.lampTest = true := by
    obtain ⟨x, hx⟩ := pfcEdges_eq s
    simp only [State.lampTest] at h ⊢
    rwa [settleMirrors_keeps (·.clk) (fun _ _ _ => rfl), settlePorts_keeps (·.clk) (fun _ _ _ => rfl),
      settleMirrors_keeps (·.pnl.litFrom) (fun _ _ _ => rfl), settlePorts_keeps (·.pnl.litFrom) (fun _ _ _ => rfl), hx]
  simp only [State.settle, State.settleLamps, test, Bool.true_or]
  exact State.isSet_flag_same _ _ _ (by decide) rfl

/-- A state 1 s after the clock's zero in which reset was released just now: the lamp test runs, and no force stands. -/
def State.releasedLate : State :=
  { State.reset with clk := 250000000, pnl := { State.reset.pnl with litFrom := 250000000 } }

theorem step_releasedLate : step State.releasedLate = .next (State.releasedLate.advance 1).settle := rfl

/-- Refutes O2: reset is released when PRES_S closes, maybe more than 1 s after the clock's zero, and the lamp test that begins
there lights the FORCE lamp with no force in effect. -/
theorem not_everyStepKeepsTheMirrors : ¬ Obligations.EveryStepKeepsTheMirrors := by
  intro h
  have mirrors := h _ _ step_releasedLate
  have late : 250000000 ≤ (State.releasedLate.advance 1).settle.clk := by
    rw [settle_clk, advance_clk]
    decide
  have lit : (State.releasedLate.advance 1).lampTest = true := by decide
  have unforced : (State.releasedLate.advance 1).settle.fw.forces = [] := by
    rw [settle_fw]
    decide
  have shown := mirrors.lamp late
  rw [settle_force_lit lit, mirrors.forcing, unforced] at shown
  cases shown

/-- Settles O60: the reset state's memory is empty, and its registers are the table of reset values. -/
theorem resetLeavesTheBlockAtRest : Obligations.ResetLeavesTheBlockAtRest := by
  refine ⟨rfl, by decide, ⟨?_, ?_, ?_, ?_, ?_, ?_, ?_, fun h => absurd h (by decide)⟩,
    ⟨rfl, fun _ => rfl, rfl, rfl, rfl, fun _ => rfl⟩, rfl, ?_, ?_, rfl, fun _ => rfl, rfl, rfl⟩
  all_goals decide

/-- A windward module of a pair that drives the highest claim there is, its partner in STANDBY. -/
def State.highestClaim : State :=
  let r := ({ State.reset with
    sys := { State.reset.sys with pins := { State.reset.sys.pins with pair := true } },
    red := { State.reset.red with peerMode := mStandby } }).setReg Reg.RED_CLAIM 0xFFFFFFFE
  r.put Fld.SYS_MODE_mode mActive

theorem highestClaim_atRest : State.highestClaim.AtRest := ⟨rfl, fun _ => rfl, rfl, rfl, rfl, fun _ => rfl⟩

/-- With nothing staged, the hold-up of a supply loss writes nothing. -/
theorem flushStaging_of_empty {s : State} (h : s.evr.staging = []) (n : Nat) : s.flushStaging n = s := by
  induction n with
  | zero => rfl
  | succ n ih =>
    have : s.writeStaged = s := by simp [State.writeStaged, h]
    rw [State.flushStaging, this, ih]

/-- The hold-up begun (R600): no pump runs on its energy, which the panel shows (R545). -/
def State.heldUp (s : State) : State :=
  ({ s with sys := { s.sys with holdup := true } } : State).put Fld.PNL_STAT_state 4

/-- The hold-up of a module that cannot yield, declares no task and has staged nothing. -/
theorem supplyLoss_of_quiet {s : State} (hh : s.sys.holdup = false) (hy : s.heldUp.canYield = false)
    (hd : s.heldUp.declared = []) (he : s.evr.staging = []) (more : Nat) : s.supplyLoss more = s.heldUp := by
  unfold State.supplyLoss
  rw [if_neg (by simp [hh])]
  simp only
  rw [show (({ s with sys := { s.sys with holdup := true } } : State).put Fld.PNL_STAT_state 4) = s.heldUp from rfl,
    if_neg (by simp [hy]), hd]
  exact flushStaging_of_empty (s := s.heldUp) he _

theorem highestClaim_canYield : State.highestClaim.heldUp.canYield = false := by decide

theorem highestClaim_declared : State.highestClaim.heldUp.declared = [] := by decide +kernel

/-- Refutes O34: no claim stands above 0xFFFF_FFFE (R213), so a module that drives it cannot yield and keeps its claim at a supply
loss. -/
theorem not_resetsAndSupplies : ¬ Obligations.ResetsAndSupplies := by
  intro h
  obtain ⟨-, -, -, -, -, -, -, -, yields, -⟩ := h State.highestClaim 0
  obtain ⟨u, ran, -, dropped, -⟩ := yields (by decide) (by decide) (by decide) (by decide)
    highestClaim_atRest
  obtain rfl : (State.highestClaim.supplyLoss 0).settle = u := Host.Outcome.next.inj ran
  rw [settle_reg _ _ (by decide), supplyLoss_of_quiet rfl highestClaim_canYield highestClaim_declared rfl] at dropped
  exact absurd dropped (by decide)

end Sys2Proof.Machine

namespace Sys2Proof.Machine

/-! ### Resets (R42, R54) -/

/-- A reset leaves every register at its reset value, but for the cause and the contacts. -/
theorem afterReset_reg (s : State) (cause : Nat) {k : Nat} (hc : k ≠ Reg.SYS_RSTCAUSE) (hs : k ≠ Reg.SYS_SLOT) :
    (s.afterReset cause).reg k = State.reset.reg k := by
  unfold State.afterReset
  rw [State.reg_flag_ne _ _ _ hs, State.reg_flag_ne _ _ _ hs, State.reg_flag_ne _ _ _ hs, State.reg_put_ne _ _ _ hs,
    State.reg_put_ne _ _ _ hc]
  rfl

theorem afterReset_cause (s : State) {cause : Nat} (h : cause < 16) :
    (s.afterReset cause).fld Fld.SYS_RSTCAUSE_cause = cause := by
  have apart : Fld.SYS_RSTCAUSE_cause.key ≠ Reg.SYS_SLOT := by decide
  unfold State.afterReset
  simp only [State.flag]
  rw [State.fld_put_ne _ _ _ _ apart, State.fld_put_ne _ _ _ _ apart, State.fld_put_ne _ _ _ _ apart,
    State.fld_put_ne _ _ _ _ apart, State.fld_put_same _ _ _ (by decide)]
  exact Nat.mod_eq_of_lt h

@[simp] theorem afterReset_nv (s : State) (cause : Nat) : (s.afterReset cause).nv = s.nv := rfl
@[simp] theorem afterReset_pending (s : State) (cause : Nat) : (s.afterReset cause).pending = s.pending := rfl

/-- A record of the reset ring leaves what memory and MRAM's own bookkeeping do not hold. -/
theorem writeResetRecord_keeps {β : Type} (p : State → β) (hm : ∀ (s : State) m, p { s with mem := m } = p s)
    (hn : ∀ (s : State) i r, p { s with nv := { s.nv with rstIdx := i, rstRec := r } } = p s) (s : State) (ws : List Word) :
    p (s.writeResetRecord ws) = p s := by
  let written := (s.setWord (0x800F00000 + s.nv.rstIdx % 256 * 32 + 28) 0).setWords (0x800F00000 + s.nv.rstIdx % 256 * 32)
    (ws ++ [0x52455354])
  have hnv : written.nv = s.nv :=
    (setWords_keeps (·.nv) (fun _ _ => rfl) _ _ _).trans (setWord_keeps (·.nv) (fun _ _ => rfl) _ _ _)
  have hw : p written = p s := (setWords_keeps p hm _ _ _).trans (setWord_keeps p hm _ _ _)
  have he : s.writeResetRecord ws =
      { written with nv := { written.nv with rstIdx := (s.nv.rstIdx + 1) % 256, rstRec := none } } := by
    rw [hnv]
    rfl
  rw [he, hn, hw]

/-- What a reset does first: what it wins over waits for a record, and its own record is written or kept for boot. -/
def State.resetFiled (s : State) (cause detail : Nat) : State :=
  let s0 := { s with nv := { s.nv with dropped := s.nv.dropped ++ s.lostToReset cause } }
  if recordsBefore cause then s0.writeResetRecord (s.resetWords cause detail)
  else { s0 with nv := { s0.nv with rstRec := some (s.resetWords cause detail) } }

theorem resetModule_eq (s : State) (cause detail : Nat) :
    s.resetModule cause detail = (s.resetFiled cause detail).afterReset cause := rfl

theorem resetFiled_claim (s : State) (cause detail : Nat) : (s.resetFiled cause detail).nv.claim = s.nv.claim := by
  unfold State.resetFiled
  split
  · exact writeResetRecord_keeps (·.nv.claim) (fun _ _ => rfl) (fun _ _ _ => rfl) _ _
  · rfl

theorem resetFiled_pending (s : State) (cause detail : Nat) : (s.resetFiled cause detail).pending = s.pending := by
  unfold State.resetFiled
  split
  · exact writeResetRecord_keeps (·.pending) (fun _ _ => rfl) (fun _ _ _ => rfl) _ _
  · rfl

theorem resetModule_reg (s : State) (cause detail : Nat) {k : Nat} (hc : k ≠ Reg.SYS_RSTCAUSE) (hs : k ≠ Reg.SYS_SLOT) :
    (s.resetModule cause detail).reg k = State.reset.reg k := by
  rw [resetModule_eq, afterReset_reg _ cause hc hs]

theorem resetModule_mode (s : State) (cause detail : Nat) : (s.resetModule cause detail).mode = mBoot := by
  have : State.reset.mode = mBoot := by decide
  rw [← this]
  simp only [State.mode, State.fld]
  rw [resetModule_reg _ _ _ (by decide) (by decide)]

theorem resetModule_claim (s : State) (cause detail : Nat) : (s.resetModule cause detail).nv.claim = s.nv.claim := by
  rw [resetModule_eq, afterReset_nv, resetFiled_claim]

theorem resetModule_pending (s : State) (cause detail : Nat) : (s.resetModule cause detail).pending = s.pending := by
  rw [resetModule_eq, afterReset_pending, resetFiled_pending]

theorem resetModule_cause (s : State) {cause : Nat} (h : cause < 16) (detail : Nat) :
    (s.resetModule cause detail).fld Fld.SYS_RSTCAUSE_cause = cause := by
  rw [resetModule_eq, afterReset_cause _ h]

theorem commandedCause_eq (s : State) :
    s.commandedCause = if s.mode = mService ∧ s.sys.imgSel = true then 7 else 4 := by
  simp only [State.commandedCause, Bool.and_eq_true, beq_iff_eq]
  rfl

/-! ### Keyed command registers (R10) -/

/-- A register of write-only fields, in a fast block, that no lock and no state restricts. -/
def keyedReg (k : Nat) : Bool :=
  match regInfoAt k with
  | none => false
  | some r =>
    r.writable && !r.slow && r.fields.all (fun f => f.acc == .wo) &&
      !(k / 65536 == 1 || k / 65536 == 2 || k / 65536 == 16 || k / 65536 == 18) &&
      !(k / 65536 == 13 && decide (0x40 ≤ k % 65536) && decide (k % 65536 < 0x60)) &&
      !([Reg.QE_FREEBUF, Reg.QE_ENQ, Reg.LKS_DBGCTL, Reg.LKS_DBGDATA, Reg.LKS_DBGMEM, Reg.LKS_DBGADDR_LO,
        Reg.LKS_DBGADDR_HI, Reg.PNL_DRIVE, Reg.PNL_WEARDATA].contains k)

/-- Write-only fields hold nothing. -/
theorem loadFields_of_writeOnly (s : State) {r : RegInfo} (h : ∀ f ∈ r.fields, f.acc = .wo) (k : Nat) (v : Word) :
    s.loadFields r k v = s := by
  unfold State.loadFields
  generalize r.fields = fs at h
  induction fs with
  | nil => rfl
  | cons f fs ih =>
    have hf := h f (.head _)
    simp only [List.foldl_cons, hf]
    exact ih fun g hg => h g (.tail _ hg)

/-- Whether a word keeps the legal ranges of the fields of a register (R62). -/
def keepsRange (k : Nat) (v : Word) : Bool := (regInfoAt k).all (·.inRange v)

/-- Whether no field of a register has a legal range. -/
def anyRange (k : Nat) : Bool := (regInfoAt k).all fun r => r.fields.all (·.range.isNone)

theorem keepsRange_of_any {k : Nat} (h : anyRange k = true) (v : Word) : keepsRange k v = true := by
  unfold keepsRange anyRange at *
  cases hr : regInfoAt k with
  | none => rfl
  | some r =>
    simp only [hr, Option.all_some, List.all_eq_true, Option.isNone_iff_eq_none, RegInfo.inRange] at h ⊢
    intro f hf
    simp [h f hf]

/-- A command register does what its row says with a word in its ranges that keeps its reserved bits 0, and nothing else. -/
theorem wrote_of_keyed {s : State} (h0 : s.slowOf 0 = none) {k : Nat} (hk : keyedReg k = true) {v : Word}
    (hv : v &&& reservedMask k = 0) (hrange : keepsRange k v = true) : s.wrote k v = .next (s.writeEffect k v 0).settle := by
  unfold keyedReg at hk
  split at hk
  · cases hk
  next r hr =>
    simp only [Bool.and_eq_true, Bool.not_eq_true', List.all_eq_true, Bool.or_eq_false_iff, beq_eq_false_iff_ne, beq_iff_eq,
      List.contains_eq_mem, decide_eq_false_iff_not, List.mem_cons, not_or] at hk
    obtain ⟨⟨⟨⟨⟨writable, fast⟩, fields⟩, ⟨⟨_, b2⟩, b16⟩, b18⟩, lock⟩, free, enq, ctl, data, mem, lo, hi, drive, wear, _⟩ := hk
    have b1 : (k / 65536 == 1) = false := by simpa
    have accepts : s.Accepts k v r :=
      { info := by rw [regInfo_of_block_ne s b16, hr]
        free := lockedOut_of_free s (by rw [b1, Bool.false_or, lock])
        writable := writable
        kept := reservedWrite_eq_false_of_mask hr hv
        inRange := by simpa [keepsRange, hr] using hrange
        stateRange := by simp [State.stateRange, b2, b18, free, enq, ctl] }
    rw [State.wrote, accessed_of_none h0, mgmtWrite_of_fast h0 (by rw [slowKey_of_block_ne s b16 hr, fast]),
      writeReg_of_plain s (by simp [data, mem, ctl]), writeCore_of_accepts accepts, if_neg drive, if_neg (by simp [lo, hi]),
      if_neg (by simp [wear, b2]), loadFields_of_writeOnly s fun f hf => fields f hf]
    rfl

/-! ### What each key does (R42, R54, R193, R199, R213, R396, R473, R574) -/

theorem writeEffect_SYS_RST (s : State) (v : Word) :
    s.writeEffect Reg.SYS_RST v 0 = if bits v 31 16 != 0xC8A5 then s.note 1 54 Reg.SYS_RST
      else if bit v 0 then s.resetModule s.commandedCause 0 else s := rfl

theorem writeEffect_SYS_MODE_SET (s : State) (v : Word) :
    s.writeEffect Reg.SYS_MODE_SET v 0 =
      if bits v 31 16 = 0x3D6E then { s with sys := { s.sys with modeAt := some (bits v 2 0, 255) } } else s := rfl

theorem writeEffect_FIO_KICK (s : State) (v : Word) :
    s.writeEffect Reg.FIO_KICK v 0 =
      if bits v 31 16 = 0x5C3E then { s with fio := { s.fio with sending := true, kickAt := s.time } } else s := rfl

theorem writeEffect_RED_HBKICK (s : State) (v : Word) :
    s.writeEffect Reg.RED_HBKICK v 0 =
      if bits v 31 16 = 0xB3A1 then { s with red := { s.red with hbOff := false } } else s := rfl

theorem writeEffect_RED_CLAIMCTL (s : State) (v : Word) :
    s.writeEffect Reg.RED_CLAIMCTL v 0 = if bits v 31 16 = 0x7E1D then s.claimCtl (bit v 1) (bit v 0) else s := rfl

theorem writeEffect_LKS_INJECT (s : State) (p : Fin 4) (v : Word) :
    s.writeEffect (Reg.LKS_INJECT p) v 0 = s.injectWrite p v := by
  fin_cases p <;> rfl

theorem writeEffect_SAF_TEST (s : State) (v : Word) :
    s.writeEffect Reg.SAF_TEST v 0 = if bits v 31 16 != 0x6B2D then s
      else if s.mode != mCommission then s.note 8 473 0
      else if bit v 0 then { s with saf := { s.saf with flip := true } } else s := rfl

theorem writeEffect_AGE_OPSET (s : State) (v : Word) :
    s.writeEffect Reg.AGE_OPSET v 0 = if bits v 31 16 = 0x9C47 then
      { (s.flag Fld.AGE_OP_pending true) with prt := { s.prt with opNext := some (bits v 1 0) } } else s := rfl

/-! ### The commands -/

theorem toNat_append_half (x y : BitVec 16) : (x ++ y : BitVec 32).toNat = x.toNat * 65536 + y.toNat := by
  rw [BitVec.toNat_append, ← Nat.shiftLeft_add_eq_or_of_lt y.isLt, Nat.shiftLeft_eq]

/-- The key of a word of a key and one bit more. -/
theorem bits_key_append (key : BitVec 16) (low : BitVec 1) : bits (key ++ low.setWidth 16 : BitVec 32) 31 16 = key.toNat := by
  have := key.isLt
  have hl : (low.setWidth 16).toNat < 65536 := (low.setWidth 16).isLt
  simp only [bits, toNat_append_half, Nat.shiftRight_eq_div_pow]
  omega

theorem bits_low_append (key : BitVec 16) (low : BitVec 1) : bits (key ++ low.setWidth 16 : BitVec 32) 15 1 = 0 := by
  have := low.isLt
  have hl : (low.setWidth 16).toNat = low.toNat := BitVec.toNat_setWidth_of_le (by decide)
  simp only [bits, toNat_append_half, Nat.shiftRight_eq_div_pow, hl]
  omega

theorem bits_claimWord (key : BitVec 16) {n : Nat} (h : n < 4) : bits (wd (key.toNat * 65536 + n)) 31 16 = key.toNat := by
  have := key.isLt
  simp only [bits, wd, BitVec.toNat_ofNat, Nat.shiftRight_eq_div_pow]
  omega

section
variable {s : State} (h0 : s.slowOf 0 = none)
include h0

theorem sysRst_completes : Completes (exec (.sysRst 0xC8A50001) s) fun u =>
    u.mode = mBoot ∧ u.pending = s.pending ∧ u.nv.claim = s.nv.claim ∧
      u.fld Fld.SYS_RSTCAUSE_cause = if s.mode = mService ∧ s.sys.imgSel = true then 7 else 4 := by
  refine ⟨_, wrote_of_keyed h0 (by decide) (by decide) (by decide), ?_⟩
  rw [show s.writeEffect Reg.SYS_RST 0xC8A50001 0 = s.resetModule s.commandedCause 0 from rfl]
  refine ⟨by rw [settle_mode, resetModule_mode], by rw [settle_pending, resetModule_pending],
    by rw [settle_nv, resetModule_claim], ?_⟩
  rw [settle_fld _ _ (by decide), commandedCause_eq, resetModule_cause _ (by split <;> decide)]

theorem sysRst_other_completes {key : BitVec 16} (hk : key ≠ 0xC8A5) (low : BitVec 1) :
    Completes (exec (.sysRst (key ++ (low.setWidth 16))) s) fun u =>
      u.mode = s.mode ∧ u.evr.inbox.length = s.evr.inbox.length + 1 := by
  have hmask : (key ++ low.setWidth 16 : BitVec 32) &&& reservedMask Reg.SYS_RST = 0 := by
    rw [show reservedMask Reg.SYS_RST = bitMask 15 1 from by decide]
    exact and_bitMask_eq_zero (bits_low_append key low)
  have hkey : (bits (key ++ low.setWidth 16 : BitVec 32) 31 16 != 0xC8A5) = true := by
    rw [bits_key_append, bne_iff_ne]
    exact fun h => hk (BitVec.eq_of_toNat_eq h)
  refine ⟨_, wrote_of_keyed h0 (by decide) hmask (keepsRange_of_any (by decide) _), ?_⟩
  rw [writeEffect_SYS_RST, if_pos hkey]
  exact ⟨settle_mode _, by rw [settle_evr]; simp [State.note, State.record]⟩

theorem sysModeSet_completes (m : Fin 8) : Completes (exec (.sysModeSet (wd (0x3D6E0000 + m.val))) s) fun u =>
    u.sys.modeAt = some (m.val, 255) ∧ u.mode = s.mode := by
  have hmask : wd (0x3D6E0000 + m.val) &&& reservedMask Reg.SYS_MODE_SET = 0 := by revert m; decide
  have hkey : bits (wd (0x3D6E0000 + m.val)) 31 16 = 0x3D6E := by revert m; decide
  have hmode : bits (wd (0x3D6E0000 + m.val)) 2 0 = m.val := by revert m; decide
  refine ⟨_, wrote_of_keyed h0 (by decide) hmask (keepsRange_of_any (by decide) _), ?_⟩
  rw [writeEffect_SYS_MODE_SET, if_pos hkey, hmode]
  exact ⟨by rw [settle_sys], settle_mode _⟩

theorem fioKick_completes : Completes (exec (.fioKick 0x5C3E0000) s) fun u => u.fio.sending = true ∧ u.outs = s.outs := by
  refine ⟨_, wrote_of_keyed h0 (by decide) (by decide) (by decide), ?_⟩
  rw [writeEffect_FIO_KICK, if_pos (by decide)]
  exact ⟨by rw [settle_fio], settle_outs _⟩

theorem redHbkick_completes : Completes (exec (.redHbkick 0xB3A10000) s) fun u =>
    u.red.hbOff = false ∧ u.reg Reg.RED_CLAIM = s.reg Reg.RED_CLAIM := by
  refine ⟨_, wrote_of_keyed h0 (by decide) (by decide) (by decide), ?_⟩
  rw [writeEffect_RED_HBKICK, if_pos (by decide)]
  exact ⟨by rw [settle_red], settle_reg _ _ (by decide)⟩

/-- A write of RED_CLAIMCTL with its drop bit, its raise bit or both. -/
theorem claimWrite_next (key : BitVec 16) {n : Nat} (h : n < 4) :
    s.wrote Reg.RED_CLAIMCTL (wd (key.toNat * 65536 + n)) = .next (if key.toNat = 0x7E1D then
      s.claimCtl (bit (wd (key.toNat * 65536 + n)) 1) (bit (wd (key.toNat * 65536 + n)) 0) else s).settle := by
  rw [wrote_of_keyed h0 (by decide)
    (by rw [reservedMask_RED_CLAIMCTL]; exact and_bitMask_eq_zero (claimWord_bits key h))
    (keepsRange_of_any (by decide) _), writeEffect_RED_CLAIMCTL,
    bits_claimWord key h]

theorem claimRaise_completes : Completes (exec (.claimRaise 0x7E1D) s) fun u => u.reg Reg.RED_CLAIM = s.nv.claim := by
  refine ⟨_, claimWrite_next h0 0x7E1D (by decide), ?_⟩
  beta_reduce
  rw [if_pos (by decide), settle_reg _ _ (by decide)]
  exact State.reg_setReg_same s _ _

end

theorem witClaimed_keeps {β : Type} (p : State → β) (h : ∀ (s : State) c o ws, p (s.send c o ws) = p s) (s : State) (n : Word)
    (kind : Nat) : p (s.witClaimed n kind) = p s :=
  foldl_keeps p _ (fun s _ => h s _ _ _) _ _

/-- A claim dropped through RED_CLAIMCTL: what begins with it beside (R216) leaves the registers and MRAM. -/
theorem ctlDrop_keeps {β : Type} (p : State → β) (h : ∀ (s : State) c o ws, p (s.send c o ws) = p s)
    (hr : ∀ (s : State) r i, p { s with red := r, rio := i } = p s) (s : State) : p s.ctlDrop = p s.dropClaim := by
  unfold State.ctlDrop
  simp only
  split
  · rfl
  · rw [witClaimed_keeps p h, hr]

theorem claimDrop_completes {s : State} (h0 : s.slowOf 0 = none) : Completes (exec (.claimDrop 0x7E1D) s) fun u =>
    u.reg Reg.RED_CLAIM = 0 ∧ u.nv.claim = s.nv.claim := by
  refine ⟨_, claimWrite_next h0 0x7E1D (by decide), ?_⟩
  beta_reduce
  rw [if_pos (by decide), settle_reg _ _ (by decide), settle_nv,
    show s.claimCtl (bit (wd ((0x7E1D : BitVec 16).toNat * 65536 + 2)) 1) (bit (wd ((0x7E1D : BitVec 16).toNat * 65536 + 2)) 0) =
      s.ctlDrop from rfl,
    ctlDrop_keeps (·.reg Reg.RED_CLAIM) (fun _ _ _ _ => rfl) (fun _ _ _ => rfl),
    ctlDrop_keeps (·.nv) (fun _ _ _ _ => rfl) (fun _ _ _ => rfl)]
  exact ⟨State.reg_setReg_same s _ _, rfl⟩

section
variable {s : State} (h0 : s.slowOf 0 = none)
include h0

theorem claimWrite_other_completes {key : BitVec 16} (hk : key ≠ 0x7E1D) {n : Nat} (h : n < 4) :
    Completes (s.wrote Reg.RED_CLAIMCTL (wd (key.toNat * 65536 + n))) fun u => u.reg Reg.RED_CLAIM = s.reg Reg.RED_CLAIM := by
  refine ⟨_, claimWrite_next h0 key h, ?_⟩
  rw [if_neg fun he : key.toNat = 0x7E1D => hk (BitVec.eq_of_toNat_eq he)]
  exact settle_reg _ _ (by decide)

theorem lksInject_next (p : Fin 4) (m : Fin 8) :
    exec (.lksInject p (wd (0x1A5C0011 + m.val))) s = .next (s.injectWrite p (wd (0x1A5C0011 + m.val))).settle := by
  have hmask : wd (0x1A5C0011 + m.val) &&& reservedMask (Reg.LKS_INJECT p) = 0 := by
    rw [show reservedMask (Reg.LKS_INJECT p) = 0xFFE0 from by revert p; decide]
    revert m
    decide
  rw [← writeEffect_LKS_INJECT]
  exact wrote_of_keyed h0 (by clear hmask; revert p; decide) hmask (by clear hmask; revert p m; decide)

theorem lksInject_completes (p : Fin 4) (m : Fin 8) (hm : s.mode = mCommission) (hs : s.fbit Fld.LKS_CFG_split p = false)
    (hu : s.pairUsable p = true) : Completes (exec (.lksInject p (wd (0x1A5C0011 + m.val))) s) fun u =>
      SMap.get 0 p.val u.lks.armed = m.val + 1 := by
  have hkey : bits (wd (0x1A5C0011 + m.val)) 31 16 = 0x1A5C := by revert m; decide
  have harm : bit (wd (0x1A5C0011 + m.val)) 4 = true := by revert m; decide
  have hcount : bits (wd (0x1A5C0011 + m.val)) 3 0 = m.val + 1 := by revert m; decide
  refine ⟨_, lksInject_next h0 p m, ?_⟩
  beta_reduce
  rw [settle_lks]
  simp [State.injectWrite, hm, hkey, hs, hu, harm, hcount, SMap.get_set_same]

theorem lksInject_elsewhere_completes (p : Fin 4) (m : Fin 8) (hm : s.mode ≠ mCommission) :
    Completes (exec (.lksInject p (wd (0x1A5C0011 + m.val))) s) fun u => u.lks = s.lks := by
  refine ⟨_, lksInject_next h0 p m, ?_⟩
  beta_reduce
  rw [settle_lks, State.injectWrite, if_pos (by simpa using hm)]
  rfl

theorem safTest_completes : Completes (exec (.safTest 0x6B2D0001) s) fun u =>
    u.saf.flip = (s.saf.flip || decide (s.mode = mCommission)) := by
  refine ⟨_, wrote_of_keyed h0 (by decide) (by decide) (by decide), ?_⟩
  beta_reduce
  rw [settle_saf, writeEffect_SAF_TEST, if_neg (by decide)]
  by_cases hm : s.mode = mCommission
  · rw [if_neg (by simp [hm]), if_pos (by decide)]
    simp [hm]
  · rw [if_pos (by simpa using hm)]
    simp [hm, State.note, State.record]

theorem ageOpset_completes (op : Fin 4) : Completes (exec (.ageOpset (wd (0x9C470000 + op.val))) s) fun u =>
    u.prt.opNext = some op.val ∧ u.isSet Fld.AGE_OP_pending = true ∧ u.fld Fld.AGE_OP_station = s.fld Fld.AGE_OP_station := by
  have hmask : wd (0x9C470000 + op.val) &&& reservedMask Reg.AGE_OPSET = 0 := by revert op; decide
  have hkey : bits (wd (0x9C470000 + op.val)) 31 16 = 0x9C47 := by revert op; decide
  have hop : bits (wd (0x9C470000 + op.val)) 1 0 = op.val := by revert op; decide
  refine ⟨_, wrote_of_keyed h0 (by decide) hmask (keepsRange_of_any (by decide) _), ?_⟩
  rw [writeEffect_AGE_OPSET, if_pos hkey, hop]
  refine ⟨by rw [settle_prt], ?_, ?_⟩
  · rw [settle_isSet _ _ (by decide)]
    exact State.isSet_flag_same s Fld.AGE_OP_pending true (by decide) rfl
  · rw [settle_fld _ _ (by decide)]
    exact State.fld_put_other s Fld.AGE_OP_pending _ _ (by decide) (by decide)

end

/-- Settles O14, a lemma for each command register. -/
theorem keyedRegisterCommands : Obligations.KeyedRegisterCommands := by
  intro s m p op key low h0
  exact ⟨sysRst_completes h0, fun hk => sysRst_other_completes h0 hk low, sysModeSet_completes h0 m, fioKick_completes h0,
    redHbkick_completes h0, claimRaise_completes h0, claimDrop_completes h0,
    fun hk => ⟨claimWrite_other_completes h0 hk (by decide), claimWrite_other_completes h0 hk (by decide)⟩,
    fun hm hs hu => lksInject_completes h0 p m hm hs hu, fun hm => lksInject_elsewhere_completes h0 p m hm,
    safTest_completes h0, ageOpset_completes h0 op⟩

end Sys2Proof.Machine

namespace Sys2Proof.Machine

/-! ### A session's scope that is no partition (R91, R578) -/

/-- A module in COMMISSION whose mailbox 0 has staged a counter record in a session of scope 0x680. That scope's word of counter
rights, by the register map's stride, is MBX_STAT of mailbox 0, and the last partition that wrote there was partition 1. -/
def State.farScope : State :=
  let shown := (State.reset.put Fld.SYS_MODE_mode mCommission).put (Fld.MBX_STAT_part 0) 1
  { shown with fw := { shown.fw with
      sessions := [(1, some { scope := 0x680, mbx := 0, stages := [.record (recKey 0x16 64) []] })] } }

theorem farScope_idle : ∀ j : Fin 68, j.val ≠ 0 → State.farScope.canTake j = false := by decide

theorem farScope_open : State.farScope.Open 0 where
  who := by decide
  conn := by decide
  alone := by
    intro j hj
    by_cases h : j < 68
    · exact farScope_idle ⟨j, h⟩ hj
    · simp [State.canTake, State.served, servedIn, h]
  served := by decide
  inStep := fun _ => by decide
  empty := by decide
  room := by decide
  line := rfl

/-- The set passes its check before the request, which shows partition 0 in MBX_STAT. -/
theorem farScope_passes : State.farScope.chkCommit (scopeOf (State.farScope.ses 1)) (State.farScope.saf.auth.contains 1)
    (State.farScope.ses 1).stages = none := by decide +kernel

/-- The set fails its check after the request was written. -/
theorem farScope_refused : (State.farScope.request 0 0x0104 0 [1]).fw.commits = [] := by decide +kernel

/-- Refutes O25: writing the request changes MBX_STAT, from which the check of a staged counter record reads the rights of a scope
that is no partition, so a set that passes before the request is refused. -/
theorem not_mailboxCommandsAct : ¬ Obligations.MailboxCommandsAct := by
  intro h
  obtain ⟨-, commits, -⟩ := h State.farScope 0 0 1 0 0 [] farScope_open
  obtain ⟨u, ran, ⟨c, held, -⟩, -⟩ := commits (by decide) (by decide) (by decide) (by decide)
    farScope_passes
  obtain rfl : (State.farScope.request 0 0x0104 0 [1]).settle = u := Host.Outcome.next.inj ran
  rw [settle_fw, farScope_refused] at held
  cases held

/-! ### A lane number that is no lane (R110, R542) -/

/-- A panel that drives one pixel of its last row at a multiplex ratio of 64, 256 clocks before its frame ends, while lane 68352
runs an activation: that lane's PRT_RUNUSED, by the register map's stride, is PNL_TIMING. -/
def State.farLane : State :=
  let timed := ((State.reset.put Fld.PNL_TIMING_fps 100).put Fld.PNL_TIMING_mux 63).put (Fld.PNL_GAMMA_width 1) 100
  let driven := ((timed.put Fld.PNL_STAT_state 2).flag Fld.PNL_DRIVE_on true).put Fld.PNL_DRIVE_iseg 1
  { driven with
    clk := 64 * 1562 * 25 - 256
    prt := { driven.prt with lanes := [(68352, { act := some { task := 0, part := 0, trig := { src := 0 } } })] }
    pnl := { driven.pnl with image := [(63 * 256, 1)] } }

/-- The frame's own time passes at that lane too, so that the frame ends with a multiplex ratio of 1. -/
theorem farLane_dark : (State.farLane.frameBoundary []).pnl.acc = [] := by decide +kernel

/-- Refutes O56: the drive of a lit pixel is accumulated by the multiplex ratio at the frame's end, which an activation of a lane
that is no lane changes while the frame lasts. -/
theorem not_frontPanel : ¬ Obligations.FrontPanel := by
  intro h
  obtain ⟨frames, -⟩ := h State.farLane
  obtain ⟨-, -, lights⟩ := frames []
  obtain ⟨u, ran, worn, -⟩ := lights (63 * 256) 1 (by decide +kernel) rfl (by decide) (by decide +kernel) rfl
  obtain rfl : (State.farLane.frameBoundary []).settle = u := Host.Outcome.next.inj ran
  rw [settle_keeps (·.pnl.acc) (fun _ _ _ => rfl) (fun _ _ => rfl) (fun _ _ => rfl), farLane_dark] at worn
  exact absurd worn (by decide +kernel)

end Sys2Proof.Machine

namespace Sys2Proof.Machine

/-! ### A buffer charged to no partition (R228, R245) -/

/-- A booted module of a pair, one of whose CAN ports holds a loaded message. Its buffer is charged to partition 0x6600, whose count
of small buffers, by the register map's stride, is RED_CLAIM_PEER. -/
def State.farCharge : State :=
  let booted := State.reset.put Fld.SYS_BOOT_step 8
  let frame : CanFrame := { user0 := 0, user1 := 0, data := [], desc := some 0, seq := 0, loaded := 0, order := 0 }
  ({ booted with
    sys := { booted.sys with wait := .none, pins := { booted.sys.pins with pair := true } }
    qe := { booted.qe with small := [(0, 0x6601)] } }).setCanBuf 0 0 (some frame)

theorem farCharge_peer : (State.farCharge.bootComplete (some (3, 5))).reg Reg.RED_CLAIM_PEER = 4 := by decide +kernel

/-- Refutes O35: entering RESYNC frees what the CAN ports hold, and a buffer charged to a partition that does not exist takes its
count out of the claim that the partner has just told. -/
theorem not_startUp : ¬ Obligations.StartUp := by
  intro h
  obtain ⟨-, -, boot, -⟩ := h State.farCharge 5 false false 0 (some (3, 5))
  obtain ⟨-, -, pair⟩ := boot (by decide) rfl (by decide)
  obtain ⟨u, ran, -, -, told, -⟩ := (pair rfl rfl rfl).1 rfl
  obtain rfl : (State.farCharge.bootComplete (some (3, 5))).settle = u := Host.Outcome.next.inj ran
  rw [settle_reg _ _ (by decide), farCharge_peer] at told
  exact absurd told (by decide)

end Sys2Proof.Machine

namespace Sys2Proof.Machine

/-! ### Parts of the state that time does not touch (R372) -/

theorem advance_holds {β : Type} (p : State → β) (hput : ∀ (s : State) f v, p (s.put f v) = p s)
    (hpfc : ∀ (s : State) x, p { s with pfc := x } = p s)
    (hclk : ∀ (s : State) c f t, p { s with clk := c, timeFrac := f, time := t } = p s) (s : State) (n : Nat) :
    p (s.advance n) = p s :=
  (hclk ((s.pfcTime n).laneTime n) _ _ _).trans ((laneTime_keeps p hput _ _).trans (pfcTime_keeps p hpfc s n))

/-- With no lane's record, time passes at the clocks and the counters alone. -/
theorem advance_idle {β : Type} (p : State → β) (hpfc : ∀ (s : State) x, p { s with pfc := x } = p s)
    (hclk : ∀ (s : State) c f t, p { s with clk := c, timeFrac := f, time := t } = p s) {s : State} (hl : s.prt.lanes = [])
    (n : Nat) : p (s.advance n) = p s := by
  have hlanes : (s.pfcTime n).prt.lanes = [] := (pfcTime_keeps (·.prt.lanes) (fun _ _ => rfl) s n).trans hl
  refine (hclk ((s.pfcTime n).laneTime n) _ _ _).trans ?_
  rw [laneTime_none _ hlanes, pfcTime_keeps p hpfc]

/-- The clock moves on by at most three advances. -/
theorem runUntil_induct {P : State → Prop} (h : ∀ s n, P s → P (s.advance n)) {s : State} (hs : P s) (t : Nat) :
    P (s.runUntil t) := by
  unfold State.runUntil
  simp only
  split_ifs
  · exact hs
  · exact h _ _ hs
  · exact h _ _ (h _ _ hs)
  · exact h _ _ (h _ _ (h _ _ hs))

theorem runUntil_holds {β : Type} (p : State → β) (hput : ∀ (s : State) f v, p (s.put f v) = p s)
    (hpfc : ∀ (s : State) x, p { s with pfc := x } = p s)
    (hclk : ∀ (s : State) c f t, p { s with clk := c, timeFrac := f, time := t } = p s) (s : State) (t : Nat) :
    p (s.runUntil t) = p s :=
  runUntil_induct (P := fun u => p u = p s) (fun _ n hu => (advance_holds p hput hpfc hclk _ n).trans hu) rfl t

theorem runUntil_idle {β : Type} (p : State → β) (hpfc : ∀ (s : State) x, p { s with pfc := x } = p s)
    (hclk : ∀ (s : State) c f t, p { s with clk := c, timeFrac := f, time := t } = p s) {s : State} (hl : s.prt.lanes = [])
    (t : Nat) : p (s.runUntil t) = p s :=
  (runUntil_induct (P := fun u => u.prt.lanes = [] ∧ p u = p s)
    (fun _ n hu => ⟨(advance_idle (·.prt.lanes) (fun _ _ => rfl) (fun _ _ _ _ => rfl) hu.1 n).trans hu.1,
      (advance_idle p hpfc hclk hu.1 n).trans hu.2⟩) ⟨hl, rfl⟩ t).2

/-! ### Parts of the state that mailboxes do not touch (R79, R81, R89, R93) -/

/-- A part of the state that neither a register of MBX, memory, station firmware's own records nor a forwarded item changes. -/
structure OffMail {β : Type} (p : State → β) : Prop where
  put : ∀ (s : State) f v, f.key / 65536 = 2 → p (s.put f v) = p s
  mem : ∀ (s : State) m, p { s with mem := m } = p s
  fw : ∀ (s : State) x, p { s with fw := x } = p s
  item : ∀ (s : State) k ws, p (s.sendItem k ws) = p s

theorem offMail_reg {k : Nat} (hk : k / 65536 ≠ 2) : OffMail (·.reg k) where
  put s f v hf := s.reg_put_ne f v fun h => hk (h ▸ hf)
  mem _ _ := rfl
  fw _ _ := rfl
  item _ _ _ := rfl

namespace OffMail
variable {β : Type} {p : State → β} (h : OffMail p)
include h

theorem forward (s : State) (k : Nat) (ws : List Word) : p (s.forward k ws) = p s := by
  unfold State.forward
  split
  · exact h.item s k ws
  · rfl

theorem showRings (s : State) {m : Nat} (hm : m < 72) : p (s.showRings m) = p s := by
  obtain ⟨-, -, hstat⟩ := mailKeys hm
  exact (h.put _ _ _ hstat).trans (h.put _ _ _ hstat)

theorem handOut (s : State) {m : Nat} (hm : m < 72) : p (s.handOut m) = p s := by
  obtain ⟨-, htail, -⟩ := mailKeys hm
  unfold State.handOut
  split
  · rfl
  · exact (h.showRings _ hm).trans ((h.put _ _ _ htail).trans (h.fw s _))

theorem slot (s : State) {m : Nat} (hm : m < 72) (a : Nat) (ws : List Word) (x : Mbox) (v : Nat) :
    p ((((s.setWords a ws).setMbox m x).put (Fld.MBX_RSP_HEAD_head m) v).showRings m) = p s := by
  obtain ⟨hhead, -, -⟩ := mailKeys hm
  exact (h.showRings _ hm).trans ((h.put _ _ _ hhead).trans ((h.fw _ _).trans (setWords_keeps p h.mem ws s a)))

theorem placeSlot (s : State) {m : Nat} (hm : m < 72) (w0 : Word) (flags status part : Nat) (pay : List Word) :
    p (s.placeSlot m w0 flags status part pay) = p s := by
  unfold State.placeSlot
  simp only
  split_ifs
  · exact (h.forward _ _ _).trans (h.slot s hm _ _ _ _)
  · exact (h.handOut _ hm).trans ((h.forward _ _ _).trans (h.slot s hm _ _ _ _))
  · exact (h.handOut _ hm).trans (h.slot s hm _ _ _ _)

theorem flushLine {m : Nat} (hm : m < 72) (n : Nat) (s : State) : p (s.flushLine m n) = p s := by
  induction n generalizing s with
  | zero => rfl
  | succ n ih =>
    unfold State.flushLine
    split
    · exact (ih _).trans ((h.placeSlot _ hm _ _ _ _ _).trans (h.fw s _))
    · rfl

theorem respond (s : State) {d : Deferred} (hd : d.mbx < 72) (a : Answer) : p (s.respond d a) = p s :=
  (h.flushLine hd _ _).trans (h.fw s _)

theorem pushNtf (s : State) {m : Nat} (hm : m < 72) (n : Ntf) : p (s.pushNtf m n) = p s := by
  obtain ⟨-, -, hstat⟩ := mailKeys hm
  unfold State.pushNtf
  simp only
  split_ifs
  · rfl
  · exact h.placeSlot s hm _ _ _ _ _
  · exact h.fw s _
  · exact (h.fw _ _).trans (h.put s _ _ hstat)

theorem notify (s : State) (op : Nat) (part : Option Nat) (pay : List Word) : p (s.notify op part pay) = p s := by
  refine foldl_relates (R := fun s t => p t = p s) (fun _ => rfl) (fun hst htu => htu.trans hst) (fun s m hm => ?_) s
  rw [mem_upFrom] at hm
  split
  · exact h.pushNtf s (by omega) _
  · rfl

theorem answerVeers (s : State) : p s.answerVeers = p s := by
  refine foldl_relates (R := fun s t => p t = p s) (fun _ => rfl) (fun hst htu => htu.trans hst) (fun s m hm => ?_) s
  rw [mem_upFrom] at hm
  exact foldl_keeps p _ (fun s t => h.respond s (by show m < 72; omega) _) _ s

end OffMail

/-! ### Heartbeats sent and missed (R199, R200) -/

/-- The seven words of the next heartbeat. -/
def State.beat (s : State) : List Word :=
  [wd ((s.red.hbTx + 1) % 65536), wd s.mode, s.reg Reg.RED_CLAIM, wd s.sys.cycles, wd s.red.fwdRx, lo32 s.time, 0]

/-- The next heartbeat sent on both lanes. -/
def State.beaten (s : State) : State :=
  (({ s with red := { s.red with hbTx := (s.red.hbTx + 1) % 65536 } } : State).send .link lkHeartbeat
    (0 :: heartbeat s.beat)).send .link lkHeartbeat (1 :: heartbeat s.beat)

theorem sendHeartbeat_eq {s : State} (h : s.sendsHeartbeats = true) :
    s.sendHeartbeat = (s.runUntil ((s.time / 10000 + 1) * 10000)).beaten := if_neg (by simp [h])

theorem beaten_sent (s : State) :
    s.beaten.sent = ⟨.link, lkHeartbeat, 1 :: heartbeat s.beat⟩ :: ⟨.link, lkHeartbeat, 0 :: heartbeat s.beat⟩ :: s.sent := rfl
theorem beaten_hbTx (s : State) : s.beaten.red.hbTx = (s.red.hbTx + 1) % 65536 := rfl
theorem beaten_regs (s : State) : s.beaten.regs = s.regs := rfl

theorem heartbeat_beat (s : State) : heartbeat s.beat = s.beat ++ [crc32c (wordBytes s.beat)] := rfl

theorem heartbeatSend_completes {s : State} (h : s.sendsHeartbeats = true) :
    Completes (exec .heartbeatSend s) fun u => u.red.hbTx = (s.red.hbTx + 1) % 65536 ∧
      ∃ t, let ws := [wd u.red.hbTx, wd u.mode, u.reg Reg.RED_CLAIM, wd s.sys.cycles, wd s.red.fwdRx, t, 0]
        let hb := ws ++ [crc32c (wordBytes ws)]
        u.sent = ⟨.link, 16, 1 :: hb⟩ :: ⟨.link, 16, 0 :: hb⟩ :: s.sent := by
  have hred := runUntil_holds (·.red) (fun _ _ _ => rfl) (fun _ _ => rfl) (fun _ _ _ _ => rfl) s ((s.time / 10000 + 1) * 10000)
  have hsys := runUntil_holds (·.sys) (fun _ _ _ => rfl) (fun _ _ => rfl) (fun _ _ _ _ => rfl) s ((s.time / 10000 + 1) * 10000)
  have hsent := runUntil_holds (·.sent) (fun _ _ _ => rfl) (fun _ _ => rfl) (fun _ _ _ _ => rfl) s
    ((s.time / 10000 + 1) * 10000)
  refine ⟨s.sendHeartbeat.settle, rfl, ?_⟩
  beta_reduce
  rw [settle_red, settle_mode, settle_reg _ _ (by decide), settle_sent, sendHeartbeat_eq h]
  generalize s.runUntil ((s.time / 10000 + 1) * 10000) = t at hred hsys hsent ⊢
  refine ⟨by rw [beaten_hbTx, hred], lo32 t.time, ?_⟩
  rw [beaten_sent, beaten_hbTx, State.mode, State.fld_congr (beaten_regs t), State.reg_congr (beaten_regs t), ← hsys, ← hred,
    hsent, heartbeat_beat]
  rfl

theorem heartbeatSend_silent_completes {s : State} (h : s.sendsHeartbeats = false) :
    Completes (exec .heartbeatSend s) fun u => u.red = s.red ∧ u.sent = s.sent := by
  refine ⟨s.sendHeartbeat.settle, rfl, ?_⟩
  rw [State.sendHeartbeat, if_pos (by simp [h])]
  exact ⟨settle_red s, settle_sent s⟩

theorem heartbeatWatchdog_completes (s : State) : Completes (exec .heartbeatWatchdogExpiry s) fun u =>
    u.sendsHeartbeats = false ∧ u.red = { s.red with hbOff := true } ∧ Kept s u [] := by
  refine ⟨s.stopHeartbeats.settle, rfl, ?_, settle_red _, Kept.settle (t := s.stopHeartbeats) (Kept.of_face rfl)⟩
  simp only [State.sendsHeartbeats, settle_red, State.stopHeartbeats, Bool.not_true, Bool.and_false, Bool.false_and]

end Sys2Proof.Machine

namespace Sys2Proof.Machine

/-! ### The link (R196, R207) -/

/-- A lane's bit of RED_LINK. -/
def laneBit (n : Nat) : Fld := if n = 0 then Fld.RED_LINK_lane0 else Fld.RED_LINK_lane1

theorem laneBit_cases (n : Nat) : laneBit n = Fld.RED_LINK_lane0 ∨ laneBit n = Fld.RED_LINK_lane1 := by
  unfold laneBit
  split
  · exact .inl rfl
  · exact .inr rfl

theorem laneBit_key (n : Nat) : (laneBit n).key = Reg.RED_LINK := by
  rcases laneBit_cases n with h | h <;> rw [h] <;> rfl

theorem isSet_laneBit_flag (s : State) (n : Nat) (up : Bool) : (s.flag (laneBit n) up).isSet (laneBit n) = up := by
  rcases laneBit_cases n with h | h <;> rw [h] <;> exact State.isSet_flag_same _ _ _ (by decide) rfl

theorem settle_laneBit (s : State) (n : Nat) : s.settle.isSet (laneBit n) = s.isSet (laneBit n) := by
  rcases laneBit_cases n with h | h <;> rw [h] <;> exact settle_isSet _ _ (by decide)

/-- What the loss of a lane does beside its bit: a record, the degraded station, and a resynchronisation that begins again where no
lane is left (R196, R229). -/
def State.laneLost (s : State) (n : Nat) : State :=
  let t := (s.note 3 196 n).degrade
  if (!t.isSet Fld.RED_LINK_lane0 && !t.isSet Fld.RED_LINK_lane1) && t.fld Fld.RED_RESYNC_phase != 0 then t.restartResync else t

theorem linkLane_eq (s : State) (n : Nat) (up : Bool) : s.linkLane n up =
    if s.isSet (laneBit n) == up then s
    else if up then s.flag (laneBit n) up else (s.flag (laneBit n) up).laneLost n := rfl

theorem restartResync_reg (s : State) {k : Nat} (hk : k ≠ Reg.RED_RESYNC) : s.restartResync.reg k = s.reg k :=
  s.reg_put_ne Fld.RED_RESYNC_phase 1 hk

theorem laneLost_reg (s : State) (n : Nat) {k : Nat} (hk : k ≠ Reg.RED_RESYNC) :
    (s.laneLost n).reg k = (s.note 3 196 n).degrade.reg k := by
  unfold State.laneLost
  simp only
  split
  · exact restartResync_reg _ hk
  · rfl

theorem laneLost_mem (s : State) (n : Nat) : (s.laneLost n).mem = s.mem ∧ (s.laneLost n).cfg = s.cfg := by
  unfold State.laneLost
  simp only
  split <;> exact ⟨rfl, rfl⟩

theorem laneLost_laneBit (s : State) (n k : Nat) : (s.laneLost n).isSet (laneBit k) = s.isSet (laneBit k) := by
  simp only [State.isSet, State.fld]
  rw [laneBit_key, laneLost_reg s n (by decide), State.degrade, State.reg_flag_ne _ _ _ (by decide)]
  rfl

theorem laneLost_degraded (s : State) (n : Nat) : (s.laneLost n).isSet Fld.SYS_STAT_degraded = true := by
  have h : (s.note 3 196 n).degrade.isSet Fld.SYS_STAT_degraded = true := State.isSet_flag_same _ _ _ (by decide) rfl
  rw [← h]
  simp only [State.isSet, State.fld]
  rw [laneLost_reg s n (by decide)]

theorem laneLost_mode (s : State) (n : Nat) : (s.laneLost n).mode = s.mode := by
  simp only [State.mode, State.fld]
  rw [laneLost_reg s n (by decide), State.degrade, State.reg_flag_ne _ _ _ (by decide)]
  rfl

theorem linkLane_completes (s : State) (n : Fin 2) (up : Bool) : Completes (exec (.linkLaneChange n up) s) fun u =>
    u.isSet (laneBit n) = up ∧ u.mode = s.mode ∧
      (up = false → s.isSet (laneBit n) = true → u.isSet Fld.SYS_STAT_degraded = true) ∧ u.mem = s.mem ∧ u.cfg = s.cfg := by
  have hflag : ∀ b, (s.flag (laneBit n) b).mode = s.mode := fun b =>
    State.fld_put_ne _ _ _ _ (by rw [laneBit_key]; decide)
  refine ⟨(s.linkLane n up).settle, rfl, ?_⟩
  beta_reduce
  rw [settle_laneBit, settle_mode, settle_isSet _ _ (by decide), settle_mem, settle_cfg, linkLane_eq]
  by_cases hs : s.isSet (laneBit n) = up
  · rw [if_pos (by simp [hs])]
    exact ⟨hs, rfl, fun hup hset => absurd (hs.symm.trans hset) (by simp [hup]), rfl, rfl⟩
  · rw [if_neg (by simpa using hs)]
    cases up with
    | true => exact ⟨isSet_laneBit_flag s n true, hflag true, nofun, rfl, rfl⟩
    | false =>
      obtain ⟨hmem, hcfg⟩ := laneLost_mem (s.flag (laneBit n) false) n
      refine ⟨?_, ?_, fun _ _ => laneLost_degraded _ _, hmem, hcfg⟩
      · exact (laneLost_laneBit _ _ _).trans (isSet_laneBit_flag s n false)
      · exact (laneLost_mode _ _).trans (hflag false)

/-- RED's own records replaced. -/
def State.withRed (s : State) (x : Red) : State := { s with red := x }

theorem withRed_reg (s : State) (x : Red) (k : Nat) : (s.withRed x).reg k = s.reg k := rfl
theorem withRed_red (s : State) (x : Red) : (s.withRed x).red = x := rfl

/-- Rejected frames counted and marked. -/
def State.crcMarked (s : State) (n : Nat) : State :=
  (s.bumpBy Fld.RED_LINK_crc_err n).flag Fld.RED_ERR_crc (decide (0 < n) || s.isSet Fld.RED_ERR_crc)

/-- The rejected frames counted and marked, their times kept. -/
def State.crcCounted (s : State) (n : Nat) (near : List Nat) : State :=
  (s.crcMarked n).withRed { s.red with crcAt := near.take 17 }

/-- The times of the frames rejected within the last 1 ms. -/
def State.crcNear (s : State) (n : Nat) : List Nat :=
  (List.replicate (min n 17) s.time ++ s.red.crcAt).filter fun t => decide (s.time < t + 1000000)

/-- What follows from the times kept: nothing, or the loss of step (R207). -/
def State.crcJudged (s : State) (n : Nat) (near : List Nat) : State :=
  let t := s.crcCounted n near
  if near.length ≤ 16 then t
  else if t.mode = mStandby then t.loseStep 8
  else if t.hasClaim && t.partnerStandby then (t.send .link 0x0358 [0, 8, 0, 0]).partnerLeft 8
  else t

theorem crcBurst_eq (s : State) (n : Nat) : s.crcBurst n = s.crcJudged n (s.crcNear n) := by
  unfold State.crcBurst
  extract_lets near t
  have hnear : near = s.crcNear n := rfl
  rw [← hnear]
  rfl

theorem crcMarked_reg (s : State) (n : Nat) {k : Nat} (hl : k ≠ Reg.RED_LINK) (he : k ≠ Reg.RED_ERR) :
    (s.crcMarked n).reg k = s.reg k := by
  rw [State.crcMarked, State.reg_flag_ne _ _ _ he, State.bumpBy, State.reg_put_ne _ _ _ hl]

theorem crcMarked_err (s : State) (n : Nat) :
    (s.crcMarked n).fld Fld.RED_LINK_crc_err = min 65535 (s.fld Fld.RED_LINK_crc_err + n) := by
  have hlt : s.fld Fld.RED_LINK_crc_err < 65536 := bits_lt _ _ _
  rw [State.crcMarked, State.flag, State.fld_put_ne _ _ _ _ (by decide), State.bumpBy, State.fld_put_same _ _ _ (by decide)]
  rw [show Fld.RED_LINK_crc_err.width = 16 from rfl,
    show Fld.RED_LINK_crc_err.hi + 1 - Fld.RED_LINK_crc_err.lo = 16 from rfl]
  split_ifs <;> omega

theorem crcMarked_isSet (s : State) {n : Nat} (h : 0 < n) : (s.crcMarked n).isSet Fld.RED_ERR_crc = true := by
  rw [State.crcMarked, State.isSet_flag_same _ _ _ (by decide) rfl]
  simp [h]

/-- What neither a register nor RED's own records hold is as before. -/
theorem crcCounted_keeps {β : Type} (p : State → β) (hput : ∀ (s : State) f v, p (s.put f v) = p s)
    (hred : ∀ (s : State) x, p (s.withRed x) = p s) (s : State) (n : Nat) (near : List Nat) :
    p (s.crcCounted n near) = p s := by
  rw [State.crcCounted, hred, State.crcMarked, State.flag, hput, State.bumpBy, hput]

theorem crcCounted_reg (s : State) (n : Nat) (near : List Nat) (k : Nat) :
    (s.crcCounted n near).reg k = (s.crcMarked n).reg k := withRed_reg _ _ _

theorem crcCounted_fld (s : State) (n : Nat) (near : List Nat) (f : Fld) :
    (s.crcCounted n near).fld f = (s.crcMarked n).fld f := by simp only [State.fld, crcCounted_reg]

theorem crcCounted_mode (s : State) (n : Nat) (near : List Nat) : (s.crcCounted n near).mode = s.mode := by
  simp only [State.mode, State.fld]
  rw [crcCounted_reg, crcMarked_reg _ _ (by decide) (by decide)]

theorem crcCounted_partnerStandby (s : State) (n : Nat) (near : List Nat) :
    (s.crcCounted n near).partnerStandby = s.partnerStandby := by
  have hsys := crcCounted_keeps (·.sys) (fun _ _ _ => rfl) (fun _ _ => rfl) s n near
  rw [State.partnerStandby, hsys, State.crcCounted, withRed_red]
  rfl

theorem crcBurst_counts {s : State} (n : Nat) (hm : s.mode ≠ mStandby) (hp : s.partnerStandby = false) :
    s.crcBurst n = s.crcCounted n (s.crcNear n) := by
  rw [crcBurst_eq, State.crcJudged]
  simp only [crcCounted_mode, crcCounted_partnerStandby, hm, hp, Bool.and_false, Bool.false_eq_true, if_false, ite_self]

theorem crcCounted_kept (s : State) (n : Nat) (near : List Nat) :
    Kept s (s.crcCounted n near) [Reg.RED_LINK, Reg.RED_ERR] := by
  have hface := crcCounted_keeps (fun s => (s.mem, s.cfg, s.pts, s.outs, s.pending)) (fun _ _ _ => rfl) (fun _ _ => rfl) s n near
  simp only [Prod.mk.injEq] at hface
  obtain ⟨hmem, hcfg, hpts, houts, hpending⟩ := hface
  refine ⟨fun k _ hk => ?_, hmem, hcfg, ⟨hpts, houts⟩, hpending⟩
  simp only [List.mem_cons, List.not_mem_nil, or_false, not_or] at hk
  rw [crcCounted_reg, crcMarked_reg s n hk.1 hk.2]

theorem crcBurst_completes {s : State} (n : BitVec 16) (hm : s.mode ≠ mStandby) (hp : s.partnerStandby = false) :
    Completes (exec (.linkCrcBurst n) s) fun u =>
      u.fld Fld.RED_LINK_crc_err = min 65535 (s.fld Fld.RED_LINK_crc_err + n.toNat) ∧
      (n ≠ 0 → u.isSet Fld.RED_ERR_crc = true) ∧ u.mode = s.mode ∧ Kept s u [Reg.RED_LINK, Reg.RED_ERR] := by
  refine ⟨(s.crcBurst n.toNat).settle, rfl, ?_⟩
  beta_reduce
  rw [settle_fld _ _ (by decide), settle_isSet _ _ (by decide), settle_mode, crcBurst_counts _ hm hp, crcCounted_mode]
  rw [crcCounted_fld, State.isSet, crcCounted_fld]
  refine ⟨crcMarked_err s _, fun hn => crcMarked_isSet s ?_, rfl, Kept.settle (crcCounted_kept s _ _)⟩
  rw [Nat.pos_iff_ne_zero]
  exact fun h0 => hn (BitVec.eq_of_toNat_eq h0)

end Sys2Proof.Machine

namespace Sys2Proof.Machine

/-! ### The leeward module loses step (R207) -/

/-- No register of SYS has changed. -/
def SysKept (s t : State) : Prop := ∀ k < 65536, t.reg k = s.reg k

theorem SysKept.refl (s : State) : SysKept s s := fun _ _ => rfl
theorem SysKept.trans {s t u : State} (h : SysKept s t) (g : SysKept t u) : SysKept s u :=
  fun k hk => (g k hk).trans (h k hk)
theorem SysKept.put (s : State) {f : Fld} (v : Nat) (h : 65536 ≤ f.key) : SysKept s (s.put f v) :=
  fun k hk => s.reg_put_ne f v fun hkf => by omega
theorem SysKept.of_regs {s t : State} (h : t.regs = s.regs) : SysKept s t := fun k _ => State.reg_congr h k
theorem SysKept.mode {s t : State} (h : SysKept s t) : t.mode = s.mode := by
  rw [State.mode, State.fld, h _ (by decide)]; rfl
theorem Within.sysKept {blocks : List Nat} {s t : State} (h : Within blocks s t) (hb : 0 ∉ blocks) : SysKept s t :=
  fun k hk => h.regs k (by rwa [Nat.div_eq_of_lt hk])

theorem SysKept.foldl {α : Type} {f : State → α → State} {xs : List α} (h : ∀ s, ∀ x ∈ xs, SysKept s (f s x)) (s : State) :
    SysKept s (xs.foldl f s) := foldl_relates .refl .trans h s

theorem SysKept.showFree (s : State) : SysKept s s.showFree :=
  ((SysKept.put s _ (by decide)).trans (.put _ _ (by decide))).trans (.put _ _ (by decide))

theorem SysKept.setCharge (s : State) (kind i v : Nat) : SysKept s (s.setCharge kind i v) := by
  unfold State.setCharge
  split_ifs <;> exact .of_regs rfl

theorem useFld_key (kind p : Nat) : 65536 ≤ (useFld kind p).key := by
  unfold useFld
  split_ifs
  · exact Nat.le_trans (by decide) (Nat.le_add_right _ _)
  · exact Nat.le_trans (by decide) (Nat.le_add_right _ _)
  · exact Nat.le_trans (by decide) (Nat.le_add_right _ _)

theorem SysKept.release (s : State) (kind i : Nat) : SysKept s (s.release kind i) := by
  unfold State.release
  split
  · exact .refl s
  · exact ((SysKept.setCharge s _ _ _).trans (.put _ _ (useFld_key _ _))).trans (.showFree _)

theorem SysKept.freeHandle (s : State) (h : Nat) : SysKept s (s.freeHandle h) := by
  unfold State.freeHandle
  split
  · exact .release s _ _
  · exact .refl s

theorem SysKept.freeMsg (s : State) (d : Nat) : SysKept s (s.freeMsg d) :=
  (SysKept.foldl (fun s h _ => .freeHandle s h) s).trans (.release _ _ _)

theorem SysKept.setCanBuf (s : State) (p b : Nat) (x : Option CanFrame) : SysKept s (s.setCanBuf p b x) :=
  (SysKept.of_regs (t := s.setCanPort p _) rfl).trans (.put _ _ (Nat.le_trans (by decide) (Nat.le_add_right _ _)))

theorem SysKept.canUnload (s : State) (p : Nat) : SysKept s (s.canUnload p) := by
  refine SysKept.foldl (fun s b _ => ?_) s
  split
  · split
    · exact (SysKept.freeMsg s _).trans (.setCanBuf _ _ _ _)
    · exact .setCanBuf s _ _ _
  · exact .refl s

theorem SysKept.canMode (s : State) (m : Nat) : SysKept s (s.canMode m) := by
  refine SysKept.foldl (fun s p hp => ?_) s
  rw [mem_upFrom] at hp
  have hstart : ∀ t : State, SysKept t ((t.setCanPort p { t.canPort p with restart := true }).canStart p m) := fun t =>
    (SysKept.of_regs rfl).trans ((canStart_within _ (by omega) m).sysKept (by decide))
  simp only
  split
  · exact .refl s
  · split
    · exact (SysKept.canUnload s p).trans (hstart _)
    · exact hstart s

/-- A mode entered from one in which the outputs are not driven. -/
theorem SysKept.plantMode (s : State) {old : Nat} (m : Nat) (hc : old ≠ mCommission) (ha : old ≠ mActive) :
    SysKept s (s.plantMode old m) := by
  have hpanel : ∀ t : State, SysKept t t.undim.usbFollow := fun t =>
    ((undim_within t).sysKept (by decide)).trans ((usbFollow_within _).sysKept (by decide))
  have hports : SysKept s (s.canMode m).undim.usbFollow := (SysKept.canMode s m).trans (hpanel _)
  unfold State.plantMode
  simp only [beq_eq_false_iff_ne.mpr hc, beq_eq_false_iff_ne.mpr ha, Bool.or_self, Bool.false_and, Bool.false_eq_true, if_false]
  split_ifs
  · exact hports
  · exact hports.trans (.of_regs rfl)

theorem enterMode_mode {s : State} {m : Nat} (hc : s.mode ≠ mCommission) (ha : s.mode ≠ mActive) (hm : m < 8)
    (hnc : m ≠ mCommission) : (s.enterMode m).mode = m := by
  have hserved := (servedShown_within ((s.leftFor m).modeShown s.mode m) m).sysKept (by decide)
  have hstart : (((s.leftFor m).modeShown s.mode m).servedShown m).startedIn m =
      ((s.leftFor m).modeShown s.mode m).servedShown m := if_pos (by simpa using hnc)
  rw [enterMode_eq, hstart, (MailOnly.notify _ _ _ _).mode, (SysKept.plantMode _ m hc ha).mode, hserved.mode,
    modeShown_mode _ _ hm]

/-- What a module that has lost step shows of it. -/
def State.lossShown (s : State) (cause : Nat) : State :=
  ((s.put Fld.RED_STATE_cause cause).put Fld.RED_STATE_veer 0).put Fld.RED_RESYNC_phase 1

/-- What such a module discards: all that was forwarded, and what it asked for. -/
def State.forgetStep (s : State) : State :=
  s.withRed { s.red with
    queue := [], joined := false, abandoned := [], ask := none, veer := none, disc := [], resyncAt := s.time }

theorem loseStep_eq (s : State) (cause : Nat) : s.loseStep cause =
    (((s.dropUnacked.send .link 0x0358 [0, wd cause, 0, 0]).enterMode mResync).lossShown cause).forgetStep := rfl

theorem lossShown_mode (s : State) (cause : Nat) : (s.lossShown cause).mode = s.mode :=
  (((SysKept.put s _ (by decide)).trans (.put _ _ (by decide))).trans (.put _ _ (by decide))).mode

theorem lossShown_cause (s : State) (cause : Nat) : (s.lossShown cause).fld Fld.RED_STATE_cause = cause % 256 := by
  rw [State.lossShown, State.fld_put_ne _ _ _ _ (by decide), State.fld_put_other _ _ _ _ (by decide) (by decide),
    State.fld_put_same _ _ _ (by decide)]
  rfl

theorem forgetStep_fld (s : State) (f : Fld) : s.forgetStep.fld f = s.fld f := rfl
theorem forgetStep_queue (s : State) : s.forgetStep.red.queue = [] := rfl

theorem loseStep_shows {s : State} (hm : s.mode = mStandby) (cause : Nat) : (s.loseStep cause).mode = mResync ∧
    (s.loseStep cause).fld Fld.RED_STATE_cause = cause % 256 ∧ (s.loseStep cause).red.queue = [] := by
  have hm' : (s.dropUnacked.send .link 0x0358 [0, wd cause, 0, 0]).mode = mStandby := hm
  have hmode := enterMode_mode (m := mResync) (by rw [hm']; decide) (by rw [hm']; decide) (by decide) (by decide)
  rw [loseStep_eq]
  exact ⟨(forgetStep_fld _ _).trans ((lossShown_mode _ _).trans hmode), (forgetStep_fld _ _).trans (lossShown_cause _ _),
    forgetStep_queue _⟩

theorem crcNear_length (s : State) {n : Nat} (h : 16 < n) : 16 < (s.crcNear n).length := by
  have hlate : (List.replicate 17 s.time).filter (fun t => decide (s.time < t + 1000000)) = List.replicate 17 s.time :=
    List.filter_eq_self.mpr fun t ht => by rw [List.eq_of_mem_replicate ht]; simp
  rw [State.crcNear, Nat.min_eq_right h, List.filter_append, hlate, List.length_append, List.length_replicate]
  omega

theorem crcBurst_stepLost {s : State} {n : Nat} (hm : s.mode = mStandby) (h : 16 < n) :
    s.crcBurst n = (s.crcCounted n (s.crcNear n)).loseStep 8 := by
  rw [crcBurst_eq, State.crcJudged]
  simp only [Nat.not_le.mpr (crcNear_length s h), crcCounted_mode, hm, if_false, if_true]

theorem crcBurst_stepLost_completes {s : State} (n : BitVec 16) (hm : s.mode = mStandby) (h : 16 < n.toNat) :
    Completes (exec (.linkCrcBurst n) s) fun u =>
      u.mode = mResync ∧ u.fld Fld.RED_STATE_cause = 8 ∧ u.red.queue = [] := by
  refine ⟨(s.crcBurst n.toNat).settle, rfl, ?_⟩
  beta_reduce
  rw [settle_mode, settle_fld _ _ (by decide), settle_red, crcBurst_stepLost hm h]
  exact loseStep_shows ((crcCounted_mode _ _ _).trans hm) 8

end Sys2Proof.Machine

namespace Sys2Proof.Machine

/-! ### A windward module's crossing ends, and its gates open (R203, R226) -/

/-- The role that the activation on a lane takes, and that of a suspended one. -/
def State.laneRole (r : Nat) (s : State) (l : Nat) : State :=
  match (s.lane l).act with
  | some a => if s.taskCold a.task then s else s.setLane l { s.lane l with act := some { a with role := r } }
  | none => s
def State.taskRole (r : Nat) (s : State) (t : Nat) : State :=
  match (s.task t).susp with
  | some (a, e) => if s.taskCold t then s else s.setTask t { s.task t with susp := some ({ a with role := r }, e) }
  | none => s

theorem setRoles_eq (s : State) (r : Nat) :
    s.setRoles r = (upFrom 0 512).foldl (State.taskRole r) ((upFrom 0 8).foldl (State.laneRole r) s) := rfl

theorem laneRole_keeps {β : Type} (p : State → β) (hprt : ∀ (s : State) x, p { s with prt := x } = p s) (r : Nat) (s : State)
    (l : Nat) : p (s.laneRole r l) = p s := by
  unfold State.laneRole
  split
  · split
    · rfl
    · exact hprt _ _
  · rfl

theorem taskRole_keeps {β : Type} (p : State → β) (hprt : ∀ (s : State) x, p { s with prt := x } = p s) (r : Nat) (s : State)
    (t : Nat) : p (s.taskRole r t) = p s := by
  unfold State.taskRole
  split
  · split
    · rfl
    · exact hprt _ _
  · rfl

theorem taskRole_lanes (r : Nat) (s : State) (t : Nat) : (s.taskRole r t).prt.lanes = s.prt.lanes := by
  unfold State.taskRole
  split
  · split <;> rfl
  · rfl

theorem setRoles_keeps {β : Type} (p : State → β) (hprt : ∀ (s : State) x, p { s with prt := x } = p s) (s : State) (r : Nat) :
    p (s.setRoles r) = p s := by
  rw [setRoles_eq, foldl_keeps p _ (taskRole_keeps p hprt r), foldl_keeps p _ (laneRole_keeps p hprt r)]

theorem setRoles_lanes {s : State} (hl : s.prt.lanes = []) (r : Nat) : (s.setRoles r).prt.lanes = [] := by
  rw [setRoles_eq, foldl_keeps (·.prt.lanes) _ (taskRole_lanes r),
    List.foldl_fixed' (fun l => by simp [State.laneRole, lane_of_none hl]), hl]

theorem withRed_prt (s : State) (x : Red) : (s.withRed x).prt = s.prt := rfl

theorem endCrossing_eq (s : State) : s.endCrossing =
    if s.red.crossing then (s.setRoles 0).withRed { (s.setRoles 0).red with crossing := false, queue := [] } else s := rfl

theorem endCrossing_keeps {β : Type} (p : State → β) (hprt : ∀ (s : State) x, p { s with prt := x } = p s)
    (hred : ∀ (s : State) q, p (s.withRed { s.red with crossing := false, queue := q }) = p s) (s : State) :
    p s.endCrossing = p s := by
  rw [endCrossing_eq]
  split
  · rw [hred, setRoles_keeps p hprt]
  · rfl

theorem endCrossing_lanes {s : State} (hl : s.prt.lanes = []) : s.endCrossing.prt.lanes = [] := by
  rw [endCrossing_eq]
  split
  · rw [withRed_prt, setRoles_lanes hl]
  · exact hl

/-- What completes on a lane whose publish gate is open. -/
def State.openGate (s : State) (l : Nat) : State := if s.gateOpen l then s.finishAct l else s

theorem openGates_eq (s : State) : s.openGates = (upFrom 0 8).foldl State.openGate s := rfl

theorem openGate_of_none {s : State} (hl : s.prt.lanes = []) (l : Nat) : s.openGate l = s :=
  if_neg (by simp [State.gateOpen, lane_of_none hl])

theorem openGates_of_none {s : State} (hl : s.prt.lanes = []) : s.openGates = s := by
  rw [openGates_eq, List.foldl_fixed' (openGate_of_none hl)]

/-! ### Heartbeats missed (R200) -/

/-- The missed heartbeat counted, and the run of missed ones. -/
def State.missCounted (s : State) (run : Nat) : State :=
  (s.bump Fld.RED_HB_missed).put Fld.RED_HB_run (min 4 (run + 1))

theorem missCounted_reg (s : State) (run : Nat) {k : Nat} (hk : k ≠ Reg.RED_HB) : (s.missCounted run).reg k = s.reg k := by
  rw [State.missCounted, State.reg_put_ne _ _ _ hk, State.bump, State.reg_put_ne _ _ _ hk]

theorem missCounted_run (s : State) (run : Nat) : (s.missCounted run).fld Fld.RED_HB_run = min 4 (run + 1) := by
  rw [State.missCounted, State.fld_put_same _ _ _ (by decide)]
  exact Nat.mod_eq_of_lt (Nat.lt_of_le_of_lt (Nat.min_le_left _ _) (by decide))

theorem satInc_lt (n v : Nat) : satInc n v < 2 ^ n := by
  have := Nat.two_pow_pos n
  unfold satInc
  split <;> omega

theorem missCounted_missed (s : State) (run : Nat) :
    (s.missCounted run).fld Fld.RED_HB_missed = satInc 16 (s.fld Fld.RED_HB_missed) := by
  rw [State.missCounted, State.fld_put_other _ _ _ _ (by decide) (by decide), State.bump, State.fld_put_same _ _ _ (by decide)]
  exact Nat.mod_eq_of_lt (satInc_lt 16 _)

theorem missCounted_keeps {β : Type} (p : State → β) (hput : ∀ (s : State) f v, p (s.put f v) = p s) (s : State) (run : Nat) :
    p (s.missCounted run) = p s := by
  rw [State.missCounted, hput, State.bump, hput]

/-- The module after the interval in which the next heartbeat, of sequence `n + 1`, did not come. -/
def State.missed (s : State) (n : Nat) : State :=
  let t := (s.runUntil (s.red.hbAt + (s.fld Fld.RED_HB_run + 1) * 10000)).missCounted (s.fld Fld.RED_HB_run)
  t.withRed { t.red with hbRx := some ((n + 1) % 65536) }

theorem missHeartbeat_eq {s : State} {n : Nat} (h : s.red.hbRx = some n) : s.missHeartbeat =
    if s.fld Fld.RED_HB_run + 1 = 4 ∧ (s.missed n).red.lost = false then (s.missed n).losePartner else s.missed n := by
  unfold State.missHeartbeat
  rw [h]
  rfl

section
variable {s : State} (hl : s.prt.lanes = []) (n : Nat)
include hl

/-- What neither time, a register nor RED's own records hold is as before. -/
theorem missed_keeps {β : Type} (p : State → β) (hput : ∀ (s : State) f v, p (s.put f v) = p s)
    (hred : ∀ (s : State) x, p (s.withRed x) = p s) (hpfc : ∀ (s : State) x, p { s with pfc := x } = p s)
    (hclk : ∀ (s : State) c f t, p { s with clk := c, timeFrac := f, time := t } = p s) : p (s.missed n) = p s := by
  rw [State.missed, hred, missCounted_keeps p hput, runUntil_idle p hpfc hclk hl]

theorem missed_red : (s.missed n).red = { s.red with hbRx := some ((n + 1) % 65536) } := by
  rw [State.missed, withRed_red, missCounted_keeps (·.red) fun _ _ _ => rfl,
    runUntil_idle (·.red) (fun _ _ => rfl) (fun _ _ _ _ => rfl) hl]

theorem missed_reg {k : Nat} (hk : k ≠ Reg.RED_HB) : (s.missed n).reg k = s.reg k := by
  rw [State.missed, withRed_reg, missCounted_reg _ _ hk, runUntil_idle (·.reg k) (fun _ _ => rfl) (fun _ _ _ _ => rfl) hl]

theorem missed_fld {f : Fld} (hf : f.key ≠ Reg.RED_HB) : (s.missed n).fld f = s.fld f := by
  rw [State.fld, missed_reg hl n hf, State.fld]

omit hl in
theorem missed_run : (s.missed n).fld Fld.RED_HB_run = min 4 (s.fld Fld.RED_HB_run + 1) := missCounted_run _ _

theorem missed_missed : (s.missed n).fld Fld.RED_HB_missed = satInc 16 (s.fld Fld.RED_HB_missed) := by
  refine (missCounted_missed _ _).trans ?_
  rw [runUntil_idle (·.fld Fld.RED_HB_missed) (fun _ _ => rfl) (fun _ _ _ _ => rfl) hl]

end

/-- The partner shown as absent and known as lost. -/
def State.partnerGone (s : State) : State :=
  (s.flag Fld.SYS_STAT_partner false).withRed { s.red with lost := true }

theorem partnerGone_reg (s : State) {k : Nat} (hk : k ≠ Reg.SYS_STAT) : s.partnerGone.reg k = s.reg k := by
  rw [State.partnerGone, withRed_reg, State.reg_flag_ne _ _ _ hk]

theorem partnerGone_mode (s : State) : s.partnerGone.mode = s.mode := by
  rw [State.mode, State.fld, partnerGone_reg s (by decide)]; rfl

theorem partnerGone_shown (s : State) : s.partnerGone.isSet Fld.SYS_STAT_partner = false :=
  State.isSet_flag_same _ _ _ (by decide) rfl

/-- A leeward module alone abandons what ran in step and asks its witness (R211). -/
def State.askAlone (s : State) : State :=
  let t := s.abandonStep.put Fld.RED_STATE_veer 1
  let u := t.withRed { t.red with ask := some ⟨1, false⟩, veer := none }
  if u.witnesses.isEmpty then u else u.send (.witness u.witPrimary) 0x0340 (u.askWords 1)

theorem losePartner_eq (s : State) : s.losePartner =
    if s.partnerGone.mode = mStandby then s.partnerGone.askAlone
    else if s.partnerGone.mode = mResync then
      (({ s.partnerGone with sys := { s.partnerGone.sys with modeAt := none } } : State).put Fld.RED_RESYNC_phase 0).enterMode mSafe
    else if s.partnerGone.inTest then s.partnerGone.abortForPartner
    else if s.partnerGone.hasClaim ∧ s.partnerStandby = true then s.partnerGone.partnerLeft 1
    else if s.partnerGone.hasClaim then s.partnerGone.endCrossing.openGates
    else s.partnerGone := rfl

theorem losePartner_standby {s : State} (hm : s.mode = mStandby) : s.losePartner = s.partnerGone.askAlone := by
  rw [losePartner_eq, partnerGone_mode, if_pos hm]

theorem losePartner_active {s : State} (hm : s.mode = mActive) (hp : s.partnerStandby = false) :
    s.losePartner = if s.partnerGone.hasClaim then s.partnerGone.endCrossing.openGates else s.partnerGone := by
  have htest : s.partnerGone.inTest = false := by
    simp only [State.inTest, State.testing, partnerGone_mode, hm, show (mActive == mSelftest) = false from rfl, Bool.false_and,
      Bool.or_self]
  rw [losePartner_eq, partnerGone_mode, hm, if_neg (by decide), if_neg (by decide), htest, hp]
  simp

theorem losePartner_active_keeps {β : Type} (p : State → β) (hprt : ∀ (s : State) x, p { s with prt := x } = p s)
    (hred : ∀ (s : State) q, p (s.withRed { s.red with crossing := false, queue := q }) = p s) {s : State}
    (hm : s.mode = mActive) (hp : s.partnerStandby = false) (hl : s.prt.lanes = []) : p s.losePartner = p s.partnerGone := by
  rw [losePartner_active hm hp]
  split
  · rw [openGates_of_none (endCrossing_lanes (s := s.partnerGone) hl), endCrossing_keeps p hprt hred]
  · rfl

theorem inProgress_of_none {s : State} (hl : s.prt.lanes = []) (hsusp : ∀ t, (s.task t).susp = none) : s.inProgress = [] :=
  List.filter_eq_nil_iff.mpr fun t _ => by simp [hsusp t, lane_of_none hl]

/-- What a leeward module that has lost its partner abandons on a lane. -/
def State.abandonLane (held : List Nat) (s : State) (l : Nat) : State :=
  match (s.lane l).act with
  | some a => if held.contains a.task then s else s.endAct l
  | none => s

theorem abandonLane_of_none {s : State} (hl : s.prt.lanes = []) (held : List Nat) (l : Nat) : s.abandonLane held l = s := by
  rw [State.abandonLane, lane_of_none hl]

/-- The activations that end so: those of the lanes, and those suspended. -/
def State.abandonTasks (s : State) (held lost : List Nat) : State :=
  lost.foldl State.endSusp ((upFrom 0 8).foldl (State.abandonLane held) s)

theorem abandonStep_eq (s : State) : ∃ q, s.abandonStep =
    let parts := s.inProgress.partition s.markerHeld
    let t := s.abandonTasks parts.1 parts.2
    t.withRed { t.red with abandoned := parts.2, queue := q } := ⟨_, rfl⟩

theorem abandonTasks_of_none {s : State} (hl : s.prt.lanes = []) (held : List Nat) : s.abandonTasks held [] = s := by
  rw [State.abandonTasks, List.foldl_fixed' (abandonLane_of_none hl held), List.foldl_nil]

/-- Where nothing is in flight, nothing but RED's own records of it changes. -/
theorem abandonStep_of_none {s : State} (hl : s.prt.lanes = []) (hsusp : ∀ t, (s.task t).susp = none) :
    ∃ q, s.abandonStep = s.withRed { s.red with abandoned := [], queue := q } := by
  obtain ⟨q, heq⟩ := abandonStep_eq s
  rw [heq, inProgress_of_none hl hsusp]
  simp only [List.partition_eq_filter_filter, List.filter_nil, abandonTasks_of_none hl]
  exact ⟨q, rfl⟩

theorem askAlone_keeps {β : Type} (p : State → β) (hsend : ∀ (s : State) c w ws, p (s.send c w ws) = p s) (s : State) :
    p s.askAlone = p ((s.abandonStep.put Fld.RED_STATE_veer 1).withRed
      { s.abandonStep.red with ask := some ⟨1, false⟩, veer := none }) := by
  unfold State.askAlone
  simp only
  split
  · rfl
  · exact hsend _ _ _ _

theorem askAlone_shows {s : State} (hl : s.prt.lanes = []) (hsusp : ∀ t, (s.task t).susp = none) :
    s.askAlone.red.lost = s.red.lost ∧ s.askAlone.red.ask = some ⟨1, false⟩ ∧ s.askAlone.fld Fld.RED_STATE_veer = 1 ∧
      s.askAlone.mode = s.mode := by
  obtain ⟨q, hq⟩ := abandonStep_of_none hl hsusp
  rw [askAlone_keeps (·.red) fun _ _ _ _ => rfl, askAlone_keeps (·.fld Fld.RED_STATE_veer) fun _ _ _ _ => rfl,
    askAlone_keeps (·.mode) fun _ _ _ _ => rfl, hq]
  refine ⟨rfl, rfl, ?_, ?_⟩
  · exact State.fld_put_same _ _ _ (by decide)
  · exact State.fld_put_ne _ _ _ _ (by decide)

theorem heartbeatMissed_none_completes {s : State} (h : s.red.hbRx = none) : Completes (exec .heartbeatMissed s) fun u =>
    u.red = s.red ∧ u.mode = s.mode ∧ Kept s u [] := by
  have hsame : s.missHeartbeat = s := by rw [State.missHeartbeat, h]
  refine ⟨s.missHeartbeat.settle, rfl, ?_⟩
  rw [hsame]
  exact ⟨settle_red s, settle_mode s, Kept.settle (Kept.of_face rfl)⟩

section
variable {s : State} {n : Nat} (hn : s.red.hbRx = some n) (hl : s.prt.lanes = [])
include hn hl

omit hl in
theorem missHeartbeat_short (hrun : s.fld Fld.RED_HB_run ≠ 3) : s.missHeartbeat = s.missed n := by
  rw [missHeartbeat_eq hn, if_neg fun h => hrun (Nat.succ.inj h.1)]

theorem missHeartbeat_fourth (hrun : s.fld Fld.RED_HB_run = 3) (hlost : s.red.lost = false) :
    s.missHeartbeat = (s.missed n).losePartner := by
  rw [missHeartbeat_eq hn, if_pos ⟨by rw [hrun], by rw [missed_red hl]; exact hlost⟩]

theorem heartbeatMissed_short_completes (hrun : s.fld Fld.RED_HB_run ≠ 3) :
    Completes (exec .heartbeatMissed s) fun u => u.red.hbRx = some ((n + 1) % 65536) ∧
      u.fld Fld.RED_HB_run = min 4 (s.fld Fld.RED_HB_run + 1) ∧ u.red.lost = s.red.lost ∧ u.mode = s.mode ∧
      u.fld Fld.RED_HB_missed = satInc 16 (s.fld Fld.RED_HB_missed) := by
  refine ⟨s.missHeartbeat.settle, rfl, ?_⟩
  beta_reduce
  rw [settle_red, settle_fld _ _ (by decide), settle_fld _ _ (by decide), settle_mode, missHeartbeat_short hn hrun,
    missed_red hl]
  exact ⟨rfl, missed_run n, rfl, missed_fld hl n (by decide), missed_missed hl n⟩

theorem heartbeatMissed_active_completes (hrun : s.fld Fld.RED_HB_run = 3) (hlost : s.red.lost = false)
    (hm : s.mode = mActive) (hp : s.partnerStandby = false) : Completes (exec .heartbeatMissed s) fun u =>
      u.red.lost = true ∧ u.isSet Fld.SYS_STAT_partner = false ∧ u.mode = mActive ∧
        u.reg Reg.RED_CLAIM = s.reg Reg.RED_CLAIM := by
  have hm' : (s.missed n).mode = mActive := (missed_fld hl n (by decide)).trans hm
  have hp' : (s.missed n).partnerStandby = false := by
    rw [State.partnerStandby, missed_red hl, missed_keeps hl n (·.sys) (fun _ _ _ => rfl) (fun _ _ => rfl) (fun _ _ => rfl)
      (fun _ _ _ _ => rfl)]
    exact hp
  have hl' : (s.missed n).prt.lanes = [] := (missed_keeps hl n (·.prt.lanes) (fun _ _ _ => rfl) (fun _ _ => rfl)
    (fun _ _ => rfl) (fun _ _ _ _ => rfl)).trans hl
  refine ⟨s.missHeartbeat.settle, rfl, ?_⟩
  beta_reduce
  rw [settle_red, settle_isSet _ _ (by decide), settle_mode, settle_reg _ _ (by decide), missHeartbeat_fourth hn hl hrun hlost,
    losePartner_active_keeps (·.red.lost) (fun _ _ => rfl) (fun _ _ => rfl) hm' hp' hl',
    losePartner_active_keeps (·.isSet Fld.SYS_STAT_partner) (fun _ _ => rfl) (fun _ _ => rfl) hm' hp' hl',
    losePartner_active_keeps (·.mode) (fun _ _ => rfl) (fun _ _ => rfl) hm' hp' hl',
    losePartner_active_keeps (·.reg Reg.RED_CLAIM) (fun _ _ => rfl) (fun _ _ => rfl) hm' hp' hl',
    partnerGone_shown, partnerGone_mode, partnerGone_reg _ (by decide), missed_reg hl n (by decide)]
  exact ⟨rfl, rfl, hm', rfl⟩

theorem heartbeatMissed_standby_completes (hrun : s.fld Fld.RED_HB_run = 3) (hlost : s.red.lost = false)
    (hm : s.mode = mStandby) (hsusp : ∀ t, (s.task t).susp = none) : Completes (exec .heartbeatMissed s) fun u =>
      u.red.lost = true ∧ u.red.ask = some ⟨1, false⟩ ∧ u.fld Fld.RED_STATE_veer = 1 ∧ u.mode = mStandby := by
  have hm' : (s.missed n).mode = mStandby := (missed_fld hl n (by decide)).trans hm
  have hprt : (s.missed n).partnerGone.prt = s.prt := missed_keeps hl n (·.prt) (fun _ _ _ => rfl) (fun _ _ => rfl)
    (fun _ _ => rfl) (fun _ _ _ _ => rfl)
  have hsusp' : ∀ t, ((s.missed n).partnerGone.task t).susp = none := fun t => by
    rw [State.task, hprt]
    exact hsusp t
  obtain ⟨hgone, hask, hveer, hmode⟩ := askAlone_shows (by rw [hprt]; exact hl) hsusp'
  refine ⟨s.missHeartbeat.settle, rfl, ?_⟩
  beta_reduce
  rw [settle_red, settle_fld _ _ (by decide), settle_mode, missHeartbeat_fourth hn hl hrun hlost, losePartner_standby hm']
  exact ⟨hgone, hask, hveer, hmode.trans ((partnerGone_mode _).trans hm')⟩

end

end Sys2Proof.Machine

namespace Sys2Proof.Machine

/-! ### What a windward module makes of its partner's mode (R207, R228) -/

/-- Of a module's own state, what decides how it meets a claim. -/
def State.veerFace (s : State) := (s.sys, s.red.hbRx, s.red.lost, s.red.veer)

/-- No register of another block has changed, and of RED's only those that show the partner's state; nothing has come onto a lane. -/
structure PartnerOnly (s t : State) : Prop where
  regs : ∀ k, k / 65536 ≠ 2 → k ≠ Reg.RED_STATE → k ≠ Reg.RED_RESYNC → t.reg k = s.reg k
  face : t.veerFace = s.veerFace
  lanes : s.prt.lanes = [] → t.prt.lanes = []

theorem partnerJoined_eq (s : State) : s.partnerJoined =
    let t := ((s.withRed { s.red with peerMode := mStandby }).bump Fld.RED_RESYNC_count).put Fld.RED_RESYNC_phase 0
    ({ t with nv := { t.nv with resyncs := t.fld Fld.RED_RESYNC_count } } : State).notify 0x0383 none [wd t.sys.peer] := rfl

namespace PartnerOnly

theorem refl (s : State) : PartnerOnly s s := ⟨fun _ _ _ _ => rfl, rfl, id⟩

theorem trans {s t u : State} (h : PartnerOnly s t) (g : PartnerOnly t u) : PartnerOnly s u :=
  ⟨fun k hm hs hr => (g.regs k hm hs hr).trans (h.regs k hm hs hr), g.face.trans h.face, fun hl => g.lanes (h.lanes hl)⟩

theorem put (s : State) {f : Fld} (v : Nat) (h : f.key = Reg.RED_STATE ∨ f.key = Reg.RED_RESYNC) : PartnerOnly s (s.put f v) := by
  refine ⟨fun k _ hs hr => s.reg_put_ne f v fun hk => ?_, rfl, id⟩
  rcases h with h | h
  · exact hs (hk.trans h)
  · exact hr (hk.trans h)

theorem peerMode (s : State) (m : Nat) : PartnerOnly s (s.withRed { s.red with peerMode := m }) :=
  ⟨fun _ _ _ _ => rfl, rfl, id⟩

theorem of_offMail {s t : State} (h : ∀ {β : Type} (p : State → β), OffMail p → p t = p s) : PartnerOnly s t where
  regs k hk _ _ := h (·.reg k) (offMail_reg hk)
  face := h State.veerFace ⟨fun _ _ _ _ => rfl, fun _ _ => rfl, fun _ _ => rfl, fun _ _ _ => rfl⟩
  lanes hl := (h (·.prt.lanes) ⟨fun _ _ _ _ => rfl, fun _ _ => rfl, fun _ _ => rfl, fun _ _ _ => rfl⟩).trans hl

theorem notify (s : State) (op : Nat) (part : Option Nat) (pay : List Word) : PartnerOnly s (s.notify op part pay) :=
  of_offMail fun _ h => h.notify s op part pay

theorem answerVeers (s : State) : PartnerOnly s s.answerVeers := of_offMail fun _ h => h.answerVeers s

theorem endCrossing (s : State) : PartnerOnly s s.endCrossing where
  regs k _ _ _ := endCrossing_keeps (·.reg k) (fun _ _ => rfl) (fun _ _ => rfl) s
  face := endCrossing_keeps State.veerFace (fun _ _ => rfl) (fun _ _ => rfl) s
  lanes := endCrossing_lanes

theorem nv (s : State) (x : Nv) : PartnerOnly s { s with nv := x } := ⟨fun _ _ _ _ => rfl, rfl, id⟩

theorem partnerJoined (s : State) : PartnerOnly s s.partnerJoined := by
  have hshown : PartnerOnly s (((s.withRed { s.red with peerMode := mStandby }).bump Fld.RED_RESYNC_count).put
      Fld.RED_RESYNC_phase 0) := ((peerMode s mStandby).trans (put _ _ (.inr rfl))).trans (put _ 0 (.inr rfl))
  rw [partnerJoined_eq]
  exact hshown.trans ((nv _ _).trans (notify _ _ _ _))

theorem partnerLeft {s : State} (hv : s.red.veer = none) (hl : s.prt.lanes = []) (cause : Nat) :
    PartnerOnly s (s.partnerLeft cause) := by
  have hleft : PartnerOnly s ((s.endCrossing.put Fld.RED_STATE_cause cause).notify 0x0382 none [wd cause]) :=
    ((endCrossing s).trans (put _ _ (.inl rfl))).trans (notify _ _ _ _)
  unfold State.partnerLeft
  simp only [hv, Option.isSome_none, Bool.false_and, Bool.false_eq_true, if_false]
  rw [openGates_of_none]
  · exact hleft.trans (peerMode _ _)
  · exact hleft.lanes hl

end PartnerOnly

/-- The partner's mode told: it is there. -/
def State.peerTold (s : State) (m : Nat) : State := s.withRed { s.red with peerMode := m, lost := false }

theorem peerModeSeen_eq {s : State} (h : s.handingOver = false) (m : Nat) : s.peerModeSeen m =
    let t := s.peerTold m
    if !t.hasClaim then
      (if t.mode == mStandby && s.red.peerMode == mCommission && m != mCommission then t.releaseForces else t)
    else if s.partnerStandby && m != mStandby && m != mActive then
      (t.withRed { t.red with peerMode := s.red.peerMode }).partnerLeft 2
    else if m != mStandby && m != mActive then t.endCrossing
    else if !s.partnerStandby && m == mStandby && t.red.crossing && t.red.veer.isNone then t.answerVeers
    else if !s.partnerStandby && m == mStandby && t.fld Fld.RED_RESYNC_phase != 0 then t.partnerJoined
    else t := by
  unfold State.peerModeSeen State.peerTold
  simp only [h]
  rfl

/-- Outside a veer, of an ACTIVE module. -/
theorem peerModeSeen_partnerOnly {s : State} (hm : s.mode = mActive) (hv : s.red.veer = none) (hl : s.prt.lanes = []) (m : Nat) :
    PartnerOnly (s.peerTold m) (s.peerModeSeen m) := by
  have hover : s.handingOver = false := by rw [State.handingOver, hv]
  have hleeward : ((s.peerTold m).mode == mStandby) = false := by rw [show (s.peerTold m).mode = s.mode from rfl, hm]; rfl
  have hold : PartnerOnly (s.peerTold m) ((s.peerTold m).withRed { (s.peerTold m).red with peerMode := s.red.peerMode }) :=
    .peerMode _ _
  rw [peerModeSeen_eq hover]
  simp only [hleeward, Bool.false_and, Bool.false_eq_true, if_false]
  split_ifs
  · exact .refl _
  · exact hold.trans (.partnerLeft (by exact hv) (by exact hl) 2)
  · exact .endCrossing _
  · exact .answerVeers _
  · exact .partnerJoined _
  · exact .refl _

/-! ### Heartbeats taken (R197, R199, R200, R217) -/

theorem takeTrip_reg (s : State) (ns : Nat) {k : Nat} (hk : k ≠ Reg.RED_RTT) : (s.takeTrip ns).reg k = s.reg k := by
  unfold State.takeTrip State.peak
  simp only
  split
  · exact (State.reg_put_ne _ _ _ hk).trans (State.reg_put_ne _ _ _ hk)
  · exact State.reg_put_ne _ _ _ hk

theorem takeTrip_red (s : State) (ns : Nat) : ∃ xs, (s.takeTrip ns).red = { s.red with trips := xs } := by
  unfold State.takeTrip State.peak
  simp only
  split <;> exact ⟨_, rfl⟩

theorem takeTrip_keeps {β : Type} (p : State → β) (hput : ∀ (s : State) f v, p (s.put f v) = p s)
    (hred : ∀ (s : State) x, p (s.withRed x) = p s) (s : State) (ns : Nat) : p (s.takeTrip ns) = p s := by
  unfold State.takeTrip State.peak
  simp only
  split
  · exact (hput _ _ _).trans ((hput _ _ _).trans (hred s _))
  · exact (hput _ _ _).trans (hred s _)

/-- The partner shown as present, with its claim; the run of missed heartbeats ends. -/
def State.partnerShown (s : State) (claim : Word) : State :=
  ((s.flag Fld.SYS_STAT_partner true).put Fld.RED_HB_run 0).setReg Reg.RED_CLAIM_PEER claim

/-- A heartbeat noted, before what its mode and its claim tell. -/
def State.beatNoted (s : State) (seq : Nat) (claim : Word) (trip : Nat) : State :=
  let t := (s.partnerShown claim).takeTrip trip
  t.withRed { t.red with hbRx := some seq, hbAt := t.time, peerClaimed := claim != 0 }

theorem partnerShown_reg (s : State) (claim : Word) {k : Nat} (hs : k ≠ Reg.SYS_STAT) (hh : k ≠ Reg.RED_HB)
    (hc : k ≠ Reg.RED_CLAIM_PEER) : (s.partnerShown claim).reg k = s.reg k := by
  rw [State.partnerShown, State.reg_setReg, if_neg hc, State.reg_put_ne _ _ _ hh, State.reg_flag_ne _ _ _ hs]

theorem partnerShown_claim (s : State) (claim : Word) : (s.partnerShown claim).reg Reg.RED_CLAIM_PEER = claim := by
  rw [State.partnerShown, State.reg_setReg, if_pos rfl]

theorem partnerShown_present (s : State) (claim : Word) : (s.partnerShown claim).isSet Fld.SYS_STAT_partner = true := by
  rw [State.isSet, State.partnerShown, State.fld_setReg_ne _ _ _ (by decide), State.fld_put_ne _ _ _ _ (by decide)]
  exact State.isSet_flag_same _ _ _ (by decide) rfl

theorem partnerShown_run (s : State) (claim : Word) : (s.partnerShown claim).fld Fld.RED_HB_run = 0 := by
  rw [State.partnerShown, State.fld_setReg_ne _ _ _ (by decide), State.fld_put_same _ _ _ (by decide)]
  rfl

theorem beatNoted_reg (s : State) (seq : Nat) (claim : Word) (trip : Nat) {k : Nat} (hk : k ≠ Reg.RED_RTT) :
    (s.beatNoted seq claim trip).reg k = (s.partnerShown claim).reg k := by
  rw [State.beatNoted, withRed_reg, takeTrip_reg _ _ hk]

theorem beatNoted_keeps {β : Type} (p : State → β) (hput : ∀ (s : State) f v, p (s.put f v) = p s)
    (hreg : ∀ (s : State) k v, p (s.setReg k v) = p s) (hred : ∀ (s : State) x, p (s.withRed x) = p s) (s : State) (seq : Nat)
    (claim : Word) (trip : Nat) : p (s.beatNoted seq claim trip) = p s := by
  rw [State.beatNoted, hred, takeTrip_keeps p hput hred, State.partnerShown, hreg, hput, State.flag, hput]

theorem beatNoted_red (s : State) (seq : Nat) (claim : Word) (trip : Nat) :
    (s.beatNoted seq claim trip).red.hbRx = some seq ∧ (s.beatNoted seq claim trip).red.veer = s.red.veer := by
  obtain ⟨xs, htrip⟩ := takeTrip_red (s.partnerShown claim) trip
  rw [State.beatNoted, withRed_red, htrip]
  exact ⟨rfl, rfl⟩

/-- What a heartbeat that is taken makes of the module: a veer loser, or one that follows its partner's time, or one whose gates
may open. -/
def State.meetClaim (s : State) (claim : Word) (cycles ack : Nat) (timeLow : Word) (trip : Nat) : State :=
  if s.losesTo claim then s.veerLoser
  else if s.followsPartner then
    let t := s.followCycle cycles trip
    (t.takeAck ack).measure refPartner ((timeLow - lo32 t.time).toInt + (trip / 2 : Nat))
  else s.takeAck ack

theorem takeHeartbeat_first {s : State} (hpair : s.sys.pins.pair = true) (hrx : s.red.hbRx = none) (seq mode : Nat) (claim : Word)
    (cycles ack : Nat) (timeLow : Word) (trip : Nat) : s.takeHeartbeat seq mode claim cycles ack timeLow trip =
      ((s.beatNoted seq claim trip).peerModeSeen mode).meetClaim claim cycles ack timeLow trip := by
  unfold State.takeHeartbeat
  simp only [hpair, hrx, Bool.not_true, Bool.or_self, Bool.false_eq_true, if_false]
  rfl

theorem takeHeartbeat_outOfSequence {s : State} {n : Nat} (hrx : s.red.hbRx = some n) (hlost : s.red.lost = false) {seq : Nat}
    (hseq : seq ≠ (n + 1) % 65536) (mode : Nat) (claim : Word) (cycles ack : Nat) (timeLow : Word) (trip : Nat) :
    s.takeHeartbeat seq mode claim cycles ack timeLow trip = s := by
  unfold State.takeHeartbeat
  simp only [hrx, hlost, beq_eq_false_iff_ne.mpr hseq, Bool.or_self, Bool.not_false, Bool.or_true, if_true]

theorem heartbeatReceive_outOfSequence_completes {s : State} {n : Nat} (hrx : s.red.hbRx = some n) (hlost : s.red.lost = false)
    {seq : BitVec 16} (hseq : seq.toNat ≠ (n + 1) % 65536) (trip : BitVec 16) (mode : Fin 8) (claim cycles ack t : Word) :
    Completes (exec (.heartbeatReceive seq mode claim cycles ack t trip) s) fun u =>
      u.red = s.red ∧ u.sent = s.sent ∧ u.mode = s.mode ∧ Kept s u [] := by
  refine ⟨(s.takeHeartbeat seq.toNat mode claim cycles.toNat ack.toNat t trip.toNat).settle, rfl, ?_⟩
  rw [takeHeartbeat_outOfSequence hrx hlost hseq]
  exact ⟨settle_red s, settle_sent s, settle_mode s, Kept.settle (Kept.of_face rfl)⟩

/-- Where a claim meets an ACTIVE module outside a veer and a hold-up, the higher one stays (R217). -/
theorem losesTo_of_active {s : State} (hm : s.mode = mActive) (hv : s.red.veer = none) (hh : s.sys.holdup = false) {claim : Word}
    (hne : claim ≠ s.reg Reg.RED_CLAIM) : s.losesTo claim = decide ((s.reg Reg.RED_CLAIM).toNat < claim.toNat) := by
  have hover : s.handingOver = false := by rw [State.handingOver, hv]
  have hyield : s.yieldedInHoldup = false := by rw [State.yieldedInHoldup, hh, Bool.false_and]
  rw [State.losesTo, hm, hover, hyield, beq_eq_false_iff_ne.mpr hne]
  simp

/-- `t` is `s` with a first heartbeat noted and its mode told, outside a veer and a hold-up. -/
structure BeatTaken (s : State) (seq : Nat) (claim : Word) (t : State) : Prop where
  lanes : t.prt.lanes = []
  hbRx : t.red.hbRx = some seq
  lost : t.red.lost = false
  veer : t.red.veer = none
  holdup : t.sys.holdup = false
  regs : ∀ k, k / 65536 ≠ 2 → k ≠ Reg.RED_STATE → k ≠ Reg.RED_RESYNC → k ≠ Reg.RED_RTT →
    t.reg k = (s.partnerShown claim).reg k

theorem beatTaken_of_first {s : State} (hl : s.prt.lanes = []) (hm : s.mode = mActive) (hv : s.red.veer = none)
    (hh : s.sys.holdup = false) (seq mode : Nat) (claim : Word) (trip : Nat) :
    BeatTaken s seq claim ((s.beatNoted seq claim trip).peerModeSeen mode) := by
  obtain ⟨hrx, hveer⟩ := beatNoted_red s seq claim trip
  have hlanes : (s.beatNoted seq claim trip).prt.lanes = [] := (beatNoted_keeps (·.prt.lanes) (fun _ _ _ => rfl)
    (fun _ _ _ => rfl) (fun _ _ => rfl) s seq claim trip).trans hl
  have hsys := beatNoted_keeps (·.sys) (fun _ _ _ => rfl) (fun _ _ _ => rfl) (fun _ _ => rfl) s seq claim trip
  have hmode : (s.beatNoted seq claim trip).mode = mActive := by
    rw [State.mode, State.fld, beatNoted_reg _ _ _ _ (by decide), partnerShown_reg _ _ (by decide) (by decide) (by decide)]
    exact hm
  obtain ⟨hregs, hface, hkept⟩ := peerModeSeen_partnerOnly hmode (hveer.trans hv) hlanes mode
  simp only [State.veerFace, Prod.mk.injEq] at hface
  obtain ⟨fsys, frx, flost, fveer⟩ := hface
  exact {
    lanes := hkept hlanes
    hbRx := frx.trans hrx
    lost := flost
    veer := fveer.trans (hveer.trans hv)
    holdup := (congrArg Sys.holdup (fsys.trans hsys)).trans hh
    regs := fun k h2 hs hr ht => (hregs k h2 hs hr).trans (beatNoted_reg s seq claim trip ht) }

namespace BeatTaken
variable {s t : State} {seq : Nat} {claim : Word} (h : BeatTaken s seq claim t)
include h

theorem fld {f : Fld} (h2 : f.key / 65536 ≠ 2) (hs : f.key ≠ Reg.RED_STATE) (hr : f.key ≠ Reg.RED_RESYNC)
    (ht : f.key ≠ Reg.RED_RTT) : t.fld f = (s.partnerShown claim).fld f := by
  rw [State.fld, h.regs _ h2 hs hr ht, State.fld]

theorem ownClaim : t.reg Reg.RED_CLAIM = s.reg Reg.RED_CLAIM := by
  rw [h.regs _ (by decide) (by decide) (by decide) (by decide), partnerShown_reg _ _ (by decide) (by decide) (by decide)]

theorem peerClaim : t.reg Reg.RED_CLAIM_PEER = claim := by
  rw [h.regs _ (by decide) (by decide) (by decide) (by decide), partnerShown_claim]

theorem present : t.isSet Fld.SYS_STAT_partner = true := by
  rw [State.isSet, h.fld (by decide) (by decide) (by decide) (by decide)]
  exact partnerShown_present s _

theorem run : t.fld Fld.RED_HB_run = 0 := by
  rw [h.fld (by decide) (by decide) (by decide) (by decide), partnerShown_run]

theorem mode : t.mode = s.mode := by
  rw [State.mode, h.fld (by decide) (by decide) (by decide) (by decide), State.fld,
    partnerShown_reg _ _ (by decide) (by decide) (by decide)]
  rfl

theorem meets_lower (hm : s.mode = mActive) (hlt : claim.toNat < (s.reg Reg.RED_CLAIM).toNat) (cycles ack : Nat)
    (timeLow : Word) (trip : Nat) :
    t.meetClaim claim cycles ack timeLow trip = t.withRed { t.red with fwdAck := max t.red.fwdAck ack } := by
  have hne : claim ≠ t.reg Reg.RED_CLAIM := by
    rw [h.ownClaim]
    exact fun heq => absurd hlt (by rw [heq]; exact Nat.lt_irrefl _)
  have hmode := h.mode.trans hm
  have hwins : t.losesTo claim = false := by
    rw [losesTo_of_active hmode h.veer h.holdup hne, h.ownClaim]
    exact decide_eq_false (Nat.lt_asymm hlt)
  have halone : t.followsPartner = false := by rw [State.followsPartner, hmode]; rfl
  rw [State.meetClaim, hwins, halone]
  exact openGates_of_none (s := t.withRed { t.red with fwdAck := max t.red.fwdAck ack }) h.lanes

theorem meets_higher (hm : s.mode = mActive) (hlt : (s.reg Reg.RED_CLAIM).toNat < claim.toNat) (cycles ack : Nat)
    (timeLow : Word) (trip : Nat) : t.meetClaim claim cycles ack timeLow trip = t.resetModule rcVeerLoser 0 := by
  have hne : claim ≠ t.reg Reg.RED_CLAIM := by
    rw [h.ownClaim]
    exact fun heq => absurd hlt (by rw [heq]; exact Nat.lt_irrefl _)
  have hloses : t.losesTo claim = true := by
    rw [losesTo_of_active (h.mode.trans hm) h.veer h.holdup hne, h.ownClaim]
    exact decide_eq_true hlt
  rw [State.meetClaim, hloses, if_pos rfl, State.veerLoser]

end BeatTaken

section
variable {s : State} (hpair : s.sys.pins.pair = true) (hl : s.prt.lanes = []) (hrx : s.red.hbRx = none) (hm : s.mode = mActive)
  (hv : s.red.veer = none) (hh : s.sys.holdup = false) (seq trip : BitVec 16) (mode : Fin 8) {claim : Word} (cycles ack t : Word)
include hpair hl hrx hm hv hh

theorem heartbeatReceive_lower_completes (hlt : claim.toNat < (s.reg Reg.RED_CLAIM).toNat) :
    Completes (exec (.heartbeatReceive seq mode claim cycles ack t trip) s) fun u => u.mode = mActive ∧
      u.red.hbRx = some seq.toNat ∧ u.red.lost = false ∧ u.reg Reg.RED_CLAIM_PEER = claim ∧
      u.reg Reg.RED_CLAIM = s.reg Reg.RED_CLAIM ∧ u.isSet Fld.SYS_STAT_partner = true ∧ u.fld Fld.RED_HB_run = 0 := by
  have htaken := beatTaken_of_first hl hm hv hh seq.toNat mode claim trip.toNat
  refine ⟨(s.takeHeartbeat seq.toNat mode claim cycles.toNat ack.toNat t trip.toNat).settle, rfl, ?_⟩
  beta_reduce
  rw [settle_mode, settle_red, settle_reg _ _ (by decide), settle_reg _ _ (by decide), settle_isSet _ _ (by decide),
    settle_fld _ _ (by decide), takeHeartbeat_first hpair hrx, htaken.meets_lower hm hlt]
  exact ⟨htaken.mode.trans hm, htaken.hbRx, htaken.lost, htaken.peerClaim, htaken.ownClaim, htaken.present, htaken.run⟩

theorem heartbeatReceive_higher_completes (hlt : (s.reg Reg.RED_CLAIM).toNat < claim.toNat) :
    Completes (exec (.heartbeatReceive seq mode claim cycles ack t trip) s) fun u => u.mode = mBoot ∧
      u.fld Fld.SYS_RSTCAUSE_cause = rcVeerLoser ∧ u.reg Reg.RED_CLAIM = 0 := by
  have htaken := beatTaken_of_first hl hm hv hh seq.toNat mode claim trip.toNat
  refine ⟨(s.takeHeartbeat seq.toNat mode claim cycles.toNat ack.toNat t trip.toNat).settle, rfl, ?_⟩
  beta_reduce
  rw [settle_mode, settle_fld _ _ (by decide), settle_reg _ _ (by decide), takeHeartbeat_first hpair hrx,
    htaken.meets_higher hm hlt, resetModule_mode, resetModule_cause _ (by decide), resetModule_reg _ _ _ (by decide) (by decide)]
  exact ⟨rfl, rfl, rfl⟩

end

/-- Settles O26, a command at a time. A heartbeat in sequence is noted first; what its mode tells leaves the claims alone, so that
the two claims decide (`BeatTaken`). Of the loss of a partner with nothing in flight only RED's own records are left. -/
theorem heartbeatsAndLink : Obligations.HeartbeatsAndLink := by
  intro s
  refine ⟨heartbeatSend_completes, heartbeatSend_silent_completes, fun seq trip mode claim cycles ack t hpair => ⟨?_, ?_⟩,
    heartbeatMissed_none_completes, fun n hn hl => ⟨heartbeatMissed_short_completes hn hl, ?_, ?_⟩, heartbeatWatchdog_completes s,
    linkLane_completes s, crcBurst_completes, crcBurst_stepLost_completes⟩
  · exact fun n hrx hlost hseq => heartbeatReceive_outOfSequence_completes hrx hlost hseq trip mode claim cycles ack t
  · exact fun hl hrx hm hv hh => ⟨heartbeatReceive_lower_completes hpair hl hrx hm hv hh seq trip mode cycles ack t,
      heartbeatReceive_higher_completes hpair hl hrx hm hv hh seq trip mode cycles ack t⟩
  · exact heartbeatMissed_active_completes hn hl
  · exact fun hrun hlost hm hrest => heartbeatMissed_standby_completes hn hl hrun hlost hm hrest.susp

end Sys2Proof.Machine

namespace Sys2Proof.Machine

/-! ### An image command of mailbox 66 (R168, R613) -/

/-- A module in SAFE, its mailboxes empty. -/
def State.safeIdle : State := State.reset.put Fld.SYS_MODE_mode mSafe

theorem safeIdle_untaken (j : Nat) : State.safeIdle.canTake j = false := by
  by_cases h : j < 68
  · have every : ∀ j : Fin 68, State.safeIdle.canTake j = false := by decide
    exact every ⟨j, h⟩
  · simp [State.canTake, State.served, servedIn, h]

theorem safeIdle_open : State.safeIdle.Open 66 where
  who := by decide
  conn := by decide
  alone := fun j _ => safeIdle_untaken j
  served := by decide
  inStep := by decide
  empty := by decide
  room := by decide
  line := rfl

/-- No row of the catalogue permits the partner's mailbox (R95). -/
theorem safeIdle_denies : State.safeIdle.refuses 66 0x0801 [0, 0, 0] = some (stDenied, 0x0006, noArg) := by decide

/-- Refutes O22: an IMG_OPEN of mailbox 66 is the windward module's, and acts or does nothing without any answer, though the catalogue
denies the command to that mailbox. -/
theorem not_refusedRequestsAreAnswered : ¬ Obligations.RefusedRequestsAreAnswered := by
  intro h
  obtain ⟨u, ran, ⟨-, head⟩, -⟩ := h State.safeIdle (.imgOpen 66 0 0 0 0) 66 0x0801 0 stDenied 0x0006 noArg [0, 0, 0] rfl
    (by decide) safeIdle_open safeIdle_denies
  obtain rfl : State.safeIdle.settle = u := Host.Outcome.next.inj ran
  rw [settle_fld _ _ (by decide)] at head
  exact absurd head (by decide)

end Sys2Proof.Machine

namespace Sys2Proof.Machine

/-! ### A block published while a lane that is no lane runs (R110, R514, R519) -/

/-- The record of a publishing service of version 3 on ETH 2: transmit queue 0, a period of 1 ms. -/
def publisherRec : List Word := [0x70809, 0, 0, 0, 0, 1]

/-- A module in ACTIVE that drives no claim, 1 ms before service 0 publishes again, while lane 51968 runs an activation: that lane's
PRT_RUNUSED, by the register map's stride, is RED_CLAIM. -/
def State.farPublisher : State :=
  let active := State.reset.put Fld.SYS_MODE_mode mActive
  (({ active with prt := { active.prt with
      lanes := [(51968, { act := some { task := 0, part := 0, trig := { src := 0 } } })] } }).setRec 0x10 0x100 publisherRec).setSvc 0
    { newest := some [], sentAt := some 0 }

/-- Word 0 of what goes out first. -/
def State.firstWord (s : State) : Option Word := s.outside.head?.bind (·.ws.head?)

theorem settle_firstWord (s : State) : s.settle.firstWord = s.firstWord := by
  simp only [State.firstWord, State.outside, settle_sent]

/-- The block says that the module is windward. -/
theorem farPublisher_block : (State.farPublisher.classicPublish 0).firstWord = some 0x4034A43 := by decide +kernel

/-- Refutes O53: the station status byte of a published block is that of the period's end, and a lane that is no lane counts its time
into RED_CLAIM meanwhile. -/
theorem not_networkFramesAndConnections : ¬ Obligations.NetworkFramesAndConnections := by
  intro h
  obtain ⟨-, -, -, -, -, ⟨-, publishes⟩, -⟩ := h State.farPublisher 0 0 0 [] none rfl (by decide)
  obtain ⟨u, ran, -, -, block⟩ := (publishes 0 (by decide)).2 [] 0 (by decide) (by decide) (.inl (by decide)) (by decide)
  obtain rfl : (State.farPublisher.classicPublish 0).settle = u := Host.Outcome.next.inj ran
  have first : (State.farPublisher.classicPublish 0).settle.firstWord = some 0x34A43 := by
    rw [State.firstWord, block]
    decide +kernel
  rw [settle_firstWord, farPublisher_block] at first
  exact absurd first (by decide)

end Sys2Proof.Machine

namespace Sys2Proof.Machine

/-! ### Words of memory read after they were stored (R238) -/

theorem word_congr {s t : State} {a : Nat} (h : ∀ i, a ≤ i → i < a + 4 → t.byte i = s.byte i) : t.word a = s.word a := by
  have same : t.bytes a 4 = s.bytes a 4 := List.map_congr_left fun i hi => by
    rw [mem_upFrom] at hi
    exact h i hi.1 hi.2
  rw [State.word, State.word, same]

theorem words_congr {s t : State} {a n : Nat} (h : ∀ i, a ≤ i → i < a + 4 * n → t.byte i = s.byte i) :
    t.words a n = s.words a n :=
  List.map_congr_left fun i hi => by
    rw [mem_upFrom] at hi
    exact word_congr fun j hj hj4 => h j (by omega) (by omega)

theorem words_of_mem {s t : State} (h : t.mem = s.mem) (a n : Nat) : t.words a n = s.words a n :=
  words_congr fun i _ _ => by rw [State.byte, State.byte, h]

theorem word_setWord_same (s : State) (a : Nat) (v : Word) : (s.setWord a v).word a = v := by
  have h0 : (s.setWord a v).byte a = BitVec.ofNat 8 v.toNat := by
    simp [State.setWord, byte_setBytes, leBytes]
  have h1 : (s.setWord a v).byte (a + 1) = BitVec.ofNat 8 (v.toNat / 256) := by
    simp [State.setWord, byte_setBytes, leBytes]
  have h2 : (s.setWord a v).byte (a + 1 + 1) = BitVec.ofNat 8 (v.toNat / 256 / 256) := by
    have hsub : a + 1 + 1 - a = 2 := by omega
    simp [State.setWord, byte_setBytes, leBytes, hsub, Nat.add_assoc]
  have h3 : (s.setWord a v).byte (a + 1 + 1 + 1) = BitVec.ofNat 8 (v.toNat / 256 / 256 / 256) := by
    have hsub : a + 1 + 1 + 1 - a = 3 := by omega
    simp [State.setWord, byte_setBytes, leBytes, hsub, Nat.add_assoc]
  apply BitVec.eq_of_toNat_eq
  have hv := v.isLt
  simp only [State.word, State.bytes, upFrom, List.map_cons, List.map_nil, h0, h1, h2, h3, leNat, wd, BitVec.toNat_ofNat]
  omega

/-- A word outside the one stored. -/
theorem word_setWord_out (s : State) {a b : Nat} (v : Word) (h : b + 4 ≤ a ∨ a + 4 ≤ b) : (s.setWord a v).word b = s.word b :=
  word_congr fun i _ _ => byte_setWord_out s a i v (by omega)

theorem byte_setWords_out (ws : List Word) (s : State) {a i : Nat} (h : i < a ∨ a + 4 * ws.length ≤ i) :
    (s.setWords a ws).byte i = s.byte i := by
  induction ws generalizing s a with
  | nil => rfl
  | cons w ws ih =>
    rw [List.length_cons] at h
    exact (ih _ (by omega)).trans (byte_setWord_out s a i w (by omega))

/-- A word of those stored. -/
theorem word_setWords (ws : List Word) (s : State) (a : Nat) {i : Nat} (h : i < ws.length) :
    (s.setWords a ws).word (a + 4 * i) = wAt ws i := by
  induction ws generalizing s a i with
  | nil => simp at h
  | cons w ws ih =>
    rw [State.setWords]
    rcases i with _ | i
    · exact (word_congr fun j _ _ => byte_setWords_out ws _ (by omega)).trans (word_setWord_same s a w)
    · rw [show a + 4 * (i + 1) = a + 4 + 4 * i by omega, ih _ _ (by simpa using h)]
      rfl

theorem upFrom_eq_range' (a n : Nat) : upFrom a n = List.range' a n := by
  induction n generalizing a with
  | zero => rfl
  | succ n ih => simp [upFrom, List.range'_succ, ih]

/-- The words stored, and those from the word `k` of them on. -/
theorem words_setWords (s : State) (a k n : Nat) (ws : List Word) (h : k + n ≤ ws.length) :
    (s.setWords a ws).words (a + 4 * k) n = (ws.drop k).take n := by
  apply List.ext_getElem
  · simp [State.words]; omega
  · intro i hi hi'
    have hin : i < n := by simpa [State.words] using hi
    have hlt : k + i < ws.length := by omega
    simp only [State.words, List.getElem_map, upFrom_eq_range', List.getElem_range', List.getElem_take, List.getElem_drop]
    rw [show a + 4 * k + 4 * (0 + 1 * i) = a + 4 * (k + i) by omega, word_setWords _ _ _ hlt, wAt,
      List.getD_eq_getElem _ _ hlt]

end Sys2Proof.Machine

namespace Sys2Proof.Machine

/-! ### What serving one mailbox touches (R78, R79) -/

/-- The registers of mailbox `m`, and its doorbell's. -/
def mailboxKeys (m : Nat) : List Nat :=
  [Reg.MBX_REQ_HEAD m, Reg.MBX_REQ_TAIL m, Reg.MBX_RSP_HEAD m, Reg.MBX_RSP_TAIL m, Reg.MBX_STAT m, Reg.MBX_DOORBELL (m / 32)]

/-- What the checks of a request and the records read, beyond registers and memory. -/
def State.beyondMail (s : State) :=
  (s.cfg, s.sys, s.nv, s.fw.sessions, s.fw.images, s.fw.forces, s.red.lost, s.red.peerMode)

/-- Between `s` and `t` only the registers, the rings and the bookkeeping of mailbox `m` have changed, of what others read. -/
structure OfMailbox (m : Nat) (s t : State) : Prop where
  regs : ∀ k, k ∉ mailboxKeys m → t.reg k = s.reg k
  boxes : ∀ j, j ≠ m → t.mbox j = s.mbox j
  mem : ∀ a, a < 0x100000000 ∨ 0x100110000 ≤ a → t.byte a = s.byte a
  rest : t.beyondMail = s.beyondMail

namespace OfMailbox
variable {m : Nat}

theorem refl (s : State) : OfMailbox m s s := ⟨fun _ _ => rfl, fun _ _ => rfl, fun _ _ => rfl, rfl⟩

theorem trans {s t u : State} (h : OfMailbox m s t) (g : OfMailbox m t u) : OfMailbox m s u :=
  ⟨fun k hk => (g.regs k hk).trans (h.regs k hk), fun j hj => (g.boxes j hj).trans (h.boxes j hj),
    fun a ha => (g.mem a ha).trans (h.mem a ha), g.rest.trans h.rest⟩

theorem put (s : State) {f : Fld} (v : Nat) (h : f.key ∈ mailboxKeys m) : OfMailbox m s (s.put f v) :=
  ⟨fun _ hk => s.reg_put_ne f v fun hkf => hk (hkf ▸ h), fun _ _ => rfl, fun _ _ => rfl, rfl⟩

theorem setMbox (s : State) (x : Mbox) : OfMailbox m s (s.setMbox m x) :=
  ⟨fun _ _ => rfl, fun _ hj => (mbox_setMbox s m _ x).trans (if_neg hj), fun _ _ => rfl, rfl⟩

/-- Words stored in the rings of a mailbox. -/
theorem setWords (s : State) {a : Nat} {ws : List Word} (ha : 0x100000000 ≤ a) (hn : a + 4 * ws.length ≤ 0x100110000) :
    OfMailbox m s (s.setWords a ws) where
  regs k _ := setWords_keeps (·.reg k) (fun _ _ => rfl) ws s a
  boxes j _ := setWords_keeps (·.mbox j) (fun _ _ => rfl) ws s a
  mem i hi := byte_setWords_out ws s (by omega)
  rest := setWords_keeps State.beyondMail (fun _ _ => rfl) ws s a

theorem forward (s : State) (kind : Nat) (ws : List Word) : OfMailbox m s (s.forward kind ws) := by
  unfold State.forward
  split
  · exact ⟨fun _ _ => rfl, fun _ _ => rfl, fun _ _ => rfl, rfl⟩
  · exact refl s

/-- Station firmware's own records of slots handed out, of the stream and of the round. -/
theorem firmware (s : State) (d : List (Nat × List Word)) (st : List (Nat × Nat × List Word)) (n : Nat) :
    OfMailbox m s { s with fw := { s.fw with delivered := d, stream := st, roundNext := n } } :=
  ⟨fun _ _ => rfl, fun _ _ => rfl, fun _ _ => rfl, rfl⟩

theorem showRings (s : State) : OfMailbox m s (s.showRings m) :=
  (put s _ (by simp [mailboxKeys, Fld.MBX_STAT_rsp_full])).trans (put _ _ (by simp [mailboxKeys, Fld.MBX_STAT_req_full]))

theorem ring (s : State) (head part : Nat) : OfMailbox m s (s.ring m head part) := by
  refine trans (put s head ?_) (trans (put _ _ ?_) (trans (put _ part ?_) (showRings _)))
  · simp [mailboxKeys, Fld.MBX_REQ_HEAD_head]
  · simp [mailboxKeys, Fld.MBX_DOORBELL_ring]
  · simp [mailboxKeys, Fld.MBX_STAT_part]

theorem handOut (s : State) : OfMailbox m s (s.handOut m) := by
  unfold State.handOut
  split
  · exact refl s
  · refine trans (firmware s _ s.fw.stream s.fw.roundNext) (trans (put _ _ ?_) (showRings _))
    simp [mailboxKeys, Fld.MBX_RSP_TAIL_tail]

theorem slotRange {m : Nat} (hm : m < 68) (i : Nat) : 0x100000000 ≤ reqSlot m i ∧ reqSlot m i + 256 ≤ rspSlot m 0 ∧
    rspSlot m 0 ≤ rspSlot m i ∧ rspSlot m i + 256 ≤ 0x100110000 := by
  simp only [reqSlot, rspSlot]
  omega

theorem writeRequest (hm : m < 68) (s : State) (op tag : Nat) (ws : List Word) :
    OfMailbox m s (s.writeRequest m op tag ws) := by
  obtain ⟨hlo, hreq, hrsp, hhi⟩ := slotRange hm (s.fld (Fld.MBX_REQ_HEAD_head m))
  refine trans (setWords s hlo ?_) (ring _ _ _)
  have hlen : (ws.take 60).length ≤ 60 := List.length_take_le _ _
  simp only [List.length_append, List.length_cons, List.length_nil]
  omega

theorem readStream (s : State) : OfMailbox 64 s s.readStream := by
  unfold State.readStream
  split
  · exact refl s
  · split
    · exact refl s
    · exact trans (firmware s s.fw.delivered _ s.fw.roundNext) (writeRequest (by decide) _ _ _ _)

theorem following (s : State) : OfMailbox m s (State.following m s) := by
  unfold State.following
  split
  · next h => exact h ▸ readStream s
  · exact refl s

theorem placeSlot (hm : m < 68) (s : State) (w0 : Word) (flags status part : Nat) {pay : List Word} (hp : pay.length ≤ 60) :
    OfMailbox m s (s.placeSlot m w0 flags status part pay) := by
  obtain ⟨hlo, hreq, hrsp, hhi⟩ := slotRange hm (s.fld (Fld.MBX_RSP_HEAD_head m))
  have slot : ∀ (ws : List Word) x v, ws.length = 4 + pay.length →
      OfMailbox m s ((((s.setWords (rspSlot m (s.fld (Fld.MBX_RSP_HEAD_head m))) ws).setMbox m x).put
        (Fld.MBX_RSP_HEAD_head m) v).showRings m) := fun ws x v hws => by
    refine trans (setWords s (by omega) (by omega)) (trans (setMbox _ x) (trans (put _ v ?_) (showRings _)))
    simp [mailboxKeys, Fld.MBX_RSP_HEAD_head]
  unfold State.placeSlot
  simp only
  split_ifs
  · exact trans (slot _ _ _ (by simp; omega)) (forward _ _ _)
  · exact trans (trans (slot _ _ _ (by simp; omega)) (forward _ _ _)) (handOut _)
  · exact trans (slot _ _ _ (by simp; omega)) (handOut _)

variable {s t : State} (h : OfMailbox m s t)
include h

theorem mode (hm : m < 68) : t.mode = s.mode := by
  refine fld_of_reg (h.regs _ ?_)
  simp only [mailboxKeys, Fld.SYS_MODE_mode, Reg.SYS_MODE, Reg.MBX_REQ_HEAD, Reg.MBX_REQ_TAIL, Reg.MBX_RSP_HEAD, Reg.MBX_RSP_TAIL,
    Reg.MBX_STAT, Reg.MBX_DOORBELL, List.mem_cons, List.not_mem_nil, or_false]
  omega

/-- A register of another mailbox's rings. -/
theorem otherReg (hm : m < 68) {j d : Nat} (hj : j < 68) (hne : j ≠ m) (hd : d < 0x20) :
    t.reg (0x20000 + d + 0x20 * j) = s.reg (0x20000 + d + 0x20 * j) := by
  refine h.regs _ ?_
  simp only [mailboxKeys, Reg.MBX_REQ_HEAD, Reg.MBX_REQ_TAIL, Reg.MBX_RSP_HEAD, Reg.MBX_RSP_TAIL, Reg.MBX_STAT, Reg.MBX_DOORBELL,
    List.mem_cons, List.not_mem_nil, or_false]
  omega

/-- What station firmware may take from the other mailboxes is as before. -/
theorem canTake (hm : m < 68) {j : Nat} (hne : j ≠ m) : t.canTake j = s.canTake j := by
  by_cases hj : j < 68
  · have hfld : ∀ f : Fld, ∀ d < 0x20, f.key = 0x20000 + d + 0x20 * j → t.fld f = s.fld f := fun f d hd hf =>
      fld_of_reg (hf ▸ h.otherReg hm hj hne hd)
    have hhead := hfld (Fld.MBX_REQ_HEAD_head j) 0 (by omega) rfl
    have htail := hfld (Fld.MBX_REQ_TAIL_tail j) 4 (by omega) rfl
    have hrhead := hfld (Fld.MBX_RSP_HEAD_head j) 8 (by omega) rfl
    have hrtail := hfld (Fld.MBX_RSP_TAIL_tail j) 12 (by omega) rfl
    simp only [State.canTake, State.served, State.reqCount, State.rspRoom, State.rspCount, h.mode hm, h.boxes j hne, hhead, htail,
      hrhead, hrtail]
    rfl
  · simp [State.canTake, State.served, servedIn, hj]

end OfMailbox

end Sys2Proof.Machine

namespace Sys2Proof.Machine

/-! ### A round that one mailbox takes part in (R80) -/

theorem takeRequest_idle {s : State} {m : Nat} (h : s.canTake m = false) : s.takeRequest m = s := by
  simp [State.takeRequest, h]

theorem foldl_takeRequest_idle {s : State} (l : List Nat) (h : ∀ j ∈ l, s.canTake j = false) :
    l.foldl State.takeRequest s = s := by
  induction l with
  | nil => rfl
  | cons j l ih =>
    rw [List.foldl_cons, takeRequest_idle (h j List.mem_cons_self)]
    exact ih fun i hi => h i (List.mem_cons_of_mem _ hi)

/-- The order of a round visits every mailbox once. -/
theorem nodup_order (r : Nat) : ((upFrom 0 68).map fun i => (r + i) % 68).Nodup := by
  rw [upFrom_eq_range']
  refine List.Nodup.map_on (fun i hi j hj hij => ?_) (List.nodup_range' ..)
  simp only [List.mem_range'_1] at hi hj
  omega

theorem mem_order (r : Nat) {m : Nat} (hm : m < 68) : m ∈ (upFrom 0 68).map fun i => (r + i) % 68 := by
  rw [List.mem_map]
  refine ⟨(m + 68 - r % 68) % 68, ?_, by omega⟩
  rw [mem_upFrom]
  omega

/-- A round in which one mailbox has a request, and no other has one after it. -/
theorem mailboxRound_only {s : State} {m : Nat} (hm : m < 68) (can : s.canTake m = true)
    (alone : ∀ j, j ≠ m → s.canTake j = false) (after : ∀ j, j ≠ m → (s.takeRequest m).canTake j = false) :
    s.mailboxRound = { s.takeRequest m with fw := { (s.takeRequest m).fw with roundNext := (m + 1) % 68 } } := by
  obtain ⟨a, b, hab⟩ := List.append_of_mem (mem_order s.fw.roundNext hm)
  have distinct := nodup_order s.fw.roundNext
  rw [hab, List.nodup_append, List.nodup_cons] at distinct
  obtain ⟨-, ⟨hb, -⟩, ha⟩ := distinct
  have before : ∀ j ∈ a, s.canTake j = false := fun j hj => alone j (ha j hj m List.mem_cons_self)
  have first : ((upFrom 0 68).map fun i => (s.fw.roundNext + i) % 68).find? s.canTake = some m := by
    rw [List.find?_eq_some_iff_append]
    exact ⟨can, a, b, hab, fun j hj => by simp [before j hj]⟩
  have rest : ((upFrom 0 68).map fun i => (s.fw.roundNext + i) % 68).foldl State.takeRequest s = s.takeRequest m := by
    rw [hab, List.foldl_append, foldl_takeRequest_idle a before, List.foldl_cons]
    exact foldl_takeRequest_idle b fun j hj => after j fun h => hb (h ▸ hj)
  simp only [State.mailboxRound, first, rest]

end Sys2Proof.Machine

namespace Sys2Proof.Machine

/-! ### What a slot and a ring hold after they were written (R79, R85) -/

theorem reg_showRings (s : State) (m : Nat) {k : Nat} (h : k ≠ Reg.MBX_STAT m) : (s.showRings m).reg k = s.reg k :=
  (State.reg_put_ne _ _ _ h).trans (State.reg_put_ne _ _ _ h)

theorem fld_showRings (s : State) (m : Nat) {f : Fld} (h : f.key ≠ Reg.MBX_STAT m) : (s.showRings m).fld f = s.fld f :=
  fld_of_reg (reg_showRings s m h)

/-- The ring's state bits lie beside its partition. -/
theorem part_showRings (s : State) (m : Nat) : (s.showRings m).fld (Fld.MBX_STAT_part m) = s.fld (Fld.MBX_STAT_part m) :=
  (State.fld_put_other _ _ _ _ (.inr (Nat.lt_of_sub_eq_succ rfl)) (Nat.lt_of_sub_eq_succ rfl)).trans
    (State.fld_put_other _ _ _ _ (.inr (Nat.lt_of_sub_eq_succ rfl)) (Nat.lt_of_sub_eq_succ rfl))

theorem mem_showRings (s : State) (m : Nat) : (s.showRings m).mem = s.mem := rfl

theorem mbox_put (s : State) (f : Fld) (v m : Nat) : (s.put f v).mbox m = s.mbox m := rfl

theorem mbox_showRings (s : State) (m j : Nat) : (s.showRings m).mbox j = s.mbox j := rfl

theorem mbox_ring (s : State) (m head part j : Nat) : (s.ring m head part).mbox j = s.mbox j := rfl

theorem mbox_writeRequest (s : State) (m op tag : Nat) (ws : List Word) (j : Nat) :
    (s.writeRequest m op tag ws).mbox j = s.mbox j := by
  rw [State.writeRequest, mbox_ring]
  exact setWords_keeps (·.mbox j) (fun _ _ => rfl) _ s _

theorem mem_setMbox (s : State) (m : Nat) (x : Mbox) : (s.setMbox m x).mem = s.mem := rfl

theorem mem_forward (s : State) (kind : Nat) (ws : List Word) : (s.forward kind ws).mem = s.mem := by
  unfold State.forward
  split <;> rfl

theorem fld_forward (s : State) (kind : Nat) (ws : List Word) (f : Fld) : (s.forward kind ws).fld f = s.fld f := by
  unfold State.forward
  split <;> rfl

theorem mbox_forward (s : State) (kind : Nat) (ws : List Word) (m : Nat) : (s.forward kind ws).mbox m = s.mbox m := by
  unfold State.forward
  split <;> rfl

theorem mem_handOut (s : State) (m : Nat) : (s.handOut m).mem = s.mem := by
  unfold State.handOut
  split <;> rfl

theorem rspHead_handOut (s : State) (m : Nat) :
    (s.handOut m).fld (Fld.MBX_RSP_HEAD_head m) = s.fld (Fld.MBX_RSP_HEAD_head m) := by
  unfold State.handOut
  split
  · rfl
  · rw [fld_showRings _ _ (by simp [Fld.MBX_RSP_HEAD_head, Reg.MBX_RSP_HEAD, Reg.MBX_STAT]),
      State.fld_put_ne _ _ _ _ (by simp [Fld.MBX_RSP_HEAD_head, Fld.MBX_RSP_TAIL_tail, Reg.MBX_RSP_HEAD, Reg.MBX_RSP_TAIL])]
    rfl

/-- The words of the slot that a response takes. -/
def State.responseWords (s : State) (m : Nat) (w0 : Word) (flags status part : Nat) (pay : List Word) : List Word :=
  [w0, wd (4 * pay.length % 65536 + flags * 65536),
    wd (status % 256 + part % 256 * 256 + (s.mbox m).rspSeq % 65536 * 65536), 0] ++ pay

theorem mem_placeSlot (s : State) (m : Nat) (w0 : Word) (flags status part : Nat) (pay : List Word) :
    (s.placeSlot m w0 flags status part pay).mem =
      (s.setWords (rspSlot m (s.fld (Fld.MBX_RSP_HEAD_head m))) (s.responseWords m w0 flags status part pay)).mem := by
  unfold State.placeSlot
  simp only
  split_ifs
  · simp only [mem_forward, mem_showRings, State.put_mem, mem_setMbox, State.responseWords]
  · simp only [mem_handOut, mem_forward, mem_showRings, State.put_mem, mem_setMbox, State.responseWords]
  · simp only [mem_handOut, mem_showRings, State.put_mem, mem_setMbox, State.responseWords]

theorem rspHead_placeSlot (s : State) (m : Nat) (w0 : Word) (flags status part : Nat) (pay : List Word) :
    (s.placeSlot m w0 flags status part pay).fld (Fld.MBX_RSP_HEAD_head m) = (s.fld (Fld.MBX_RSP_HEAD_head m) + 1) % 65536 := by
  have placed : ∀ (t : State), ((t.put (Fld.MBX_RSP_HEAD_head m) (s.fld (Fld.MBX_RSP_HEAD_head m) + 1)).showRings m).fld
      (Fld.MBX_RSP_HEAD_head m) = (s.fld (Fld.MBX_RSP_HEAD_head m) + 1) % 65536 := fun t => by
    rw [fld_showRings _ _ (by simp [Fld.MBX_RSP_HEAD_head, Reg.MBX_RSP_HEAD, Reg.MBX_STAT])]
    exact State.fld_put_same _ _ _ (by decide : (15 : Nat) < 32)
  unfold State.placeSlot
  simp only
  split_ifs
  · rw [fld_forward, placed]
  · rw [rspHead_handOut, fld_forward, placed]
  · rw [rspHead_handOut, placed]

/-- The one request of a mailbox's line is answered at once (R86). -/
theorem respond_alone {s : State} {m id tag op : Nat} (a : Answer) (h : (s.mbox m).line = [⟨id, tag, op, none⟩]) :
    ∃ t, OfMailbox m s t ∧ t.regs = s.regs ∧ (t.mbox m).rspSeq = (s.mbox m).rspSeq ∧
      s.respond ⟨m, id⟩ a = t.placeSlot m (wd (op + tag * 65536)) a.flags a.status (s.stamp m) a.payload := by
  have taken : s.respond ⟨m, id⟩ a = (s.setMbox m { s.mbox m with line := [⟨id, tag, op, some a⟩] }).flushLine m 1 := by
    simp [State.respond, h]
  refine ⟨(s.setMbox m { s.mbox m with line := [⟨id, tag, op, some a⟩] }).setMbox m { s.mbox m with line := [] },
    (OfMailbox.setMbox s _).trans (.setMbox _ _), rfl, ?_, ?_⟩
  · rw [mbox_setMbox, if_pos rfl]
  · rw [taken]
    simp only [State.flushLine, mbox_setMbox, if_true]
    rfl

/-- The sequence number that the next request of a mailbox carries, behind those that wait. -/
def State.reqSeq (s : State) (m : Nat) : Nat :=
  ((match (s.mbox m).seqBase with | some b => b + 1 | none => 0) + s.reqCount m) % 65536

/-- One request written to an empty ring and taken off it, its slot handed on (R80). -/
def State.drawn (s : State) (m op tag : Nat) (ws : List Word) : State :=
  (((s.writeRequest m op tag ws).put (Fld.MBX_REQ_TAIL_tail m) (s.fld (Fld.MBX_REQ_TAIL_tail m) + 1)).showRings m).forward fwMailbox
    [wd (m + 0x100), wd (s.fld (Fld.MBX_REQ_TAIL_tail m)), wd (op + tag * 65536), wd (s.reqSeq m)]

/-- One request written to an empty ring, as its own checks find it: in the line, and in step (R80, R85). -/
def State.admitted (s : State) (m op tag : Nat) (ws : List Word) : State :=
  let s1 := ((s.drawn m op tag ws).joinLine m tag op).1
  s1.setMbox m { s1.mbox m with seqBase := some (s.reqSeq m) }

section
variable {s : State} {m op tag : Nat} {ws : List Word}

theorem admitted_ofMailbox (hm : m < 68) : OfMailbox m s (s.admitted m op tag ws) := by
  refine (OfMailbox.writeRequest hm s op tag ws).trans ((OfMailbox.put _ _ ?_).trans ((OfMailbox.showRings _).trans
    ((OfMailbox.forward _ _ _).trans ((OfMailbox.setMbox _ _).trans (.setMbox _ _)))))
  simp [mailboxKeys, Fld.MBX_REQ_TAIL_tail]

theorem mbox_drawn (j : Nat) : (s.drawn m op tag ws).mbox j = s.mbox j := by
  rw [State.drawn, mbox_forward, mbox_showRings, mbox_put, mbox_writeRequest]

theorem admitted_mbox : (s.admitted m op tag ws |>.mbox m) = { s.mbox m with
    line := (s.mbox m).line ++ [⟨(s.mbox m).nextId, tag, op, none⟩], nextId := (s.mbox m).nextId + 1,
    seqBase := some (s.reqSeq m) } := by
  unfold State.admitted State.joinLine
  rw [mbox_setMbox, if_pos rfl, mbox_setMbox, if_pos rfl, mbox_drawn]

/-- A register of the mailbox that neither its request's index nor its state stands in. -/
theorem reg_ring (s : State) (m head part : Nat) {k : Nat} (h1 : k ≠ Reg.MBX_REQ_HEAD m) (h2 : k ≠ Reg.MBX_DOORBELL (m / 32))
    (h3 : k ≠ Reg.MBX_STAT m) : (s.ring m head part).reg k = s.reg k := by
  rw [State.ring, reg_showRings _ _ h3, State.reg_put_ne _ _ _ (by exact h3), State.putBit, State.reg_put_ne _ _ _ (by exact h2),
    State.reg_put_ne _ _ _ (by exact h1)]

theorem reg_writeRequest {k : Nat} (h1 : k ≠ Reg.MBX_REQ_HEAD m) (h2 : k ≠ Reg.MBX_DOORBELL (m / 32))
    (h3 : k ≠ Reg.MBX_STAT m) : (s.writeRequest m op tag ws).reg k = s.reg k := by
  rw [State.writeRequest, reg_ring _ _ _ _ h1 h2 h3]
  exact setWords_keeps (·.reg k) (fun _ _ => rfl) _ s _

/-- The index of the request ring and the indices of the response ring. -/
theorem ringKeys (_hm : m < 68) {k : Nat} (hk : k = Reg.MBX_REQ_TAIL m ∨ k = Reg.MBX_RSP_HEAD m ∨ k = Reg.MBX_RSP_TAIL m) :
    k ≠ Reg.MBX_REQ_HEAD m ∧ k ≠ Reg.MBX_DOORBELL (m / 32) ∧ k ≠ Reg.MBX_STAT m := by
  simp only [Reg.MBX_REQ_HEAD, Reg.MBX_REQ_TAIL, Reg.MBX_RSP_HEAD, Reg.MBX_RSP_TAIL, Reg.MBX_STAT, Reg.MBX_DOORBELL] at hk ⊢
  omega

theorem fld_writeRequest (hm : m < 68) {f : Fld}
    (hk : f.key = Reg.MBX_REQ_TAIL m ∨ f.key = Reg.MBX_RSP_HEAD m ∨ f.key = Reg.MBX_RSP_TAIL m) :
    (s.writeRequest m op tag ws).fld f = s.fld f := by
  obtain ⟨h1, h2, h3⟩ := ringKeys hm hk
  exact fld_of_reg (reg_writeRequest h1 h2 h3)

theorem reqHead_ring (hm : m < 68) (s : State) (head part : Nat) :
    (s.ring m head part).fld (Fld.MBX_REQ_HEAD_head m) = head % 65536 := by
  have hne : Reg.MBX_REQ_HEAD m ≠ Reg.MBX_STAT m ∧ Reg.MBX_REQ_HEAD m ≠ Reg.MBX_DOORBELL (m / 32) := by
    simp only [Reg.MBX_REQ_HEAD, Reg.MBX_STAT, Reg.MBX_DOORBELL]
    omega
  rw [State.ring, fld_showRings _ _ (by exact hne.1), State.fld_put_ne _ _ _ _ (by exact hne.1), State.putBit,
    State.fld_put_ne _ _ _ _ (by exact hne.2)]
  exact State.fld_put_same _ _ _ (by decide : (15 : Nat) < 32)

theorem part_ring (s : State) (m head part : Nat) : (s.ring m head part).fld (Fld.MBX_STAT_part m) = part % 64 := by
  rw [State.ring, part_showRings]
  exact State.fld_put_same _ _ _ (by decide : (13 : Nat) < 32)

theorem reqHead_writeRequest (hm : m < 68) :
    (s.writeRequest m op tag ws).fld (Fld.MBX_REQ_HEAD_head m) = (s.fld (Fld.MBX_REQ_HEAD_head m) + 1) % 65536 := by
  rw [State.writeRequest, reqHead_ring hm, Nat.mod_mod]

theorem fld_lt (s : State) (f : Fld) : s.fld f < 2 ^ (f.hi + 1 - f.lo) := bits_lt _ _ _

/-- An empty ring has its indices at one place. -/
theorem head_of_empty (h : s.reqCount m = 0) : s.fld (Fld.MBX_REQ_HEAD_head m) = s.fld (Fld.MBX_REQ_TAIL_tail m) := by
  have hhead : s.fld (Fld.MBX_REQ_HEAD_head m) < 65536 := fld_lt s _
  have htail : s.fld (Fld.MBX_REQ_TAIL_tail m) < 65536 := fld_lt s _
  simp only [State.reqCount] at h
  omega

theorem mem_ring (s : State) (m head part : Nat) : (s.ring m head part).mem = s.mem := rfl

/-- The words of the slot that a request takes. -/
def State.requestWords (s : State) (m op tag : Nat) (ws : List Word) : List Word :=
  [wd (op + tag * 65536), wd (4 * ws.length % 65536), wd ((if m < 64 then 0 else m) * 256 + s.reqSeq m * 65536), 0] ++ ws.take 60

theorem mem_writeRequest : (s.writeRequest m op tag ws).mem =
    (s.setWords (reqSlot m (s.fld (Fld.MBX_REQ_HEAD_head m))) (s.requestWords m op tag ws)).mem := by
  rw [State.writeRequest, mem_ring]
  rfl

/-- A request in an empty ring can be taken. -/
theorem canTake_written (h : s.Open m) : (s.writeRequest m op tag ws).canTake m = true := by
  have hm := h.who
  have hmode : (s.writeRequest m op tag ws).mode = s.mode := (OfMailbox.writeRequest hm s op tag ws).mode hm
  have hserved : servedIn s.mode m = true := h.served
  have hhead : s.fld (Fld.MBX_REQ_HEAD_head m) < 65536 := fld_lt s _
  have hroom := h.room
  have hstep : 64 ≤ m ∨ s.mode ≠ mStandby ∧ s.mode ≠ mResync := (Nat.lt_or_ge m 64).elim (fun hlt => .inr (h.inStep hlt)) .inl
  simp only [State.rspCount] at hroom
  simp only [State.canTake, State.served, State.reqCount, State.rspRoom, State.rspCount, hmode, hserved, reqHead_writeRequest hm,
    fld_writeRequest hm (.inl (rfl : (Fld.MBX_REQ_TAIL_tail m).key = _)),
    fld_writeRequest hm (.inr (.inl (rfl : (Fld.MBX_RSP_HEAD_head m).key = _))),
    fld_writeRequest hm (.inr (.inr (rfl : (Fld.MBX_RSP_TAIL_tail m).key = _))), mbox_writeRequest, h.line, ← head_of_empty h.empty,
    List.length_nil, Bool.and_eq_true, Bool.or_eq_true, decide_eq_true_eq, bne_iff_ne, ne_eq, true_and]
  refine ⟨⟨?_, ?_⟩, hstep⟩
  · omega
  · omega

/-- The request's words, read back from its slot. -/
theorem requestWords_read (h : s.reqCount m = 0) (hws : ws.length ≤ 60) :
    (s.writeRequest m op tag ws).words (reqSlot m (s.fld (Fld.MBX_REQ_TAIL_tail m))) 4 =
        [wd (op + tag * 65536), wd (4 * ws.length % 65536), wd ((if m < 64 then 0 else m) * 256 + s.reqSeq m * 65536), 0] ∧
      (s.writeRequest m op tag ws).words (reqSlot m (s.fld (Fld.MBX_REQ_TAIL_tail m)) + 16) ws.length = ws := by
  have hlen : (s.requestWords m op tag ws).length = 4 + ws.length := by
    simp [State.requestWords, hws]; omega
  rw [← head_of_empty h]
  constructor
  · rw [words_of_mem mem_writeRequest]
    exact words_setWords _ _ 0 4 _ (by omega)
  · rw [words_of_mem mem_writeRequest]
    refine (words_setWords _ _ 4 _ _ (by omega)).trans ?_
    simp [State.requestWords, List.take_of_length_le hws]

theorem bits_wd (n hi lo : Nat) (hn : n < 2 ^ 32) : bits (wd n) hi lo = n / 2 ^ lo % 2 ^ (hi + 1 - lo) := by
  rw [bits, wd, BitVec.toNat_ofNat, Nat.mod_eq_of_lt hn, Nat.shiftRight_eq_div_pow]

/-- The header words of a request written by its sender pass the first checks of R613. -/
theorem header_of_written {m len seq : Nat} (hm : m < 68) (hlen : len ≤ 60) (hseq : seq < 65536) :
    headerRefused (wd (4 * len % 65536)) (wd ((if m < 64 then 0 else m) * 256 + seq * 65536)) 0 = none := by
  have hpart : (if m < 64 then 0 else m) < 68 := by split <;> omega
  generalize (if m < 64 then 0 else m) = p at hpart
  simp only [headerRefused, bits_wd _ _ _ (show 4 * len % 65536 < 2 ^ 32 by omega),
    bits_wd _ _ _ (show p * 256 + seq * 65536 < 2 ^ 32 by omega), firstRefused]
  have h1 : 4 * len % 65536 / 2 ^ 16 % 2 ^ (31 + 1 - 16) = 0 := by omega
  have h2 : (p * 256 + seq * 65536) / 2 ^ 0 % 2 ^ (7 + 1 - 0) = 0 := by omega
  have h3 : 4 * len % 65536 / 2 ^ 0 % 2 ^ (15 + 1 - 0) = 4 * len := by omega
  rw [h1, h2, h3]
  simp
  omega

/-- What a request of an open mailbox comes to: its checks and its command, and what follows in the stream (R85, R613). -/
theorem takeRequest_written (h : s.Open m) (hop : op < 65536) (htag : tag < 65536) (hws : ws.length ≤ 60) :
    (s.writeRequest m op tag ws).takeRequest m = State.following m ((s.admitted m op tag ws).unless ⟨m, (s.mbox m).nextId⟩
      ((s.admitted m op tag ws).refuses m op ws) fun t => t.runCommand ⟨m, (s.mbox m).nextId⟩ op ws) := by
  have hm := h.who
  obtain ⟨hheader, hpay⟩ := requestWords_read (op := op) (tag := tag) h.empty hws
  have hseq : s.reqSeq m < 65536 := Nat.mod_lt _ (by decide)
  have hpart : (if m < 64 then 0 else m) < 68 := by split <;> omega
  have hw0 : op + tag * 65536 < 2 ^ 32 := by omega
  have hcount : min 60 (bits (wd (4 * ws.length % 65536)) 15 0 / 4) = ws.length := by
    rw [bits_wd _ _ _ (by omega)]
    omega
  have hopBits : bits (wd (op + tag * 65536)) 15 0 = op := by
    rw [bits_wd _ _ _ hw0]
    omega
  have htagBits : bits (wd (op + tag * 65536)) 31 16 = tag := by
    rw [bits_wd _ _ _ hw0]
    omega
  have hseqBits : bits (wd ((if m < 64 then 0 else m) * 256 + s.reqSeq m * 65536)) 31 16 = s.reqSeq m := by
    generalize (if m < 64 then 0 else m) = p at hpart
    rw [bits_wd _ _ _ (by omega)]
    omega
  have htail := fld_writeRequest (s := s) (op := op) (tag := tag) (ws := ws) hm (.inl (rfl : (Fld.MBX_REQ_TAIL_tail m).key = _))
  have hjoin : ((s.drawn m op tag ws).joinLine m tag op).2 = ⟨m, (s.mbox m).nextId⟩ := by
    rw [State.joinLine, mbox_drawn]
  have hbase : (((s.drawn m op tag ws).joinLine m tag op).1.mbox m).seqBase = (s.mbox m).seqBase := by
    rw [State.joinLine, mbox_setMbox, if_pos rfl, mbox_drawn]
  have hstep : (match (s.mbox m).seqBase with | some b => s.reqSeq m != (b + 1) % 65536 | none => false) = false := by
    unfold State.reqSeq
    rw [h.empty]
    cases (s.mbox m).seqBase with
    | none => rfl
    | some b => simp
  unfold State.takeRequest
  rw [canTake_written h]
  simp only [Bool.not_true, Bool.false_eq_true, if_false, htail, hheader, wBits, wAt, List.getD_cons_zero, List.getD_cons_succ,
    hopBits, htagBits, hseqBits, hcount, hpay]
  rw [← State.drawn, hjoin, hbase, header_of_written hm hws hseq]
  refine congrArg (State.following m) ((if_neg ?_).trans rfl)
  exact Bool.not_eq_true _ ▸ hstep

end

end Sys2Proof.Machine

namespace Sys2Proof.Machine

/-! ### The answer of a request at an open mailbox (R79, R613) -/

section
variable {s t : State} {m op tag : Nat} {ws : List Word}

/-- The checks of R613 up to the session do not see the rings. -/
theorem OfMailbox.refuses (h : OfMailbox m s t) (hm : m < 68) (j op : Nat) (ws : List Word) :
    t.refuses j op ws = s.refuses j op ws := by
  have hrest := h.rest
  simp only [State.beyondMail, Prod.mk.injEq] at hrest
  obtain ⟨-, hsys, hnv, hsessions, himages, -, hlost, hpeer⟩ := hrest
  simp only [State.refuses, State.modePermits, State.imageMode, State.partnerStandby, State.session, State.imgSession, h.mode hm,
    hsys, hnv, hsessions, himages, hlost, hpeer]

theorem OfMailbox.word (h : OfMailbox m s t) {a : Nat} (ha : a + 4 ≤ 0x100000000 ∨ 0x100110000 ≤ a) : t.word a = s.word a :=
  word_congr fun i hi hi4 => h.mem i (by omega)

/-- The size of a record in force does not depend on the rings. -/
theorem OfMailbox.cfgSize (h : OfMailbox m s t) (type i k : Nat) : (t.cfgView type i k).1 = (s.cfgView type i k).1 := by
  have hrest := h.rest
  simp only [State.beyondMail, Prod.mk.injEq] at hrest
  obtain ⟨hcfg, -, hnv, -, -, hforces, -, -⟩ := hrest
  by_cases hcapture : type = 5 ∧ 0x8000 ≤ i ∧ i < 0x8004
  · have hmark : t.word (captureAddr (i - 0x8000)) = s.word (captureAddr (i - 0x8000)) :=
      h.word (by simp only [captureAddr]; omega)
    have hsize : t.word (captureAddr (i - 0x8000) + 8) = s.word (captureAddr (i - 0x8000) + 8) :=
      h.word (by simp only [captureAddr]; omega)
    simp only [State.cfgView, hforces, if_pos hcapture, hmark, hsize, apply_ite Prod.fst]
  · by_cases hrun : type = 0x0C ∧ 0x8000 ≤ i ∧ i < 0x9000
    · have hmark : t.word (0x800E00000 + (i - 0x8000) * 256 + 252) = s.word (0x800E00000 + (i - 0x8000) * 256 + 252) :=
        h.word (by omega)
      simp only [State.cfgView, hforces, if_neg hcapture, if_pos hrun, hmark, apply_ite Prod.fst]
    · simp only [State.cfgView, hforces, hnv, State.rec_, hcfg, if_neg hcapture, if_neg hrun, sliceOf, List.length_singleton,
        apply_ite Prod.fst]

/-- A slot lies within the response ring of its mailbox. -/
theorem rspSlot_within (m i : Nat) : rspSlot m 0 ≤ rspSlot m i ∧ rspSlot m i + 256 ≤ rspSlot m 0 + 0x2000 := by
  unfold rspSlot
  omega

/-- What is in place of the response once the ring's own slot and index stand so. -/
theorem answered_of {u v : State} {status : Nat} {pay : List Word} (h : Answered s u m op tag status pay)
    (hmem : ∀ i, rspSlot m 0 ≤ i → i < rspSlot m 0 + 0x2000 → v.byte i = u.byte i) (hpay : pay.length ≤ 60)
    (hhead : v.reg (Reg.MBX_RSP_HEAD m) = u.reg (Reg.MBX_RSP_HEAD m)) : Answered s v m op tag status pay := by
  obtain ⟨hlo, hhi⟩ := rspSlot_within m (s.fld (Fld.MBX_RSP_HEAD_head m))
  obtain ⟨hwords, hindex⟩ := h
  refine ⟨(words_congr fun i hi hin => hmem i (hlo.trans hi) ?_).trans hwords, (fld_of_reg (by exact hhead)).trans hindex⟩
  omega

theorem answered_writeRequest {u : State} (hm : m < 68) (op' tag' : Nat) (ws' : List Word) {status : Nat} {pay : List Word}
    (h : Answered s u m op tag status pay) (hpay : pay.length ≤ 60) :
    Answered s (u.writeRequest m op' tag' ws') m op tag status pay := by
  obtain ⟨h1, h2, h3⟩ := ringKeys hm (.inr (.inl (rfl : Reg.MBX_RSP_HEAD m = _)))
  refine answered_of h (fun i hi _ => ?_) hpay (reg_writeRequest h1 h2 h3)
  rw [State.byte, mem_writeRequest]
  refine byte_setWords_out _ u (.inr ?_)
  have hlen : (u.requestWords m op' tag' ws').length ≤ 64 := by
    simp [State.requestWords]
    omega
  simp only [reqSlot, rspSlot] at hi ⊢
  omega

/-- What follows in the stream of mailbox 64 leaves its responses alone. -/
theorem answered_following {u : State} (hm : m < 68) {status : Nat} {pay : List Word}
    (h : Answered s u m op tag status pay) (hpay : pay.length ≤ 60) : Answered s (State.following m u) m op tag status pay := by
  unfold State.following
  split
  · next h64 =>
    subst h64
    unfold State.readStream
    split
    · exact h
    · split
      · exact h
      · exact answered_writeRequest hm _ _ _ (answered_of h (fun _ _ _ => rfl) hpay rfl) hpay
  · exact h

theorem admitted_rspHead (hm : m < 68) :
    (s.admitted m op tag ws).fld (Fld.MBX_RSP_HEAD_head m) = s.fld (Fld.MBX_RSP_HEAD_head m) := by
  have hne : Reg.MBX_RSP_HEAD m ≠ Reg.MBX_STAT m ∧ Reg.MBX_RSP_HEAD m ≠ Reg.MBX_REQ_TAIL m := by
    simp only [Reg.MBX_RSP_HEAD, Reg.MBX_STAT, Reg.MBX_REQ_TAIL]
    omega
  refine (fld_forward _ _ _ _).trans ?_
  rw [fld_showRings _ _ (by exact hne.1), State.fld_put_ne _ _ _ _ (by exact hne.2), fld_writeRequest hm (.inr (.inl rfl))]

/-- A response carries the index of the mailbox that it answers (R79, R85). -/
theorem admitted_stamp (hm : m < 68) : (s.admitted m op tag ws).stamp m = m := by
  unfold State.stamp
  split
  · next hlt =>
    have hne : Reg.MBX_STAT m ≠ Reg.MBX_REQ_TAIL m := by
      simp only [Reg.MBX_STAT, Reg.MBX_REQ_TAIL]
      omega
    refine (fld_forward _ _ _ _).trans ?_
    rw [part_showRings, State.fld_put_ne _ _ _ _ (by exact hne), State.writeRequest, part_ring, if_pos hlt]
    omega
  · rfl

/-- A response placed in the line of one request. -/
theorem answered_respond (h : s.Open m) {a : Answer} (hflags : a.flags = 0) (hstatus : a.status < 256)
    (hpay : a.payload.length ≤ 60) :
    Answered s ((s.admitted m op tag ws).respond ⟨m, (s.mbox m).nextId⟩ a) m op tag a.status a.payload ∧
      OfMailbox m s ((s.admitted m op tag ws).respond ⟨m, (s.mbox m).nextId⟩ a) := by
  have hm := h.who
  have hmbox := admitted_mbox (s := s) (m := m) (op := op) (tag := tag) (ws := ws)
  have hline : ((s.admitted m op tag ws).mbox m).line = [⟨(s.mbox m).nextId, tag, op, none⟩] := by
    rw [hmbox, h.line]
    rfl
  obtain ⟨t, within, hregs, hseq, placed⟩ := respond_alone a hline
  have hhead : t.fld (Fld.MBX_RSP_HEAD_head m) = s.fld (Fld.MBX_RSP_HEAD_head m) :=
    (fld_of_reg (by rw [State.reg, hregs]; rfl)).trans (admitted_rspHead hm)
  have hrspSeq : (t.mbox m).rspSeq = (s.mbox m).rspSeq := by rw [hseq, hmbox]
  rw [placed]
  refine ⟨⟨?_, ?_⟩, (admitted_ofMailbox hm).trans (within.trans (OfMailbox.placeSlot hm _ _ _ _ _ hpay))⟩
  · rw [words_of_mem (mem_placeSlot _ _ _ _ _ _ _), hhead]
    have hlen : (t.responseWords m (wd (op + tag * 65536)) a.flags a.status ((s.admitted m op tag ws).stamp m) a.payload).length =
        4 + a.payload.length := by
      simp [State.responseWords]
      omega
    refine (words_setWords _ _ 0 _ _ (by omega)).trans ?_
    rw [List.drop_zero, ← hlen, List.take_length, State.responseWords, hrspSeq, admitted_stamp hm, hflags,
      Nat.mod_eq_of_lt hstatus, Nat.mod_eq_of_lt (show m < 256 by omega), Nat.mod_eq_of_lt (show 4 * a.payload.length < 65536 by omega)]
    simp
  · rw [rspHead_placeSlot, hhead]

/-- The index of a response ring holds no mirror. -/
theorem plain_rspHead (hm : m < 68) : plainReg (Reg.MBX_RSP_HEAD m) = true :=
  (by decide : ∀ j : Fin 68, plainReg (Reg.MBX_RSP_HEAD j) = true) ⟨m, hm⟩

/-- A request that its checks or its command answer at once: the response, and nothing of the records in force. -/
theorem request_answered (h : s.Open m) (hop : op < 65536) (htag : tag < 65536) (hws : ws.length ≤ 60) {a : Answer}
    (hflags : a.flags = 0) (hstatus : a.status < 256) (hpay : a.payload.length ≤ 60)
    (hans : (s.admitted m op tag ws).unless ⟨m, (s.mbox m).nextId⟩ ((s.admitted m op tag ws).refuses m op ws)
      (fun t => t.runCommand ⟨m, (s.mbox m).nextId⟩ op ws) = (s.admitted m op tag ws).respond ⟨m, (s.mbox m).nextId⟩ a) :
    Completes (s.request m op tag ws).done fun u => Answered s u m op tag a.status a.payload ∧ u.cfg = s.cfg := by
  have hm := h.who
  obtain ⟨answered, within⟩ := answered_respond (op := op) (tag := tag) (ws := ws) h hflags hstatus hpay
  have taken : (s.writeRequest m op tag ws).takeRequest m =
      State.following m ((s.admitted m op tag ws).respond ⟨m, (s.mbox m).nextId⟩ a) :=
    (takeRequest_written h hop htag hws).trans (congrArg _ hans)
  have whole : OfMailbox m s ((s.writeRequest m op tag ws).takeRequest m) :=
    taken ▸ within.trans (OfMailbox.following _)
  have round := mailboxRound_only hm (canTake_written (op := op) (tag := tag) (ws := ws) h)
    (fun j hj => ((OfMailbox.writeRequest hm s op tag ws).canTake hm hj).trans (h.alone j hj))
    (fun j hj => (whole.canTake hm hj).trans (h.alone j hj))
  have asked : s.request m op tag ws = (s.writeRequest m op tag ws).mailboxRound := by
    have hconn : ¬ (m = 64 ∧ s.fw.conn.isNone = true) := fun ⟨h64, hnone⟩ => by
      simpa [Option.isSome_iff_ne_none, Option.isNone_iff_eq_none.mp hnone] using h.conn h64
    simp only [State.request, if_neg hconn, h.empty]
    rfl
  have final := answered_following hm answered hpay
  rw [← taken] at final
  have hrest := whole.rest
  simp only [State.beyondMail, Prod.mk.injEq] at hrest
  refine ⟨_, rfl, ?_, ?_⟩
  · rw [asked, round]
    refine answered_of final (fun i _ _ => ?_) hpay ?_
    · rw [State.byte, settle_mem]
      rfl
    · rw [settle_reg _ _ (plain_rspHead hm)]
      rfl
  · rw [asked, round, settle_cfg]
    exact hrest.1

end

/-! ### CFG_READ (R614) -/

theorem firstRefused_append {l l' : List (Bool × Nat × Nat × Nat)} {r : Nat × Nat × Nat} (h : firstRefused l = some r) :
    firstRefused (l ++ l') = some r := by
  induction l with
  | nil => simp [firstRefused] at h
  | cons e l ih =>
    obtain ⟨b, st, reason, arg⟩ := e
    cases b with
    | true => exact h
    | false => exact ih h

theorem runCommand_read (s : State) (d : Deferred) (ws : List Word) : s.runCommand d 0x0106 ws = s.cmdRead d ws := rfl

/-- What refuses a read before the partition of its record is asked for, in the order of R614. -/
def readChecks (n off : Nat) : Refused :=
  firstRefused [badArg (off % 4 != 0) 1, (n == 0, stEmpty, 0, noArg), badArg (decide (4 * n ≤ off)) 1]

theorem cmdRead_refused {s : State} (d : Deferred) {ws : List Word} {st reason arg : Nat}
    (h : readChecks (s.cfgView (wBits ws 0 31 24) (wBits ws 0 23 0) (argN ws 1 / 4)).1 (argN ws 1) = some (st, reason, arg)) :
    s.cmdRead d ws = s.respond d (errAns st reason arg) := by
  have all := fun e => firstRefused_append (l' := [e]) h
  simp only [List.cons_append, List.nil_append] at all
  simp only [State.cmdRead, all, State.unless]

theorem read_answered {s : State} {m : Fin 68} {tag : BitVec 16} {x y : Word} (hopen : s.Open m)
    (hfree : s.refuses m 0x0106 [x, y] = none) {st reason arg : Nat} (hst : st < 256)
    (h : readChecks (s.cfgView (bits x 31 24) (bits x 23 0) (y.toNat / 4)).1 y.toNat = some (st, reason, arg)) :
    Completes (exec (.cfgRead m tag x y) s) fun u =>
      Answered s u m 0x0106 tag.toNat st [wd (reason + arg * 65536)] ∧ u.cfg = s.cfg := by
  have within := admitted_ofMailbox (s := s) (op := 0x0106) (tag := tag.toNat) (ws := [x, y]) m.isLt
  refine request_answered (ws := [x, y]) (a := errAns st reason arg) hopen (by decide) tag.isLt (by simp) rfl hst
    (by simp [errAns]) ?_
  rw [within.refuses m.isLt, hfree]
  refine (runCommand_read _ _ _).trans (cmdRead_refused _ ?_)
  rw [within.cfgSize]
  exact h

/-- Settles O57: the checks of a read come before any record is read. -/
theorem readOfARecordThatIsNotThere : Obligations.ReadOfARecordThatIsNotThere := by
  intro s m tag x y hopen hfree n
  refine ⟨fun hn haligned => read_answered hopen hfree (by decide : 0x0C < 256) (arg := noArg) (reason := 0) ?_,
    fun hoff => read_answered hopen hfree (by decide : 0x03 < 256) (arg := 1) (reason := 0x0004) ?_⟩
  · change readChecks n y.toNat = _
    simp [readChecks, badArg, firstRefused, hn, haligned, stEmpty]
  · change readChecks n y.toNat = _
    by_cases haligned : y.toNat % 4 = 0
    · obtain ⟨hn, hbeyond⟩ := hoff.resolve_left (not_not_intro haligned)
      simp [readChecks, badArg, firstRefused, hn, haligned, hbeyond, stBadArg]
    · simp [readChecks, badArg, firstRefused, haligned, stBadArg]

end Sys2Proof.Machine

namespace Sys2Proof.Machine

/-! ### What a message of the pair does before it acts: the request ring of mailbox 66 (R94) -/

/-- Between `s` and `t` only registers of MBX and memory have changed. -/
structure Heard (s t : State) : Prop where
  only : ∃ r x, t = { s with regs := r, mem := x }
  regs : ∀ k, k / 65536 ≠ 2 → t.reg k = s.reg k

theorem setBytes_only (l : List Byte) (s : State) (a : Nat) : ∃ x, s.setBytes a l = { s with mem := x } := by
  induction l generalizing s a with
  | nil => exact ⟨s.mem, rfl⟩
  | cons b l ih =>
    obtain ⟨x, hx⟩ := ih (s.setByte a b) (a + 1)
    exact ⟨x, hx⟩

theorem setWords_only (ws : List Word) (s : State) (a : Nat) : ∃ x, s.setWords a ws = { s with mem := x } := by
  induction ws generalizing s a with
  | nil => exact ⟨s.mem, rfl⟩
  | cons w ws ih =>
    obtain ⟨x, hx⟩ := setBytes_only (leBytes 4 w.toNat) s a
    obtain ⟨y, hy⟩ := ih (s.setWord a w) (a + 4)
    refine ⟨y, hy.trans ?_⟩
    rw [State.setWord, hx]

namespace Heard

theorem refl (s : State) : Heard s s := ⟨⟨_, _, rfl⟩, fun _ _ => rfl⟩

theorem trans {s t u : State} (h : Heard s t) (g : Heard t u) : Heard s u := by
  obtain ⟨r, x, rfl⟩ := h.only
  obtain ⟨r', x', rfl⟩ := g.only
  exact ⟨⟨r', x', rfl⟩, fun k hk => (g.regs k hk).trans (h.regs k hk)⟩

theorem put (s : State) {f : Fld} (v : Nat) (hf : f.key / 65536 = 2) : Heard s (s.put f v) :=
  ⟨⟨_, _, rfl⟩, fun _ hk => s.reg_put_ne f v fun h => hk (h ▸ hf)⟩

theorem setWords (s : State) (a : Nat) (ws : List Word) : Heard s (s.setWords a ws) := by
  obtain ⟨x, hx⟩ := setWords_only ws s a
  rw [hx]
  exact ⟨⟨_, _, rfl⟩, fun _ _ => rfl⟩

theorem showRings (s : State) {m : Nat} (hm : m < 72) : Heard s (s.showRings m) := by
  obtain ⟨-, -, hstat⟩ := mailKeys hm
  exact (put s _ hstat).trans (put _ _ hstat)

theorem ring66 (s : State) (head part : Nat) : Heard s (s.ring 66 head part) :=
  (((put s _ (by decide)).trans (put _ _ (by decide))).trans (put _ _ (by decide))).trans (showRings _ (by decide))

theorem seen (s : State) (op : Nat) (ws : List Word) : Heard s (s.seen 66 op 0 ws) := by
  unfold State.seen
  split
  · exact refl s
  · exact ((setWords s _ _).trans (ring66 _ _ _)).trans ((put _ _ (by decide)).trans (showRings _ (by decide)))

variable {s t : State} (h : Heard s t)
include h

theorem keeps {β : Type} (p : State → β) (hp : ∀ (s : State) r x, p { s with regs := r, mem := x } = p s) : p t = p s := by
  obtain ⟨r, x, rfl⟩ := h.only
  exact hp s r x

theorem fld {f : Fld} (hf : f.key / 65536 ≠ 2) : t.fld f = s.fld f := fld_of_reg (h.regs _ hf)

theorem mode : t.mode = s.mode := h.fld (by decide)
theorem red : t.red = s.red := h.keeps (·.red) fun _ _ _ => rfl
theorem fw : t.fw = s.fw := h.keeps (·.fw) fun _ _ _ => rfl
theorem prt : t.prt = s.prt := h.keeps (·.prt) fun _ _ _ => rfl
theorem sent : t.sent = s.sent := h.keeps (·.sent) fun _ _ _ => rfl
theorem nv : t.nv = s.nv := h.keeps (·.nv) fun _ _ _ => rfl
theorem sys : t.sys = s.sys := h.keeps (·.sys) fun _ _ _ => rfl
theorem cfg : t.cfg = s.cfg := h.keeps (·.cfg) fun _ _ _ => rfl
theorem time : t.time = s.time := h.keeps (·.time) fun _ _ _ => rfl

theorem boundaryAfter (ns : Nat) : t.boundaryAfter ns = s.boundaryAfter ns := by
  have htcyc : t.tcyc = s.tcyc := by rw [State.tcyc, h.fld (by decide), State.tcyc]
  have hclk : t.clk = s.clk := h.keeps (·.clk) fun _ _ _ => rfl
  have hnext : t.nextBoundary = s.nextBoundary := by simp only [State.nextBoundary, htcyc, h.time, h.sys, hclk]
  rw [State.boundaryAfter, State.boundaryAfter, hnext, htcyc, h.time]

theorem atRest (hs : s.AtRest) : t.AtRest := by
  obtain ⟨r, x, rfl⟩ := h.only
  exact ⟨hs.lanes, hs.susp, hs.abandoned, hs.jobs, hs.groups, hs.lines⟩

end Heard

/-- What a pair message does is what it does once it has been heard. -/
theorem pairMessage_completes {P : State → Prop} {s : State} {op : Nat} {ws : List Word} {k : State → State}
    (h : ∀ t, Heard s t → P (k t).settle) : Completes (s.pairMessage op ws k).done P :=
  ⟨_, rfl, h _ (.seen s op ws)⟩

/-! ### PAIR_PREPARE (R92, R94) -/

section
variable {s : State} (tag : Word)

theorem prepare_elsewhere_completes (stages : List Stage) (hm : s.mode ≠ mStandby) :
    Completes (exec (.pairPrepare tag stages) s) fun u => u.sent = s.sent ∧ u.fw = s.fw ∧ u.red = s.red :=
  pairMessage_completes fun t heard => by
    have hidle : t.pairPrepare tag.toNat stages = t := by
      rw [State.pairPrepare, if_pos (by simpa [heard.mode] using hm)]
    rw [hidle]
    exact ⟨(settle_sent _).trans heard.sent, (settle_fw _).trans heard.fw, (settle_red _).trans heard.red⟩

theorem prepare_online_completes {n : Nat} (hm : s.mode = mStandby)
    (hnone : s.pairSession (fun z => z.checked && z.slot != s.usedSlot 5) = none) :
    Completes (exec (.pairPrepare tag [.online n]) s) fun u =>
      Sends s u .link 0x0352 [wd tag.toNat, wd 0xFFFF0000] ∧ u.fw.commits = s.fw.commits :=
  pairMessage_completes fun t heard => by
    have hsession : t.pairSession (fun z => z.checked && z.slot != t.usedSlot 5) = none := by
      simp only [State.pairSession, State.usedSlot, heard.fw]
      exact hnone
    have hrefused : t.pairPrepare tag.toNat [.online n] = t.refuseSet tag.toNat 0xFFFF0000 := by
      rw [State.pairPrepare, if_neg (by simp [heard.mode, hm]), if_pos (show setKind [.online n] = 4 from rfl), hsession]
      rfl
    rw [hrefused]
    refine ⟨?_, ?_⟩
    · rw [Sends, settle_sent]
      exact congrArg _ heard.sent
    · rw [settle_fw]
      exact congrArg (·.commits) heard.fw

/-- The stages of a set of forces. -/
def forceStages (fs : List (Nat × Word × Bool)) : List Stage := fs.map fun f => .force f.1 f.2.1 f.2.2

theorem any_forceStages (fs : List (Nat × Word × Bool)) (q : Stage → Bool) (h : ∀ a v b, q (.force a v b) = false) :
    (forceStages fs).any q = false := by
  simp [forceStages, h]

theorem setKind_forceStages {fs : List (Nat × Word × Bool)} (h : fs ≠ []) : setKind (forceStages fs) = 2 := by
  obtain ⟨f, fs, rfl⟩ := List.exists_cons_of_ne_nil h
  rw [setKind, isOnline, any_forceStages _ _ fun _ _ _ => rfl, any_forceStages _ _ fun _ _ _ => rfl]
  rfl

theorem chkCommit_forceStages (t : State) (scope : Option Nat) (auth : Bool) (fs : List (Nat × Word × Bool)) :
    t.chkCommit scope auth (forceStages fs) = none := by
  have hstages : t.chkStages scope (forceStages fs) = none := by
    rw [State.chkStages, List.findSome?_eq_none_iff]
    intro st hst
    obtain ⟨f, -, rfl⟩ := List.mem_map.mp hst
    rfl
  have hstaged : stagedSets (forceStages fs) = [] :=
    List.filter_eq_nil_iff.mpr fun n _ => by rw [any_forceStages _ _ fun _ _ _ => rfl]; simp
  have hsafety : t.chkSafety (forceStages fs) auth = none := by
    rw [State.chkSafety, hstaged]
    rfl
  have hconfigures : configures (forceStages fs) = false := any_forceStages _ _ fun _ _ _ => rfl
  have hrun : t.commitRun (forceStages fs) = none := by
    rw [State.commitRun, changesPlan, any_forceStages _ _ fun _ _ _ => rfl]
    rfl
  rw [State.chkCommit, hstages, hsafety, hconfigures, hrun]
  rfl

/-- No plan is made for a set of forces. -/
theorem planFor_forceStages (t : State) (fs : List (Nat × Word × Bool)) (at_ : Nat) : t.planFor (forceStages fs) at_ = t := by
  rw [State.planFor, changesPlan, isOnline, any_forceStages _ _ fun _ _ _ => rfl, any_forceStages _ _ fun _ _ _ => rfl]
  rw [forceStages, List.foldl_map]
  exact List.foldl_fixed' (fun _ => rfl) _

theorem prepare_forces_completes {fs : List (Nat × Word × Bool)} (hne : fs ≠ []) (hm : s.mode = mStandby)
    (hnone : s.fw.commits = []) : Completes (exec (.pairPrepare tag (forceStages fs)) s) fun u =>
      Sends s u .link 0x0351 [wd tag.toNat] ∧
      u.fw.commits = [⟨0, none, forceStages fs, some (s.boundaryAfter 1000000), true, ⟨255, tag.toNat⟩⟩] :=
  pairMessage_completes fun t heard => by
    have hset : t.pairPrepare tag.toNat (forceStages fs) = t.acknowledge tag.toNat (forceStages fs) := by
      rw [State.pairPrepare, if_neg (by simp [heard.mode, hm]), if_neg (by rw [setKind_forceStages hne]; decide),
        chkCommit_forceStages]
    have hcommits : t.fw.commits = [] := (congrArg (·.commits) heard.fw).trans hnone
    rw [hset, State.acknowledge, State.acceptSet, planFor_forceStages, if_neg (show ¬ 255 < 68 by decide)]
    refine ⟨?_, ?_⟩
    · rw [Sends, settle_sent]
      exact congrArg _ heard.sent
    · rw [settle_fw, ← heard.boundaryAfter]
      simp only [State.send, hcommits]
      rfl

end

end Sys2Proof.Machine

namespace Sys2Proof.Machine

/-! ### Parts of the state that a response or a notification leaves alone, its mailbox whatever it is (R79, R86, R93) -/

/-- A part of the state that no register of `K`, no memory, no mailbox's own record and no forwarded item changes. -/
structure OffBox {β : Type} (K : Nat → Prop) (p : State → β) : Prop where
  put : ∀ (s : State) f v, K f.key → p (s.put f v) = p s
  mem : ∀ (s : State) m, p { s with mem := m } = p s
  box : ∀ (s : State) m x, p (s.setMbox m x) = p s
  delivered : ∀ (s : State) x, p { s with fw := { s.fw with delivered := x } } = p s
  item : ∀ (s : State) k ws, p (s.sendItem k ws) = p s

/-- The registers that a response of mailbox `m` writes. -/
def BoxKeys (K : Nat → Prop) (m : Nat) : Prop := K (Reg.MBX_RSP_HEAD m) ∧ K (Reg.MBX_RSP_TAIL m) ∧ K (Reg.MBX_STAT m)

namespace OffBox
variable {β : Type} {K : Nat → Prop} {p : State → β} (h : OffBox K p) {m : Nat} (hm : BoxKeys K m)
include h

theorem forward (s : State) (k : Nat) (ws : List Word) : p (s.forward k ws) = p s := by
  unfold State.forward
  split
  · exact h.item s k ws
  · rfl

include hm

theorem showRings (s : State) : p (s.showRings m) = p s := by
  obtain ⟨-, -, hstat⟩ := hm
  exact (h.put _ _ _ hstat).trans (h.put _ _ _ hstat)

theorem handOut (s : State) : p (s.handOut m) = p s := by
  obtain ⟨-, htail, -⟩ := id hm
  unfold State.handOut
  split
  · rfl
  · exact (h.showRings hm _).trans ((h.put _ _ _ htail).trans (h.delivered s _))

theorem slot (s : State) (a : Nat) (ws : List Word) (x : Mbox) (v : Nat) :
    p ((((s.setWords a ws).setMbox m x).put (Fld.MBX_RSP_HEAD_head m) v).showRings m) = p s := by
  obtain ⟨hhead, -, -⟩ := id hm
  exact (h.showRings hm _).trans ((h.put _ _ _ hhead).trans ((h.box _ _ _).trans (setWords_keeps p h.mem ws s a)))

theorem placeSlot (s : State) (w0 : Word) (flags status part : Nat) (pay : List Word) :
    p (s.placeSlot m w0 flags status part pay) = p s := by
  unfold State.placeSlot
  simp only
  split_ifs
  · exact (h.forward _ _ _).trans (h.slot hm s _ _ _ _)
  · exact (h.handOut hm _).trans ((h.forward _ _ _).trans (h.slot hm s _ _ _ _))
  · exact (h.handOut hm _).trans (h.slot hm s _ _ _ _)

theorem flushLine (n : Nat) (s : State) : p (s.flushLine m n) = p s := by
  induction n generalizing s with
  | zero => rfl
  | succ n ih =>
    unfold State.flushLine
    split
    · exact (ih _).trans ((h.placeSlot hm _ _ _ _ _ _).trans (h.box s _ _))
    · rfl

omit hm in
theorem respond (s : State) {d : Deferred} (hd : BoxKeys K d.mbx) (a : Answer) : p (s.respond d a) = p s :=
  (h.flushLine hd _ _).trans (h.box s _ _)

theorem pushNtf (s : State) (n : Ntf) : p (s.pushNtf m n) = p s := by
  obtain ⟨-, -, hstat⟩ := id hm
  unfold State.pushNtf
  simp only
  split_ifs
  · rfl
  · exact h.placeSlot hm s _ _ _ _ _
  · exact h.box s _ _
  · exact (h.box _ _ _).trans (h.put s _ _ hstat)

omit hm in
theorem notify (hall : ∀ m < 68, BoxKeys K m) (s : State) (op : Nat) (part : Option Nat) (pay : List Word) :
    p (s.notify op part pay) = p s := by
  refine foldl_relates (R := fun s t => p t = p s) (fun _ => rfl) (fun hst htu => htu.trans hst) (fun s m hm => ?_) s
  rw [mem_upFrom] at hm
  split
  · exact h.pushNtf (hall m (by omega)) s _
  · rfl

end OffBox

/-- The rings of a mailbox stand in MBX. -/
theorem boxKeys_mail {m : Nat} (hm : m < 68) : BoxKeys (fun k => k / 65536 = 2) m := mailKeys (by omega)

theorem boxKeys_any (m : Nat) : BoxKeys (fun _ => True) m := ⟨trivial, trivial, trivial⟩

/-- The sets that wait, the sessions and the records in force. -/
def State.sets (s : State) := (s.fw.commits, s.fw.sessions, s.cfg)

theorem sets_offBox : OffBox (fun _ => True) State.sets :=
  ⟨fun _ _ _ _ => rfl, fun _ _ => rfl, fun _ _ _ => rfl, fun _ _ => rfl, fun _ _ _ => rfl⟩

end Sys2Proof.Machine

namespace Sys2Proof.Machine

/-! ### A set that waits for the partner: accepted, refused, timed out (R92, R94) -/

/-- A plan is written into registers and memory. -/
theorem writePlan_keeps {β : Type} (p : State → β) (hput : ∀ (s : State) f v, p (s.put f v) = p s)
    (hmem : ∀ (s : State) m, p { s with mem := m } = p s) (hprt : ∀ (s : State) x, p { s with prt := x } = p s) (s : State)
    (ws : List (Nat × Word)) (apply : Word) : p (s.writePlan ws apply) = p s := by
  have hword : ∀ (t : State) a v, p (t.setWord a v) = p t := setWord_keeps p hmem
  unfold State.writePlan
  rw [hword, hword, hword, foldl_keeps p _ (fun t x => hword _ _ _)]
  exact (hmem _ _).trans ((hprt _ _).trans (hput _ _ _))

theorem withPrt_sets (s : State) (x : Prt) : ({ s with prt := x } : State).sets = s.sets := rfl

theorem fileReport_sets (s : State) (r : Run) (seq : Nat) : (s.fileReport r seq).sets = s.sets := rfl

theorem writePlan_sets (s : State) (ws : List (Nat × Word)) (apply : Word) : (s.writePlan ws apply).sets = s.sets :=
  writePlan_keeps State.sets (fun _ _ _ => rfl) (fun _ _ => rfl) (fun _ _ => rfl) s ws apply

theorem submit_sets (s : State) (r : Run) (apply : Word) : (s.submit r apply).sets = s.sets := by
  unfold State.submit
  simp only
  split
  · exact fileReport_sets s r _
  · rw [withPrt_sets, writePlan_sets, fileReport_sets]

theorem setOp_sets (s : State) (k : Nat) : (s.setOp k).sets = s.sets := by
  unfold State.setOp
  simp only
  split_ifs <;> rfl

/-- The plan of one placement run asked for in a set. -/
def State.planStage (at_ : Nat) (s : State) : Stage → State
  | .place cause full report point =>
    let r := s.placementRun cause full [] (pointMhz point)
    if r.result = 2 ∨ r.totals = false then s
    else
      let s2 := (s.writePlan r.words (lo32 at_)).setOp point
      { s2 with prt := { s2.prt with planReport := some report, restore := r.restore } }
  | _ => s

theorem planStage_sets (at_ : Nat) (s : State) (st : Stage) : (s.planStage at_ st).sets = s.sets := by
  unfold State.planStage
  split
  · simp only
    split
    · rfl
    · rw [withPrt_sets, setOp_sets, writePlan_sets]
  · rfl

theorem planFor_sets (s : State) (stages : List Stage) (at_ : Nat) : (s.planFor stages at_).sets = s.sets := by
  have hnotify : ∀ (t : State) pay, (t.notify 0x0280 none pay).sets = t.sets := fun t pay =>
    sets_offBox.notify (fun m _ => boxKeys_any m) t _ _ _
  unfold State.planFor
  simp only
  refine (foldl_keeps State.sets _ (planStage_sets at_) stages _).trans ?_
  split
  · exact (hnotify _ _).trans (submit_sets _ _ _)
  · rfl

theorem acceptSet_sets (s : State) (c : Commit) : (s.acceptSet c).sets =
    ((s.fw.commits.filter fun x => x.who != c.who) ++ [{ c with at_ := some (s.boundaryAfter 1000000) }],
      if c.ses = 0 then s.fw.sessions else SMap.set none c.ses none s.fw.sessions, s.cfg) := by
  unfold State.acceptSet
  simp only
  split
  · exact (sets_offBox.respond _ (boxKeys_any _) _).trans (planFor_sets _ _ _)
  · exact planFor_sets _ _ _

theorem endSet_sets (s : State) (c : Commit) (a : Answer) :
    (s.endSet c a).sets = (s.fw.commits.filter (· != c), s.fw.sessions, s.cfg) := by
  have hstages : ∀ t : State, (c.stages.foldl (fun s st => match st with
      | .place 2 full _ _ => s.askPlacement 2 full
      | _ => s) t).sets = t.sets :=
    foldl_keeps State.sets _ (fun t st => by split <;> rfl) c.stages
  unfold State.endSet
  simp only
  split
  · exact (sets_offBox.respond _ (boxKeys_any _) _).trans (hstages _)
  · exact hstages _

theorem waiting_heard {s t : State} (h : Heard s t) (tag : Nat) : t.waiting tag = s.waiting tag := by
  rw [State.waiting, State.waiting, h.fw]

section
variable {s : State} {tag : Word} {c : Commit}

theorem pairAck_completes (hc : s.waiting tag.toNat = some c) (hkind : setKind c.stages ≠ 4) :
    Completes (exec (.pairAck tag) s) fun u => { c with at_ := some (s.boundaryAfter 1000000) } ∈ u.fw.commits ∧
      (c.ses ≠ 0 → SMap.get none c.ses u.fw.sessions = none) :=
  pairMessage_completes fun t heard => by
    have haccepted : t.pairAck tag.toNat = t.acceptSet c := by
      rw [State.pairAck, waiting_heard heard, hc]
      exact if_neg fun ⟨h4, _⟩ => hkind h4
    have hsets := acceptSet_sets t c
    rw [heard.boundaryAfter] at hsets
    simp only [State.sets, Prod.mk.injEq] at hsets
    obtain ⟨hcommits, hsessions, -⟩ := hsets
    rw [haccepted, settle_fw, hcommits, hsessions]
    refine ⟨List.mem_append_right _ List.mem_cons_self, fun hses => ?_⟩
    rw [if_neg hses, SMap.get_set_same]

/-- What is left of the sets once one has ended. -/
theorem endSet_ends {t : State} (heard : Heard s t) (a : Answer) :
    (t.endSet c a).settle.fw.commits = s.fw.commits.filter (· != c) ∧ (t.endSet c a).settle.fw.sessions = s.fw.sessions ∧
      (t.endSet c a).settle.cfg = s.cfg := by
  have hsets := endSet_sets t c a
  simp only [State.sets, Prod.mk.injEq] at hsets
  rw [settle_fw, settle_cfg, ← heard.fw, ← heard.cfg]
  exact hsets

theorem pairNack_completes (x : Word) (hc : s.waiting tag.toNat = some c) :
    Completes (exec (.pairNack tag x) s) fun u =>
      u.fw.commits = s.fw.commits.filter (· != c) ∧ u.fw.sessions = s.fw.sessions ∧ u.cfg = s.cfg :=
  pairMessage_completes fun t heard => by
    have hended : t.pairNack tag.toNat x = t.endSet c ⟨stAborted, 0, [x]⟩ := by
      rw [State.pairNack, waiting_heard heard, hc]
    rw [hended]
    exact endSet_ends heard _

theorem prepareAckTimeout_completes (hc : s.waiting tag.toNat = some c) (hacked : c.acked = false) :
    Completes (exec (.prepareAckTimeout tag) s) fun u =>
      u.fw.commits = s.fw.commits.filter (· != c) ∧ u.fw.sessions = s.fw.sessions ∧ u.cfg = s.cfg := by
  have hended : s.ackTimeout tag.toNat = s.endSet c (errAns stTimeout 0 0xFFFF) := by
    rw [State.ackTimeout, hc]
    exact if_neg (by rw [hacked]; decide)
  refine ⟨(s.ackTimeout tag.toNat).settle, rfl, ?_⟩
  rw [hended]
  exact endSet_ends (.refl s) _

/-- Where no set of the tag waits, its acknowledgement, its refusal and its time-out do nothing. -/
theorem unwaited_completes (x : Word) (hnone : s.waiting tag.toNat = none) (i : Instr)
    (hi : i ∈ [Instr.pairAck tag, .pairNack tag x, .prepareAckTimeout tag]) : Completes (exec i s) fun u =>
      u.fw.commits = s.fw.commits ∧ u.cfg = s.cfg ∧ u.fw.sessions = s.fw.sessions := by
  have same : ∀ t, Heard s t → t.settle.fw.commits = s.fw.commits ∧ t.settle.cfg = s.cfg ∧
      t.settle.fw.sessions = s.fw.sessions := fun t heard => by
    rw [settle_fw, settle_cfg, heard.fw, heard.cfg]
    exact ⟨rfl, rfl, rfl⟩
  simp only [List.mem_cons, List.not_mem_nil, or_false] at hi
  rcases hi with rfl | rfl | rfl
  · refine pairMessage_completes fun t heard => ?_
    have hidle : t.pairAck tag.toNat = t := by rw [State.pairAck, waiting_heard heard, hnone]
    rw [hidle]
    exact same t heard
  · refine pairMessage_completes fun t heard => ?_
    have hidle : t.pairNack tag.toNat x = t := by rw [State.pairNack, waiting_heard heard, hnone]
    rw [hidle]
    exact same t heard
  · have hidle : s.ackTimeout tag.toNat = s := by rw [State.ackTimeout, hnone]
    refine ⟨(s.ackTimeout tag.toNat).settle, rfl, ?_⟩
    rw [hidle]
    exact same s (.refl s)

end

end Sys2Proof.Machine

namespace Sys2Proof.Machine

/-! ### PAIR_FALLBACK (R133) -/

section
variable {s : State}

theorem word_writePlan (s : State) (ws : List (Nat × Word)) (apply : Word) :
    (s.writePlan ws apply).word (s.idleArea + 8) = apply ∧ (s.writePlan ws apply).word (s.idleArea + 0x3C) = 0x504C5244 := by
  unfold State.writePlan
  simp only
  exact ⟨(word_setWord_out _ _ (.inl (by omega))).trans (word_setWord_same _ _ _), word_setWord_same _ _ _⟩

theorem idleArea_heard {t : State} (h : Heard s t) : t.idleArea = s.idleArea := by
  rw [State.idleArea, State.idleArea, h.fld (by decide)]

theorem pairFallback_completes {p : Fin 4} (x : Word) (hm : s.mode = mStandby) (hplan : SMap.get [] p.val s.prt.fallback ≠ []) :
    Completes (exec (.pairFallback p x) s) fun u => u.word (s.idleArea + 8) = x ∧ u.word (s.idleArea + 0x3C) = 0x504C5244 ∧
      u.prt.planReport = none :=
  pairMessage_completes fun t heard => by
    obtain ⟨w, ws, hws⟩ := List.exists_cons_of_ne_nil hplan
    have htaken : t.takeFallback p.val x = (t.writeFallback (w :: ws) x).withRed
        { (t.writeFallback (w :: ws) x).red with peerBad := (t.writeFallback (w :: ws) x).red.peerBad ||| 2 ^ p.val } := by
      rw [State.takeFallback, heard.prt, hws]
      exact if_neg (by simp [State.leeward, heard.mode, hm])
    obtain ⟨hat, hmark⟩ := word_writePlan t (w :: ws) x
    have hword : ∀ a, (t.takeFallback p.val x).settle.word a = (t.writePlan (w :: ws) x).word a := fun a => by
      refine word_congr fun i _ _ => ?_
      rw [htaken, State.byte, settle_mem]
      rfl
    rw [hword, hword, ← idleArea_heard heard, settle_prt, htaken]
    exact ⟨hat, hmark, rfl⟩

/-! ### PAIR_VEER, and what ends the asking (R225, R226) -/

theorem pairVeer_offers_completes (y : Word) (hm : s.mode = mStandby) : Completes (exec (.pairVeer 1 y) s) fun u =>
    u.red.veer = some ⟨true, s.boundaryAfter 1000000, ⟨255, 0⟩⟩ ∧
      Sends s u .link 0x0357 [2, lo32 (s.boundaryAfter 1000000)] :=
  pairMessage_completes fun t heard => by
    have hveer : t.pairVeer (1 : Word).toNat y = (({ t with red := { t.red with
        veer := some ⟨true, t.boundaryAfter 1000000, ⟨255, 0⟩⟩ } } : State).put Fld.RED_STATE_veer 4).send .link 0x0357
          [2, lo32 (t.boundaryAfter 1000000)] := by
      rw [State.pairVeer, if_pos (by decide), if_neg (by simp [heard.mode, hm])]
    rw [hveer, heard.boundaryAfter, Sends, settle_red, settle_sent]
    exact ⟨rfl, congrArg _ heard.sent⟩

theorem pairVeer_agrees_completes {v : VeerReq} (y : Word) (hv : s.red.veer = some v) (hacked : v.acked = false)
    (hm : s.mode = mActive) : Completes (exec (.pairVeer 2 y) s) fun u =>
      u.red.veer = some { v with acked := true, at_ := s.time + (y - lo32 s.time).toNat } ∧ u.mode = mActive :=
  pairMessage_completes fun t heard => by
    have hveer : t.pairVeer (2 : Word).toNat y = { t with red := { t.red with
        veer := some { v with acked := true, at_ := t.time + (y - lo32 t.time).toNat } } } := by
      rw [State.pairVeer, if_neg (by decide), if_pos (by decide), heard.red, hv]
      exact if_neg (by simp [hacked, heard.mode, hm])
    rw [hveer, settle_red, settle_mode, heard.time]
    exact ⟨rfl, heard.mode.trans hm⟩

/-- What a veer no longer asked for leaves. -/
def State.unasked (s : State) : State :=
  ({ s with red := { s.red with veer := none }, sys := { s.sys with removal := false } } : State).put Fld.RED_STATE_veer 0

theorem commandedVeerTimeout_completes {v : VeerReq} (hv : s.red.veer = some v) (hacked : v.acked = false)
    (hmbx : v.who.mbx < 68) : Completes (exec .commandedVeerTimeout s) fun u =>
      u.red.veer = none ∧ u.fld Fld.RED_STATE_veer = 0 ∧ u.sys.removal = false := by
  have hended : s.veerTimeout = s.unasked.respond v.who (errAns stTimeout 0 0xFFFF) := by
    rw [State.veerTimeout, hv]
    exact if_neg (by rw [hacked]; decide)
  have hoff : OffBox (· / 65536 = 2) (fun s => (s.red.veer, s.fld Fld.RED_STATE_veer, s.sys)) :=
    ⟨fun s f v hf => by
      have hne : Fld.RED_STATE_veer.key ≠ f.key := fun h => absurd (h ▸ hf) (by decide)
      simp only [s.fld_put_ne f _ v hne, State.put_red, State.put_sys],
      fun _ _ => rfl, fun _ _ _ => rfl, fun _ _ => rfl, fun _ _ _ => rfl⟩
  have hkept := hoff.respond s.unasked (boxKeys_mail hmbx) (errAns stTimeout 0 0xFFFF)
  simp only [Prod.mk.injEq] at hkept
  obtain ⟨hveer, hshown, hsys⟩ := hkept
  refine ⟨s.veerTimeout.settle, rfl, ?_⟩
  beta_reduce
  rw [hended, settle_red, settle_fld _ _ (by decide), settle_sys, hveer, hshown, hsys]
  exact ⟨rfl, State.fld_put_same _ _ _ (by decide), rfl⟩

theorem formerWindward_elsewhere_completes (h : s.handingOver = false) : Completes (exec .formerWindwardStandby s) fun u =>
    u.red = s.red ∧ u.mode = s.mode ∧ Kept s u [] := by
  have hidle : s.formerWindward = s := by
    unfold State.formerWindward
    split
    · rfl
    · rw [h]
      rfl
  refine ⟨s.formerWindward.settle, rfl, ?_⟩
  rw [hidle]
  exact ⟨settle_red s, settle_mode s, Kept.settle (Kept.of_face rfl)⟩

/-! ### PREPARE_DROP_TIMEOUT (R94) -/

theorem prepareDrop_completes (tag : Word) (h : (s.red.prepared.any fun p => p.tag == tag.toNat) = true) :
    Completes (exec (.prepareDropTimeout tag) s) fun u => Sends s u .link 0x0352 [wd tag.toNat, wd 0xFFFF0109] ∧
      u.red.prepared = s.red.prepared.filter (fun p => p.tag != tag.toNat) ∧ u.fw.online = none ∧ Kept s u [] := by
  have hdropped : s.dropPrepared tag.toNat = ({ s.refuseSet tag.toNat (wd 0xFFFF0109) with
      fw := { (s.refuseSet tag.toNat (wd 0xFFFF0109)).fw with online := none } } : State) := by
    rw [State.dropPrepared, if_pos h]
  refine ⟨(s.dropPrepared tag.toNat).settle, rfl, ?_⟩
  rw [hdropped]
  refine ⟨?_, ?_, ?_, Kept.settle (Kept.of_face rfl)⟩
  · rw [Sends, settle_sent]
    rfl
  · rw [settle_red]
    rfl
  · rw [settle_fw]

theorem prepareDrop_unknown_completes (tag : Word) (h : (s.red.prepared.any fun p => p.tag == tag.toNat) = false) :
    Completes (exec (.prepareDropTimeout tag) s) fun u => u.red = s.red ∧ u.fw = s.fw ∧ u.sent = s.sent ∧ Kept s u [] := by
  have hidle : s.dropPrepared tag.toNat = s := by
    rw [State.dropPrepared, if_neg (by rw [h]; decide)]
  refine ⟨(s.dropPrepared tag.toNat).settle, rfl, ?_⟩
  rw [hidle]
  exact ⟨settle_red s, settle_fw s, settle_sent s, Kept.settle (Kept.of_face rfl)⟩

end

end Sys2Proof.Machine

namespace Sys2Proof.Machine

/-! ### PAIR_FAILMARK: the leeward module follows the end of an activation (R185, R206) -/

theorem peak_keeps {β : Type} (p : State → β) (hput : ∀ (s : State) f v, p (s.put f v) = p s) (s : State) (f : Fld) (v : Nat) :
    p (s.peak f v) = p s := by
  unfold State.peak
  split
  · exact hput _ _ _
  · rfl

theorem showFwd_keeps {β : Type} (p : State → β) (hput : ∀ (s : State) f v, p (s.put f v) = p s) (s : State) :
    p s.showFwd = p s := (peak_keeps p hput _ _ _).trans (hput _ _ _)

theorem showHalt_keeps {β : Type} (p : State → β) (hput : ∀ (s : State) f v, p (s.put f v) = p s) (s : State) (l : Nat) (b : Bool)
    (cause : Nat) : p (s.showHalt l b cause) = p s := by
  have hshown : p (((s.flag Fld.LKS_DBGSTAT_halted b).put Fld.LKS_DBGSTAT_cause cause).putBit Fld.LKS_STAT_halted (l / 2) b) =
      p s := (hput _ _ _).trans ((hput _ _ _).trans (hput _ _ _))
  unfold State.showHalt
  simp only
  split
  · exact (hput _ _ _).trans hshown
  · exact hshown

theorem endHalt_keeps {β : Type} (p : State → β) (hput : ∀ (s : State) f v, p (s.put f v) = p s)
    (hlks : ∀ (s : State) x, p { s with lks := x } = p s) (s : State) (a : Act) (l : Nat) : p (s.endHalt a l) = p s := by
  have hhalt : p (if a.halted then s.showHalt l false 0 else s) = p s := by
    split
    · exact showHalt_keeps p hput s l _ _
    · rfl
  have hstep : ∀ t : State, p (if t.lks.stepTask = some a.task then { t with lks := { t.lks with steps := 0, stepTask := none } }
      else t) = p t := fun t => by
    split
    · exact hlks _ _
    · rfl
  exact (hstep _).trans hhalt

theorem forwardOf_keeps {β : Type} (p : State → β) (hitem : ∀ (s : State) k ws, p (s.sendItem k ws) = p s) (s : State) (a : Act)
    (kind : Nat) (ws : List Word) : p (s.forwardOf a kind ws) = p s := by
  unfold State.forwardOf State.forward
  split
  · exact hitem _ _ _
  · split
    · exact hitem _ _ _
    · rfl

theorem laneEvent_keeps {β : Type} (p : State → β) (hitem : ∀ (s : State) k ws, p (s.sendItem k ws) = p s) (s : State) (a : Act)
    (l ev : Nat) : p (s.laneEvent a l ev) = p s := by
  unfold State.laneEvent
  split
  · rfl
  · exact forwardOf_keeps p hitem _ _ _ _

theorem clearLane_act (s : State) (l : Nat) : ((s.clearLane l).lane l).act = none :=
  congrArg (·.act) (lane_setLane_same { s with sys := _ } l _)

theorem discard_lane {s : State} {a : Act} (htaken : a.taken = []) (hresv : a.resv = []) :
    s.discard a = s.setTask a.task { s.task a.task with copying := true } := by
  rw [State.discard, htaken, hresv]
  rfl

/-- What an activation leaves behind that has taken no message and reserved no room. -/
theorem endAct_ends {s : State} {l : Nat} {a : Act} (hact : (s.lane l).act = some a) (htaken : a.taken = []) (hresv : a.resv = []) :
    ((s.endAct l).lane l).act = none ∧ (s.endAct l).red.queue = s.red.queue := by
  have hended : ∃ t : State, t.red.queue = s.red.queue ∧
      s.endAct l = (((t.discard a).clearLane l).endHalt a l).showTask a.task := by
    refine ⟨(s.showUsed a.task (s.fld (Fld.PRT_RUNUSED_used l))).laneEvent a l 4, ?_, ?_⟩
    · exact laneEvent_keeps (·.red.queue) (fun _ _ _ => rfl) _ _ _ _
    · rw [State.endAct, State.endWith, hact]
      rfl
  obtain ⟨t, hqueue, hend⟩ := hended
  rw [hend, discard_lane htaken hresv]
  constructor
  · refine (endHalt_keeps (fun s => (s.lane l).act) (fun _ _ _ => rfl) (fun _ _ => rfl) _ _ _).trans ?_
    exact clearLane_act _ _
  · refine (endHalt_keeps (·.red.queue) (fun _ _ _ => rfl) (fun _ _ => rfl) _ _ _).trans ?_
    exact hqueue

/-- The item that a PAIR_FAILMARK stands for: the end of the activation on a lane, at an instruction count. -/
def State.failItem (s : State) (l count t : Nat) : FwdItem := ⟨s.red.fwdRx, fwEvent, [wd l, 4, lo32 count, hi32 count, wd t], s.time⟩

/-- The item waits to be followed. -/
def State.failQueued (s : State) (i : FwdItem) : State :=
  ({ s with red := { s.red with queue := s.red.queue ++ [i] } }).showFwd

theorem failQueued_shows {s : State} (h : s.red.queue = []) (l : Nat) (i : FwdItem) :
    (s.failQueued i).red.queue = [i] ∧ ((s.failQueued i).lane l).act = (s.lane l).act := by
  rw [State.failQueued, showFwd_keeps (·.red.queue) (fun _ _ _ => rfl), showFwd_keeps (fun s => (s.lane l).act) (fun _ _ _ => rfl), h]
  exact ⟨rfl, rfl⟩

theorem takeFailmark_eq {s : State} {l count t : Nat} (hm : s.mode = mStandby) (hled : s.ledOn l = some t) :
    s.takeFailmark l count = (s.failQueued (s.failItem l count t)).followEvents l := by
  rw [State.takeFailmark, if_neg (by simp [State.leeward, hm]), hled]
  rfl

theorem ledOn_of_empty {s : State} (h : s.red.queue = []) (l : Nat) : s.ledOn l = (s.lane l).act.map (·.task) := by
  rw [State.ledOn, h]
  rfl

theorem useItem_keeps {β : Type} (p : State → β) (hput : ∀ (s : State) f v, p (s.put f v) = p s)
    (hqueue : ∀ (s : State) q, p { s with red := { s.red with queue := q } } = p s) (s : State) (i : FwdItem) :
    p (s.useItem i) = p s := by
  unfold State.useItem
  simp only
  rw [showFwd_keeps p hput, peak_keeps p hput, hput, hqueue]

theorem useItem_queue (s : State) (i : FwdItem) : (s.useItem i).red.queue = s.red.queue.filter (· != i) := by
  unfold State.useItem
  simp only
  rw [showFwd_keeps (·.red.queue) (fun _ _ _ => rfl), peak_keeps (·.red.queue) (fun _ _ _ => rfl)]
  rfl

/-- The one event of a lane, the end of its activation at a count that this has reached, is followed. -/
theorem followEvents_end {s : State} {l count : Nat} {i : FwdItem} {a : Act} (hqueue : s.red.queue = [i])
    (hkind : i.kind = fwEvent) (hws : i.ws = [wd l, 4, lo32 count, hi32 count, wd a.task]) (hl : l < 8) (hcount : count < 2 ^ 32)
    (hact : (s.lane l).act = some a) (htask : a.task < 512) (hreached : count ≤ a.count) :
    s.followEvents l = (s.useItem i).endAct l := by
  have hlane : (wd l).toNat = l := Nat.mod_eq_of_lt (show l < 2 ^ 32 by omega)
  have hid : (wd a.task).toNat = a.task := Nat.mod_eq_of_lt (show a.task < 2 ^ 32 by omega)
  have hlow : (lo32 count).toNat = count := Nat.mod_eq_of_lt hcount
  have hhigh : (hi32 count).toNat = 0 := by
    rw [hi32, Nat.shiftRight_eq_div_pow, Nat.div_eq_of_lt hcount]
    rfl
  have hfirst : s.firstEvent l = some i := by
    rw [State.firstEvent, hqueue, List.find?_cons_of_pos]
    simp [hkind, hws, wAt, hlane]
  have hfollowed : s.followEvent l = some ((s.useItem i).endAct l) := by
    unfold State.followEvent
    rw [hfirst]
    simp only [hws, wAt, List.getD_cons_zero, List.getD_cons_succ, hlow, hhigh, hid, hact]
    rw [if_neg (by simp; omega)]
    rfl
  rw [State.followEvents, hqueue]
  simp only [List.length_singleton, State.followLoop, hfollowed]

section
variable {s : State} {lane : Fin 8} {x : Word}

theorem pairFailmark_idle_completes (h : s.mode ≠ mStandby ∨ (s.lane lane).act = none ∧ s.red.queue = []) :
    Completes (exec (.pairFailmark lane x) s) fun u => u.prt = s.prt ∧ u.red = s.red :=
  pairMessage_completes fun t heard => by
    have hidle : t.takeFailmark lane x.toNat = t := by
      unfold State.takeFailmark
      rcases h with hm | ⟨hact, hqueue⟩
      · exact if_pos (by simp [State.leeward, heard.mode, hm])
      · have hled : t.ledOn lane = none := by
          rw [ledOn_of_empty (by rw [heard.red, hqueue]), State.lane, heard.prt, ← State.lane, hact]
          rfl
        rw [hled]
        exact ite_self t
    rw [hidle, settle_prt, settle_red]
    exact ⟨heard.prt, heard.red⟩

theorem pairFailmark_completes {a : Act} (hm : s.mode = mStandby) (hact : (s.lane lane).act = some a) (hqueue : s.red.queue = [])
    (htask : a.task < 512) (hcount : x.toNat ≤ a.count) (htaken : a.taken = []) (hresv : a.resv = []) :
    Completes (exec (.pairFailmark lane x) s) fun u => (u.lane lane).act = none ∧ u.red.queue = [] :=
  pairMessage_completes fun t heard => by
    have hact' : (t.lane lane).act = some a := by rw [State.lane, heard.prt, ← State.lane, hact]
    have hqueue' : t.red.queue = [] := by rw [heard.red, hqueue]
    have hled : t.ledOn lane = some a.task := by rw [ledOn_of_empty hqueue', hact']; rfl
    obtain ⟨hwaits, hlane⟩ := failQueued_shows hqueue' lane (t.failItem lane x.toNat a.task)
    have hmarked : t.takeFailmark lane x.toNat = ((t.failQueued (t.failItem lane x.toNat a.task)).useItem
        (t.failItem lane x.toNat a.task)).endAct lane := by
      rw [takeFailmark_eq (heard.mode.trans hm) hled]
      exact followEvents_end hwaits rfl rfl lane.isLt x.isLt (hlane.trans hact') htask hcount
    have hused := (useItem_keeps (fun s => (s.lane lane).act) (fun _ _ _ => rfl) (fun _ _ => rfl)
      (t.failQueued (t.failItem lane x.toNat a.task)) (t.failItem lane x.toNat a.task)).trans (hlane.trans hact')
    obtain ⟨hended, hleft⟩ := endAct_ends hused htaken hresv
    rw [hmarked, State.lane, settle_prt, settle_red, hleft, useItem_queue, hwaits]
    exact ⟨hended, by simp⟩

end

end Sys2Proof.Machine

namespace Sys2Proof.Machine

/-! ### PAIR_FAILREP (R185) -/

/-- The lanes, and the pairs that the partner reported. -/
def State.pairFaults (s : State) := (s.prt.lanes, s.red.peerBad)

theorem pairFaults_offBox : OffBox (fun _ => True) State.pairFaults :=
  ⟨fun _ _ _ _ => rfl, fun _ _ => rfl, fun _ _ _ => rfl, fun _ _ => rfl, fun _ _ _ => rfl⟩

theorem cancelVeer_pairFaults (s : State) : s.cancelVeer.pairFaults = s.pairFaults := by
  unfold State.cancelVeer
  split
  · rfl
  · exact pairFaults_offBox.respond _ (boxKeys_any _) _

theorem endCrossing_pairFaults {s : State} (hl : s.prt.lanes = []) : s.endCrossing.pairFaults = s.pairFaults := by
  have hbad : s.endCrossing.red.peerBad = s.red.peerBad :=
    endCrossing_keeps (·.red.peerBad) (fun _ _ => rfl) (fun _ _ => rfl) s
  rw [State.pairFaults, endCrossing_lanes hl, hbad, State.pairFaults, hl]

theorem withRed_pairFaults (s : State) (m : Nat) : (s.withRed { s.red with peerMode := m }).pairFaults = s.pairFaults := rfl

/-- The module after a partner that was in STANDBY has left, before its gates open. -/
def State.partnerOut (s : State) (cause : Nat) : State :=
  ((if s.red.veer.isSome && !s.handingOver then s.cancelVeer.put Fld.RED_STATE_veer 0 else s).endCrossing.put Fld.RED_STATE_cause
    cause).notify 0x0382 none [wd cause]

theorem partnerLeft_eq (s : State) (cause : Nat) : s.partnerLeft cause = ((s.partnerOut cause).withRed { (s.partnerOut cause).red with
    peerMode := if (s.partnerOut cause).red.lost then (s.partnerOut cause).red.peerMode else mResync }).openGates := rfl

theorem partnerLeft_pairFaults {s : State} (hl : s.prt.lanes = []) (cause : Nat) :
    (s.partnerLeft cause).pairFaults = s.pairFaults := by
  have hcancelled : (if s.red.veer.isSome && !s.handingOver then s.cancelVeer.put Fld.RED_STATE_veer 0 else s).pairFaults =
      s.pairFaults := by
    split
    · exact cancelVeer_pairFaults s
    · rfl
  have hout : (s.partnerOut cause).pairFaults = s.pairFaults := by
    refine (pairFaults_offBox.notify (fun m _ => boxKeys_any m) _ _ _ _).trans ?_
    rw [pairFaults_offBox.put _ _ _ trivial, endCrossing_pairFaults, hcancelled]
    exact (congrArg Prod.fst hcancelled).trans hl
  have hlanes : (s.partnerOut cause).prt.lanes = [] := (congrArg Prod.fst hout).trans hl
  rw [partnerLeft_eq, openGates_of_none (by rw [withRed_prt, hlanes]), withRed_pairFaults, hout]

theorem partnerLeft_peerBad {s : State} (hl : s.prt.lanes = []) (cause : Nat) :
    (s.partnerLeft cause).red.peerBad = s.red.peerBad := by
  have h := partnerLeft_pairFaults hl cause
  rw [State.pairFaults, State.pairFaults, Prod.mk.injEq] at h
  exact h.2

theorem withPrt_red (s : State) (x : Prt) : ({ s with prt := x } : State).red = s.red := rfl

theorem askPlacement_red (s : State) (cause : Nat) (halted : Bool) : (s.askPlacement cause halted).red = s.red := rfl

theorem writeFallback_red (s : State) (ws : List (Nat × Word)) (at_ : Word) : (s.writeFallback ws at_).red = s.red := by
  have hplan : (s.writePlan ws at_).red = s.red :=
    writePlan_keeps (·.red) (fun _ _ _ => rfl) (fun _ _ => rfl) (fun _ _ => rfl) s ws at_
  rw [State.writeFallback, withPrt_red, State.flag_red, hplan]

theorem replace_red (s : State) (p : Nat) : (s.replace p).red = s.red := by
  unfold State.replace
  split
  · rfl
  · have hsent : ∀ (t : State) at_, (if t.partnerStandby && t.hasClaim then t.send .link 0x0353 [wd p, at_] else t).red = t.red :=
      fun t at_ => by split <;> rfl
    simp only
    rw [hsent]
    split
    · rw [askPlacement_red, withPrt_red, writeFallback_red]
    · split
      · rw [askPlacement_red, writeFallback_red]
      · exact writeFallback_red s _ _

section
variable {s : State} {p : Fin 4}

theorem pairFailrep_idle_completes (hc : s.hasClaim = false) : Completes (exec (.pairFailrep p) s) fun u => u.red = s.red :=
  pairMessage_completes fun t heard => by
    have hclaim : t.hasClaim = false := by
      rw [State.hasClaim, heard.regs _ (by decide)]
      exact hc
    have hidle : t.takeFailrep p = t := by rw [State.takeFailrep, hclaim]; rfl
    rw [hidle, settle_red, heard.red]

theorem pairFailrep_completes (hl : s.prt.lanes = []) (hc : s.hasClaim = true) :
    Completes (exec (.pairFailrep p) s) fun u => u.red.peerBad = s.red.peerBad ||| 2 ^ p.val :=
  pairMessage_completes fun t heard => by
    have hclaim : t.hasClaim = true := by
      rw [State.hasClaim, heard.regs _ (by decide)]
      exact hc
    obtain ⟨q, hq⟩ : ∃ q : State, q = t.withRed { t.red with peerBad := t.red.peerBad ||| 2 ^ p.val } := ⟨_, rfl⟩
    have hlanes : q.prt.lanes = [] := by rw [hq, withRed_prt, heard.prt, hl]
    have hmarked : q.red.peerBad = s.red.peerBad ||| 2 ^ p.val := by rw [hq, withRed_red, heard.red]
    have htaken : t.takeFailrep p = (if q.partnerStandby then q.partnerLeft 6 else q).replace p := by
      simp only [State.takeFailrep, hclaim, hq, Bool.not_true, Bool.false_eq_true, if_false]
      exact congrArg (State.replace · p) rfl
    rw [htaken, settle_red, replace_red]
    split
    · rw [partnerLeft_peerBad hlanes, hmarked]
    · exact hmarked

end

end Sys2Proof.Machine

namespace Sys2Proof.Machine

/-! ### What a change of windward leaves alone: the claim in MRAM, some registers, and how the pair stands (R213, R226) -/

/-- How the pair stands: a veer asked for, in step, the partner lost, PREPARE REMOVAL. -/
def State.stands (s : State) := (s.red.veer, s.red.joined, s.red.lost, s.sys.removal)

/-- The jobs and the groups in flight. -/
def State.flight (s : State) := (s.ce.jobs, s.qe.groups)

/-- Between `s` and `t` the claim in MRAM, the registers of `K` and how the pair stands have not changed; nor, where `K` holds
the claim driven, what is in flight. -/
structure Steady (K : Nat → Prop) (s t : State) : Prop where
  claim : t.nv.claim = s.nv.claim
  regs : ∀ k, K k → t.reg k = s.reg k
  stands : t.stands = s.stands
  flight : K Reg.RED_CLAIM → t.flight = s.flight

namespace Steady
variable {K : Nat → Prop}

theorem refl (s : State) : Steady K s s := ⟨rfl, fun _ _ => rfl, rfl, fun _ => rfl⟩

theorem trans {s t u : State} (h : Steady K s t) (g : Steady K t u) : Steady K s u :=
  ⟨g.claim.trans h.claim, fun k hk => (g.regs k hk).trans (h.regs k hk), g.stands.trans h.stands,
    fun hk => (g.flight hk).trans (h.flight hk)⟩

theorem mono {L : Nat → Prop} {s t : State} (h : Steady K s t) (hsub : ∀ k, L k → K k) : Steady L s t :=
  ⟨h.claim, fun k hk => h.regs k (hsub k hk), h.stands, fun hk => h.flight (hsub _ hk)⟩

theorem setReg (s : State) {k : Nat} (v : Word) (h : ¬ K k) : Steady K s (s.setReg k v) :=
  ⟨rfl, fun _ hj => s.reg_setReg_ne v fun hjk => h (hjk ▸ hj), rfl, fun _ => rfl⟩

theorem put (s : State) {f : Fld} (v : Nat) (h : ¬ K f.key) : Steady K s (s.put f v) := setReg s _ h

theorem flag (s : State) {f : Fld} (b : Bool) (h : ¬ K f.key) : Steady K s (s.flag f b) := setReg s _ h

theorem bump (s : State) {f : Fld} (h : ¬ K f.key) : Steady K s (s.bump f) := setReg s _ h

theorem putBit (s : State) {f : Fld} (n : Nat) (b : Bool) (h : ¬ K f.key) : Steady K s (s.putBit f n b) := setReg s _ h

theorem peak (s : State) {f : Fld} (v : Nat) (h : ¬ K f.key) : Steady K s (s.peak f v) := by
  unfold State.peak
  split
  · exact put s _ h
  · exact refl s

theorem setWords (s : State) (a : Nat) (ws : List Word) : Steady K s (s.setWords a ws) :=
  ⟨setWords_keeps (·.nv.claim) (fun _ _ => rfl) ws s a, fun k _ => setWords_keeps (·.reg k) (fun _ _ => rfl) ws s a,
    setWords_keeps State.stands (fun _ _ => rfl) ws s a, fun _ => setWords_keeps State.flight (fun _ _ => rfl) ws s a⟩

theorem setWord (s : State) (a : Nat) (w : Word) : Steady K s (s.setWord a w) := setWords s a [w]

theorem setBytes (s : State) (a : Nat) (bs : List Byte) : Steady K s (s.setBytes a bs) :=
  ⟨setBytes_keeps (·.nv.claim) (fun _ _ => rfl) bs s a, fun k _ => setBytes_keeps (·.reg k) (fun _ _ => rfl) bs s a,
    setBytes_keeps State.stands (fun _ _ => rfl) bs s a, fun _ => setBytes_keeps State.flight (fun _ _ => rfl) bs s a⟩

theorem zero (s : State) (a n : Nat) : Steady K s (s.zero a n) := ⟨rfl, fun _ _ => rfl, rfl, fun _ => rfl⟩

theorem foldl {α : Type} {f : State → α → State} {xs : List α} (h : ∀ s, ∀ x ∈ xs, Steady K s (f s x)) (s : State) :
    Steady K s (xs.foldl f s) := foldl_relates refl trans h s

theorem ite {c : Prop} [Decidable c] {s t u : State} (ht : Steady K s t) (hu : Steady K s u) : Steady K s (if c then t else u) := by
  split
  · exact ht
  · exact hu

theorem of_offBox {L : Nat → Prop} (hL : ∀ k, L k → ¬ K k) {s t : State}
    (h : ∀ {β : Type} (p : State → β), OffBox L p → p t = p s) : Steady K s t where
  claim := h (·.nv.claim) ⟨fun _ _ _ _ => rfl, fun _ _ => rfl, fun _ _ _ => rfl, fun _ _ => rfl, fun _ _ _ => rfl⟩
  regs k hk := h (·.reg k) ⟨fun s f v hf => s.reg_put_ne f v fun hkf => hL _ hf (hkf ▸ hk), fun _ _ => rfl, fun _ _ _ => rfl,
    fun _ _ => rfl, fun _ _ _ => rfl⟩
  stands := h State.stands ⟨fun _ _ _ _ => rfl, fun _ _ => rfl, fun _ _ _ => rfl, fun _ _ => rfl, fun _ _ _ => rfl⟩
  flight _ := h State.flight ⟨fun _ _ _ _ => rfl, fun _ _ => rfl, fun _ _ _ => rfl, fun _ _ => rfl, fun _ _ _ => rfl⟩

theorem respond (s : State) {d : Deferred} (hd : BoxKeys (¬ K ·) d.mbx) (a : Answer) : Steady K s (s.respond d a) :=
  of_offBox (fun _ h => h) fun _ h => h.respond s hd a

theorem placeSlot (s : State) {m : Nat} (hm : BoxKeys (¬ K ·) m) (w0 : Word) (flags status part : Nat) (pay : List Word) :
    Steady K s (s.placeSlot m w0 flags status part pay) :=
  of_offBox (fun _ h => h) fun _ h => h.placeSlot hm s w0 flags status part pay

theorem notify (hall : ∀ m < 68, BoxKeys (¬ K ·) m) (s : State) (op : Nat) (part : Option Nat) (pay : List Word) :
    Steady K s (s.notify op part pay) :=
  of_offBox (fun _ h => h) fun _ h => h.notify hall s op part pay

theorem item (s : State) (kind : Nat) (ws : List Word) : Steady K s (s.sendItem kind ws) := ⟨rfl, fun _ _ => rfl, rfl, fun _ => rfl⟩

theorem forward (s : State) (kind : Nat) (ws : List Word) : Steady K s (s.forward kind ws) := by
  unfold State.forward
  split
  · exact item s kind ws
  · exact refl s

theorem send (s : State) (c : Chan) (w : Nat) (ws : List Word) : Steady K s (s.send c w ws) := ⟨rfl, fun _ _ => rfl, rfl, fun _ => rfl⟩
theorem withPrt (s : State) (x : Prt) : Steady K s { s with prt := x } := ⟨rfl, fun _ _ => rfl, rfl, fun _ => rfl⟩
theorem withSys (s : State) (x : Sys) (h : x.removal = s.sys.removal) : Steady K s { s with sys := x } :=
  ⟨rfl, fun _ _ => rfl, congrArg (fun r => (s.red.veer, s.red.joined, s.red.lost, r)) h, fun _ => rfl⟩
theorem record (s : State) (c r o b a m : Nat) (d : List Word) : Steady K s (s.record c r o b a m d) :=
  ⟨rfl, fun _ _ => rfl, rfl, fun _ => rfl⟩
theorem withFw (s : State) (x : Fw) : Steady K s { s with fw := x } := ⟨rfl, fun _ _ => rfl, rfl, fun _ => rfl⟩

end Steady

/-- The registers of SYS, and the claim driven. -/
def Shown (k : Nat) : Prop := k < 65536 ∨ k = Reg.RED_CLAIM

theorem not_shown {k : Nat} (h : 65536 ≤ k) (hne : k ≠ Reg.RED_CLAIM) : ¬ Shown k := by
  unfold Shown
  omega

/-- No response stands in such a register. -/
theorem boxKeys_notShown (m : Nat) : BoxKeys (¬ Shown ·) m := by
  simp only [BoxKeys, Shown, Reg.MBX_RSP_HEAD, Reg.MBX_RSP_TAIL, Reg.MBX_STAT, Reg.RED_CLAIM]
  omega

end Sys2Proof.Machine

namespace Sys2Proof.Machine

/-! ### A mode entered from STANDBY (R38, R39) -/

namespace Steady

theorem dropMode (s : State) : Steady Shown s s.dropMode := by
  have hscheduled : Steady Shown s s.dropScheduled := by
    unfold State.dropScheduled
    split
    · exact refl s
    · exact (withSys s { s.sys with modeAt := none } rfl).trans (record _ _ _ _ _ _ _ _)
  have hconfirm : ∀ t : State, Steady Shown t t.dropConfirm := fun t => by
    unfold State.dropConfirm
    split
    · exact refl t
    · exact ((withSys t { t.sys with confirm := none } rfl).trans (record _ _ _ _ _ _ _ _)).trans (respond _ (boxKeys_notShown _) _)
  exact hscheduled.trans (hconfirm _)

theorem canTo (s : State) {p : Nat} (hp : p < 4) (st : Nat) : Steady Shown s (s.canTo p st) := by
  have hstat : ¬ Shown (Reg.CAN_STAT p) := by simp only [Shown, Reg.CAN_STAT, Reg.RED_CLAIM]; omega
  exact ((put s _ hstat).trans (put _ _ hstat)).trans (put _ _ hstat)

theorem setCanPort (s : State) (p : Nat) (x : CanPort) : Steady Shown s (s.setCanPort p x) := ⟨rfl, fun _ _ => rfl, rfl, fun _ => rfl⟩

theorem canStart (s : State) {p : Nat} (hp : p < 4) (m : Nat) : Steady Shown s (s.canStart p m) := by
  have htxb : ¬ Shown (Reg.CAN_TXB p) := by simp only [Shown, Reg.CAN_TXB, Reg.RED_CLAIM]; omega
  have habd : ¬ Shown (Reg.CAN_ABD p) := by simp only [Shown, Reg.CAN_ABD, Reg.RED_CLAIM]; omega
  have href : ∀ b, Steady Shown s (s.flag (Fld.CAN_TXB_ref p) b) := fun b => put s _ htxb
  unfold State.canStart
  simp only
  split_ifs
  · exact (href _).trans (canTo _ hp _)
  · exact (href _).trans (canTo _ hp _)
  · exact ((href _).trans (((setCanPort _ _ _).trans (put _ _ habd)).trans (put _ _ habd))).trans (canTo _ hp _)
  · exact (href _).trans (canTo _ hp _)
  · exact (href _).trans (canTo _ hp _)

/-- Ports that take up a mode with their outputs hold what they have loaded. -/
theorem canMode (s : State) {m : Nat} (hm : ¬ (m = mStandby ∨ m = mResync)) : Steady Shown s (s.canMode m) := by
  refine foldl (fun s p hp => ?_) s
  rw [mem_upFrom] at hp
  simp only [if_neg hm]
  split
  · exact refl s
  · exact (setCanPort s _ _).trans (canStart _ (by omega) m)

theorem undim (s : State) : Steady Shown s s.undim := by
  unfold State.undim
  split
  · exact refl s
  · exact (put s (f := Fld.PNL_STAT_dimmed) (b1 false) (not_shown (by decide) (by decide))).trans
      ⟨rfl, fun _ _ => rfl, rfl, fun _ => rfl⟩

theorem usbFollow (s : State) : Steady Shown s s.usbFollow := by
  have husb : ¬ Shown Reg.PNL_USB := not_shown (by decide) (by decide)
  have hfunction : ∀ b, Steady Shown s (s.flag Fld.PNL_USB_function b) := fun b => put s _ husb
  have hconfigured : ∀ t : State, Steady Shown t (t.flag Fld.PNL_USB_configured false) := fun t => put t _ husb
  unfold State.usbFollow
  simp only
  split_ifs
  · exact hfunction _
  · exact ((hfunction _).trans (hconfigured _)).trans (withFw _ _)
  · exact (hfunction _).trans (hconfigured _)

theorem servedShown (s : State) (m : Nat) : Steady Shown s (s.servedShown m) := by
  have hflags : Steady Shown s ((upFrom 0 72).foldl (fun s b => s.flag (Fld.MBX_STAT_served b) (servedIn m b)) s) :=
    foldl (fun s b _ => put s _ (boxKeys_notShown b).2.2) s
  unfold State.servedShown
  exact hflags.trans (withSys _ _ rfl)

theorem notifyAll (s : State) (op : Nat) (part : Option Nat) (pay : List Word) : Steady Shown s (s.notify op part pay) :=
  notify (fun m _ => boxKeys_notShown m) s op part pay

theorem modeShown (s : State) (old m : Nat) : Steady (· = Reg.RED_CLAIM) s (s.modeShown old m) :=
  (put s _ (by decide : ¬ Reg.SYS_MODE = Reg.RED_CLAIM)).trans (put _ _ (by decide : ¬ Reg.SYS_MODE = Reg.RED_CLAIM))

theorem mode {s t : State} (h : Steady Shown s t) : t.mode = s.mode := fld_of_reg (h.regs _ (.inl (by decide)))

theorem driven {s t : State} (h : Steady Shown s t) : t.reg Reg.RED_CLAIM = s.reg Reg.RED_CLAIM := h.regs _ (.inr rfl)

theorem onlyClaim {s t : State} (h : Steady Shown s t) : Steady (· = Reg.RED_CLAIM) s t := h.mono fun _ hk => .inr hk

end Steady

/-- STANDBY is left for ACTIVE: the claims stay. -/
theorem enterMode_active {s : State} (hm : s.mode = mStandby) :
    Steady (· = Reg.RED_CLAIM) s (s.enterMode mActive) ∧ (s.enterMode mActive).mode = mActive := by
  have hleft : s.leftFor mActive = s := by
    have hruns : ¬ (runMode mStandby && !runMode mActive) = true := by decide
    have hforces : ¬ (mStandby == mCommission && mActive != mCommission) = true := by decide
    simp only [State.leftFor, hm, if_neg hruns, if_neg hforces]
    exact if_pos (by decide)
  have hstarted : ∀ t : State, t.startedIn mActive = t := fun t => if_pos (by decide)
  have hplant : ∀ t : State, Steady Shown t (t.plantMode mStandby mActive) := fun t => by
    have heq : t.plantMode mStandby mActive = (t.canMode mActive).undim.usbFollow := by simp [State.plantMode]
    rw [heq]
    exact ((Steady.canMode t (by decide)).trans (.undim _)).trans (.usbFollow _)
  have hlater : Steady Shown (s.modeShown mStandby mActive) (s.enterMode mActive) := by
    rw [enterMode_eq, hleft, hstarted, hm]
    exact ((Steady.servedShown _ _).trans (hplant _)).trans (.notifyAll _ _ _ _)
  exact ⟨(Steady.modeShown _ _ _).trans hlater.onlyClaim, hlater.mode.trans (modeShown_mode _ _ (by decide))⟩

end Sys2Proof.Machine

namespace Sys2Proof.Machine

/-! ### What the new windward module settles once it is ACTIVE (R213, R222, R226) -/

namespace Steady

theorem selectRef (s : State) : Steady Shown s (s.selectRef false) := by
  have hstat : ¬ Shown Reg.TU_STAT := not_shown (by decide) (by decide)
  unfold State.selectRef
  simp only [Bool.not_false, Bool.and_true, Bool.false_and, Bool.false_eq_true, if_false]
  split
  · exact refl s
  · split
    · exact trans (put s (f := Fld.TU_STAT_ref) _ hstat) ⟨rfl, fun _ _ => rfl, rfl, fun _ => rfl⟩
    · rw [ite_self]
      exact refl s

theorem bestMaster (s : State) : Steady Shown s s.bestMaster := by
  have hports : ∀ (v : State → Nat → Nat), Steady Shown s ((upFrom 0 6).foldl (fun s p =>
      s.put (Fld.TU_PORTSTAT_state p) (v s p)) s) := fun v => foldl (fun s p hp => by
    rw [mem_upFrom] at hp
    refine put s _ ?_
    simp only [Shown, Fld.TU_PORTSTAT_state, Reg.TU_PORTSTAT, Reg.RED_CLAIM]
    omega) s
  have hutc : ∀ (t : State) b n, Steady Shown t ((t.flag Fld.TU_UTCOFF_valid b).put Fld.TU_UTCOFF_utc n) := fun t b n =>
    (put t _ (not_shown (by decide) (by decide))).trans (put _ _ (not_shown (by decide) (by decide)))
  unfold State.bestMaster
  simp only
  split
  · exact ((hports _).trans (hutc _ _ _)).trans (selectRef _)
  · exact (hports _).trans (selectRef _)

theorem failHomings (s : State) : Steady Shown s s.failHomings := by
  refine foldl (fun s g _ => ?_) s
  simp only
  split
  · exact ⟨rfl, fun _ _ => rfl, rfl, fun _ => rfl⟩
  · exact refl s

theorem setField (s : State) (unit chan p : Nat) (v : Int) (q t : Nat) : Steady Shown s (s.setField unit chan p v q t) := by
  unfold State.setField
  simp only
  split <;> exact ⟨rfl, fun _ _ => rfl, rfl, fun _ => rfl⟩

theorem showSync (s : State) {c : Nat} (hc : c < 2) : Steady Shown s (s.showSync c) := by
  have hstat : ¬ Shown Reg.PH_STAT := not_shown (by decide) (by decide)
  have htcl : ¬ Shown (Reg.PH_TCL c) := by simp only [Shown, Reg.PH_TCL, Reg.RED_CLAIM]; omega
  have hpoint : ∀ (t : State) a v q, Steady Shown t (t.setPoint a v q) := fun _ _ _ _ => ⟨rfl, fun _ _ => rfl, rfl, fun _ => rfl⟩
  unfold State.showSync
  exact ((((((putBit s _ _ hstat).trans (putBit _ _ _ hstat)).trans (put _ _ htcl)).trans (hpoint _ _ _ _)).trans
    (setField _ _ _ _ _ _ _)).trans (setField _ _ _ _ _ _ _)).trans (setField _ _ _ _ _ _ _)

theorem veerSyncs (s : State) : Steady Shown s s.veerSyncs := by
  refine foldl (fun s c hc => ?_) s
  rw [mem_upFrom] at hc
  have hsync : ¬ Shown (Reg.PH_SYNCSTAT c) := by simp only [Shown, Reg.PH_SYNCSTAT, Reg.RED_CLAIM]; omega
  have hslot : Steady Shown s (s.writeSyncSlot c false) := ⟨rfl, fun _ _ => rfl, rfl, fun _ => rfl⟩
  split
  · exact ((hslot.trans (put _ _ hsync)).trans (put _ _ hsync)).trans (showSync _ (by omega))
  · exact refl s

theorem buildPair (s : State) (b t size : Nat) (init : List (Nat × Byte)) : Steady Shown s (s.buildPair b t size init) := by
  have hbytes : ∀ u : State, Steady Shown u (init.foldl (fun s (o, v) => s.setByte (b + 0x40 + 2 * mapBytes size + o) v) u) :=
    fun u => foldl (fun s x _ => setBytes s (b + 0x40 + 2 * mapBytes size + x.1) [x.2]) u
  unfold State.buildPair
  exact ((zero s _ _).trans (setWords _ _ _)).trans (hbytes _)

theorem setTask (s : State) (t : Nat) (x : Task) : Steady Shown s (s.setTask t x) := ⟨rfl, fun _ _ => rfl, rfl, fun _ => rfl⟩

theorem coldStart (s : State) (t : Nat) : Steady Shown s (s.coldStart t) := by
  unfold State.coldStart
  split
  · exact refl s
  · split
    · exact (buildPair s _ _ _ _).trans (setTask _ _ _)
    · exact (buildPair s _ _ _ _).trans (setTask _ _ _)

theorem ethOut (s : State) {ports : List Nat} (hports : ∀ p ∈ ports, p < 2) (what : Nat) (ws : List Word) :
    Steady Shown s (s.ethOut ports what ws) := by
  have hcounted : ∀ t : State, Steady Shown t (ports.foldl (fun s p => s.wrapInc (Fld.ETH_TX_tx p)) t) := fun t =>
    foldl (fun s p hp => by
      have := hports p hp
      refine put s _ ?_
      simp only [Shown, Fld.ETH_TX_tx, Reg.ETH_TX, Reg.RED_CLAIM]
      omega) t
  unfold State.ethOut
  simp only
  refine trans ?_ (hcounted _)
  exact ⟨rfl, fun _ _ => rfl, rfl, fun _ => rfl⟩

theorem sendAlc (s : State) : Steady Shown s s.sendAlc := by
  unfold State.sendAlc
  split
  · exact refl s
  · refine trans ?_ (ethOut (ports := [0, 1]) _ (by decide) _ _)
    exact ⟨rfl, fun _ _ => rfl, rfl, fun _ => rfl⟩

theorem gratuitousArp (s : State) : Steady Shown s s.gratuitousArp := foldl (fun s _ _ => ethOut (ports := [0, 1]) s (by decide) _ _) s

theorem abortLine (kind : Nat) (s : State) (m : Nat) : Steady Shown s (s.abortLine kind m) :=
  foldl (fun s _ _ => respond s (boxKeys_notShown m) _) s

theorem abortPeer (s : State) (kind : Nat) : Steady Shown s (s.abortPeer kind) := by
  unfold State.abortPeer
  exact (withFw s _).trans (foldl (fun s e _ => placeSlot s (boxKeys_notShown e.1) _ _ _ _ _) _)

theorem showTask (s : State) (t : Nat) : Steady Shown s (s.showTask t) := by
  refine put s _ ?_
  simp only [Shown, Fld.PRT_TSTAT_state, Reg.PRT_TSTAT, Reg.RED_CLAIM]
  omega

theorem witClaimed (s : State) (n : Word) (kind : Nat) : Steady Shown s (s.witClaimed n kind) :=
  foldl (fun s _ _ => send s _ _ _) s

theorem setRoles (s : State) (r : Nat) : Steady Shown s (s.setRoles r) where
  claim := setRoles_keeps (·.nv.claim) (fun _ _ => rfl) s r
  regs k _ := setRoles_keeps (·.reg k) (fun _ _ => rfl) s r
  stands := setRoles_keeps State.stands (fun _ _ => rfl) s r
  flight _ := setRoles_keeps State.flight (fun _ _ => rfl) s r

end Steady

end Sys2Proof.Machine

namespace Sys2Proof.Machine

/-! ### Buffers and queues leave the claim in MRAM alone (R239 to R248) -/

/-- No register. -/
def NoReg (_ : Nat) : Prop := False

theorem not_noReg {k : Nat} : ¬ NoReg k := id

namespace Steady

theorem withQe (s : State) (x : Qe) : Steady NoReg s { s with qe := x } := ⟨rfl, fun _ _ => rfl, rfl, False.elim⟩

theorem setCharge (s : State) (kind i v : Nat) : Steady NoReg s (s.setCharge kind i v) := by
  unfold State.setCharge
  split_ifs
  · exact withQe s _
  · exact withQe s _
  · exact withQe s _

theorem showFree (s : State) : Steady NoReg s s.showFree :=
  ((put s _ not_noReg).trans (put _ _ not_noReg)).trans (put _ _ not_noReg)

theorem release (s : State) (kind i : Nat) : Steady NoReg s (s.release kind i) := by
  unfold State.release
  split
  · exact refl s
  · exact ((setCharge s _ _ _).trans (put _ _ not_noReg)).trans (showFree _)

theorem freeHandle (s : State) (h : Nat) : Steady NoReg s (s.freeHandle h) := by
  unfold State.freeHandle
  split
  · exact release s _ _
  · exact refl s

theorem freeMsg (s : State) (d : Nat) : Steady NoReg s (s.freeMsg d) :=
  (foldl (fun s h _ => freeHandle s h) s).trans (release _ _ _)

theorem withPfc (s : State) (x : List (Nat × PfcCnt)) : Steady NoReg s { s with pfc := x } := ⟨rfl, fun _ _ => rfl, rfl, fun _ => rfl⟩

theorem pfcEvent (s : State) (cls arg n : Nat) : Steady NoReg s (s.pfcEvent cls arg n) := by
  have hclip : ∀ (t : State) (c : Prop) [Decidable c] (f : Fld) b, Steady NoReg t (if c then t.putBit f b true else t) :=
    fun t c _ f b => by
      split
      · exact putBit t _ _ not_noReg
      · exact refl t
  unfold State.pfcEvent
  split
  · exact refl s
  · refine foldl (fun s e _ => ?_) s
    simp only
    split
    · exact refl s
    · exact (withPfc s _).trans (hclip _ _ _ _)

theorem chargeDram (s : State) (p n : Nat) : Steady NoReg s (s.chargeDram p n) := by
  unfold State.chargeDram
  split
  · exact refl s
  · exact (withPrt s _).trans (pfcEvent _ _ _ _)

theorem countDepth (s : State) (p : Nat) : Steady NoReg s (s.countDepth p) := by
  unfold State.countDepth
  split
  · exact bump s not_noReg
  · exact refl s

theorem countQuota (s : State) (p : Nat) : Steady NoReg s (s.countQuota p) := by
  unfold State.countQuota
  simp only
  split
  · exact (bump s not_noReg).trans (bump _ not_noReg)
  · exact bump s not_noReg

theorem alloc (s : State) (kind p : Nat) : Steady NoReg s (s.alloc kind p).1 := by
  unfold State.alloc
  simp only
  split
  · exact ((setCharge s _ _ _).trans (put _ _ not_noReg)).trans (showFree _)
  · exact bump s not_noReg
  · exact countQuota s p
  · exact (bump s not_noReg).trans (countQuota _ p)

theorem allocMany (kind p n : Nat) (s : State) (acc : List Nat) : Steady NoReg s (s.allocMany kind p n acc).1 := by
  induction n generalizing s acc with
  | zero => exact refl s
  | succ n ih =>
    have hfirst := alloc s kind p
    unfold State.allocMany
    split
    · next s1 i heq =>
      rw [heq] at hfirst
      exact hfirst.trans (ih _ _)
    · next s1 heq =>
      rw [heq] at hfirst
      exact hfirst.trans (foldl (fun s i _ => release s kind i) _)

theorem fillBufs (kind : Nat) (is : List Nat) (s : State) (bs : List Byte) : Steady NoReg s (s.fillBufs kind is bs) := by
  induction is generalizing s bs with
  | nil => exact refl s
  | cons i is ih =>
    unfold State.fillBufs
    split
    · exact (setBytes s _ _).trans (chargeDram _ _ _)
    · exact (setBytes s _ _).trans (ih _ _)

theorem writeMsg (s : State) (q p : Nat) (m : Msg) : Steady NoReg s (s.writeMsg q p m).1 := by
  have hdesc := alloc s 2 p
  unfold State.writeMsg
  simp only
  split
  · next s1 heq =>
    rw [heq] at hdesc
    exact hdesc
  · next s1 d heq =>
    rw [heq] at hdesc
    split
    · next s2 heq2 =>
      have hbufs := allocMany (if m.bytes.length ≤ 1024 then 0 else 1) p
        (if (if m.bytes.length ≤ 1024 then 0 else 1) = 0 then (m.bytes.length + 255) / 256 else 1) s1 []
      rw [heq2] at hbufs
      exact (hdesc.trans hbufs).trans (release _ _ _)
    · next s2 bufs heq2 =>
      have hbufs := allocMany (if m.bytes.length ≤ 1024 then 0 else 1) p
        (if (if m.bytes.length ≤ 1024 then 0 else 1) = 0 then (m.bytes.length + 255) / 256 else 1) s1 []
      rw [heq2] at hbufs
      exact ((hdesc.trans hbufs).trans (fillBufs _ _ _ _)).trans (setWords _ _ _)

theorem setQueue (s : State) (q : Nat) (x : Queue) : Steady NoReg s (s.setQueue q x) := withQe s _

theorem setDescWord (s : State) (d i : Nat) (v : Word) : Steady NoReg s (s.setDescWord d i v) := setWord s _ v

theorem linkMsgs (q : Nat) (ds : List Nat) (s : State) : Steady NoReg s (State.linkMsgs q s ds) := by
  induction ds generalizing s with
  | nil => exact refl s
  | cons d ds ih =>
    cases ds with
    | nil => exact setDescWord s _ _ _
    | cons e ds => exact (setDescWord s _ _ _).trans (ih _)

theorem mirrorQueue (s : State) (q kind : Nat) (ws : List Word) : Steady NoReg s (s.mirrorQueue q kind ws) := by
  unfold State.mirrorQueue
  split
  · exact refl s
  · split
    · exact item s kind ws
    · exact forward s kind ws

theorem unlinkMsg (s : State) (q d : Nat) : Steady NoReg s (s.unlinkMsg q d) :=
  (mirrorQueue s _ _ _).trans ((setQueue _ _ _).trans (linkMsgs _ _ _))

theorem dropOldest {s t : State} {q : Nat} (h : s.dropOldest q = some t) : Steady NoReg s t := by
  unfold State.dropOldest at h
  split at h
  · simp at h
  · obtain rfl := Option.some.inj h
    exact ((unlinkMsg s _ _).trans (freeMsg _ _)).trans (setQueue _ _ _)

end Steady

end Sys2Proof.Machine

namespace Sys2Proof.Machine

/-! ### Jobs and events leave the claim in MRAM alone (R33 to R37, R270 to R289, R500, R585) -/

/-- The counters copied by a capture of group `g`. -/
def State.captured (s : State) (g : Nat) : State :=
  s.pfc.foldl (fun s e =>
    let x := e.2
    let v := if x.wasAt = s.clk + 1 then x.was else x.count - (if x.last = s.clk + 1 then x.inClk else 0)
    if g < 4 then
      (if bits x.ev 6 4 = g + 1 then s.putSplit (Reg.PFC_SHD_HI e.1) (Reg.PFC_SHD_LO e.1) v else s)
    else if bits x.ev 3 2 = g - 3 then s.putSplit (Reg.PFC_SNAP_HI e.1) (Reg.PFC_SNAP_LO e.1) v else s) s

/-- The time of a capture shown. -/
def State.captureShown (s : State) (g : Nat) : State :=
  let t := (s.putSplit (Reg.PFC_GTIME_HI g) (Reg.PFC_GTIME_LO g) s.time).wrapInc (Fld.PFC_GSEQ_count g)
  (t.flag (Fld.PFC_GSEQ_valid g) (t.isSet Fld.TU_STAT_valid)).flag (Fld.PFC_GSEQ_holdover g) (t.fld Fld.TU_STAT_state == 3)

namespace Steady

theorem setJob (s : State) (b : Nat) (x : Option CeJob) : Steady NoReg s (s.setJob b x) := by
  have hce : ∀ y, Steady NoReg s { s with ce := y } := fun _ => ⟨rfl, fun _ _ => rfl, rfl, False.elim⟩
  unfold State.setJob
  simp only
  split
  · exact ((hce _).trans (setWords _ _ _)).trans (setWords _ _ _)
  · exact hce _

theorem writeCapHeader (s : State) (b : Nat) (x : CeJob) : Steady NoReg s (s.writeCapHeader b x) := setWords s _ _

theorem stopJob (s : State) (b reason : Nat) : Steady NoReg s (s.stopJob b reason) := by
  unfold State.stopJob
  split
  · exact refl s
  · split
    · exact refl s
    · exact (((((setJob s _ _).trans (writeCapHeader _ _ _)).trans (put _ _ not_noReg)).trans (put _ _ not_noReg)).trans
        (flag _ _ not_noReg)).trans (setReg _ _ not_noReg)

theorem takeItem (s : State) (a : Nat) : Steady NoReg s (s.takeItem a).1 := by
  unfold State.takeItem
  simp only
  split
  · exact ⟨rfl, fun _ _ => rfl, rfl, fun _ => rfl⟩
  · exact refl s

theorem takeTrigItem (s : State) (a : Nat) : Steady NoReg s (s.takeTrigItem a).1 := by
  unfold State.takeTrigItem
  simp only
  split
  · exact takeItem s a
  · split
    · exact ⟨rfl, fun _ _ => rfl, rfl, fun _ => rfl⟩
    · exact refl s

theorem setLoop (s : State) (i : Nat) (x : LoopSlot) : Steady NoReg s (s.setLoop i x) := by
  have hslot : Steady NoReg s (s.putLoop i x) := ⟨rfl, fun _ _ => rfl, rfl, fun _ => rfl⟩
  exact hslot.trans (setWords _ _ _)

theorem stopIdle (s : State) (i : Nat) : Steady NoReg s (s.stopIdle i) := by
  unfold State.stopIdle
  split
  · split
    · exact stopJob s _ _
    · exact refl s
  · exact refl s

theorem takeLoopItems (s : State) (i : Nat) : Steady NoReg s (s.takeLoopItems i) := by
  have hmode := takeTrigItem s (loopItem i liMODE)
  rcases ha : s.takeTrigItem (loopItem i liMODE) with ⟨s1, mode, m1⟩
  rw [ha] at hmode
  have hman := takeTrigItem s1 (loopItem i liMANUAL)
  rcases hb : s1.takeTrigItem (loopItem i liMANUAL) with ⟨s2, man, m2⟩
  rw [hb] at hman
  have hlo := takeTrigItem s2 (loopItem i liOUTLO)
  rcases hc : s2.takeTrigItem (loopItem i liOUTLO) with ⟨s3, lo, m3⟩
  rw [hc] at hlo
  have hhi := takeTrigItem s3 (loopItem i liOUTHI)
  rcases hd : s3.takeTrigItem (loopItem i liOUTHI) with ⟨s4, hi, m4⟩
  rw [hd] at hhi
  unfold State.takeLoopItems
  simp only [ha, hb, hc, hd]
  refine ((((hmode.trans hman).trans hlo).trans hhi).trans ?_).trans (stopIdle _ _)
  exact ite (ite (setLoop s4 i _) (setLoop s4 i _)) (setLoop s4 i _)

theorem loopPend (s : State) (i : Nat) (l : Latch) : Steady NoReg s (s.loopPend i l) :=
  (setLoop s _ _).trans (put _ _ not_noReg)

theorem loopSkip (s : State) (i : Nat) : Steady NoReg s (s.loopSkip i) := by
  have hcounted : Steady NoReg s ((s.bump Fld.CE_SKIPCNT_skipped).setLoop i
      { s.loop i with skipped := satInc 16 (s.loop i).skipped }) := (bump s not_noReg).trans (setLoop _ _ _)
  unfold State.loopSkip
  simp only
  split
  · exact hcounted.trans ((setJob _ _ _).trans (writeCapHeader _ _ _))
  · exact hcounted

theorem loopTrigger (s : State) (i : Nat) : Steady NoReg s (s.loopTrigger i) := by
  unfold State.loopTrigger
  simp only
  split_ifs
  · exact refl s
  · exact (loopSkip s i).trans (forward _ _ _)
  · exact ((takeLoopItems s i).trans (setLoop _ _ _)).trans (forward _ _ _)
  · exact ((takeLoopItems s i).trans (loopPend _ _ _)).trans (forward _ _ _)

theorem loopLine (s : State) (n : Nat) : Steady NoReg s (s.loopLine n) := by
  refine foldl (fun s i _ => ?_) s
  simp only
  split
  · exact loopTrigger s i
  · exact refl s

theorem setTaskFree (s : State) (t : Nat) (x : Task) : Steady NoReg s (s.setTask t x) := withPrt s _

theorem skipTrigger (s : State) (t : Nat) : Steady NoReg s (s.skipTrigger t) := (bump s not_noReg).trans (setTaskFree _ _ _)

theorem joinTrigger (s : State) (t src : Nat) (angle : Word) (slot : Nat) : Steady NoReg s (s.joinTrigger t src angle slot) := by
  unfold State.joinTrigger
  split
  · split
    · exact setTaskFree s _ _
    · exact refl s
  · exact refl s

theorem takeTrigger (s : State) (t src : Nat) (angle : Word) (slot : Nat) : Steady NoReg s (s.takeTrigger t src angle slot) := by
  unfold State.takeTrigger
  split
  · exact skipTrigger s t
  · split
    · exact refl s
    · split
      · exact skipTrigger s t
      · simp only
        split
        · exact (setTaskFree s _ _).trans (put _ _ not_noReg)
        · exact setTaskFree s _ _

theorem trigger (s : State) (t src : Nat) (angle : Word) (slot : Nat) : Steady NoReg s (s.trigger t src angle slot) := by
  have hforwarded : ∀ ws, Steady NoReg s (if s.taskCold t then s else s.forward fwTrigger ws) := fun ws => by
    split
    · exact refl s
    · exact forward s _ _
  unfold State.trigger
  simp only
  split
  · exact (hforwarded _).trans (joinTrigger _ _ _ _ _)
  · exact (hforwarded _).trans (takeTrigger _ _ _ _ _)

theorem triggerLine (s : State) (l src : Nat) (angle : Word) (slot : Nat) : Steady NoReg s (s.triggerLine l src angle slot) := by
  refine foldl (fun s t _ => ?_) s
  split
  · exact trigger s _ _ _ _
  · exact refl s

theorem setConv (s : State) (k : Nat) (x : Conv) : Steady NoReg s (s.setConv k x) := by
  have hfio : ∀ y, Steady NoReg s { s with fio := y } := fun _ => ⟨rfl, fun _ _ => rfl, rfl, fun _ => rfl⟩
  exact (((hfio _).trans (flag _ _ not_noReg)).trans (put _ _ not_noReg)).trans (put _ _ not_noReg)

theorem aiStart (s : State) (k : Nat) : Steady NoReg s (s.aiStart k) := by
  unfold State.aiStart State.beginPass
  split_ifs
  · exact refl s
  · exact bump s not_noReg
  · split
    · exact refl s
    · exact setConv s _ _

theorem putSplit (s : State) (hi lo v : Nat) : Steady NoReg s (s.putSplit hi lo v) :=
  (setReg s _ not_noReg).trans (setReg _ _ not_noReg)

theorem capture (s : State) (g : Nat) : Steady NoReg s (s.capture g) := by
  have hcopied : Steady NoReg s (s.captured g) := foldl (fun s e _ =>
    ite (ite (putSplit s _ _ _) (refl s)) (ite (putSplit s _ _ _) (refl s))) s
  have hshown : ∀ t : State, Steady NoReg t (t.captureShown g) := fun t =>
    (((putSplit t _ _ _).trans (put _ _ not_noReg)).trans (flag _ _ not_noReg)).trans (flag _ _ not_noReg)
  have hat : ∀ (t : State) x, Steady NoReg t { t with pfcAt := x } := fun _ _ => ⟨rfl, fun _ _ => rfl, rfl, fun _ => rfl⟩
  exact ite (bump s not_noReg) ((hcopied.trans (hshown _)).trans (hat ((s.captured g).captureShown g) _))

theorem setEvDef (s : State) (d : Nat) (x : EvDef) : Steady NoReg s (s.setEvDef d x) := ⟨rfl, fun _ _ => rfl, rfl, fun _ => rfl⟩

theorem evTrigger (s : State) (d time : Nat) : Steady NoReg s (s.evTrigger d time) := by
  unfold State.evTrigger
  simp only
  split
  · exact setEvDef s _ _
  · exact setEvDef s _ _

theorem recordLine (s : State) (l : Nat) : Steady NoReg s (s.recordLine l) := by
  refine (putBit s _ _ not_noReg).trans (foldl (fun s d _ => ?_) _)
  simp only
  split
  · exact evTrigger s _ _
  · exact refl s

theorem markReached (s : State) (key slot : Nat) : Steady NoReg s (s.markReached key slot) := ⟨rfl, fun _ _ => rfl, rfl, fun _ => rfl⟩

theorem sinkAct (s : State) (k src : Nat) (angle : Word) (slot : Nat) : Steady NoReg s (s.sinkAct k src angle slot) := by
  unfold State.sinkAct
  simp only
  split_ifs
  · exact triggerLine s _ _ _ _
  · exact refl s
  · exact loopLine s _
  · exact markReached s _ _
  · exact (markReached s _ _).trans (aiStart _ _)
  · exact (markReached s _ _).trans (capture _ _)
  · exact (markReached s _ _).trans (capture _ _)
  · exact recordLine s _
  · exact refl s

theorem sinkEvent (src : Nat) (angle : Word) (slot : Nat) (s : State) (k : Nat) :
    Steady NoReg s (State.sinkEvent src angle slot s k) := by
  have hdivs : ∀ d, Steady NoReg s { s with sys := { s.sys with divs := d } } := fun _ => withSys s _ rfl
  unfold State.sinkEvent
  simp only
  split
  · split
    · exact hdivs _
    · exact ((hdivs _).trans (putBit _ _ _ not_noReg)).trans (sinkAct _ _ _ _ _)
  · exact refl s

theorem fire (s : State) (src : Nat) : Steady NoReg s (s.fire src) :=
  ((putBit s _ _ not_noReg).trans (pfcEvent _ _ _ _)).trans (foldl (fun s k _ => sinkEvent _ _ _ s k) _)

end Steady

end Sys2Proof.Machine

namespace Sys2Proof.Machine

/-! ### Messages delivered, jobs and groups ended (R246 to R248, R287 to R290, R352) -/

namespace Steady

theorem fireWatches (s : State) (q : Nat) : Steady NoReg s (s.fireWatches q) :=
  foldl (fun s _ _ => ite ((putBit s _ _ not_noReg).trans (fire _ _)) (refl s)) s

theorem appendAs (s : State) (q d seq : Nat) (time : Word) : Steady NoReg s (s.appendAs q d seq time) := by
  have hlinked : ∀ x ds, Steady NoReg (s.setQueue q x) (State.linkMsgs q (((s.setQueue q x).setDescWord d 2 time).setDescWord d 3
      (setBits ((s.setQueue q x).descWord d 3) 15 0 seq)) ds) := fun x ds =>
    ((setDescWord _ _ _ _).trans (setDescWord _ _ _ _)).trans (linkMsgs _ _ _)
  exact ite (((setQueue s _ _).trans (hlinked _ _)).trans (fireWatches _ _)) ((setQueue s _ _).trans (hlinked _ _))

theorem append (s : State) (q d : Nat) : Steady NoReg s (s.append q d) := (appendAs s _ _ _ _).trans (mirrorQueue _ _ _ _)

theorem enqDesc (s : State) (q d p : Nat) : Steady NoReg s (s.enqDesc q d p).1 := by
  have hrefused : Steady NoReg s ((s.bump Fld.QE_EMPTYCNT_depth).countDepth p) := (bump s not_noReg).trans (countDepth _ _)
  unfold State.enqDesc
  split
  · exact refl s
  · split
    · exact append s q d
    · simp only
      split
      · split
        · next s1 h => exact (dropOldest h).trans (append _ _ _)
        · exact hrefused
      · exact hrefused

theorem enqueue (s : State) (q p : Nat) (m : Msg) : Steady NoReg s (s.enqueue q p m).1 := by
  have hwritten := writeMsg s q p m
  unfold State.enqueue
  split
  · next s1 h =>
    rw [h] at hwritten
    exact hwritten
  · next s1 d h =>
    rw [h] at hwritten
    have hlinked := enqDesc s1 q d p
    split
    · next s2 h2 =>
      rw [h2] at hlinked
      exact hwritten.trans hlinked
    · next s2 h2 =>
      rw [h2] at hlinked
      exact (hwritten.trans hlinked).trans (freeMsg _ _)

theorem jobMsg (s : State) (x : CeJob) (type off : Nat) (bytes : List Byte) : Steady NoReg s (s.jobMsg x type off bytes).1 := by
  unfold State.jobMsg
  split
  · exact refl s
  · exact enqueue s _ _ _

theorem deliverJob (b n : Nat) (s : State) : Steady NoReg s (s.deliverJob b n) := by
  induction n generalizing s with
  | zero => exact refl s
  | succ n ih =>
    unfold State.deliverJob
    split
    · exact refl s
    · next x _ =>
      split
      · exact refl s
      · next off t0 _ =>
        simp only
        split
        · have hpart := jobMsg s x 1 off (s.bytes (captureAddr b + off) (min 1024 (64 + 16 * x.records - off)))
          split
          · next s1 h =>
            rw [h] at hpart
            exact (hpart.trans (setJob _ _ _)).trans (ih _)
          · next s1 h =>
            rw [h] at hpart
            exact hpart
        · have hlast := jobMsg s x 2 0 (jobAnswer b x.status x.reason 0xFFFF0000)
          split
          · next s1 h =>
            rw [h] at hlast
            exact (hlast.trans (setJob _ _ _)).trans (flag _ _ not_noReg)
          · next s1 h =>
            rw [h] at hlast
            exact hlast

theorem endJob (s : State) (b reason : Nat) : Steady NoReg s (s.endJob b reason) := by
  unfold State.endJob
  split
  · exact refl s
  · exact ite (refl s) ((stopJob s _ _).trans (deliverJob _ _ _))

theorem abortJobs (s : State) (reason : Nat) : Steady NoReg s (s.abortJobs reason) := foldl (fun s b _ => endJob s b reason) s

theorem setGroup (s : State) (g : Nat) (x : Option Group) : Steady NoReg s (s.setGroup g x) :=
  ((withQe s _).trans (put _ _ not_noReg)).trans (peak _ _ not_noReg)

theorem forwardGroup (s : State) (g : Nat) : Steady NoReg s (s.forwardGroup g) := by
  unfold State.forwardGroup
  split
  · exact forward s _ _
  · exact forward s _ _

theorem sendOutcome (s : State) (q : Nat) : Steady NoReg s (s.sendOutcome q) := by
  unfold State.sendOutcome
  split
  · exact refl s
  · next o _ =>
    have hsent := enqueue s q (s.qOwner q) ⟨7, Agent.coordinator.endpoint, wordBytes o.2, 0, 0⟩
    split
    · next s1 h =>
      rw [← State.deliver, h] at hsent
      exact hsent.trans (withQe s1 _)
    · exact refl s

theorem outcome (s : State) (reply : Nat) (ws : List Word) : Steady NoReg s (s.outcome reply ws) := by
  unfold State.outcome
  exact ite ((withQe s _).trans (sendOutcome _ _)) (withQe s _)

theorem endGroup (s : State) (g : Nat) (x : Group) (status t : Nat) : Steady NoReg s (s.endGroup g x status t) := by
  have hended : Steady NoReg s ((s.setGroup g none).forwardGroup g) := (setGroup s _ _).trans (forwardGroup _ _)
  unfold State.endGroup
  exact (hended.trans (ite (bump _ not_noReg) (ite (bump _ not_noReg) (refl _)))).trans (outcome _ _ _)

theorem groupVeerAbort (s : State) : Steady NoReg s s.groupVeerAbort := by
  refine foldl (fun s g _ => ?_) s
  split
  · exact ite (refl s) (endGroup s _ _ _ _)
  · exact refl s

end Steady

end Sys2Proof.Machine

namespace Sys2Proof.Machine

/-! ### Activations abandoned write no register of SYS (R185, R211) -/

namespace SysKept

theorem ite {c : Prop} [Decidable c] {s t u : State} (ht : SysKept s t) (hu : SysKept s u) : SysKept s (if c then t else u) := by
  split
  · exact ht
  · exact hu

theorem setWord (s : State) (a : Nat) (w : Word) : SysKept s (s.setWord a w) :=
  .of_regs (setWords_keeps (·.regs) (fun _ _ => rfl) [w] s a)

theorem sendItem (s : State) (kind : Nat) (ws : List Word) : SysKept s (s.sendItem kind ws) := .of_regs rfl

theorem forward (s : State) (kind : Nat) (ws : List Word) : SysKept s (s.forward kind ws) := ite (sendItem s _ _) (refl s)

theorem laneEvent (s : State) (a : Act) (l ev : Nat) : SysKept s (s.laneEvent a l ev) :=
  ite (refl s) (ite (sendItem s _ _) (forward s _ _))

theorem setQueue (s : State) (q : Nat) (x : Queue) : SysKept s (s.setQueue q x) := .of_regs rfl

theorem linkMsgs (q : Nat) (s : State) (ds : List Nat) : SysKept s (s.linkMsgs q ds) := by
  induction ds generalizing s with
  | nil => exact refl s
  | cons d ds ih =>
    cases ds with
    | nil => exact setWord s _ _
    | cons e ds => exact (setWord s _ _).trans (ih _)

theorem dropMsg (s : State) (q d : Nat) : SysKept s (s.dropMsg q d) := by
  have hmirrored : SysKept s (s.mirrorQueue q fwDequeue [wd q, wd (s.descSeq d)]) :=
    ite (refl s) (ite (sendItem s _ _) (forward s _ _))
  exact (hmirrored.trans ((setQueue _ _ _).trans (linkMsgs _ _ _))).trans (freeMsg _ _)

theorem untake (s : State) (tk : Nat × List Nat) : SysKept s (s.untake tk) :=
  foldl (fun s _ _ => ite ((setQueue s _ _).trans (setWord _ _ _)) (dropMsg s _ _)) s

theorem dropResv (s : State) (q : Nat) (rc : Nat × List Nat) : SysKept s (s.dropResv q rc) :=
  ((foldl (fun s b _ => release s 0 b) s).trans (release _ _ _)).trans (setQueue _ _ _)

theorem discard (s : State) (a : Act) : SysKept s (s.discard a) :=
  ((foldl (fun s tk _ => untake s tk) s).trans (foldl (fun s _ _ => foldl (fun s _ _ => dropResv s _ _) s) _)).trans (.of_regs rfl)

theorem showUsed (s : State) (t used : Nat) : SysKept s (s.showUsed t used) := put s _ (Nat.le_add_right_of_le (by decide))

theorem showTask (s : State) (t : Nat) : SysKept s (s.showTask t) := put s _ (Nat.le_add_right_of_le (by decide))

theorem clearLane (s : State) (l : Nat) : SysKept s (s.clearLane l) := by
  unfold State.clearLane
  refine trans ?_ (((put _ _ (Nat.le_add_right_of_le (by decide))).trans (put _ _ (Nat.le_add_right_of_le (by decide)))).trans
    (put _ _ (Nat.le_add_right_of_le (by decide))))
  exact .of_regs rfl

theorem endHalt (s : State) (a : Act) (l : Nat) : SysKept s (s.endHalt a l) := by
  have hhalt : SysKept s (s.showHalt l false 0) :=
    trans (((put s _ (by decide)).trans (put _ _ (by decide))).trans (put _ _ (show 65536 ≤ Reg.LKS_STAT by decide)))
      (ite (put _ _ (Nat.le_add_right_of_le (by decide))) (refl _))
  exact (ite hhalt (refl s)).trans (ite (.of_regs rfl) (refl _))

theorem endAct (s : State) (l : Nat) : SysKept s (s.endAct l) := by
  unfold State.endAct State.endWith
  split
  · exact refl s
  · exact (((((showUsed s _ _).trans (ite (refl _) (laneEvent _ _ _ _))).trans (discard _ _)).trans (clearLane _ _)).trans
      (endHalt _ _ _)).trans (showTask _ _)

theorem endSusp (s : State) (t : Nat) : SysKept s (s.endSusp t) := by
  unfold State.endSusp
  split
  · exact refl s
  · next a _ _ =>
    have hended : SysKept s ((((s.showUsed t a.used).laneEvent a (s.taskLane t) 4).discard a).endHalt a (s.taskLane t)) :=
      (((showUsed s _ _).trans (laneEvent _ _ _ _)).trans (discard _ _)).trans (endHalt _ _ _)
    refine hended.trans (trans ?_ (showTask _ _))
    exact .of_regs rfl

theorem abandonStep (s : State) : SysKept s s.abandonStep := by
  obtain ⟨q, heq⟩ := abandonStep_eq s
  have hlane : ∀ (held : List Nat) (t : State) (l : Nat), SysKept t (t.abandonLane held l) := fun held t l => by
    unfold State.abandonLane
    split
    · exact ite (refl t) (endAct t l)
    · exact refl t
  rw [heq]
  exact ((foldl (fun t l _ => hlane _ t l) s).trans (foldl (fun t l _ => endSusp t l) _)).trans (.of_regs rfl)

end SysKept
end Sys2Proof.Machine

namespace Sys2Proof.Machine

/-! ### PAIR_YIELD: the leeward module raises the claim (R213, R225) -/

/-- The claim raised, before the mode is entered: what is not acknowledged is dropped, and the roles are the windward module's. -/
def State.claimRaised (s : State) (n : Word) : State := (s.dropUnacked.setRoles 2).raiseClaim n

/-- The activations that were abandoned wait to be started again. -/
def State.restartAbandoned (s : State) : State :=
  s.red.abandoned.foldl (fun s t =>
    if (s.task t).pending.isNone && !(s.task t).halted && s.taskPlaced t
    then (s.setTask t { s.task t with pending := some { src := 255, order := s.clk } }).showTask t else s) s

/-- A raised claim shown after a yield. -/
def State.yieldShown (s : State) (n : Word) : State := ((s.bump Fld.RED_VEERS_yield).witClaimed n 2).put Fld.RED_STATE_veer 3

namespace Steady

theorem restartAbandoned (s : State) : Steady Shown s s.restartAbandoned :=
  foldl (fun s _ _ => ite ((setTask s _ _).trans (showTask _ _)) (refl s)) s

theorem yieldShown (s : State) (n : Word) : Steady Shown s (s.yieldShown n) :=
  ((bump s (not_shown (by decide) (by decide))).trans (witClaimed _ _ _)).trans (put _ _ (not_shown (by decide) (by decide)))

end Steady

theorem setRoles_mode (s : State) (r : Nat) : (s.setRoles r).mode = s.mode := setRoles_keeps (·.mode) (fun _ _ => rfl) s r

section
variable (s : State) (n : Word)

theorem claimRaised_claim : (s.claimRaised n).nv.claim = n := rfl
theorem claimRaised_driven : (s.claimRaised n).reg Reg.RED_CLAIM = n := State.reg_setReg_same _ _ _

theorem raiseClaim_keeps {β : Type} (p : State → β) (hmem : ∀ (s : State) m, p { s with mem := m } = p s)
    (hnv : ∀ (s : State) x, p { s with nv := x } = p s) (hset : ∀ (s : State) v, p (s.setReg Reg.RED_CLAIM v) = p s) :
    p (s.raiseClaim n) = p s := by
  rw [State.raiseClaim, hset, State.keepClaim, hnv]
  exact setWords_keeps p hmem [n] s mramClaim

theorem claimRaised_mode : (s.claimRaised n).mode = s.mode := by
  rw [State.claimRaised, raiseClaim_keeps _ _ (·.mode) (fun _ _ => rfl) (fun _ _ => rfl) fun s v =>
    fld_of_reg (s.reg_setReg_ne v (by decide)), setRoles_mode]
  rfl

theorem claimRaised_flight : (s.claimRaised n).flight = s.flight := by
  rw [State.claimRaised, raiseClaim_keeps _ _ State.flight (fun _ _ => rfl) (fun _ _ => rfl) fun _ _ => rfl,
    setRoles_keeps State.flight fun _ _ => rfl]
  rfl

variable {s}

theorem takeStation_keeps {β : Type} (p : State → β)
    (hp : ∀ (s : State) v x, p { s with nv := { s.nv with veers := v }, red := x } = p s)
    (hm : s.mode = mStandby) : p (s.takeStation n 2) =
      p ((((s.claimRaised n).dropMode.enterMode mActive).restartAbandoned).yieldShown n) := by
  have hmode : ¬ ((s.claimRaised n).mode == mActive) = true := by rw [claimRaised_mode, hm]; decide
  unfold State.takeStation
  simp only [show (2 = 1) = False by decide, show (2 = 3) = False by decide, if_true, if_false]
  rw [← State.claimRaised, if_neg hmode]
  rw [State.yieldShown, State.restartAbandoned]
  generalize State.witClaimed _ n 2 = t
  exact hp _ _ _

/-- The station taken from STANDBY. -/
theorem takeStation_yields (hm : s.mode = mStandby) : (s.takeStation n 2).nv.claim = n ∧
    (s.takeStation n 2).reg Reg.RED_CLAIM = n ∧ (s.takeStation n 2).mode = mActive ∧ (s.takeStation n 2).flight = s.flight := by
  have hdropped := Steady.dropMode (s.claimRaised n)
  obtain ⟨hentered, hactive⟩ := enterMode_active (hdropped.mode.trans ((claimRaised_mode s n).trans hm))
  have hshown := (Steady.restartAbandoned ((s.claimRaised n).dropMode.enterMode mActive)).trans (.yieldShown _ n)
  have hall := (hdropped.onlyClaim.trans hentered).trans hshown.onlyClaim
  refine ⟨?_, ?_, ?_, ?_⟩
  · exact (takeStation_keeps n (·.nv.claim) (fun _ _ _ => rfl) hm).trans (hall.claim.trans (claimRaised_claim s n))
  · exact (takeStation_keeps n (·.reg Reg.RED_CLAIM) (fun _ _ _ => rfl) hm).trans ((hall.regs _ rfl).trans (claimRaised_driven s n))
  · exact (takeStation_keeps n (·.mode) (fun _ _ _ => rfl) hm).trans (hshown.mode.trans hactive)
  · exact (takeStation_keeps n State.flight (fun _ _ _ => rfl) hm).trans ((hall.flight rfl).trans (claimRaised_flight s n))

end

/-! #### What a raised station settles after that -/

theorem groupVeerAbort_of_none {s : State} (h : s.qe.groups = []) : s.groupVeerAbort = s := by
  refine List.foldl_fixed' (fun g => ?_) _
  simp [State.group, h]

theorem flight_none {s : State} : s.flight = ([], []) ↔ s.ce.jobs = [] ∧ s.qe.groups = [] := by simp [State.flight]

/-- The blocks take the station up; the jobs and groups of the former windward module end. -/
def State.blocksTake (s : State) : State := ((s.bestMaster.failHomings.abortJobs 1).veerSyncs).groupVeerAbort

/-- The partner's cold tasks begin here, the network learns of it, and what waits at a mailbox is told. -/
def State.restTakes (s : State) (kind : Nat) : State :=
  ((upFrom 0 64).foldl (State.abortLine kind) ((s.declared.foldl State.coldStart s).sendAlc).gratuitousArp).abortPeer kind

theorem raiseStation_eq (s : State) (n : Word) (kind : Nat) : s.raiseStation n kind = ((s.takeStation n kind).blocksTake).restTakes kind :=
  rfl

namespace Steady

theorem restTakes (s : State) (kind : Nat) : Steady Shown s (s.restTakes kind) :=
  ((((foldl (fun s t _ => coldStart s t) s).trans (sendAlc _)).trans (gratuitousArp _)).trans
    (foldl (fun s m _ => abortLine kind s m) _)).trans (abortPeer _ _)

theorem blocksTake (s : State) : Steady NoReg s s.blocksTake := by
  have hnone : ∀ {s t : State}, Steady Shown s t → Steady NoReg s t := fun h => h.mono fun _ => False.elim
  exact (((hnone ((bestMaster s).trans (failHomings _))).trans (abortJobs _ 1)).trans (hnone (veerSyncs _))).trans (groupVeerAbort _)

theorem blocksTake_of_none {s : State} (h : s.flight = ([], [])) : Steady Shown s s.blocksTake := by
  have hclocks : Steady Shown s s.bestMaster.failHomings := (bestMaster s).trans (failHomings _)
  have hsynced := hclocks.trans (veerSyncs _)
  obtain ⟨hjobs, -⟩ := flight_none.mp ((hclocks.flight (.inr rfl)).trans h)
  obtain ⟨-, hgroups⟩ := flight_none.mp ((hsynced.flight (.inr rfl)).trans h)
  rw [State.blocksTake, abortJobs_of_none hjobs, groupVeerAbort_of_none hgroups]
  exact hsynced

end Steady

/-- A leeward module that takes the windward side raises the claim it is given; with nothing in flight it is ACTIVE then. -/
theorem raiseStation_raises {s : State} (n : Word) (hm : s.mode = mStandby) : (s.raiseStation n 2).nv.claim = n ∧
    (s.flight = ([], []) → (s.raiseStation n 2).mode = mActive ∧ (s.raiseStation n 2).reg Reg.RED_CLAIM = n) := by
  obtain ⟨hclaim, hdriven, hactive, hflight⟩ := takeStation_yields n hm
  have hrest := Steady.restTakes (s.takeStation n 2).blocksTake 2
  rw [raiseStation_eq]
  refine ⟨hrest.claim.trans ((Steady.blocksTake _).claim.trans hclaim), fun hnone => ?_⟩
  have hall := (Steady.blocksTake_of_none (hflight.trans hnone)).trans hrest
  exact ⟨hall.mode.trans hactive, hall.driven.trans hdriven⟩

/-- What a yield is taken with. -/
def State.yielding (s : State) : State :=
  s.abandonStep.withRed { s.abandonStep.red with lullFrom := some s.abandonStep.time, veer := none }

theorem yielding_mode (s : State) : s.yielding.mode = s.mode := (SysKept.abandonStep s).mode

theorem yielding_flight {s : State} (hs : s.AtRest) : s.yielding.flight = ([], []) := by
  obtain ⟨q, hq⟩ := abandonStep_of_none hs.lanes hs.susp
  have hflight : s.abandonStep.flight = s.flight := by
    rw [hq]
    rfl
  exact hflight.trans (by rw [State.flight, hs.jobs, hs.groups])

section
variable {s : State} {x : Word} (y : Word)

theorem claimAbove_of_lt (h : x.toNat < 0xFFFFFFFE) : claimAbove x = some (x + 1) := if_pos h

theorem pairYield_completes (hm : s.mode = mStandby) (hx : x.toNat < 0xFFFFFFFE) : Completes (exec (.pairYield x y) s) fun u =>
    u.nv.claim = x + 1 ∧ (s.AtRest → u.mode = mActive ∧ u.reg Reg.RED_CLAIM = x + 1) :=
  pairMessage_completes fun t heard => by
    have htaken : t.takeYield x = t.yielding.raiseStation (x + 1) 2 := by
      unfold State.takeYield
      rw [claimAbove_of_lt hx]
      exact if_neg (by simp [heard.mode, hm])
    obtain ⟨hclaim, hactive⟩ := raiseStation_raises (x + 1) ((yielding_mode t).trans (heard.mode.trans hm))
    rw [htaken, settle_mode, settle_reg _ _ (by decide), settle_nv]
    exact ⟨hclaim, fun hs => hactive (yielding_flight (heard.atRest hs))⟩

theorem pairYield_elsewhere_completes (hm : s.mode ≠ mStandby) : Completes (exec (.pairYield x y) s) fun u =>
    u.nv.claim = s.nv.claim ∧ u.mode = s.mode :=
  pairMessage_completes fun t heard => by
    have hidle : t.takeYield x = t := by
      unfold State.takeYield
      split
      · rfl
      · exact if_pos (by simp [heard.mode, hm])
    rw [hidle, settle_mode, settle_nv, heard.nv, heard.mode]
    exact ⟨rfl, rfl⟩

end
end Sys2Proof.Machine

namespace Sys2Proof.Machine

/-! ### FORMER_WINDWARD_STANDBY: ACTIVE is left for STANDBY (R39, R94, R226) -/

theorem reg_setCharge (s : State) (kind i v k : Nat) : (s.setCharge kind i v).reg k = s.reg k := by
  unfold State.setCharge
  split_ifs <;> rfl

/-- A count in a register that is 0 goes no lower. -/
theorem reg_put_pred {s t : State} (f : Fld) {k : Nat} (hs : s.reg k = 0) (ht : t.reg k = 0) :
    (t.put f (s.fld f - 1)).reg k = 0 := by
  by_cases hk : k = f.key
  · subst hk
    have hcount : s.fld f = 0 := by
      rw [State.fld, hs]
      simp [bits]
    rw [hcount, State.put, State.reg_setReg_same, ht]
    simp [setBits]
  · rw [State.reg_put_ne _ _ _ hk, ht]

/-- What STANDBY leaves as it was: the registers of SYS, how the pair stands, and that no claim is driven. -/
structure Undriven (s t : State) : Prop where
  steady : Steady NoReg s t
  sys : SysKept s t
  claim : s.reg Reg.RED_CLAIM = 0 → t.reg Reg.RED_CLAIM = 0

namespace Undriven

theorem of_steady {s t : State} (h : Steady Shown s t) : Undriven s t :=
  ⟨h.mono fun _ => False.elim, fun k hk => h.regs k (.inl hk), fun hc => h.driven.trans hc⟩

theorem refl (s : State) : Undriven s s := of_steady (.refl s)

theorem trans {s t u : State} (h : Undriven s t) (g : Undriven t u) : Undriven s u :=
  ⟨h.steady.trans g.steady, h.sys.trans g.sys, fun hc => g.claim (h.claim hc)⟩

theorem foldl {α : Type} {f : State → α → State} {xs : List α} (h : ∀ s, ∀ x ∈ xs, Undriven s (f s x)) (s : State) :
    Undriven s (xs.foldl f s) := foldl_relates refl trans h s

theorem release (s : State) (kind i : Nat) : Undriven s (s.release kind i) where
  steady := Steady.release s kind i
  sys := SysKept.release s kind i
  claim hc := by
    unfold State.release
    split
    · exact hc
    · next p _ =>
      have hcharged := reg_put_pred (useFld kind p) hc ((reg_setCharge s kind i 0 _).trans hc)
      refine Eq.trans ?_ hcharged
      unfold State.showFree
      rw [State.reg_put_ne _ _ _ (by decide), State.reg_put_ne _ _ _ (by decide), State.reg_put_ne _ _ _ (by decide)]

theorem freeHandle (s : State) (h : Nat) : Undriven s (s.freeHandle h) := by
  unfold State.freeHandle
  split
  · exact release s _ _
  · exact refl s

theorem freeMsg (s : State) (d : Nat) : Undriven s (s.freeMsg d) := (foldl (fun s h _ => freeHandle s h) s).trans (release _ _ _)

theorem canUnload (s : State) {p : Nat} (hp : p < 4) : Undriven s (s.canUnload p) := by
  have htxb : ¬ Shown (Reg.CAN_TXB p) := by simp only [Shown, Reg.CAN_TXB, Reg.RED_CLAIM]; omega
  refine foldl (fun s b _ => ?_) s
  have hbuf : ∀ t : State, Undriven t (t.setCanBuf p b none) := fun t =>
    of_steady ((Steady.setCanPort t p _).trans (.put _ _ htxb))
  split
  · split
    · exact (freeMsg s _).trans (hbuf _)
    · exact hbuf s
  · exact refl s

theorem canMode (s : State) : Undriven s (s.canMode mStandby) := by
  refine foldl (fun s p hp => ?_) s
  rw [mem_upFrom] at hp
  simp only [true_or, if_true]
  split
  · exact refl s
  · exact (canUnload s (by omega)).trans (of_steady ((Steady.setCanPort _ _ _).trans (Steady.canStart _ (by omega) _)))

end Undriven

/-- ACTIVE is left for STANDBY, with nothing in flight: no claim is driven any more. -/
theorem enterMode_standby {s : State} (hm : s.mode = mActive) (hidle : s.flight = ([], [])) :
    (s.enterMode mStandby).stands = s.stands ∧ (s.enterMode mStandby).reg Reg.RED_CLAIM = 0 ∧
      (s.enterMode mStandby).mode = mStandby := by
  have hleft : s.leftFor mStandby = s.dropClaim := by
    have hruns : ¬ (runMode mActive && !runMode mStandby) = true := by decide
    have hforces : ¬ (mActive == mCommission && mStandby != mCommission) = true := by decide
    simp only [State.leftFor, hm, if_neg hruns, if_neg hforces]
    exact if_neg (by decide)
  have hstarted : ∀ t : State, t.startedIn mStandby = t := fun t => if_pos (by decide)
  have hplant : ∀ t : State, t.ce.jobs = [] → Undriven t (t.plantMode mActive mStandby) := fun t ht => by
    have heq : t.plantMode mActive mStandby = (t.canMode mStandby).undim.usbFollow := by
      simp [State.plantMode, abortJobs_of_none ht]
    rw [heq]
    exact (Undriven.canMode t).trans (.of_steady ((Steady.undim _).trans (.usbFollow _)))
  obtain ⟨t, ht⟩ : ∃ t, t = s.dropClaim.modeShown mActive mStandby := ⟨_, rfl⟩
  have hserved : Steady Shown t (t.servedShown mStandby) := .servedShown _ _
  have hlater : Undriven t (s.enterMode mStandby) := by
    have hflight : t.flight = s.flight := by rw [ht]; rfl
    obtain ⟨hjobs, -⟩ := flight_none.mp ((hserved.flight (.inr rfl)).trans (hflight.trans hidle))
    rw [enterMode_eq, hleft, hstarted, hm, ← ht]
    exact ((Undriven.of_steady hserved).trans (hplant _ hjobs)).trans (.of_steady (.notifyAll _ _ _ _))
  refine ⟨hlater.steady.stands.trans ?_, hlater.claim ?_, hlater.sys.mode.trans ?_⟩
  · rw [ht]
    rfl
  · rw [ht, modeShown_claim]
    exact State.reg_setReg_same _ _ _
  · rw [ht]
    exact modeShown_mode _ _ (by decide)

namespace Steady

theorem handOver (s : State) : Steady Shown s s.handOver := by
  have htaken : Steady Shown s s.abortTaken := by
    unfold State.abortTaken
    exact foldl (fun s _ _ => ite (refl s) (withFw s _)) s
  have hdropped : ∀ t : State, Steady Shown t t.dropUnacked := fun t => ⟨rfl, fun _ _ => rfl, rfl, fun _ => rfl⟩
  have hfreed : ∀ t : State, Steady Shown t ((upFrom 0 4).foldl (fun s n => s.flag (Fld.SER_STAT_busy n) false) t) :=
    foldl fun s n _ => flag s _ (not_shown (Nat.le_add_right_of_le (by decide)) (by
      simp only [Fld.SER_STAT_busy, Reg.SER_STAT, Reg.RED_CLAIM]
      omega))
  have hclosed : ∀ (t : State) x y, Steady Shown t { t with fw := x, eth := y } :=
    fun _ _ _ => ⟨rfl, fun _ _ => rfl, rfl, fun _ => rfl⟩
  exact ((htaken.trans (hdropped _)).trans (hfreed _)).trans (hclosed _ _ _)

end Steady

/-- The pair after a veer agreed on: no veer is asked for, and the partner is in step and ACTIVE. -/
def State.veerAgreed (s : State) : State :=
  { s with red := { s.red with veer := none, peerMode := mActive, joined := true, crossing := false } }

theorem veerAgreed_eq (s : State) :
    { s with red := { s.red with veer := none, peerMode := mActive, joined := true, crossing := false } } = s.veerAgreed := rfl
theorem veerAgreed_mode (s : State) : s.veerAgreed.mode = s.mode := rfl
theorem veerAgreed_flight (s : State) : s.veerAgreed.flight = s.flight := rfl
theorem veerAgreed_stands (s : State) : s.veerAgreed.stands = (none, true, s.red.lost, s.sys.removal) := rfl

/-- ACTIVE left at the boundary of a veer. -/
def State.veerLeft (s : State) : State := (s.dropMode.setRoles 1).veerAgreed.enterMode mStandby

/-- The veer answered where it was asked for at the module itself, and the mailboxes handed over. -/
def State.veerAnswered (s : State) (d : Deferred) (n : Word) : State :=
  let t := s.bestMaster.put Fld.RED_STATE_veer 0
  (if d.mbx < 64 then t else t.respond d (okAns [n])).handOver

theorem veerAnswered_eq (s : State) (d : Deferred) (n : Word) :
    (if d.mbx < 64 then s.bestMaster.put Fld.RED_STATE_veer 0
      else (s.bestMaster.put Fld.RED_STATE_veer 0).respond d (okAns [n])).handOver = s.veerAnswered d n := rfl

/-- What follows a veer: the removal that it was for, or what the loss of the partner asks for. -/
def State.afterVeer (s : State) : State :=
  if s.sys.removal then s.leaveStandby else if s.red.lost then s.losePartner else s

theorem afterVeer_eq (s : State) :
    (if s.sys.removal then s.leaveStandby else if s.red.lost then s.losePartner else s) = s.afterVeer := rfl

theorem afterVeer_of_heard {s : State} (hremoval : s.sys.removal = false) (hlost : s.red.lost = false) : s.afterVeer = s := by
  rw [State.afterVeer, hremoval, hlost]
  rfl

theorem veerAnswered_steady (s : State) (d : Deferred) (n : Word) : Steady Shown s (s.veerAnswered d n) := by
  have hshown : Steady Shown s (s.bestMaster.put Fld.RED_STATE_veer 0) :=
    (Steady.bestMaster s).trans (.put _ _ (not_shown (by decide) (by decide)))
  exact (hshown.trans (.ite (.refl _) (.respond _ (boxKeys_notShown _) _))).trans (.handOver _)

section
variable {s : State}

theorem veerLeft_shows (hm : s.mode = mActive) (hidle : s.flight = ([], [])) :
    s.veerLeft.stands = (none, true, s.red.lost, s.sys.removal) ∧ s.veerLeft.reg Reg.RED_CLAIM = 0 ∧
      s.veerLeft.mode = mStandby := by
  have hroles : Steady Shown s (s.dropMode.setRoles 1) := (Steady.dropMode s).trans (.setRoles _ _)
  have hpair := hroles.stands
  simp only [State.stands, Prod.mk.injEq] at hpair
  obtain ⟨-, -, hlost, hremoval⟩ := hpair
  have hflight := (veerAgreed_flight _).trans ((hroles.flight (.inr rfl)).trans hidle)
  obtain ⟨hstands, hdriven, hstandby⟩ := enterMode_standby ((veerAgreed_mode _).trans (hroles.mode.trans hm)) hflight
  refine ⟨hstands.trans ?_, hdriven, hstandby⟩
  rw [veerAgreed_stands, hlost, hremoval]

theorem formerWindward_eq (hover : s.handingOver = true) (hm : s.mode = mActive) : ∃ d n, s.formerWindward =
    (s.veerLeft.veerAnswered d n).afterVeer := by
  unfold State.formerWindward
  split
  · next h => simp [State.handingOver, h] at hover
  · rw [if_neg (by simp [hover, hm])]
    simp only
    rw [afterVeer_eq, veerAgreed_eq, veerAnswered_eq]
    exact ⟨_, _, rfl⟩

theorem formerWindward_completes (hover : s.handingOver = true) (hm : s.mode = mActive) (hremoval : s.sys.removal = false)
    (hlost : s.red.lost = false) (hs : s.AtRest) : Completes (exec .formerWindwardStandby s) fun u => u.mode = mStandby ∧
      u.reg Reg.RED_CLAIM = 0 ∧ u.red.veer = none ∧ u.red.joined = true ∧ u.fw.conn = none := by
  obtain ⟨d, n, heq⟩ := formerWindward_eq hover hm
  obtain ⟨hstands, hdriven, hmode⟩ := veerLeft_shows hm (flight_none.mpr ⟨hs.jobs, hs.groups⟩)
  have hanswered := veerAnswered_steady s.veerLeft d n
  have hconn : (s.veerLeft.veerAnswered d n).fw.conn = none := rfl
  obtain ⟨t, ht⟩ : ∃ t, t = s.veerLeft.veerAnswered d n := ⟨_, rfl⟩
  rw [← ht] at hanswered heq hconn
  have hstand := hanswered.stands.trans hstands
  simp only [State.stands, Prod.mk.injEq] at hstand
  obtain ⟨hveer, hjoined, hheard, hstays⟩ := hstand
  have hleft : s.formerWindward = t := by
    rw [heq, afterVeer_of_heard (hstays.trans hremoval) (hheard.trans hlost)]
  refine ⟨s.formerWindward.settle, rfl, ?_⟩
  beta_reduce
  rw [hleft, settle_mode, settle_reg _ _ (by decide), settle_red, settle_fw]
  exact ⟨hanswered.mode.trans hmode, hanswered.driven.trans hdriven, hveer, hjoined, hconn⟩

end

end Sys2Proof.Machine

namespace Sys2Proof.Machine

/-- Settles O30: what each message does once the request ring of mailbox 66 has heard it. Where a claim changes hands, a step that
keeps the claim in MRAM, the claim driven and how the pair stands is `Steady`. -/
theorem pairMessages : Obligations.PairMessages := by
  unfold Obligations.PairMessages
  intro s tag x y due
  refine ⟨?_, ?_, ?_, ?_, ?_, ?_, ?_, ?_, ?_, ?_, ?_, ?_, ?_, ?_, ?_, ?_, ?_⟩
  · exact fun fs hne hm hnone => prepare_forces_completes tag hne hm hnone
  · exact fun n hm hnone => prepare_online_completes tag hm hnone
  · exact fun stages hm => prepare_elsewhere_completes tag stages hm
  · exact fun c hc => ⟨fun hkind => pairAck_completes hc hkind, pairNack_completes x hc,
      fun hacked => prepareAckTimeout_completes hc hacked⟩
  · exact fun hnone i hi => unwaited_completes x hnone i hi
  · exact fun p hm hplan => pairFallback_completes x hm hplan
  · exact fun lane h => pairFailmark_idle_completes h
  · exact fun lane a hm hact hqueue htask hcount htaken hresv =>
      pairFailmark_completes hm hact hqueue htask hcount htaken hresv
  · exact fun p hl => ⟨fun hc => pairFailrep_completes hl hc, fun hc => pairFailrep_idle_completes hc⟩
  · exact fun hm hx => pairYield_completes y hm hx
  · exact fun hm => pairYield_elsewhere_completes y hm
  · exact fun hm => pairVeer_offers_completes y hm
  · exact fun v hv hacked => ⟨fun hm => pairVeer_agrees_completes y hv hacked hm,
      fun hmbx => commandedVeerTimeout_completes hv hacked hmbx⟩
  · exact fun hover hm hremoval hlost hs => formerWindward_completes hover hm hremoval hlost hs
  · exact fun h => formerWindward_elsewhere_completes h
  · exact fun h => prepareDrop_completes tag h
  · exact fun h => prepareDrop_unknown_completes tag h

end Sys2Proof.Machine

namespace Sys2Proof.Machine

/-! ### The type of an integer operation (R143, R146) -/

theorem tyBits_pos (t : Nat) : 0 < tyBits t := Nat.mul_pos (by decide) (Nat.two_pow_pos _)

theorem tyBits_le (t : Nat) : tyBits t ≤ 64 := by
  have hexp : t % 4 ≤ 3 := Nat.le_of_lt_succ (Nat.mod_lt _ (by decide))
  exact Nat.mul_le_mul_left 8 (Nat.pow_le_pow_right (by decide) hexp)

/-- The bits that a type names, extended to a register by the type's sign. -/
def widen (t : Nat) (x : BitVec (tyBits t)) : Word64 := if t < 4 then x.signExtend 64 else x.setWidth 64

/-- The number that these bits are under the type. -/
def bitsInt (t : Nat) (x : BitVec (tyBits t)) : Int := if t < 4 then x.toInt else x.toNat

theorem unsigned_eq_toNat_ofInt (w : Nat) (v : Int) : unsigned w v = (BitVec.ofInt w v).toNat := by
  rw [BitVec.toNat_ofInt, Nat.cast_pow]
  rfl

theorem signed_toNat {w : Nat} (hw : 0 < w) (x : BitVec w) : signed w x.toNat = x.toInt := by
  have hhalf : 2 ^ w = 2 * 2 ^ (w - 1) := by rw [← Nat.pow_succ', Nat.succ_eq_add_one, Nat.sub_add_cancel hw]
  have hcast : (2 ^ w : Int) = ((2 ^ w : Nat) : Int) := by push_cast; rfl
  rw [signed, BitVec.toInt_eq_toNat_cond, hcast, hhalf]
  split_ifs <;> omega

theorem ofInt_bitsInt (t : Nat) (x : BitVec (tyBits t)) : BitVec.ofInt (tyBits t) (bitsInt t x) = x := by
  unfold bitsInt
  split
  · exact BitVec.ofInt_toInt
  · rw [BitVec.ofInt_natCast, BitVec.ofNat_toNat, BitVec.setWidth_eq]

theorem ofInt_bitsInt_64 (t : Nat) (x : BitVec (tyBits t)) : BitVec.ofInt 64 (bitsInt t x) = widen t x := by
  unfold bitsInt widen
  split
  · rfl
  · rw [BitVec.ofInt_natCast, BitVec.ofNat_toNat]

theorem typed_eq_widen (t : Nat) (x : Word64) : typed t x = widen t (x.setWidth (tyBits t)) := rfl

theorem tyVal_eq_bitsInt (t : Nat) (x : Word64) : tyVal t x = bitsInt t (x.setWidth (tyBits t)) := by
  unfold tyVal bitsInt
  rw [← BitVec.toNat_setWidth]
  simp only [tySigned, decide_eq_true_eq, signed_toNat (tyBits_pos t)]

theorem tyRes_eq_widen (t : Nat) (v : Int) : tyRes t v = widen t (BitVec.ofInt (tyBits t) v) := by
  rw [← ofInt_bitsInt_64]
  unfold tyRes bitsInt
  simp only [unsigned_eq_toNat_ofInt, tySigned, decide_eq_true_eq, signed_toNat (tyBits_pos t)]

theorem bitsInt_inj {t : Nat} {x y : BitVec (tyBits t)} : bitsInt t x = bitsInt t y ↔ x = y :=
  ⟨fun h => by rw [← ofInt_bitsInt t x, h, ofInt_bitsInt], congrArg _⟩

/-- The limits of a type hold its numbers. -/
theorem bitsInt_bounds (t : Nat) (x : BitVec (tyBits t)) : tyMin t ≤ bitsInt t x ∧ bitsInt t x ≤ tyMax t := by
  have hlo := BitVec.le_toInt x
  have hhi := BitVec.toInt_lt (x := x)
  have hnat := x.isLt
  unfold tyMin tyMax bitsInt
  simp only [tySigned, decide_eq_true_eq]
  push_cast
  split_ifs
  · omega
  · constructor
    · omega
    · have : (x.toNat : Int) < ((2 ^ tyBits t : Nat) : Int) := by exact_mod_cast hnat
      push_cast at this
      omega

/-- Between its limits a type writes the number itself. -/
theorem bitsInt_ofInt {t : Nat} {v : Int} (hlo : tyMin t ≤ v) (hhi : v ≤ tyMax t) :
    bitsInt t (BitVec.ofInt (tyBits t) v) = v := by
  unfold tyMin tyMax at *
  unfold bitsInt
  simp only [tySigned, decide_eq_true_eq] at *
  push_cast at *
  split_ifs at * with ht
  · exact BitVec.toInt_ofInt_eq_self (tyBits_pos t) hlo (by omega)
  · rw [BitVec.toNat_ofInt, Nat.cast_pow, Int.toNat_of_nonneg (Int.emod_nonneg _ (by positivity))]
    exact Int.emod_eq_of_lt hlo (by push_cast; omega)

theorem tyRes_of_limits {t : Nat} {v : Int} (hlo : tyMin t ≤ v) (hhi : v ≤ tyMax t) : tyRes t v = BitVec.ofInt 64 v := by
  rw [tyRes_eq_widen, ← ofInt_bitsInt_64, bitsInt_ofInt hlo hhi]

theorem ofInt_tyVal (t : Nat) (x : Word64) : BitVec.ofInt (tyBits t) (tyVal t x) = x.setWidth (tyBits t) := by
  rw [tyVal_eq_bitsInt, ofInt_bitsInt]

theorem tyRes_tyVal (t : Nat) (x : Word64) : tyRes t (tyVal t x) = typed t x := by
  rw [tyRes_eq_widen, ofInt_tyVal, typed_eq_widen]

/-- A result wrapped at the width of a type. -/
theorem tyRes_eq_typed {t : Nat} {v : Int} {x : Word64} (h : BitVec.ofInt (tyBits t) v = x.setWidth (tyBits t)) :
    tyRes t v = typed t x := by
  rw [tyRes_eq_widen, h, typed_eq_widen]

theorem ofInt_toNat (t : Nat) (x : Word64) : BitVec.ofInt (tyBits t) (x.toNat : Int) = x.setWidth (tyBits t) := by
  rw [BitVec.ofInt_natCast, BitVec.ofNat_toNat]

/-- The low bits of a number written to a register. -/
theorem setWidth_ofInt_64 (t : Nat) (v : Int) : (BitVec.ofInt 64 v).setWidth (tyBits t) = BitVec.ofInt (tyBits t) v := by
  refine BitVec.eq_of_toInt_eq ?_
  have hdvd : 2 ^ tyBits t ∣ 2 ^ 64 := Nat.pow_dvd_pow 2 (tyBits_le t)
  rw [← BitVec.signExtend_eq_setWidth_of_le _ (tyBits_le t), BitVec.toInt_signExtend_eq_toInt_bmod_of_le _ (tyBits_le t),
    BitVec.toInt_ofInt, BitVec.toInt_ofInt, Int.bmod_bmod_of_dvd hdvd]

theorem typedInt_eq_tyVal (t : Nat) (x : Word64) : typedInt t x = tyVal t x := by
  rw [tyVal_eq_bitsInt]
  unfold typedInt bitsInt
  rw [typed_eq_widen, widen]
  split
  · exact BitVec.toInt_signExtend_of_le (tyBits_le t)
  · rw [BitVec.toNat_setWidth_of_le (tyBits_le t)]

end Sys2Proof.Machine

namespace Sys2Proof.Machine

/-! ### Operations that wrap (R146) -/

section
variable (t : Nat) (x y : Word64)

theorem add_eq_typed : Alu.add t x y = typed t (x + y) :=
  tyRes_eq_typed (by rw [BitVec.ofInt_add, ofInt_tyVal, ofInt_tyVal, BitVec.setWidth_add _ _ (tyBits_le t)])

theorem neg_eq_typed : Alu.neg t x = typed t (-x) :=
  tyRes_eq_typed (by rw [BitVec.ofInt_neg, ofInt_tyVal, BitVec.setWidth_neg_of_le (tyBits_le t)])

theorem sub_eq_typed : Alu.sub t x y = typed t (x - y) :=
  tyRes_eq_typed (by rw [Int.sub_eq_add_neg, BitVec.sub_eq_add_neg, BitVec.ofInt_add, BitVec.ofInt_neg, ofInt_tyVal, ofInt_tyVal,
    BitVec.setWidth_add _ _ (tyBits_le t), BitVec.setWidth_neg_of_le (tyBits_le t)])

theorem mul_eq_typed : Alu.mul t x y = typed t (x * y) :=
  tyRes_eq_typed (by rw [BitVec.ofInt_mul, ofInt_tyVal, ofInt_tyVal, BitVec.setWidth_mul _ _ (tyBits_le t)])

theorem tyRes_toNat : tyRes t (x.toNat : Int) = typed t x := tyRes_eq_typed (ofInt_toNat t x)

theorem shl_eq_typed : Alu.shl t x y = typed t (x <<< (y.toNat % tyBits t)) := by
  refine tyRes_eq_typed ?_
  have hpow : x <<< (y.toNat % tyBits t) = x * BitVec.ofInt 64 (2 ^ (y.toNat % tyBits t)) := by
    refine BitVec.eq_of_toNat_eq ?_
    have hcast : (2 ^ (y.toNat % tyBits t) : Int) = ((2 ^ (y.toNat % tyBits t) : Nat) : Int) := by push_cast; rfl
    rw [hcast, BitVec.ofInt_natCast, BitVec.toNat_shiftLeft, BitVec.toNat_mul, BitVec.toNat_ofNat, Nat.mul_mod_mod,
      Nat.shiftLeft_eq]
  rw [hpow, BitVec.ofInt_mul, ofInt_tyVal, BitVec.setWidth_mul _ _ (tyBits_le t), setWidth_ofInt_64]

/-! ### Operations that saturate (R146) -/

/-- 0 lies between the limits of every type. -/
theorem limits_hold_zero : tyMin t ≤ 0 ∧ 0 ≤ tyMax t := by
  have h := bitsInt_bounds t 0
  rwa [show bitsInt t 0 = 0 by unfold bitsInt; split <;> simp] at h

theorem clampI_eq {lo hi : Int} (h : lo ≤ hi) (v : Int) : clampI lo hi v = max lo (min hi v) := by
  unfold clampI
  split_ifs <;> omega

theorem tySat_eq_limited (v : Int) : tySat t v = limited t v := by
  obtain ⟨hmin, hmax⟩ := limits_hold_zero t
  rw [tySat, clampI_eq (hmin.trans hmax), tyRes_of_limits (by omega) (by omega)]
  unfold limited tyMin tyMax tySigned
  simp only [decide_eq_true_eq]
  push_cast
  rfl

/-! ### Order under a type (R146) -/

theorem typedLt_eq : typedLt t x y = decide (tyVal t x < tyVal t y) := by
  rw [← typedInt_eq_tyVal, ← typedInt_eq_tyVal]
  unfold typedLt typedInt
  split
  · rfl
  · simp only [BitVec.ult, Nat.cast_lt]

theorem typed_inj : typed t x = typed t y ↔ tyVal t x = tyVal t y := by
  constructor
  · intro h
    rw [← typedInt_eq_tyVal, ← typedInt_eq_tyVal, typedInt, typedInt, h]
  · intro h
    rw [← tyRes_tyVal, h, tyRes_tyVal]

theorem tyBool_eq_truth (b : Bool) : tyBool b = truth b := by cases b <;> rfl

theorem min_eq_typed : Alu.min_ t x y = if typedLt t x y then typed t x else typed t y := by
  rw [Alu.min_, typedLt_eq]
  split_ifs with h <;> simp only [decide_eq_true_eq] at h
  · rw [min_eq_left h.le, tyRes_tyVal]
  · rw [min_eq_right (not_lt.mp h), tyRes_tyVal]

theorem max_eq_typed : Alu.max_ t x y = if typedLt t x y then typed t y else typed t x := by
  rw [Alu.max_, typedLt_eq]
  split_ifs with h <;> simp only [decide_eq_true_eq] at h
  · rw [max_eq_right h.le, tyRes_tyVal]
  · rw [max_eq_left (not_lt.mp h), tyRes_tyVal]

/-! ### Shifts to the right and rotations (R146) -/

/-- A quotient of a power of two, rounded down, lies between 0 and the number. -/
theorem ediv_between (v : Int) (n : Nat) : min v 0 ≤ v / 2 ^ n ∧ v / 2 ^ n ≤ max v 0 := by
  have hpos : (0 : Int) < 2 ^ n := by positivity
  rcases le_or_gt 0 v with h | h
  · have hlo := Int.ediv_nonneg h hpos.le
    have hhi := Int.ediv_le_self (2 ^ n) h
    omega
  · have hhi := Int.ediv_neg_of_neg_of_pos h hpos
    have hlo : v ≤ v / 2 ^ n := Int.le_ediv_of_mul_le hpos (by nlinarith)
    omega

theorem shr_eq : Alu.shr t x y =
    if t < 4 then (typed t x).sshiftRight (y.toNat % tyBits t) else typed t x >>> (y.toNat % tyBits t) := by
  have hquot : Alu.shr t x y = BitVec.ofInt 64 (typedInt t x / 2 ^ (y.toNat % tyBits t)) := by
    obtain ⟨hlo, hhi⟩ := bitsInt_bounds t (x.setWidth (tyBits t))
    obtain ⟨hmin, hmax⟩ := limits_hold_zero t
    obtain ⟨hqlo, hqhi⟩ := ediv_between (tyVal t x) (y.toNat % tyBits t)
    rw [← tyVal_eq_bitsInt] at hlo hhi
    rw [typedInt_eq_tyVal]
    exact tyRes_of_limits (by omega) (by omega)
  rw [hquot, typedInt]
  split
  · rw [BitVec.sshiftRight_eq, Int.shiftRight_eq_div_pow]
    push_cast
    rfl
  · have hnat : ((typed t x).toNat : Int) / 2 ^ (y.toNat % tyBits t) =
        ((typed t x >>> (y.toNat % tyBits t)).toNat : Int) := by
      rw [BitVec.toNat_ushiftRight, Nat.shiftRight_eq_div_pow]
      push_cast
      rfl
    rw [hnat, BitVec.ofInt_natCast, BitVec.ofNat_toNat, BitVec.setWidth_eq]

/-- The two parts of a rotation do not meet. -/
theorem rotate_parts {w r : Nat} (hr : r ≤ w) {v : Nat} (hv : v < 2 ^ w) :
    v * 2 ^ r % 2 ^ w + v / 2 ^ (w - r) = v <<< r % 2 ^ w ||| v >>> (w - r) := by
  have hsplit : 2 ^ w = 2 ^ (w - r) * 2 ^ r := by rw [← Nat.pow_add, Nat.sub_add_cancel hr]
  have hlow : v / 2 ^ (w - r) < 2 ^ r := Nat.div_lt_of_lt_mul (hsplit ▸ hv)
  have hhigh : v * 2 ^ r % 2 ^ w = (v % 2 ^ (w - r)) <<< r := by
    rw [hsplit, Nat.mul_mod_mul_right, Nat.shiftLeft_eq]
  rw [Nat.shiftLeft_eq, Nat.shiftRight_eq_div_pow, hhigh, Nat.shiftLeft_add_eq_or_of_lt hlow]

theorem tyNat_eq_toNat : tyNat t x = (x.setWidth (tyBits t)).toNat := (BitVec.toNat_setWidth _ _).symm

theorem setWidth_of_low (z : BitVec (tyBits t)) : (z.setWidth 64).setWidth (tyBits t) = z := by
  rw [BitVec.setWidth_setWidth_of_le _ (tyBits_le t), BitVec.setWidth_eq]

/-- A rotation is that of the low bits, given as a number. -/
theorem tyRol_eq_typed {k : Nat} {z : BitVec (tyBits t)} (h : z.toNat =
    (x.setWidth (tyBits t)).toNat <<< (k % tyBits t) % 2 ^ tyBits t |||
      (x.setWidth (tyBits t)).toNat >>> (tyBits t - k % tyBits t)) : tyRol t x k = typed t (z.setWidth 64) := by
  refine tyRes_eq_typed ?_
  rw [tyNat_eq_toNat, rotate_parts (Nat.mod_lt _ (tyBits_pos t)).le (BitVec.isLt _), ← h, BitVec.ofInt_natCast,
    BitVec.ofNat_toNat, BitVec.setWidth_eq, setWidth_of_low]

theorem rol_eq_typed :
    Alu.rol t x y = typed t (((x.setWidth (tyBits t)).rotateLeft (y.toNat % tyBits t)).setWidth 64) :=
  tyRol_eq_typed t x BitVec.toNat_rotateLeft

theorem ror_eq_typed :
    Alu.ror t x y = typed t (((x.setWidth (tyBits t)).rotateRight (y.toNat % tyBits t)).setWidth 64) := by
  refine tyRol_eq_typed t x ?_
  have hn := Nat.mod_lt y.toNat (tyBits_pos t)
  rw [BitVec.toNat_rotateRight, Nat.mod_eq_of_lt hn]
  rcases Nat.eq_zero_or_pos (y.toNat % tyBits t) with h | h
  · have hlt := (x.setWidth (tyBits t)).isLt
    rw [h, Nat.sub_zero, Nat.mod_self, Nat.shiftLeft_zero, Nat.shiftRight_zero, Nat.sub_zero, Nat.shiftLeft_eq,
      Nat.mul_mod_left, Nat.mod_eq_of_lt hlt, Nat.shiftRight_eq_div_pow, Nat.div_eq_of_lt hlt]
  · rw [Nat.mod_eq_of_lt (Nat.sub_lt (tyBits_pos t) h), Nat.sub_sub_self hn.le, Nat.or_comm]

/-! ### Division under a type (R147) -/

theorem div_eq_typed : Alu.div t x y =
    typed t (if t < 4 then (typed t x).sdiv (typed t y) else typed t x / typed t y) := by
  refine tyRes_eq_typed ?_
  rw [← setWidth_ofInt_64, ← typedInt_eq_tyVal, ← typedInt_eq_tyVal]
  unfold typedInt
  split
  · congr 1
    refine BitVec.eq_of_toInt_eq ?_
    rw [BitVec.toInt_ofInt, BitVec.toInt_sdiv]
  · rw [← Int.ofNat_tdiv, BitVec.ofInt_natCast, ← BitVec.toNat_udiv, BitVec.ofNat_toNat, BitVec.setWidth_eq]

theorem mod_eq_typed : Alu.mod t x y =
    typed t (if t < 4 then (typed t x).srem (typed t y) else typed t x % typed t y) := by
  refine tyRes_eq_typed ?_
  rw [← setWidth_ofInt_64, ← typedInt_eq_tyVal, ← typedInt_eq_tyVal]
  unfold typedInt
  split
  · rw [← BitVec.toInt_srem, BitVec.ofInt_toInt]
  · rw [← Int.ofNat_tmod, BitVec.ofInt_natCast, ← BitVec.toNat_umod, BitVec.ofNat_toNat, BitVec.setWidth_eq]

theorem typed_zero : typed t 0 = 0 := by
  obtain ⟨hmin, hmax⟩ := limits_hold_zero t
  exact (tyRes_toNat t 0).symm.trans (tyRes_of_limits hmin hmax)

theorem typed_eq_zero : typed t x = 0 ↔ tyNat t x = 0 := by
  have hzero : tyNat t 0 = 0 := Nat.zero_mod _
  rw [← typed_zero t, typed_inj, tyVal_eq_bitsInt, tyVal_eq_bitsInt, bitsInt_inj, ← BitVec.toNat_inj, ← tyNat_eq_toNat,
    ← tyNat_eq_toNat, hzero]

end

end Sys2Proof.Machine

namespace Sys2Proof.Machine

/-! ### What the shared forms of the integer instructions give on an undisturbed lane (R142, R146, R147) -/

section
variable {s : State} {l : Nat} {a : Act} (h : s.Clean l a)
include h

/-- An instruction that computes a register from the lane's registers. -/
theorem compute_gives (d : Nat) (w : Word) (f : Engine → Except Nat Word64) {v : Word64} (hv : f (s.lane l).eng = .ok v) :
    Completes (s.compute l d w f).done fun u => Ran s u l d v (s.pcPlus l 4) :=
  compute_ran h d w f v hv

theorem alu_gives {d x y t func : Nat} {f : Nat → Word64 → Word64 → Word64} {v : Word64}
    (hv : f t (s.gpr l x) (s.gpr l y) = v) :
    Completes (s.alu l d x y t func f).done fun u => Ran s u l d v (s.pcPlus l 4) :=
  compute_gives h d _ _ (congrArg _ hv)

theorem alu1_gives {d x t func : Nat} {f : Nat → Word64 → Word64} {v : Word64} (hv : f t (s.gpr l x) = v) :
    Completes (s.alu1 l d x t func f).done fun u => Ran s u l d v (s.pcPlus l 4) :=
  compute_gives h d _ _ (congrArg _ hv)

theorem immediate_gives {op d x imm : Nat} {f : Word64 → Word64} :
    Completes (s.immediate l op d x imm f).done fun u => Ran s u l d (f (s.gpr l x)) (s.pcPlus l 4) :=
  compute_gives h d _ _ rfl

theorem select_gives {d x y t : Nat} {v : Word64} (hv : Alu.sel t (s.gpr l d) (s.gpr l x) (s.gpr l y) = v) :
    Completes (s.select l d x y t).done fun u => Ran s u l d v (s.pcPlus l 4) :=
  compute_gives h d _ _ (congrArg _ hv)

theorem divide_gives {d x y t func : Nat} {f : Nat → Word64 → Word64 → Word64} {v : Word64}
    (hq : typed t (s.gpr l y) ≠ 0) (hv : f t (s.gpr l x) (s.gpr l y) = v) :
    Completes (s.divide l d x y t func f).done fun u => Ran s u l d v (s.pcPlus l 4) :=
  compute_gives h d _ _ ((if_neg fun h0 => hq ((typed_eq_zero t _).mpr h0)).trans (congrArg _ hv))

end

/-- Settles O3: each operation writes a number whose low bits are those of the result. -/
theorem wrappingArithmeticResults : Obligations.WrappingArithmeticResults := by
  unfold Obligations.WrappingArithmeticResults
  intro s l a d x y t h p q gives
  refine ⟨?_, ?_, ?_, ?_, ?_, ?_, ?_, ?_, ?_, ?_⟩
  · exact alu_gives h (add_eq_typed t p q)
  · exact alu_gives h (sub_eq_typed t p q)
  · exact alu_gives h (mul_eq_typed t p q)
  · exact alu_gives h (tyRes_toNat t (p &&& q))
  · exact alu_gives h (tyRes_toNat t (p ||| q))
  · exact alu_gives h (tyRes_toNat t (p ^^^ q))
  · exact alu1_gives h (tyRes_toNat t (~~~p))
  · exact alu1_gives h (neg_eq_typed t p)
  · exact alu1_gives h (tyRes_toNat t p)
  · exact alu_gives h (shl_eq_typed t p q)

/-- Settles O4: the number held between the limits is written as it is. -/
theorem saturatingResults : Obligations.SaturatingResults := by
  unfold Obligations.SaturatingResults
  intro s l a d x y t h p q gives
  have hsat : ∀ v : Int, tySat t v = limited t v := tySat_eq_limited t
  refine ⟨?_, ?_, ?_, ?_, ?_, ?_, ?_⟩
  · exact alu_gives h (by rw [typedInt_eq_tyVal, typedInt_eq_tyVal]; exact hsat _)
  · exact alu_gives h (by rw [typedInt_eq_tyVal, typedInt_eq_tyVal]; exact hsat _)
  · exact alu_gives h (by rw [typedInt_eq_tyVal, typedInt_eq_tyVal]; exact hsat _)
  · exact alu1_gives h (by rw [typedInt_eq_tyVal]; exact hsat _)
  · exact alu1_gives h (hsat _)
  · exact alu_gives h (min_eq_typed t p q)
  · exact alu_gives h (max_eq_typed t p q)

end Sys2Proof.Machine

namespace Sys2Proof.Machine

/-! ### Compares and SEL (R146) -/

section
variable (t : Nat) (x y : Word64)

theorem eq_eq_truth : Alu.eq t x y = truth (typed t x == typed t y) := by
  rw [Alu.eq, tyBool_eq_truth, beq_eq_decide, decide_eq_decide.mpr (typed_inj t x y)]

theorem ne_eq_truth : Alu.ne t x y = truth (typed t x != typed t y) := by
  rw [Alu.ne, tyBool_eq_truth, bne, beq_eq_decide, decide_eq_decide.mpr (typed_inj t x y), decide_not]

theorem lt_eq_truth : Alu.lt t x y = truth (typedLt t x y) := by rw [Alu.lt, tyBool_eq_truth, typedLt_eq]

theorem le_eq_truth : Alu.le t x y = truth (!typedLt t y x) := by
  rw [Alu.le, tyBool_eq_truth, typedLt_eq, ← decide_not, decide_eq_decide.mpr not_lt]

theorem sel_eq_typed (z : Word64) : Alu.sel t z x y = typed t (if z = 0 then y else x) := by
  rw [Alu.sel]
  by_cases hz : z = 0
  · rw [if_neg (by rw [hz]; decide), if_pos hz, tyRes_toNat]
  · rw [if_pos (bne_iff_ne.mpr hz), if_neg hz, tyRes_toNat]

end

/-- Settles O5: shifts and rotations of the low bits, and compares of the numbers that they are under the type. -/
theorem shiftsRotatesAndComparesResults : Obligations.ShiftsRotatesAndComparesResults := by
  unfold Obligations.ShiftsRotatesAndComparesResults
  intro s l a d x y t h p q w n gives
  refine ⟨?_, ?_, ?_, ?_, ?_, ?_, ?_, ?_, ?_, ?_⟩
  · exact alu_gives h (shr_eq t p q)
  · exact alu_gives h (rol_eq_typed t p q)
  · exact alu_gives h (ror_eq_typed t p q)
  · exact alu_gives h (eq_eq_truth t p q)
  · exact alu_gives h (ne_eq_truth t p q)
  · exact alu_gives h (lt_eq_truth t p q)
  · exact alu_gives h (le_eq_truth t p q)
  · exact alu_gives h (lt_eq_truth t q p)
  · exact alu_gives h (le_eq_truth t q p)
  · exact select_gives h (sel_eq_typed t p q _)

/-! ### Instructions that the engine alone decides (R145) -/

theorem set_pc (e : Engine) (d : Nat) (v : Word64) : (e.set d v).pc = e.pc := by
  unfold Engine.set
  split <;> rfl

theorem ahead_ofNat (e : Engine) (n : Nat) : e.ahead n = e.pc + BitVec.ofNat 40 (4 * n) := by
  rw [Engine.ahead, ← BitVec.ofInt_natCast]
  push_cast
  rfl

theorem set_skip (e : Engine) (d : Nat) (v : Word64) (n : Nat) :
    (e.set d v).skip n = { e.set d v with pc := e.pc + BitVec.ofNat 40 (4 * n) } := by
  rw [Engine.skip, ahead_ofNat, set_pc]

/-- The word that a displacement counts from is the next one. -/
theorem ahead_succ (e : Engine) (n : Int) : e.ahead (1 + n) = e.pc + BitVec.ofNat 40 4 + 4 * BitVec.ofInt 40 n := by
  rw [Engine.ahead, Int.mul_add, Int.mul_one, BitVec.ofInt_add, BitVec.ofInt_mul, ← BitVec.add_assoc]
  rfl

section
variable {s : State} {l : Nat} {a : Act} (h : s.Clean l a)
include h

theorem compare_fed (n : Nat) (m : List (Nat × Nat)) (kinds : List Nat) (k : State → State) :
    (s.fedBy n m).compare l kinds k = k (s.fedBy n m) := compare_unarmed (s.fedBy n m) l h.armed kinds k

/-- An instruction that, its fetch paid, only writes a register and gives control. -/
theorem instr_gives {f : Act → State → State} {kinds : List Nat} {d : Nat} {v : Word64} {pc : BitVec 40}
    (hf : ∀ n m, f a (s.fedBy n m) = (s.fedBy n m).retire l kinds { ((s.lane l).eng).set d v with pc := pc }) :
    Completes (s.instr l f).done fun u => Ran s u l d v pc := by
  obtain ⟨n, m, heq⟩ := instr_clean h f
  refine ⟨_, rfl, ?_⟩
  rw [heq, hf, retire_clean h]
  exact ran_of_setLane h.act rfl _ rfl n m

theorem literal_gives (d : Nat) (w : Word) :
    Completes (s.literal l d w).done fun u => Ran s u l d (w.signExtend 64) (s.pcPlus l 8) :=
  instr_gives h fun n m => (compare_fed h n m _ _).trans (congrArg _ (set_skip _ d _ 2))

theorem nop_gives : Completes (s.nopInstr l).done fun u => Ran s u l 0 0 (s.pcPlus l 4) :=
  instr_gives h fun n m => (compare_fed h n m _ _).trans (congrArg _ (set_skip _ 0 0 1))

theorem check_gives {x y : Nat} (hlt : s.gpr l x < s.gpr l y) :
    Completes (s.check l x y).done fun u => Ran s u l 0 0 (s.pcPlus l 4) :=
  instr_gives h fun n m => (if_neg (Nat.not_le.mpr (BitVec.lt_def.mp hlt))).trans
    ((compare_fed h n m _ _).trans (congrArg _ (set_skip _ 0 0 1)))

theorem lea_gives {base x t off : Nat} (d : Nat) (hspace : spaceNamed base x = true) :
    Completes (s.lea l d base x t off).done fun u => Ran s u l d
      (BitVec.ofNat 64 (s.baseValue a (s.lane l).eng base x + off * tyBytes t)) (s.pcPlus l 4) :=
  instr_gives h fun n m => by
    have hloc : BitVec.ofNat 64 ((s.fedBy n m).location a ((s.fedBy n m).lane l).eng base x t off) =
        BitVec.ofNat 64 (s.baseValue a (s.lane l).eng base x + off * tyBytes t) :=
      BitVec.eq_of_toNat_eq (by rw [BitVec.toNat_ofNat, BitVec.toNat_ofNat]; exact Nat.mod_mod _ _)
    simp only [hspace, Bool.not_true, if_neg Bool.false_ne_true, compare_fed h, hloc]
    exact congrArg _ (set_skip _ d _ 1)

theorem branch_gives {taken : Engine → Bool} {n : Engine → Int} (ht : taken (s.lane l).eng = true) :
    Completes (s.branch l taken n).done fun u =>
      Ran s u l 0 0 (s.pcPlus l 4 + 4 * BitVec.ofInt 40 (n (s.lane l).eng)) :=
  instr_gives h fun k m => (if_pos ht).trans ((compare_fed h k m _ _).trans
    (congrArg (fun pc => (s.fedBy k m).retire l [4, 5] { (s.lane l).eng with pc := pc }) (ahead_succ (s.lane l).eng _)))

theorem branch_passes {taken : Engine → Bool} {n : Engine → Int} (ht : taken (s.lane l).eng = false) :
    Completes (s.branch l taken n).done fun u => Ran s u l 0 0 (s.pcPlus l 4) :=
  instr_gives h fun k m => (if_neg (Bool.eq_false_iff.mp ht)).trans
    ((compare_fed h k m _ _).trans (congrArg _ (set_skip _ 0 0 1)))

end

/-- Settles O7: each instruction, its fetch paid, only writes its register and passes over its own words. -/
theorem immediateAndMoveResults : Obligations.ImmediateAndMoveResults := by
  unfold Obligations.ImmediateAndMoveResults
  intro s l a d x y imm w base t off h p gives
  refine ⟨?_, ?_, ?_, ?_, ?_, ?_, ?_, ?_⟩
  · exact immediate_gives h
  · exact immediate_gives h
  · exact immediate_gives h
  · exact immediate_gives h
  · exact literal_gives h d w
  · intro hbase hfield
    exact lea_gives h d (by simpa [spaceNamed, hbase, or_assoc] using hfield)
  · exact nop_gives h
  · exact fun hlt => check_gives h hlt

/-- Settles O9: a branch is taken or passed by the register that it tests. -/
theorem branchesGiveControl : Obligations.BranchesGiveControl := by
  unfold Obligations.BranchesGiveControl
  intro s l a x far disp n h gives next
  refine ⟨?_, ?_, ?_, ?_⟩
  · exact branch_gives h rfl
  · split
    · next h0 => exact branch_gives h (beq_iff_eq.mpr h0)
    · next h0 => exact branch_passes h (beq_false_of_ne h0)
  · split
    · next h0 => exact branch_passes h (bne_eq_false_iff_eq.mpr h0)
    · next h0 => exact branch_gives h (bne_iff_ne.mpr h0)
  · rw [BitVec.ofNat_mul]
    exact branch_gives h rfl

end Sys2Proof.Machine

namespace Sys2Proof.Machine

/-! ### What the end of an activation leaves alone (R28, R152, R250) -/

/-- A part of the state that no register, no memory, nothing of the queue engine, no forwarded item, no lane and no debugger
changes, nor the mark that a map is to be copied (R159). -/
structure OffEnding {β : Type} (p : State → β) : Prop where
  put : ∀ (s : State) f v, p (s.put f v) = p s
  mem : ∀ (s : State) m, p { s with mem := m } = p s
  qe : ∀ (s : State) x, p { s with qe := x } = p s
  item : ∀ (s : State) k ws, p (s.sendItem k ws) = p s
  copying : ∀ (s : State) t, p (s.setTask t { s.task t with copying := true }) = p s
  lane : ∀ (s : State) l x, p (s.setLane l x) = p s
  sys : ∀ (s : State) x, p { s with sys := x } = p s
  lks : ∀ (s : State) x, p { s with lks := x } = p s

namespace OffEnding
variable {β : Type} {p : State → β} (h : OffEnding p)
include h

theorem release (s : State) (kind i : Nat) : p (s.release kind i) = p s := by
  have hcharge : ∀ v, p (s.setCharge kind i v) = p s := fun v => by
    unfold State.setCharge
    split_ifs
    · exact h.qe s _
    · exact h.qe s _
    · exact h.qe s _
  unfold State.release
  split
  · rfl
  · exact (h.put _ _ _).trans ((h.put _ _ _).trans ((h.put _ _ _).trans ((h.put _ _ _).trans (hcharge _))))

theorem freeHandle (s : State) (i : Nat) : p (s.freeHandle i) = p s := by
  unfold State.freeHandle
  split
  · exact h.release s _ _
  · rfl

theorem freeMsg (s : State) (d : Nat) : p (s.freeMsg d) = p s :=
  (h.release _ _ _).trans (foldl_keeps p _ (fun s i => h.freeHandle s i) _ s)

theorem setDescWord (s : State) (d i : Nat) (v : Word) : p (s.setDescWord d i v) = p s := setWord_keeps p h.mem s _ v

theorem linkMsgs (q : Nat) (ds : List Nat) (s : State) : p (State.linkMsgs q s ds) = p s := by
  induction ds generalizing s with
  | nil => rfl
  | cons d ds ih =>
    cases ds with
    | nil => exact h.setDescWord s _ _ _
    | cons e ds => exact (ih _).trans (h.setDescWord s _ _ _)

theorem mirrorQueue (s : State) (q kind : Nat) (ws : List Word) : p (s.mirrorQueue q kind ws) = p s := by
  unfold State.mirrorQueue State.forward
  split_ifs
  · rfl
  · exact h.item s _ _
  · exact h.item s _ _
  · rfl

theorem dropMsg (s : State) (q d : Nat) : p (s.dropMsg q d) = p s :=
  (h.freeMsg _ _).trans ((h.linkMsgs _ _ _).trans ((h.qe _ _).trans (h.mirrorQueue s _ _ _)))

theorem untake (s : State) (tk : Nat × List Nat) : p (s.untake tk) = p s :=
  foldl_keeps p _ (fun s d => by
    split
    · exact (h.setDescWord _ _ _ _).trans (h.qe s _)
    · exact h.dropMsg s _ _) _ s

theorem dropResv (s : State) (q : Nat) (rc : Nat × List Nat) : p (s.dropResv q rc) = p s :=
  (h.qe _ _).trans ((h.release _ _ _).trans (foldl_keeps p _ (fun s b => h.release s 0 b) _ s))

theorem discard (s : State) (a : Act) : p (s.discard a) = p s :=
  (h.copying _ _).trans ((foldl_keeps p _ (fun s _ => foldl_keeps p _ (fun s _ => h.dropResv s _ _) _ s) _ _).trans
    (foldl_keeps p _ h.untake _ s))

theorem clearLane (s : State) (l : Nat) : p (s.clearLane l) = p s :=
  (h.put _ _ _).trans ((h.put _ _ _).trans ((h.put _ _ _).trans ((h.lane _ _ _).trans (h.sys s _))))

/-- The end of an activation of which the leeward module is not told. -/
theorem endWith (s : State) (l : Nat) : p (s.endWith l 0) = p s := by
  unfold State.endWith
  split
  · rfl
  · exact (h.put _ _ _).trans ((endHalt_keeps p h.put h.lks _ _ _).trans ((h.clearLane _ _).trans ((h.discard _ _).trans
      (h.put s _ _))))

end OffEnding

theorem endWith_act {s : State} {l : Nat} {a : Act} (hact : (s.lane l).act = some a) : ((s.endWith l 0).lane l).act = none := by
  rw [State.endWith, hact]
  exact (endHalt_keeps (fun s => (s.lane l).act) (fun _ _ _ => rfl) (fun _ _ => rfl) _ _ _).trans (clearLane_act _ _)

theorem task_setTask (s : State) (t u : Nat) (x : Task) : (s.setTask t x).task u = if u = t then x else s.task u :=
  SMap.get_set _ _ _ _ _

theorem traps_offEnding (t : Nat) : OffEnding fun s => (s.task t).traps where
  put _ _ _ := rfl
  mem _ _ := rfl
  qe _ _ := rfl
  item _ _ _ := rfl
  copying s u := by
    rw [task_setTask]
    split
    · next heq => rw [heq]
    · rfl
  lane _ _ _ := rfl
  sys _ _ := rfl
  lks _ _ := rfl

theorem evr_offEnding : OffEnding (·.evr) :=
  ⟨fun _ _ _ => rfl, fun _ _ => rfl, fun _ _ => rfl, fun _ _ _ => rfl, fun _ _ => rfl, fun _ _ _ => rfl, fun _ _ => rfl,
    fun _ _ => rfl⟩

/-! ### Traps (R151, R152, R153) -/

theorem countTrap_eq {s : State} {t : Nat} (h : (s.task t).traps ≠ 2) :
    s.countTrap t = s.setTask t { s.task t with traps := (s.task t).traps + 1 } :=
  if_neg fun h3 => h (Nat.succ.inj h3)

/-- The first and the second trap in a row on a lane. -/
theorem trapLane_trapped {s : State} {l : Nat} {a : Act} (hact : (s.lane l).act = some a) (htraps : (s.task a.task).traps ≠ 2)
    (code user : Nat) (w : Word) : Trapped s (s.trapLane l code user w).settle l a code user w := by
  obtain ⟨r, hr⟩ : ∃ r, r = s.record 7 152 a.task 0 0 0xFF
    [wd code, wd ((s.lane l).eng.pc.toNat - s.bankBase a.task), w, wd user] := ⟨_, rfl⟩
  have hcount : ((r.endWith l 0).task a.task).traps = (s.task a.task).traps :=
    ((traps_offEnding a.task).endWith r l).trans (by rw [hr]; rfl)
  have hevr : (r.endWith l 0).evr = r.evr := evr_offEnding.endWith r l
  have hend : ((r.endWith l 0).lane l).act = none := endWith_act (a := a) (by rw [hr]; exact hact)
  have heq : s.trapLane l code user w = (r.endWith l 0).setTask a.task
      { (r.endWith l 0).task a.task with traps := ((r.endWith l 0).task a.task).traps + 1 } := by
    rw [← countTrap_eq (hcount ▸ htraps), State.trapLane, hact, hr]
  constructor
  · rw [State.lane, settle_prt, heq]
    exact hend
  · rw [settle_evr, heq, show ∀ x, ((r.endWith l 0).setTask a.task x).evr = r.evr from fun _ => hevr, hr]
    exact List.mem_append_right _ (List.mem_singleton_self _)
  · rw [State.task, settle_prt, heq]
    refine (congrArg (·.traps) (task_setTask _ _ _ _)).trans ?_
    rw [if_pos rfl, hcount]

section
variable {s : State} {l : Nat} {a : Act} (h : s.Clean l a)
include h

/-- An instruction that traps before it has an effect. -/
theorem instr_traps {f : Act → State → State} {code user : Nat} {w : Word} (htraps : (s.task a.task).traps ≠ 2)
    (hf : ∀ n m, f a (s.fedBy n m) = (s.fedBy n m).trapOn l code user w) :
    Completes (s.instr l f).done fun u => Trapped s u l a code user w := by
  obtain ⟨n, m, heq⟩ := instr_clean h f
  refine ⟨_, rfl, ?_⟩
  have htrap : (s.instr l f) = (s.fedBy n m).trapLane l code user w := by
    rw [heq, hf, State.trapOn, compare_fed h]
  rw [htrap]
  obtain ⟨hended, hrecord, hcount⟩ := trapLane_trapped (s := s.fedBy n m) h.act htraps code user w
  exact ⟨hended, hrecord, hcount⟩

theorem compute_traps (d : Nat) {w : Word} {f : Engine → Except Nat Word64} {code : Nat}
    (htraps : (s.task a.task).traps ≠ 2) (hf : f (s.lane l).eng = .error code) :
    Completes (s.compute l d w f).done fun u => Trapped s u l a code 0 w :=
  instr_traps h htraps fun n m => by
    have he : ((s.fedBy n m).lane l).eng = (s.lane l).eng := rfl
    simp only [he, hf]

theorem divide_traps {d x y t func : Nat} {f : Nat → Word64 → Word64 → Word64} (htraps : (s.task a.task).traps ≠ 2)
    (hq : typed t (s.gpr l y) = 0) :
    Completes (s.divide l d x y t func f).done fun u => Trapped s u l a 2 0 (encR 1 d x y t func) :=
  compute_traps h d htraps (if_pos ((typed_eq_zero t _).mp hq))

end

/-- Settles O6: a divisor is 0 under its type exactly where its low bits are. -/
theorem divisionResultsAndTrap : Obligations.DivisionResultsAndTrap := by
  unfold Obligations.DivisionResultsAndTrap
  intro s l a d x y t h p q gives
  refine ⟨fun hq => ⟨?_, ?_⟩, fun hq htraps => ⟨?_, ?_⟩⟩
  · exact divide_gives h hq (div_eq_typed t _ _)
  · exact divide_gives h hq (mod_eq_typed t _ _)
  · exact divide_traps h htraps hq
  · exact divide_traps h htraps hq

end Sys2Proof.Machine

namespace Sys2Proof.Machine

/-! ### Floating operations (R148) -/

section
variable {s : State} {l : Nat} {a : Act} (h : s.Clean l a) {t : Nat}
include h

theorem fpu_gives (ht : floatType t = true) {d x y func : Nat} {f : Nat → Word64 → Word64 → Word64} {v : Word64}
    (hv : f t (s.gpr l x) (s.gpr l y) = v) :
    Completes (s.fpu l d x y t func f).done fun u => Ran s u l d v (s.pcPlus l 4) :=
  compute_gives h d _ _ ((if_pos ht).trans (congrArg _ hv))

theorem fpu1_gives (ht : floatType t = true) {d x func : Nat} {f : Nat → Word64 → Word64} {v : Word64}
    (hv : f t (s.gpr l x) = v) :
    Completes (s.fpu1 l d x t func f).done fun u => Ran s u l d v (s.pcPlus l 4) :=
  compute_gives h d _ _ ((if_pos ht).trans (congrArg _ hv))

theorem fpu3_gives (ht : floatType t = true) {d x y func : Nat} {f : Nat → Word64 → Word64 → Word64 → Word64} {v : Word64}
    (hv : f t (s.gpr l d) (s.gpr l x) (s.gpr l y) = v) :
    Completes (s.fpu3 l d x y t func f).done fun u => Ran s u l d v (s.pcPlus l 4) :=
  compute_gives h d _ _ ((if_pos ht).trans (congrArg _ hv))

variable (htraps : (s.task a.task).traps ≠ 2) (ht : floatType t = false)
include htraps ht

theorem fpu_traps {d x y func : Nat} {f : Nat → Word64 → Word64 → Word64} :
    Completes (s.fpu l d x y t func f).done fun u => Trapped s u l a 1 0 (encR 2 d x y t func) :=
  compute_traps h d htraps (if_neg (Bool.eq_false_iff.mp ht))

theorem fpu1_traps {d x func : Nat} {f : Nat → Word64 → Word64} :
    Completes (s.fpu1 l d x t func f).done fun u => Trapped s u l a 1 0 (encR 2 d x 0 t func) :=
  compute_traps h d htraps (if_neg (Bool.eq_false_iff.mp ht))

theorem fpu3_traps {d x y func : Nat} {f : Nat → Word64 → Word64 → Word64 → Word64} :
    Completes (s.fpu3 l d x y t func f).done fun u => Trapped s u l a 1 0 (encR 2 d x y t func) :=
  compute_traps h d htraps (if_neg (Bool.eq_false_iff.mp ht))

end

/-! #### NaN operands -/

theorem isNan_iff {v : FVal} : v.isNan = true ↔ v = .nan := by cases v <;> simp [FVal.isNan]

theorem isNan_or {u v : FVal} : (u.isNan || v.isNan) = true ↔ u = .nan ∨ v = .nan := by
  rw [Bool.or_eq_true, isNan_iff, isNan_iff]

theorem fAddVal_nan (t : Nat) {u v : FVal} (h : u = .nan ∨ v = .nan) : fAddVal t u v = fNan t := by
  rcases h with rfl | rfl
  · rfl
  · cases u <;> rfl

theorem fMulVal_nan {u v : FVal} (h : u = .nan ∨ v = .nan) : fMulVal u v = .nan := by
  rcases h with rfl | rfl
  · rfl
  · cases u <;> rfl

section
variable (t : Nat) {x y : Word64} (h : ((fVal t x).isNan || (fVal t y).isNan) = true)
include h

theorem fadd_nan : Fpu.add t x y = fNan t := fAddVal_nan t (isNan_or.mp h)

theorem fsub_nan : Fpu.sub t x y = fNan t :=
  fAddVal_nan t ((isNan_or.mp h).imp_right fun hy => by rw [hy]; rfl)

theorem fmul_nan : Fpu.mul t x y = fNan t := by rw [Fpu.mul, fMulVal_nan (isNan_or.mp h)]; rfl

theorem fdiv_nan : Fpu.div t x y = fNan t := by
  unfold Fpu.div
  rcases isNan_or.mp h with hx | hy
  · rw [hx]
  · rw [hy]
    cases fVal t x <;> rfl

end

theorem fsqrt_nan (t : Nat) {x : Word64} (h : (fVal t x).isNan = true) : Fpu.sqrt t x = fNan t := by
  unfold Fpu.sqrt
  rw [isNan_iff.mp h]

theorem fmac_nan (t : Nat) {z x y : Word64} (h : ((fVal t x).isNan || (fVal t y).isNan || (fVal t z).isNan) = true) :
    Fpu.mac t z x y = fNan t := by
  rw [Bool.or_eq_true, isNan_or, isNan_iff] at h
  exact fAddVal_nan t (h.imp_left fMulVal_nan)

theorem f2i_nan (near : Bool) (t : Nat) {x : Word64} (h : (fVal t x).isNan = true) : Fpu.f2i near t x = 0 := by
  unfold Fpu.f2i
  rw [isNan_iff.mp h]

/-- A result that a NaN decides. -/
theorem eq_ite_nan {c : Bool} {v n : Word64} (h : c = true → v = n) : v = if c then n else v := by
  split
  · next hc => exact h hc
  · rfl

theorem ordered_eq (t : Nat) (x y : Word64) : Fpu.ordered t x y = !((fVal t x).isNan || (fVal t y).isNan) :=
  (Bool.not_or _ _).symm

/-! #### The bits of a floating type -/

section
variable {t : Nat} (ht : t = 2 ∨ t = 3)
include ht

theorem fNan_eq : fNan t = if t = 2 then 0x7FC00000 else 0x7FF8000000000000 := by
  rcases ht with rfl | rfl <;> rfl

theorem fLow_eq (x : Word64) : fLow t x = x &&& (if t = 2 then 0xFFFFFFFF else 0xFFFFFFFFFFFFFFFF) := by
  have hmask : ∀ n : Nat, n ≤ 64 → BitVec.ofNat 64 (x.toNat % 2 ^ n) = x &&& BitVec.ofNat 64 (2 ^ n - 1) := fun n hn => by
    refine BitVec.eq_of_toNat_eq ?_
    have hle : 2 ^ n ≤ 2 ^ 64 := Nat.pow_le_pow_right (by decide) hn
    have hpos := Nat.two_pow_pos n
    have hlt : x.toNat % 2 ^ n < 2 ^ n := Nat.mod_lt _ hpos
    rw [BitVec.toNat_and, BitVec.toNat_ofNat, BitVec.toNat_ofNat, Nat.mod_eq_of_lt (a := 2 ^ n - 1) (by omega),
      Nat.and_two_pow_sub_one_eq_mod, Nat.mod_eq_of_lt (by omega)]
  rcases ht with rfl | rfl
  · exact hmask 32 (by decide)
  · exact hmask 64 (by decide)

theorem fSignBit_eq : BitVec.ofNat 64 (2 ^ (tyBits t - 1)) = if t = 2 then 0x80000000 else (0x8000000000000000 : Word64) := by
  rcases ht with rfl | rfl <;> rfl

theorem pick_eq (x y : Word64) (first : Bool) : Fpu.pick t x y first =
    if (fVal t x).isNan && (fVal t y).isNan then (if t = 2 then 0x7FC00000 else 0x7FF8000000000000)
    else if (fVal t x).isNan || !(fVal t y).isNan && !first then y &&& (if t = 2 then 0xFFFFFFFF else 0xFFFFFFFFFFFFFFFF)
    else x &&& (if t = 2 then 0xFFFFFFFF else 0xFFFFFFFFFFFFFFFF) := by
  rw [← fNan_eq ht, ← fLow_eq ht, ← fLow_eq ht]
  unfold Fpu.pick
  cases (fVal t x).isNan <;> cases (fVal t y).isNan <;> cases first <;> rfl

end

theorem floatType_eq_true {t : Nat} (ht : t = 2 ∨ t = 3) : floatType t = true := by
  rw [floatType, Bool.or_eq_true, beq_iff_eq, beq_iff_eq]
  exact ht

theorem floatType_eq_false {t : Nat} (ht : t ≠ 2 ∧ t ≠ 3) : floatType t = false := by
  rw [floatType, Bool.or_eq_false_iff, beq_eq_false_iff_ne, beq_eq_false_iff_ne]
  exact ht

/-- Settles O8: a floating type decides between the result and the trap, and a NaN operand between the quiet NaN and the exact
result. -/
theorem floatingResults : Obligations.FloatingResults := by
  unfold Obligations.FloatingResults
  intro s l a d x y t h p q gives low sign quiet nan any
  refine ⟨fun ht => ?_, fun ht htraps => ?_⟩
  · have hf : floatType t = true := floatType_eq_true ht
    have hquiet : fNan t = quiet := fNan_eq ht
    refine ⟨?_, ?_, ?_, ?_, ?_, ?_, ?_, ?_, ?_, ?_, ?_, ?_, ?_, ?_, ?_, ?_, ?_, ?_, ?_, ?_⟩
    · exact fpu_gives h hf (eq_ite_nan fun hn => (fadd_nan t hn).trans hquiet)
    · exact fpu_gives h hf (eq_ite_nan fun hn => (fsub_nan t hn).trans hquiet)
    · exact fpu_gives h hf (eq_ite_nan fun hn => (fmul_nan t hn).trans hquiet)
    · exact fpu_gives h hf (eq_ite_nan fun hn => (fdiv_nan t hn).trans hquiet)
    · exact fpu1_gives h hf (eq_ite_nan fun hn => (fsqrt_nan t hn).trans hquiet)
    · exact fpu1_gives h hf (by rw [Fpu.abs, fLow_eq ht, fSignBit_eq ht])
    · exact fpu1_gives h hf (by rw [Fpu.neg, fLow_eq ht, fSignBit_eq ht])
    · exact fpu_gives h hf (pick_eq ht p q _)
    · exact fpu_gives h hf (pick_eq ht p q _)
    · exact fpu3_gives h hf (eq_ite_nan fun hn => (fmac_nan t hn).trans hquiet)
    · exact fpu_gives h hf (by rw [Fpu.eq, tyBool_eq_truth, ordered_eq])
    · exact fpu_gives h hf (by rw [Fpu.lt, tyBool_eq_truth, ordered_eq])
    · exact fpu_gives h hf (by rw [Fpu.le, tyBool_eq_truth, ordered_eq])
    · exact fpu_gives h hf (by rw [Fpu.un, tyBool_eq_truth, ordered_eq, Bool.not_not])
    · exact fpu1_gives h hf (eq_ite_nan fun hn => f2i_nan true t hn)
    · exact fpu1_gives h hf (eq_ite_nan fun hn => f2i_nan false t hn)
    · exact fpu1_gives h hf rfl
    · exact fpu1_gives h hf rfl
    · exact fpu1_gives h hf rfl
    · exact fpu1_gives h hf rfl
  · have hf : floatType t = false := floatType_eq_false ht
    intro two one
    constructor
    · iterate 6 refine List.forall_mem_cons.mpr ⟨fpu_traps h htraps hf, ?_⟩
      refine List.forall_mem_cons.mpr ⟨fpu3_traps h htraps hf, ?_⟩
      iterate 4 refine List.forall_mem_cons.mpr ⟨fpu_traps h htraps hf, ?_⟩
      exact List.forall_mem_nil _
    · iterate 9 refine List.forall_mem_cons.mpr ⟨fpu1_traps h htraps hf, ?_⟩
      exact List.forall_mem_nil _

end Sys2Proof.Machine

namespace Sys2Proof.Machine

/-! ### Items stored and read (R149, R155) -/

theorem byte_setItem (s : State) {b n v : Nat} (hram : 0x40000 ≤ b) (i : Nat) :
    (s.setItem b n v).byte i = if b ≤ i ∧ i < b + n then (leBytes n v).getD (i - b) 0 else s.byte i := by
  rw [State.setItem, if_neg (Nat.not_lt.mpr hram), State.markStack]
  have hbytes := byte_setBytes (leBytes n v) s b i
  rw [length_leBytes] at hbytes
  split
  · exact hbytes
  · exact hbytes

theorem byte_setItem_out (s : State) {b n v i : Nat} (hram : 0x40000 ≤ b) (h : i < b ∨ b + n ≤ i) :
    (s.setItem b n v).byte i = s.byte i := by
  rw [byte_setItem s hram, if_neg (by omega)]

theorem bytes_eq_of_byte {s t : State} {b n : Nat} (h : ∀ i, b ≤ i → i < b + n → s.byte i = t.byte i) :
    s.bytes b n = t.bytes b n :=
  List.map_congr_left fun i hi => by
    rw [mem_upFrom] at hi
    exact h i hi.1 hi.2

theorem bytes_setItem_out (s : State) {b n v c k : Nat} (hram : 0x40000 ≤ b) (h : c + k ≤ b ∨ b + n ≤ c) :
    (s.setItem b n v).bytes c k = s.bytes c k :=
  bytes_eq_of_byte fun i hlo hhi => byte_setItem_out s hram (by omega)

theorem getElem_upFrom (b n i : Nat) (h : i < (upFrom b n).length) : (upFrom b n)[i] = b + i := by
  simp only [upFrom_eq_range', List.getElem_range', Nat.one_mul]

theorem bytes_setItem (s : State) {b n v : Nat} (hram : 0x40000 ≤ b) : (s.setItem b n v).bytes b n = leBytes n v := by
  refine List.ext_getElem ?_ fun i hi hi' => ?_
  · rw [State.bytes, List.length_map, length_upFrom, length_leBytes]
  · have hn : i < n := by simpa [State.bytes] using hi
    simp only [State.bytes, List.getElem_map, getElem_upFrom]
    rw [byte_setItem s hram, if_pos (by omega), Nat.add_sub_cancel_left, List.getD_eq_getElem _ _ hi']

/-- A part of the state that neither memory nor the marks of the stacks change. -/
theorem setItem_keeps {β : Type} (p : State → β) (hmem : ∀ (s : State) m, p { s with mem := m } = p s)
    (hstack : ∀ (s : State) x, p { s with prt := { s.prt with stack := x } } = p s) (s : State) (b n v : Nat) :
    p (s.setItem b n v) = p s := by
  unfold State.setItem State.markStack
  split
  · rfl
  · split
    · exact (hstack _ _).trans (setBytes_keeps p hmem _ s b)
    · exact setBytes_keeps p hmem _ s b

theorem touch_of_defined {s : State} {b n : Nat} (h : s.defined b n = true) : s.touch b n = s := if_pos h

/-! ### The stack of a lane (R154, R155) -/

theorem stackStart_ge (s : State) (l p : Nat) : 0x10C00000 ≤ s.stackStart l p := by
  unfold State.stackStart slice
  omega

theorem stackDenied_none {s : State} {a : Act} {x n : Nat} {write : Bool}
    (h : ∀ i < n, s.denied a.part ((x + 8 * i) % 2 ^ 64) write = none) : s.stackDenied a x n write = none := by
  refine List.findSome?_eq_none_iff.mpr fun i hi => ?_
  rw [mem_upFrom] at hi
  rw [h i (by omega), Option.map_none]

/-- Four accesses of a link record. -/
theorem stackDenied_link {s : State} {a : Act} {x : Nat} {write : Bool}
    (h : ∀ i ∈ [0, 8, 16, 24], s.denied a.part ((x + i) % 2 ^ 64) write = none) : s.stackDenied a x 4 write = none :=
  stackDenied_none fun i hi => by
    have hmem : 8 * i ∈ [0, 8, 16, 24] := by interval_cases i <;> decide
    exact h _ hmem

/-- A link record written at `f`. -/
def State.linkStored (s : State) (f ra ib sb : Nat) : State :=
  (((s.setItem f 8 ra).setItem (f + 8) 8 ib).setItem (f + 16) 8 sb).setItem (f + 24) 8 0

/-- Between `s` and `u` a link record was written at `f`, and no other byte of memory. -/
def Linked (s u : State) (f ra ib sb : Nat) : Prop :=
  u.bytes f 8 = leBytes 8 ra ∧ u.bytes (f + 8) 8 = leBytes 8 ib ∧ u.bytes (f + 16) 8 = leBytes 8 sb ∧
    u.bytes (f + 24) 8 = leBytes 8 0 ∧ ∀ y, y < f ∨ f + 32 ≤ y → u.byte y = s.byte y

theorem linkStored_linked (s : State) {f : Nat} (hram : 0x40000 ≤ f) (ra ib sb : Nat) :
    Linked s (s.linkStored f ra ib sb) f ra ib sb := by
  have h8 : 0x40000 ≤ f + 8 := by omega
  have h16 : 0x40000 ≤ f + 16 := by omega
  have h24 : 0x40000 ≤ f + 24 := by omega
  refine ⟨?_, ?_, ?_, ?_, fun y hy => ?_⟩
  · rw [State.linkStored, bytes_setItem_out _ h24 (by omega), bytes_setItem_out _ h16 (by omega),
      bytes_setItem_out _ h8 (by omega), bytes_setItem _ hram]
  · rw [State.linkStored, bytes_setItem_out _ h24 (by omega), bytes_setItem_out _ h16 (by omega), bytes_setItem _ h8]
  · rw [State.linkStored, bytes_setItem_out _ h24 (by omega), bytes_setItem _ h16]
  · rw [State.linkStored, bytes_setItem _ h24]
  · rw [State.linkStored, byte_setItem_out _ h24 (by omega), byte_setItem_out _ h16 (by omega),
      byte_setItem_out _ h8 (by omega), byte_setItem_out _ hram (by omega)]

theorem linkStored_keeps {β : Type} (p : State → β) (hmem : ∀ (s : State) m, p { s with mem := m } = p s)
    (hstack : ∀ (s : State) x, p { s with prt := { s.prt with stack := x } } = p s) (s : State) (f ra ib sb : Nat) :
    p (s.linkStored f ra ib sb) = p s := by
  have hitem := setItem_keeps p hmem hstack
  rw [State.linkStored, hitem, hitem, hitem, hitem]

end Sys2Proof.Machine

namespace Sys2Proof.Machine

/-! ### An instruction that retires after it has stored -/

/-- What the retirement of an instruction on lane `l` looks at. -/
def State.retireView (l : Nat) (s : State) := (s.lane l, s.pfc, s.lks.attached, s.red.queue)

section
variable {s t : State} {l : Nat} {a : Act} (h : s.Clean l a) (hview : t.retireView l = s.retireView l) (kinds : List Nat)
  (e : Engine)
include h hview

theorem retire_eq_setLane : ∃ x : Lane, x.eng = e ∧ t.retire l kinds e = t.setLane l x := by
  simp only [State.retireView, Prod.mk.injEq] at hview
  obtain ⟨hlane, hpfc, hattached, hqueue⟩ := hview
  refine ⟨_, ?_, retire_plain t l a kinds e (hlane ▸ h.act) (hpfc.trans h.counters) (hattached.trans h.attached)
    (hqueue.trans h.queue)⟩
  rfl

theorem retire_mem : (t.retire l kinds e).settle.mem = t.mem := by
  obtain ⟨x, -, heq⟩ := retire_eq_setLane h hview kinds e
  rw [heq, settle_mem]
  rfl

theorem retire_eng : ((t.retire l kinds e).settle.lane l).eng = e := by
  obtain ⟨x, rfl, heq⟩ := retire_eq_setLane h hview kinds e
  rw [heq, State.lane, settle_prt]
  exact congrArg (·.eng) (lane_setLane_same t l x)

theorem retire_linked {f ra ib sb : Nat} (hlink : Linked s t f ra ib sb) :
    Linked s (t.retire l kinds e).settle f ra ib sb := by
  have hbyte : ∀ i, (t.retire l kinds e).settle.byte i = t.byte i := fun i =>
    congrArg (SMap.get 0 i) (retire_mem h hview kinds e)
  have hbytes : ∀ c k, (t.retire l kinds e).settle.bytes c k = t.bytes c k := fun c k =>
    bytes_eq_of_byte fun i _ _ => hbyte i
  obtain ⟨h0, h8, h16, h24, hrest⟩ := hlink
  exact ⟨(hbytes _ _).trans h0, (hbytes _ _).trans h8, (hbytes _ _).trans h16, (hbytes _ _).trans h24,
    fun y hy => (hbyte y).trans (hrest y hy)⟩

end

/-! ### CALL, CALLFB and ENTER (R154) -/

section
variable {s : State} {l : Nat} {a : Act} (h : s.Clean l a) (halign : (s.lane l).eng.sb.toNat % 8 = 0)
  (hstart : s.stackStart l a.part + 32 ≤ (s.lane l).eng.sb.toNat)
include h halign hstart

omit h halign hstart in
/-- The one access to the size of a frame. -/
theorem stackDenied_size {k : Nat} {m : List (Nat × Nat)} {write : Bool}
    (hsize : s.denied a.part ((s.lane l).eng.sb.toNat - 8) write = none) :
    (s.fedBy k m).stackDenied a ((s.lane l).eng.sb.toNat - 8) 1 write = none :=
  stackDenied_none fun i hi => by
    have hsb := (s.lane l).eng.sb.isLt
    obtain rfl : i = 0 := by omega
    rw [Nat.mul_zero, Nat.add_zero, Nat.mod_eq_of_lt (by omega)]
    exact hsize

theorem call_completes {f : Nat} (w : Word) (n : Int) (ib : Engine → Word64)
    (hf : (s.lane l).eng.sb.toNat + s.item ((s.lane l).eng.sb.toNat - 8) 8 = f)
    (hsize : s.denied a.part ((s.lane l).eng.sb.toNat - 8) false = none)
    (hdefined : s.defined ((s.lane l).eng.sb.toNat - 8) 8 = true) (hf8 : f % 8 = 0)
    (hlimit : f + 64 ≤ s.stackLimit l a.part) (hcode : s.allows a.part 30 f = false)
    (hcode' : s.allows a.part 30 (f + 24) = false)
    (hwrite : ∀ i ∈ [0, 8, 16, 24], s.denied a.part ((f + i) % 2 ^ 64) true = none) :
    Completes (s.call l w n ib).done fun u =>
      Linked s u f (s.pcPlus l 4).toNat (s.lane l).eng.ib.toNat (s.lane l).eng.sb.toNat ∧
      (u.lane l).eng = { (s.lane l).eng with
        pc := s.pcPlus l 4 + 4 * BitVec.ofInt 40 n, sb := BitVec.ofNat 40 (f + 32), ib := ib (s.lane l).eng } := by
  have hstack := stackStart_ge s l a.part
  obtain ⟨k, m, heq⟩ := instr_clean h _
  have hread : (s.fedBy k m).stackDenied a ((s.lane l).eng.sb.toNat - 8) 1 false = none :=
    stackDenied_size hsize
  have hlink : (s.fedBy k m).stackDenied a f 4 true = none := stackDenied_link hwrite
  have hlane : (s.fedBy k m).lane l = s.lane l := rfl
  have hitem : (s.fedBy k m).item ((s.lane l).eng.sb.toNat - 8) 8 = s.item ((s.lane l).eng.sb.toNat - 8) 8 := rfl
  have htouch : (s.fedBy k m).touch ((s.lane l).eng.sb.toNat - 8) 8 = s.fedBy k m := touch_of_defined hdefined
  have hcalled : s.call l w n ib =
      ((s.fedBy k m).linkStored f (s.pcPlus l 4).toNat (s.lane l).eng.ib.toNat (s.lane l).eng.sb.toNat).retire l [1, 2, 4, 5]
        { (s.lane l).eng with
          pc := s.pcPlus l 4 + 4 * BitVec.ofInt 40 n, sb := BitVec.ofNat 40 (f + 32), ib := ib (s.lane l).eng } := by
    have hlim : ¬ (s.fedBy k m).stackLimit l a.part < f + 64 := Nat.not_lt.mpr hlimit
    have hx : ((s.fedBy k m).allows a.part 30 f || (s.fedBy k m).allows a.part 30 (f + 24)) = false :=
      Bool.or_eq_false_iff.mpr ⟨hcode, hcode'⟩
    rw [State.call, heq]
    simp only [hlane, halign, hread, htouch, hitem, hf, hf8, hlim, hx, hlink, bne_self_eq_false, Bool.false_eq_true, if_false,
      compare_fed h, ahead_succ]
    rfl
  have hview : ((s.fedBy k m).linkStored f (s.pcPlus l 4).toNat (s.lane l).eng.ib.toNat
      (s.lane l).eng.sb.toNat).retireView l = s.retireView l :=
    linkStored_keeps (State.retireView l) (fun _ _ => rfl) (fun _ _ => rfl) _ _ _ _ _
  rw [hcalled]
  refine ⟨_, rfl, retire_linked h hview _ _ ?_, retire_eng h hview _ _⟩
  exact linkStored_linked (s.fedBy k m) (by omega) _ _ _

theorem enter_completes {imm : Nat} (hlimit : (s.lane l).eng.sb.toNat + imm * 8 + 64 ≤ s.stackLimit l a.part)
    (hcode : s.allows a.part 30 ((s.lane l).eng.sb.toNat - 8) = false)
    (hwrite : s.denied a.part ((s.lane l).eng.sb.toNat - 8) true = none) :
    Completes (s.enter l imm).done fun u => Stored s u l ((s.lane l).eng.sb.toNat - 8) 8 (imm * 8) := by
  have hstack := stackStart_ge s l a.part
  have hram : 0x40000 ≤ (s.lane l).eng.sb.toNat - 8 := by omega
  obtain ⟨k, m, heq⟩ := instr_clean h _
  have hsize : (s.fedBy k m).stackDenied a ((s.lane l).eng.sb.toNat - 8) 1 true = none := stackDenied_size hwrite
  obtain ⟨t, ht⟩ : ∃ t, t = (s.fedBy k m).setItem ((s.lane l).eng.sb.toNat - 8) 8 (imm * 8) := ⟨_, rfl⟩
  have hkeeps : ∀ {β : Type} (p : State → β) (_ : ∀ (s : State) m, p { s with mem := m } = p s)
      (_ : ∀ (s : State) x, p { s with prt := { s.prt with stack := x } } = p s), p t = p (s.fedBy k m) :=
    fun p hmem hmarks => ht ▸ setItem_keeps p hmem hmarks _ _ _ _
  have hentered : s.enter l imm = t.retire l [1, 2, 5] { (s.lane l).eng with pc := s.pcPlus l 4 } := by
    have hlane : (s.fedBy k m).lane l = s.lane l := rfl
    have hlim : ¬ (s.fedBy k m).stackLimit l a.part < (s.lane l).eng.sb.toNat + imm * 8 + 64 := Nat.not_lt.mpr hlimit
    have hx : (s.fedBy k m).allows a.part 30 ((s.lane l).eng.sb.toNat - 8) = false := hcode
    rw [State.enter, heq, ht]
    simp only [hlane, halign, hlim, hx, hsize, bne_self_eq_false, Bool.false_eq_true, if_false, compare_fed h]
    rfl
  have hview : t.retireView l = s.retireView l := hkeeps (State.retireView l) (fun _ _ => rfl) fun _ _ => rfl
  obtain ⟨x, hx, hset⟩ := retire_eq_setLane h hview [1, 2, 5] { (s.lane l).eng with pc := s.pcPlus l 4 }
  rw [hentered, hset]
  have hmem : (t.setLane l x).settle.mem = t.mem := (settle_mem _).trans rfl
  have hlanes : ∀ j, (t.setLane l x).settle.lane j = (t.setLane l x).lane j := fun j => by
    rw [State.lane, settle_prt, State.lane]
  refine ⟨_, rfl, ?_, fun y hy => ?_, ?_, fun j hj => ?_, ⟨?_, ?_⟩, fun j hj => ?_⟩
  · refine (bytes_eq_of_byte fun i _ _ => congrArg (SMap.get 0 i) hmem).trans ?_
    rw [ht, bytes_setItem _ hram]
  · refine (congrArg (SMap.get 0 y) hmem).trans ?_
    rw [ht]
    exact byte_setItem_out _ hram hy
  · rw [hlanes, lane_setLane_same, hx]
  · rw [hlanes, lane_setLane_ne _ _ hj]
    exact hkeeps (fun s => s.lane j) (fun _ _ => rfl) fun _ _ => rfl
  · rw [settle_pts]
    exact hkeeps (·.pts) (fun _ _ => rfl) fun _ _ => rfl
  · rw [settle_outs]
    exact hkeeps (·.outs) (fun _ _ => rfl) fun _ _ => rfl
  · rw [settle_reg _ _ hj]
    exact hkeeps (fun s => s.reg j) (fun _ _ => rfl) fun _ _ => rfl

end

end Sys2Proof.Machine

namespace Sys2Proof.Machine

/-! ### A completed activation is counted (R28) -/

/-- What an activation's end shows in the performance counters, the lanes and the count of completed activations of task `t`. -/
def State.tally (t : Nat) (s : State) := (s.pfc, s.prt.lanes, s.reg (Reg.PRT_TACT t))

theorem tally_offBox (t : Nat) : OffBox (· ≠ Reg.PRT_TACT t) (State.tally t) where
  put s f v hf := congrArg (fun w => (s.pfc, s.prt.lanes, w)) (s.reg_put_ne f v (Ne.symm hf))
  mem _ _ := rfl
  box _ _ _ := rfl
  delivered _ _ := rfl
  item _ _ _ := rfl

section
variable {t : Nat}

theorem put_tally (s : State) {f : Fld} (v : Nat) (hf : f.key ≠ Reg.PRT_TACT t) : (s.put f v).tally t = s.tally t :=
  (tally_offBox t).put s f v hf

theorem forward_tally (s : State) (a : Act) (kind : Nat) (ws : List Word) : (s.forwardOf a kind ws).tally t = s.tally t :=
  forwardOf_keeps (State.tally t) (fun _ _ _ => rfl) s a kind ws

theorem instCommit_tally (s : State) (b : Nat) : (s.instCommit b).tally t = s.tally t := by
  have hword := setWord_keeps (State.tally t) fun _ _ => rfl
  rw [State.instCommit, State.setPair, hword, hword, hword, hword]

theorem mirrorCommit_tally (s : State) (u : Nat) : (s.mirrorCommit u).tally t = s.tally t := by
  unfold State.mirrorCommit
  split_ifs <;> rfl

theorem saveRetain_tally (s : State) (u : Nat) : (s.saveRetain u).tally t = s.tally t := by
  unfold State.saveRetain
  simp only
  split
  · rfl
  · exact setBytes_keeps (State.tally t) (fun _ _ => rfl) _ s _

theorem coldCommit_tally (s : State) (u : Nat) : (s.coldCommit u).tally t = s.tally t := by
  unfold State.coldCommit
  simp only
  split_ifs
  · exact put_tally (t := t) { s with red := _ } _ (by simp only [Fld.RED_ERR_ckpt_lost, Reg.RED_ERR, Reg.PRT_TACT]; omega)
  · rfl
  · rfl
  · rfl

/-- The debugger holds nothing of an activation that is not halted but what was left of a step count. -/
theorem endHalt_tally (s : State) {a : Act} (l : Nat) (hrun : a.halted = false) : (s.endHalt a l).tally t = s.tally t := by
  rw [State.endHalt, hrun, if_neg Bool.false_ne_true]
  split
  · rfl
  · rfl

theorem showTask_tally (s : State) (u : Nat) : (s.showTask u).tally t = s.tally t :=
  put_tally s _ (by simp only [Fld.PRT_TSTAT_state, Reg.PRT_TSTAT, Reg.PRT_TACT]; omega)

theorem showUsed_tally (s : State) (u used : Nat) : (s.showUsed u used).tally t = s.tally t :=
  put_tally s _ (by simp only [Fld.PRT_TBUD_last, Reg.PRT_TBUD, Reg.PRT_TACT]; omega)

theorem closeLull_tally (s : State) (ht : t < 512) : s.closeLull.tally t = s.tally t := by
  have hbox : ∀ m < 68, BoxKeys (· ≠ Reg.PRT_TACT t) m := fun m _ => by
    simp only [BoxKeys, Reg.MBX_RSP_HEAD, Reg.MBX_RSP_TAIL, Reg.MBX_STAT, Reg.PRT_TACT]
    omega
  have hred : ∀ (u : State) x y, ({ u with red := x, nv := y } : State).tally t = u.tally t := fun _ _ _ => rfl
  have hlull : Fld.RED_LULL_last.key ≠ Reg.PRT_TACT t ∧ Fld.RED_STATE_veer.key ≠ Reg.PRT_TACT t := by
    simp only [Fld.RED_LULL_last, Fld.RED_STATE_veer, Reg.RED_LULL, Reg.RED_STATE, Reg.PRT_TACT]
    omega
  unfold State.closeLull
  split
  · rfl
  · simp only
    rw [(tally_offBox t).notify hbox, hred, put_tally _ _ hlull.2, put_tally _ _ hlull.1]

end

/-- The completion counted, and what starts again for the task. -/
def State.countDone (s : State) (t : Nat) : State :=
  let s1 := (s.wrapInc (Fld.PRT_TACT_done t)).put (Fld.PRT_TSTAT_consec t) 0
  s1.setTask t { s1.task t with
    traps := 0, copying := true, oldPair := if (s1.task t).migrated then none else (s1.task t).oldPair, migrated := false }

/-- What follows the count: retained data, the budget used, and the marker for the partner. -/
def State.markDone (s : State) (a : Act) (l : Nat) : State :=
  let s1 := (if s.commits a.task % 100 == 0 then s.saveRetain a.task else s)
  let s2 := s1.showUsed a.task (s1.fld (Fld.PRT_RUNUSED_used l))
  let sig := s2.actSignature a.task
  if s2.led a || s2.taskCold a.task then s2
  else s2.forwardOf a fwMarker [wd l, wd a.task, s2.reg (Reg.PRT_TACT a.task), lo32 sig.toNat, hi32 sig.toNat]

/-- The activation leaves its lane. -/
def State.leaveLane (s : State) (a : Act) (l : Nat) : State := ((s.clearLane l).endHalt a l).showTask a.task

/-- A completion with no output image and no message taken. -/
theorem completeAct_eq {s : State} {l : Nat} {a : Act} (hact : (s.lane l).act = some a) (htaken : a.taken = [])
    (happ : (s.task a.task).app = none) : s.completeAct l =
      let u := ((((s.instCommit (s.taskInst a.task)).mirrorCommit a.task).countDone a.task).markDone a l).leaveLane a l
      if u.taskCold a.task then u else u.closeLull := by
  rw [State.completeAct, hact]
  simp only [happ, htaken]
  rfl

theorem markDone_tally (s : State) (a : Act) (l t : Nat) : (s.markDone a l).tally t = s.tally t := by
  obtain ⟨u, hu⟩ : ∃ u, u = if s.commits a.task % 100 == 0 then s.saveRetain a.task else s := ⟨_, rfl⟩
  have hsaved : u.tally t = s.tally t := by
    rw [hu]
    split
    · exact saveRetain_tally s _
    · rfl
  unfold State.markDone
  simp only
  rw [← hu]
  split
  · rw [showUsed_tally, hsaved]
  · rw [forward_tally, showUsed_tally, hsaved]

theorem countDone_pfc (s : State) (t : Nat) : (s.countDone t).pfc = s.pfc := rfl

theorem countDone_fld (s : State) (t : Nat) :
    (s.countDone t).fld (Fld.PRT_TACT_done t) = (s.fld (Fld.PRT_TACT_done t) + 1) % 2 ^ 32 := by
  have hkey : (Fld.PRT_TACT_done t).key ≠ (Fld.PRT_TSTAT_consec t).key := by
    simp only [Fld.PRT_TACT_done, Fld.PRT_TSTAT_consec, Reg.PRT_TACT, Reg.PRT_TSTAT]
    omega
  have hregs : (s.countDone t).regs = ((s.wrapInc (Fld.PRT_TACT_done t)).put (Fld.PRT_TSTAT_consec t) 0).regs := rfl
  rw [State.fld_congr hregs, State.fld_put_ne _ _ _ _ hkey]
  exact State.fld_put_same s _ _ (show 31 < 32 by decide)

theorem leaveLane_act (s : State) (a : Act) (l : Nat) : ((s.leaveLane a l).lane l).act = none :=
  (endHalt_keeps (fun s => (s.lane l).act) (fun _ _ _ => rfl) (fun _ _ => rfl) _ _ _).trans (clearLane_act _ _)

theorem leaveLane_done (t : Nat) (s : State) {a : Act} (hrun : a.halted = false) (l : Nat) :
    (s.leaveLane a l).pfc = s.pfc ∧ (s.leaveLane a l).reg (Reg.PRT_TACT t) = s.reg (Reg.PRT_TACT t) := by
  have hleft : (s.leaveLane a l).tally t = (s.clearLane l).tally t := by
    rw [State.leaveLane, showTask_tally, endHalt_tally _ _ hrun]
  have hkeys : (Fld.PRT_RUN_busy l).key ≠ Reg.PRT_TACT t ∧ (Fld.PRT_RUN_task l).key ≠ Reg.PRT_TACT t ∧
      (Fld.PRT_RUNUSED_used l).key ≠ Reg.PRT_TACT t := by
    simp only [Fld.PRT_RUN_busy, Fld.PRT_RUN_task, Fld.PRT_RUNUSED_used, Reg.PRT_RUN, Reg.PRT_RUNUSED, Reg.PRT_TACT]
    omega
  have hfreed : ∀ (u : State) x y, ({ u with sys := x, prt := y } : State).reg (Reg.PRT_TACT t) = u.reg (Reg.PRT_TACT t) :=
    fun _ _ _ => rfl
  obtain ⟨hbusy, htask, hused⟩ := hkeys
  simp only [State.tally, Prod.mk.injEq] at hleft
  obtain ⟨hpfc, -, hreg⟩ := hleft
  refine ⟨hpfc, hreg.trans ?_⟩
  rw [State.clearLane, State.reg_put_ne _ _ _ hused.symm, State.reg_put_ne _ _ _ htask.symm,
    State.reg_flag_ne _ _ _ hbusy.symm]
  rfl

end Sys2Proof.Machine

namespace Sys2Proof.Machine

theorem fld_of_tally {s u : State} {t : Nat} (h : u.tally t = s.tally t) :
    u.fld (Fld.PRT_TACT_done t) = s.fld (Fld.PRT_TACT_done t) :=
  congrArg (fun x : List (Nat × PfcCnt) × List (Nat × Lane) × Word => bits x.2.2 31 0) h

section
variable {s : State} {l : Nat} {a : Act} (hact : (s.lane l).act = some a) (htaken : a.taken = [])
  (happ : (s.task a.task).app = none) (hrun : a.halted = false) (ht : a.task < 512)
include hact htaken happ hrun ht

/-- The lane is free, and the activation is counted. -/
theorem completeAct_shows : ((s.completeAct l).lane l).act = none ∧ (s.completeAct l).pfc = s.pfc ∧
    (s.completeAct l).fld (Fld.PRT_TACT_done a.task) = (s.fld (Fld.PRT_TACT_done a.task) + 1) % 2 ^ 32 := by
  obtain ⟨w, hw⟩ : ∃ w, w = (s.instCommit (s.taskInst a.task)).mirrorCommit a.task := ⟨_, rfl⟩
  have hcommit : w.tally a.task = s.tally a.task := by rw [hw, mirrorCommit_tally, instCommit_tally]
  have hmark := markDone_tally (w.countDone a.task) a l a.task
  obtain ⟨hpfc, hdone⟩ := leaveLane_done a.task ((w.countDone a.task).markDone a l) hrun l
  have hact' := leaveLane_act ((w.countDone a.task).markDone a l) a l
  obtain ⟨u, hu⟩ : ∃ u, u = ((w.countDone a.task).markDone a l).leaveLane a l := ⟨_, rfl⟩
  have hcompleted : (s.completeAct l).tally a.task = u.tally a.task := by
    rw [completeAct_eq hact htaken happ, ← hw, ← hu]
    simp only
    split
    · rfl
    · exact closeLull_tally u ht
  rw [← hu] at hpfc hdone hact'
  have hcount : u.fld (Fld.PRT_TACT_done a.task) = (w.fld (Fld.PRT_TACT_done a.task) + 1) % 2 ^ 32 := by
    rw [← countDone_fld, ← fld_of_tally hmark]
    exact congrArg (bits · 31 0) hdone
  refine ⟨?_, ?_, ?_⟩
  · rw [State.lane, show (s.completeAct l).prt.lanes = u.prt.lanes from congrArg (·.2.1) hcompleted]
    exact hact'
  · rw [show (s.completeAct l).pfc = u.pfc from congrArg (·.1) hcompleted, hpfc,
      show ((w.countDone a.task).markDone a l).pfc = (w.countDone a.task).pfc from congrArg (·.1) hmark, countDone_pfc]
    exact congrArg (·.1) hcommit
  · rw [fld_of_tally hcompleted, hcount, fld_of_tally hcommit]

/-- What follows a completion with no output image changes neither. -/
theorem finishAct_shows (hpfc : s.pfc = []) : ((s.finishAct l).lane l).act = none ∧
    (s.finishAct l).fld (Fld.PRT_TACT_done a.task) = (s.fld (Fld.PRT_TACT_done a.task) + 1) % 2 ^ 32 := by
  obtain ⟨hfree, hcounters, hcount⟩ := completeAct_shows hact htaken happ hrun ht
  obtain ⟨u, hu⟩ : ∃ u, u = s.completeAct l := ⟨_, rfl⟩
  rw [← hu] at hfree hcounters hcount
  have hfinished : (s.finishAct l).tally a.task = u.tally a.task := by
    rw [State.finishAct, hact]
    simp only [happ, Option.getD_none, List.foldl_nil]
    rw [← hu, pfcEvent_none u (hcounters.trans hpfc)]
    split
    · exact (coldCommit_tally _ _).trans rfl
    · rfl
  refine ⟨?_, (fld_of_tally hfinished).trans hcount⟩
  rw [State.lane, show (s.finishAct l).prt.lanes = u.prt.lanes from congrArg (·.2.1) hfinished]
  exact hfree

end

theorem requestCompletion_eq {s : State} {l : Nat} {a : Act} (hact : (s.lane l).act = some a) (hled : s.led a = false)
    (hawaits : s.awaits a = false) : s.requestCompletion l = s.finishAct l := by
  rw [State.requestCompletion, hact]
  simp only [hled, hawaits, Bool.false_eq_true, if_false, ite_self]

/-- The count of completed activations stands in no mirror. -/
theorem plainReg_tact {t : Nat} (ht : t < 512) : plainReg (Reg.PRT_TACT t) = true := by
  rw [plainReg, List.all_eq_true]
  intro g hg
  have hkey : g.key < 0x18000 ∨ 0x20000 ≤ g.key := by
    revert g
    decide
  rw [bne_iff_ne, Reg.PRT_TACT]
  omega

theorem settle_done (s : State) {t : Nat} (ht : t < 512) :
    s.settle.fld (Fld.PRT_TACT_done t) = s.fld (Fld.PRT_TACT_done t) :=
  congrArg (bits · 31 0) (settle_reg s _ (plainReg_tact ht))

/-! ### RET (R154) -/

section
variable {s : State} {l : Nat} {a : Act} (h : s.Clean l a) (halign : (s.lane l).eng.sb.toNat % 8 = 0)
  (hstart : s.stackStart l a.part + 32 ≤ (s.lane l).eng.sb.toNat)
  (hlimit : (s.lane l).eng.sb.toNat ≤ s.stackLimit l a.part)
  (hread : ∀ i ∈ [0, 8, 16, 24], s.denied a.part ((s.lane l).eng.sb.toNat - 32 + i) false = none)
  (hdefined : ∀ i ∈ [0, 8, 16, 24], s.defined ((s.lane l).eng.sb.toNat - 32 + i) 8 = true)
include h halign hstart hlimit hread hdefined

/-- A link record that can be read: its return address decides between the caller and the completion. -/
theorem ret_eq : ∃ k m, s.ret l =
    if s.item ((s.lane l).eng.sb.toNat - 32) 8 = 0 then
      ((s.fedBy k m).retire l [4, 5, 7] (s.lane l).eng).requestCompletion l
    else (s.fedBy k m).retire l [4, 5] { (s.lane l).eng with
      pc := BitVec.ofNat 40 (s.item ((s.lane l).eng.sb.toNat - 32) 8)
      ib := BitVec.ofNat 64 (s.item ((s.lane l).eng.sb.toNat - 24) 8)
      sb := BitVec.ofNat 40 (s.item ((s.lane l).eng.sb.toNat - 16) 8) } := by
  have hsb := (s.lane l).eng.sb.isLt
  have hstack := stackStart_ge s l a.part
  obtain ⟨k, m, heq⟩ := instr_clean h _
  refine ⟨k, m, ?_⟩
  have hlane : (s.fedBy k m).lane l = s.lane l := rfl
  have hinside : ¬ ((s.lane l).eng.sb.toNat < (s.fedBy k m).stackStart l a.part + 32 ∨
      (s.fedBy k m).stackLimit l a.part < (s.lane l).eng.sb.toNat) :=
    not_or.mpr ⟨Nat.not_lt.mpr hstart, Nat.not_lt.mpr hlimit⟩
  have hlink : (s.fedBy k m).stackDenied a ((s.lane l).eng.sb.toNat - 32) 4 false = none :=
    stackDenied_link fun i hi => by
      have hi24 : i ≤ 24 := by revert i; decide
      rw [Nat.mod_eq_of_lt (by omega)]
      exact hread i hi
  have htouch : ∀ i j, i ∈ [0, 8, 16, 24] → (s.lane l).eng.sb.toNat - 32 + i = j →
      (s.fedBy k m).touch j 8 = s.fedBy k m := fun i j hi hj => touch_of_defined (hj ▸ hdefined i hi)
  rw [State.ret, heq]
  simp only [hlane, halign, hinside, hlink, bne_self_eq_false, Bool.false_eq_true, if_false,
    htouch 0 ((s.lane l).eng.sb.toNat - 32) (by decide) (by omega),
    htouch 8 ((s.lane l).eng.sb.toNat - 24) (by decide) (by omega),
    htouch 16 ((s.lane l).eng.sb.toNat - 16) (by decide) (by omega),
    htouch 24 ((s.lane l).eng.sb.toNat - 8) (by decide) (by omega), compare_fed h]
  have hitem : ∀ b, (s.fedBy k m).item b 8 = s.item b 8 := fun _ => rfl
  simp only [hitem]
  split
  · rfl
  · rfl

theorem ret_returns (hcaller : s.item ((s.lane l).eng.sb.toNat - 32) 8 ≠ 0) :
    Completes (s.ret l).done fun u => u.mem = s.mem ∧ (u.lane l).eng = { (s.lane l).eng with
      pc := BitVec.ofNat 40 (s.item ((s.lane l).eng.sb.toNat - 32) 8)
      ib := BitVec.ofNat 64 (s.item ((s.lane l).eng.sb.toNat - 24) 8)
      sb := BitVec.ofNat 40 (s.item ((s.lane l).eng.sb.toNat - 16) 8) } := by
  obtain ⟨k, m, heq⟩ := ret_eq h halign hstart hlimit hread hdefined
  rw [if_neg hcaller] at heq
  rw [heq]
  have hview : (s.fedBy k m).retireView l = s.retireView l := rfl
  exact ⟨_, rfl, retire_mem h hview _ _, retire_eng h hview _ _⟩

theorem ret_completes (hroot : s.item ((s.lane l).eng.sb.toNat - 32) 8 = 0) (hawaits : s.awaits a = false)
    (htaken : a.taken = []) (happ : (s.task a.task).app = none) (ht : a.task < 512) :
    Completes (s.ret l).done fun u => (u.lane l).act = none ∧
      u.fld (Fld.PRT_TACT_done a.task) = (s.fld (Fld.PRT_TACT_done a.task) + 1) % 2 ^ 32 := by
  obtain ⟨k, m, heq⟩ := ret_eq h halign hstart hlimit hread hdefined
  rw [if_pos hroot, retire_clean h] at heq
  refine ⟨_, rfl, ?_⟩
  obtain ⟨b, hb⟩ : ∃ b : Act, b = { a with count := a.count + 1, since := 0 } := ⟨_, rfl⟩
  obtain ⟨t, htold⟩ : ∃ t, t = (s.fedBy k m).setLane l { s.lane l with act := some b } := ⟨_, rfl⟩
  have hact : (t.lane l).act = some b := by rw [htold, lane_setLane_same]
  have hended : s.ret l = t.finishAct l := by
    rw [heq, ← requestCompletion_eq hact (by rw [htold, hb]; exact h.own) (by rw [htold, hb]; exact hawaits), htold, hb]
    rfl
  have htask : b.task = a.task := by rw [hb]
  have hfld : t.fld (Fld.PRT_TACT_done a.task) = s.fld (Fld.PRT_TACT_done a.task) := by rw [htold]; rfl
  have hdone := finishAct_shows hact (by rw [hb]; exact htaken) (by rw [htold, hb]; exact happ) (by rw [hb]; exact h.halted)
    (by rw [hb]; exact ht) (by rw [htold]; exact h.counters)
  rw [htask, hfld] at hdone
  obtain ⟨hfree, hcount⟩ := hdone
  rw [hended]
  constructor
  · rw [State.lane, settle_prt]
    exact hfree
  · rw [settle_done _ ht]
    exact hcount

end

/-- Settles O11: where the conditions hold, each instruction stores, or reads, its link record and retires; the root frame's return
is the completion. -/
theorem callsAndFrames : Obligations.CallsAndFrames := by
  unfold Obligations.CallsAndFrames
  intro s l a x far disp imm h e sb f halign hstart
  refine ⟨?_, ?_, ?_⟩
  · intro hsize hdefined hf8 hlimit hcode hcode' hwrite rec_
    constructor
    · exact call_completes h halign hstart _ _ (fun e => e.ib) rfl hsize hdefined hf8 hlimit hcode hcode' hwrite
    · exact call_completes h halign hstart _ _ (fun e => e.get x) rfl hsize hdefined hf8 hlimit hcode hcode' hwrite
  · exact fun hlimit hcode hwrite => enter_completes h halign hstart hlimit hcode hwrite
  · intro hlimit hread hdefined
    constructor
    · exact fun hcaller => ret_returns h halign hstart hlimit hread hdefined hcaller
    · exact fun hroot hawaits htaken happ ht => ret_completes h halign hstart hlimit hread hdefined hroot hawaits htaken happ ht

end Sys2Proof.Machine

namespace Sys2Proof.Machine

/-! ### PRES_S opened at a module that cannot yield (R213, R225, R235) -/

/-- PRES_S opened at an ACTIVE module that cannot yield is recorded, and the module stays where it is. -/
theorem presOpen_mode_of_cannotYield {s : State} (hm : s.mode = mActive) (hy : s.canYield = false) :
    s.presOpen.mode = mActive := by
  obtain ⟨t, ht⟩ : ∃ t, t = { s with sys := { s.sys with pins := { s.sys.pins with presS := false, seated := false } } } :=
    ⟨_, rfl⟩
  have hmode : t.mode = mActive := by rw [ht]; exact hm
  have hyield : t.canYield = false := by rw [ht]; exact hy
  have recorded : s.presOpen = t.note 3 235 0 := by
    unfold State.presOpen
    rw [← ht]
    simp [hyield, hmode, mActive, mStandby, mResync]
  rw [recorded]
  exact hmode

/-- Refutes O31: no claim stands above 0xFFFF_FFFE (R213), so a module that drives it cannot yield (R225) and stays ACTIVE when
PRES_S opens, although its partner is in STANDBY. -/
theorem not_resynchronisationAndContacts : ¬ Obligations.ResynchronisationAndContacts := by
  intro h
  obtain ⟨-, -, -, -, -, -, -, -, -, opens, -⟩ := h State.highestClaim 0 0 0
  obtain ⟨u, ran, boot, -⟩ := opens (by decide) highestClaim_atRest (by decide) (by decide) (by decide)
  obtain rfl : State.highestClaim.presOpen.settle = u := Host.Outcome.next.inj ran
  rw [settle_mode, presOpen_mode_of_cannotYield (by decide) (by decide)] at boot
  exact absurd boot (by decide)

end Sys2Proof.Machine

namespace Sys2Proof.Machine

/-! ### A ring's cycle at a module that has become leeward (R226, R450) -/

/-- The end of a cycle that a leeward module sent while it was windward, with no unit configured: nothing to read. -/
theorem ringEnd_of_leeward {s : State} {r : Nat} (hl : s.leeward = true) (hend : (s.rioRing r).tk + 110000 ≤ s.time)
    (hu : s.ringUnits r = []) (rep : RingReport) : s.ringEnd r rep = s := by
  have waited : s.runUntil ((s.rioRing r).tk + 110000) = s := if_pos hend
  unfold State.ringEnd
  simp only [hl, if_true, waited, hu, List.foldl_nil]

/-- A report of a cycle of which nothing returned. -/
def RingReport.nothing : RingReport := ⟨[], 0, 0, false, false, false, false, 0⟩

/-- A module that entered STANDBY after it began a cycle of ring 0 (R226), at the instant at which that cycle ends. -/
def State.formerMaster : State :=
  ({ State.reset with time := 110000, rio := { State.reset.rio with rings := [(0, { sent := true })] } } : State).put
    Fld.SYS_MODE_mode mStandby

theorem formerMaster_ringUnits : State.formerMaster.ringUnits 0 = [] := by decide +kernel

/-- Refutes O48: a leeward module leaves the judgement of its rings to the windward one (R450), so the end of a cycle that it sent
before it entered STANDBY does not declare the ring down, although neither copy returned. -/
theorem not_remoteUnitsAndRings : ¬ Obligations.RemoteUnitsAndRings := by
  intro h
  obtain ⟨cycle, -⟩ := h State.formerMaster 0 0
  obtain ⟨-, -, judged⟩ := cycle RingReport.nothing
  obtain ⟨u, ran, down, -⟩ := judged (by decide) rfl rfl
  have unjudged := ringEnd_of_leeward (s := State.formerMaster) (r := 0) (by decide) (by decide) formerMaster_ringUnits
    RingReport.nothing
  obtain rfl : (State.formerMaster.ringEnd 0 RingReport.nothing).settle = u := Host.Outcome.next.inj ran
  rw [settle_fld _ _ (by decide), unjudged] at down
  exact absurd down (by decide)

end Sys2Proof.Machine

namespace Sys2Proof.Machine

/-! ### Parts of the state that a stage's claims do not touch (R215, R399) -/

/-- A register of the field side: of FIO or of SAF. -/
def fieldKey (k : Nat) : Bool := k / 65536 == 9 || k / 65536 == 11

/-- The registers that a channel of unit 5, 6 or 7 shows. -/
def shownKeys (c : Nat) : List Nat :=
  [Reg.FIO_AO_SET c, Reg.FIO_AO_RB c, Reg.FIO_AO_STAT c, Reg.FIO_AO_COMP c, Reg.FIO_HB_STAT c, Reg.FIO_HB_CUR c,
   Reg.FIO_HB_SET c, Reg.FIO_ENC_STAT (c - 4), Reg.FIO_ENC_POS_HI (c - 4), Reg.FIO_ENC_POS_LO (c - 4), Reg.FIO_PK_STAT (c - 6),
   Reg.FIO_PK_FREQ (c - 6), Reg.SAF_CH c]

theorem shownKeys_field : ∀ c < 16, ∀ k ∈ shownKeys c, fieldKey k = true := by decide

/-- What a step for each of the first `n` numbers keeps, the fold over them keeps. -/
theorem foldl_upFrom_keeps {β : Type} (p : State → β) {n : Nat} {f : State → Nat → State}
    (hf : ∀ s, ∀ c < n, p (f s c) = p s) (s : State) : p ((upFrom 0 n).foldl f s) = p s := by
  refine foldl_relates (R := fun s t => p t = p s) (fun _ => rfl) (fun hst htu => htu.trans hst) (fun s c hc => ?_) s
  rw [mem_upFrom] at hc
  exact hf s c (by omega)

/-- A part of the state that neither a register of the field side, a live image, FIO's own records nor a stage's record changes. -/
structure OffField {β : Type} (p : State → β) : Prop where
  setReg : ∀ (s : State) k v, fieldKey k = true → p (s.setReg k v) = p s
  pts : ∀ (s : State) x, p { s with pts := x } = p s
  fio : ∀ (s : State) x, p { s with fio := x } = p s
  stage : ∀ (s : State) u x, p (s.setStage u x) = p s

namespace OffField
variable {β : Type} {p : State → β} (h : OffField p)
include h

theorem put (s : State) (f : Fld) (v : Nat) (hf : fieldKey f.key = true) : p (s.put f v) = p s := h.setReg s _ _ hf
theorem putBit (s : State) (f : Fld) (n : Nat) (b : Bool) (hf : fieldKey f.key = true) : p (s.putBit f n b) = p s :=
  h.put s _ _ hf

theorem setField (s : State) (u c n : Nat) (v : Int) (q t : Nat) : p (s.setField u c n v q t) = p s := by
  unfold State.setField
  simp only
  split
  · exact h.pts s _
  · exact (h.pts _ _).trans (h.pts s _)

theorem showPoint (s : State) (u c n : Nat) (v : Int) (t : Nat) : p (s.showPoint u c n v t) = p s := by
  unfold State.showPoint
  simp only
  split
  · exact h.setField s _ _ _ _ _ _
  · exact h.setField s _ _ _ _ _ _

theorem showStatus (s : State) (u c n : Nat) (st : Word) : p (s.showStatus u c n st) = p s := h.setField s _ _ _ _ _ _

theorem showChan_do (s : State) {u : Nat} (hu : u = 2 ∨ u = 3) (c : Nat) : p (s.showChan u c) = p s := by
  have hs : fieldKey (Reg.FIO_DO_STATE u) = true := by rcases hu with rfl | rfl <;> rfl
  have hf : fieldKey (Reg.FIO_DO_FAULT u) = true := by rcases hu with rfl | rfl <;> rfl
  have hlow : ¬ u ≤ 1 := by omega
  have hdo : u ≤ 3 := by omega
  unfold State.showChan
  simp only [hlow, hdo, if_false, if_true]
  split
  · simp only [h.showStatus, h.showPoint]
  · simp only [h.putBit _ (Fld.FIO_DO_STATE_driving u) _ _ hs, h.putBit _ (Fld.FIO_DO_STATE_readback u) _ _ hs,
      h.putBit _ (Fld.FIO_DO_STATE_pending u) _ _ hs, h.putBit _ (Fld.FIO_DO_STATE_applied u) _ _ hs,
      h.putBit _ (Fld.FIO_DO_FAULT_latched u) _ _ hf, h.putBit _ (Fld.FIO_DO_FAULT_mismatch u) _ _ hf,
      h.putBit _ (Fld.FIO_DO_FAULT_open u) _ _ hf, h.showStatus, h.showPoint]

theorem showChan_ao (s : State) {c : Nat} (hc : c < 16) : p (s.showChan 5 c) = p s := by
  have key := shownKeys_field c hc
  simp only [shownKeys, List.forall_mem_cons] at key
  obtain ⟨hset, hrb, hstat, hcomp, -⟩ := key
  unfold State.showChan
  simp only [show ¬ (5 : Nat) ≤ 1 by omega, show ¬ (5 : Nat) ≤ 3 by omega, show (5 : Nat) ≠ 4 by omega, if_false, if_true]
  simp only [h.putBit _ Fld.FIO_AO_STATE_driving _ _ rfl, h.putBit _ Fld.FIO_AO_STATE_mismatch _ _ rfl,
    h.putBit _ Fld.FIO_AO_STATE_heldoff _ _ rfl, h.putBit _ Fld.FIO_AO_STATE_silence _ _ rfl,
    h.put _ (Fld.FIO_AO_STAT_status c) _ hstat, h.put _ (Fld.FIO_AO_STAT_stage c) _ hstat, h.put _ (Fld.FIO_AO_COMP_mv c) _ hcomp,
    h.put _ (Fld.FIO_AO_COMP_temp c) _ hcomp, h.setReg _ _ _ hset, h.setReg _ _ _ hrb, h.showStatus, h.showPoint]

theorem showChan_unit6 (s : State) {c : Nat} (hc : c < 16) : p (s.showChan 6 c) = p s := by
  have key := shownKeys_field c hc
  simp only [shownKeys, List.forall_mem_cons] at key
  obtain ⟨-, -, -, -, hstat, hcur, hset, hestat, hehi, helo, hpstat, hpfreq, -⟩ := key
  unfold State.showChan
  simp only [show ¬ (6 : Nat) ≤ 1 by omega, show ¬ (6 : Nat) ≤ 3 by omega, show (6 : Nat) ≠ 4 by omega,
    show (6 : Nat) ≠ 5 by omega, show (6 : Nat) ≠ 7 by omega, true_and, if_false]
  split_ifs
  · simp only [h.put _ (Fld.FIO_HB_STAT_status c) _ hstat, h.put _ (Fld.FIO_HB_STAT_stage c) _ hstat, h.setReg _ _ _ hcur,
      h.setReg _ _ _ hset, h.showStatus, h.showPoint]
  · simp only [h.put _ (Fld.FIO_ENC_STAT_status (c - 4)) _ hestat, h.setReg _ _ _ hehi, h.setReg _ _ _ helo, h.showStatus,
      h.showPoint]
  · simp only [h.put _ (Fld.FIO_ENC_STAT_status (c - 4)) _ hestat, h.showStatus, h.showPoint]
  · simp only [h.put _ (Fld.FIO_PK_STAT_status (c - 6)) _ hpstat, h.setReg _ _ _ hpfreq, h.showStatus, h.showPoint]
  · rfl

theorem showChan_unit7 (s : State) {c : Nat} (hc : c < 16) : p (s.showChan 7 c) = p s := by
  have key : fieldKey (Reg.SAF_CH c) = true := shownKeys_field c hc _ (by simp [shownKeys])
  unfold State.showChan
  simp only [show ¬ (7 : Nat) ≤ 1 by omega, show ¬ (7 : Nat) ≤ 3 by omega, show (7 : Nat) ≠ 4 by omega,
    show (7 : Nat) ≠ 5 by omega, show (7 : Nat) ≠ 6 by omega, false_and, if_false, if_true]
  exact (h.setReg _ _ _ key).trans ((h.showStatus _ _ _ _ _).trans (h.showPoint s _ _ _ _ _))

theorem setChan (s : State) (u c : Nat) (x : FChan) : p (s.setChan u c x) = p s := h.fio s _

theorem setGustQueue (s : State) (u : Nat) (q : List Nat) : p (s.setGustQueue u q) = p s := h.fio s _

theorem putChan_do (s : State) {u : Nat} (hu : u = 2 ∨ u = 3) (c : Nat) (x : FChan) : p (s.putChan u c x) = p s :=
  (h.showChan_do _ hu c).trans (h.setChan s u c x)

theorem doSwitch (s : State) {u : Nat} (hu : u = 2 ∨ u = 3) (c : Nat) (on : Bool) : p (s.doSwitch u c on) = p s := by
  unfold State.doSwitch
  simp only
  split
  · exact (h.fio _ _).trans (h.putChan_do s hu _ _)
  · exact h.putChan_do s hu _ _

theorem doRelease {u : Nat} (hu : u = 2 ∨ u = 3) (k : Nat) (s : State) : p (s.doRelease u k) = p s := by
  have hgust : fieldKey (Fld.FIO_DO_GUST_delayed u).key = true := by rcases hu with rfl | rfl <;> rfl
  induction k generalizing s with
  | zero => rfl
  | succ k ih =>
    unfold State.doRelease
    split
    · rfl
    · split
      · exact (ih _).trans ((h.doSwitch _ hu _ _).trans (h.setGustQueue s _ _))
      · refine foldl_keeps p _ (fun s c => ?_) _ s
        simp only
        split
        · rfl
        · exact (h.putChan_do _ hu _ _).trans (h.put s _ _ hgust)

theorem doUpdate (s : State) {u : Nat} (hu : u = 2 ∨ u = 3) : p (s.doUpdate u) = p s := by
  refine (h.doRelease hu _ _).trans (foldl_keeps p _ (fun s c => ?_) _ s)
  simp only
  split_ifs
  · exact (h.doSwitch _ hu _ _).trans (h.setGustQueue s _ _)
  · exact h.doSwitch s hu _ _
  · exact (h.showChan_do _ hu _).trans (h.setGustQueue s _ _)
  · exact h.showChan_do s hu _
  · exact (h.putChan_do _ hu _ _).trans (h.setGustQueue s _ _)
  · exact h.showChan_do s hu _

theorem applyStage (s : State) (u : Nat) : p (s.applyStage u) = p s := by
  unfold State.applyStage
  split_ifs with hdo
  · exact h.doUpdate s hdo
  · exact foldl_upFrom_keeps p (fun s c hc => (h.showChan_ao _ (by omega)).trans (h.setChan s _ _ _)) s
  · refine (foldl_upFrom_keeps p (fun s c (hc : c < 8) => h.showChan_unit6 s (by omega)) _).trans
      (foldl_upFrom_keeps p (fun s c hc => ?_) s)
    split
    · exact (h.showChan_unit6 _ (by omega)).trans (h.setChan s _ _ _)
    · exact h.showChan_unit6 s (by omega)
  · exact foldl_upFrom_keeps p (fun s c hc => (h.showChan_unit7 _ (by omega)).trans (h.setChan s _ _ _)) s
  · rfl

theorem stageMode (s : State) (u m : Nat) : p (s.stageMode u m) = p s :=
  (h.applyStage _ u).trans ((h.putBit _ Fld.FIO_LINK_silence _ _ rfl).trans (h.stage s u _))

theorem evalStage (s : State) (u : Nat) : p (s.evalStage u) = p s := by
  unfold State.evalStage
  simp only
  split_ifs
  all_goals simp only [h.stageMode, h.stage]

theorem countLow (s : State) {u : Nat} (hu : u < 9) (old new : Word) : p (s.countLow u old new) = p s := by
  have hlow : fieldKey (Fld.FIO_LOWCLAIM_count u).key = true := (by decide : ∀ u < 9, fieldKey (Reg.FIO_LOWCLAIM u) = true) u hu
  unfold State.countLow
  split
  · exact h.put s _ _ hlow
  · rfl

theorem claimFrame (s : State) {u : Nat} (hu : u < 9) (mine : Bool) (claim : Word) : p (s.claimFrame u mine claim) = p s := by
  unfold State.claimFrame
  simp only
  split
  · rfl
  · exact (h.evalStage _ u).trans ((h.stage _ u _).trans (h.countLow s hu _ _))

end OffField
end Sys2Proof.Machine

namespace Sys2Proof.Machine

/-! ### A message shown on any request ring (R76, R209) -/

theorem requestKeys : ∀ m < 68, Reg.MBX_REQ_HEAD m / 65536 = 2 ∧ Reg.MBX_REQ_TAIL m / 65536 = 2 ∧ Reg.MBX_STAT m / 65536 = 2 ∧
    Reg.MBX_DOORBELL (m / 32) / 65536 = 2 := by decide

theorem heard_seen (s : State) {m : Nat} (hm : m < 68) (op tag : Nat) (ws : List Word) : Heard s (s.seen m op tag ws) := by
  obtain ⟨hhead, htail, hstat, hbell⟩ := requestKeys m hm
  have hring : ∀ (t : State) head part, Heard t (t.ring m head part) := fun t head part =>
    (((Heard.put t _ hhead).trans (.put _ _ hbell)).trans (.put _ _ hstat)).trans (.showRings _ (by omega))
  unfold State.seen
  split
  · exact .refl s
  · exact ((Heard.setWords s _ _).trans (hring _ _ _)).trans ((Heard.put _ _ htail).trans (.showRings _ (by omega)))

/-! ### A module meets a claim (R217) -/

/-- Between `s` and `t` nothing has changed by which an ACTIVE module meets a claim. -/
structure SameStanding (s t : State) : Prop where
  mode : t.mode = s.mode
  claim : t.reg Reg.RED_CLAIM = s.reg Reg.RED_CLAIM
  hands : t.handingOver = s.handingOver
  sys : t.sys = s.sys

/-- An ACTIVE module that neither hands over nor stands in a hold-up. -/
structure State.Contends (s : State) : Prop where
  mode : s.mode = mActive
  hands : s.handingOver = false
  holdup : s.sys.holdup = false

theorem SameStanding.contends {s t : State} (h : SameStanding s t) (hs : s.Contends) : t.Contends :=
  ⟨h.mode.trans hs.mode, h.hands.trans hs.hands, by rw [h.sys, hs.holdup]⟩

theorem yieldedInHoldup_of_supplied {s : State} (h : s.sys.holdup = false) : s.yieldedInHoldup = false := by
  rw [State.yieldedInHoldup, h, Bool.false_and]

theorem losesTo_of_contends {s : State} (h : s.Contends) (claim : Word) :
    s.losesTo claim = (decide ((s.reg Reg.RED_CLAIM).toNat < claim.toNat) ||
      (!s.sys.pins.even && claim != 0 && claim == s.reg Reg.RED_CLAIM)) := by
  rw [State.losesTo, h.mode, h.hands, yieldedInHoldup_of_supplied h.holdup]
  rfl

/-- The loser of a veer is in BOOT and drives no claim. -/
def VeerLost (t : State) : Prop :=
  t.mode = mBoot ∧ t.fld Fld.SYS_RSTCAUSE_cause = rcVeerLoser ∧ t.reg Reg.RED_CLAIM = 0

theorem veerLoser_lost (s : State) : VeerLost s.veerLoser.settle := by
  rw [VeerLost, settle_mode, settle_fld _ _ (by decide), settle_reg _ _ (by decide), State.veerLoser, resetModule_mode,
    resetModule_cause _ (by decide), resetModule_reg _ _ _ (by decide) (by decide)]
  exact ⟨rfl, rfl, rfl⟩

section
variable {s t : State} (hs : s.Contends) (h : SameStanding s t) {claim : Word}
include hs h

theorem losesTo_higher (hlt : (s.reg Reg.RED_CLAIM).toNat < claim.toNat) : t.losesTo claim = true := by
  rw [losesTo_of_contends (h.contends hs), h.claim, decide_eq_true hlt, Bool.true_or]

theorem losesTo_equal_of_odd (hodd : s.sys.pins.even = false) (hown : s.reg Reg.RED_CLAIM ≠ 0)
    (heq : claim = s.reg Reg.RED_CLAIM) : t.losesTo claim = true := by
  have hdriven : (s.reg Reg.RED_CLAIM != 0) = true := bne_iff_ne.mpr hown
  rw [losesTo_of_contends (h.contends hs), h.claim, h.sys, hodd, heq, hdriven]
  simp

theorem losesTo_equal_of_even (heven : s.sys.pins.even = true) (heq : claim = s.reg Reg.RED_CLAIM) :
    t.losesTo claim = false := by
  rw [losesTo_of_contends (h.contends hs), h.claim, h.sys, heven, heq]
  simp

end

/-! ### A claim on a claim line (R214, R217) -/

theorem lineFrame_carries (claim : Word) : (lineFrame claim).extractLsb' 8 32 = claim := by
  unfold lineFrame
  ext i hi
  rw [BitVec.getElem_extractLsb']
  refine (BitVec.getLsbD_append (x := claim) (y := Config.claimCrc claim)).trans ?_
  simp [hi]

/-- The partner's claim as it is seen on its line: by the stage of a unit, and by the module. -/
def State.lineSeen (s : State) (u : Nat) (claim : Word) : State :=
  (s.claimFrame u false claim).setReg Reg.RED_CLAIM_PEER claim

theorem lineSeen_reg (s : State) {u : Nat} (hu : u < 9) (claim : Word) {k : Nat} (hk : fieldKey k = false)
    (hc : k ≠ Reg.RED_CLAIM_PEER) : (s.lineSeen u claim).reg k = s.reg k := by
  have off : OffField (·.reg k) := ⟨fun s j v hj => s.reg_setReg_ne v fun heq => by simp [heq, hj] at hk, fun _ _ => rfl,
    fun _ _ => rfl, fun _ _ _ => rfl⟩
  exact (State.reg_setReg_ne _ _ hc).trans (off.claimFrame s hu false claim)

theorem lineSeen_standing (s : State) {u : Nat} (hu : u < 9) (claim : Word) : SameStanding s (s.lineSeen u claim) where
  mode := fld_of_reg (lineSeen_reg s hu claim (by decide) (by decide))
  claim := lineSeen_reg s hu claim (by decide) (by decide)
  hands := (⟨fun _ _ _ _ => rfl, fun _ _ => rfl, fun _ _ => rfl, fun _ _ _ => rfl⟩ : OffField State.handingOver).claimFrame s hu
    false claim
  sys := (⟨fun _ _ _ _ => rfl, fun _ _ => rfl, fun _ _ => rfl, fun _ _ _ => rfl⟩ : OffField (·.sys)).claimFrame s hu false claim

theorem claimLine_partner {s : State} (hpair : s.sys.pins.pair = true) (hwire : s.fibre = false) {u : Nat} (hu : u < 9)
    (claim : Word) : s.claimLine u false (lineFrame claim) =
      if (s.lineSeen u claim).losesTo claim then (s.lineSeen u claim).veerLoser else s.lineSeen u claim := by
  have hsys : (s.claimFrame u false claim).sys = s.sys := (lineSeen_standing s hu claim).sys
  have hwire' : (s.claimFrame u false claim).fibre = false := by rw [State.fibre, hsys]; exact hwire
  unfold State.claimLine
  simp only [lineFrame_carries, bne_self_eq_false, hsys, hpair, hwire', Bool.not_true, Bool.or_self, Bool.false_eq_true, if_false]
  rfl

section
variable {s : State} (hs : s.Contends) (hpair : s.sys.pins.pair = true) (hwire : s.fibre = false) (u : Fin 9) {claim : Word}
include hpair hwire

theorem claimLine_loses (h : (s.lineSeen u claim).losesTo claim = true) :
    Completes (exec (.claimFrameReceive u false (lineFrame claim)) s) VeerLost := by
  refine ⟨(s.claimLine u false (lineFrame claim)).settle, rfl, ?_⟩
  rw [claimLine_partner hpair hwire u.isLt, if_pos h]
  exact veerLoser_lost _

include hs

theorem claimLine_stays (heven : s.sys.pins.even = true) (heq : claim = s.reg Reg.RED_CLAIM) :
    Completes (exec (.claimFrameReceive u false (lineFrame claim)) s) fun t =>
      t.mode = mActive ∧ t.reg Reg.RED_CLAIM = s.reg Reg.RED_CLAIM := by
  have stands := lineSeen_standing s u.isLt claim
  refine ⟨(s.claimLine u false (lineFrame claim)).settle, rfl, ?_⟩
  beta_reduce
  rw [settle_mode, settle_reg _ _ (by decide), claimLine_partner hpair hwire u.isLt, losesTo_equal_of_even hs stands heven heq]
  exact ⟨stands.mode.trans hs.mode, stands.claim⟩

end

/-! ### A heartbeat in its order that tells ACTIVE (R200, R217) -/

/-- The next heartbeat is the one after the last taken, the first one, or any one after the loss of the partner. -/
theorem takeHeartbeat_next {s : State} (hpair : s.sys.pins.pair = true) {seq : BitVec 16}
    (hnext : s.red.hbRx = none ∨ s.red.lost = true ∨ s.red.hbRx = some (seq - 1).toNat) (mode : Nat) (claim : Word)
    (cycles ack : Nat) (timeLow : Word) (trip : Nat) : s.takeHeartbeat seq.toNat mode claim cycles ack timeLow trip =
      ((s.beatNoted seq.toNat claim trip).peerModeSeen mode).meetClaim claim cycles ack timeLow trip := by
  have hseq : (seq.toNat == ((seq - 1).toNat + 1) % 65536) = true := by
    rw [beq_iff_eq]
    bv_omega
  cases hrx : s.red.hbRx with
  | none => exact takeHeartbeat_first hpair hrx _ _ _ _ _ _ _
  | some n =>
    have htake : (s.red.lost || seq.toNat == (n + 1) % 65536) = true := by
      rcases hnext with h | h | h
      · exact absurd (hrx.symm.trans h) nofun
      · rw [h, Bool.true_or]
      · obtain rfl : n = (seq - 1).toNat := Option.some.inj (hrx.symm.trans h)
        rw [hseq, Bool.or_true]
    unfold State.takeHeartbeat
    simp only [hpair, hrx, htake, Bool.not_true, Bool.or_self, Bool.false_eq_true, if_false]
    rfl

theorem beatNoted_hands (s : State) (seq : Nat) (claim : Word) (trip : Nat) :
    (s.beatNoted seq claim trip).handingOver = s.handingOver := by
  have htime := beatNoted_keeps (·.time) (fun _ _ _ => rfl) (fun _ _ _ => rfl) (fun _ _ => rfl) s seq claim trip
  rw [State.handingOver, (beatNoted_red s seq claim trip).2, htime]
  rfl

theorem beatNoted_standing (s : State) (seq : Nat) (claim : Word) (trip : Nat) : SameStanding s (s.beatNoted seq claim trip) where
  mode := fld_of_reg ((beatNoted_reg _ _ _ _ (by decide)).trans (partnerShown_reg _ _ (by decide) (by decide) (by decide)))
  claim := (beatNoted_reg _ _ _ _ (by decide)).trans (partnerShown_reg _ _ (by decide) (by decide) (by decide))
  hands := beatNoted_hands s seq claim trip
  sys := beatNoted_keeps (·.sys) (fun _ _ _ => rfl) (fun _ _ _ => rfl) (fun _ _ => rfl) s seq claim trip

/-- A partner in ACTIVE tells an ACTIVE module nothing but its mode. -/
theorem peerModeSeen_active {s : State} (hm : s.mode = mActive) (hover : s.handingOver = false) :
    s.peerModeSeen mActive = s.peerTold mActive := by
  have hactive : ((s.peerTold mActive).mode == mStandby) = false := by rw [show (s.peerTold mActive).mode = s.mode from rfl, hm]; rfl
  rw [peerModeSeen_eq hover]
  simp only [hactive, show (mActive != mActive) = false from rfl, show (mActive == mStandby) = false from rfl, Bool.false_and,
    Bool.and_false, Bool.false_eq_true, if_false, ite_self]

/-- A heartbeat noted, and the ACTIVE mode that it tells. -/
def State.activeBeat (s : State) (seq : Nat) (claim : Word) (trip : Nat) : State := (s.beatNoted seq claim trip).peerTold mActive

theorem activeBeat_standing (s : State) (seq : Nat) (claim : Word) (trip : Nat) : SameStanding s (s.activeBeat seq claim trip) where
  mode := (beatNoted_standing s seq claim trip).mode
  claim := (beatNoted_standing s seq claim trip).claim
  hands := (beatNoted_standing s seq claim trip).hands
  sys := (beatNoted_standing s seq claim trip).sys

section
variable {s : State} (hs : s.Contends) (hpair : s.sys.pins.pair = true) {seq : BitVec 16}
  (hnext : s.red.hbRx = none ∨ s.red.lost = true ∨ s.red.hbRx = some (seq - 1).toNat) {claim : Word} (cycles ack timeLow : Word)
  (trip : BitVec 16)
include hs hpair hnext

theorem takeHeartbeat_active : s.takeHeartbeat seq.toNat mActive claim cycles.toNat ack.toNat timeLow trip.toNat =
    (s.activeBeat seq.toNat claim trip.toNat).meetClaim claim cycles.toNat ack.toNat timeLow trip.toNat := by
  have noted := (beatNoted_standing s seq.toNat claim trip.toNat).contends hs
  rw [takeHeartbeat_next hpair hnext, peerModeSeen_active noted.mode noted.hands, State.activeBeat]

theorem heartbeat_loses (h : (s.activeBeat seq.toNat claim trip.toNat).losesTo claim = true) :
    Completes (exec (.heartbeatReceive seq 3 claim cycles ack timeLow trip) s) VeerLost := by
  refine ⟨(s.takeHeartbeat seq.toNat mActive claim cycles.toNat ack.toNat timeLow trip.toNat).settle, rfl, ?_⟩
  rw [takeHeartbeat_active hs hpair hnext, State.meetClaim, if_pos h]
  exact veerLoser_lost _

theorem heartbeat_stays (hl : s.prt.lanes = []) (heven : s.sys.pins.even = true) (heq : claim = s.reg Reg.RED_CLAIM) :
    Completes (exec (.heartbeatReceive seq 3 claim cycles ack timeLow trip) s) fun t => t.mode = mActive := by
  have stands := activeBeat_standing s seq.toNat claim trip.toNat
  have hmode := stands.mode.trans hs.mode
  have halone : (s.activeBeat seq.toNat claim trip.toNat).followsPartner = false := by rw [State.followsPartner, hmode]; rfl
  have hlanes : (s.activeBeat seq.toNat claim trip.toNat).prt.lanes = [] := (beatNoted_keeps (·.prt.lanes) (fun _ _ _ => rfl)
    (fun _ _ _ => rfl) (fun _ _ => rfl) s seq.toNat claim trip.toNat).trans hl
  refine ⟨(s.takeHeartbeat seq.toNat mActive claim cycles.toNat ack.toNat timeLow trip.toNat).settle, rfl, ?_⟩
  beta_reduce
  rw [settle_mode, takeHeartbeat_active hs hpair hnext, State.meetClaim, losesTo_equal_of_even hs stands heven heq, halone,
    State.takeAck, openGates_of_none (by exact hlanes)]
  exact hmode

end

/-! ### A demotion (R217) -/

theorem demotion_loses {s : State} (hm : s.mode = mActive) (hh : s.sys.holdup = false) {k : Fin 16384}
    (hk : k.val = s.stationNode) (claim : Word) : Completes (exec (.witDemote true k claim) s) VeerLost := by
  have heard := heard_seen s (m := 65) (by decide) 0x0347 0 [wd k, claim]
  have hstation : (s.seen 65 0x0347 0 [wd k, claim]).stationNode = k.val :=
    (heard.keeps State.stationNode fun _ _ _ => rfl).trans hk.symm
  have hsupplied := yieldedInHoldup_of_supplied (s := s.seen 65 0x0347 0 [wd k, claim]) (by rw [heard.sys]; exact hh)
  refine ⟨((s.seen 65 0x0347 0 [wd k, claim]).demoted k).settle, rfl, ?_⟩
  rw [State.demoted, hstation, heard.mode, hm, hsupplied, if_pos (by simp)]
  exact veerLoser_lost _

/-- Settles O58: what tells of the partner's claim, or of a demotion, leaves alone all by which an ACTIVE module meets a claim, so that
the two claims and the slot decide. -/
theorem aHigherClaimResetsTheLoser : Obligations.AHigherClaimResetsTheLoser := by
  intro s claim c2 c3 c4 u seq trip own lost line beat hm hpair hover hh hl _
  have hs : s.Contends := ⟨hm, hover, hh⟩
  refine ⟨fun hwire => ?_, fun hnext => ?_, fun k hk => demotion_loses hm hh hk claim⟩
  · have stands := lineSeen_standing s u.isLt claim
    exact ⟨fun hlt => claimLine_loses hpair hwire u (losesTo_higher hs stands hlt),
      fun hodd hown heq => claimLine_loses hpair hwire u (losesTo_equal_of_odd hs stands hodd hown heq),
      claimLine_stays hs hpair hwire u⟩
  · have stands := activeBeat_standing s seq.toNat claim trip.toNat
    exact ⟨fun hlt => heartbeat_loses hs hpair hnext c2 c3 c4 trip (losesTo_higher hs stands hlt),
      fun hodd hown heq => heartbeat_loses hs hpair hnext c2 c3 c4 trip (losesTo_equal_of_odd hs stands hodd hown heq),
      heartbeat_stays hs hpair hnext c2 c3 c4 trip hl⟩

end Sys2Proof.Machine

namespace Sys2Proof.Machine

/-! ### Writes of a kept register, and transfers at the DRAM (R119, R582) -/

theorem Kept.put {s t : State} {keys : List Nat} (h : Kept s t keys) {f : Fld} (v : Nat) (hf : f.key ∈ keys) :
    Kept s (t.put f v) keys :=
  ⟨fun k hp hk => (t.reg_put_ne f v fun heq => hk (by rw [heq]; exact hf)).trans (h.regs k hp hk), h.mem, h.cfg,
    h.images, h.pending⟩

theorem Kept.mono {s t : State} {keys more : List Nat} (h : Kept s t keys) (hsub : keys ⊆ more) : Kept s t more :=
  ⟨fun k hp hk => h.regs k hp fun hin => hk (hsub hin), h.mem, h.cfg, h.images, h.pending⟩

/-- Transfers at the DRAM are counted whole: no clip is marked. -/
theorem chargeDram_keeps {β : Type} (p : State → β) (hprt : ∀ (s : State) x, p { s with prt := x } = p s)
    (hpfc : ∀ (s : State) x, p { s with pfc := x } = p s) (s : State) (a n : Nat) : p (s.chargeDram a n) = p s := by
  have hcount : ∀ t : State, p (t.pfcEvent 9 a n) = p t := fun t => by
    unfold State.pfcEvent
    split
    · rfl
    · refine foldl_keeps p _ (fun t e => ?_) _ t
      simp only
      split
      · rfl
      · simp only [or_true, if_true, Nat.lt_irrefl, if_false]
        exact hpfc t _
  unfold State.chargeDram
  split
  · rfl
  · exact (hcount _).trans (hprt s _)

theorem withRed_face (s : State) (x : Red) : (s.withRed x).face = s.face := rfl

/-! ### Forwarded items: which are taken (R202, R226, R476) -/

/-- An item told out of sequence is marked (R205). -/
def State.gapMarked (s : State) (seq : Nat) : State :=
  if s.red.fwdRx != 0 && seq != s.red.fwdRx + 1 then s.flag Fld.RED_ERR_sequence true else s

/-- An item's sequence noted, and acknowledged on the link. -/
def State.itemHeard (s : State) (seq : Nat) : State :=
  ((s.gapMarked seq).withRed { (s.gapMarked seq).red with fwdRx := seq }).send .link lkAck [wd seq]

/-- A queue operation, and one that comes from phase 5 of a resynchronisation on (R228, R253). -/
def queueOp (kind : Nat) : Bool := kind == fwEnqueue || kind == fwDequeue
def State.joins (s : State) (kind : Nat) : Bool := s.mode == mResync && decide (5 ≤ s.fld Fld.RED_RESYNC_phase) && queueOp kind

/-- What is done with an item that was heard by a module in the state `s`. -/
def State.itemTaken (t s : State) (i : FwdItem) : State :=
  if 65536 < t.fwdUnits + (4 * i.ws.length + 16 + 255) / 256 then (t.flag Fld.RED_ERR_overflow true).lagLoss
  else if t.mode != mStandby && !t.handingOver && !queueOp i.kind && (i.kind = 0 || fwMarker < i.kind || i.kind = fwTrigger) then t
  else if s.joins i.kind && t.fld Fld.RED_RESYNC_phase == 5 then (t.withRed { t.red with queue := t.red.queue ++ [i] }).showFwd
  else t.itemEffect i

theorem receiveItem_eq (s : State) (seq kind : Nat) (ws : List Word) : s.receiveItem seq kind ws =
    if kind = 11 ∧ s.windward = true ∧ s.partnerStandby = true then s.takeTrips ws.length ws
    else if s.mode != mStandby && !s.handingOver && !s.red.crossing && !s.joins kind then s
    else (s.itemHeard seq).itemTaken s ⟨seq, kind, ws, (s.itemHeard seq).time⟩ := rfl

theorem windward_of_standby {s : State} (hm : s.mode = mStandby) : s.windward = false := by
  simp [State.windward, hm, mStandby, mActive, mSafe, mCommission]

theorem gapMarked_keeps {β : Type} (p : State → β) (hput : ∀ (s : State) f v, p (s.put f v) = p s) (s : State) (seq : Nat) :
    p (s.gapMarked seq) = p s := by
  unfold State.gapMarked
  split
  · exact hput s _ _
  · rfl

theorem gapMarked_kept (s : State) (seq : Nat) : Kept s (s.gapMarked seq) [Reg.RED_ERR] := by
  have hsame : Kept s s [Reg.RED_ERR] := ⟨fun _ _ _ => rfl, rfl, rfl, ⟨rfl, rfl⟩, rfl⟩
  unfold State.gapMarked
  split
  · exact hsame.put _ (by decide)
  · exact hsame

section
variable (s : State) (seq : Nat)

theorem itemHeard_kept : Kept s (s.itemHeard seq) [Reg.RED_ERR] := (gapMarked_kept s seq).congr rfl

theorem itemHeard_red : (s.itemHeard seq).red = { s.red with fwdRx := seq } := by
  rw [show (s.itemHeard seq).red = { (s.gapMarked seq).red with fwdRx := seq } from rfl, gapMarked_keeps (·.red) fun _ _ _ => rfl]

theorem itemHeard_sent : (s.itemHeard seq).sent = ⟨.link, lkAck, [wd seq]⟩ :: s.sent := by
  rw [show (s.itemHeard seq).sent = ⟨.link, lkAck, [wd seq]⟩ :: (s.gapMarked seq).sent from rfl,
    gapMarked_keeps (·.sent) fun _ _ _ => rfl]

theorem itemHeard_prt : (s.itemHeard seq).prt = s.prt := gapMarked_keeps (·.prt) (fun _ _ _ => rfl) s seq
theorem itemHeard_time : (s.itemHeard seq).time = s.time := gapMarked_keeps (·.time) (fun _ _ _ => rfl) s seq

theorem itemHeard_units : (s.itemHeard seq).fwdUnits = s.fwdUnits := by rw [State.fwdUnits, itemHeard_red]; rfl

theorem itemHeard_mode : (s.itemHeard seq).mode = s.mode := fld_of_reg ((itemHeard_kept s seq).regs _ (by decide) (by decide))

end

/-- Elsewhere than in STANDBY, outside a commanded veer, no item is taken but a trip of the leeward module. -/
theorem receiveItem_elsewhere {s : State} (hm : s.mode ≠ mStandby) (hover : s.handingOver = false)
    (hcross : s.red.crossing = false) {kind : Nat} (hjoin : s.mode ≠ mResync ∨ kind < 21)
    (htrip : ¬ (kind = 11 ∧ s.windward = true ∧ s.partnerStandby = true))
    (seq : Nat) (ws : List Word) : s.receiveItem seq kind ws = s := by
  have hjoins : s.joins kind = false := by
    rcases hjoin with h | h
    · rw [State.joins, beq_eq_false_iff_ne.mpr h, Bool.false_and, Bool.false_and]
    · have hop : queueOp kind = false := by
        simp only [queueOp, fwEnqueue, fwDequeue, Bool.or_eq_false_iff, beq_eq_false_iff_ne]
        omega
      rw [State.joins, hop, Bool.and_false]
  rw [receiveItem_eq, if_neg htrip, if_pos (by simp [hm, hover, hcross, hjoins])]

section
variable {s : State} (hm : s.mode = mStandby) (seq kind : Nat) (ws : List Word)
include hm

theorem receiveItem_standby : s.receiveItem seq kind ws =
    (s.itemHeard seq).itemTaken s ⟨seq, kind, ws, (s.itemHeard seq).time⟩ := by
  rw [receiveItem_eq, if_neg (by simp [windward_of_standby hm]), if_neg (by simp [hm])]

theorem receiveItem_room (hroom : s.fwdUnits + (4 * ws.length + 271) / 256 ≤ 65536) : s.receiveItem seq kind ws =
    (s.itemHeard seq).itemEffect ⟨seq, kind, ws, (s.itemHeard seq).time⟩ := by
  have hheard := (itemHeard_mode s seq).trans hm
  rw [receiveItem_standby hm, State.itemTaken, itemHeard_units, if_neg (by simpa using hroom), if_neg (by simp [hheard]),
    if_neg (by simp [State.joins, hm, mStandby, mResync])]

theorem receiveItem_overflow (hfull : 65536 < s.fwdUnits + (4 * ws.length + 271) / 256) : s.receiveItem seq kind ws =
    ((s.itemHeard seq).flag Fld.RED_ERR_overflow true).loseStep 4 := by
  have hmode : ((s.itemHeard seq).flag Fld.RED_ERR_overflow true).mode = mStandby :=
    (State.fld_put_ne _ _ _ _ (by decide)).trans ((itemHeard_mode s seq).trans hm)
  rw [receiveItem_standby hm, State.itemTaken, itemHeard_units, if_pos (by simpa using hfull), State.lagLoss, if_pos hmode]

end

/-! ### A trip of the leeward module holds on both (R476) -/

theorem instTo_state (s : State) (i st cause : Nat) : ((s.instTo i st cause).inst i).state = st := by
  have hmail : OffMail fun s : State => (s.inst i).state :=
    ⟨fun _ _ _ _ => rfl, fun _ _ => rfl, fun _ _ => rfl, fun _ _ _ => rfl⟩
  have hset : ∀ x, ((s.setInst i x).inst i).state = x.state := fun x => by rw [State.inst, State.setInst, SMap.get_set_same]
  have hcount : ∀ (t : State) (b : Bool), ((if b then t.bump Fld.SAF_CNT_trips else t).inst i).state = (t.inst i).state :=
    fun t b => by cases b <;> rfl
  have htell : ∀ (t : State) (b : Bool) pay, ((if b then t.notify 0x0481 none pay else t).inst i).state = (t.inst i).state :=
    fun t b pay => by
      split
      · exact hmail.notify t _ _ _
      · rfl
  unfold State.instTo
  simp only
  split
  · next hsame => exact hsame
  · exact (htell _ _ _).trans ((hcount _ _).trans (hset _))

/-- A told state is taken where it is the safer one. -/
theorem takeTrips_one (s : State) {i st : Nat} (hi : i < 256) (hst : st < 6) (hon : (s.inst i).state ≠ siOff) (n : Nat) :
    ((s.takeTrips (n + 1) [wd i, wd st, 1, 0, 0, 0]).inst i).state =
      if safeRank st ≤ safeRank (s.inst i).state then (s.inst i).state else st := by
  have hwi : (wAt [wd i, wd st, 1, 0, 0, 0] 0).toNat % 256 = i := by simp [wAt, wd]; omega
  have hws : (wAt [wd i, wd st, 1, 0, 0, 0] 1).toNat = st := by simp [wAt, wd]; omega
  have hdone : ∀ t : State, t.takeTrips n [] = t := fun t => by cases n <;> rfl
  rw [State.takeTrips, if_neg (by simp)]
  simp only [hwi, hws, hon, false_or, List.drop_succ_cons, List.drop_zero, hdone]
  split
  · rfl
  · rw [State.inst, State.setInst, SMap.get_set_same]
    exact instTo_state _ _ _ _

theorem trip_completes {s : State} (hw : s.windward = true) (hp : s.partnerStandby = true) (seq : Word) {i st : Nat} (hi : i < 256)
    (hst : st < 6) (hon : (s.inst i).state ≠ siOff) {ws : List Word} (hws : ws = [wd i, wd st, 1, 0, 0, 0]) :
    Completes (exec (.forwardItemReceive seq 11 ws) s) fun u =>
      (u.inst i).state = if safeRank st ≤ safeRank (s.inst i).state then (s.inst i).state else st := by
  refine ⟨(s.receiveItem seq.toNat 11 ws).settle, rfl, ?_⟩
  beta_reduce
  rw [State.inst, settle_saf, receiveItem_eq, if_pos ⟨rfl, hw, hp⟩, hws]
  exact takeTrips_one s hi hst hon 5

theorem notTaken_completes {s : State} {o : Res} {t : State} (ho : o = t.done) (ht : t = s) :
    Completes o fun u => u.red = s.red ∧ u.sent = s.sent ∧ Kept s u [] := by
  rw [ho, ht]
  exact ⟨s.settle, rfl, settle_red s, settle_sent s, (Kept.of_face rfl).settle⟩

theorem takeCkpt_face (s : State) (ws : List Word) : (s.takeCkpt ws).face = s.face := rfl

/-! ### Items taken in STANDBY (R203, R204, R205) -/

section
variable {s : State} (hm : s.mode = mStandby) (seq : Word)
include hm

theorem checkpointItem_completes {ws : List Word} (hroom : s.fwdUnits + (4 * ws.length + 271) / 256 ≤ 65536) :
    Completes (exec (.forwardItemReceive seq 14 ws) s) fun u => SMap.get [] (wAt ws 1).toNat u.red.ckpts = ws ∧
      u.red.fwdRx = seq.toNat ∧ Sends s u .link 17 [wd seq.toNat] ∧ u.mode = mStandby ∧ Kept s u [Reg.RED_ERR] := by
  refine ⟨(s.receiveItem seq.toNat 14 ws).settle, rfl, ?_⟩
  rw [receiveItem_room hm seq.toNat 14 ws hroom]
  beta_reduce
  have heffect : ∀ t : State, t.itemEffect ⟨seq.toNat, 14, ws, (s.itemHeard seq.toNat).time⟩ = t.takeCkpt ws := fun _ => rfl
  rw [heffect, settle_red, settle_mode]
  refine ⟨?_, ?_, ?_, (itemHeard_mode s _).trans hm, ((itemHeard_kept s seq.toNat).congr (takeCkpt_face _ ws)).settle⟩
  · exact SMap.get_set_same _ _ _ _
  · rw [show ((s.itemHeard seq.toNat).takeCkpt ws).red.fwdRx = (s.itemHeard seq.toNat).red.fwdRx from rfl, itemHeard_red]
  · exact (settle_sent _).trans (itemHeard_sent s _)

theorem overflow_completes (k : Fin 32) {ws : List Word} (hfull : 65536 < s.fwdUnits + (4 * ws.length + 271) / 256) :
    Completes (exec (.forwardItemReceive seq k ws) s) fun u =>
      u.mode = mResync ∧ u.fld Fld.RED_STATE_cause = 4 ∧ u.red.queue = [] := by
  refine ⟨(s.receiveItem seq.toNat k ws).settle, rfl, ?_⟩
  beta_reduce
  rw [settle_mode, settle_fld _ _ (by decide), settle_red, receiveItem_overflow hm _ _ ws hfull]
  exact loseStep_shows ((State.fld_put_ne _ _ _ _ (by decide)).trans ((itemHeard_mode s _).trans hm)) 4

end

/-- An item that stands in the forward queue. -/
def State.queued (s : State) (i : FwdItem) : State := (s.withRed { s.red with queue := s.red.queue ++ [i] }).showFwd

/-- RED_FWD shows the occupancy, and its highest value where this is one. -/
theorem queued_shows (s : State) (i : FwdItem) : ∃ n,
    let t := (s.withRed { s.red with queue := s.red.queue ++ [i] }).put Fld.RED_FWD_now n
    s.queued i = t ∨ ∃ m, s.queued i = t.put Fld.RED_FWD_max m := by
  unfold State.queued State.showFwd State.peak
  simp only
  split
  · exact ⟨_, .inr ⟨_, rfl⟩⟩
  · exact ⟨_, .inl rfl⟩

theorem queued_keeps {β : Type} (p : State → β) (hput : ∀ (s : State) f v, p (s.put f v) = p s)
    (hqueue : ∀ (s : State) q, p (s.withRed { s.red with queue := q }) = p s) (s : State) (i : FwdItem) :
    p (s.queued i) = p s := by
  obtain ⟨n, heq | ⟨m, heq⟩⟩ := queued_shows s i
  · rw [heq, hput, hqueue]
  · rw [heq, hput, hput, hqueue]

theorem queued_red (s : State) (i : FwdItem) : (s.queued i).red = { s.red with queue := s.red.queue ++ [i] } := by
  obtain ⟨n, heq | ⟨m, heq⟩⟩ := queued_shows s i <;> rw [heq] <;> rfl

theorem queued_kept {s t : State} {keys : List Nat} (h : Kept s t keys) (hk : Reg.RED_FWD ∈ keys) (i : FwdItem) :
    Kept s (t.queued i) keys := by
  have hshown : Kept s (t.withRed { t.red with queue := t.red.queue ++ [i] }) keys := h.congr (withRed_face _ _)
  obtain ⟨n, heq | ⟨m, heq⟩⟩ := queued_shows t i
  · rw [heq]
    exact hshown.put n hk
  · rw [heq]
    exact (hshown.put n hk).put m hk

theorem takeMarker_of_none {s : State} {l : Nat} (h : (s.lane l).act = none) : s.takeMarker l = s := by
  rw [State.takeMarker, h]

theorem marker_completes {s : State} (hm : s.mode = mStandby) (seq : Word) (lane : Fin 8) (t : Fin 512) (n lo hi : Word)
    (hroom : s.fwdUnits + 1 ≤ 65536) (hidle : (s.lane lane).act = none) :
    Completes (exec (.completionMarker seq lane t n lo hi) s) fun u =>
      u.red.queue = s.red.queue ++ [⟨seq.toNat, 5, [wd lane, wd t, n, lo, hi], s.time⟩] ∧ u.red.fwdRx = seq.toNat ∧
        Sends s u .link 17 [wd seq.toNat] ∧ u.prt = s.prt ∧ Kept s u [Reg.RED_ERR, Reg.RED_FWD] := by
  obtain ⟨i, hitem⟩ : ∃ i : FwdItem, i = ⟨seq.toNat, fwMarker, [wd lane, wd t, n, lo, hi], (s.itemHeard seq.toNat).time⟩ :=
    ⟨_, rfl⟩
  have hlane : (wAt i.ws 0).toNat % 8 = lane := by
    simp [hitem, wAt, wd]
  have hprt : ((s.itemHeard seq.toNat).queued i).prt = s.prt :=
    (queued_keeps (·.prt) (fun _ _ _ => rfl) (fun _ _ => rfl) _ i).trans (itemHeard_prt s _)
  have heffect : (s.itemHeard seq.toNat).itemEffect i = (s.itemHeard seq.toNat).queued i := by
    have hmarker : (s.itemHeard seq.toNat).itemEffect i =
        ((s.itemHeard seq.toNat).queued i).takeMarker ((wAt i.ws 0).toNat % 8) := by
      rw [hitem]; rfl
    rw [hmarker, hlane, takeMarker_of_none]
    rw [State.lane, hprt]
    exact hidle
  refine ⟨(s.receiveItem seq.toNat fwMarker [wd lane, wd t, n, lo, hi]).settle, rfl, ?_⟩
  beta_reduce
  rw [receiveItem_room hm _ _ _ (by simpa using hroom), ← hitem, heffect, settle_red, settle_prt, queued_red, itemHeard_red]
  refine ⟨?_, rfl, ?_, hprt, (queued_kept ((itemHeard_kept s _).mono (by simp)) (by simp) i).settle⟩
  · rw [hitem, itemHeard_time]
    rfl
  · exact (settle_sent _).trans ((queued_keeps (·.sent) (fun _ _ _ => rfl) (fun _ _ => rfl) _ i).trans (itemHeard_sent s _))

/-! ### An item that has waited too long (R205) -/

theorem laneTime_sysKept (s : State) (n : Nat) : SysKept s (s.laneTime n) := by
  refine SysKept.foldl (fun s e _ => ?_) s
  split
  · exact .refl s
  · next a _ =>
    have hused : ∀ c : Bool, SysKept s (if c then s else s.bumpBy (Fld.PRT_RUNUSED_used e.1) n) := fun c =>
      .ite (.refl s) (.put s _ (Nat.le_add_right_of_le (by decide)))
    exact .ite ((hused _).trans (.put _ _ (Nat.le_add_right_of_le (by decide)))) (hused _)

theorem advance_sysKept (s : State) (n : Nat) : SysKept s (s.advance n) :=
  (SysKept.of_regs (pfcTime_keeps (·.regs) (fun _ _ => rfl) s n)).trans ((laneTime_sysKept _ n).trans (.of_regs rfl))

theorem runUntil_sysKept (s : State) (t : Nat) : SysKept s (s.runUntil t) :=
  runUntil_induct (P := SysKept s) (fun u n hu => hu.trans (advance_sysKept u n)) (.refl s) t

theorem lagExceeded_idle {s : State} (h : s.red.queue = [] ∨ s.mode ≠ mStandby) : s.lagExceeded = s := by
  unfold State.lagExceeded
  split
  · rfl
  · next hq => exact if_pos (by simpa [hq] using h)

theorem lagExceeded_stepLost {s : State} (hm : s.mode = mStandby) {i : FwdItem} {r : List FwdItem} (hq : s.red.queue = i :: r) :
    ∃ t : State, t.mode = mStandby ∧ s.lagExceeded = t.loseStep 4 := by
  have hlag : ∀ (u : State) us, SysKept u ((u.put Fld.RED_LAG_now us).peak Fld.RED_LAG_max us) := fun u us => by
    unfold State.peak
    exact (SysKept.put u _ (by decide)).trans (.ite (.put _ _ (by decide)) (.refl _))
  have hmode := ((runUntil_sysKept s (i.at_ + 1000001)).trans
    (hlag _ (min 65535 (((s.runUntil (i.at_ + 1000001)).time - i.at_) / 1000)))).mode.trans hm
  refine ⟨_, hmode, ?_⟩
  unfold State.lagExceeded
  rw [hq]
  simp only [hm, bne_self_eq_false, Bool.false_eq_true, if_false, State.lagLoss, if_pos hmode]

theorem lag_completes {s : State} (hm : s.mode = mStandby) {i : FwdItem} {r : List FwdItem} (hq : s.red.queue = i :: r) :
    Completes (exec .leewardLagExceeded s) fun u => u.mode = mResync ∧ u.fld Fld.RED_STATE_cause = 4 ∧ u.red.queue = [] := by
  obtain ⟨t, hmode, heq⟩ := lagExceeded_stepLost hm hq
  refine ⟨s.lagExceeded.settle, rfl, ?_⟩
  beta_reduce
  rw [settle_mode, settle_fld _ _ (by decide), settle_red, heq]
  exact loseStep_shows hmode 4

theorem lag_idle_completes {s : State} (h : s.red.queue = [] ∨ s.mode ≠ mStandby) :
    Completes (exec .leewardLagExceeded s) fun u => u.red = s.red ∧ Kept s u [] := by
  refine ⟨s.lagExceeded.settle, rfl, ?_⟩
  rw [lagExceeded_idle h]
  exact ⟨settle_red s, (Kept.of_face rfl).settle⟩

/-! ### Items acknowledged (R203) -/

theorem forwardAck_completes {s : State} (hl : s.prt.lanes = []) (seq : Word) :
    Completes (exec (.forwardAckReceive seq) s) fun u =>
      u.red = { s.red with fwdAck := max s.red.fwdAck seq.toNat } ∧ Kept s u [] := by
  have hacked : s.takeAck seq.toNat = s.withRed { s.red with fwdAck := max s.red.fwdAck seq.toNat } :=
    openGates_of_none (s := s.withRed { s.red with fwdAck := max s.red.fwdAck seq.toNat }) hl
  refine ⟨(s.takeAck seq.toNat).settle, rfl, ?_⟩
  beta_reduce
  rw [hacked, settle_red]
  exact ⟨withRed_red _ _, (Kept.of_face (withRed_face _ _)).settle⟩

/-! ### A checkpoint copied (R231) -/

/-- A copy that has ended, and its checkpoint kept where its record says so. -/
def State.copyEnded (s : State) (t : Nat) : State := s.withRed { s.red with copies := s.red.copies.filter (·.task != t) }
def State.copyKept (s : State) (t : Nat) : State :=
  if ckptPersist (s.ckptRec t) then (s.copyEnded t).storeCkpt t (s.ckptWords t) else s.copyEnded t

theorem ckptDone_eq {s : State} {t : Nat} (h : s.red.copies.any (·.task == t) = true) : s.ckptDone t =
    ((s.copyKept t).forward 14 (s.ckptWords t)).chargeDram 0 (dramLines (s.taskInst t) (4 * (s.ckptWords t).length)) := by
  rw [State.ckptDone, if_pos h]
  rfl

theorem storeCkpt_keeps {β : Type} (p : State → β) (hmem : ∀ (s : State) m, p { s with mem := m } = p s)
    (hnv : ∀ (s : State) x, p { s with nv := x } = p s) (s : State) (t : Nat) (ws : List Word) : p (s.storeCkpt t ws) = p s := by
  unfold State.storeCkpt
  simp only
  split
  · exact (hnv _ _).trans (setWords_keeps p hmem ws s _)
  · exact hnv s _

theorem storeCkpt_ckpts (s : State) (t : Nat) (ws : List Word) : SMap.get [] t (s.storeCkpt t ws).nv.ckpts = ws := by
  rw [State.storeCkpt, SMap.get_set_same]

theorem storeCkpt_byte (s : State) (t : Nat) (ws : List Word) {y : Nat}
    (hy : y < s.ckptPlace t ∨ s.ckptPlace t + 4 * ws.length ≤ y) : (s.storeCkpt t ws).byte y = s.byte y := by
  have hstored : ∀ (u : State) x, ({ u with nv := x } : State).byte y = u.byte y := fun _ _ => rfl
  unfold State.storeCkpt
  simp only [hstored]
  split
  · exact byte_setWords_out ws s hy
  · rfl

theorem copyEnded_place (s : State) (t : Nat) : (s.copyEnded t).ckptPlace t = s.ckptPlace t := rfl

theorem copyKept_keeps {β : Type} (p : State → β) (hmem : ∀ (s : State) m, p { s with mem := m } = p s)
    (hnv : ∀ (s : State) x, p { s with nv := x } = p s) (s : State) (t : Nat) : p (s.copyKept t) = p (s.copyEnded t) := by
  unfold State.copyKept
  split
  · exact storeCkpt_keeps p hmem hnv _ t _
  · rfl

section
variable {s : State} {t : Fin 512} (h : s.red.copies.any (·.task == t) = true)
include h

/-- Telling the partner, and the transfers, change nothing else. -/
theorem ckptDone_keeps {β : Type} (p : State → β) (hitem : ∀ (s : State) k ws, p (s.sendItem k ws) = p s)
    (hprt : ∀ (s : State) x, p { s with prt := x } = p s) (hpfc : ∀ (s : State) x, p { s with pfc := x } = p s) :
    p (s.ckptDone t) = p (s.copyKept t) := by
  rw [ckptDone_eq h, chargeDram_keeps p hprt hpfc, State.forward]
  split
  · exact hitem _ _ _
  · rfl

theorem ckptDone_ended : (s.ckptDone t).red.copies.any (·.task == t) = false := by
  rw [ckptDone_keeps h (·.red.copies) (fun _ _ _ => rfl) (fun _ _ => rfl) fun _ _ => rfl,
    copyKept_keeps (·.red.copies) (fun _ _ => rfl) fun _ _ => rfl]
  simp [State.copyEnded, State.withRed]

theorem ckptDone_stored (hp : ckptPersist (s.ckptRec t) = true) : SMap.get [] t.val (s.ckptDone t).nv.ckpts = s.ckptWords t := by
  rw [ckptDone_keeps h (·.nv) (fun _ _ _ => rfl) (fun _ _ => rfl) fun _ _ => rfl, State.copyKept, if_pos hp, storeCkpt_ckpts]

theorem ckptDone_told (hp : s.partnerStandby = true) :
    (s.ckptDone t).sent = ⟨.link, 14, wd (s.red.fwdTx + 1) :: s.ckptWords t⟩ :: s.sent := by
  have hstands : (s.copyKept t).partnerStandby = true :=
    (copyKept_keeps State.partnerStandby (fun _ _ => rfl) (fun _ _ => rfl) s t).trans hp
  have hseq : (s.copyKept t).red.fwdTx = s.red.fwdTx := copyKept_keeps (·.red.fwdTx) (fun _ _ => rfl) (fun _ _ => rfl) s t
  have hsent : (s.copyKept t).sent = s.sent := copyKept_keeps (·.sent) (fun _ _ => rfl) (fun _ _ => rfl) s t
  rw [ckptDone_eq h, chargeDram_keeps (·.sent) (fun _ _ => rfl) fun _ _ => rfl, State.forward, hstands, Bool.true_or, if_pos rfl,
    ← hseq, ← hsent]
  rfl

theorem ckptDone_kept (hp : ckptPersist (s.ckptRec t) = false) : Kept s (s.ckptDone t) [] := by
  refine Kept.of_face ?_
  rw [ckptDone_keeps h State.face (fun _ _ _ => rfl) (fun _ _ => rfl) fun _ _ => rfl, State.copyKept, hp]
  rfl

theorem ckptDone_keptOff (hp : ckptPersist (s.ckptRec t) = true) :
    KeptOff s (s.ckptDone t).settle [] (s.ckptPlace t) (4 * (s.ckptWords t).length) := by
  have hrest : ((s.ckptDone t).regs, (s.ckptDone t).cfg, (s.ckptDone t).pts, (s.ckptDone t).outs, (s.ckptDone t).pending) =
      (s.regs, s.cfg, s.pts, s.outs, s.pending) :=
    (ckptDone_keeps h (fun s => (s.regs, s.cfg, s.pts, s.outs, s.pending)) (fun _ _ _ => rfl) (fun _ _ => rfl) fun _ _ => rfl).trans
      (copyKept_keeps (fun s => (s.regs, s.cfg, s.pts, s.outs, s.pending)) (fun _ _ => rfl) (fun _ _ => rfl) s t)
  simp only [Prod.mk.injEq] at hrest
  obtain ⟨hregs, hcfg, hpts, houts, hpending⟩ := hrest
  refine ⟨fun k hk _ => (settle_reg _ k hk).trans (State.reg_congr hregs k), fun y hy => ?_, (settle_cfg _).trans hcfg,
    ⟨(settle_pts _).trans hpts, (settle_outs _).trans houts⟩, (settle_pending _).trans hpending⟩
  have hsettled : (s.ckptDone t).settle.byte y = (s.ckptDone t).byte y := by rw [State.byte, settle_mem, State.byte]
  have hcopied : (s.ckptDone t).byte y = (s.copyKept t).byte y :=
    ckptDone_keeps h (·.byte y) (fun _ _ _ => rfl) (fun _ _ => rfl) fun _ _ => rfl
  rw [hsettled, hcopied, State.copyKept, if_pos hp, storeCkpt_byte _ _ _ (by rw [copyEnded_place]; exact hy)]
  rfl

theorem checkpointCopy_completes : Completes (exec (.checkpointCopyDone t) s) fun u =>
    (u.red.copies.any (·.task == t)) = false ∧
      (ckptPersist (s.ckptRec t) = true → SMap.get [] t.val u.nv.ckpts = s.ckptWords t) ∧
      (s.partnerStandby = true → Sends s u .link 14 (wd (s.red.fwdTx + 1) :: s.ckptWords t)) ∧
      (if ckptPersist (s.ckptRec t) then KeptOff s u [] (s.ckptPlace t) (4 * (s.ckptWords t).length) else Kept s u []) := by
  refine ⟨(s.ckptDone t).settle, rfl, ?_⟩
  beta_reduce
  rw [settle_red, settle_nv, Sends, settle_sent]
  refine ⟨ckptDone_ended h, ckptDone_stored h, ckptDone_told h, ?_⟩
  split
  · next hp => exact ckptDone_keptOff h hp
  · next hp => exact (ckptDone_kept h (Bool.eq_false_iff.mpr hp)).settle

end

theorem checkpointCopy_none_completes {s : State} {t : Fin 512} (h : s.red.copies.any (·.task == t) = false) :
    Completes (exec (.checkpointCopyDone t) s) fun u => u.red = s.red ∧ u.nv = s.nv ∧ u.sent = s.sent := by
  have hsame : s.ckptDone t = s := by rw [State.ckptDone, h]; rfl
  refine ⟨(s.ckptDone t).settle, rfl, ?_⟩
  rw [hsame]
  exact ⟨settle_red s, settle_nv s, settle_sent s⟩

/-- Settles O27, a lemma for each of its clauses. Outside STANDBY an item passes unheard but for a trip; in STANDBY it is
heard, and then does its own work or overflows the queue. -/
theorem itemsInStep : Obligations.ItemsInStep := by
  intro s seq
  refine ⟨fun hm hover hcross k ws lane t n lo hi => ⟨?_, ?_, ?_, ?_⟩,
    fun hm => ⟨fun ws => checkpointItem_completes hm seq, ?_, ?_, ?_⟩, lag_idle_completes,
    fun hl => forwardAck_completes hl seq, fun t => checkpointCopy_completes, fun t => checkpointCopy_none_completes⟩
  · exact fun hjoin hkind => notTaken_completes rfl
      (receiveItem_elsewhere hm hover hcross hjoin (fun htrip => hkind htrip.1) seq.toNat ws)
  · exact fun halone hjoin => notTaken_completes rfl
      (receiveItem_elsewhere hm hover hcross hjoin (fun ⟨_, hw, hp⟩ => by simp [hw, hp] at halone) seq.toNat ws)
  · exact fun hw hp i st hi hst hon hws => trip_completes hw hp seq hi hst hon hws
  · exact notTaken_completes rfl
      (receiveItem_elsewhere hm hover hcross (kind := fwMarker)
      (.inr (by decide)) (fun htrip => absurd htrip.1 (by decide)) seq.toNat _)
  · exact fun k ws => overflow_completes hm seq k
  · exact fun lane t n lo hi => marker_completes hm seq lane t n lo hi
  · exact fun i r hq _ => lag_completes hm hq

end Sys2Proof.Machine
